-- ==== Sys2Proof/Word.lean ====
section
/-!
DEFINITION. The plain words of the model: bytes, little-endian byte strings, serial arithmetic (R556), and the sparse
table in one canonical form in which every per-unit store, parameter store and memory of the block is held.
-/
namespace Sys2Proof

/-- An 8-bit byte. -/
abbrev Byte := BitVec 8

/-- A sparse table from numbers to values: keys strictly rising, and no entry equal to the value that an unlisted key
reads as (`default`). -/
abbrev Tab (α : Type) := List (Nat × α)

/-- The value under a key; an unlisted key reads as `default`. -/
def Tab.get {α : Type} [Inhabited α] : Tab α → Nat → α
  | [], _ => default
  | (k, v) :: t, a => if k = a then v else Tab.get t a

/-- Insert or replace, without looking at the default. -/
def Tab.insert {α : Type} : Tab α → Nat → α → Tab α
  | [], a, x => [(a, x)]
  | (k, v) :: t, a, x =>
    if a < k then (a, x) :: (k, v) :: t
    else if a = k then (a, x) :: t
    else (k, v) :: Tab.insert t a x

/-- Remove a key. -/
def Tab.erase {α : Type} (t : Tab α) (a : Nat) : Tab α := t.filter fun e => e.1 != a

/-- Write a value under a key; writing the default removes the entry, so equal tables are equal lists. -/
def Tab.put {α : Type} [Inhabited α] [DecidableEq α] (t : Tab α) (a : Nat) (x : α) : Tab α :=
  if x = default then Tab.erase t a else Tab.insert t a x

/-- Change the value under a key. -/
def Tab.upd {α : Type} [Inhabited α] [DecidableEq α] (t : Tab α) (a : Nat) (f : α → α) : Tab α :=
  Tab.put t a (f (Tab.get t a))

/-- Change every listed value. -/
def Tab.mapV {α : Type} [Inhabited α] [DecidableEq α] (f : α → α) (t : Tab α) : Tab α :=
  (t.map fun e => (e.1, f e.2)).filter fun e => e.2 != default

/-- Remove every key of the half-open range. -/
def Tab.clearRange {α : Type} (t : Tab α) (lo hi : Nat) : Tab α := t.filter fun e => !(lo ≤ e.1 && e.1 < hi)

/-- The keys from `b` on are all strictly rising. -/
def Tab.rising {α : Type} : Nat → Tab α → Bool
  | _, [] => true
  | b, (k, _) :: t => decide (b ≤ k) && Tab.rising (k + 1) t

/-- The canonical form. -/
def Tab.wf {α : Type} [Inhabited α] [DecidableEq α] (t : Tab α) : Bool :=
  Tab.rising 0 t && t.all fun e => e.2 != default

/-- The low `k` bytes of a number, least significant first (R9). -/
def le : Nat → Nat → List Byte
  | 0, _ => []
  | k + 1, v => BitVec.ofNat 8 v :: le k (v / 256)

/-- The number a little-endian byte string holds (R9). -/
def leNat : List Byte → Nat
  | [] => 0
  | b :: t => b.toNat + 256 * leNat t

/-- The `k` bytes of a string from offset `o`; bytes past its end read 0. -/
def bytesAt (l : List Byte) (o k : Nat) : List Byte :=
  let t := (l.drop o).take k
  t ++ List.replicate (k - t.length) 0

/-- The little-endian number in bytes `o` to `o + k - 1`. -/
def fieldAt (l : List Byte) (o k : Nat) : Nat := leNat (bytesAt l o k)

/-- A signed value in two's complement of `w` bits (R69). -/
def twos (w : Nat) (v : Int) : Nat := (v % (2 ^ w : Nat)).toNat

/-- The signed number a `w`-bit pattern stands for. -/
def signed (w : Nat) (v : Nat) : Int := if v % 2 ^ w < 2 ^ (w - 1) then (v % 2 ^ w : Nat) else (v % 2 ^ w : Nat) - (2 ^ w : Nat)

/-- Bit `n` of a number. -/
def bit (v n : Nat) : Bool := v.testBit n

/-- Bits `[hi:lo]` of a number (R10). -/
def bits (v hi lo : Nat) : Nat := v / 2 ^ lo % 2 ^ (hi + 1 - lo)

/-- Set or clear bit `n` of a number. -/
def setBit (v n : Nat) (b : Bool) : Nat := if b then v ||| 2 ^ n else if v.testBit n then v - 2 ^ n else v

/-- 1 for true, 0 for false. -/
def b2n (b : Bool) : Nat := if b then 1 else 0

/-- `a` is greater (newer) than `b` in `n`-bit serial arithmetic (R556). -/
def serialNewer (n a b : Nat) : Bool :=
  let d := (a + 2 ^ n - b % 2 ^ n) % 2 ^ n
  decide (0 < d) && decide (d < 2 ^ (n - 1))

/-- Clamp to the signed `n`-bit range (notation, `sat(x, n)`). -/
def sat (x : Int) (n : Nat) : Int :=
  let top : Int := 2 ^ (n - 1)
  if x > top - 1 then top - 1 else if x < -top then -top else x

/-- A saturating count of `w` bits. -/
def satAdd (w a b : Nat) : Nat := min (a + b) (2 ^ w - 1)

/-- The numbers `0` to `n - 1` that satisfy a test, rising. -/
def pick (n : Nat) (p : Nat → Bool) : List Nat := (List.range n).filter p

/-- The lowest number below `n` that satisfies a test. -/
def lowest (n : Nat) (p : Nat → Bool) : Option Nat := (List.range n).find? p

end Sys2Proof
end

