-- ==== Sys2Proof/Machine/Events.lean ====
section
/-!
DEFINITION. The event codes of the block: code, class and group of each row of the spec's event tables.
-/
namespace Sys2Proof.Machine

/-- The event classes of Table 2-20. -/
inductive EvClass where
  | fatal | alarm | warn | info | trace
deriving DecidableEq, Repr, Inhabited

/-- Class number (Table 2-20). -/
def EvClass.num : EvClass → Nat
  | .fatal => 0 | .alarm => 1 | .warn => 2 | .info => 3 | .trace => 4

/-- One event: code, class and group. -/
structure EvDef where
  code : Nat
  cls : EvClass
  group : Nat
deriving DecidableEq, Repr, Inhabited

/-- FIFO_LINK_RX_SLIP (Table 1-10). -/
def Ev.fifoLinkRxSlip : EvDef := ⟨0x0020, .warn, 0x05⟩
/-- FIFO_LINK_TX_UNDERRUN (Table 1-10). -/
def Ev.fifoLinkTxUnderrun : EvDef := ⟨0x0021, .warn, 0x05⟩
/-- FIFO_ACH_CDC_SLIP (Table 1-10). -/
def Ev.fifoAchCdcSlip : EvDef := ⟨0x0022, .warn, 0x06⟩
/-- FIFO_TONE_SLIP (Table 1-10). -/
def Ev.fifoToneSlip : EvDef := ⟨0x0023, .warn, 0x07⟩
/-- BEAM_EST_DROP (Table 1-10). -/
def Ev.beamEstDrop : EvDef := ⟨0x0705, .warn, 0x07⟩
/-- FIFO_PSDU_SLIP (Table 1-10). -/
def Ev.fifoPsduSlip : EvDef := ⟨0x0024, .warn, 0x08⟩
/-- FIFO_PON_DS_DROP (Table 1-10). -/
def Ev.fifoPonDsDrop : EvDef := ⟨0x0025, .warn, 0x0b⟩
/-- FIFO_PON_US_UNDERRUN (Table 1-10). -/
def Ev.fifoPonUsUnderrun : EvDef := ⟨0x0026, .warn, 0x0b⟩
/-- FIFO_ETH_RX_DROP (Table 1-10). -/
def Ev.fifoEthRxDrop : EvDef := ⟨0x0027, .warn, 0x12⟩
/-- FIFO_CVN_RX_DROP (Table 1-10). -/
def Ev.fifoCvnRxDrop : EvDef := ⟨0x0028, .warn, 0x14⟩
/-- PATTERN_BAD (Table 3-12). -/
def Ev.patternBad : EvDef := ⟨0x0301, .alarm, 0x03⟩
/-- PATTERN_NONE (Table 3-12). -/
def Ev.patternNone : EvDef := ⟨0x0302, .info, 0x03⟩
/-- PATTERN_FALLBACK (Table 3-12). -/
def Ev.patternFallback : EvDef := ⟨0x0303, .alarm, 0x03⟩
/-- PATTERN_SKIPPED (Table 3-12). -/
def Ev.patternSkipped : EvDef := ⟨0x0304, .warn, 0x03⟩
/-- LANE_UP (Table 4-9). -/
def Ev.laneUp : EvDef := ⟨0x0401, .info, 0x04⟩
/-- LANE_LOST (Table 4-9). -/
def Ev.laneLost : EvDef := ⟨0x0402, .warn, 0x04⟩
/-- LANE_TRAIN_FAULT (Table 4-9). -/
def Ev.laneTrainFault : EvDef := ⟨0x0403, .alarm, 0x04⟩
/-- LANE_POLARITY (Table 4-9). -/
def Ev.lanePolarity : EvDef := ⟨0x0404, .info, 0x04⟩
/-- LANE_SWAP (Table 4-9). -/
def Ev.laneSwap : EvDef := ⟨0x0405, .info, 0x04⟩
/-- LANE_WAKE_TIMEOUT (Table 4-9). -/
def Ev.laneWakeTimeout : EvDef := ⟨0x0406, .alarm, 0x04⟩
/-- LINK_SYNC (Table 5-12). -/
def Ev.linkSync : EvDef := ⟨0x0501, .info, 0x05⟩
/-- LINK_LOS (Table 5-12). -/
def Ev.linkLos : EvDef := ⟨0x0502, .alarm, 0x05⟩
/-- LINK_LOF (Table 5-12). -/
def Ev.linkLof : EvDef := ⟨0x0503, .alarm, 0x05⟩
/-- LINK_SD (Table 5-12). -/
def Ev.linkSd : EvDef := ⟨0x0504, .warn, 0x05⟩
/-- LINK_RDI (Table 5-12). -/
def Ev.linkRdi : EvDef := ⟨0x0505, .warn, 0x05⟩
/-- LINK_CC_FAULT (Table 5-12). -/
def Ev.linkCcFault : EvDef := ⟨0x0506, .alarm, 0x05⟩
/-- LINK_VERSION_FAULT (Table 5-12). -/
def Ev.linkVersionFault : EvDef := ⟨0x0507, .alarm, 0x05⟩
/-- LINK_REHUNT_CRC (Table 5-12). -/
def Ev.linkRehuntCrc : EvDef := ⟨0x0508, .warn, 0x05⟩
/-- LINK_STANDBY_SWITCH (Table 5-12). -/
def Ev.linkStandbySwitch : EvDef := ⟨0x0509, .info, 0x05⟩
/-- LINK_SLOT_ALARM (Table 5-12). -/
def Ev.linkSlotAlarm : EvDef := ⟨0x050A, .warn, 0x05⟩
/-- ACH_STATE (Table 6-11). -/
def Ev.achState : EvDef := ⟨0x0601, .info, 0x06⟩
/-- ACH_CAL_DONE (Table 6-11). -/
def Ev.achCalDone : EvDef := ⟨0x0602, .info, 0x06⟩
/-- ACH_CAL_FAIL (Table 6-11). -/
def Ev.achCalFail : EvDef := ⟨0x0603, .warn, 0x06⟩
/-- ACH_FEED_SHORT (Table 6-11). -/
def Ev.achFeedShort : EvDef := ⟨0x0604, .alarm, 0x06⟩
/-- ACH_FEED_OPEN (Table 6-11). -/
def Ev.achFeedOpen : EvDef := ⟨0x0605, .warn, 0x06⟩
/-- ACH_FEED_REVERSED (Table 6-11). -/
def Ev.achFeedReversed : EvDef := ⟨0x0606, .alarm, 0x06⟩
/-- ACH_FEED_LOCKOUT (Table 6-11). -/
def Ev.achFeedLockout : EvDef := ⟨0x0607, .alarm, 0x06⟩
/-- ACH_FEED_STATE (Table 6-11). -/
def Ev.achFeedState : EvDef := ⟨0x0608, .info, 0x06⟩
/-- ACH_HEAD_INCOMPAT (Table 6-11). -/
def Ev.achHeadIncompat : EvDef := ⟨0x0609, .alarm, 0x06⟩
/-- ACH_GAIN_FAULT (Table 6-11). -/
def Ev.achGainFault : EvDef := ⟨0x060A, .warn, 0x06⟩
/-- ACH_FAULT (Table 6-11). -/
def Ev.achFault : EvDef := ⟨0x060B, .alarm, 0x06⟩
/-- BEAM_SPEC_LOADED (Table 7-8). -/
def Ev.beamSpecLoaded : EvDef := ⟨0x0780, .trace, 0x07⟩
/-- BEAM_SPEC_COMMIT (Table 7-8). -/
def Ev.beamSpecCommit : EvDef := ⟨0x0781, .trace, 0x07⟩
/-- BEAM_SPEC_MISS (Table 7-8). -/
def Ev.beamSpecMiss : EvDef := ⟨0x0782, .trace, 0x07⟩
/-- BEAM_SPEC_DISCARD (Table 7-8). -/
def Ev.beamSpecDiscard : EvDef := ⟨0x0783, .trace, 0x07⟩
/-- BEAM_ASSAY_MISMATCH (Table 7-15). -/
def Ev.beamAssayMismatch : EvDef := ⟨0x0701, .alarm, 0x07⟩
/-- BEAM_UPDATE_LATE (Table 7-15). -/
def Ev.beamUpdateLate : EvDef := ⟨0x0702, .warn, 0x07⟩
/-- BEAM_SET_BAD (Table 7-15). -/
def Ev.beamSetBad : EvDef := ⟨0x0703, .warn, 0x07⟩
/-- BEAM_ANT_DROP (Table 7-15). -/
def Ev.beamAntDrop : EvDef := ⟨0x0704, .info, 0x07⟩
/-- BEAM_STALE_SET (Table 7-15). -/
def Ev.beamStaleSet : EvDef := ⟨0x0706, .warn, 0x07⟩
/-- WLAN_BEACON_LATE (Table 8-8). -/
def Ev.wlanBeaconLate : EvDef := ⟨0x0801, .warn, 0x08⟩
/-- WLAN_CHANNEL_SWITCHED (Table 8-8). -/
def Ev.wlanChannelSwitched : EvDef := ⟨0x0802, .info, 0x08⟩
/-- WLAN_CAL_DEFERRED (Table 8-8). -/
def Ev.wlanCalDeferred : EvDef := ⟨0x0803, .warn, 0x08⟩
/-- WLAN_CAPTURED (Table 8-8). -/
def Ev.wlanCaptured : EvDef := ⟨0x0804, .trace, 0x08⟩
/-- WLAN_COOP_MISS (Table 8-8). -/
def Ev.wlanCoopMiss : EvDef := ⟨0x0805, .trace, 0x08⟩
/-- STA_MIC_FAIL (Table 8-8). -/
def Ev.staMicFail : EvDef := ⟨0x0901, .warn, 0x09⟩
/-- STA_REPLAY (Table 8-8). -/
def Ev.staReplay : EvDef := ⟨0x0902, .warn, 0x09⟩
/-- STA_LINKS (Table 8-8). -/
def Ev.staLinks : EvDef := ⟨0x0903, .info, 0x09⟩
/-- LADLE_FAULT (Table 9-21). -/
def Ev.ladleFault : EvDef := ⟨0x0A01, .warn, 0x0a⟩
/-- LADLE_WATCHDOG (Table 9-21). -/
def Ev.ladleWatchdog : EvDef := ⟨0x0A02, .warn, 0x0a⟩
/-- LADLE_ENGINE_HELD (Table 9-21). -/
def Ev.ladleEngineHeld : EvDef := ⟨0x0A03, .alarm, 0x0a⟩
/-- LADLE_KERNEL_INSTALLED (Table 9-21). -/
def Ev.ladleKernelInstalled : EvDef := ⟨0x0A04, .info, 0x0a⟩
/-- TASK_QUEUE_FULL (Table 9-21). -/
def Ev.taskQueueFull : EvDef := ⟨0x0E01, .warn, 0x0e⟩
/-- TASK_JOB_DROPPED (Table 9-21). -/
def Ev.taskJobDropped : EvDef := ⟨0x0E02, .warn, 0x0e⟩
/-- PON_STATE (Table 10-13). -/
def Ev.ponState : EvDef := ⟨0x0B01, .info, 0x0b⟩
/-- PON_LOS (Table 10-13). -/
def Ev.ponLos : EvDef := ⟨0x0B02, .alarm, 0x0b⟩
/-- PON_LODS (Table 10-13). -/
def Ev.ponLods : EvDef := ⟨0x0B03, .alarm, 0x0b⟩
/-- PON_SD (Table 10-13). -/
def Ev.ponSd : EvDef := ⟨0x0B04, .warn, 0x0b⟩
/-- PON_SF (Table 10-13). -/
def Ev.ponSf : EvDef := ⟨0x0B05, .alarm, 0x0b⟩
/-- PON_LOK (Table 10-13). -/
def Ev.ponLok : EvDef := ⟨0x0B06, .warn, 0x0b⟩
/-- PON_TF (Table 10-13). -/
def Ev.ponTf : EvDef := ⟨0x0B07, .alarm, 0x0b⟩
/-- PON_ROGUE (Table 10-13). -/
def Ev.ponRogue : EvDef := ⟨0x0B08, .alarm, 0x0b⟩
/-- PON_DISABLED (Table 10-13). -/
def Ev.ponDisabled : EvDef := ⟨0x0B09, .alarm, 0x0b⟩
/-- PON_DDM_ALARM (Table 10-13). -/
def Ev.ponDdmAlarm : EvDef := ⟨0x0B0A, .alarm, 0x0b⟩
/-- PON_DDM_WARN (Table 10-13). -/
def Ev.ponDdmWarn : EvDef := ⟨0x0B0B, .warn, 0x0b⟩
/-- PON_DDM_FAIL (Table 10-13). -/
def Ev.ponDdmFail : EvDef := ⟨0x0B0C, .warn, 0x0b⟩
/-- PON_BWMAP (Table 10-13). -/
def Ev.ponBwmap : EvDef := ⟨0x0B0D, .warn, 0x0b⟩
/-- PON_TOD_SET (Table 10-13). -/
def Ev.ponTodSet : EvDef := ⟨0x0B0E, .info, 0x0b⟩
/-- PON_TOD_MISSED (Table 10-13). -/
def Ev.ponTodMissed : EvDef := ⟨0x0B0F, .warn, 0x0b⟩
/-- PON_ALLOC_FULL (Table 10-13). -/
def Ev.ponAllocFull : EvDef := ⟨0x0B10, .warn, 0x0b⟩
/-- PON_MODE (Table 10-13). -/
def Ev.ponMode : EvDef := ⟨0x0B11, .info, 0x0b⟩
/-- PKT_LEN_CONFLICT (Table 11-15). -/
def Ev.pktLenConflict : EvDef := ⟨0x0C01, .warn, 0x0c⟩
/-- PKT_TRUNC (Table 11-15). -/
def Ev.pktTrunc : EvDef := ⟨0x0C02, .info, 0x0c⟩
/-- PKT_EXC_HOST_DROP (Table 11-15). -/
def Ev.pktExcHostDrop : EvDef := ⟨0x0C03, .warn, 0x0c⟩
/-- PKT_NAPT_FULL (Table 11-15). -/
def Ev.pktNaptFull : EvDef := ⟨0x0C04, .warn, 0x0c⟩
/-- PKT_FLOW_FULL (Table 11-15). -/
def Ev.pktFlowFull : EvDef := ⟨0x0C05, .warn, 0x0c⟩
/-- PKT_WB_EMPTY (Table 11-15). -/
def Ev.pktWbEmpty : EvDef := ⟨0x0C06, .warn, 0x0c⟩
/-- PKT_DROVER_HELD (Table 11-15). -/
def Ev.pktDroverHeld : EvDef := ⟨0x0C07, .alarm, 0x0c⟩
/-- POOL_BAD_FREE (Table 11-15). -/
def Ev.poolBadFree : EvDef := ⟨0x0D01, .warn, 0x0d⟩
/-- POOL_BAD_PTR (Table 11-15). -/
def Ev.poolBadPtr : EvDef := ⟨0x0D02, .warn, 0x0d⟩
/-- POOL_EMPTY (Table 11-15). -/
def Ev.poolEmpty : EvDef := ⟨0x0D03, .warn, 0x0d⟩
/-- POOL_ECC (Table 11-15). -/
def Ev.poolEcc : EvDef := ⟨0x0D04, .alarm, 0x0d⟩
/-- TOLL_GUARANTEE_BROKEN (Table 12-9). -/
def Ev.tollGuaranteeBroken : EvDef := ⟨0x0F01, .warn, 0x0f⟩
/-- TOLL_GATE_SWITCHED (Table 12-9). -/
def Ev.tollGateSwitched : EvDef := ⟨0x0F02, .info, 0x0f⟩
/-- DMA_ERROR (Table 13-14). -/
def Ev.dmaError : EvDef := ⟨0x1001, .warn, 0x10⟩
/-- DMA_ABORTED (Table 13-14). -/
def Ev.dmaAborted : EvDef := ⟨0x1002, .warn, 0x10⟩
/-- DMA_RING_STOPPED (Table 13-14). -/
def Ev.dmaRingStopped : EvDef := ⟨0x1003, .info, 0x10⟩
/-- STORE_DRIVE_STATE (Table 13-14). -/
def Ev.storeDriveState : EvDef := ⟨0x1101, .info, 0x11⟩
/-- STORE_DRIVE_FAILED (Table 13-14). -/
def Ev.storeDriveFailed : EvDef := ⟨0x1102, .alarm, 0x11⟩
/-- STORE_TIMEOUT (Table 13-14). -/
def Ev.storeTimeout : EvDef := ⟨0x1103, .warn, 0x11⟩
/-- STORE_INDEX_REBUILT (Table 13-14). -/
def Ev.storeIndexRebuilt : EvDef := ⟨0x1104, .info, 0x11⟩
/-- STORE_FULL (Table 13-14). -/
def Ev.storeFull : EvDef := ⟨0x1105, .warn, 0x11⟩
/-- ETH_LINK (Table 14-11). -/
def Ev.ethLink : EvDef := ⟨0x1201, .info, 0x12⟩
/-- ETH_LPI_RESOLVED (Table 14-11). -/
def Ev.ethLpiResolved : EvDef := ⟨0x1202, .info, 0x12⟩
/-- ETH_PTP_TS_LOST (Table 14-11). -/
def Ev.ethPtpTsLost : EvDef := ⟨0x1203, .warn, 0x12⟩
/-- TIME_STEPPED (Table 14-11). -/
def Ev.timeStepped : EvDef := ⟨0x1301, .info, 0x13⟩
/-- TIME_RESET (Table 14-11). -/
def Ev.timeReset : EvDef := ⟨0x1302, .info, 0x13⟩
/-- TIME_PPS (Table 14-11). -/
def Ev.timePps : EvDef := ⟨0x1303, .warn, 0x13⟩
/-- CVN_STATE (Table 15-13). -/
def Ev.cvnState : EvDef := ⟨0x1401, .info, 0x14⟩
/-- CVN_ID_CONFLICT (Table 15-13). -/
def Ev.cvnIdConflict : EvDef := ⟨0x1402, .alarm, 0x14⟩
/-- CVN_PARENT (Table 15-13). -/
def Ev.cvnParent : EvDef := ⟨0x1403, .info, 0x14⟩
/-- CVN_TIME_FAR (Table 15-13). -/
def Ev.cvnTimeFar : EvDef := ⟨0x1404, .warn, 0x14⟩
/-- CVN_HOLDOVER (Table 15-13). -/
def Ev.cvnHoldover : EvDef := ⟨0x1405, .warn, 0x14⟩
/-- CVN_FIBRE_ALARM (Table 15-13). -/
def Ev.cvnFibreAlarm : EvDef := ⟨0x1406, .alarm, 0x14⟩
/-- CVN_PLAN (Table 15-13). -/
def Ev.cvnPlan : EvDef := ⟨0x1407, .info, 0x14⟩
/-- CVN_CHANNEL (Table 15-13). -/
def Ev.cvnChannel : EvDef := ⟨0x1408, .info, 0x14⟩
/-- CVN_MIC_FAIL (Table 15-13). -/
def Ev.cvnMicFail : EvDef := ⟨0x1409, .warn, 0x14⟩
/-- CVN_DUTY (Table 15-13). -/
def Ev.cvnDuty : EvDef := ⟨0x140A, .warn, 0x14⟩
/-- CVN_CAPTURED (Table 15-13). -/
def Ev.cvnCaptured : EvDef := ⟨0x140B, .trace, 0x14⟩
/-- SEC_ROOT_REVOKED (Table 16-10). -/
def Ev.secRootRevoked : EvDef := ⟨0x1501, .info, 0x15⟩
/-- SEC_SVN_ADVANCED (Table 16-10). -/
def Ev.secSvnAdvanced : EvDef := ⟨0x1502, .info, 0x15⟩
/-- SEC_SIG_FAIL (Table 16-10). -/
def Ev.secSigFail : EvDef := ⟨0x1503, .warn, 0x15⟩
/-- SEC_KEY_RESTORE (Table 16-10). -/
def Ev.secKeyRestore : EvDef := ⟨0x1504, .alarm, 0x15⟩
/-- SEC_RNG_FAIL (Table 16-10). -/
def Ev.secRngFail : EvDef := ⟨0x1505, .fatal, 0x15⟩
/-- SEC_DEBUG_UNLOCKED (Table 16-10). -/
def Ev.secDebugUnlocked : EvDef := ⟨0x1506, .alarm, 0x15⟩
/-- SEC_MACSEC_PN (Table 16-10). -/
def Ev.secMacsecPn : EvDef := ⟨0x1507, .warn, 0x15⟩
/-- MGMT_THERMAL (Table 17-15). -/
def Ev.mgmtThermal : EvDef := ⟨0x1601, .warn, 0x16⟩
/-- MGMT_POWER_CAP (Table 17-15). -/
def Ev.mgmtPowerCap : EvDef := ⟨0x1602, .warn, 0x16⟩
/-- MGMT_RAIL (Table 17-15). -/
def Ev.mgmtRail : EvDef := ⟨0x1603, .alarm, 0x16⟩
/-- MGMT_LOCKSTEP (Table 17-15). -/
def Ev.mgmtLockstep : EvDef := ⟨0x1604, .fatal, 0x16⟩
/-- MGMT_WATCHDOG (Table 17-15). -/
def Ev.mgmtWatchdog : EvDef := ⟨0x1605, .fatal, 0x16⟩
/-- MGMT_POWER_LOSS (Table 17-15). -/
def Ev.mgmtPowerLoss : EvDef := ⟨0x1606, .fatal, 0x16⟩
/-- MGMT_FW_STAGED (Table 17-15). -/
def Ev.mgmtFwStaged : EvDef := ⟨0x1607, .info, 0x16⟩
/-- MGMT_FW_CONFIRMED (Table 17-15). -/
def Ev.mgmtFwConfirmed : EvDef := ⟨0x1608, .info, 0x16⟩
/-- MGMT_FW_ROLLBACK (Table 17-15). -/
def Ev.mgmtFwRollback : EvDef := ⟨0x1609, .alarm, 0x16⟩
/-- PWR_STATE (Table 17-15). -/
def Ev.pwrState : EvDef := ⟨0x1701, .info, 0x17⟩
/-- PWR_REFUSED (Table 17-15). -/
def Ev.pwrRefused : EvDef := ⟨0x1702, .warn, 0x17⟩
/-- PWR_WAKE_STAGE_FAIL (Table 17-15). -/
def Ev.pwrWakeStageFail : EvDef := ⟨0x1703, .warn, 0x17⟩
/-- PWR_WAKE_FAIL (Table 17-15). -/
def Ev.pwrWakeFail : EvDef := ⟨0x1704, .alarm, 0x17⟩
/-- FAULT_ESCALATE (Table 17-15). -/
def Ev.faultEscalate : EvDef := ⟨0x1801, .alarm, 0x18⟩
/-- FAULT_HELD (Table 17-15). -/
def Ev.faultHeld : EvDef := ⟨0x1802, .fatal, 0x18⟩
/-- DEV_GPIO (R535). -/
def Ev.devGpio : EvDef := ⟨0x0101, .info, 0x01⟩

end Sys2Proof.Machine
end

