-- ==== Sys2Proof/Config.lean ====
section
/-!
DEFINITION. What a device fixes or the spec leaves open: OTP contents, and the free values and functions. Each is an
opaque constant without a body, so nothing can be proved that depends on a particular value of it.
-/
namespace Sys2Proof

/-- Fresh free value number `n` (the model's `free` counter picks the number).
Log entries 4 (DESIGN CHOICE), 56 (DESIGN CHOICE). -/
opaque Config.freeNat : Nat → Nat

/-- Grade held in OTP (R29); its lowest bit counts. Log entry 5 (DESIGN CHOICE). -/
opaque Config.otpGrade : Nat

/-- Die identifier held in OTP (R31). Log entry 5 (DESIGN CHOICE). -/
opaque Config.otpDieId : Nat

/-- OTP bit behind CFG.pattern_hmac_required (R97). Log entry 5 (DESIGN CHOICE). -/
opaque Config.otpPatternHmac : Nat

/-- OTP base MAC address (Tables 8-6 and 14-9). Log entry 5 (DESIGN CHOICE). -/
opaque Config.otpBaseAddress : Nat

/-- PON vendor and serial in OTP (Table 10-11). Log entry 5 (DESIGN CHOICE). -/
opaque Config.otpSnVendor : Nat
/-- Log entry 5 (DESIGN CHOICE). -/
opaque Config.otpSnSerial : Nat

/-- Lifecycle code less one (Table 16-9). Log entry 5 (DESIGN CHOICE). -/
opaque Config.otpLifecycle : Nat

/-- HMAC-SHA-256 of a message under a key (R90). Log entry 84 (DESIGN CHOICE). -/
opaque Config.hmacSha256 : List Byte → List Byte → List Byte

/-- SHA-384 of a message (R466). Log entry 84 (DESIGN CHOICE). -/
opaque Config.sha384 : List Byte → Nat

/-- Hashes in the Finvar roots F0–F3; 0 is unprogrammed (R465). Log entry 84 (DESIGN CHOICE). -/
opaque Config.finvarRoot : Nat → Nat

/-- ECDSA P-384 verification: public key, digest, signature (R467). Log entry 84 (DESIGN CHOICE). -/
opaque Config.ecdsaOk : List Byte → Nat → List Byte → Bool

/-- RFC 3394 unwrap of wrapped key material, `none` where its check value fails (R474). Log entry 84 (DESIGN CHOICE). -/
opaque Config.keyUnwrap : List Byte → List Byte → Option (List Byte)

/-- AES-GCM encryption: key, initialisation vector, additional data and plain text give cipher text and tag (R477).
Log entry 84 (DESIGN CHOICE). -/
opaque Config.gcmSeal : List Byte → List Byte → List Byte → List Byte → List Byte

/-- AES-GCM decryption of cipher text and tag, `none` where the tag fails. Log entry 84 (DESIGN CHOICE). -/
opaque Config.gcmOpen : List Byte → List Byte → List Byte → List Byte → Option (List Byte)

/-- AES-CMAC of a message under a key. Log entry 84 (DESIGN CHOICE). -/
opaque Config.aesCmac : List Byte → List Byte → Nat

/-- AES-CTR of an XGEM payload (R313): key, superframe counter and port give the key stream's effect on the bytes.
Log entry 84 (DESIGN CHOICE). -/
opaque Config.xgemCtr : List Byte → Nat → Nat → List Byte → List Byte

/-- Keys that the PON standards derive (R312): master session key (empty for the default), vendor, serial, registration ID,
and which: 0 PLOAM_IK, 1 OMCI_IK, 2 KEK. Log entry 84 (DESIGN CHOICE). -/
opaque Config.ponDerive : List Byte → Nat → Nat → List Byte → Nat → List Byte

/-- A key encrypted, and decrypted, under KEK as the PON standards do (R313, R314). Log entry 84 (DESIGN CHOICE). -/
opaque Config.kekSeal : List Byte → List Byte → List Byte
/-- Log entry 84 (DESIGN CHOICE). -/
opaque Config.kekOpen : List Byte → List Byte → List Byte

/-- Receive power of a module from its calibration coefficients and raw reading (R323). Log entry 84 (DESIGN CHOICE). -/
opaque Config.ddmRxPower : List Nat → Nat → Nat

/-- Options of the device and its board: bit 0 50G-PON, 1 XGS-PON, 3 sub-GHz transceiver, 5 speculative precoding, 6 Irwick
link version 2, 7 MACsec (Table 2-17). Log entry 5 (DESIGN CHOICE). -/
opaque Config.options : Nat

/-- The two flow-bucket hash functions (R352), on key bytes. Log entry 84 (DESIGN CHOICE). -/
opaque Config.flowHash : Nat → List Byte → Nat

/-- Receive latency of a channel front-end in ns, by sample-rate code (R150). Log entry 84 (DESIGN CHOICE). -/
opaque Config.rxLatencyNs : Nat → Nat

/-- FW_VERSION of a firmware image, whose format the spec does not give. Log entry 84 (DESIGN CHOICE). -/
opaque Config.fwVersion : List Byte → Nat

/-- Occupied tones of an 802.11be channel, by bandwidth code and puncturing (R184). Log entry 84 (DESIGN CHOICE). -/
opaque Config.occupiedTones : Nat → Nat → Nat

/-- Signed FFT index of the first tone of a group, by radio, bandwidth code, puncturing and group (R183).
Log entry 84 (DESIGN CHOICE). -/
opaque Config.firstTone : Nat → Nat → Nat → Nat → Int

/-- Exponent and mantissas of a channel report, 257 bytes, for the 64 complex values (R208). Log entry 84 (DESIGN CHOICE). -/
opaque Config.channelReport : List (Int × Int) → List Byte

/-- Byte of a memory whose contents were lost, by generation and address (Table 9-15). Log entry 84 (DESIGN CHOICE). -/
opaque Config.lostByte : Nat → Nat → Byte

/-- Byte address of a packet pool's base, which firmware places (R330). Log entry 84 (DESIGN CHOICE). -/
opaque Config.poolBase : Nat → Nat

end Sys2Proof
end

