-- ==== Sys2Proof/Machine/Params.lean ====
section
/-!
DEFINITION. The parameter catalogue: one definition for each row of the spec's parameter tables (R66, R97 and the tables
of the later chapters): identifier (R68), instance count, access code (R12), master-pattern value (R13) and range (R14).
-/
namespace Sys2Proof.Machine

/-- The parameter access codes of Table 0-4. -/
inductive Access where
  | ro | rw | rwi | rc
deriving DecidableEq, Repr, Inhabited

/-- One row of a parameter table. -/
structure ParamDef where
  /-- parameter ID (R68) -/
  id : Nat
  /-- one past the last instance -/
  n : Nat
  /-- first instance -/
  first : Nat := 0
  access : Access
  /-- master-pattern value of an instance (R13) -/
  deflt : Nat → Int := fun _ => 0
  /-- accepted values; a zero outside them is accepted in staging and rejected at commit (R14, R75) -/
  ranges : List (Int × Int)
  signed : Bool := false
  /-- width of a counter -/
  width : Nat := 32
  /-- further condition of the Range column -/
  extra : Int → Bool := fun _ => true

/-- Group of an item (R68). -/
def ParamDef.group (p : ParamDef) : Nat := p.id / 2 ^ 24

/-- An instance the item has. -/
def ParamDef.hasInst (p : ParamDef) (i : Nat) : Bool := decide (p.first ≤ i) && decide (i < p.n)

/-- A value inside the Range column. -/
def ParamDef.inRange (p : ParamDef) (v : Int) : Bool :=
  (p.ranges.any fun r => decide (r.1 ≤ v) && decide (v ≤ r.2)) && p.extra v

/-- The value's carriage in 64 bits (R69). -/
def ParamDef.encode (v : Int) : Nat := twos 64 v

/-- The value an 8-byte field stands for under the item's extension (R69). -/
def ParamDef.decode (p : ParamDef) (w : Nat) : Int := if p.signed then Sys2Proof.signed 64 w else (w : Int)

/-- The field format of WLAN.gtk_slot, igtk_slot and bigtk_slot (Table 8-6). -/
def gtkField (v : Int) : Bool :=
  let n := v.toNat
  let okSlot := fun x : Nat => decide (x < 4096) || decide (x = 0xFFFF)
  okSlot (bits n 15 0) && okSlot (bits n 31 16)

/-- The field format of LANE.inject (Table 4-6): reserved bits written 0, start and burst inside a codeword. -/
def injectField (v : Int) : Bool :=
  let n := v.toNat
  decide (bits n 61 58 = 0) && decide (bits n 47 42 = 0) && decide (bits n 57 48 ≤ 543) &&
    (decide (bits n 63 62 ≠ 2) || decide (bits n 57 48 + bits n 41 32 ≤ 544)) &&
    (decide (bits n 63 62 ≠ 1) || decide (bits n 31 0 = 0) || decide (64 ≤ bits n 31 0))

/-- DEV.silicon_rev (R31, Table 1-9). -/
def Prm.devSiliconRev : ParamDef where
  id := 0x01001000
  n := 1
  access := .ro
  deflt := fun _ => 176
  ranges := [(176, 176)]

/-- DEV.grade (R31, Table 1-9). -/
def Prm.devGrade : ParamDef where
  id := 0x01002000
  n := 1
  access := .ro
  deflt := fun _ => Config.otpGrade % 2
  ranges := [(0, 1)]

/-- DEV.die_id (R31, Table 1-9). -/
def Prm.devDieId : ParamDef where
  id := 0x01003000
  n := 1
  access := .ro
  deflt := fun _ => Config.otpDieId % 2 ^ 64
  ranges := [(0, 18446744073709551615)]

/-- DEV.ddr_bytes (R31, Table 1-9). -/
def Prm.devDdrBytes : ParamDef where
  id := 0x01004000
  n := 1
  access := .ro
  ranges := [(8589934592, 34359738368)]

/-- DEV.ddr_rate (R31, Table 1-9). -/
def Prm.devDdrRate : ParamDef where
  id := 0x01005000
  n := 1
  access := .ro
  ranges := [(6400, 10667)]

/-- HOST.mbx_version (R66, Table 2-22). -/
def Prm.hostMbxVersion : ParamDef where
  id := 0x02001000
  n := 1
  access := .ro
  ranges := [(0, 0), (512, 515), (768, 772)]

/-- HOST.epoch (R66, Table 2-22). -/
def Prm.hostEpoch : ParamDef where
  id := 0x02002000
  n := 1
  access := .ro
  deflt := fun _ => 1
  ranges := [(1, 4294967295)]

/-- HOST.evt_deliver_mask (R66, Table 2-22). -/
def Prm.hostEvtDeliverMask : ParamDef where
  id := 0x02003000
  n := 1
  access := .rwi
  deflt := fun _ => 15
  ranges := [(1, 31)]

/-- HOST.evt_batch_us (R66, Table 2-22). -/
def Prm.hostEvtBatchUs : ParamDef where
  id := 0x02004000
  n := 1
  access := .rw
  deflt := fun _ => 500
  ranges := [(0, 10000), (0, 0)]

/-- HOST.evt_lost (R66, Table 2-22). -/
def Prm.hostEvtLost : ParamDef where
  id := 0x02005000
  n := 5
  access := .rc
  ranges := [(0, 4294967295)]

/-- HOST.evt_coalesced (R66, Table 2-22). -/
def Prm.hostEvtCoalesced : ParamDef where
  id := 0x02006000
  n := 5
  access := .rc
  ranges := [(0, 4294967295)]

/-- HOST.last_status (R66, Table 2-22). -/
def Prm.hostLastStatus : ParamDef where
  id := 0x02007000
  n := 8
  access := .ro
  ranges := [(0, 11)]

/-- HOST.proto_err (R66, Table 2-22). -/
def Prm.hostProtoErr : ParamDef where
  id := 0x02008000
  n := 8
  access := .rc
  ranges := [(0, 4294967295)]

/-- HOST.ring_db_err (R66, Table 2-22). -/
def Prm.hostRingDbErr : ParamDef where
  id := 0x02009000
  n := 32
  access := .rc
  ranges := [(0, 4294967295)]

/-- HOST.link_speed (R66, Table 2-22). -/
def Prm.hostLinkSpeed : ParamDef where
  id := 0x0200A000
  n := 1
  access := .ro
  ranges := [(0, 0), (25, 25), (50, 50), (80, 80), (160, 160), (320, 320)]

/-- HOST.link_width (R66, Table 2-22). -/
def Prm.hostLinkWidth : ParamDef where
  id := 0x0200B000
  n := 1
  access := .ro
  ranges := [(0, 0), (1, 1), (2, 2), (4, 4)]

/-- HOST.max_pending (R66, Table 2-22). -/
def Prm.hostMaxPending : ParamDef where
  id := 0x0200C000
  n := 1
  access := .ro
  deflt := fun _ => 64
  ranges := [(64, 64)]

/-- CFG.staging_used (R97, Table 3-11). -/
def Prm.cfgStagingUsed : ParamDef where
  id := 0x03001000
  n := 1
  access := .ro
  ranges := [(0, 4096)]

/-- CFG.staging_limit (R97, Table 3-11). -/
def Prm.cfgStagingLimit : ParamDef where
  id := 0x03002000
  n := 1
  access := .ro
  deflt := fun _ => 4096
  ranges := [(4096, 4096)]

/-- CFG.pattern_seq (R97, Table 3-11). -/
def Prm.cfgPatternSeq : ParamDef where
  id := 0x03003000
  n := 1
  access := .ro
  ranges := [(0, 4294967294), (0, 0)]

/-- CFG.pattern_hmac_required (R97, Table 3-11). -/
def Prm.cfgPatternHmacRequired : ParamDef where
  id := 0x03004000
  n := 1
  access := .ro
  deflt := fun _ => Config.otpPatternHmac % 2
  ranges := [(0, 0), (1, 1)]

/-- CFG.pattern_max_bytes (R97, Table 3-11). -/
def Prm.cfgPatternMaxBytes : ParamDef where
  id := 0x03005000
  n := 1
  access := .ro
  deflt := fun _ => 1048576
  ranges := [(1048576, 1048576)]

/-- CFG.commit_count (R97, Table 3-11). -/
def Prm.cfgCommitCount : ParamDef where
  id := 0x03006000
  n := 25
  first := 1
  access := .rc
  ranges := [(0, 4294967295)]

/-- CFG.conflict_count (R97, Table 3-11). -/
def Prm.cfgConflictCount : ParamDef where
  id := 0x03007000
  n := 25
  first := 1
  access := .rc
  ranges := [(0, 4294967295)]

/-- CFG.apply_max_us (R97, Table 3-11). -/
def Prm.cfgApplyMaxUs : ParamDef where
  id := 0x03008000
  n := 25
  first := 1
  access := .rc
  ranges := [(0, 4294967295)]

/-- LANE.role (R121, Table 4-8). -/
def Prm.laneRole : ParamDef where
  id := 0x04001000
  n := 20
  access := .ro
  deflt := fun i => if i < 16 then 0 else 1
  ranges := [(0, 0), (1, 1)]

/-- LANE.enable (R121, Table 4-8). -/
def Prm.laneEnable : ParamDef where
  id := 0x04002000
  n := 20
  access := .rw
  deflt := fun _ => 1
  ranges := [(0, 0), (1, 1), (0, 0)]

/-- LANE.rate (R121, Table 4-8). -/
def Prm.laneRate : ParamDef where
  id := 0x04003000
  n := 20
  access := .rw
  deflt := fun i => if i < 2 then 0 else if i < 8 then 1 else if i < 16 then 2 else 5
  ranges := [(0, 5)]

/-- LANE.fec_mode (R121, Table 4-8). -/
def Prm.laneFecMode : ParamDef where
  id := 0x04004000
  n := 20
  access := .rw
  deflt := fun _ => 3
  ranges := [(0, 3)]

/-- LANE.precode (R121, Table 4-8). -/
def Prm.lanePrecode : ParamDef where
  id := 0x04005000
  n := 20
  access := .rw
  deflt := fun i => if i < 16 then 3 else 0
  ranges := [(0, 3)]

/-- LANE.auto_polarity (R121, Table 4-8). -/
def Prm.laneAutoPolarity : ParamDef where
  id := 0x04006000
  n := 20
  access := .rw
  deflt := fun _ => 1
  ranges := [(0, 0), (1, 1), (0, 0)]

/-- LANE.auto_swap (R121, Table 4-8). -/
def Prm.laneAutoSwap : ParamDef where
  id := 0x04007000
  n := 1
  access := .rw
  deflt := fun _ => 1
  ranges := [(0, 0), (1, 1), (0, 0)]

/-- LANE.power (R121, Table 4-8). -/
def Prm.lanePower : ParamDef where
  id := 0x04008000
  n := 20
  access := .rw
  ranges := [(0, 1)]

/-- LANE.state (R121, Table 4-8). -/
def Prm.laneState : ParamDef where
  id := 0x04009000
  n := 20
  access := .ro
  ranges := [(0, 7)]

/-- LANE.tx_lane (R121, Table 4-8). -/
def Prm.laneTxLane : ParamDef where
  id := 0x0400A000
  n := 16
  access := .ro
  deflt := fun i => i
  ranges := [(0, 15), (255, 255)]

/-- LANE.polarity (R121, Table 4-8). -/
def Prm.lanePolarity : ParamDef where
  id := 0x0400B000
  n := 20
  access := .ro
  ranges := [(0, 3)]

/-- LANE.tx_pattern (R121, Table 4-8). -/
def Prm.laneTxPattern : ParamDef where
  id := 0x0400C000
  n := 20
  access := .rwi
  ranges := [(0, 10), (256, 266)]

/-- LANE.rx_checker (R121, Table 4-8). -/
def Prm.laneRxChecker : ParamDef where
  id := 0x0400D000
  n := 20
  access := .rwi
  ranges := [(0, 10), (256, 266)]

/-- LANE.user_pattern (R121, Table 4-8). -/
def Prm.laneUserPattern : ParamDef where
  id := 0x0400E000
  n := 20
  access := .rwi
  deflt := fun _ => 18374966859414961920
  ranges := [(0, 18446744073709551615)]

/-- LANE.inject (R121, Table 4-8). -/
def Prm.laneInject : ParamDef where
  id := 0x0400F000
  n := 20
  access := .rwi
  ranges := [(0, 18446744073709551615)]
  extra := fun v => injectField v

/-- LANE.prbs_bits (R121, Table 4-8). -/
def Prm.lanePrbsBits : ParamDef where
  id := 0x04010000
  n := 20
  access := .rc
  ranges := [(0, 18446744073709551615)]
  width := 64

/-- LANE.prbs_err (R121, Table 4-8). -/
def Prm.lanePrbsErr : ParamDef where
  id := 0x04011000
  n := 20
  access := .rc
  ranges := [(0, 18446744073709551615)]
  width := 64

/-- LANE.fec_corr_cw (R121, Table 4-8). -/
def Prm.laneFecCorrCw : ParamDef where
  id := 0x04012000
  n := 20
  access := .rc
  ranges := [(0, 18446744073709551615)]
  width := 64

/-- LANE.fec_uncorr_cw (R121, Table 4-8). -/
def Prm.laneFecUncorrCw : ParamDef where
  id := 0x04013000
  n := 20
  access := .rc
  ranges := [(0, 18446744073709551615)]
  width := 64

/-- LANE.fec_corr_sym (R121, Table 4-8). -/
def Prm.laneFecCorrSym : ParamDef where
  id := 0x04014000
  n := 20
  access := .rc
  ranges := [(0, 18446744073709551615)]
  width := 64

/-- LANE.lock_loss (R121, Table 4-8). -/
def Prm.laneLockLoss : ParamDef where
  id := 0x04015000
  n := 20
  access := .rc
  ranges := [(0, 18446744073709551615)]
  width := 64

/-- LANE.acq_retry (R121, Table 4-8). -/
def Prm.laneAcqRetry : ParamDef where
  id := 0x04016000
  n := 20
  access := .rc
  ranges := [(0, 18446744073709551615)]
  width := 64

/-- LANE.deep_exit_max_us (R121, Table 4-8). -/
def Prm.laneDeepExitMaxUs : ParamDef where
  id := 0x04017000
  n := 1
  access := .ro
  deflt := fun _ => 1000
  ranges := [(1000, 1000)]

/-- LANE.lpi_tx_wake_ns (R121, Table 4-8). -/
def Prm.laneLpiTxWakeNs : ParamDef where
  id := 0x04018000
  n := 1
  access := .ro
  deflt := fun _ => 4500
  ranges := [(4500, 4500)]

/-- LANE.lpi_rx_wake_ns (R121, Table 4-8). -/
def Prm.laneLpiRxWakeNs : ParamDef where
  id := 0x04019000
  n := 1
  access := .ro
  deflt := fun _ => 3200
  ranges := [(3200, 3200)]

/-- LINK.enable (R147, Table 5-11). -/
def Prm.linkEnable : ParamDef where
  id := 0x05001000
  n := 16
  access := .rw
  deflt := fun _ => 1
  ranges := [(0, 0), (1, 1), (0, 0)]

/-- LINK.max_version (R147, Table 5-11). -/
def Prm.linkMaxVersion : ParamDef where
  id := 0x05002000
  n := 16
  access := .rw
  deflt := fun _ => 2
  ranges := [(1, 2)]

/-- LINK.version (R147, Table 5-11). -/
def Prm.linkVersion : ParamDef where
  id := 0x05003000
  n := 16
  access := .ro
  ranges := [(0, 2), (0, 0)]

/-- LINK.srate (R147, Table 5-11). -/
def Prm.linkSrate : ParamDef where
  id := 0x05004000
  n := 16
  access := .rw
  deflt := fun i => if i < 2 then 0 else if i < 8 then 1 else 2
  ranges := [(0, 3)]

/-- LINK.fmt (R147, Table 5-11). -/
def Prm.linkFmt : ParamDef where
  id := 0x05005000
  n := 16
  access := .rw
  ranges := [(0, 1)]

/-- LINK.spare_on (R147, Table 5-11). -/
def Prm.linkSpareOn : ParamDef where
  id := 0x05006000
  n := 16
  access := .rw
  ranges := [(0, 0), (1, 1), (0, 0)]

/-- LINK.auto_standby (R147, Table 5-11). -/
def Prm.linkAutoStandby : ParamDef where
  id := 0x05007000
  n := 16
  access := .rw
  deflt := fun _ => 1
  ranges := [(0, 0), (1, 1), (0, 0)]

/-- LINK.sync_state (R147, Table 5-11). -/
def Prm.linkSyncState : ParamDef where
  id := 0x05008000
  n := 16
  access := .ro
  ranges := [(0, 2)]

/-- LINK.defects (R147, Table 5-11). -/
def Prm.linkDefects : ParamDef where
  id := 0x05009000
  n := 16
  access := .ro
  ranges := [(0, 63)]

/-- LINK.los_persist_us (R147, Table 5-11). -/
def Prm.linkLosPersistUs : ParamDef where
  id := 0x0500A000
  n := 16
  access := .rw
  deflt := fun _ => 100
  ranges := [(1, 10000)]

/-- LINK.lof_persist_us (R147, Table 5-11). -/
def Prm.linkLofPersistUs : ParamDef where
  id := 0x0500B000
  n := 16
  access := .rw
  deflt := fun _ => 500
  ranges := [(1, 100000)]

/-- LINK.clear_persist_ms (R147, Table 5-11). -/
def Prm.linkClearPersistMs : ParamDef where
  id := 0x0500C000
  n := 16
  access := .rw
  deflt := fun _ => 10
  ranges := [(1, 10000)]

/-- LINK.sd_threshold (R147, Table 5-11). -/
def Prm.linkSdThreshold : ParamDef where
  id := 0x0500D000
  n := 16
  access := .rw
  deflt := fun _ => 1000
  ranges := [(1, 1000000)]

/-- LINK.sync_err_tol (R147, Table 5-11). -/
def Prm.linkSyncErrTol : ParamDef where
  id := 0x0500E000
  n := 16
  access := .rw
  deflt := fun _ => 2
  ranges := [(0, 6)]

/-- LINK.cc_retry_ms (R147, Table 5-11). -/
def Prm.linkCcRetryMs : ParamDef where
  id := 0x0500F000
  n := 16
  access := .rw
  deflt := fun _ => 4
  ranges := [(1, 100)]

/-- LINK.echo_period_ms (R147, Table 5-11). -/
def Prm.linkEchoPeriodMs : ParamDef where
  id := 0x05010000
  n := 16
  access := .rw
  deflt := fun _ => 100
  ranges := [(0, 10000), (0, 0)]

/-- LINK.rx_slip (R147, Table 5-11). -/
def Prm.linkRxSlip : ParamDef where
  id := 0x05011000
  n := 16
  access := .rc
  ranges := [(0, 4294967295)]

/-- LINK.tx_underrun (R147, Table 5-11). -/
def Prm.linkTxUnderrun : ParamDef where
  id := 0x05012000
  n := 16
  access := .rc
  ranges := [(0, 4294967295)]

/-- LINK.rehunt (R147, Table 5-11). -/
def Prm.linkRehunt : ParamDef where
  id := 0x05013000
  n := 16
  access := .rc
  ranges := [(0, 4294967295)]

/-- LINK.sec_errored (R147, Table 5-11). -/
def Prm.linkSecErrored : ParamDef where
  id := 0x05014000
  n := 16
  access := .ro
  ranges := [(0, 1000000)]

/-- LINK.sec_crc_err (R147, Table 5-11). -/
def Prm.linkSecCrcErr : ParamDef where
  id := 0x05015000
  n := 16
  access := .ro
  ranges := [(0, 1000000)]

/-- LINK.sec_sync_miss (R147, Table 5-11). -/
def Prm.linkSecSyncMiss : ParamDef where
  id := 0x05016000
  n := 16
  access := .ro
  ranges := [(0, 1000000)]

/-- LINK.sec_absent (R147, Table 5-11). -/
def Prm.linkSecAbsent : ParamDef where
  id := 0x05017000
  n := 16
  access := .ro
  ranges := [(0, 4294967295)]

/-- LINK.sec_unavail (R147, Table 5-11). -/
def Prm.linkSecUnavail : ParamDef where
  id := 0x05018000
  n := 16
  access := .ro
  ranges := [(0, 1000)]

/-- LINK.head_ver_max (R147, Table 5-11). -/
def Prm.linkHeadVerMax : ParamDef where
  id := 0x05019000
  n := 16
  access := .ro
  ranges := [(0, 2), (0, 0)]

/-- LINK.head_turnaround_ns (R147, Table 5-11). -/
def Prm.linkHeadTurnaroundNs : ParamDef where
  id := 0x0501A000
  n := 16
  access := .ro
  ranges := [(0, 65535)]

/-- LINK.cmap_page (R147, Table 5-11). -/
def Prm.linkCmapPage : ParamDef where
  id := 0x0501B000
  n := 1
  access := .ro
  ranges := [(0, 0), (1, 1)]

/-- ACH.enable (R177, Table 6-10). -/
def Prm.achEnable : ParamDef where
  id := 0x06001000
  n := 128
  access := .rw
  deflt := fun _ => 1
  ranges := [(0, 0), (1, 1), (0, 0)]

/-- ACH.state (R177, Table 6-10). -/
def Prm.achState : ParamDef where
  id := 0x06002000
  n := 128
  access := .ro
  ranges := [(0, 4)]

/-- ACH.recal_needed (R177, Table 6-10). -/
def Prm.achRecalNeeded : ParamDef where
  id := 0x06003000
  n := 128
  access := .ro
  deflt := fun _ => 1
  ranges := [(0, 0), (1, 1)]

/-- ACH.rx_gain_mode (R177, Table 6-10). -/
def Prm.achRxGainMode : ParamDef where
  id := 0x06004000
  n := 128
  access := .rw
  deflt := fun _ => 1
  ranges := [(0, 1)]

/-- ACH.rx_gain (R177, Table 6-10). -/
def Prm.achRxGain : ParamDef where
  id := 0x06005000
  n := 128
  access := .rw
  deflt := fun _ => 480
  ranges := [(-512, 1008)]
  signed := true

/-- ACH.rx_gain_applied (R177, Table 6-10). -/
def Prm.achRxGainApplied : ParamDef where
  id := 0x06006000
  n := 128
  access := .ro
  ranges := [(-512, 1008)]
  signed := true

/-- ACH.rx_backoff_db (R177, Table 6-10). -/
def Prm.achRxBackoffDb : ParamDef where
  id := 0x06007000
  n := 128
  access := .rw
  deflt := fun _ => 12
  ranges := [(6, 30)]

/-- ACH.tx_atten (R177, Table 6-10). -/
def Prm.achTxAtten : ParamDef where
  id := 0x06008000
  n := 128
  access := .rw
  ranges := [(0, 960)]

/-- ACH.cfr_papr (R177, Table 6-10). -/
def Prm.achCfrPapr : ParamDef where
  id := 0x06009000
  n := 128
  access := .rw
  deflt := fun _ => 80
  ranges := [(0, 0), (50, 120)]

/-- ACH.dc_track (R177, Table 6-10). -/
def Prm.achDcTrack : ParamDef where
  id := 0x0600A000
  n := 128
  access := .rw
  deflt := fun _ => 1
  ranges := [(0, 0), (1, 1), (0, 0)]

/-- ACH.iq_track (R177, Table 6-10). -/
def Prm.achIqTrack : ParamDef where
  id := 0x0600B000
  n := 128
  access := .rw
  deflt := fun _ => 1
  ranges := [(0, 0), (1, 1), (0, 0)]

/-- ACH.absent_persist_us (R177, Table 6-10). -/
def Prm.achAbsentPersistUs : ParamDef where
  id := 0x0600C000
  n := 128
  access := .rw
  deflt := fun _ => 1000
  ranges := [(1, 100000)]

/-- ACH.tr_lead_ns (R177, Table 6-10). -/
def Prm.achTrLeadNs : ParamDef where
  id := 0x0600D000
  n := 3
  access := .rw
  deflt := fun _ => 2000
  ranges := [(500, 4000)]

/-- ACH.cal_mode (R177, Table 6-10). -/
def Prm.achCalMode : ParamDef where
  id := 0x0600E000
  n := 3
  access := .rw
  ranges := [(0, 1)]

/-- ACH.cal_period_s (R177, Table 6-10). -/
def Prm.achCalPeriodS : ParamDef where
  id := 0x0600F000
  n := 3
  access := .rw
  deflt := fun _ => 60
  ranges := [(0, 0), (10, 86400)]

/-- ACH.cal_temp_delta (R177, Table 6-10). -/
def Prm.achCalTempDelta : ParamDef where
  id := 0x06010000
  n := 3
  access := .rw
  deflt := fun _ => 50
  ranges := [(0, 0), (10, 200)]

/-- ACH.cal_ref (R177, Table 6-10). -/
def Prm.achCalRef : ParamDef where
  id := 0x06011000
  n := 3
  access := .rw
  deflt := fun i => if i = 0 then 0 else if i = 1 then 16 else 64
  ranges := [(0, 127)]

/-- ACH.cal_min_pairs (R177, Table 6-10). -/
def Prm.achCalMinPairs : ParamDef where
  id := 0x06012000
  n := 3
  access := .rw
  deflt := fun _ => 4
  ranges := [(1, 16)]

/-- ACH.cal_pair_snr_db (R177, Table 6-10). -/
def Prm.achCalPairSnrDb : ParamDef where
  id := 0x06013000
  n := 3
  access := .rw
  deflt := fun _ => 20
  ranges := [(6, 40)]

/-- ACH.cal_anchors (R177, Table 6-10). -/
def Prm.achCalAnchors : ParamDef where
  id := 0x06014000
  n := 3
  access := .rw
  deflt := fun _ => 4
  ranges := [(1, 8)]

/-- ACH.cal_window_us (R177, Table 6-10). -/
def Prm.achCalWindowUs : ParamDef where
  id := 0x06015000
  n := 3
  access := .rw
  deflt := fun _ => 1000
  ranges := [(200, 4000)]

/-- ACH.cal_age_ms (R177, Table 6-10). -/
def Prm.achCalAgeMs : ParamDef where
  id := 0x06016000
  n := 128
  access := .ro
  ranges := [(0, 4294967295)]

/-- ACH.rssi (R177, Table 6-10). -/
def Prm.achRssi : ParamDef where
  id := 0x06017000
  n := 128
  access := .ro
  ranges := [(-32768, 32767)]
  signed := true

/-- ACH.noise_floor (R177, Table 6-10). -/
def Prm.achNoiseFloor : ParamDef where
  id := 0x06018000
  n := 128
  access := .ro
  ranges := [(-32768, 32767)]
  signed := true

/-- ACH.rx_latency_ns (R177, Table 6-10). -/
def Prm.achRxLatencyNs : ParamDef where
  id := 0x06019000
  n := 128
  access := .ro
  ranges := [(0, 65535)]

/-- ACH.sat_samples (R177, Table 6-10). -/
def Prm.achSatSamples : ParamDef where
  id := 0x0601A000
  n := 128
  access := .rc
  ranges := [(0, 4294967295)]

/-- ACH.cfr_peaks (R177, Table 6-10). -/
def Prm.achCfrPeaks : ParamDef where
  id := 0x0601B000
  n := 128
  access := .rc
  ranges := [(0, 4294967295)]

/-- ACH.absent_blocks (R177, Table 6-10). -/
def Prm.achAbsentBlocks : ParamDef where
  id := 0x0601C000
  n := 128
  access := .rc
  ranges := [(0, 4294967295)]

/-- ACH.fmt_err (R177, Table 6-10). -/
def Prm.achFmtErr : ParamDef where
  id := 0x0601D000
  n := 128
  access := .rc
  ranges := [(0, 4294967295)]

/-- ACH.cdc_slip (R177, Table 6-10). -/
def Prm.achCdcSlip : ParamDef where
  id := 0x0601E000
  n := 128
  access := .rc
  ranges := [(0, 4294967295)]

/-- ACH.recast_count (R177, Table 6-10). -/
def Prm.achRecastCount : ParamDef where
  id := 0x0601F000
  n := 128
  access := .rc
  ranges := [(0, 4294967295)]

/-- ACH.cal_fail (R177, Table 6-10). -/
def Prm.achCalFail : ParamDef where
  id := 0x06020000
  n := 128
  access := .rc
  ranges := [(0, 4294967295)]

/-- ACH.feed_enable (R177, Table 6-10). -/
def Prm.achFeedEnable : ParamDef where
  id := 0x06021000
  n := 16
  access := .rw
  deflt := fun _ => 1
  ranges := [(0, 0), (1, 1), (0, 0)]

/-- ACH.feed_state (R177, Table 6-10). -/
def Prm.achFeedState : ParamDef where
  id := 0x06022000
  n := 16
  access := .ro
  ranges := [(0, 7)]

/-- ACH.feed_ilimit_ma (R177, Table 6-10). -/
def Prm.achFeedIlimitMa : ParamDef where
  id := 0x06023000
  n := 16
  access := .rw
  deflt := fun _ => 4000
  ranges := [(100, 10000)]

/-- ACH.feed_inrush_ma (R177, Table 6-10). -/
def Prm.achFeedInrushMa : ParamDef where
  id := 0x06024000
  n := 16
  access := .rw
  deflt := fun _ => 8000
  ranges := [(100, 12000)]

/-- ACH.feed_inrush_ms (R177, Table 6-10). -/
def Prm.achFeedInrushMs : ParamDef where
  id := 0x06025000
  n := 16
  access := .rw
  deflt := fun _ => 20
  ranges := [(1, 500)]

/-- ACH.feed_imin_ma (R177, Table 6-10). -/
def Prm.achFeedIminMa : ParamDef where
  id := 0x06026000
  n := 16
  access := .rw
  deflt := fun _ => 100
  ranges := [(0, 0), (10, 2000)]

/-- ACH.feed_retry_max (R177, Table 6-10). -/
def Prm.achFeedRetryMax : ParamDef where
  id := 0x06027000
  n := 16
  access := .rw
  deflt := fun _ => 3
  ranges := [(0, 0), (1, 15)]

/-- ACH.feed_retry_ms (R177, Table 6-10). -/
def Prm.achFeedRetryMs : ParamDef where
  id := 0x06028000
  n := 16
  access := .rw
  deflt := fun _ => 1000
  ranges := [(10, 60000)]

/-- ACH.feed_isns_gain (R177, Table 6-10). -/
def Prm.achFeedIsnsGain : ParamDef where
  id := 0x06029000
  n := 16
  access := .rw
  deflt := fun _ => 10000
  ranges := [(100, 50000)]

/-- ACH.feed_vsns_ratio (R177, Table 6-10). -/
def Prm.achFeedVsnsRatio : ParamDef where
  id := 0x0602A000
  n := 16
  access := .rw
  deflt := fun _ => 40
  ranges := [(1, 100)]

/-- ACH.feed_current_ma (R177, Table 6-10). -/
def Prm.achFeedCurrentMa : ParamDef where
  id := 0x0602B000
  n := 16
  access := .ro
  ranges := [(0, 65535)]

/-- ACH.feed_voltage_mv (R177, Table 6-10). -/
def Prm.achFeedVoltageMv : ParamDef where
  id := 0x0602C000
  n := 16
  access := .ro
  ranges := [(-2147483648, 2147483647)]
  signed := true

/-- ACH.feed_trips (R177, Table 6-10). -/
def Prm.achFeedTrips : ParamDef where
  id := 0x0602D000
  n := 16
  access := .rc
  ranges := [(0, 4294967295)]

/-- BEAM.enable (R210, Table 7-13). -/
def Prm.beamEnable : ParamDef where
  id := 0x07001000
  n := 8
  access := .rw
  deflt := fun i => if i = 0 ∨ i = 3 ∨ i = 7 then 1 else 0
  ranges := [(0, 0), (1, 1), (0, 0)]

/-- BEAM.max_streams (R210, Table 7-13). -/
def Prm.beamMaxStreams : ParamDef where
  id := 0x07002000
  n := 8
  access := .rw
  deflt := fun i => if i < 3 then 12 else if i < 7 then 16 else 8
  ranges := [(1, 16)]

/-- BEAM.stream_cap (R210, Table 7-13). -/
def Prm.beamStreamCap : ParamDef where
  id := 0x07003000
  n := 3
  access := .ro
  ranges := [(0, 64)]

/-- BEAM.update_ms (R210, Table 7-13). -/
def Prm.beamUpdateMs : ParamDef where
  id := 0x07004000
  n := 3
  access := .rw
  deflt := fun _ => 4
  ranges := [(1, 4)]

/-- BEAM.budget_pct (R210, Table 7-13). -/
def Prm.beamBudgetPct : ParamDef where
  id := 0x07005000
  n := 1
  access := .rw
  deflt := fun _ => 80
  ranges := [(10, 95)]

/-- BEAM.reg_scale (R210, Table 7-13). -/
def Prm.beamRegScale : ParamDef where
  id := 0x07006000
  n := 3
  access := .rw
  deflt := fun _ => 256
  ranges := [(1, 65535)]

/-- BEAM.est_depth (R210, Table 7-13). -/
def Prm.beamEstDepth : ParamDef where
  id := 0x07007000
  n := 3
  access := .rw
  deflt := fun _ => 8
  ranges := [(2, 16)]

/-- BEAM.spec_enable (R210, Table 7-13). -/
def Prm.beamSpecEnable : ParamDef where
  id := 0x07008000
  n := 3
  access := .rw
  deflt := fun _ => 1
  ranges := [(0, 0), (1, 1), (0, 0)]

/-- BEAM.spec_eps (R210, Table 7-13). -/
def Prm.beamSpecEps : ParamDef where
  id := 0x07009000
  n := 3
  access := .rw
  deflt := fun _ => 3277
  ranges := [(1, 65535)]

/-- BEAM.sta_nf_db (R210, Table 7-13). -/
def Prm.beamStaNfDb : ParamDef where
  id := 0x0700A000
  n := 3
  access := .rw
  deflt := fun _ => 70
  ranges := [(0, 200)]

/-- BEAM.aoa_enable (R210, Table 7-13). -/
def Prm.beamAoaEnable : ParamDef where
  id := 0x0700B000
  n := 3
  access := .rw
  ranges := [(0, 1)]

/-- BEAM.active_set (R210, Table 7-13). -/
def Prm.beamActiveSet : ParamDef where
  id := 0x0700C000
  n := 3
  access := .ro
  ranges := [(0, 65535)]

/-- BEAM.active_basis (R210, Table 7-13). -/
def Prm.beamActiveBasis : ParamDef where
  id := 0x0700D000
  n := 3
  access := .ro
  ranges := [(0, 4294967295)]

/-- BEAM.weight_age_us (R210, Table 7-13). -/
def Prm.beamWeightAgeUs : ParamDef where
  id := 0x0700E000
  n := 3
  access := .ro
  ranges := [(0, 4294967295)]

/-- BEAM.spec_prepared (R210, Table 7-13). -/
def Prm.beamSpecPrepared : ParamDef where
  id := 0x0700F000
  n := 3
  access := .rc
  ranges := [(0, 4294967295)]

/-- BEAM.spec_committed (R210, Table 7-13). -/
def Prm.beamSpecCommitted : ParamDef where
  id := 0x07010000
  n := 3
  access := .rc
  ranges := [(0, 4294967295)]

/-- BEAM.spec_rejected (R210, Table 7-13). -/
def Prm.beamSpecRejected : ParamDef where
  id := 0x07011000
  n := 3
  access := .rc
  ranges := [(0, 4294967295)]

/-- BEAM.spec_expired (R210, Table 7-13). -/
def Prm.beamSpecExpired : ParamDef where
  id := 0x07012000
  n := 3
  access := .rc
  ranges := [(0, 4294967295)]

/-- BEAM.spec_displaced (R210, Table 7-13). -/
def Prm.beamSpecDisplaced : ParamDef where
  id := 0x07013000
  n := 3
  access := .rc
  ranges := [(0, 4294967295)]

/-- BEAM.spec_missed_cp (R210, Table 7-13). -/
def Prm.beamSpecMissedCp : ParamDef where
  id := 0x07014000
  n := 3
  access := .rc
  ranges := [(0, 4294967295)]

/-- BEAM.stale_sets (R210, Table 7-13). -/
def Prm.beamStaleSets : ParamDef where
  id := 0x07015000
  n := 3
  access := .rc
  ranges := [(0, 4294967295)]

/-- BEAM.overrun (R210, Table 7-13). -/
def Prm.beamOverrun : ParamDef where
  id := 0x07016000
  n := 3
  access := .rc
  ranges := [(0, 4294967295)]

/-- BEAM.ant_drop (R210, Table 7-13). -/
def Prm.beamAntDrop : ParamDef where
  id := 0x07017000
  n := 3
  access := .rc
  ranges := [(0, 4294967295)]

/-- BEAM.assay_mismatch (R210, Table 7-13). -/
def Prm.beamAssayMismatch : ParamDef where
  id := 0x07018000
  n := 8
  access := .rc
  ranges := [(0, 4294967295)]

/-- BEAM.ecc_corr (R210, Table 7-13). -/
def Prm.beamEccCorr : ParamDef where
  id := 0x07019000
  n := 8
  access := .rc
  ranges := [(0, 4294967295)]

/-- BEAM.recast_count (R210, Table 7-13). -/
def Prm.beamRecastCount : ParamDef where
  id := 0x0701A000
  n := 8
  access := .rc
  ranges := [(0, 4294967295)]

/-- BEAM.est_drop (R210, Table 7-13). -/
def Prm.beamEstDrop : ParamDef where
  id := 0x0701B000
  n := 8
  access := .rc
  ranges := [(0, 4294967295)]

/-- BEAM.tone_slip (R210, Table 7-13). -/
def Prm.beamToneSlip : ParamDef where
  id := 0x0701C000
  n := 8
  access := .rc
  ranges := [(0, 4294967295)]

/-- WLAN.bssid (R246, Table 8-6). -/
def Prm.wlanBssid : ParamDef where
  id := 0x08001000
  n := 8
  access := .rw
  deflt := fun i => (Config.otpBaseAddress + i) % 2 ^ 48
  ranges := [(0, 281474976710655)]
  extra := fun v => v / 2 ^ 40 % 2 = 0

/-- WLAN.bss_color (R246, Table 8-6). -/
def Prm.wlanBssColor : ParamDef where
  id := 0x08002000
  n := 8
  access := .rw
  deflt := fun i => i + 1
  ranges := [(1, 63)]

/-- WLAN.ap_mld (R246, Table 8-6). -/
def Prm.wlanApMld : ParamDef where
  id := 0x08003000
  n := 8
  access := .rw
  deflt := fun i => [0, 1, 2, 0, 1, 2, 3, 0].getD i 0
  ranges := [(0, 3), (255, 255)]

/-- WLAN.beacon_tu (R246, Table 8-6). -/
def Prm.wlanBeaconTu : ParamDef where
  id := 0x08004000
  n := 8
  access := .rw
  deflt := fun _ => 100
  ranges := [(20, 1000)]

/-- WLAN.dtim (R246, Table 8-6). -/
def Prm.wlanDtim : ParamDef where
  id := 0x08005000
  n := 8
  access := .rw
  deflt := fun _ => 1
  ranges := [(1, 255)]

/-- WLAN.tbtt_offset_us (R246, Table 8-6). -/
def Prm.wlanTbttOffsetUs : ParamDef where
  id := 0x08006000
  n := 8
  access := .rw
  ranges := [(0, 1023999)]

/-- WLAN.fils_tu (R246, Table 8-6). -/
def Prm.wlanFilsTu : ParamDef where
  id := 0x08007000
  n := 8
  access := .rw
  deflt := fun i => if 3 ≤ i ∧ i ≤ 6 then 20 else 0
  ranges := [(0, 0), (10, 20)]

/-- WLAN.mu_edca (R246, Table 8-6). -/
def Prm.wlanMuEdca : ParamDef where
  id := 0x08008000
  n := 8
  access := .rw
  deflt := fun _ => 0x00888888
  ranges := [(0, 4294967295)]

/-- WLAN.channel (R246, Table 8-6). -/
def Prm.wlanChannel : ParamDef where
  id := 0x08009000
  n := 3
  access := .rw
  deflt := fun i => [6, 36, 37].getD i 0
  ranges := [(1, 253)]

/-- WLAN.bw (R246, Table 8-6). -/
def Prm.wlanBw : ParamDef where
  id := 0x0800A000
  n := 3
  access := .rw
  deflt := fun i => [1, 3, 4].getD i 0
  ranges := [(0, 4)]

/-- WLAN.punct (R246, Table 8-6). -/
def Prm.wlanPunct : ParamDef where
  id := 0x0800B000
  n := 3
  access := .rw
  ranges := [(0, 65535)]

/-- WLAN.csa_beacons (R246, Table 8-6). -/
def Prm.wlanCsaBeacons : ParamDef where
  id := 0x0800C000
  n := 3
  access := .rw
  deflt := fun _ => 10
  ranges := [(1, 255)]

/-- WLAN.txop_us (R246, Table 8-6). -/
def Prm.wlanTxopUs : ParamDef where
  id := 0x0800D000
  n := 3
  access := .rw
  deflt := fun _ => 5484
  ranges := [(500, 5484)]

/-- WLAN.restart_db (R246, Table 8-6). -/
def Prm.wlanRestartDb : ParamDef where
  id := 0x0800E000
  n := 3
  access := .rw
  deflt := fun _ => 10
  ranges := [(0, 0), (3, 30)]

/-- WLAN.sound_keep_ms (R246, Table 8-6). -/
def Prm.wlanSoundKeepMs : ParamDef where
  id := 0x0800F000
  n := 3
  access := .rw
  deflt := fun _ => 100
  ranges := [(10, 10000)]

/-- WLAN.dsss_enable (R246, Table 8-6). -/
def Prm.wlanDsssEnable : ParamDef where
  id := 0x08010000
  n := 1
  access := .rw
  deflt := fun _ => 1
  ranges := [(0, 0), (1, 1), (0, 0)]

/-- WLAN.coop_enable (R246, Table 8-6). -/
def Prm.wlanCoopEnable : ParamDef where
  id := 0x08011000
  n := 3
  access := .rw
  deflt := fun _ => 1
  ranges := [(0, 0), (1, 1), (0, 0)]

/-- WLAN.coop_lead_us (R246, Table 8-6). -/
def Prm.wlanCoopLeadUs : ParamDef where
  id := 0x08012000
  n := 1
  access := .rw
  deflt := fun _ => 30
  ranges := [(10, 500)]

/-- WLAN.coop_window_us (R246, Table 8-6). -/
def Prm.wlanCoopWindowUs : ParamDef where
  id := 0x08013000
  n := 1
  access := .rw
  deflt := fun _ => 100
  ranges := [(10, 1000)]

/-- WLAN.cal_defer_ms (R246, Table 8-6). -/
def Prm.wlanCalDeferMs : ParamDef where
  id := 0x08014000
  n := 3
  access := .rw
  deflt := fun _ => 20
  ranges := [(2, 1000)]

/-- WLAN.beacon_late_us (R246, Table 8-6). -/
def Prm.wlanBeaconLateUs : ParamDef where
  id := 0x08015000
  n := 1
  access := .rw
  deflt := fun _ => 1000
  ranges := [(100, 100000)]

/-- WLAN.gtk_slot (R246, Table 8-6). -/
def Prm.wlanGtkSlot : ParamDef where
  id := 0x08016000
  n := 8
  access := .rw
  deflt := fun _ => 4294967295
  ranges := [(0, 8589934591)]
  extra := fun v => gtkField v

/-- WLAN.igtk_slot (R246, Table 8-6). -/
def Prm.wlanIgtkSlot : ParamDef where
  id := 0x08017000
  n := 8
  access := .rw
  deflt := fun _ => 4294967295
  ranges := [(0, 8589934591)]
  extra := fun v => gtkField v

/-- WLAN.bigtk_slot (R246, Table 8-6). -/
def Prm.wlanBigtkSlot : ParamDef where
  id := 0x08018000
  n := 8
  access := .rw
  deflt := fun _ => 4294967295
  ranges := [(0, 8589934591)]
  extra := fun v => gtkField v

/-- WLAN.stations (R246, Table 8-6). -/
def Prm.wlanStations : ParamDef where
  id := 0x08019000
  n := 8
  access := .ro
  ranges := [(0, 2048)]

/-- WLAN.sched_orphan (R246, Table 8-6). -/
def Prm.wlanSchedOrphan : ParamDef where
  id := 0x0801A000
  n := 3
  access := .rc
  ranges := [(0, 4294967295)]

/-- WLAN.captured_over (R246, Table 8-6). -/
def Prm.wlanCapturedOver : ParamDef where
  id := 0x0801B000
  n := 3
  access := .rc
  ranges := [(0, 4294967295)]

/-- WLAN.capture_ignored (R246, Table 8-6). -/
def Prm.wlanCaptureIgnored : ParamDef where
  id := 0x0801C000
  n := 3
  access := .rc
  ranges := [(0, 4294967295)]

/-- WLAN.coop_hit (R246, Table 8-6). -/
def Prm.wlanCoopHit : ParamDef where
  id := 0x0801D000
  n := 3
  access := .rc
  ranges := [(0, 4294967295)]

/-- WLAN.coop_miss (R246, Table 8-6). -/
def Prm.wlanCoopMiss : ParamDef where
  id := 0x0801E000
  n := 3
  access := .rc
  ranges := [(0, 4294967295)]

/-- WLAN.beacon_late (R246, Table 8-6). -/
def Prm.wlanBeaconLate : ParamDef where
  id := 0x0801F000
  n := 8
  access := .rc
  ranges := [(0, 4294967295)]

/-- WLAN.psdu_slip (R246, Table 8-6). -/
def Prm.wlanPsduSlip : ParamDef where
  id := 0x08020000
  n := 3
  access := .rc
  ranges := [(0, 4294967295)]

/-- WLAN.tx_ppdu (R246, Table 8-6). -/
def Prm.wlanTxPpdu : ParamDef where
  id := 0x08021000
  n := 8
  access := .rc
  ranges := [(0, 4294967295)]

/-- WLAN.rx_ppdu (R246, Table 8-6). -/
def Prm.wlanRxPpdu : ParamDef where
  id := 0x08022000
  n := 8
  access := .rc
  ranges := [(0, 4294967295)]

/-- STA.state (R248, Table 8-7). -/
def Prm.staState : ParamDef where
  id := 0x09001000
  n := 2048
  access := .ro
  ranges := [(0, 31)]

/-- STA.tx_mpdu (R248, Table 8-7). -/
def Prm.staTxMpdu : ParamDef where
  id := 0x09002000
  n := 2048
  access := .rc
  ranges := [(0, 4294967295)]

/-- STA.tx_retry (R248, Table 8-7). -/
def Prm.staTxRetry : ParamDef where
  id := 0x09003000
  n := 2048
  access := .rc
  ranges := [(0, 4294967295)]

/-- STA.tx_fail (R248, Table 8-7). -/
def Prm.staTxFail : ParamDef where
  id := 0x09004000
  n := 2048
  access := .rc
  ranges := [(0, 4294967295)]

/-- STA.rx_mpdu (R248, Table 8-7). -/
def Prm.staRxMpdu : ParamDef where
  id := 0x09005000
  n := 2048
  access := .rc
  ranges := [(0, 4294967295)]

/-- STA.mic_fail (R248, Table 8-7). -/
def Prm.staMicFail : ParamDef where
  id := 0x09006000
  n := 2048
  access := .rc
  ranges := [(0, 4294967295)]

/-- STA.replay (R248, Table 8-7). -/
def Prm.staReplay : ParamDef where
  id := 0x09007000
  n := 2048
  access := .rc
  ranges := [(0, 4294967295)]

/-- STA.rssi (R248, Table 8-7). -/
def Prm.staRssi : ParamDef where
  id := 0x09008000
  n := 2048
  access := .ro
  ranges := [(-32768, 32767)]
  signed := true

/-- STA.retry_limit (R248, Table 8-7). -/
def Prm.staRetryLimit : ParamDef where
  id := 0x09009000
  n := 1
  access := .rw
  deflt := fun _ => 10
  ranges := [(1, 31)]

/-- LADLE.enable (R286, Table 9-19). -/
def Prm.ladleEnable : ParamDef where
  id := 0x0A001000
  n := 32
  access := .rw
  deflt := fun _ => 1
  ranges := [(0, 0), (1, 1), (0, 0)]

/-- LADLE.state (R286, Table 9-19). -/
def Prm.ladleState : ParamDef where
  id := 0x0A002000
  n := 32
  access := .ro
  ranges := [(0, 5)]

/-- LADLE.slots (R286, Table 9-19). -/
def Prm.ladleSlots : ParamDef where
  id := 0x0A003000
  n := 32
  access := .ro
  ranges := [(0, 18446744073709551615)]

/-- LADLE.slot_abi (R286, Table 9-19). -/
def Prm.ladleSlotAbi : ParamDef where
  id := 0x0A004000
  n := 64
  access := .ro
  ranges := [(0, 2), (0, 0)]

/-- LADLE.slot_engines (R286, Table 9-19). -/
def Prm.ladleSlotEngines : ParamDef where
  id := 0x0A005000
  n := 64
  access := .ro
  ranges := [(0, 4294967295)]

/-- LADLE.irq_split (R286, Table 9-19). -/
def Prm.ladleIrqSplit : ParamDef where
  id := 0x0A006000
  n := 1
  access := .rw
  deflt := fun _ => 3
  ranges := [(0, 8), (0, 0)]

/-- LADLE.job_watchdog_us (R286, Table 9-19). -/
def Prm.ladleJobWatchdogUs : ParamDef where
  id := 0x0A007000
  n := 32
  access := .rw
  deflt := fun _ => 5000
  ranges := [(0, 0), (10, 1000000)]

/-- LADLE.busy_cycles (R286, Table 9-19). -/
def Prm.ladleBusyCycles : ParamDef where
  id := 0x0A008000
  n := 32
  access := .rc
  ranges := [(0, 18446744073709551615)]
  width := 64

/-- LADLE.wl_stall_cycles (R286, Table 9-19). -/
def Prm.ladleWlStallCycles : ParamDef where
  id := 0x0A009000
  n := 32
  access := .rc
  ranges := [(0, 18446744073709551615)]
  width := 64

/-- LADLE.irq_spurious (R286, Table 9-19). -/
def Prm.ladleIrqSpurious : ParamDef where
  id := 0x0A00A000
  n := 32
  access := .rc
  ranges := [(0, 4294967295)]

/-- LADLE.irq_ooo (R286, Table 9-19). -/
def Prm.ladleIrqOoo : ParamDef where
  id := 0x0A00B000
  n := 32
  access := .rc
  ranges := [(0, 4294967295)]

/-- LADLE.faults (R286, Table 9-19). -/
def Prm.ladleFaults : ParamDef where
  id := 0x0A00C000
  n := 32
  access := .rc
  ranges := [(0, 4294967295)]

/-- LADLE.recast_count (R286, Table 9-19). -/
def Prm.ladleRecastCount : ParamDef where
  id := 0x0A00D000
  n := 32
  access := .rc
  ranges := [(0, 4294967295)]

/-- LADLE.ecc_corr (R286, Table 9-19). -/
def Prm.ladleEccCorr : ParamDef where
  id := 0x0A00E000
  n := 32
  access := .rc
  ranges := [(0, 4294967295)]

/-- LADLE.wait_nosleep (R286, Table 9-19). -/
def Prm.ladleWaitNosleep : ParamDef where
  id := 0x0A00F000
  n := 32
  access := .rc
  ranges := [(0, 4294967295)]

/-- TASK.queue_slot (R287, Table 9-20). -/
def Prm.taskQueueSlot : ParamDef where
  id := 0x0E001000
  n := 256
  access := .rw
  deflt := fun i => if i < 96 then 0xFE else if 128 ≤ i ∧ i < 144 then (if i = 129 then 1 else if i = 130 then 2 else 0) else 0xFF
  ranges := [(0, 63), (254, 255)]

/-- TASK.queue_depth (R287, Table 9-20). -/
def Prm.taskQueueDepth : ParamDef where
  id := 0x0E002000
  n := 256
  access := .rw
  deflt := fun _ => 128
  ranges := [(1, 4096)]

/-- TASK.queue_fill (R287, Table 9-20). -/
def Prm.taskQueueFill : ParamDef where
  id := 0x0E003000
  n := 256
  access := .ro
  ranges := [(0, 4096)]

/-- TASK.group_weight (R287, Table 9-20). -/
def Prm.taskGroupWeight : ParamDef where
  id := 0x0E004000
  n := 16
  access := .rw
  deflt := fun i => if i < 4 then 16 else [8, 4, 0, 0, 64, 1, 4].getD (i - 4) 0
  ranges := [(0, 0), (1, 255)]

/-- TASK.group_background (R287, Table 9-20). -/
def Prm.taskGroupBackground : ParamDef where
  id := 0x0E005000
  n := 16
  access := .rw
  deflt := fun i => if i = 9 then 1 else 0
  ranges := [(0, 0), (1, 1)]

/-- TASK.group_ladle_mask (R287, Table 9-20). -/
def Prm.taskGroupLadleMask : ParamDef where
  id := 0x0E006000
  n := 16
  access := .rw
  deflt := fun i => if 8 ≤ i ∧ i ≤ 10 then 0xFFFFFFFF else 0
  ranges := [(0, 4294967295)]

/-- TASK.group_drover_mask (R287, Table 9-20). -/
def Prm.taskGroupDroverMask : ParamDef where
  id := 0x0E007000
  n := 16
  access := .rw
  deflt := fun i => if i < 6 then 0x07FFFFFF else 0
  ranges := [(0, 268435455)]

/-- TASK.group_credit (R287, Table 9-20). -/
def Prm.taskGroupCredit : ParamDef where
  id := 0x0E008000
  n := 16
  access := .ro
  ranges := [(-2147483648, 2147483647)]
  signed := true

/-- TASK.round_queue (R287, Table 9-20). -/
def Prm.taskRoundQueue : ParamDef where
  id := 0x0E009000
  n := 3
  access := .rw
  deflt := fun i => 128 + i
  ranges := [(0, 255)]

/-- TASK.round_fanout (R287, Table 9-20). -/
def Prm.taskRoundFanout : ParamDef where
  id := 0x0E00A000
  n := 3
  access := .rw
  deflt := fun i => [4, 16, 32].getD i 0
  ranges := [(1, 64)]

/-- TASK.trace_mask (R287, Table 9-20). -/
def Prm.taskTraceMask : ParamDef where
  id := 0x0E00B000
  n := 1
  access := .rwi
  ranges := [(0, 63)]

/-- TASK.posted (R287, Table 9-20). -/
def Prm.taskPosted : ParamDef where
  id := 0x0E00C000
  n := 256
  access := .rc
  ranges := [(0, 4294967295)]

/-- TASK.dispatched (R287, Table 9-20). -/
def Prm.taskDispatched : ParamDef where
  id := 0x0E00D000
  n := 256
  access := .rc
  ranges := [(0, 4294967295)]

/-- TASK.post_full (R287, Table 9-20). -/
def Prm.taskPostFull : ParamDef where
  id := 0x0E00E000
  n := 256
  access := .rc
  ranges := [(0, 4294967295)]

/-- TASK.job_errors (R287, Table 9-20). -/
def Prm.taskJobErrors : ParamDef where
  id := 0x0E00F000
  n := 256
  access := .rc
  ranges := [(0, 4294967295)]

/-- TASK.dropped (R287, Table 9-20). -/
def Prm.taskDropped : ParamDef where
  id := 0x0E010000
  n := 16
  access := .rc
  ranges := [(0, 4294967295)]

/-- TASK.trace_lost (R287, Table 9-20). -/
def Prm.taskTraceLost : ParamDef where
  id := 0x0E011000
  n := 1
  access := .rc
  ranges := [(0, 4294967295)]

/-- PON.mode (R324, Table 10-11). -/
def Prm.ponMode : ParamDef where
  id := 0x0B001000
  n := 1
  access := .rw
  deflt := fun _ => 4
  ranges := [(0, 4), (0, 0)]

/-- PON.state (R324, Table 10-11). -/
def Prm.ponState : ParamDef where
  id := 0x0B002000
  n := 1
  access := .ro
  ranges := [(0, 7)]

/-- PON.sync_state (R324, Table 10-11). -/
def Prm.ponSyncState : ParamDef where
  id := 0x0B003000
  n := 1
  access := .ro
  ranges := [(0, 3)]

/-- PON.onu_id (R324, Table 10-11). -/
def Prm.ponOnuId : ParamDef where
  id := 0x0B004000
  n := 1
  access := .ro
  deflt := fun _ => 1023
  ranges := [(0, 1023)]

/-- PON.eqd_ns (R324, Table 10-11). -/
def Prm.ponEqdNs : ParamDef where
  id := 0x0B005000
  n := 1
  access := .ro
  ranges := [(0, 4294967295)]

/-- PON.resp_time_ns (R324, Table 10-11). -/
def Prm.ponRespTimeNs : ParamDef where
  id := 0x0B006000
  n := 1
  access := .ro
  deflt := fun _ => 35000
  ranges := [(35000, 35000)]

/-- PON.sn_vendor (R324, Table 10-11). -/
def Prm.ponSnVendor : ParamDef where
  id := 0x0B007000
  n := 1
  access := .rw
  deflt := fun _ => Config.otpSnVendor % 2 ^ 32
  ranges := [(0, 4294967295)]

/-- PON.sn_serial (R324, Table 10-11). -/
def Prm.ponSnSerial : ParamDef where
  id := 0x0B008000
  n := 1
  access := .rw
  deflt := fun _ => Config.otpSnSerial % 2 ^ 32
  ranges := [(0, 4294967295)]

/-- PON.to1_ms (R324, Table 10-11). -/
def Prm.ponTo1Ms : ParamDef where
  id := 0x0B009000
  n := 1
  access := .rw
  deflt := fun _ => 10000
  ranges := [(1000, 60000)]

/-- PON.to2_ms (R324, Table 10-11). -/
def Prm.ponTo2Ms : ParamDef where
  id := 0x0B00A000
  n := 1
  access := .rw
  deflt := fun _ => 100
  ranges := [(10, 10000)]

/-- PON.auto_dwell_ms (R324, Table 10-11). -/
def Prm.ponAutoDwellMs : ParamDef where
  id := 0x0B00B000
  n := 1
  access := .rw
  deflt := fun _ => 500
  ranges := [(100, 10000)]

/-- PON.psync_err_tol (R324, Table 10-11). -/
def Prm.ponPsyncErrTol : ParamDef where
  id := 0x0B00C000
  n := 1
  access := .rw
  deflt := fun _ => 2
  ranges := [(0, 8)]

/-- PON.sync_m1 (R324, Table 10-11). -/
def Prm.ponSyncM1 : ParamDef where
  id := 0x0B00D000
  n := 1
  access := .rw
  deflt := fun _ => 2
  ranges := [(1, 8)]

/-- PON.pin_polarity (R324, Table 10-11). -/
def Prm.ponPinPolarity : ParamDef where
  id := 0x0B00E000
  n := 1
  access := .rw
  ranges := [(0, 15)]

/-- PON.ben_lead_ns (R324, Table 10-11). -/
def Prm.ponBenLeadNs : ParamDef where
  id := 0x0B00F000
  n := 1
  access := .rw
  deflt := fun _ => 32
  ranges := [(0, 500)]

/-- PON.ben_lag_ns (R324, Table 10-11). -/
def Prm.ponBenLagNs : ParamDef where
  id := 0x0B010000
  n := 1
  access := .rw
  deflt := fun _ => 16
  ranges := [(0, 500)]

/-- PON.us_prefetch_us (R324, Table 10-11). -/
def Prm.ponUsPrefetchUs : ParamDef where
  id := 0x0B011000
  n := 1
  access := .rw
  deflt := fun _ => 20
  ranges := [(5, 100)]

/-- PON.dbru_mode (R324, Table 10-11). -/
def Prm.ponDbruMode : ParamDef where
  id := 0x0B012000
  n := 64
  access := .rw
  deflt := fun _ => 1
  ranges := [(0, 1)]

/-- PON.rogue_clear (R324, Table 10-11). -/
def Prm.ponRogueClear : ParamDef where
  id := 0x0B013000
  n := 1
  access := .rwi
  ranges := [(0, 0), (1, 1)]

/-- PON.msk_slot (R324, Table 10-11). -/
def Prm.ponMskSlot : ParamDef where
  id := 0x0B014000
  n := 1
  access := .rw
  deflt := fun _ => 65535
  ranges := [(0, 4095), (65535, 65535)]

/-- PON.teqd_ns (R324, Table 10-11). -/
def Prm.ponTeqdNs : ParamDef where
  id := 0x0B015000
  n := 1
  access := .rw
  ranges := [(0, 0), (35000, 2000000)]

/-- PON.tod_ratio (R324, Table 10-11). -/
def Prm.ponTodRatio : ParamDef where
  id := 0x0B016000
  n := 1
  access := .rw
  deflt := fun _ => 32768
  ranges := [(16384, 49152)]

/-- PON.tod_offset_ns (R324, Table 10-11). -/
def Prm.ponTodOffsetNs : ParamDef where
  id := 0x0B017000
  n := 1
  access := .rw
  ranges := [(-100000, 100000)]
  signed := true

/-- PON.tod_wait_ms (R324, Table 10-11). -/
def Prm.ponTodWaitMs : ParamDef where
  id := 0x0B018000
  n := 1
  access := .rw
  deflt := fun _ => 10000
  ranges := [(100, 60000)]

/-- PON.ps_enable (R324, Table 10-11). -/
def Prm.ponPsEnable : ParamDef where
  id := 0x0B019000
  n := 1
  access := .rw
  ranges := [(0, 0), (1, 1), (0, 0)]

/-- PON.ps_ilowpower_ms (R324, Table 10-11). -/
def Prm.ponPsIlowpowerMs : ParamDef where
  id := 0x0B01A000
  n := 1
  access := .rw
  deflt := fun _ => 100
  ranges := [(1, 5000)]

/-- PON.ps_iaware_ms (R324, Table 10-11). -/
def Prm.ponPsIawareMs : ParamDef where
  id := 0x0B01B000
  n := 1
  access := .rw
  deflt := fun _ => 10
  ranges := [(1, 1000)]

/-- PON.ps_ihold_ms (R324, Table 10-11). -/
def Prm.ponPsIholdMs : ParamDef where
  id := 0x0B01C000
  n := 1
  access := .rw
  deflt := fun _ => 1000
  ranges := [(1, 60000)]

/-- PON.sd_exp (R324, Table 10-11). -/
def Prm.ponSdExp : ParamDef where
  id := 0x0B01D000
  n := 1
  access := .rw
  deflt := fun _ => 5
  ranges := [(3, 9)]

/-- PON.sf_exp (R324, Table 10-11). -/
def Prm.ponSfExp : ParamDef where
  id := 0x0B01E000
  n := 1
  access := .rw
  deflt := fun _ => 3
  ranges := [(3, 8)]

/-- PON.ddm_period_ms (R324, Table 10-11). -/
def Prm.ponDdmPeriodMs : ParamDef where
  id := 0x0B01F000
  n := 1
  access := .rw
  deflt := fun _ => 1000
  ranges := [(0, 0), (100, 60000)]

/-- PON.defects (R324, Table 10-11). -/
def Prm.ponDefects : ParamDef where
  id := 0x0B020000
  n := 1
  access := .ro
  ranges := [(0, 127)]

/-- PON.ddm_temp (R324, Table 10-12). -/
def Prm.ponDdmTemp : ParamDef where
  id := 0x0B030000
  n := 1
  access := .ro
  deflt := fun _ => -32768
  ranges := [(-32768, 32767)]
  signed := true

/-- PON.ddm_vcc (R324, Table 10-12). -/
def Prm.ponDdmVcc : ParamDef where
  id := 0x0B031000
  n := 1
  access := .ro
  deflt := fun _ => 32768
  ranges := [(0, 65535)]

/-- PON.ddm_bias (R324, Table 10-12). -/
def Prm.ponDdmBias : ParamDef where
  id := 0x0B032000
  n := 1
  access := .ro
  deflt := fun _ => 32768
  ranges := [(0, 65535)]

/-- PON.ddm_tx_power (R324, Table 10-12). -/
def Prm.ponDdmTxPower : ParamDef where
  id := 0x0B033000
  n := 1
  access := .ro
  deflt := fun _ => 32768
  ranges := [(0, 65535)]

/-- PON.ddm_rx_power (R324, Table 10-12). -/
def Prm.ponDdmRxPower : ParamDef where
  id := 0x0B034000
  n := 1
  access := .ro
  deflt := fun _ => 32768
  ranges := [(0, 65535)]

/-- PON.ds_drop (R324, Table 10-12). -/
def Prm.ponDsDrop : ParamDef where
  id := 0x0B035000
  n := 1
  access := .rc
  ranges := [(0, 4294967295)]

/-- PON.us_underrun (R324, Table 10-12). -/
def Prm.ponUsUnderrun : ParamDef where
  id := 0x0B036000
  n := 1
  access := .rc
  ranges := [(0, 4294967295)]

/-- PON.unknown_port (R324, Table 10-12). -/
def Prm.ponUnknownPort : ParamDef where
  id := 0x0B037000
  n := 1
  access := .rc
  ranges := [(0, 4294967295)]

/-- PON.omci_tx_drop (R324, Table 10-12). -/
def Prm.ponOmciTxDrop : ParamDef where
  id := 0x0B038000
  n := 1
  access := .rc
  ranges := [(0, 4294967295)]

/-- PON.omci_mic_err (R324, Table 10-12). -/
def Prm.ponOmciMicErr : ParamDef where
  id := 0x0B039000
  n := 1
  access := .rc
  ranges := [(0, 4294967295)]

/-- PON.ploam_mic_err (R324, Table 10-12). -/
def Prm.ponPloamMicErr : ParamDef where
  id := 0x0B03A000
  n := 1
  access := .rc
  ranges := [(0, 4294967295)]

/-- PON.bwmap_err (R324, Table 10-12). -/
def Prm.ponBwmapErr : ParamDef where
  id := 0x0B03B000
  n := 1
  access := .rc
  ranges := [(0, 4294967295)]

/-- PON.bursts (R324, Table 10-12). -/
def Prm.ponBursts : ParamDef where
  id := 0x0B03C000
  n := 1
  access := .rc
  ranges := [(0, 4294967295)]

/-- PON.grant_bytes (R324, Table 10-12). -/
def Prm.ponGrantBytes : ParamDef where
  id := 0x0B03D000
  n := 64
  access := .rc
  ranges := [(0, 18446744073709551615)]
  width := 64

/-- PON.sec_rx_bits (R324, Table 10-12). -/
def Prm.ponSecRxBits : ParamDef where
  id := 0x0B03E000
  n := 1
  access := .ro
  ranges := [(0, 18446744073709551615)]

/-- PON.sec_fec_corr_bits (R324, Table 10-12). -/
def Prm.ponSecFecCorrBits : ParamDef where
  id := 0x0B03F000
  n := 1
  access := .ro
  ranges := [(0, 18446744073709551615)]

/-- PON.sec_fec_uncorr_cw (R324, Table 10-12). -/
def Prm.ponSecFecUncorrCw : ParamDef where
  id := 0x0B040000
  n := 1
  access := .ro
  ranges := [(0, 4294967295)]

/-- PON.sec_psbd_err (R324, Table 10-12). -/
def Prm.ponSecPsbdErr : ParamDef where
  id := 0x0B041000
  n := 1
  access := .ro
  ranges := [(0, 8000)]

/-- PON.sec_xgem_hec_err (R324, Table 10-12). -/
def Prm.ponSecXgemHecErr : ParamDef where
  id := 0x0B042000
  n := 1
  access := .ro
  ranges := [(0, 4294967295)]

/-- PON.sec_xgem_uncorr (R324, Table 10-12). -/
def Prm.ponSecXgemUncorr : ParamDef where
  id := 0x0B043000
  n := 1
  access := .ro
  ranges := [(0, 4294967295)]

/-- PON.sec_key_err (R324, Table 10-12). -/
def Prm.ponSecKeyErr : ParamDef where
  id := 0x0B044000
  n := 1
  access := .ro
  ranges := [(0, 4294967295)]

/-- PKT.enable (R361, Table 11-12). -/
def Prm.pktEnable : ParamDef where
  id := 0x0C001000
  n := 1
  access := .rw
  deflt := fun _ => 1
  ranges := [(0, 0), (1, 1), (0, 0)]

/-- PKT.version (R361, Table 11-12). -/
def Prm.pktVersion : ParamDef where
  id := 0x0C002000
  n := 1
  access := .ro
  ranges := [(0, 15)]

/-- PKT.live_versions (R361, Table 11-12). -/
def Prm.pktLiveVersions : ParamDef where
  id := 0x0C003000
  n := 1
  access := .ro
  deflt := fun _ => 1
  ranges := [(1, 16)]

/-- PKT.hash_fields (R361, Table 11-12). -/
def Prm.pktHashFields : ParamDef where
  id := 0x0C004000
  n := 7
  access := .rw
  deflt := fun i => [0x0F, 0x0F, 0x03, 0x0F, 0x0F, 0x03, 0xC0].getD i 0
  ranges := [(1, 255)]

/-- PKT.hash_symmetric (R361, Table 11-12). -/
def Prm.pktHashSymmetric : ParamDef where
  id := 0x0C005000
  n := 1
  access := .rw
  ranges := [(0, 0), (1, 1), (0, 0)]

/-- PKT.udf (R361, Table 11-12). -/
def Prm.pktUdf : ParamDef where
  id := 0x0C006000
  n := 2
  access := .rw
  ranges := [(0, 1023)]
  extra := fun v => true

/-- PKT.vxlan_port (R361, Table 11-12). -/
def Prm.pktVxlanPort : ParamDef where
  id := 0x0C007000
  n := 1
  access := .rw
  deflt := fun _ => 4789
  ranges := [(1, 65535)]

/-- PKT.csum_check (R361, Table 11-12). -/
def Prm.pktCsumCheck : ParamDef where
  id := 0x0C008000
  n := 1
  access := .rw
  deflt := fun _ => 1
  ranges := [(0, 2)]

/-- PKT.miss_action (R361, Table 11-12). -/
def Prm.pktMissAction : ParamDef where
  id := 0x0C009000
  n := 3
  access := .rw
  deflt := fun i => [1, 1, 0].getD i 0
  ranges := [(0, 131071)]
  extra := fun v => v % 4 ≠ 3

/-- PKT.exc_action (R361, Table 11-12). -/
def Prm.pktExcAction : ParamDef where
  id := 0x0C00A000
  n := 10
  first := 1
  access := .rw
  deflt := fun i => [0, 2, 0, 2, 1, 1, 1, 0, 1, 1].getD i 0
  ranges := [(0, 2)]
  extra := fun v => true

/-- PKT.exc_jobq (R361, Table 11-12). -/
def Prm.pktExcJobq : ParamDef where
  id := 0x0C00B000
  n := 10
  first := 1
  access := .rw
  deflt := fun i => i
  ranges := [(0, 63)]

/-- PKT.exc_host_pps (R361, Table 11-12). -/
def Prm.pktExcHostPps : ParamDef where
  id := 0x0C00C000
  n := 10
  first := 1
  access := .rw
  deflt := fun _ => 10000
  ranges := [(1, 1000000)]

/-- PKT.learn_pps (R361, Table 11-12). -/
def Prm.pktLearnPps : ParamDef where
  id := 0x0C00D000
  n := 1
  access := .rw
  deflt := fun _ => 20000
  ranges := [(1, 1000000)]

/-- PKT.flow_age_s (R361, Table 11-12). -/
def Prm.pktFlowAgeS : ParamDef where
  id := 0x0C00E000
  n := 1
  access := .rw
  deflt := fun _ => 300
  ranges := [(0, 0), (10, 86400)]

/-- PKT.napt_addr (R361, Table 11-12). -/
def Prm.pktNaptAddr : ParamDef where
  id := 0x0C00F000
  n := 16
  access := .rw
  ranges := [(0, 4294967295)]

/-- PKT.napt_port_lo (R361, Table 11-12). -/
def Prm.pktNaptPortLo : ParamDef where
  id := 0x0C010000
  n := 1
  access := .rw
  deflt := fun _ => 1024
  ranges := [(1, 65535)]

/-- PKT.napt_port_hi (R361, Table 11-12). -/
def Prm.pktNaptPortHi : ParamDef where
  id := 0x0C011000
  n := 1
  access := .rw
  deflt := fun _ => 65535
  ranges := [(1, 65535)]

/-- PKT.dc_watchdog_us (R361, Table 11-12). -/
def Prm.pktDcWatchdogUs : ParamDef where
  id := 0x0C012000
  n := 1
  access := .rw
  deflt := fun _ => 2000
  ranges := [(0, 0), (10, 1000000)]

/-- PKT.dc_enable (R361, Table 11-12). -/
def Prm.pktDcEnable : ParamDef where
  id := 0x0C013000
  n := 28
  access := .rw
  deflt := fun _ => 1
  ranges := [(0, 0), (1, 1), (0, 0)]

/-- PKT.flows (R361, Table 11-12). -/
def Prm.pktFlows : ParamDef where
  id := 0x0C014000
  n := 1
  access := .ro
  ranges := [(0, 4194304)]

/-- PKT.tcam_used (R361, Table 11-12). -/
def Prm.pktTcamUsed : ParamDef where
  id := 0x0C015000
  n := 1
  access := .ro
  ranges := [(0, 16384)]

/-- PKT.rx_pkts (R361, Table 11-12). -/
def Prm.pktRxPkts : ParamDef where
  id := 0x0C020000
  n := 11
  access := .rc
  ranges := [(0, 18446744073709551615)]
  width := 64

/-- PKT.too_long (R361, Table 11-12). -/
def Prm.pktTooLong : ParamDef where
  id := 0x0C021000
  n := 1
  access := .rc
  ranges := [(0, 4294967295)]

/-- PKT.wb_empty (R361, Table 11-12). -/
def Prm.pktWbEmpty : ParamDef where
  id := 0x0C022000
  n := 1
  access := .rc
  ranges := [(0, 4294967295)]

/-- PKT.trunc (R361, Table 11-12). -/
def Prm.pktTrunc : ParamDef where
  id := 0x0C023000
  n := 1
  access := .rc
  ranges := [(0, 4294967295)]

/-- PKT.lenconf (R361, Table 11-12). -/
def Prm.pktLenconf : ParamDef where
  id := 0x0C024000
  n := 1
  access := .rc
  ranges := [(0, 4294967295)]

/-- PKT.tcam_miss (R361, Table 11-12). -/
def Prm.pktTcamMiss : ParamDef where
  id := 0x0C025000
  n := 3
  access := .rc
  ranges := [(0, 18446744073709551615)]
  width := 64

/-- PKT.flow_hit (R361, Table 11-12). -/
def Prm.pktFlowHit : ParamDef where
  id := 0x0C026000
  n := 1
  access := .rc
  ranges := [(0, 18446744073709551615)]
  width := 64

/-- PKT.flow_miss (R361, Table 11-12). -/
def Prm.pktFlowMiss : ParamDef where
  id := 0x0C027000
  n := 1
  access := .rc
  ranges := [(0, 18446744073709551615)]
  width := 64

/-- PKT.flow_cache_miss (R361, Table 11-12). -/
def Prm.pktFlowCacheMiss : ParamDef where
  id := 0x0C028000
  n := 1
  access := .rc
  ranges := [(0, 18446744073709551615)]
  width := 64

/-- PKT.exc (R361, Table 11-12). -/
def Prm.pktExc : ParamDef where
  id := 0x0C029000
  n := 10
  first := 1
  access := .rc
  ranges := [(0, 4294967295)]

/-- PKT.exc_host_drop (R361, Table 11-12). -/
def Prm.pktExcHostDrop : ParamDef where
  id := 0x0C02A000
  n := 10
  first := 1
  access := .rc
  ranges := [(0, 4294967295)]

/-- PKT.napt_full (R361, Table 11-12). -/
def Prm.pktNaptFull : ParamDef where
  id := 0x0C02B000
  n := 1
  access := .rc
  ranges := [(0, 4294967295)]

/-- PKT.flow_full (R361, Table 11-12). -/
def Prm.pktFlowFull : ParamDef where
  id := 0x0C02C000
  n := 1
  access := .rc
  ranges := [(0, 4294967295)]

/-- PKT.edit_fail (R361, Table 11-12). -/
def Prm.pktEditFail : ParamDef where
  id := 0x0C02D000
  n := 1
  access := .rc
  ranges := [(0, 4294967295)]

/-- PKT.bad_queue (R361, Table 11-12). -/
def Prm.pktBadQueue : ParamDef where
  id := 0x0C02E000
  n := 1
  access := .rc
  ranges := [(0, 4294967295)]

/-- PKT.recast_freed (R361, Table 11-12). -/
def Prm.pktRecastFreed : ParamDef where
  id := 0x0C02F000
  n := 1
  access := .rc
  ranges := [(0, 4294967295)]

/-- POOL.count (R363, Table 11-14). -/
def Prm.poolCount : ParamDef where
  id := 0x0D001000
  n := 6
  access := .rw
  deflt := fun i => [32768, 8192, 8192, 32768, 16384, 4096].getD i 0
  ranges := [(0, 262144)]

/-- POOL.size (R363, Table 11-14). -/
def Prm.poolSize : ParamDef where
  id := 0x0D002000
  n := 6
  access := .ro
  deflt := fun i => [256, 1024, 2048, 4096, 12288, 65536].getD i 0
  ranges := [(0, 65536)]

/-- POOL.headroom (R363, Table 11-14). -/
def Prm.poolHeadroom : ParamDef where
  id := 0x0D003000
  n := 1
  access := .rw
  deflt := fun _ => 64
  ranges := [(0, 255)]

/-- POOL.reserve (R363, Table 11-14). -/
def Prm.poolReserve : ParamDef where
  id := 0x0D004000
  n := 6
  access := .rw
  deflt := fun _ => 64
  ranges := [(0, 262144)]

/-- POOL.free (R363, Table 11-14). -/
def Prm.poolFree : ParamDef where
  id := 0x0D005000
  n := 6
  access := .ro
  deflt := fun i => [32768, 8192, 8192, 32768, 16384, 4096].getD i 0
  ranges := [(0, 262144)]

/-- POOL.alloc (R363, Table 11-14). -/
def Prm.poolAlloc : ParamDef where
  id := 0x0D006000
  n := 6
  access := .rc
  ranges := [(0, 18446744073709551615)]
  width := 64

/-- POOL.empty (R363, Table 11-14). -/
def Prm.poolEmpty : ParamDef where
  id := 0x0D007000
  n := 6
  access := .rc
  ranges := [(0, 4294967295)]

/-- POOL.bad_free (R363, Table 11-14). -/
def Prm.poolBadFree : ParamDef where
  id := 0x0D008000
  n := 6
  access := .rc
  ranges := [(0, 4294967295)]

/-- POOL.bad_ptr (R363, Table 11-14). -/
def Prm.poolBadPtr : ParamDef where
  id := 0x0D009000
  n := 1
  access := .rc
  ranges := [(0, 4294967295)]

/-- POOL.ecc_corr (R363, Table 11-14). -/
def Prm.poolEccCorr : ParamDef where
  id := 0x0D00A000
  n := 6
  access := .rc
  ranges := [(0, 4294967295)]

/-- TOLL.quantum (R380, Table 12-8). -/
def Prm.tollQuantum : ParamDef where
  id := 0x0F001000
  n := 17408
  access := .rw
  deflt := fun _ => 1536
  ranges := [(1, 1048576)]

/-- TOLL.cir_kbps (R380, Table 12-8). -/
def Prm.tollCirKbps : ParamDef where
  id := 0x0F002000
  n := 17408
  access := .rw
  ranges := [(0, 0), (1, 400000000)]

/-- TOLL.pir_kbps (R380, Table 12-8). -/
def Prm.tollPirKbps : ParamDef where
  id := 0x0F003000
  n := 17408
  access := .rw
  ranges := [(0, 0), (1, 400000000)]

/-- TOLL.cbs_bytes (R380, Table 12-8). -/
def Prm.tollCbsBytes : ParamDef where
  id := 0x0F004000
  n := 17408
  access := .rw
  deflt := fun _ => 16384
  ranges := [(64, 16777215)]

/-- TOLL.pbs_bytes (R380, Table 12-8). -/
def Prm.tollPbsBytes : ParamDef where
  id := 0x0F005000
  n := 17408
  access := .rw
  deflt := fun _ => 16384
  ranges := [(64, 16777215)]

/-- TOLL.overhead (R380, Table 12-8). -/
def Prm.tollOverhead : ParamDef where
  id := 0x0F006000
  n := 17408
  access := .rw
  deflt := fun i => if i < 16384 then 40 else if i < 16896 ∨ i = 16960 then 8 else if i < 16928 then 24 else 0
  ranges := [(-64, 255)]
  signed := true

/-- TOLL.gate_class (R380, Table 12-8). -/
def Prm.tollGateClass : ParamDef where
  id := 0x0F007000
  n := 17408
  access := .rw
  ranges := [(0, 7)]

/-- TOLL.qmax_bytes (R380, Table 12-8). -/
def Prm.tollQmaxBytes : ParamDef where
  id := 0x0F008000
  n := 17408
  access := .rw
  deflt := fun _ => 1048576
  ranges := [(1600, 268435456)]

/-- TOLL.yellow_max_bytes (R380, Table 12-8). -/
def Prm.tollYellowMaxBytes : ParamDef where
  id := 0x0F009000
  n := 17408
  access := .rw
  ranges := [(0, 268435456)]

/-- TOLL.policer (R380, Table 12-8). -/
def Prm.tollPolicer : ParamDef where
  id := 0x0F00A000
  n := 17408
  access := .rw
  deflt := fun _ => 65535
  ranges := [(0, 4095), (65535, 65535)]

/-- TOLL.host_ring (R380, Table 12-8). -/
def Prm.tollHostRing : ParamDef where
  id := 0x0F00B000
  n := 17408
  access := .rw
  ranges := [(0, 15)]

/-- TOLL.starve_us (R380, Table 12-8). -/
def Prm.tollStarveUs : ParamDef where
  id := 0x0F00C000
  n := 75
  access := .rw
  deflt := fun _ => 10000
  ranges := [(100, 1000000)]

/-- TOLL.sample_us (R380, Table 12-8). -/
def Prm.tollSampleUs : ParamDef where
  id := 0x0F00D000
  n := 1
  access := .rw
  deflt := fun _ => 1000
  ranges := [(0, 0), (100, 1000000)]

/-- TOLL.depth_bytes (R380, Table 12-8). -/
def Prm.tollDepthBytes : ParamDef where
  id := 0x0F00E000
  n := 17408
  access := .ro
  ranges := [(0, 4294967295)]

/-- TOLL.depth_pkts (R380, Table 12-8). -/
def Prm.tollDepthPkts : ParamDef where
  id := 0x0F00F000
  n := 17408
  access := .ro
  ranges := [(0, 262144)]

/-- TOLL.virtual_time (R380, Table 12-8). -/
def Prm.tollVirtualTime : ParamDef where
  id := 0x0F010000
  n := 75
  access := .ro
  ranges := [(0, 4294967295)]

/-- TOLL.gate_state (R380, Table 12-8). -/
def Prm.tollGateState : ParamDef where
  id := 0x0F011000
  n := 75
  access := .ro
  deflt := fun _ => 255
  ranges := [(0, 33554431)]

/-- TOLL.dequeued (R380, Table 12-8). -/
def Prm.tollDequeued : ParamDef where
  id := 0x0F012000
  n := 17408
  access := .rc
  ranges := [(0, 18446744073709551615)]
  width := 64

/-- TOLL.drop_tail (R380, Table 12-8). -/
def Prm.tollDropTail : ParamDef where
  id := 0x0F013000
  n := 17408
  access := .rc
  ranges := [(0, 4294967295)]

/-- TOLL.drop_color (R380, Table 12-8). -/
def Prm.tollDropColor : ParamDef where
  id := 0x0F014000
  n := 17408
  access := .rc
  ranges := [(0, 4294967295)]

/-- TOLL.flushed (R380, Table 12-8). -/
def Prm.tollFlushed : ParamDef where
  id := 0x0F015000
  n := 17408
  access := .rc
  ranges := [(0, 4294967295)]

/-- TOLL.cir_lost (R380, Table 12-8). -/
def Prm.tollCirLost : ParamDef where
  id := 0x0F016000
  n := 17408
  access := .rc
  ranges := [(0, 4294967295)]

/-- TOLL.pir_lost (R380, Table 12-8). -/
def Prm.tollPirLost : ParamDef where
  id := 0x0F017000
  n := 17408
  access := .rc
  ranges := [(0, 4294967295)]

/-- TOLL.broken (R380, Table 12-8). -/
def Prm.tollBroken : ParamDef where
  id := 0x0F018000
  n := 7
  first := 1
  access := .rc
  ranges := [(0, 4294967295)]

/-- TOLL.unassigned (R380, Table 12-8). -/
def Prm.tollUnassigned : ParamDef where
  id := 0x0F019000
  n := 1
  access := .rc
  ranges := [(0, 4294967295)]

/-- DMA.engine_enable (R409, Table 13-12). -/
def Prm.dmaEngineEnable : ParamDef where
  id := 0x10001000
  n := 8
  access := .rwi
  deflt := fun _ => 1
  ranges := [(0, 0), (1, 1), (0, 0)]

/-- DMA.chan_owner (R409, Table 13-12). -/
def Prm.dmaChanOwner : ParamDef where
  id := 0x10002000
  n := 256
  access := .rw
  deflt := fun i => let k := i % 32; if k < 8 then 0xFE else if k < 16 then 0 else if k < 20 then 1 else if k < 24 then 2 else if k < 28 then 3 else 0xFF
  ranges := [(0, 63), (254, 255)]

/-- DMA.chan_mode (R409, Table 13-12). -/
def Prm.dmaChanMode : ParamDef where
  id := 0x10003000
  n := 256
  access := .rw
  ranges := [(0, 1)]

/-- DMA.runs (R409, Table 13-12). -/
def Prm.dmaRuns : ParamDef where
  id := 0x10004000
  n := 256
  access := .rc
  ranges := [(0, 4294967295)]

/-- DMA.bytes (R409, Table 13-12). -/
def Prm.dmaBytes : ParamDef where
  id := 0x10005000
  n := 256
  access := .rc
  ranges := [(0, 18446744073709551615)]
  width := 64

/-- DMA.errors (R409, Table 13-12). -/
def Prm.dmaErrors : ParamDef where
  id := 0x10006000
  n := 256
  access := .rc
  ranges := [(0, 4294967295)]

/-- DMA.cq_lost (R409, Table 13-12). -/
def Prm.dmaCqLost : ParamDef where
  id := 0x10007000
  n := 8
  access := .rc
  ranges := [(0, 4294967295)]

/-- DMA.ring_enable (R409, Table 13-12). -/
def Prm.dmaRingEnable : ParamDef where
  id := 0x10008000
  n := 32
  access := .rw
  ranges := [(0, 0), (1, 1), (0, 0)]

/-- DMA.ring_base (R409, Table 13-12). -/
def Prm.dmaRingBase : ParamDef where
  id := 0x10009000
  n := 32
  access := .rw
  ranges := [(0, 18446744073709551615)]
  extra := fun v => v % 32 = 0

/-- DMA.ring_size (R409, Table 13-12). -/
def Prm.dmaRingSize : ParamDef where
  id := 0x1000A000
  n := 32
  access := .rw
  deflt := fun _ => 1024
  ranges := [(64, 64), (128, 128), (256, 256), (512, 512), (1024, 1024), (2048, 2048), (4096, 4096), (8192, 8192), (16384, 16384), (32768, 32768)]

/-- DMA.ring_irq_us (R409, Table 13-12). -/
def Prm.dmaRingIrqUs : ParamDef where
  id := 0x1000B000
  n := 32
  access := .rw
  deflt := fun _ => 20
  ranges := [(0, 0), (1, 10000)]

/-- DMA.ring_irq_pkts (R409, Table 13-12). -/
def Prm.dmaRingIrqPkts : ParamDef where
  id := 0x1000C000
  n := 32
  access := .rw
  deflt := fun _ => 32
  ranges := [(1, 4096)]

/-- DMA.ring_stopped (R409, Table 13-12). -/
def Prm.dmaRingStopped : ParamDef where
  id := 0x1000D000
  n := 32
  access := .ro
  ranges := [(0, 0), (1, 1)]

/-- DMA.ring_pkts (R409, Table 13-12). -/
def Prm.dmaRingPkts : ParamDef where
  id := 0x1000E000
  n := 32
  access := .rc
  ranges := [(0, 18446744073709551615)]
  width := 64

/-- DMA.ring_tx_err (R409, Table 13-12). -/
def Prm.dmaRingTxErr : ParamDef where
  id := 0x1000F000
  n := 32
  access := .rc
  ranges := [(0, 4294967295)]

/-- STORE.enable (R410, Table 13-13). -/
def Prm.storeEnable : ParamDef where
  id := 0x11001000
  n := 1
  access := .rw
  deflt := fun _ => 1
  ranges := [(0, 0), (1, 1), (0, 0)]

/-- STORE.drive_enable (R410, Table 13-13). -/
def Prm.storeDriveEnable : ParamDef where
  id := 0x11002000
  n := 2
  access := .rw
  deflt := fun _ => 1
  ranges := [(0, 0), (1, 1), (0, 0)]

/-- STORE.drive_state (R410, Table 13-13). -/
def Prm.storeDriveState : ParamDef where
  id := 0x11003000
  n := 2
  access := .ro
  ranges := [(0, 4)]

/-- STORE.extents_total (R410, Table 13-13). -/
def Prm.storeExtentsTotal : ParamDef where
  id := 0x11004000
  n := 2
  access := .ro
  ranges := [(0, 7629394)]

/-- STORE.extents_free (R410, Table 13-13). -/
def Prm.storeExtentsFree : ParamDef where
  id := 0x11005000
  n := 2
  access := .ro
  ranges := [(0, 7629394)]

/-- STORE.objects (R410, Table 13-13). -/
def Prm.storeObjects : ParamDef where
  id := 0x11006000
  n := 1
  access := .ro
  ranges := [(0, 4194304)]

/-- STORE.cmd_timeout_ms (R410, Table 13-13). -/
def Prm.storeCmdTimeoutMs : ParamDef where
  id := 0x11007000
  n := 2
  access := .rw
  deflt := fun _ => 2000
  ranges := [(100, 60000)]

/-- STORE.read_kib (R410, Table 13-13). -/
def Prm.storeReadKib : ParamDef where
  id := 0x11008000
  n := 1
  access := .rw
  deflt := fun _ => 128
  ranges := [(4, 1024)]
  extra := fun v => v % 4 = 0

/-- STORE.read_inflight (R410, Table 13-13). -/
def Prm.storeReadInflight : ParamDef where
  id := 0x11009000
  n := 1
  access := .rw
  deflt := fun _ => 8
  ranges := [(1, 64)]

/-- STORE.buf_wait (R410, Table 13-13). -/
def Prm.storeBufWait : ParamDef where
  id := 0x1100A000
  n := 1
  access := .rc
  ranges := [(0, 18446744073709551615)]
  width := 64

/-- STORE.mc_member_drop (R410, Table 13-13). -/
def Prm.storeMcMemberDrop : ParamDef where
  id := 0x1100B000
  n := 1
  access := .rc
  ranges := [(0, 4294967295)]

/-- STORE.ingest_unbound (R410, Table 13-13). -/
def Prm.storeIngestUnbound : ParamDef where
  id := 0x1100C000
  n := 1
  access := .rc
  ranges := [(0, 4294967295)]

/-- STORE.ingest_drop (R410, Table 13-13). -/
def Prm.storeIngestDrop : ParamDef where
  id := 0x1100D000
  n := 1
  access := .rc
  ranges := [(0, 4294967295)]

/-- STORE.resets (R410, Table 13-13). -/
def Prm.storeResets : ParamDef where
  id := 0x1100E000
  n := 2
  access := .rc
  ranges := [(0, 4294967295)]

/-- STORE.read_bytes (R410, Table 13-13). -/
def Prm.storeReadBytes : ParamDef where
  id := 0x1100F000
  n := 2
  access := .rc
  ranges := [(0, 18446744073709551615)]
  width := 64

/-- STORE.write_bytes (R410, Table 13-13). -/
def Prm.storeWriteBytes : ParamDef where
  id := 0x11010000
  n := 2
  access := .rc
  ranges := [(0, 18446744073709551615)]
  width := 64

/-- ETH.enable (R433, Table 14-9). -/
def Prm.ethEnable : ParamDef where
  id := 0x12001000
  n := 4
  access := .rw
  deflt := fun _ => 1
  ranges := [(0, 0), (1, 1), (0, 0)]

/-- ETH.mac_addr (R433, Table 14-9). -/
def Prm.ethMacAddr : ParamDef where
  id := 0x12002000
  n := 4
  access := .rw
  deflt := fun i => (Config.otpBaseAddress + 8 + i) % 2 ^ 48
  ranges := [(0, 281474976710655)]
  extra := fun v => v / 2 ^ 40 % 2 = 0

/-- ETH.filter (R433, Table 14-9). -/
def Prm.ethFilter : ParamDef where
  id := 0x12003000
  n := 4
  access := .rw
  ranges := [(0, 1)]

/-- ETH.max_frame (R433, Table 14-9). -/
def Prm.ethMaxFrame : ParamDef where
  id := 0x12004000
  n := 4
  access := .rw
  deflt := fun _ => 9600
  ranges := [(1518, 9600)]

/-- ETH.link_state (R433, Table 14-9). -/
def Prm.ethLinkState : ParamDef where
  id := 0x12005000
  n := 4
  access := .ro
  ranges := [(0, 3)]

/-- ETH.lpi_mode (R433, Table 14-9). -/
def Prm.ethLpiMode : ParamDef where
  id := 0x12006000
  n := 4
  access := .rw
  deflt := fun _ => 1
  ranges := [(0, 2)]

/-- ETH.lpi_idle_us (R433, Table 14-9). -/
def Prm.ethLpiIdleUs : ParamDef where
  id := 0x12007000
  n := 4
  access := .rw
  deflt := fun _ => 20
  ranges := [(1, 10000)]

/-- ETH.lpi_rx_tw_us (R433, Table 14-9). -/
def Prm.ethLpiRxTwUs : ParamDef where
  id := 0x12008000
  n := 4
  access := .rw
  deflt := fun _ => 4
  ranges := [(4, 1000)]

/-- ETH.lpi_partner_tw_us (R433, Table 14-9). -/
def Prm.ethLpiPartnerTwUs : ParamDef where
  id := 0x12009000
  n := 4
  access := .rw
  ranges := [(0, 0), (1, 65535)]

/-- ETH.lpi_tw_res_us (R433, Table 14-9). -/
def Prm.ethLpiTwResUs : ParamDef where
  id := 0x1200A000
  n := 4
  access := .ro
  ranges := [(0, 0), (5, 65535)]

/-- ETH.lldp_interval_s (R433, Table 14-9). -/
def Prm.ethLldpIntervalS : ParamDef where
  id := 0x1200B000
  n := 4
  access := .rw
  deflt := fun _ => 30
  ranges := [(1, 3600)]

/-- ETH.ptp_tb (R433, Table 14-9). -/
def Prm.ethPtpTb : ParamDef where
  id := 0x1200C000
  n := 4
  access := .rw
  deflt := fun _ => 2
  ranges := [(0, 11)]

/-- ETH.ptp_detect (R433, Table 14-9). -/
def Prm.ethPtpDetect : ParamDef where
  id := 0x1200D000
  n := 4
  access := .rw
  deflt := fun _ => 7
  ranges := [(0, 7)]

/-- ETH.ptp_rx_comp_ns (R433, Table 14-9). -/
def Prm.ethPtpRxCompNs : ParamDef where
  id := 0x1200E000
  n := 4
  access := .rw
  ranges := [(-1000, 1000)]
  signed := true

/-- ETH.ptp_tx_comp_ns (R433, Table 14-9). -/
def Prm.ethPtpTxCompNs : ParamDef where
  id := 0x1200F000
  n := 4
  access := .rw
  ranges := [(-1000, 1000)]
  signed := true

/-- ETH.ptp_rx_lat_ns (R433, Table 14-9). -/
def Prm.ethPtpRxLatNs : ParamDef where
  id := 0x12010000
  n := 4
  access := .ro
  deflt := fun _ => 435
  ranges := [(0, 65535)]

/-- ETH.ptp_tx_lat_ns (R433, Table 14-9). -/
def Prm.ethPtpTxLatNs : ParamDef where
  id := 0x12011000
  n := 4
  access := .ro
  deflt := fun _ => 230
  ranges := [(0, 65535)]

/-- ETH.rx_fifo_drop (R433, Table 14-9). -/
def Prm.ethRxFifoDrop : ParamDef where
  id := 0x12012000
  n := 4
  access := .rc
  ranges := [(0, 4294967295)]

/-- ETH.ptp_ts_lost (R433, Table 14-9). -/
def Prm.ethPtpTsLost : ParamDef where
  id := 0x12013000
  n := 4
  access := .rc
  ranges := [(0, 4294967295)]

/-- TIME.state (R434, Table 14-10). -/
def Prm.timeState : ParamDef where
  id := 0x13001000
  n := 12
  access := .ro
  deflt := fun i => if i = 0 then 0 else 1
  ranges := [(0, 2)]

/-- TIME.now (R434, Table 14-10). -/
def Prm.timeNow : ParamDef where
  id := 0x13002000
  n := 12
  access := .ro
  ranges := [(0, 18446744073709551615)]

/-- TIME.rate_adj (R434, Table 14-10). -/
def Prm.timeRateAdj : ParamDef where
  id := 0x13003000
  n := 12
  access := .rwi
  ranges := [(-500000000, 500000000)]
  signed := true

/-- TIME.step_ns (R434, Table 14-10). -/
def Prm.timeStepNs : ParamDef where
  id := 0x13004000
  n := 12
  access := .rwi
  ranges := [(-9223372036854775808, 9223372036854775807)]
  signed := true

/-- TIME.reset (R434, Table 14-10). -/
def Prm.timeReset : ParamDef where
  id := 0x13005000
  n := 12
  access := .rwi
  ranges := [(0, 1)]

/-- TIME.tb2_source (R434, Table 14-10). -/
def Prm.timeTb2Source : ParamDef where
  id := 0x13006000
  n := 1
  access := .rw
  ranges := [(0, 3)]

/-- TIME.pps_in_enable (R434, Table 14-10). -/
def Prm.timePpsInEnable : ParamDef where
  id := 0x13007000
  n := 1
  access := .rw
  ranges := [(0, 0), (1, 1), (0, 0)]

/-- TIME.pps_in_edge (R434, Table 14-10). -/
def Prm.timePpsInEdge : ParamDef where
  id := 0x13008000
  n := 1
  access := .rw
  ranges := [(0, 1)]

/-- TIME.pps_in_comp_ns (R434, Table 14-10). -/
def Prm.timePpsInCompNs : ParamDef where
  id := 0x13009000
  n := 1
  access := .rw
  ranges := [(-1000, 1000)]
  signed := true

/-- TIME.pps_in_tol_ns (R434, Table 14-10). -/
def Prm.timePpsInTolNs : ParamDef where
  id := 0x1300A000
  n := 1
  access := .rw
  deflt := fun _ => 200000
  ranges := [(1000, 1000000)]

/-- TIME.pps_in_last (R434, Table 14-10). -/
def Prm.timePpsInLast : ParamDef where
  id := 0x1300B000
  n := 1
  access := .ro
  ranges := [(0, 18446744073709551615)]

/-- TIME.pps_in_rejected (R434, Table 14-10). -/
def Prm.timePpsInRejected : ParamDef where
  id := 0x1300C000
  n := 1
  access := .rc
  ranges := [(0, 4294967295)]

/-- TIME.pps_out_enable (R434, Table 14-10). -/
def Prm.timePpsOutEnable : ParamDef where
  id := 0x1300D000
  n := 1
  access := .rw
  ranges := [(0, 0), (1, 1), (0, 0)]

/-- TIME.pps_out_tb (R434, Table 14-10). -/
def Prm.timePpsOutTb : ParamDef where
  id := 0x1300E000
  n := 1
  access := .rw
  deflt := fun _ => 2
  ranges := [(0, 11)]

/-- TIME.pps_out_width_us (R434, Table 14-10). -/
def Prm.timePpsOutWidthUs : ParamDef where
  id := 0x1300F000
  n := 1
  access := .rw
  deflt := fun _ => 100
  ranges := [(1, 500000)]

/-- TIME.pps_out_comp_ns (R434, Table 14-10). -/
def Prm.timePpsOutCompNs : ParamDef where
  id := 0x13010000
  n := 1
  access := .rw
  ranges := [(-1000, 1000)]
  signed := true

/-- CVN.enable (R462, Table 15-12). -/
def Prm.cvnEnable : ParamDef where
  id := 0x14001000
  n := 1
  access := .rw
  deflt := fun _ => 1
  ranges := [(0, 0), (1, 1), (0, 0)]

/-- CVN.region (R462, Table 15-12). -/
def Prm.cvnRegion : ParamDef where
  id := 0x14002000
  n := 1
  access := .rw
  deflt := fun _ => 255
  ranges := [(0, 2), (255, 255)]

/-- CVN.channel (R462, Table 15-12). -/
def Prm.cvnChannel : ParamDef where
  id := 0x14003000
  n := 1
  access := .rw
  ranges := [(0, 255)]

/-- CVN.rate (R462, Table 15-12). -/
def Prm.cvnRate : ParamDef where
  id := 0x14004000
  n := 1
  access := .rw
  deflt := fun _ => 3
  ranges := [(0, 3)]

/-- CVN.code_base (R462, Table 15-12). -/
def Prm.cvnCodeBase : ParamDef where
  id := 0x14005000
  n := 1
  access := .rw
  ranges := [(0, 63)]

/-- CVN.tx_power_dbm (R462, Table 15-12). -/
def Prm.cvnTxPowerDbm : ParamDef where
  id := 0x14006000
  n := 1
  access := .rw
  deflt := fun _ => 10
  ranges := [(-10, 30)]
  signed := true

/-- CVN.sync_err_tol (R462, Table 15-12). -/
def Prm.cvnSyncErrTol : ParamDef where
  id := 0x14007000
  n := 1
  access := .rw
  deflt := fun _ => 3
  ranges := [(0, 6)]

/-- CVN.restart_db (R462, Table 15-12). -/
def Prm.cvnRestartDb : ParamDef where
  id := 0x14008000
  n := 1
  access := .rw
  deflt := fun _ => 6
  ranges := [(0, 0), (3, 20)]

/-- CVN.xcvr_rx_gain_db (R462, Table 15-12). -/
def Prm.cvnXcvrRxGainDb : ParamDef where
  id := 0x14009000
  n := 1
  access := .rw
  ranges := [(-400, 400)]
  signed := true

/-- CVN.xcvr_rx_lat_ns (R462, Table 15-12). -/
def Prm.cvnXcvrRxLatNs : ParamDef where
  id := 0x1400A000
  n := 1
  access := .rw
  ranges := [(0, 100000)]

/-- CVN.xcvr_tx_lat_ns (R462, Table 15-12). -/
def Prm.cvnXcvrTxLatNs : ParamDef where
  id := 0x1400B000
  n := 1
  access := .rw
  ranges := [(0, 100000)]

/-- CVN.xcvr_tx_lead_us (R462, Table 15-12). -/
def Prm.cvnXcvrTxLeadUs : ParamDef where
  id := 0x1400C000
  n := 1
  access := .rw
  deflt := fun _ => 40
  ranges := [(10, 200)]

/-- CVN.venue_id (R462, Table 15-12). -/
def Prm.cvnVenueId : ParamDef where
  id := 0x1400D000
  n := 1
  access := .rw
  ranges := [(0, 65535)]

/-- CVN.member_id (R462, Table 15-12). -/
def Prm.cvnMemberId : ParamDef where
  id := 0x1400E000
  n := 1
  access := .rw
  deflt := fun _ => 65535
  ranges := [(0, 2047), (65535, 65535)]

/-- CVN.own_id (R462, Table 15-12). -/
def Prm.cvnOwnId : ParamDef where
  id := 0x1400F000
  n := 1
  access := .ro
  deflt := fun _ => 65535
  ranges := [(0, 2047), (65535, 65535)]

/-- CVN.member_state (R462, Table 15-12). -/
def Prm.cvnMemberState : ParamDef where
  id := 0x14010000
  n := 1
  access := .ro
  ranges := [(0, 4)]

/-- CVN.max_version (R462, Table 15-12). -/
def Prm.cvnMaxVersion : ParamDef where
  id := 0x14011000
  n := 1
  access := .rw
  deflt := fun _ => 3
  ranges := [(1, 3)]

/-- CVN.key_slot (R462, Table 15-12). -/
def Prm.cvnKeySlot : ParamDef where
  id := 0x14012000
  n := 1
  access := .rw
  deflt := fun _ => 65535
  ranges := [(0, 4095), (65535, 65535)]

/-- CVN.auth_required (R462, Table 15-12). -/
def Prm.cvnAuthRequired : ParamDef where
  id := 0x14013000
  n := 1
  access := .rw
  ranges := [(0, 0), (1, 1), (0, 0)]

/-- CVN.time_root (R462, Table 15-12). -/
def Prm.cvnTimeRoot : ParamDef where
  id := 0x14014000
  n := 1
  access := .rw
  ranges := [(0, 0), (1, 1), (0, 0)]

/-- CVN.time_lqi_min (R462, Table 15-12). -/
def Prm.cvnTimeLqiMin : ParamDef where
  id := 0x14015000
  n := 1
  access := .rw
  deflt := fun _ => 128
  ranges := [(0, 255)]

/-- CVN.default_prop_ns (R462, Table 15-12). -/
def Prm.cvnDefaultPropNs : ParamDef where
  id := 0x14016000
  n := 1
  access := .rw
  ranges := [(0, 10000)]

/-- CVN.time_max_ppm (R462, Table 15-12). -/
def Prm.cvnTimeMaxPpm : ParamDef where
  id := 0x14017000
  n := 1
  access := .rw
  deflt := fun _ => 100
  ranges := [(1, 500)]

/-- CVN.hops (R462, Table 15-12). -/
def Prm.cvnHops : ParamDef where
  id := 0x14018000
  n := 1
  access := .ro
  deflt := fun _ => 15
  ranges := [(0, 15)]

/-- CVN.parent (R462, Table 15-12). -/
def Prm.cvnParent : ParamDef where
  id := 0x14019000
  n := 1
  access := .ro
  deflt := fun _ => 65535
  ranges := [(0, 2047), (65535, 65535)]

/-- CVN.time_offset_ns (R462, Table 15-12). -/
def Prm.cvnTimeOffsetNs : ParamDef where
  id := 0x1401A000
  n := 1
  access := .ro
  ranges := [(-2147483648, 2147483647)]
  signed := true

/-- CVN.superframe (R462, Table 15-12). -/
def Prm.cvnSuperframe : ParamDef where
  id := 0x1401B000
  n := 1
  access := .ro
  ranges := [(0, 4294967295)]

/-- CVN.noise_floor (R462, Table 15-12). -/
def Prm.cvnNoiseFloor : ParamDef where
  id := 0x1401C000
  n := 1
  access := .ro
  ranges := [(-32768, 32767)]
  signed := true

/-- CVN.fibre_hold_ms (R462, Table 15-12). -/
def Prm.cvnFibreHoldMs : ParamDef where
  id := 0x1401D000
  n := 1
  access := .rw
  deflt := fun _ => 200
  ranges := [(10, 10000)]

/-- CVN.fibre_ttl (R462, Table 15-12). -/
def Prm.cvnFibreTtl : ParamDef where
  id := 0x1401E000
  n := 1
  access := .rw
  deflt := fun _ => 2
  ranges := [(0, 7)]

/-- CVN.plan_accept (R462, Table 15-12). -/
def Prm.cvnPlanAccept : ParamDef where
  id := 0x1401F000
  n := 1
  access := .rw
  deflt := fun _ => 1
  ranges := [(0, 0), (1, 1)]

/-- CVN.plan_lead_sf (R462, Table 15-12). -/
def Prm.cvnPlanLeadSf : ParamDef where
  id := 0x14020000
  n := 1
  access := .rw
  deflt := fun _ => 16
  ranges := [(8, 255)]

/-- CVN.plan_apply (R462, Table 15-12). -/
def Prm.cvnPlanApply : ParamDef where
  id := 0x14021000
  n := 3
  access := .rw
  ranges := [(0, 0), (1, 1), (0, 0)]

/-- CVN.plan_rssi_dbm (R462, Table 15-12). -/
def Prm.cvnPlanRssiDbm : ParamDef where
  id := 0x14022000
  n := 1
  access := .rw
  deflt := fun _ => -85
  ranges := [(-120, 0)]
  signed := true

/-- CVN.plan_round_sf (R462, Table 15-12). -/
def Prm.cvnPlanRoundSf : ParamDef where
  id := 0x14023000
  n := 1
  access := .rw
  deflt := fun _ => 8
  ranges := [(2, 64)]

/-- CVN.plan_channel (R462, Table 15-12). -/
def Prm.cvnPlanChannel : ParamDef where
  id := 0x14024000
  n := 3
  access := .ro
  deflt := fun _ => 15
  ranges := [(0, 7), (15, 15)]

/-- CVN.rx_packets (R462, Table 15-12). -/
def Prm.cvnRxPackets : ParamDef where
  id := 0x14025000
  n := 1
  access := .rc
  ranges := [(0, 4294967295)]

/-- CVN.tx_packets (R462, Table 15-12). -/
def Prm.cvnTxPackets : ParamDef where
  id := 0x14026000
  n := 1
  access := .rc
  ranges := [(0, 4294967295)]

/-- CVN.rx_hdr_err (R462, Table 15-12). -/
def Prm.cvnRxHdrErr : ParamDef where
  id := 0x14027000
  n := 1
  access := .rc
  ranges := [(0, 4294967295)]

/-- CVN.rx_crc_err (R462, Table 15-12). -/
def Prm.cvnRxCrcErr : ParamDef where
  id := 0x14028000
  n := 1
  access := .rc
  ranges := [(0, 4294967295)]

/-- CVN.rx_drop (R462, Table 15-12). -/
def Prm.cvnRxDrop : ParamDef where
  id := 0x14029000
  n := 1
  access := .rc
  ranges := [(0, 4294967295)]

/-- CVN.captured_over (R462, Table 15-12). -/
def Prm.cvnCapturedOver : ParamDef where
  id := 0x1402A000
  n := 1
  access := .rc
  ranges := [(0, 4294967295)]

/-- CVN.mic_fail (R462, Table 15-12). -/
def Prm.cvnMicFail : ParamDef where
  id := 0x1402B000
  n := 1
  access := .rc
  ranges := [(0, 4294967295)]

/-- CVN.duty_skip (R462, Table 15-12). -/
def Prm.cvnDutySkip : ParamDef where
  id := 0x1402C000
  n := 1
  access := .rc
  ranges := [(0, 4294967295)]

/-- CVN.conflicts (R462, Table 15-12). -/
def Prm.cvnConflicts : ParamDef where
  id := 0x1402D000
  n := 1
  access := .rc
  ranges := [(0, 4294967295)]

/-- SEC.lifecycle (R486, Table 16-9). -/
def Prm.secLifecycle : ParamDef where
  id := 0x15001000
  n := 1
  access := .ro
  deflt := fun _ => 1 + Config.otpLifecycle % 2
  ranges := [(1, 1), (2, 2)]

/-- SEC.debug_state (R486, Table 16-9). -/
def Prm.secDebugState : ParamDef where
  id := 0x15002000
  n := 1
  access := .ro
  ranges := [(0, 7)]

/-- SEC.debug_challenge (R486, Table 16-9). -/
def Prm.secDebugChallenge : ParamDef where
  id := 0x15003000
  n := 1
  access := .ro
  ranges := [(0, 18446744073709551615)]

/-- SEC.root_revoked (R486, Table 16-9). -/
def Prm.secRootRevoked : ParamDef where
  id := 0x15004000
  n := 1
  access := .ro
  ranges := [(0, 63)]

/-- SEC.cust_revoke (R486, Table 16-9). -/
def Prm.secCustRevoke : ParamDef where
  id := 0x15005000
  n := 2
  access := .rwi
  ranges := [(0, 1)]

/-- SEC.svn_otp (R486, Table 16-9). -/
def Prm.secSvnOtp : ParamDef where
  id := 0x15006000
  n := 1
  access := .ro
  ranges := [(0, 64)]

/-- SEC.svn_running (R486, Table 16-9). -/
def Prm.secSvnRunning : ParamDef where
  id := 0x15007000
  n := 1
  access := .ro
  ranges := [(0, 64)]

/-- SEC.svn_advance (R486, Table 16-9). -/
def Prm.secSvnAdvance : ParamDef where
  id := 0x15008000
  n := 1
  access := .rwi
  ranges := [(0, 1)]

/-- SEC.pattern_key_slot (R486, Table 16-9). -/
def Prm.secPatternKeySlot : ParamDef where
  id := 0x15009000
  n := 1
  access := .rw
  deflt := fun _ => 65535
  ranges := [(0, 3839), (65535, 65535)]

/-- SEC.slot_usage (R486, Table 16-9). -/
def Prm.secSlotUsage : ParamDef where
  id := 0x1500A000
  n := 4096
  access := .ro
  ranges := [(0, 8), (255, 255)]

/-- SEC.slots_used (R486, Table 16-9). -/
def Prm.secSlotsUsed : ParamDef where
  id := 0x1500B000
  n := 1
  access := .ro
  ranges := [(0, 3840)]

/-- SEC.persistent_used (R486, Table 16-9). -/
def Prm.secPersistentUsed : ParamDef where
  id := 0x1500C000
  n := 1
  access := .ro
  ranges := [(0, 256)]

/-- SEC.dummy_max (R486, Table 16-9). -/
def Prm.secDummyMax : ParamDef where
  id := 0x1500D000
  n := 1
  access := .rw
  deflt := fun _ => 4
  ranges := [(1, 8)]

/-- SEC.macsec_auth_fail (R486, Table 16-9). -/
def Prm.secMacsecAuthFail : ParamDef where
  id := 0x1500E000
  n := 4
  access := .rc
  ranges := [(0, 4294967295)]

/-- SEC.macsec_replay (R486, Table 16-9). -/
def Prm.secMacsecReplay : ParamDef where
  id := 0x1500F000
  n := 4
  access := .rc
  ranges := [(0, 4294967295)]

/-- SEC.macsec_tx_drop (R486, Table 16-9). -/
def Prm.secMacsecTxDrop : ParamDef where
  id := 0x15010000
  n := 4
  access := .rc
  ranges := [(0, 4294967295)]

/-- MGMT.temp (R518, Table 17-14). -/
def Prm.mgmtTemp : ParamDef where
  id := 0x16001000
  n := 16
  access := .ro
  ranges := [(-32768, 32767)]
  signed := true

/-- MGMT.temp_max (R518, Table 17-14). -/
def Prm.mgmtTempMax : ParamDef where
  id := 0x16002000
  n := 1
  access := .ro
  ranges := [(-32768, 32767)]
  signed := true

/-- MGMT.rail_mv (R518, Table 17-14). -/
def Prm.mgmtRailMv : ParamDef where
  id := 0x16003000
  n := 9
  access := .ro
  ranges := [(0, 65535)]

/-- MGMT.power_mw (R518, Table 17-14). -/
def Prm.mgmtPowerMw : ParamDef where
  id := 0x16004000
  n := 1
  access := .ro
  ranges := [(0, 65535)]

/-- MGMT.thermal_margin_c (R518, Table 17-14). -/
def Prm.mgmtThermalMarginC : ParamDef where
  id := 0x16005000
  n := 1
  access := .rw
  ranges := [(0, 20)]

/-- MGMT.cap_step (R518, Table 17-14). -/
def Prm.mgmtCapStep : ParamDef where
  id := 0x16006000
  n := 1
  access := .ro
  ranges := [(0, 3)]

/-- MGMT.log_flash_mask (R518, Table 17-14). -/
def Prm.mgmtLogFlashMask : ParamDef where
  id := 0x16007000
  n := 1
  access := .rw
  deflt := fun _ => 3
  ranges := [(1, 31)]

/-- MGMT.log_flash_lost (R518, Table 17-14). -/
def Prm.mgmtLogFlashLost : ParamDef where
  id := 0x16008000
  n := 1
  access := .rc
  ranges := [(0, 4294967295)]

/-- MGMT.log_seq (R518, Table 17-14). -/
def Prm.mgmtLogSeq : ParamDef where
  id := 0x16009000
  n := 1
  access := .ro
  ranges := [(0, 4294967295)]

/-- MGMT.fw_trial (R518, Table 17-14). -/
def Prm.mgmtFwTrial : ParamDef where
  id := 0x1600A000
  n := 1
  access := .ro
  ranges := [(0, 0), (1, 1)]

/-- MGMT.fw_trial_s (R518, Table 17-14). -/
def Prm.mgmtFwTrialS : ParamDef where
  id := 0x1600B000
  n := 1
  access := .rw
  deflt := fun _ => 600
  ranges := [(60, 86400)]

/-- MGMT.fw_version (R518, Table 17-14). -/
def Prm.mgmtFwVersion : ParamDef where
  id := 0x1600C000
  n := 2
  access := .ro
  ranges := [(0, 4294967295)]

/-- MGMT.fw_staged (R518, Table 17-14). -/
def Prm.mgmtFwStaged : ParamDef where
  id := 0x1600D000
  n := 1
  access := .ro
  ranges := [(0, 0), (1, 1)]

/-- MGMT.reset_count (R518, Table 17-14). -/
def Prm.mgmtResetCount : ParamDef where
  id := 0x1600E000
  n := 6
  access := .ro
  ranges := [(0, 4294967295)]

/-- MGMT.lockstep_events (R518, Table 17-14). -/
def Prm.mgmtLockstepEvents : ParamDef where
  id := 0x1600F000
  n := 1
  access := .ro
  ranges := [(0, 4294967295)]

/-- FAULT.escalate_n (R518, Table 17-14). -/
def Prm.faultEscalateN : ParamDef where
  id := 0x18001000
  n := 1
  access := .rw
  deflt := fun _ => 3
  ranges := [(2, 15)]

/-- FAULT.escalate_window_s (R518, Table 17-14). -/
def Prm.faultEscalateWindowS : ParamDef where
  id := 0x18002000
  n := 1
  access := .rw
  deflt := fun _ => 60
  ranges := [(10, 3600)]

/-- FAULT.dev_window_s (R518, Table 17-14). -/
def Prm.faultDevWindowS : ParamDef where
  id := 0x18003000
  n := 1
  access := .rw
  deflt := fun _ => 600
  ranges := [(60, 86400)]

/-- FAULT.held (R518, Table 17-14). -/
def Prm.faultHeld : ParamDef where
  id := 0x18004000
  n := 1
  access := .ro
  ranges := [(0, 0), (1, 1)]

/-- FAULT.recasts (R518, Table 17-14). -/
def Prm.faultRecasts : ParamDef where
  id := 0x18005000
  n := 3
  access := .rc
  ranges := [(0, 4294967295)]

/-- FAULT.absorbed (R518, Table 17-14). -/
def Prm.faultAbsorbed : ParamDef where
  id := 0x18006000
  n := 1
  access := .rc
  ranges := [(0, 4294967295)]

/-- FAULT.last_cause (R518, Table 17-14). -/
def Prm.faultLastCause : ParamDef where
  id := 0x18007000
  n := 1
  access := .ro
  ranges := [(0, 65535)]

/-- FAULT.ddr_ecc_corr (R518, Table 17-14). -/
def Prm.faultDdrEccCorr : ParamDef where
  id := 0x18008000
  n := 4
  access := .rc
  ranges := [(0, 4294967295)]

/-- FAULT.ddr_ecc_uncorr (R518, Table 17-14). -/
def Prm.faultDdrEccUncorr : ParamDef where
  id := 0x18009000
  n := 4
  access := .rc
  ranges := [(0, 4294967295)]

/-- PWR.state (R518, Table 17-14). -/
def Prm.pwrState : ParamDef where
  id := 0x17001000
  n := 1
  access := .ro
  ranges := [(0, 4)]

/-- PWR.wake_sources (R518, Table 17-14). -/
def Prm.pwrWakeSources : ParamDef where
  id := 0x17002000
  n := 1
  access := .rw
  deflt := fun _ => 3
  ranges := [(1, 15)]

/-- PWR.feeds_in_sleep (R518, Table 17-14). -/
def Prm.pwrFeedsInSleep : ParamDef where
  id := 0x17003000
  n := 1
  access := .rw
  ranges := [(0, 0), (1, 1)]

/-- PWR.drain_ms (R518, Table 17-14). -/
def Prm.pwrDrainMs : ParamDef where
  id := 0x17004000
  n := 1
  access := .rw
  deflt := fun _ => 50
  ranges := [(1, 10000)]

/-- PWR.reg_timeout_ms (R518, Table 17-14). -/
def Prm.pwrRegTimeoutMs : ParamDef where
  id := 0x17005000
  n := 1
  access := .rw
  deflt := fun _ => 20
  ranges := [(1, 1000)]

/-- PWR.osc_timeout_us (R518, Table 17-14). -/
def Prm.pwrOscTimeoutUs : ParamDef where
  id := 0x17006000
  n := 1
  access := .rw
  deflt := fun _ => 2000
  ranges := [(100, 100000)]

/-- PWR.mem_timeout_ms (R518, Table 17-14). -/
def Prm.pwrMemTimeoutMs : ParamDef where
  id := 0x17007000
  n := 1
  access := .rw
  deflt := fun _ => 10
  ranges := [(1, 1000)]

/-- PWR.logic_timeout_ms (R518, Table 17-14). -/
def Prm.pwrLogicTimeoutMs : ParamDef where
  id := 0x17008000
  n := 1
  access := .rw
  deflt := fun _ => 100
  ranges := [(10, 10000)]

/-- PWR.retry_ms (R518, Table 17-14). -/
def Prm.pwrRetryMs : ParamDef where
  id := 0x17009000
  n := 1
  access := .rw
  deflt := fun _ => 100
  ranges := [(10, 10000)]

/-- PWR.refusals (R518, Table 17-14). -/
def Prm.pwrRefusals : ParamDef where
  id := 0x1700A000
  n := 12
  access := .rc
  ranges := [(0, 4294967295)]

/-- PWR.last_refuser (R518, Table 17-14). -/
def Prm.pwrLastRefuser : ParamDef where
  id := 0x1700B000
  n := 1
  access := .ro
  deflt := fun _ => 255
  ranges := [(0, 11), (254, 255)]

/-- PWR.wake_fail (R518, Table 17-14). -/
def Prm.pwrWakeFail : ParamDef where
  id := 0x1700C000
  n := 4
  access := .rc
  ranges := [(0, 4294967295)]

/-- PWR.entry_aborts (R518, Table 17-14). -/
def Prm.pwrEntryAborts : ParamDef where
  id := 0x1700D000
  n := 1
  access := .rc
  ranges := [(0, 4294967295)]

/-- PWR.last_wake_cause (R518, Table 17-14). -/
def Prm.pwrLastWakeCause : ParamDef where
  id := 0x1700E000
  n := 1
  access := .ro
  deflt := fun _ => 255
  ranges := [(0, 4), (255, 255)]

/-- PWR.sleep_ms (R518, Table 17-14). -/
def Prm.pwrSleepMs : ParamDef where
  id := 0x1700F000
  n := 1
  access := .rc
  ranges := [(0, 18446744073709551615)]
  width := 64

/-- PWR.sleep_freed (R518, Table 17-14). -/
def Prm.pwrSleepFreed : ParamDef where
  id := 0x17010000
  n := 1
  access := .rc
  ranges := [(0, 4294967295)]

/-- PWR.lane_wake_fail (R518, Table 17-14). -/
def Prm.pwrLaneWakeFail : ParamDef where
  id := 0x17011000
  n := 1
  access := .rc
  ranges := [(0, 4294967295)]

/-- DEV.gpio_mode (R535, Table 18-10). -/
def Prm.devGpioMode : ParamDef where
  id := 0x01020000
  n := 24
  access := .rw
  ranges := [(0, 2)]

/-- DEV.gpio_out (R535, Table 18-10). -/
def Prm.devGpioOut : ParamDef where
  id := 0x01021000
  n := 24
  access := .rwi
  ranges := [(0, 0), (1, 1)]

/-- DEV.gpio_in (R535, Table 18-10). -/
def Prm.devGpioIn : ParamDef where
  id := 0x01022000
  n := 24
  access := .ro
  ranges := [(0, 0), (1, 1)]

/-- DEV.gpio_pull (R535, Table 18-10). -/
def Prm.devGpioPull : ParamDef where
  id := 0x01023000
  n := 24
  access := .rw
  deflt := fun _ => 1
  ranges := [(0, 2)]

/-- DEV.gpio_event (R535, Table 18-10). -/
def Prm.devGpioEvent : ParamDef where
  id := 0x01024000
  n := 24
  access := .rw
  ranges := [(0, 3)]

/-- DEV.strap (R535, Table 18-10). -/
def Prm.devStrap : ParamDef where
  id := 0x01025000
  n := 1
  access := .ro
  ranges := [(0, 1)]

/-- The parameters of group 0x01 (DEV), in the order of their tables. -/
def Prm.devAll : List ParamDef :=
  [Prm.devSiliconRev, Prm.devGrade, Prm.devDieId, Prm.devDdrBytes, Prm.devDdrRate,
   Prm.devGpioMode, Prm.devGpioOut, Prm.devGpioIn, Prm.devGpioPull, Prm.devGpioEvent,
   Prm.devStrap]

/-- The parameters of group 0x02 (HOST), in the order of their tables. -/
def Prm.hostAll : List ParamDef :=
  [Prm.hostMbxVersion, Prm.hostEpoch, Prm.hostEvtDeliverMask, Prm.hostEvtBatchUs, Prm.hostEvtLost,
   Prm.hostEvtCoalesced, Prm.hostLastStatus, Prm.hostProtoErr, Prm.hostRingDbErr, Prm.hostLinkSpeed,
   Prm.hostLinkWidth, Prm.hostMaxPending]

/-- The parameters of group 0x03 (CFG), in the order of their tables. -/
def Prm.cfgAll : List ParamDef :=
  [Prm.cfgStagingUsed, Prm.cfgStagingLimit, Prm.cfgPatternSeq, Prm.cfgPatternHmacRequired, Prm.cfgPatternMaxBytes,
   Prm.cfgCommitCount, Prm.cfgConflictCount, Prm.cfgApplyMaxUs]

/-- The parameters of group 0x04 (LANE), in the order of their tables. -/
def Prm.laneAll : List ParamDef :=
  [Prm.laneRole, Prm.laneEnable, Prm.laneRate, Prm.laneFecMode, Prm.lanePrecode,
   Prm.laneAutoPolarity, Prm.laneAutoSwap, Prm.lanePower, Prm.laneState, Prm.laneTxLane,
   Prm.lanePolarity, Prm.laneTxPattern, Prm.laneRxChecker, Prm.laneUserPattern, Prm.laneInject,
   Prm.lanePrbsBits, Prm.lanePrbsErr, Prm.laneFecCorrCw, Prm.laneFecUncorrCw, Prm.laneFecCorrSym,
   Prm.laneLockLoss, Prm.laneAcqRetry, Prm.laneDeepExitMaxUs, Prm.laneLpiTxWakeNs, Prm.laneLpiRxWakeNs]

/-- The parameters of group 0x05 (LINK), in the order of their tables. -/
def Prm.linkAll : List ParamDef :=
  [Prm.linkEnable, Prm.linkMaxVersion, Prm.linkVersion, Prm.linkSrate, Prm.linkFmt,
   Prm.linkSpareOn, Prm.linkAutoStandby, Prm.linkSyncState, Prm.linkDefects, Prm.linkLosPersistUs,
   Prm.linkLofPersistUs, Prm.linkClearPersistMs, Prm.linkSdThreshold, Prm.linkSyncErrTol, Prm.linkCcRetryMs,
   Prm.linkEchoPeriodMs, Prm.linkRxSlip, Prm.linkTxUnderrun, Prm.linkRehunt, Prm.linkSecErrored,
   Prm.linkSecCrcErr, Prm.linkSecSyncMiss, Prm.linkSecAbsent, Prm.linkSecUnavail, Prm.linkHeadVerMax,
   Prm.linkHeadTurnaroundNs, Prm.linkCmapPage]

/-- The parameters of group 0x06 (ACH), in the order of their tables. -/
def Prm.achAll : List ParamDef :=
  [Prm.achEnable, Prm.achState, Prm.achRecalNeeded, Prm.achRxGainMode, Prm.achRxGain,
   Prm.achRxGainApplied, Prm.achRxBackoffDb, Prm.achTxAtten, Prm.achCfrPapr, Prm.achDcTrack,
   Prm.achIqTrack, Prm.achAbsentPersistUs, Prm.achTrLeadNs, Prm.achCalMode, Prm.achCalPeriodS,
   Prm.achCalTempDelta, Prm.achCalRef, Prm.achCalMinPairs, Prm.achCalPairSnrDb, Prm.achCalAnchors,
   Prm.achCalWindowUs, Prm.achCalAgeMs, Prm.achRssi, Prm.achNoiseFloor, Prm.achRxLatencyNs,
   Prm.achSatSamples, Prm.achCfrPeaks, Prm.achAbsentBlocks, Prm.achFmtErr, Prm.achCdcSlip,
   Prm.achRecastCount, Prm.achCalFail, Prm.achFeedEnable, Prm.achFeedState, Prm.achFeedIlimitMa,
   Prm.achFeedInrushMa, Prm.achFeedInrushMs, Prm.achFeedIminMa, Prm.achFeedRetryMax, Prm.achFeedRetryMs,
   Prm.achFeedIsnsGain, Prm.achFeedVsnsRatio, Prm.achFeedCurrentMa, Prm.achFeedVoltageMv, Prm.achFeedTrips]

/-- The parameters of group 0x07 (BEAM), in the order of their tables. -/
def Prm.beamAll : List ParamDef :=
  [Prm.beamEnable, Prm.beamMaxStreams, Prm.beamStreamCap, Prm.beamUpdateMs, Prm.beamBudgetPct,
   Prm.beamRegScale, Prm.beamEstDepth, Prm.beamSpecEnable, Prm.beamSpecEps, Prm.beamStaNfDb,
   Prm.beamAoaEnable, Prm.beamActiveSet, Prm.beamActiveBasis, Prm.beamWeightAgeUs, Prm.beamSpecPrepared,
   Prm.beamSpecCommitted, Prm.beamSpecRejected, Prm.beamSpecExpired, Prm.beamSpecDisplaced, Prm.beamSpecMissedCp,
   Prm.beamStaleSets, Prm.beamOverrun, Prm.beamAntDrop, Prm.beamAssayMismatch, Prm.beamEccCorr,
   Prm.beamRecastCount, Prm.beamEstDrop, Prm.beamToneSlip]

/-- The parameters of group 0x08 (WLAN), in the order of their tables. -/
def Prm.wlanAll : List ParamDef :=
  [Prm.wlanBssid, Prm.wlanBssColor, Prm.wlanApMld, Prm.wlanBeaconTu, Prm.wlanDtim,
   Prm.wlanTbttOffsetUs, Prm.wlanFilsTu, Prm.wlanMuEdca, Prm.wlanChannel, Prm.wlanBw,
   Prm.wlanPunct, Prm.wlanCsaBeacons, Prm.wlanTxopUs, Prm.wlanRestartDb, Prm.wlanSoundKeepMs,
   Prm.wlanDsssEnable, Prm.wlanCoopEnable, Prm.wlanCoopLeadUs, Prm.wlanCoopWindowUs, Prm.wlanCalDeferMs,
   Prm.wlanBeaconLateUs, Prm.wlanGtkSlot, Prm.wlanIgtkSlot, Prm.wlanBigtkSlot, Prm.wlanStations,
   Prm.wlanSchedOrphan, Prm.wlanCapturedOver, Prm.wlanCaptureIgnored, Prm.wlanCoopHit, Prm.wlanCoopMiss,
   Prm.wlanBeaconLate, Prm.wlanPsduSlip, Prm.wlanTxPpdu, Prm.wlanRxPpdu]

/-- The parameters of group 0x09 (STA), in the order of their tables. -/
def Prm.staAll : List ParamDef :=
  [Prm.staState, Prm.staTxMpdu, Prm.staTxRetry, Prm.staTxFail, Prm.staRxMpdu,
   Prm.staMicFail, Prm.staReplay, Prm.staRssi, Prm.staRetryLimit]

/-- The parameters of group 0x0a (LADLE), in the order of their tables. -/
def Prm.ladleAll : List ParamDef :=
  [Prm.ladleEnable, Prm.ladleState, Prm.ladleSlots, Prm.ladleSlotAbi, Prm.ladleSlotEngines,
   Prm.ladleIrqSplit, Prm.ladleJobWatchdogUs, Prm.ladleBusyCycles, Prm.ladleWlStallCycles, Prm.ladleIrqSpurious,
   Prm.ladleIrqOoo, Prm.ladleFaults, Prm.ladleRecastCount, Prm.ladleEccCorr, Prm.ladleWaitNosleep]

/-- The parameters of group 0x0b (PON), in the order of their tables. -/
def Prm.ponAll : List ParamDef :=
  [Prm.ponMode, Prm.ponState, Prm.ponSyncState, Prm.ponOnuId, Prm.ponEqdNs,
   Prm.ponRespTimeNs, Prm.ponSnVendor, Prm.ponSnSerial, Prm.ponTo1Ms, Prm.ponTo2Ms,
   Prm.ponAutoDwellMs, Prm.ponPsyncErrTol, Prm.ponSyncM1, Prm.ponPinPolarity, Prm.ponBenLeadNs,
   Prm.ponBenLagNs, Prm.ponUsPrefetchUs, Prm.ponDbruMode, Prm.ponRogueClear, Prm.ponMskSlot,
   Prm.ponTeqdNs, Prm.ponTodRatio, Prm.ponTodOffsetNs, Prm.ponTodWaitMs, Prm.ponPsEnable,
   Prm.ponPsIlowpowerMs, Prm.ponPsIawareMs, Prm.ponPsIholdMs, Prm.ponSdExp, Prm.ponSfExp,
   Prm.ponDdmPeriodMs, Prm.ponDefects, Prm.ponDdmTemp, Prm.ponDdmVcc, Prm.ponDdmBias,
   Prm.ponDdmTxPower, Prm.ponDdmRxPower, Prm.ponDsDrop, Prm.ponUsUnderrun, Prm.ponUnknownPort,
   Prm.ponOmciTxDrop, Prm.ponOmciMicErr, Prm.ponPloamMicErr, Prm.ponBwmapErr, Prm.ponBursts,
   Prm.ponGrantBytes, Prm.ponSecRxBits, Prm.ponSecFecCorrBits, Prm.ponSecFecUncorrCw, Prm.ponSecPsbdErr,
   Prm.ponSecXgemHecErr, Prm.ponSecXgemUncorr, Prm.ponSecKeyErr]

/-- The parameters of group 0x0c (PKT), in the order of their tables. -/
def Prm.pktAll : List ParamDef :=
  [Prm.pktEnable, Prm.pktVersion, Prm.pktLiveVersions, Prm.pktHashFields, Prm.pktHashSymmetric,
   Prm.pktUdf, Prm.pktVxlanPort, Prm.pktCsumCheck, Prm.pktMissAction, Prm.pktExcAction,
   Prm.pktExcJobq, Prm.pktExcHostPps, Prm.pktLearnPps, Prm.pktFlowAgeS, Prm.pktNaptAddr,
   Prm.pktNaptPortLo, Prm.pktNaptPortHi, Prm.pktDcWatchdogUs, Prm.pktDcEnable, Prm.pktFlows,
   Prm.pktTcamUsed, Prm.pktRxPkts, Prm.pktTooLong, Prm.pktWbEmpty, Prm.pktTrunc,
   Prm.pktLenconf, Prm.pktTcamMiss, Prm.pktFlowHit, Prm.pktFlowMiss, Prm.pktFlowCacheMiss,
   Prm.pktExc, Prm.pktExcHostDrop, Prm.pktNaptFull, Prm.pktFlowFull, Prm.pktEditFail,
   Prm.pktBadQueue, Prm.pktRecastFreed]

/-- The parameters of group 0x0d (POOL), in the order of their tables. -/
def Prm.poolAll : List ParamDef :=
  [Prm.poolCount, Prm.poolSize, Prm.poolHeadroom, Prm.poolReserve, Prm.poolFree,
   Prm.poolAlloc, Prm.poolEmpty, Prm.poolBadFree, Prm.poolBadPtr, Prm.poolEccCorr]

/-- The parameters of group 0x0e (TASK), in the order of their tables. -/
def Prm.taskAll : List ParamDef :=
  [Prm.taskQueueSlot, Prm.taskQueueDepth, Prm.taskQueueFill, Prm.taskGroupWeight, Prm.taskGroupBackground,
   Prm.taskGroupLadleMask, Prm.taskGroupDroverMask, Prm.taskGroupCredit, Prm.taskRoundQueue, Prm.taskRoundFanout,
   Prm.taskTraceMask, Prm.taskPosted, Prm.taskDispatched, Prm.taskPostFull, Prm.taskJobErrors,
   Prm.taskDropped, Prm.taskTraceLost]

/-- The parameters of group 0x0f (TOLL), in the order of their tables. -/
def Prm.tollAll : List ParamDef :=
  [Prm.tollQuantum, Prm.tollCirKbps, Prm.tollPirKbps, Prm.tollCbsBytes, Prm.tollPbsBytes,
   Prm.tollOverhead, Prm.tollGateClass, Prm.tollQmaxBytes, Prm.tollYellowMaxBytes, Prm.tollPolicer,
   Prm.tollHostRing, Prm.tollStarveUs, Prm.tollSampleUs, Prm.tollDepthBytes, Prm.tollDepthPkts,
   Prm.tollVirtualTime, Prm.tollGateState, Prm.tollDequeued, Prm.tollDropTail, Prm.tollDropColor,
   Prm.tollFlushed, Prm.tollCirLost, Prm.tollPirLost, Prm.tollBroken, Prm.tollUnassigned]

/-- The parameters of group 0x10 (DMA), in the order of their tables. -/
def Prm.dmaAll : List ParamDef :=
  [Prm.dmaEngineEnable, Prm.dmaChanOwner, Prm.dmaChanMode, Prm.dmaRuns, Prm.dmaBytes,
   Prm.dmaErrors, Prm.dmaCqLost, Prm.dmaRingEnable, Prm.dmaRingBase, Prm.dmaRingSize,
   Prm.dmaRingIrqUs, Prm.dmaRingIrqPkts, Prm.dmaRingStopped, Prm.dmaRingPkts, Prm.dmaRingTxErr]

/-- The parameters of group 0x11 (STORE), in the order of their tables. -/
def Prm.storeAll : List ParamDef :=
  [Prm.storeEnable, Prm.storeDriveEnable, Prm.storeDriveState, Prm.storeExtentsTotal, Prm.storeExtentsFree,
   Prm.storeObjects, Prm.storeCmdTimeoutMs, Prm.storeReadKib, Prm.storeReadInflight, Prm.storeBufWait,
   Prm.storeMcMemberDrop, Prm.storeIngestUnbound, Prm.storeIngestDrop, Prm.storeResets, Prm.storeReadBytes,
   Prm.storeWriteBytes]

/-- The parameters of group 0x12 (ETH), in the order of their tables. -/
def Prm.ethAll : List ParamDef :=
  [Prm.ethEnable, Prm.ethMacAddr, Prm.ethFilter, Prm.ethMaxFrame, Prm.ethLinkState,
   Prm.ethLpiMode, Prm.ethLpiIdleUs, Prm.ethLpiRxTwUs, Prm.ethLpiPartnerTwUs, Prm.ethLpiTwResUs,
   Prm.ethLldpIntervalS, Prm.ethPtpTb, Prm.ethPtpDetect, Prm.ethPtpRxCompNs, Prm.ethPtpTxCompNs,
   Prm.ethPtpRxLatNs, Prm.ethPtpTxLatNs, Prm.ethRxFifoDrop, Prm.ethPtpTsLost]

/-- The parameters of group 0x13 (TIME), in the order of their tables. -/
def Prm.timeAll : List ParamDef :=
  [Prm.timeState, Prm.timeNow, Prm.timeRateAdj, Prm.timeStepNs, Prm.timeReset,
   Prm.timeTb2Source, Prm.timePpsInEnable, Prm.timePpsInEdge, Prm.timePpsInCompNs, Prm.timePpsInTolNs,
   Prm.timePpsInLast, Prm.timePpsInRejected, Prm.timePpsOutEnable, Prm.timePpsOutTb, Prm.timePpsOutWidthUs,
   Prm.timePpsOutCompNs]

/-- The parameters of group 0x14 (CVN), in the order of their tables. -/
def Prm.cvnAll : List ParamDef :=
  [Prm.cvnEnable, Prm.cvnRegion, Prm.cvnChannel, Prm.cvnRate, Prm.cvnCodeBase,
   Prm.cvnTxPowerDbm, Prm.cvnSyncErrTol, Prm.cvnRestartDb, Prm.cvnXcvrRxGainDb, Prm.cvnXcvrRxLatNs,
   Prm.cvnXcvrTxLatNs, Prm.cvnXcvrTxLeadUs, Prm.cvnVenueId, Prm.cvnMemberId, Prm.cvnOwnId,
   Prm.cvnMemberState, Prm.cvnMaxVersion, Prm.cvnKeySlot, Prm.cvnAuthRequired, Prm.cvnTimeRoot,
   Prm.cvnTimeLqiMin, Prm.cvnDefaultPropNs, Prm.cvnTimeMaxPpm, Prm.cvnHops, Prm.cvnParent,
   Prm.cvnTimeOffsetNs, Prm.cvnSuperframe, Prm.cvnNoiseFloor, Prm.cvnFibreHoldMs, Prm.cvnFibreTtl,
   Prm.cvnPlanAccept, Prm.cvnPlanLeadSf, Prm.cvnPlanApply, Prm.cvnPlanRssiDbm, Prm.cvnPlanRoundSf,
   Prm.cvnPlanChannel, Prm.cvnRxPackets, Prm.cvnTxPackets, Prm.cvnRxHdrErr, Prm.cvnRxCrcErr,
   Prm.cvnRxDrop, Prm.cvnCapturedOver, Prm.cvnMicFail, Prm.cvnDutySkip, Prm.cvnConflicts]

/-- The parameters of group 0x15 (SEC), in the order of their tables. -/
def Prm.secAll : List ParamDef :=
  [Prm.secLifecycle, Prm.secDebugState, Prm.secDebugChallenge, Prm.secRootRevoked, Prm.secCustRevoke,
   Prm.secSvnOtp, Prm.secSvnRunning, Prm.secSvnAdvance, Prm.secPatternKeySlot, Prm.secSlotUsage,
   Prm.secSlotsUsed, Prm.secPersistentUsed, Prm.secDummyMax, Prm.secMacsecAuthFail, Prm.secMacsecReplay,
   Prm.secMacsecTxDrop]

/-- The parameters of group 0x16 (MGMT), in the order of their tables. -/
def Prm.mgmtAll : List ParamDef :=
  [Prm.mgmtTemp, Prm.mgmtTempMax, Prm.mgmtRailMv, Prm.mgmtPowerMw, Prm.mgmtThermalMarginC,
   Prm.mgmtCapStep, Prm.mgmtLogFlashMask, Prm.mgmtLogFlashLost, Prm.mgmtLogSeq, Prm.mgmtFwTrial,
   Prm.mgmtFwTrialS, Prm.mgmtFwVersion, Prm.mgmtFwStaged, Prm.mgmtResetCount, Prm.mgmtLockstepEvents]

/-- The parameters of group 0x17 (PWR), in the order of their tables. -/
def Prm.pwrAll : List ParamDef :=
  [Prm.pwrState, Prm.pwrWakeSources, Prm.pwrFeedsInSleep, Prm.pwrDrainMs, Prm.pwrRegTimeoutMs,
   Prm.pwrOscTimeoutUs, Prm.pwrMemTimeoutMs, Prm.pwrLogicTimeoutMs, Prm.pwrRetryMs, Prm.pwrRefusals,
   Prm.pwrLastRefuser, Prm.pwrWakeFail, Prm.pwrEntryAborts, Prm.pwrLastWakeCause, Prm.pwrSleepMs,
   Prm.pwrSleepFreed, Prm.pwrLaneWakeFail]

/-- The parameters of group 0x18 (FAULT), in the order of their tables. -/
def Prm.faultAll : List ParamDef :=
  [Prm.faultEscalateN, Prm.faultEscalateWindowS, Prm.faultDevWindowS, Prm.faultHeld, Prm.faultRecasts,
   Prm.faultAbsorbed, Prm.faultLastCause, Prm.faultDdrEccCorr, Prm.faultDdrEccUncorr]

/-- Every parameter of the block. -/
def Prm.all : List ParamDef :=
  Prm.devAll ++ Prm.hostAll ++ Prm.cfgAll ++ Prm.laneAll ++ Prm.linkAll ++ Prm.achAll ++ Prm.beamAll ++ Prm.wlanAll ++ Prm.staAll ++ Prm.ladleAll ++ Prm.ponAll ++ Prm.pktAll ++ Prm.poolAll ++ Prm.taskAll ++ Prm.tollAll ++ Prm.dmaAll ++ Prm.storeAll ++ Prm.ethAll ++ Prm.timeAll ++ Prm.cvnAll ++ Prm.secAll ++ Prm.mgmtAll ++ Prm.pwrAll ++ Prm.faultAll

/-- The item an identifier names. -/
def Prm.find (id : Nat) : Option ParamDef := Prm.all.find? fun p => p.id == id

end Sys2Proof.Machine
end

