-- ==== Sys2Proof/Machine/StateBase.lean ====
section
/-!
DEFINITION. The state shared by every block: host port, mailbox, events, configuration, flash, keys, time bases, boot,
recast, power and management (chapters 2, 3, 14, 16, 17, 18 and 19).
-/
namespace Sys2Proof.Machine

/-- The host endpoint (R33, R34, R41, R560). Log entry 3 (DESIGN CHOICE). -/
structure HostPort where
  /-- PCIE_PERST_L is low -/
  perstLow : Bool := true
  /-- the link is trained -/
  linkUp : Bool := false
  /-- HOST.link_speed, in 0.1 GT/s -/
  speed : Nat := 0
  /-- HOST.link_width, in lanes -/
  width : Nat := 0
  msixEnabled : Bool := false
  /-- one mask bit for each vector -/
  masked : Nat := 0xFFFFFFFFFFFFFFFF
  /-- pending bit array -/
  pba : Nat := 0
  /-- MSI-X vectors sent to the host, oldest first (an output) -/
  sent : List Nat := []
deriving DecidableEq, Repr, Inhabited

/-- Reason of the last hand-back of a window (Table 2-12). -/
inductive HandBack where
  | none | response | event | reclaimed | recalled | closed
deriving DecidableEq, Repr, Inhabited

/-- Why the device owns a window, or that the host does (R42 to R44). -/
inductive Hold where
  /-- the host owns the window -/
  | host
  /-- lent empty for one event message -/
  | armed
  /-- it holds the command with this serial, not yet answered -/
  | command (cid : Nat)
deriving DecidableEq, Repr, Inhabited

/-- One mailbox window (R35, R42). Log entry 15 (DESIGN CHOICE). -/
structure Window where
  /-- the 4,096 bytes of the window -/
  bytes : Tab Byte := []
  /-- MBX_STAT.seq, modulo 256 -/
  seq : Nat := 0
  protoErr : Bool := false
  handback : HandBack := .none
  hold : Hold := .host
deriving DecidableEq, Repr, Inhabited

/-- A command that is outstanding (R48). -/
structure Outstanding where
  /-- the model's serial number of the command -/
  cid : Nat
  tag : Nat
  opcode : Nat
  window : Nat
  /-- session version that its response carries -/
  ver : Nat × Nat := (0, 0)
  /-- answered PENDING -/
  pending : Bool := false
deriving DecidableEq, Repr, Inhabited

/-- A recast unit of Table 17-5: scope, group and instance. -/
structure RUnit where
  scope : Nat
  group : Nat
  inst : Nat
deriving DecidableEq, Repr, Inhabited

/-- A control message waiting for a window (R59, Table 2-19). -/
inductive Ctl where
  | recast (unit : RUnit) (new prev cause reclaimed time : Nat)
  | complete (cid tag opcode status : Nat) (result : List Byte)
  | version (iface inst major minor : Nat)
deriving DecidableEq, Repr, Inhabited

/-- The mailbox (chapter 2). -/
structure Mbx where
  win : Tab Window := []
  /-- version of the open session, or none -/
  session : Option (Nat × Nat) := none
  /-- R62 -/
  epoch : Nat := 1
  /-- serial of the next command -/
  nextCid : Nat := 0
  outstanding : List Outstanding := []
  /-- control queue, oldest first (R59) -/
  control : List Ctl := []
  /-- backlog of RECAST and VERSION messages (R61) -/
  backlog : List Ctl := []
  /-- armed windows, in the order in which the host armed them -/
  armed : List Nat := []
deriving DecidableEq, Repr, Inhabited

/-- An event record (Table 2-20) with the epoch in which it was raised (R59). -/
structure EvRec where
  code : Nat
  cls : EvClass
  group : Nat
  inst : Nat
  /-- TB0 time of the first occurrence, in units of 2⁻¹⁶ ns -/
  time : Nat
  /-- TB0 time of the last occurrence -/
  last : Nat
  count : Nat := 1
  storm : Bool := false
  /-- detail bytes, little-endian -/
  detail : Nat := 0
  epoch : Nat := 1
  /-- sequence number of a TRACE record in its ring (R280) -/
  seq : Nat := 0
deriving DecidableEq, Repr, Inhabited

/-- The event rings, held as one list in order of arrival, with the loans between them (R58, R559). Log entry 26 (DEDUCED). -/
structure Evt where
  recs : List EvRec := []
  /-- sequence number of the next TRACE record (R280) -/
  traceNext : Nat := 0
  /-- lender and borrower of each slot on loan, oldest first -/
  loans : List (EvClass × EvClass) := []
  /-- the oldest waiting record has waited evt_batch_us (R60) -/
  batchDue : Bool := false
  /-- lines sent on UART_TXD: stage changes, and FATAL and ALARM records (R534) -/
  uart : List (Nat × Nat × Nat × Nat) := []
  /-- venue second in which each FIFO counter last raised its WARN, keyed by parameter ID and instance, plus 1 (R28) -/
  warned : Tab Nat := []
deriving DecidableEq, Repr, Inhabited

/-- One staged entry (R72); instance 0xFFFF covers every instance. -/
structure Staged where
  id : Nat
  inst : Nat
  value : Int
deriving DecidableEq, Repr, Inhabited

/-- A configuration change that is still being taken (R77, R95). -/
structure Commit where
  /-- group of a PARAM_COMMIT, or 0 for an applied Pattern image -/
  group : Nat
  /-- command to complete, when one waits -/
  cid : Option Nat
  /-- units that take the values -/
  total : Nat
  /-- units still to take them: group and unit -/
  left : List (Nat × Nat)
  /-- TB0 nanosecond of the commit -/
  start : Nat
  /-- sequence and group count of an applied image -/
  image : Option (Nat × Nat) := none
deriving DecidableEq, Repr, Inhabited

/-- Page state of one table instance (R82 to R86). -/
structure TabState where
  page : Nat := 0
  /-- a TABLE_COMMIT waits for its safe point -/
  switching : Bool := false
  /-- command to complete at the switch -/
  cid : Option Nat := none
  /-- firmware copies the new active page into the standby page -/
  copying : Bool := false
deriving DecidableEq, Repr, Inhabited

/-- An image arriving in chunks (R94). -/
structure Chunks where
  total : Nat := 0
  bytes : List Byte := []
deriving DecidableEq, Repr, Inhabited

/-- A Pattern image being written to flash (R94, R96). -/
structure PatternWrite where
  copy : Nat
  image : List Byte
  cid : Option Nat
deriving DecidableEq, Repr, Inhabited

/-- Parameters, tables and the Pattern image (chapter 3). -/
structure Cfg where
  /-- committed values; `none` is the master-pattern value (R88) -/
  par : Tab (Option Int) := []
  /-- values still in force at a unit that has not yet taken the committed one (R77) -/
  old : Tab (Option Int) := []
  staging : List Staged := []
  commits : List Commit := []
  /-- active pages: entry bytes, `none` for the table's default entry -/
  active : Tab (Option (List Byte)) := []
  standby : Tab (Option (List Byte)) := []
  tables : Tab TabState := []
  /-- image received through PATTERN_LOAD -/
  patChunks : Chunks := {}
  patWrite : Option PatternWrite := none
  /-- CFG.pattern_seq -/
  patSeq : Nat := 0
deriving DecidableEq, Repr, Inhabited

/-- The xSPI flash regions of Table 17-1 that other state does not hold. -/
structure Flash where
  /-- loader copies 0 and 1 -/
  loader : Tab (List Byte) := []
  /-- Pattern image copies 0 and 1; `none` is blank -/
  pattern : Tab (Option (List Byte)) := []
  /-- firmware banks A (0) and B (1); `none` is empty -/
  bank : Tab (Option (List Byte)) := []
  /-- writes have stopped after a fall of PWRFAIL_L (R497) -/
  held : Bool := false
  /-- the flash does not take the key record that the running command writes (R474) -/
  failing : Bool := false
deriving DecidableEq, Repr, Inhabited

/-- One key slot (R473). -/
structure KeySlot where
  /-- Table 16-4; 0 is empty -/
  usage : Nat := 0
  key : List Byte := []
  persistent : Bool := false
deriving DecidableEq, Repr, Inhabited

/-- OTP, key store, random number generator and debug locks (chapter 16). Log entry 5 (DESIGN CHOICE). -/
structure Sec where
  /-- hashes in the customer roots C0 and C1; `none` is unprogrammed -/
  custRoot : Tab (Option (List Byte)) := []
  /-- revocation bits F0–F3 [3:0], C0–C1 [5:4] -/
  revoked : Nat := 0
  /-- OTP security version -/
  svn : Nat := 0
  /-- 1 SECURED, 2 RMA -/
  lifecycle : Nat := 1
  svnRunning : Nat := 0
  /-- revoke field and signing root of the running image (R470) -/
  runRevoke : Nat := 0
  runRoot : Nat := 0
  slots : Tab KeySlot := []
  /-- persistent records in flash (R476) -/
  records : Tab (Option KeySlot) := []
  /-- a root burn in progress, by customer root (R472) -/
  burning : Tab (Option Nat) := []
  /-- SEC.debug_challenge -/
  challenge : Nat := 0
  /-- permissions in force (R485) -/
  debugPerms : Nat := 0
  /-- DRBG requests since the last reseed (R480) -/
  rngRequests : Nat := 0
  rngFailed : Bool := false
  /-- TB0 nanosecond of the last health failure, plus 1 -/
  rngFailAt : Nat := 0
  /-- a second failure within 60 s: the next chip reset halts -/
  rngHalt : Bool := false
  /-- MACsec packet numbers, keyed by port × 4 + AN: next transmit, and highest received (R481, R482) -/
  txPn : Tab Nat := []
  rxPn : Tab Nat := []
deriving DecidableEq, Repr, Inhabited

/-- One time base (R420 to R422). -/
structure TimeBase where
  /-- time in units of 2⁻⁴⁸ ns (R421) -/
  val : Nat := 0
  /-- SET, after its step (Table 14-4) -/
  isSet : Bool := false
  /-- TIME.rate_adj, in 10⁻¹² -/
  rate : Int := 0
  /-- TIME.step_ns reads the last step applied -/
  lastStep : Int := 0
deriving DecidableEq, Repr, Inhabited

/-- The time base unit (chapter 14). -/
structure Time where
  tb : Tab TimeBase := []
  /-- core cycles since the chip reset (Table 9-1, CYCLE) -/
  cycles : Nat := 0
  /-- TB0 nanosecond of the last accepted PPS_IN edge (R430) -/
  ppsLast : Nat := 0
  ppsSeen : Bool := false
  /-- 2 s without an accepted edge (R431) -/
  ppsLost : Bool := false
  /-- TB2 second phase error of the last accepted edge, ns (R431) -/
  ppsPhase : Int := 0
  ppsOut : Bool := false
  /-- TB0 nanosecond of the last rise of PPS_OUT -/
  ppsRose : Nat := 0
deriving DecidableEq, Repr, Inhabited

/-- Boot progress, resets and the supply sequencer (R38, R508, R542, R544). -/
structure Boot where
  stage : Nat := 0
  errStage : Nat := 0
  errCode : Nat := 0
  /-- 0 xSPI flash, 1 host push (R533) -/
  source : Nat := 0
  bank : Nat := 0
  pattern : Nat := 0
  /-- BOOT_STATUS.boot_count -/
  count : Nat := 0
  /-- RESET_STATUS.cause -/
  cause : Nat := 0
  fwVersion : Nat := 0
  heartbeat : Nat := 0
  /-- TB0 nanosecond of the last heartbeat -/
  beatAt : Nat := 0
  /-- always-on rails valid -/
  railsValid : Bool := false
  /-- always-on domain released by the power-on detector -/
  released : Bool := false
  /-- RESET_L held low -/
  resetLow : Bool := false
  /-- PMIC_EN0–PMIC_EN3 that are high -/
  enables : Nat := 0
  pmicPg : Bool := false
  /-- PLLs started -/
  pllStarted : Bool := false
  /-- the internal reset has ended -/
  running : Bool := false
  /-- XSPI_RESET_L released (R528) -/
  xspiReleased : Bool := false
  /-- PWRFAIL_L is low -/
  pwrfailLow : Bool := false
  /-- a power-down has started and runs to its end (R544), and its TB0 nanosecond -/
  powerDown : Bool := false
  failAt : Nat := 0
  /-- it has ended: the device stays off until PWRFAIL_L is high -/
  off : Bool := false
  /-- held in reset by a thermal trip (R496) -/
  tripped : Bool := false
  /-- images pushed by the host, and failed verifications of each (R67) -/
  push : Chunks := {}
  pushFails : Tab Nat := []
  /-- LPDDR6 capacity and rate found at boot (R553) -/
  ddrBytes : Nat := 0
  ddrRate : Nat := 0
  /-- MGMT.temp[14] at each channel's last training -/
  ddrTrainTemp : Tab Int := []
  /-- the ROM has started a verified loader -/
  loaderRuns : Bool := false
  /-- TB0 nanosecond at which the firmware started -/
  initAt : Nat := 0
  /-- boot that must end at stage 0xE (R507) -/
  fallback : Bool := false
deriving DecidableEq, Repr, Inhabited

/-- A piece of flash work of FW_STAGE that waits its turn: a chunk (0), a verification (1) or an abandon (2).
Log entry 112 (DEDUCED). -/
structure FwWork where
  op : Nat := 0
  cid : Option Nat := none
  /-- the bank is erased before it -/
  erase : Bool := false
  /-- the image to verify -/
  img : List Byte := []
deriving DecidableEq, Repr, Inhabited

/-- Firmware banks and trials (R505 to R507). -/
structure Fw where
  /-- bank the record selects -/
  selected : Nat := 0
  trial : Bool := false
  /-- a verified image waits in the other bank -/
  staged : Bool := false
  /-- the bank being staged, as far as it has arrived -/
  chunks : Chunks := {}
  /-- flash writes and verifications under way, first in first out -/
  work : List FwWork := []
  /-- TB0 nanosecond at which the chip reset of an activation is due (R506) -/
  resetAt : Option Nat := none
  /-- reason of the rollback that the next boot reports; 0 none -/
  rollback : Nat := 0
  /-- versions in banks 0 and 1 -/
  version : Tab Nat := []
  /-- reset counts by cause; they persist -/
  resets : Tab Nat := []
  lockstep : Nat := 0
  /-- PON state O7 kept in the management store (R298) -/
  ponO7 : Bool := false
deriving DecidableEq, Repr, Inhabited

/-- States of a running recast; QUIESCE ends with the command that starts it (Table 17-7, R502). -/
inductive RState where
  | reset | restore | resume
deriving DecidableEq, Repr, Inhabited

/-- A recast that runs. -/
structure RecastJob where
  unit : RUnit
  cause : Nat
  st : RState
  /-- started by the host from HELD: it always runs to RUNNING (R504) -/
  full : Bool := false
deriving DecidableEq, Repr, Inhabited

/-- Faults and recasts (R501 to R504). -/
structure Recast where
  jobs : List RecastJob := []
  queue : List (RUnit × Nat) := []
  /-- units recast and the TB0 nanosecond of each start -/
  history : List (RUnit × Nat) := []
  held : Bool := false
  lastCause : Nat := 0
deriving DecidableEq, Repr, Inhabited

/-- Power states (Table 17-10 and its transitions). -/
inductive PState where
  | run | standby | sleep | entering | waking
deriving DecidableEq, Repr, Inhabited

/-- Power-state sequencing (R509 to R516). -/
structure Power where
  st : PState := .run
  /-- state that an entry leads to, or that a wake leaves -/
  target : PState := .run
  /-- state in which an entry began -/
  origin : PState := .run
  /-- blocks of Table 17-11 that have stopped, by bit -/
  down : Nat := 0
  /-- block being asked, and the TB0 nanosecond of the request -/
  block : Nat := 0
  askedAt : Nat := 0
  /-- POWER_REQUEST to answer -/
  cid : Option Nat := none
  /-- byte 1 of an answer that a cut-short entry owes (R510, R511) -/
  cut : Option Nat := none
  /-- sleep time of the request, ms; 0 none -/
  sleepMs : Nat := 0
  /-- TB0 nanosecond of the request -/
  entryAt : Nat := 0
  /-- steps that the sequencer has still to take after every block has agreed (R512): 1 LPDDR6 to self-refresh, 2 PLLs
  stopped, 3 rails off -/
  steps : List Nat := []
  /-- a wake source has arrived during those steps -/
  arrived : Option Nat := none
  /-- what is off: LPDDR6 in self-refresh, PLLs and time base unit stopped, rails off -/
  memOff : Bool := false
  pllOff : Bool := false
  railsOff : Bool := false
  /-- values that the time bases had when their unit went off (R516) -/
  tbEntry : Option (Tab Nat) := none
  /-- running wake stage (Table 17-12), and the TB0 nanosecond of its start -/
  stage : Nat := 0
  stageAt : Nat := 0
  attempt : Nat := 0
  /-- TB0 nanosecond of a failed attempt that is to be repeated -/
  retryFrom : Option Nat := none
  lastCause : Nat := 0xFF
  lastRefuser : Nat := 0xFF
  /-- TB0 nanosecond at which STANDBY or SLEEP was last reached -/
  asleepAt : Nat := 0
  /-- nanoseconds of SLEEP not yet counted in PWR.sleep_ms -/
  sleepRem : Nat := 0
deriving DecidableEq, Repr, Inhabited

/-- A record of the persistent log (Table 17-4). -/
structure LogRec where
  seq : Nat
  boot : Nat
  afterFail : Bool
  ev : EvRec
deriving DecidableEq, Repr, Inhabited

/-- Sensors, thermal control and the persistent log (R493 to R499). Log entry 3 (DESIGN CHOICE). -/
structure Mgmt where
  temp : Tab Int := []
  tempMax : Int := 0
  rail : Tab Nat := []
  /-- rail alarm in force: 0 none, 1 under, 2 over -/
  railAlarm : Tab Nat := []
  /-- above the warn threshold -/
  warm : Bool := false
  powerMw : Nat := 0
  capStep : Nat := 0
  /-- TB0 nanosecond since which the temperature has stayed at or above cap, and below release (R495) -/
  hotSince : Option Nat := none
  coolSince : Option Nat := none
  /-- TB0 nanosecond of the last rise of the cap step, plus 1 -/
  capAt : Nat := 0
  /-- lockstep pairs A (0) and B (1) that the comparator has stopped (R490) -/
  pairStopped : Tab Bool := []
  logQueue : List EvRec := []
  /-- token bucket of the log, in records, and the TB0 nanosecond up to which it has been filled -/
  logTokens : Nat := 10
  logFilled : Nat := 0
  /-- written records, oldest first, at most 64 × 1,365 -/
  log : List LogRec := []
  logSeq : Nat := 0
  /-- persistent log records overwritten -/
  logDropped : Nat := 0
deriving DecidableEq, Repr, Inhabited

/-- The 16 states of the IEEE 1149.1 TAP controller. -/
inductive TapState where
  | testLogicReset | runTestIdle | selectDr | captureDr | shiftDr | exit1Dr | pauseDr | exit2Dr | updateDr
  | selectIr | captureIr | shiftIr | exit1Ir | pauseIr | exit2Ir | updateIr
deriving DecidableEq, Repr, Inhabited

/-- JTAG (R483, R536, R537). -/
structure Jtag where
  tap : TapState := .testLogicReset
  ir : Nat := 1
  irShift : Nat := 0
  drShift : Nat := 0
  /-- latched boundary-scan outputs, 160 cells -/
  boundary : Nat := 0
  /-- JTAG_TDO level, `none` for high impedance -/
  tdo : Option Bool := none
  /-- level of JTAG_TCK -/
  tck : Bool := false
deriving DecidableEq, Repr, Inhabited

end Sys2Proof.Machine
end

