-- ==== Sys2Proof/Machine/StBeam.lean ====
section
/-!
DEFINITION. The state of the Crucible: weight banks, weight sets, estimate store and occupancy accumulators (chapter 7).
-/
namespace Sys2Proof.Machine

/-- The active set of a radio (R191, R198). Log entry 39 (DESIGN CHOICE). -/
structure ActiveSet where
  id : Nat
  basis : Nat
  /-- TB0 nanosecond of the basis round -/
  time : Nat
  antUsed : Nat
  /-- COLMAP: user slot to col_i -/
  cols : Tab Nat
deriving DecidableEq, Repr, Inhabited

/-- The set in the shadow banks of a radio (R191, R192, R195). -/
structure ShadowSet where
  id : Nat
  spec : Bool
  basis : Nat
  /-- TB0 nanosecond after which a speculative set expires -/
  validUntil : Nat
  antUsed : Nat
  users : Nat
  /-- sectors whose pipelines have read SET_BEGIN, and SET_END -/
  begun : List Nat := []
  ended : List Nat := []
  /-- WEIGHT entries received, by sector -/
  counts : Tab Nat := []
  cols : Tab Nat := []
  /-- sectors whose pipelines have read CONFIRM, and the accepted error -/
  confirmed : List Nat := []
  err : Option Nat := none
deriving DecidableEq, Repr, Inhabited

/-- A directory entry of a round (Table 7-3). Log entry 39 (DESIGN CHOICE). -/
structure RoundUser where
  station : Nat
  sector : Nat
  present : Bool
  noise : Int
  snr : Int
deriving DecidableEq, Repr, Inhabited

/-- A slot of the estimate store (R186, Table 7-2). -/
structure Round where
  round : Nat := 0
  /-- TB0 time of the first EHT-LTF, 80-bit format -/
  time : Nat := 0
  users : List RoundUser := []
  antMask : Nat := 0
  groups : Nat := 0
  complete : Bool := false
  partialRound : Bool := false
  /-- TB0 nanosecond at which it became complete -/
  doneAt : Nat := 0
  /-- records: the BFP-12 blocks in store order -/
  recs : List Nat := []
deriving DecidableEq, Repr, Inhabited

/-- The Crucible of one radio. -/
structure Beam where
  active : Option ActiveSet := none
  shadow : Option ShadowSet := none
  /-- set ID last dropped as stale -/
  stale : Option Nat := none
  /-- number of the next round (R185) -/
  nextRound : Nat := 0
  /-- slot that the next round takes, and the store -/
  slot : Nat := 0
  est : Tab Round := []
  newest : Option Nat := none
  /-- an extra update from the newest complete round has been started (R190) -/
  extra : Nat := 0
  /-- BEAM.weight_age_us -/
  ageUs : Nat := 0
  /-- sectors and stations of the transmit interval in progress (R181) -/
  sectors : List Nat := []
  stations : List Nat := []
  /-- stations of the interval without a column in the active set (R218) -/
  orphans : List Nat := []
  /-- occupancy of the running second: detections by bin, and stations seen by bin × 4096 + station (R209) -/
  hits : Tab Nat := []
  seen : List Nat := []
deriving DecidableEq, Repr, Inhabited

/-- One sector pipeline of the Mould array. -/
structure Mould where
  /-- weight-load FIFO, oldest first (Table 1-6) -/
  fifo : List Nat := []
  /-- set whose entries are dropped up to its SET_END -/
  dropping : Option Nat := none
  /-- banks: WEIGHT entries by (group × 64 + column) × 4 + block -/
  bank : Tab Nat := []
  shadow : Tab Nat := []
  /-- assay LFSRs (R201) -/
  lfsrTx : Nat := 0
  lfsrRx : Nat := 0
  /-- TB0 nanoseconds of the mismatches -/
  mismatches : List Nat := []
  /-- the rest of the sector's PPDU is zeroed on transmit, or discarded on receive (R203) -/
  txZero : Bool := false
  rxDrop : Bool := false
deriving DecidableEq, Repr, Inhabited

/-- All of the Crucible. -/
structure Crucible where
  radio : Tab Beam := []
  sector : Tab Mould := []
deriving DecidableEq, Repr, Inhabited

end Sys2Proof.Machine
end

