-- ==== Sys2Proof/Machine/StLink.lean ====
section
/-!
DEFINITION. The state of the Runner lanes, the Irwick links, the antenna channels, their calibration and the feeds
(chapters 4, 5 and 6).
-/
namespace Sys2Proof.Machine

/-- Lane states (Table 4-4). -/
inductive LaneSt where
  | down | acquire | align | train | up | fault | test | deep
deriving DecidableEq, Repr, Inhabited

/-- Pattern checker of a lane (R117). -/
structure Checker where
  locked : Bool := false
  /-- consecutive error-free bits while hunting -/
  run : Nat := 0
  /-- bits compared since the last lock -/
  compared : Nat := 0
  /-- places of the errors among the last 256 compared bits -/
  errs : List Nat := []
deriving DecidableEq, Repr, Inhabited

/-- One lane (R107). Log entry 28 (DESIGN CHOICE). -/
structure Lane where
  st : LaneSt := .down
  /-- consecutive valid markers in ALIGN -/
  good : Nat := 0
  /-- sense in which they validate -/
  sense : Bool := false
  /-- consecutive misses -/
  miss : Nat := 0
  /-- echo and inv_seen of the last valid marker in TRAIN -/
  last : Option (Nat × Bool) := none
  /-- inversion that LANE.eq gives at lane start (R114) -/
  eqTx : Bool := false
  eqRx : Bool := false
  /-- corrections in force (R110) -/
  txInv : Bool := false
  rxInv : Bool := false
  /-- transmit lane last assigned to this link; `none` is the lane itself (R111) -/
  txLane : Option Nat := none
  /-- the link holds that transmit lane -/
  holding : Bool := false
  chk : Checker := {}
  /-- bits until the next injected error (R118) -/
  inj : Option Nat := none
  /-- quiet directions of low-power idle (R120) -/
  txQuiet : Bool := false
  rxQuiet : Bool := false
  /-- leaving DEEP, and not yet UP (R119) -/
  deepExit : Bool := false
deriving DecidableEq, Repr, Inhabited

/-- Frame sync states of a link (Table 5-5). -/
inductive SyncSt where
  | hunt | presync | sync
deriving DecidableEq, Repr, Inhabited

/-- A layout: version, block format, spare slot, sample-rate code. -/
structure Layout where
  version : Nat := 1
  fmt : Nat := 0
  spare : Bool := false
  srate : Nat := 0
deriving DecidableEq, Repr, Inhabited

/-- A layout selected and not yet in effect (R139, R140). -/
structure Selection where
  layout : Layout
  /-- effective multiframe count -/
  eff : Nat
  acked : Bool := false
deriving DecidableEq, Repr, Inhabited

/-- A control-channel message: type, sequence number, payload (Table 5-7). -/
structure CcMsg where
  typ : Nat
  seq : Nat := 0
  payload : List Byte := []
deriving DecidableEq, Repr, Inhabited

/-- HEAD_ID of a radio head (Table 5-8). -/
structure HeadId where
  vendor : Nat
  model : Nat
  serial : Nat
  verMax : Nat
  transceivers : Nat
  caps : Nat
  turnaround : Nat
  capture : Nat
  emission : Nat
deriving DecidableEq, Repr, Inhabited

/-- HEAD_RF_CAPS of a radio head (Table 6-3). -/
structure HeadCaps where
  minGain : Int
  maxGain : Int
  gainStep : Nat
  level : Int
  maxTx : Int
  maxAtten : Nat
  trSwitch : Nat
  lowMhz : Nat
  highMhz : Nat
deriving DecidableEq, Repr, Inhabited

/-- The counts of one second, running and latched (R135, R136). -/
structure SecCount where
  errored : Nat := 0
  crcErr : Nat := 0
  syncMiss : Nat := 0
  absent : Nat := 0
  unavail : Nat := 0
deriving DecidableEq, Repr, Inhabited

/-- A standby switch that is scheduled (R146). -/
structure Standby where
  element : Nat
  eff : Nat
  acked : Bool := false
deriving DecidableEq, Repr, Inhabited

/-- A change of gain, attenuation (1/16 dB) or frequency (kHz) that waits for its multiframe (R158). -/
structure Retune where
  value : Int
  eff : Nat
  acked : Bool := false
deriving DecidableEq, Repr, Inhabited

/-- One Irwick link. -/
structure Link where
  st : SyncSt := .hunt
  hits : Nat := 0
  /-- consecutive sync-word misses and CRC failures in SYNC -/
  syncMiss : Nat := 0
  crcFail : Nat := 0
  /-- consecutive frames whose fnum or layout fields differ (Table 5-5) -/
  mismatch : Nat := 0
  /-- fnum of the last good frame -/
  fnum : Nat := 0
  /-- mf_count of the last good frame -/
  rxMf : Nat := 0
  /-- frames delivered since the effective multiframe began, saturating at 3 (R140) -/
  early : Nat := 3
  /-- ver_max of the last good frame -/
  verMax : Nat := 0
  defects : Nat := 0
  /-- run of equal rdi values that differ from the RDI defect -/
  rdiRun : Nat := 0
  /-- layout in effect -/
  layout : Option Layout := none
  select : Option Selection := none
  /-- LINK.version -/
  version : Nat := 0
  headId : Option HeadId := none
  caps : Option HeadCaps := none
  /-- HEAD_RF_CAPS accepted under R157 -/
  capsOk : Bool := false
  /-- temperatures of the last TELEMETRY, °C -/
  temps : List Int := []
  supplyMv : Nat := 0
  /-- slot_alarm bits of the head -/
  slotAlarm : Nat := 0
  /-- unacknowledged message and its retries (R138) -/
  out : Option (CcMsg × Nat) := none
  /-- messages that wait for the one outstanding -/
  waiting : List CcMsg := []
  /-- every message handed to the framer, oldest first (an output) -/
  sent : List CcMsg := []
  seqNext : Nat := 0
  /-- seq of the last message received -/
  lastRxSeq : Option Nat := none
  standby : Option Standby := none
  /-- element on the standby transceiver -/
  onStandby : Option Nat := none
  /-- counts of the running second, and those latched -/
  run : SecCount := {}
  sec : SecCount := {}
  /-- out of SYNC in the running multiframe -/
  outMf : Bool := false
  /-- link receive FIFO fill has been recentred since the last slip -/
  recentred : Bool := false
  /-- layout before the one that takes effect, and the effective multiframe (R140) -/
  prev : Option Layout := none
  effMf : Nat := 0
  /-- RF_TUNE that waits for its multiframe (R158) -/
  tune : Option Retune := none
  /-- control-channel messages not yet wholly sent: the bytes left, and whether the first starts a message (R137) -/
  ccBuf : List (Bool × List Byte) := []
  /-- control word of the last frame sent (an output) -/
  txWord : Nat := 0
deriving DecidableEq, Repr, Inhabited

/-- The frame counter that all links share on transmit (R128); the first frame sent is frame 0 of multiframe 0.
Log entry 3 (DESIGN CHOICE). -/
structure LinkTx where
  f : Nat := 999
  mf : Nat := 0xFFFFFF
  secMark : Bool := false
  /-- sec_mark of the multiframe that runs -/
  marked : Bool := false
deriving DecidableEq, Repr, Inhabited

/-- Channel states (Table 6-5). -/
inductive AchSt where
  | off | absent | calibrating | active | fault
deriving DecidableEq, Repr, Inhabited

/-- One antenna channel. -/
structure Ach where
  st : AchSt := .off
  /-- the recalibration flag is clear -/
  calibrated : Bool := false
  /-- receive source in force: link and slot; `none` follows the active page of LINK.cmap (R145) -/
  source : Option (Option (Nat × Nat)) := none
  /-- present blocks seen without a break in the running multiframe -/
  presentRun : Bool := false
  /-- the last block was absent -/
  absentRun : Bool := false
  gain : Option Retune := none
  atten : Option Retune := none
  /-- held absent until RX_GAIN_APPLIED (R158) -/
  gainAbsent : Bool := false
  /-- gain in force at stage 4, 1/16 dB -/
  gainNow : Int := 0
  /-- measured gain that applies at the next multiframe boundary -/
  gainNext : Option Int := none
  /-- transmit attenuation in force at the head -/
  attenNow : Int := 0
  /-- TB0 nanosecond of the last automatic gain step, plus 1 (R159) -/
  gainAt : Nat := 0
  /-- TB0 nanoseconds of the last block recasts -/
  recasts : List Nat := []
  /-- held after the third recast -/
  held : Bool := false
  /-- TB0 nanosecond of the last successful calibration -/
  calAt : Option Nat := none
  /-- temperature at the last calibration -/
  calTemp : Option Int := none
  /-- ACH.rssi and ACH.noise_floor -/
  rssi : Int := 0
  noise : Int := 0
  /-- blocks of the last received frame as delivered: 16 complex samples, `none` for an absent block (an output) -/
  rx : List (Option (List (Int × Int))) := []
  /-- blocks of the last transmitted frame: exponent and mantissas (an output) -/
  tx : List (Nat × List Int) := []
  /-- estimates of stages 2 and 3 and pre-correction of stage 12, as free values -/
  dc : Nat := 0
  iq : Nat := 0
  pre : Nat := 0
deriving DecidableEq, Repr, Inhabited

/-- Calibration of a radio (R166 to R170). -/
structure Cal where
  fullDue : Bool := false
  rejoinDue : Bool := false
  /-- a pass runs: true is a full pass -/
  pass : Option Bool := none
  /-- a window is requested from the MAC, or open -/
  requested : Bool := false
  /-- TB0 nanosecond of that request -/
  requestedAt : Nat := 0
  window : Bool := false
  /-- the next window goes ahead of all other traffic (R245) -/
  urgent : Bool := false
  /-- channels still to take their turn in the pass, and in this window -/
  turns : List Nat := []
  inWindow : Nat := 0
  /-- channel whose turn runs -/
  turn : Option Nat := none
  /-- turns taken in the pass -/
  done : List Nat := []
  /-- links that left SYNC during the pass (R168) -/
  dropped : List Nat := []
  /-- the window at TB0 nanosecond -/
  openedAt : Nat := 0
deriving DecidableEq, Repr, Inhabited

/-- Feed states (Table 6-8). -/
inductive FeedSt where
  | off | check | inrush | on | opened | shortWait | lockout | reversed
deriving DecidableEq, Repr, Inhabited

/-- One feed (R172 to R174). -/
structure Feed where
  st : FeedSt := .off
  /-- retry count -/
  n : Nat := 0
  currentMa : Nat := 0
  voltageMv : Int := 0
deriving DecidableEq, Repr, Inhabited

/-- Lanes, links, channels and feeds. -/
structure Radio where
  lane : Tab Lane := []
  link : Tab Link := []
  tx : LinkTx := {}
  ach : Tab Ach := []
  cal : Tab Cal := []
  feed : Tab Feed := []
  /-- in a host-push boot, the host has released the feeds (R172) -/
  feedsReleased : Bool := false
deriving DecidableEq, Repr, Inhabited

end Sys2Proof.Machine
end

