-- ==== Sys2Proof/Machine/StPon.lean ====
section
/-!
DEFINITION. The state of the PON terminal (chapter 10).
-/
namespace Sys2Proof.Machine

/-- Downstream sync states (Table 10-4). -/
inductive PonSync where
  | hunt | presync | sync | resync
deriving DecidableEq, Repr, Inhabited

/-- Activation states (Table 10-5). -/
inductive OnuSt where
  | off | o11 | o12 | o23 | o4 | o51 | o6 | o7
deriving DecidableEq, Repr, Inhabited

/-- Watchful sleep states (Table 10-9). -/
inductive WatchSt where
  | activeHeld | activeFree | lowPower | aware
deriving DecidableEq, Repr, Inhabited

/-- A burst profile (R303). -/
structure PonProfile where
  /-- length of the PSBu in bits, its preamble and its delimiter -/
  psbuBits : Nat
  preamble : Nat
  delimiter : Nat
  fec : Bool
  /-- mode 3: the upstream rate is 24.8832 Gb/s -/
  fast : Bool
deriving DecidableEq, Repr, Inhabited

/-- Completion codes of Acknowledge that the terminal uses. -/
inductive AckCode where
  | ok | unknownMessage | noResources
deriving DecidableEq, Repr, Inhabited

/-- PLOAM messages that the terminal sends (Table 10-3). -/
inductive PloamUp where
  | serialNumber (vendor serial : Nat)
  | registration (id : List Byte)
  /-- key index and the key encrypted under KEK -/
  | keyReport (index : Nat) (key : List Byte)
  | acknowledge (seq : Nat) (code : AckCode)
  /-- true asks for WSleep, false says Awake -/
  | sleepRequest (sleep : Bool)
  /-- no message waits (R303) -/
  | idle
deriving DecidableEq, Repr, Inhabited

/-- An Alloc-ID at its index (R307, Table 10-6). -/
structure PonAlloc where
  used : Bool := false
  allocId : Nat := 0
  /-- grants received in the running second, and in the last one -/
  run : Nat := 0
  sec : Nat := 0
deriving DecidableEq, Repr, Inhabited

/-- One allocation of a burst (R303, R304). -/
structure PonSlot where
  index : Nat
  /-- payload bytes after the overheads -/
  payload : Nat
  dbru : Bool
  /-- bytes requested from Tollgate, none before US_PREFETCH (R305) -/
  wanted : Option Nat := none
deriving DecidableEq, Repr, Inhabited

/-- A burst scheduled from a BWmap (R302 to R304). -/
structure PonBurst where
  /-- TB0 nanosecond of t_us, and start and end of the burst after it, in ps -/
  us : Nat
  start : Nat
  stop : Nat
  profile : Nat
  ploamu : Bool
  /-- serial-number grant -/
  serial : Bool := false
  slots : List PonSlot
deriving DecidableEq, Repr, Inhabited

/-- An SDU that waits in the upstream FIFO: waybill, the bytes left of it, its XGEM port and whether that port is
encrypted. -/
structure PonSdu where
  handle : Nat
  left : List Byte
  port : Nat
  secure : Bool
deriving DecidableEq, Repr, Inhabited

/-- An XGEM frame sent: port, key index, last fragment, and payload as sent. -/
structure XgemOut where
  port : Nat
  key : Nat
  last : Bool
  data : List Byte
deriving DecidableEq, Repr, Inhabited

/-- A burst sent (R303). -/
structure BurstOut where
  us : Nat
  start : Nat
  profile : PonProfile
  onuId : Nat
  dyingGasp : Bool
  ploamu : Option PloamUp
  /-- per allocation: index, DBRu, XGEM frames -/
  allocs : List (Nat × Option Nat × List XgemOut)
  /-- extra delay in ps of a serial-number response -/
  delay : Nat := 0
deriving DecidableEq, Repr, Inhabited

/-- An SDU under reassembly (R295). -/
structure XgemSdu where
  open_ : Bool := false
  data : List Byte := []
  /-- dropped up to its last fragment -/
  bad : Bool := false
deriving DecidableEq, Repr, Inhabited

/-- Counts of one second (Table 10-12). -/
structure PonCount where
  rxBits : Nat := 0
  corrBits : Nat := 0
  uncorrCw : Nat := 0
  psbdErr : Nat := 0
  hecErr : Nat := 0
  xgemUncorr : Nat := 0
  keyErr : Nat := 0
deriving DecidableEq, Repr, Inhabited

/-- The optics diagnostics (R323). -/
structure Ddm where
  /-- readings, `none` for 0x8000 -/
  vals : Tab (Option Nat) := []
  /-- thresholds crossed per reading: bit 0 high alarm, 1 low alarm, 2 high warning, 3 low warning -/
  above : Tab Nat := []
  fails : Nat := 0
deriving DecidableEq, Repr, Inhabited

/-- The PON terminal. Log entry 63 (PRESUMED). -/
structure Pon where
  sync : PonSync := .hunt
  /-- consecutive PSBds not good -/
  bad : Nat := 0
  /-- superframe counter of the last frame, as received or predicted -/
  sfc : Nat := 0
  /-- TB0 nanosecond of its first bit (t_ds, R302) -/
  frameAt : Nat := 0
  /-- mode 4: mode whose rate the receiver listens for, and whether SYNC has fixed it (R289) -/
  tuned : Nat := 1
  locked : Bool := false
  st : OnuSt := .off
  /-- ONU-ID; 1,023 is none -/
  onuId : Nat := 1023
  eqd : Nat := 0
  /-- EqD of a Ranging_Time that the next frame puts in force (R301) -/
  eqdNext : Option Nat := none
  profile : Tab (Option PonProfile) := []
  alloc : Tab PonAlloc := []
  /-- serial number and registration ID taken at the last entry to O2-3 (R298) -/
  vendor : Nat := 0
  serial : Nat := 0
  regId : List Byte := []
  /-- key index that last appeared downstream; 0 is clear (R313) -/
  txKey : Nat := 0
  /-- PLOAM messages that wait for a PLOAMu, oldest first -/
  ploam : List PloamUp := []
  /-- bursts of the running frame not yet sent, in order -/
  bursts : List PonBurst := []
  /-- packets fetched for each T-CONT index and not wholly sent (Table 1-6, PON upstream) -/
  fifo : Tab (List PonSdu) := []
  sdu : Tab XgemSdu := []
  run : PonCount := {}
  sec : PonCount := {}
  defects : Nat := 0
  /-- consecutive latches that clear SD and SF, and that declare or clear LOK -/
  sdRun : Nat := 0
  sfRun : Nat := 0
  lokRun : Nat := 0
  /-- levels of PON_LOS and PON_TX_FAULT -/
  losPin : Bool := false
  faultPin : Bool := false
  /-- TB0 nanosecond at which PON_BEN falls (R302) -/
  benUntil : Nat := 0
  /-- the management complex has signalled imminent power loss (R303) -/
  dyingGasp : Bool := false
  watch : WatchSt := .activeHeld
  /-- Sleep_Allow(on) is in force -/
  allow : Bool := false
  /-- TB0 nanosecond of the entry to the state, or of the last local stimulus -/
  watchAt : Nat := 0
  /-- reference that waits for its frame: SFC, seconds, nanoseconds (R319) -/
  tod : Option (Nat × Nat × Nat) := none
  ddm : Ddm := {}
  /-- bursts sent, oldest first (an output) -/
  sent : List BurstOut := []
deriving DecidableEq, Repr, Inhabited

end Sys2Proof.Machine
end

