-- ==== Sys2Proof/Forms.lean ====
section
/-!
DEFINITION. Operand structures of the commands.
-/
namespace Sys2Proof

/-- A command message as the host writes it into a window; the opcode is the command's own (Table 2-13). -/
structure Message where
  major : Nat
  minor : Nat
  tag : Nat
  length : Nat
  status : Nat
  epoch : Nat
  payload : List Byte
deriving DecidableEq, Repr, Inhabited

/-- How a packet buffer is named (R332, R334). -/
inductive BufPtr where
  /-- a waybill handle -/
  | handle (h : Nat)
  /-- pool and buffer index -/
  | index (pool idx : Nat)
  /-- byte address -/
  | address (a : Nat)
deriving DecidableEq, Repr, Inhabited

/-- What else occupies an egress at the instant of a break: kind as byte 4 of TOLL_GUARANTEE_BROKEN codes it (0 nothing
of ranks 1 and 2), the queue being served, and byte 7. -/
structure Occupant where
  kind : Nat := 0
  serving : Option Nat := none
  unit : Nat := 0xFF
deriving DecidableEq, Repr, Inhabited

/-- What an ingress port presents (R338). -/
structure Arrival where
  /-- requester port ID (Table 11-4) -/
  port : Nat
  srcType : Nat
  srcInst : Nat
  data : List Byte
  /-- TID of the 802.11 frame -/
  tid : Option Nat := none
  /-- queue of a port-directed packet -/
  directed : Option Nat := none
  cls : Nat := 0
  /-- PTP stamp in place of the ingress time -/
  ts : Option Nat := none
  /-- transmit ring whose descriptors wait for the packet -/
  ring : Option Nat := none
  /-- TID and mark that the port writes -/
  setTid : Nat := 0
  mark : Nat := 0
deriving DecidableEq, Repr, Inhabited

/-- Fields of a format M instruction (Table 9-3). -/
structure FmtM where
  s : Bool
  a : Nat
  u : Nat
  w : Nat
  xm : Nat
  ym : Nat
  rsv : Nat := 0
deriving DecidableEq, Repr, Inhabited

/-- Fields of a format A instruction. -/
structure FmtA where
  s : Bool
  d : Nat
  a : Nat
  b : Nat
  rsv : Nat := 0
deriving DecidableEq, Repr, Inhabited

/-- Fields of a format I instruction. -/
structure FmtI where
  d : Nat
  a : Nat
  imm : Nat
deriving DecidableEq, Repr, Inhabited

/-- Fields of a format LX or LY instruction, the load and store bit apart. -/
structure FmtL where
  half : Bool
  reg : Nat
  i : Nat
  mode : Nat
  step : Nat
  off : Nat
deriving DecidableEq, Repr, Inhabited

/-- Fields of a format B instruction; LOOPI's count stands in the places of `cond` and `reg`. -/
structure FmtB where
  cond : Nat
  reg : Nat
  rsv : Nat := 0
  target : Nat
deriving DecidableEq, Repr, Inhabited

/-- Fields of a format S instruction. -/
structure FmtS where
  sreg : Nat := 0
  reg : Nat := 0
  io : Nat := 0
deriving DecidableEq, Repr, Inhabited

/-- An error that a transfer meets: entry index, and status 3 ECC or 4 PCIE. -/
structure Upset where
  entry : Nat
  status : Nat
deriving DecidableEq, Repr, Inhabited

/-- Result of a pass for one channel: the fewest qualifying pairs of any tone group, and its coefficients (R167,
R168). -/
structure CalResult where
  chan : Nat
  pairs : Nat
  coef : List Nat
deriving DecidableEq, Repr, Inhabited

/-- Figures of a station report, in 0.25 dB (R205, Table 7-10). -/
structure StaFigures where
  station : Nat
  mean : Int
  low : Int
  leakIn : Int
  leakOut : Int
  uplink : Option Int
deriving DecidableEq, Repr, Inhabited

/-- A transmit interval that the MAC builds (R216, R217). -/
structure Interval where
  precoded : Bool
  /-- cover interval: its one sector -/
  sector : Nat := 0
  /-- stations served -/
  users : List Nat := []
  /-- cover interval: the sector's group-addressed or management frames, or a control frame sent alone -/
  group : Bool := false
  mgmt : Bool := false
  control : Bool := false
  /-- Trigger frames or TRS fields solicit uplink -/
  trigger : Bool := false
  durUs : Nat
  /-- a FIFO underflow aborts the PPDUs: 0 none, 1 PSDU, 2 tone -/
  slip : Nat := 0
deriving DecidableEq, Repr, Inhabited

/-- Kinds of received frames (R227, R228). -/
inductive RxKind where
  | data | mgmt | eapol | psPoll | uapsdTrigger | null
deriving DecidableEq, Repr, Inhabited

/-- An MPDU of a received PPDU. -/
structure RxMpdu where
  station : Option Nat
  kind : RxKind
  tid : Nat := 0
  fcsOk : Bool := true
  /-- Protected Frame: key ID, packet number, and whether the tag verifies -/
  prot : Option (Nat × Nat × Bool) := none
  /-- Power Management bit -/
  doze : Bool := false
  /-- reported buffer, bytes -/
  buffered : Option Nat := none
  data : List Byte := []
deriving DecidableEq, Repr, Inhabited

/-- A received PPDU, up to its end or to the point where it was cut off. -/
structure Ppdu where
  /-- the header is correct -/
  header : Bool := true
  solicited : Bool := false
  /-- level, dBm -/
  level : Int
  mpdus : List RxMpdu := []
  /-- acknowledgements: station and waybill handles -/
  acks : List (Nat × List Nat) := []
  /-- PSDU FIFO overflow: MPDUs from this one on are dropped; tone FIFO overflow loses the PPDU -/
  psduSlip : Option Nat := none
  toneSlip : Bool := false
deriving DecidableEq, Repr, Inhabited

/-- What a sounding round leaves in the estimate store. -/
structure RoundResult where
  /-- by user slot: present, noise and SNR in 0.25 dB -/
  users : List (Bool × Int × Int)
  /-- records in store order, as 512-bit units -/
  recs : List Nat
  /-- the estimate FIFO overflowed -/
  overflow : Bool := false
  /-- a running job still reads the slot that the round would take -/
  busy : Bool := false
deriving DecidableEq, Repr, Inhabited

/-- One allocation of a BWmap (R302, R304): start and end of the burst after t_us in ps, grant size in bytes, burst profile,
and what it asks for. -/
structure Allocation where
  allocId : Nat
  /-- serial-number grant -/
  serial : Bool := false
  start : Nat
  stop : Nat
  size : Nat
  profile : Nat
  ploamu : Bool := false
  dbru : Bool := false
  /-- the standard chains it into the burst before it -/
  chained : Bool := false
  /-- forced wake-up (R320) -/
  wake : Bool := false
deriving DecidableEq, Repr, Inhabited

/-- One XGEM frame (R295). -/
structure Xgem where
  port : Nat
  key : Nat := 0
  last : Bool := true
  idle : Bool := false
  /-- a byte of it lies in an uncorrectable codeword -/
  uncorr : Bool := false
  /-- the PON downstream FIFO is full -/
  full : Bool := false
  data : List Byte := []
deriving DecidableEq, Repr, Inhabited

/-- A successful read of the module's diagnostics (R323): raw readings, thresholds (high alarm, low alarm, high warning,
low warning) per reading, and external calibration: slope in 1/256 and offset of the first four readings, and the receive
power coefficients. -/
structure DdmRead where
  raw : List Nat
  limits : List (Nat × Nat × Nat × Nat)
  cal : Option (List (Nat × Int) × List Nat) := none
deriving DecidableEq, Repr, Inhabited

/-- A packet as a code channel of the Caravan modem receives it (R441 to R443). -/
structure CaravanRx where
  /-- code index, 4 is the common code -/
  code : Nat
  /-- payload rate code of the header -/
  rate : Nat
  /-- it aborts a packet in progress, by this margin in dB -/
  above : Option Nat := none
  headerOk : Bool := true
  crcOk : Bool := true
  /-- the Caravan packet FIFO is full -/
  full : Bool := false
  payload : List Byte
  /-- level at the transceiver's output, 0.25 dBm -/
  level : Int
  lqi : Nat
  /-- TB2 nanosecond of the end of the last sync-word chip -/
  at_ : Nat
deriving DecidableEq, Repr, Inhabited

end Sys2Proof
end

