-- ==== Sys2Proof/Syntax.lean ====
section
/-!
DEFINITION. The commands of the block: one constructor per row of the command table, in the table's order.
-/
namespace Sys2Proof
open Sys2Proof.Machine

/-- A command. -/
inductive Instr where
  /-- FUNDAMENTAL_RESET (R34). -/
  | fundamentalReset (low : Bool)
  /-- HOT_RESET (R560). -/
  | hotReset
  /-- FUNCTION_LEVEL_RESET (R560). -/
  | functionLevelReset
  /-- HOST_LINK_DOWN (R34). -/
  | hostLinkDown
  /-- HOST_LINK_UP (R560). -/
  | hostLinkUp (speed width : Nat)
  /-- MSIX_UNMASK (R41). -/
  | msixUnmask (v : Nat)
  /-- CHIP_RESET (R39). -/
  | chipReset
  /-- RECAST_DEV (R63). -/
  | recastDev
  /-- POST (R43). -/
  | post (w : Nat)
  /-- ARM (R44). -/
  | arm (w : Nat)
  /-- RECALL (R44). -/
  | windowRecall (w : Nat)
  /-- PROTO_ERR_CLEAR (R42). -/
  | protoErrClear (w : Nat)
  /-- RXQ_DB (R40). -/
  | rxqDb (n producer : Nat)
  /-- TXQ_DB (R40). -/
  | txqDb (n producer : Nat)
  /-- REGISTER_WRITE (R36). -/
  | registerWrite (off : Nat) (b : List Byte)
  /-- BOOT_PUSH (R67). -/
  | bootPush (b : List Byte)
  /-- HELLO (R51). -/
  | hello (w : Nat) (m : Message)
  /-- BYE (R53). -/
  | bye (w : Nat) (m : Message)
  /-- PARAM_GET (R73). -/
  | paramGet (w : Nat) (m : Message)
  /-- PARAM_SET (R75). -/
  | paramSet (w : Nat) (m : Message)
  /-- PARAM_COMMIT (R77). -/
  | paramCommit (w : Nat) (m : Message)
  /-- PARAM_ABORT (R80). -/
  | paramAbort (w : Nat) (m : Message)
  /-- TABLE_WRITE (R85). -/
  | tableWrite (w : Nat) (m : Message)
  /-- TABLE_READ (R85). -/
  | tableRead (w : Nat) (m : Message)
  /-- TABLE_COMMIT (R85). -/
  | tableCommit (w : Nat) (m : Message)
  /-- KEY_INSTALL (R474). -/
  | keyInstall (w : Nat) (m : Message) (flashOk : Bool)
  /-- KEY_RETIRE (R475). -/
  | keyRetire (w : Nat) (m : Message)
  /-- STORE_INFO (R403). -/
  | storeInfo (w : Nat) (m : Message)
  /-- STORE_CREATE (R403). -/
  | storeCreate (w : Nat) (m : Message)
  /-- STORE_WRITE (R403). -/
  | storeWrite (w : Nat) (m : Message)
  /-- STORE_INGEST (R403). -/
  | storeIngest (w : Nat) (m : Message)
  /-- STORE_SEAL (R403). -/
  | storeSeal (w : Nat) (m : Message)
  /-- STORE_DELETE (R407). -/
  | storeDelete (w : Nat) (m : Message)
  /-- STORE_STAT (R403). -/
  | storeStat (w : Nat) (m : Message)
  /-- STORE_READ (R403). -/
  | storeRead (w : Nat) (m : Message)
  /-- STORE_SPLICE_TCP (R404). -/
  | storeSpliceTcp (w : Nat) (m : Message)
  /-- STORE_SPLICE_MCAST (R405). -/
  | storeSpliceMcast (w : Nat) (m : Message)
  /-- STORE_CANCEL (R407). -/
  | storeCancel (w : Nat) (m : Message)
  /-- FW_STAGE (R505). -/
  | fwStage (w : Nat) (m : Message)
  /-- FW_ACTIVATE (R506). -/
  | fwActivate (w : Nat) (m : Message)
  /-- PATTERN_SAVE (R96). -/
  | patternSave (w : Nat) (m : Message)
  /-- PATTERN_LOAD (R94). -/
  | patternLoad (w : Nat) (m : Message)
  /-- POWER_REQUEST (R510). -/
  | powerRequest (w : Nat) (m : Message)
  /-- LADLE_LOAD (R284). -/
  | ladleLoad (w : Nat) (m : Message)
  /-- TRACE_READ (R280). -/
  | traceRead (w : Nat) (m : Message)
  /-- SNAPSHOT (R418). -/
  | snapshot (w : Nat) (m : Message)
  /-- EVENT_BATCH_TIMEOUT (R60). -/
  | eventBatchTimeout
  /-- HEARTBEAT_TICK (R489). -/
  | heartbeatTick
  /-- SAFE_POINT_APPLY (R77). -/
  | safePointApply (g u : Nat)
  /-- TABLE_PAGE_SWITCH (R82). -/
  | tablePageSwitch (id inst : Nat)
  /-- STANDBY_COPY_DONE (R83). -/
  | standbyCopyDone (id inst : Nat)
  /-- VERSION_RETIRE (R347). -/
  | versionRetire (v : Nat)
  /-- PATTERN_FLASH_WRITE_DONE (R96). -/
  | patternFlashWriteDone (good : Bool)
  /-- ALWAYS_ON_RAILS_VALID (R542). -/
  | alwaysOnRailsValid
  /-- POR_RELEASE (R542). -/
  | porRelease
  /-- PMIC_ENABLE_STEP (R542). -/
  | pmicEnableStep
  /-- PMIC_PG_RISE (R542). -/
  | pmicPgRise
  /-- PMIC_PG_TIMEOUT (R542). -/
  | pmicPgTimeout
  /-- BOOT_PLL_LOCK (R542). -/
  | bootPllLock (otpOk rngOk : Bool)
  /-- XSPI_RESET_RELEASE (R528). -/
  | xspiResetRelease
  /-- LOADER_VERIFY (R468). -/
  | loaderVerify (responds : Bool)
  /-- FIRMWARE_VERIFY (R468). -/
  | firmwareVerify
  /-- DDR_TRAINING_DONE (R553). -/
  | ddrTrainingDone (equal : Bool) (gib rate : Nat)
  /-- BOOT_READY (R38). -/
  | bootReady (bad : List Nat)
  /-- BOOT_INIT_TIMEOUT (R508). -/
  | bootInitTimeout
  /-- TRIAL_STAGE_TIMEOUT (R507). -/
  | trialStageTimeout
  /-- TRIAL_TIME_EXPIRY (R507). -/
  | trialTimeExpiry
  /-- FW_ACTIVATE_RESET (R506). -/
  | fwActivateReset
  /-- FW_FLASH_WRITE_DONE (R505). -/
  | fwFlashWriteDone
  /-- RESET_PIN (R528). -/
  | resetPin (low : Bool)
  /-- POWER_FAIL (R497). -/
  | powerFail (low : Bool)
  /-- POWERDOWN_SEQUENCE (R544). -/
  | powerdownSequence
  /-- PMIC_PG_LOSS (R544). -/
  | pmicPgLoss
  /-- AON_RAIL_LOSS (R544). -/
  | aonRailLoss
  /-- THERMAL_TRIP (R496). -/
  | thermalTrip (t : Int)
  /-- THERMAL_TRIP_RELEASE (R496). -/
  | thermalTripRelease (t : Int)
  /-- LOCKSTEP_MISMATCH (R490). -/
  | lockstepMismatch (pair : Nat) (ecc : Bool)
  /-- HEARTBEAT_WATCHDOG (R491). -/
  | heartbeatWatchdog
  /-- AON_WATCHDOG (R491). -/
  | aonWatchdog
  /-- SENSOR_POLL (R493). -/
  | sensorPoll (temps : List Int) (rails : List Nat) (mw : Nat)
  /-- CAP_STEP_UP (R495). -/
  | capStepUp
  /-- CAP_STEP_DOWN (R495). -/
  | capStepDown
  /-- LOG_FLASH_WRITE (R498). -/
  | logFlashWrite
  /-- RNG_HEALTH_FAIL (R480). -/
  | rngHealthFail (test : Nat)
  /-- RNG_RESEED (R480). -/
  | rngReseed
  /-- ENTRY_BLOCK_DRAIN (R511). -/
  | entryBlockDrain
  /-- WAKE_SOURCE (R515). -/
  | wakeSource (b : Nat)
  /-- SLEEP_TIMER_EXPIRY (R515). -/
  | sleepTimerExpiry
  /-- WAKE_STAGE_READY (R513). -/
  | wakeStageReady
  /-- WAKE_STAGE_TIMEOUT (R514). -/
  | wakeStageTimeout (which : Nat)
  /-- WAKE_RETRY (R514). -/
  | wakeRetry
  /-- FAULT_ADMIT (R503). -/
  | faultAdmit (u : RUnit) (cause : Nat)
  /-- RECAST_RESET_DONE (R502). -/
  | recastResetDone (u : RUnit)
  /-- RECAST_RESTORE_DONE (R502). -/
  | recastRestoreDone (u : RUnit)
  /-- RECAST_RESUME_DONE (R502). -/
  | recastResumeDone (u : RUnit)
  /-- LANE_PLL_LOCK (R107). -/
  | lanePllLock (n : Nat)
  /-- LANE_PLL_TIMEOUT (R107). -/
  | lanePllTimeout (n : Nat)
  /-- LANE_CDR_LOCK (R107). -/
  | laneCdrLock (n : Nat)
  /-- LANE_ACQ_TIMEOUT (R107). -/
  | laneAcqTimeout (n : Nat)
  /-- LANE_MARKER_RX (R106). -/
  | laneMarkerRx (n : Nat) (raw : Option Nat)
  /-- LANE_TRAIN_TIMEOUT (R107). -/
  | laneTrainTimeout (n : Nat)
  /-- LANE_FAULT_EXPIRY (R107). -/
  | laneFaultExpiry (n : Nat)
  /-- LANE_CLOCK_LOSS (R107). -/
  | laneClockLoss (n : Nat)
  /-- LANE_PCS_LOCK (R107). -/
  | lanePcsLock (n : Nat)
  /-- LANE_PCS_LOSS (R107). -/
  | lanePcsLoss (n : Nat)
  /-- LANE_POLARITY_RETRY (R110). -/
  | lanePolarityRetry (n : Nat)
  /-- LANE_CODEWORD_RX (R104). -/
  | laneCodewordRx (n cw : Nat) (errs : List Nat) (loop : Bool)
  /-- LANE_WAKE_TIMEOUT (R119). -/
  | laneWakeTimeout (n : Nat)
  /-- EEE_TX_ENTRY (R415). -/
  | eeeTxEntry (n : Nat)
  /-- EEE_TX_WAKE (R415). -/
  | eeeTxWake (n : Nat)
  /-- EEE_RX_LPI (R120). -/
  | eeeRxLpi (p : Nat)
  /-- EEE_RX_WAKE (R120). -/
  | eeeRxWake (p : Nat)
  /-- LPI_GATE_WAKE (R417). -/
  | lpiGateWake (n : Nat)
  /-- LINK_FRAME_TX (R128). -/
  | linkFrameTx (offsets : List Nat) (blocks : List (Nat × List (List Int))) (lost : List (Nat × Nat))
  /-- LINK_FRAME_RX (R130). -/
  | linkFrameRx (l syncErrs raw nbits : Nat) (bad : List Nat) (slip : Bool) (cdc : List Nat)
  /-- LINK_DEFECT_PERSIST (R134). -/
  | linkDefectPersist (l defect : Nat) (declare : Bool)
  /-- LINK_SECOND_LATCH (R136). -/
  | linkSecondLatch
  /-- HEAD_ID (R139). -/
  | headId (l seq : Nat) (h : HeadId)
  /-- ACK (R138). -/
  | ack (l typ seq status : Nat)
  /-- ECHO (R138). -/
  | echo (l seq token : Nat)
  /-- HEAD_ALARM (R146). -/
  | headAlarm (l seq t cause det : Nat)
  /-- RX_GAIN_APPLIED (R158). -/
  | rxGainApplied (l seq t : Nat) (gain : Int)
  /-- TELEMETRY (R170). -/
  | telemetry (l : Nat) (temps : List Int) (mv : Nat)
  /-- HEAD_RF_CAPS (R157). -/
  | headRfCaps (l seq : Nat) (c : HeadCaps)
  /-- CC_RESERVED_TYPE (R137). -/
  | ccReservedType (l typ seq : Nat)
  /-- CC_RETRY_TIMEOUT (R138). -/
  | ccRetryTimeout (l : Nat)
  /-- ECHO_PERIOD (R138). -/
  | echoPeriod (l : Nat)
  /-- LAYOUT_ACK_DEADLINE (R140). -/
  | layoutAckDeadline (l : Nat)
  /-- LAYOUT_EFFECT (R139). -/
  | layoutEffect (l : Nat)
  /-- SPARE_SWITCH_EFFECT (R146). -/
  | spareSwitchEffect (l : Nat)
  /-- GAIN_CONTROL_TICK (R159). -/
  | gainControlTick (c level : Nat)
  /-- GAIN_ACK_DEADLINE (R158). -/
  | gainAckDeadline (c typ : Nat)
  /-- GAIN_EFFECTIVE (R158). -/
  | gainEffective (c typ : Nat)
  /-- ACH_ABSENT_TIMEOUT (R163). -/
  | achAbsentTimeout (c : Nat)
  /-- ACH_FRONTEND_FAULT (R165). -/
  | achFrontendFault (c cause : Nat)
  /-- CAL_PERIOD_EXPIRY (R170). -/
  | calPeriodExpiry (r : Nat)
  /-- CAL_WINDOW_GRANT (R244). -/
  | calWindowGrant (r : Nat) (best : List Nat)
  /-- CAL_TURN (R166). -/
  | calTurn (r : Nat)
  /-- CAL_PASS_END (R169). -/
  | calPassEnd (r : Nat) (results : List CalResult)
  /-- CAL_DEFER_TIMEOUT (R245). -/
  | calDeferTimeout (r : Nat)
  /-- FEED_SHORT (R173). -/
  | feedShort (h ma : Nat)
  /-- FEED_REVERSED (R173). -/
  | feedReversed (h : Nat) (mv : Int)
  /-- FEED_ADC_SAMPLE (R172). -/
  | feedAdcSample (h isns : Nat) (vsns : Int) (mean : Nat)
  /-- FEED_CHECK_END (R173). -/
  | feedCheckEnd (h : Nat)
  /-- FEED_INRUSH_END (R173). -/
  | feedInrushEnd (h ma : Nat)
  /-- FEED_BACKOFF_END (R174). -/
  | feedBackoffEnd (h : Nat)
  /-- FEED_REVERSED_CLEAR (R173). -/
  | feedReversedClear (h : Nat)
  /-- FEED_RETRY_RESET (R174). -/
  | feedRetryReset (h : Nat)
  /-- ROUND_COMPLETE (R187). -/
  | roundComplete (r : Nat) (q : RoundResult)
  /-- SET_BEGIN (R192). -/
  | setBegin (k : Nat)
  /-- WEIGHT_ENTRY (R191). -/
  | weightEntry (k : Nat)
  /-- COLMAP (R191). -/
  | colmap (k : Nat)
  /-- SET_END (R192). -/
  | setEnd (k : Nat)
  /-- CONFIRM (R196). -/
  | confirm (k : Nat)
  /-- DISCARD (R192). -/
  | discard (k : Nat)
  /-- SET_LOAD_TIMEOUT (R192). -/
  | setLoadTimeout (r : Nat)
  /-- UPDATE_LATE (R189). -/
  | updateLate (r basis : Nat)
  /-- SWITCH_POINT (R198). -/
  | switchPoint (r : Nat)
  /-- CHANNEL_UNUSABLE (R190). -/
  | channelUnusable (c : Nat)
  /-- SYMBOL_ASSAY (R202). -/
  | symbolAssay (k : Nat) (rx : Bool) (T : Nat) (wrong : List Nat) (residue : Bool)
  /-- STA_REPORT_REFRESH (R206). -/
  | staReportRefresh (r : Nat) (figs : List StaFigures) (nulls : List (Nat × Int × Nat))
  /-- AOA_DETECTION (R209). -/
  | aoaDetection (r : Nat) (u v : Int) (snr : Int) (sta : Option Nat)
  /-- TBTT (R241). -/
  | tbtt (sec delayUs : Nat) (o : Occupant)
  /-- FILS_DISCOVERY (R242). -/
  | filsDiscovery (sec : Nat)
  /-- CHANNEL_ACCESS (R220). -/
  | channelAccess (r : Nat)
  /-- TX_INTERVAL (R217). -/
  | txInterval (r : Nat) (x : Interval)
  /-- PPDU_RX (R235). -/
  | ppduRx (sec : Nat) (p : Ppdu)
  /-- NEW_PREAMBLE (R236). -/
  | newPreamble (sec : Nat) (level : Int) (solicited : Bool) (part : List RxMpdu)
  /-- SOUNDING_ROUND_START (R223). -/
  | soundingRoundStart (r ltfNs : Nat)
  /-- RESTRICTED_SP_START (R232). -/
  | restrictedSpStart (sec i : Nat)
  /-- JOB_FETCH (R273). -/
  | jobFetch (e : Nat)
  /-- JOB_DONE (R276). -/
  | jobDone (e status : Nat)
  /-- POST_CTL (R277). -/
  | postCtl (e arg v : Nat)
  /-- WL_PUSH (R265). -/
  | wlPush (e mask entry : Nat)
  /-- DMA_GO (R389). -/
  | dmaGo (e v a : Nat)
  /-- DMA_STATUS (R389). -/
  | dmaStatus (e : Nat)
  /-- ICU_CLAIM (R269). -/
  | icuClaim (e : Nat)
  /-- ICU_COMPLETE (R270). -/
  | icuComplete (e v : Nat)
  /-- MASK_SET (R265). -/
  | maskSet (e hi v : Nat)
  /-- MASK_CLR (R265). -/
  | maskClr (e hi v : Nat)
  /-- PEND_SET (R265). -/
  | pendSet (e hi v : Nat)
  /-- PEND_CLR (R265). -/
  | pendClr (e hi v : Nat)
  /-- ROUND_ACK (R266). -/
  | roundAck (e v : Nat)
  /-- SWP_ACK (R266). -/
  | swpAck (e v : Nat)
  /-- DB_SET (R266). -/
  | dbSet (e v : Nat)
  /-- DB_CLR (R266). -/
  | dbClr (e : Nat)
  /-- SEC_ACK (R266). -/
  | secAck (e : Nat)
  /-- TMR_ACK (R266). -/
  | tmrAck (e v : Nat)
  /-- TIMER_COMPARE (R266). -/
  | timerCompare (t : Nat)
  /-- INTERRUPT_ENTRY (R268). -/
  | interruptEntry (e : Nat) (race : Bool)
  /-- JOB_WATCHDOG (R278). -/
  | jobWatchdog (e : Nat)
  /-- ENGINE_WAKE (R281). -/
  | engineWake (e : Nat)
  /-- KERNEL_INSTALL (R285). -/
  | kernelInstall (k e : Nat)
  /-- CMAC (R259). -/
  | leCmac (e : Nat) (f : FmtM)
  /-- CMACC (R259). -/
  | leCmacc (e : Nat) (f : FmtM)
  /-- CMSU (R259). -/
  | leCmsu (e : Nat) (f : FmtM)
  /-- CMPY (R259). -/
  | leCmpy (e : Nat) (f : FmtM)
  /-- CMPYC (R259). -/
  | leCmpyc (e : Nat) (f : FmtM)
  /-- QMAC (R259). -/
  | leQmac (e : Nat) (f : FmtM)
  /-- QMPY (R259). -/
  | leQmpy (e : Nat) (f : FmtM)
  /-- MAC (R259). -/
  | leMac (e : Nat) (f : FmtM)
  /-- MSU (R259). -/
  | leMsu (e : Nat) (f : FmtM)
  /-- MPY (R259). -/
  | leMpy (e : Nat) (f : FmtM)
  /-- FIRMV (R260). -/
  | leFirmv (e : Nat) (f : FmtM)
  /-- FIRMVR (R260). -/
  | leFirmvr (e : Nat) (f : FmtM)
  /-- FEED (R259). -/
  | leFeed (e : Nat) (f : FmtM)
  /-- ACLR (R261). -/
  | leAclr (e : Nat) (f : FmtA)
  /-- AADD (R261). -/
  | leAadd (e : Nat) (f : FmtA)
  /-- ASUB (R261). -/
  | leAsub (e : Nat) (f : FmtA)
  /-- ANEG (R261). -/
  | leAneg (e : Nat) (f : FmtA)
  /-- AABS (R261). -/
  | leAabs (e : Nat) (f : FmtA)
  /-- ASHL (R261). -/
  | leAshl (e : Nat) (f : FmtA)
  /-- ASHR (R261). -/
  | leAshr (e : Nat) (f : FmtA)
  /-- ASHV (R261). -/
  | leAshv (e : Nat) (f : FmtA)
  /-- ARND (R261). -/
  | leArnd (e : Nat) (f : FmtA)
  /-- AMOV (R261). -/
  | leAmov (e : Nat) (f : FmtA)
  /-- ANORM (R261). -/
  | leAnorm (e : Nat) (f : FmtA)
  /-- AEXT (R261). -/
  | leAext (e : Nat) (f : FmtA)
  /-- AINS (R261). -/
  | leAins (e : Nat) (f : FmtA)
  /-- PACK (R261). -/
  | lePack (e : Nat) (f : FmtA)
  /-- ADD (R261). -/
  | leAdd (e : Nat) (f : FmtA)
  /-- SUB (R261). -/
  | leSub (e : Nat) (f : FmtA)
  /-- AND (R261). -/
  | leAnd (e : Nat) (f : FmtA)
  /-- OR (R261). -/
  | leOr (e : Nat) (f : FmtA)
  /-- XOR (R261). -/
  | leXor (e : Nat) (f : FmtA)
  /-- SHL (R261). -/
  | leShl (e : Nat) (f : FmtA)
  /-- SHR (R261). -/
  | leShr (e : Nat) (f : FmtA)
  /-- SAR (R261). -/
  | leSar (e : Nat) (f : FmtA)
  /-- MIN (R261). -/
  | leMin (e : Nat) (f : FmtA)
  /-- MAX (R261). -/
  | leMax (e : Nat) (f : FmtA)
  /-- CMP (R261). -/
  | leCmp (e : Nat) (f : FmtA)
  /-- CLS (R261). -/
  | leCls (e : Nat) (f : FmtA)
  /-- MOV (R261). -/
  | leMov (e : Nat) (f : FmtA)
  /-- ADD16 (R261). -/
  | leAdd16 (e : Nat) (f : FmtA)
  /-- SUB16 (R261). -/
  | leSub16 (e : Nat) (f : FmtA)
  /-- CONJ (R261). -/
  | leConj (e : Nat) (f : FmtA)
  /-- SWAP (R261). -/
  | leSwap (e : Nat) (f : FmtA)
  /-- RCP (R261). -/
  | leRcp (e : Nat) (f : FmtA)
  /-- RSQ (R261). -/
  | leRsq (e : Nat) (f : FmtA)
  /-- MOVI (R262). -/
  | leMovi (e : Nat) (f : FmtI)
  /-- MOVU (R262). -/
  | leMovu (e : Nat) (f : FmtI)
  /-- ADDI (R262). -/
  | leAddi (e : Nat) (f : FmtI)
  /-- ANDI (R262). -/
  | leAndi (e : Nat) (f : FmtI)
  /-- ORI (R262). -/
  | leOri (e : Nat) (f : FmtI)
  /-- CMPI (R262). -/
  | leCmpi (e : Nat) (f : FmtI)
  /-- SHLI (R262). -/
  | leShli (e : Nat) (f : FmtI)
  /-- SARI (R262). -/
  | leSari (e : Nat) (f : FmtI)
  /-- LDX (R258). -/
  | leLdx (e : Nat) (f : FmtL)
  /-- STX (R258). -/
  | leStx (e : Nat) (f : FmtL)
  /-- LDY (R258). -/
  | leLdy (e : Nat) (f : FmtL)
  /-- STY (R258). -/
  | leSty (e : Nat) (f : FmtL)
  /-- BR (R262). -/
  | leBr (e : Nat) (f : FmtB)
  /-- CALL (R262). -/
  | leCall (e : Nat) (f : FmtB)
  /-- RET (R262). -/
  | leRet (e : Nat) (f : FmtB)
  /-- LOOP (R263). -/
  | leLoop (e : Nat) (f : FmtB)
  /-- LOOPI (R263). -/
  | leLoopi (e : Nat) (f : FmtB)
  /-- RETI (R271). -/
  | leReti (e : Nat) (f : FmtB)
  /-- BRI (R262). -/
  | leBri (e : Nat) (f : FmtB)
  /-- CALLI (R262). -/
  | leCalli (e : Nat) (f : FmtB)
  /-- NOP (R262). -/
  | leNop (e : Nat) (f : FmtS)
  /-- WAIT (R281). -/
  | leWait (e : Nat) (f : FmtS)
  /-- IN (R265). -/
  | leIn (e : Nat) (f : FmtS)
  /-- OUT (R265). -/
  | leOut (e : Nat) (f : FmtS)
  /-- MFS (R262). -/
  | leMfs (e : Nat) (f : FmtS)
  /-- MTS (R262). -/
  | leMts (e : Nat) (f : FmtS)
  /-- SETM (R262). -/
  | leSetm (e : Nat) (f : FmtS)
  /-- CLRM (R262). -/
  | leClrm (e : Nat) (f : FmtS)
  /-- FENCE (R262). -/
  | leFence (e : Nat) (f : FmtS)
  /-- BREAK (R262). -/
  | leBreak (e : Nat) (f : FmtS)
  /-- PON_DS_FRAME (R293). -/
  | ponDsFrame (errs : Nat) (hec : Bool) (sfc corr uncorr hecErr : Nat)
  /-- XGEM_FRAME_RX (R295). -/
  | xgemFrameRx (x : Xgem)
  /-- BURST_PROFILE (R303). -/
  | burstProfile (mic directed : Bool) (seq i : Nat) (p : PonProfile)
  /-- ASSIGN_ONU_ID (R296). -/
  | assignOnuId (mic : Bool) (id vendor serial : Nat)
  /-- RANGING_TIME (R301). -/
  | rangingTime (mic directed : Bool) (seq : Nat) (relative : Bool) (v : Int)
  /-- DEACTIVATE_ONU_ID (R296). -/
  | deactivateOnuId (mic : Bool)
  /-- DISABLE_SERIAL_NUMBER (R296). -/
  | disableSerialNumber (mic disable : Bool) (sn : Option (Nat × Nat))
  /-- REQUEST_REGISTRATION (R299). -/
  | requestRegistration (mic : Bool)
  /-- ASSIGN_ALLOC_ID (R307). -/
  | assignAllocId (mic : Bool) (seq allocId : Nat) (assign : Bool)
  /-- KEY_CONTROL (R313). -/
  | keyControl (mic : Bool) (i : Nat)
  /-- SLEEP_ALLOW (R320). -/
  | sleepAllow (mic on : Bool)
  /-- UNSUPPORTED_PLOAM (R299). -/
  | unsupportedPloam (mic : Bool) (seq : Nat)
  /-- TO1_EXPIRY (R296). -/
  | to1Expiry
  /-- TO2_EXPIRY (R296). -/
  | to2Expiry
  /-- PON_LOS_CHANGE (R321). -/
  | ponLosChange (level held : Bool)
  /-- BWMAP_ALLOCATION (R304). -/
  | bwmapAllocation (m : Allocation) (place : List (Nat × Nat))
  /-- US_PREFETCH (R305). -/
  | usPrefetch (i : Nat)
  /-- BURST_START (R302). -/
  | burstStart (late : List Nat)
  /-- ROGUE_DETECT (R306). -/
  | rogueDetect (cause : Nat)
  /-- TX_FAULT_CHANGE (R306). -/
  | txFaultChange (level held : Bool)
  /-- TOD_WAIT_TIMEOUT (R319). -/
  | todWaitTimeout
  /-- AUTO_DWELL_EXPIRY (R289). -/
  | autoDwellExpiry
  /-- PS_INTERVAL_EXPIRY (R320). -/
  | psIntervalExpiry (which : Nat)
  /-- DDM_POLL (R323). -/
  | ddmPoll (r : Option DdmRead)
  /-- PON_SECOND_LATCH (R322). -/
  | ponSecondLatch
  /-- PACKET_INGRESS (R338). -/
  | packetIngress (a : Arrival)
  /-- POOL_ALLOC (R335). -/
  | poolAlloc (reqs : List (Nat × Nat))
  /-- WAYBILL_GIVE (R332). -/
  | waybillGive (port h dest : Nat)
  /-- WAYBILL_RELEASE (R333). -/
  | waybillRelease (port : Nat) (ptr : BufPtr)
  /-- REPLICATION (R328). -/
  | replication (h : Nat)
  /-- REINJECT (R359). -/
  | reinject (n h : Nat)
  /-- FLOW_AGEING (R353). -/
  | flowAgeing (i : Nat)
  /-- DROVER_WATCHDOG (R360). -/
  | droverWatchdog (n : Nat)
  /-- ENQUEUE (R368). -/
  | enqueue (h q : Nat)
  /-- DEQUEUE_DECISION (R371). -/
  | dequeueDecision (e : Nat) (rx : List (Nat × List (Nat × Nat)))
  /-- GATE_ENTRY_START (R373). -/
  | gateEntryStart (e entry : Nat) (o : Occupant)
  /-- GATE_LIST_SWITCH (R374). -/
  | gateListSwitch (e : Nat)
  /-- BUCKET_OVERFLOW (R377). -/
  | bucketOverflow (q e : Nat) (peak : Bool) (o : Occupant)
  /-- DRR_STARVATION (R376). -/
  | drrStarvation (e q : Nat) (o : Occupant)
  /-- QUEUE_SAMPLE_SWEEP (R378). -/
  | queueSampleSweep
  /-- SPRUE_RUN_START (R384). -/
  | sprueRunStart (n : Nat) (host : List Byte) (u : Option Upset)
  /-- SPRUE_RUN_COMPLETE (R388). -/
  | sprueRunComplete (n err : Nat)
  /-- TX_PACKET_FETCH (R395). -/
  | txPacketFetch (n : Nat) (descs : List Nat) (data : List Byte) (err : Bool)
  /-- RING_IRQ_TIMER (R397). -/
  | ringIrqTimer (n : Nat)
  /-- DRIVE_LINK_UP (R400). -/
  | driveLinkUp (d : Nat)
  /-- DRIVE_INIT_DONE (R401). -/
  | driveInitDone (d extents : Nat)
  /-- DRIVE_INIT_TIMEOUT (R400). -/
  | driveInitTimeout (d : Nat)
  /-- DRIVE_LINK_DOWN (R400). -/
  | driveLinkDown (d : Nat)
  /-- NVME_TIMEOUT (R400). -/
  | nvmeTimeout (d opcode : Nat)
  /-- SPLICE_SEGMENT (R404). -/
  | spliceSegment (cid : Nat)
  /-- DELETE_FINISH (R407). -/
  | deleteFinish (cid : Nat)
  /-- ETH_FRAME_RX (R413). -/
  | ethFrameRx (n : Nat) (d : List Byte) (fcsOk fifo : Bool)
  /-- ETH_FRAME_TX_START (R413). -/
  | ethFrameTxStart (n : Nat)
  /-- ETH_LINK_CHANGE (R414). -/
  | ethLinkChange (n fault : Nat)
  /-- LLDP_TX (R416). -/
  | lldpTx (n : Nat)
  /-- LLDP_TTL_EXPIRY (R416). -/
  | lldpTtlExpiry (n : Nat)
  /-- PTP_TIMESTAMP (R426). -/
  | ptpTimestamp (n : Nat) (tx : Bool) (p wait : Nat)
  /-- PPS_IN_EDGE (R430). -/
  | ppsInEdge (rising : Bool)
  /-- PPS_IN_LOSS (R431). -/
  | ppsInLoss
  /-- PPS_OUT_RISE (R432). -/
  | ppsOutRise
  /-- PPS_OUT_FALL (R432). -/
  | ppsOutFall
  /-- BEACON_TX (R446). -/
  | beaconTx (air : Nat) (ready : Bool)
  /-- URGENT_TX (R456). -/
  | urgentTx (ready : Bool)
  /-- CARAVAN_PACKET_RX (R441). -/
  | caravanPacketRx (p : CaravanRx)
  /-- SUPERFRAME_START (R446). -/
  | superframeStart
  /-- FIBRE_HOLD_EXPIRY (R456). -/
  | fibreHoldExpiry
  /-- CHANNEL_ROUND (R460). -/
  | channelRound
  /-- ROOT_BURN_DONE (R472). -/
  | rootBurnDone (k : Nat)
  /-- GPIO_EDGE (R535). -/
  | gpioEdge (g : Nat) (level : Bool)
  /-- NVME_COMPLETION (R403). -/
  | nvmeCompletion (d cid : Nat) (host : List Byte)
  /-- DRIVE_FATAL_STATUS (R400). -/
  | driveFatalStatus (d : Nat)
  /-- RESTRICTED_SP_END (R232). -/
  | restrictedSpEnd (sec i : Nat) (o : Occupant)
  /-- FRAGMENT_REASSEMBLY_TIMEOUT (R357). -/
  | fragmentReassemblyTimeout (i : Nat)
  /-- JTAG_TCK_EDGE (R536). -/
  | jtagTckEdge (rising tms tdi : Bool) (balls : Nat)
  /-- JTAG_TRST_L_LOW (R536). -/
  | jtagTrstLLow
  /-- PATROL_SCRUB (R554). -/
  | patrolScrub (ch symbols : Nat)
deriving DecidableEq, Repr, Inhabited

end Sys2Proof
end

