-- ==== Sys2Proof/Decode.lean ====
section
/-!
DEFINITION. Words of commands. The command table gives no row any bits, so no word spells a command.
-/
namespace Sys2Proof

/-- The command that a word of the command table spells: none, since no row of the table has bits. Log entry 2 (DESIGN CHOICE). -/
def decodeTableWord (_nbits _w : Nat) : Option Instr := none

end Sys2Proof
end

