-- ==== Sys2Proof/Machine/StCvn.lean ====
section
/-!
DEFINITION. The state of the Caravan modem and the venue fabric (chapter 15).
-/
namespace Sys2Proof.Machine

/-- Membership states (Table 15-7). -/
inductive MemberSt where
  | off | listen | claim | member | mute
deriving DecidableEq, Repr, Inhabited

/-- What a member last heard from another (Table 15-8, R451, R453, R455, R460). -/
structure CvnNbr where
  used : Bool := false
  version : Nat := 0
  trusted : Bool := false
  fibreOk : Bool := false
  lqi : Nat := 0
  /-- 0.25 dBm -/
  level : Int := 0
  hops : Nat := 15
  stations : Nat := 0
  air : Nat := 0
  backhaul : Nat := 0
  lastSf : Nat := 0
  tag : Nat := 0
  claim : Bool := false
  /-- CHANNEL: current and proposed candidate by radio -/
  cur : Tab Nat := []
  prop : Tab Nat := []
  /-- d_up of its last beacon, ns, where it names this member as its parent -/
  dUp : Option Int := none
  /-- superframes in which it last stood in NEIGHBOURS and in DELAY_ECHO, plus 1 -/
  listedAt : Nat := 0
  echoedAt : Nat := 0
deriving DecidableEq, Repr, Inhabited

/-- A FIBRE element (Table 15-6). -/
structure Fibre where
  origin : Nat
  lost : Bool
  hops : Nat
  seq : Nat
deriving DecidableEq, Repr, Inhabited

/-- A CONFLICT element and the beacons that it still goes into (R453). -/
structure CvnConflict where
  id : Nat
  tag : Nat
  every : Bool
  left : Nat := 4
deriving DecidableEq, Repr, Inhabited

/-- A VETO element (Table 15-6). -/
structure CvnVeto where
  number : Nat
  crc : Nat
  member : Nat
  reason : Nat
deriving DecidableEq, Repr, Inhabited

/-- A plan that is not yet the active page (R459). -/
structure HeldPlan where
  number : Nat
  crc : Nat
  /-- superframe in which it was first heard -/
  since : Nat
  frags : Tab (List Byte) := []
  /-- the whole plan -/
  whole : Option (List Byte) := none
  vetoed : Option Nat := none
  /-- fragment that the next beacon sends -/
  next : Nat := 0
deriving DecidableEq, Repr, Inhabited

/-- A transmission of the last hour: TB0 ns of its start, and its length in µs (R445). -/
structure Airtime where
  at_ : Nat
  us : Nat
deriving DecidableEq, Repr, Inhabited

/-- A packet sent: slot of its superframe, code index, payload (R440, R446). -/
structure CvnPacket where
  sf : Nat
  slot : Nat
  code : Nat
  payload : List Byte
deriving DecidableEq, Repr, Inhabited

/-- An operation on the transceiver's SPI port: bytes written, or a delay in µs (R437). -/
inductive SpiOp where
  | write (bytes : List Byte)
  | wait (us : Nat)
deriving DecidableEq, Repr, Inhabited

/-- The Caravan modem and the fabric. Log entry 103 (DESIGN CHOICE). -/
structure Caravan where
  st : MemberSt := .off
  id : Option Nat := none
  /-- superframe last begun -/
  sf : Nat := 0
  /-- the running superframe is received whole, with TB2 SET (Table 15-7) -/
  whole : Bool := false
  /-- claim beacons sent, and the superframe that follows the second -/
  claims : Nat := 0
  claimEnd : Nat := 0
  muteFrom : Nat := 0
  /-- a fixed ID has been named by a CONFLICT and not committed again (R453) -/
  blocked : Bool := false
  /-- IDs from which a CONFLICT expelled this member, with the superframe -/
  expelled : List (Nat × Nat) := []
  nbr : Tab CvnNbr := []
  /-- neighbours whose VERSION event waits, and those sent in this superframe (R451) -/
  versions : List (Nat × Nat) := []
  versionsSent : Nat := 0
  parent : Option Nat := none
  hops : Nat := 15
  holdover : Bool := false
  /-- θ in ns, the TB2 time at which it was measured, and whether the next one has no predecessor -/
  theta : Int := 0
  thetaAt : Nat := 0
  fresh : Bool := true
  /-- rate base in 10⁻¹⁸ -/
  base : Int := 0
  /-- d_up that the parent last returned, with its superframe -/
  echo : Option (Int × Nat) := none
  /-- fibre_ok as sent -/
  fibreOk : Bool := false
  fibreSeq : Nat := 0
  fibreOut : List Fibre := []
  fibreSeen : List (Nat × Nat × Nat) := []
  /-- urgent packets that wait: absolute slot and element (R456) -/
  urgent : List (Nat × Fibre) := []
  conflicts : List CvnConflict := []
  vetoOut : List CvnVeto := []
  vetoSeen : List CvnVeto := []
  plan : Option HeldPlan := none
  /-- current and proposed candidate by radio, plus 1; 0 is none (R460) -/
  cur : Tab Nat := []
  prop : Tab Nat := []
  air : List Airtime := []
  noise : Int := 0
  /-- PON payload bytes carried and granted in the running superframe, and backhaul use of the last one, % (R458) -/
  carried : Nat := 0
  granted : Nat := 0
  backhaul : Nat := 0
  /-- packets sent, and SPI operations, oldest first (outputs) -/
  sent : List CvnPacket := []
  spi : List SpiOp := []
deriving DecidableEq, Repr, Inhabited

end Sys2Proof.Machine
end

