-- ==== Sys2Proof/Machine/StDma.lean ====
section
/-!
DEFINITION. The state of Sprue, the host rings, the edge store and the device's memories (chapter 13, R553).
-/
namespace Sys2Proof.Machine

/-- A memory: bytes at addresses, strictly rising, no listed byte equal to 0, which an unlisted address reads. -/
abbrev Memory := List Host.Cell

/-- The canonical form of a memory. -/
abbrev Memory.wf (m : Memory) : Bool := Tab.wf (α := Byte) m

/-- What a run on a channel has come to (R387). -/
structure RunEnd where
  chan : Nat
  status : Nat
  tag : Nat
  bytes : Nat
  /-- index of the last entry run -/
  entry : Nat
deriving DecidableEq, Repr, Inhabited

/-- One Sprue engine. -/
structure Sprue where
  /-- the list that runs, awaiting its read-back -/
  running : Option RunEnd := none
  /-- channel k that ran last -/
  last : Nat := 31
  /-- Ladle completion queue, oldest first: status, channel k, tag (R389) -/
  cq : List (Nat × Nat × Nat) := []
deriving DecidableEq, Repr, Inhabited

/-- Descriptors of a transmitted packet that are not yet written back (R396). -/
structure TxWait where
  descs : Nat
  tsReq : Bool
  /-- status, timestamp and time base, once known -/
  done : Option (Nat × Nat × Nat) := none
  handle : Nat := 0
deriving DecidableEq, Repr, Inhabited

/-- One host ring (R392, R397, R398). -/
structure Ring where
  prod : Nat := 0
  cons : Nat := 0
  /-- descriptors taken and not yet written back (transmit) -/
  taken : Nat := 0
  stopped : Bool := false
  wait : List TxWait := []
  /-- packets written back since the last message, and TB0 nanosecond of the first of them -/
  unsignalled : Nat := 0
  since : Nat := 0
deriving DecidableEq, Repr, Inhabited

/-- Drive states (Table 13-9). -/
inductive DriveSt where
  | off | absent | init | ready | failed
deriving DecidableEq, Repr, Inhabited

/-- Object states (Table 13-10, STAT). -/
inductive ObjSt where
  | open_ | sealed | deleting | lost
deriving DecidableEq, Repr, Inhabited

/-- An object of the store (R402). -/
structure Obj where
  key : Nat
  drive : Nat
  st : ObjSt := .open_
  max : Nat
  data : List Byte := []
  sealedAt : Nat := 0
deriving DecidableEq, Repr, Inhabited

/-- One drive. -/
structure Drive where
  st : DriveSt := .off
  link : Bool := false
  /-- extents that the drive has; extents 0 to 1,023 hold the index -/
  extents : Nat := 0
  /-- TB0 nanosecond of entry to INIT, and of the timeouts -/
  initAt : Nat := 0
  timeouts : List Nat := []
  /-- sealed objects in its checkpoint and journal, with their contents -/
  media : List Obj := []
deriving DecidableEq, Repr, Inhabited

/-- What an outstanding store command does. -/
inductive StoreOp where
  | write | read | seal_ | delete | spliceTcp | spliceMcast
deriving DecidableEq, Repr, Inhabited

/-- An outstanding store command (R403 to R407). -/
structure StoreJob where
  cid : Nat
  op : StoreOp
  key : Nat
  off : Nat := 0
  len : Nat := 0
  /-- bytes written, read or delivered -/
  done : Nat := 0
  /-- bytes of a splice read from the drive -/
  fetched : Nat := 0
  /-- host segments of a WRITE still to write: address and length -/
  segs : List (Nat × Nat) := []
  host : Nat := 0
  dest : Nat := 0
  tid : Nat := 0
  mss : Nat := 0
  rate : Nat := 0
  mark : Nat := 0
  template : List Byte := []
  pkts : Nat := 0
  /-- a journal flush has completed -/
  flushed : Bool := false
  cancelled : Bool := false
  /-- TB0 nanosecond of its start, for pacing -/
  since : Nat := 0
  /-- packet bytes sent, for pacing -/
  sentBytes : Nat := 0
deriving DecidableEq, Repr, Inhabited

/-- A binding of a mark for ingest (R403). -/
structure Binding where
  mark : Nat
  key : Nat
  payload : Bool
deriving DecidableEq, Repr, Inhabited

/-- Sprue, rings, store and memories. -/
structure Dma where
  sprue : Tab Sprue := []
  /-- lists that channels hold: address -/
  chan : Tab (Option Nat) := []
  /-- completions of firmware channels: channel, status and tag (an output) -/
  fwDone : List (Nat × Nat × Nat) := []
  ring : Tab Ring := []
  /-- writes to host memory, oldest first: bus address and bytes (an output) -/
  hostOut : List (Nat × List Byte) := []
  drive : Tab Drive := []
  objs : List Obj := []
  jobs : List StoreJob := []
  bind : List Binding := []
  /-- LPDDR6 and on-chip SRAM -/
  ddr : Memory := []
  sram : Memory := []
deriving DecidableEq, Repr, Inhabited

end Sys2Proof.Machine
end

