-- ==== Sys2Proof/Machine/StEth.lean ====
section
/-!
DEFINITION. The state of the Ethernet ports (chapter 14).
-/
namespace Sys2Proof.Machine

/-- A frame marked for a PTP stamp (R425, R426). -/
structure PtpMark where
  /-- receive: waybill that gets the stamp -/
  handle : Option Nat := none
  /-- transmit: host ring and number of its write-back -/
  ring : Option (Nat × Nat) := none
deriving DecidableEq, Repr, Inhabited

/-- Values of the partner's last EEE TLV (R416). -/
structure Lldp where
  txTw : Nat
  rxTw : Nat
  /-- TB0 nanosecond at which its LLDPDU lapses -/
  until_ : Nat
deriving DecidableEq, Repr, Inhabited

/-- One Ethernet port. -/
structure EthPort where
  /-- fault signalling received: 0 none, 2 local, 3 remote (R414) -/
  fault : Nat := 0
  /-- ETH.link_state as last reported -/
  link : Nat := 0
  /-- transmit direction in low-power idle, and the TB0 nanosecond of its entry (R415) -/
  lpi : Bool := false
  lpiAt : Nat := 0
  /-- receive direction in low-power idle, and the TB0 nanosecond of its entry -/
  rxLpi : Bool := false
  rxLpiAt : Nat := 0
  /-- TB0 nanosecond from which a frame may start after a wake -/
  readyAt : Nat := 0
  /-- TB0 nanosecond of the last frame or eligible queue -/
  idleAt : Nat := 0
  /-- ETH.lpi_tw_res_us -/
  tw : Nat := 0
  lldp : Option Lldp := none
  /-- TB0 nanosecond of the last LLDPDU, plus 1 -/
  lldpAt : Nat := 0
  /-- frames sent at the EL balls, oldest first, with their FCS (an output) -/
  sent : List (List Byte) := []
  /-- marked frames that wait for DC27, receive and transmit (R426) -/
  rxMarks : List PtpMark := []
  txMarks : List PtpMark := []
  /-- the 32 live SNAPSHOT counters (Table 14-2) -/
  stats : Tab Nat := []
deriving DecidableEq, Repr, Inhabited

/-- The Ethernet ports. -/
structure Eth where
  port : Tab EthPort := []
  /-- number of the next transmit write-back that waits for a stamp -/
  nextMark : Nat := 0
deriving DecidableEq, Repr, Inhabited

end Sys2Proof.Machine
end

