-- ==== Sys2Proof/Machine/StPkt.lean ====
section
/-!
DEFINITION. The state of the packet path (chapter 11) and of Tollgate (chapter 12).
-/
namespace Sys2Proof.Machine

/-- A waybill in use, with the bytes of its packet (Table 11-1). Log entry 3 (DESIGN CHOICE). -/
structure Waybill where
  used : Bool := false
  pool : Nat := 0
  buffer : Nat := 0
  offset : Nat := 0
  version : Nat := 0
  srcType : Nat := 0
  srcInst : Nat := 0
  layers : Nat := 0
  l3Type : Nat := 0
  l4Type : Nat := 0
  tunnel : Bool := false
  trunc : Bool := false
  lenConf : Bool := false
  l3Off : Nat := 0
  l4Off : Nat := 0
  inOff : Nat := 0
  l3Csum : Nat := 0
  l4Csum : Nat := 0
  hash : Nat := 0
  rule : Nat := 0
  tcamHit : Bool := false
  flowHit : Bool := false
  mark : Nat := 0
  flow : Nat := 0
  color : Nat := 3
  queue : Nat := 0x7FFF
  tid : Nat := 0
  exc : Nat := 0
  owner : Nat := 0
  /-- the packet: `length` bytes from `offset` of the buffer -/
  data : List Byte := []
  /-- length before any trim (R358) -/
  whole : Nat := 0
  /-- TID of the 802.11 frame that carried it (R356) -/
  airTid : Option Nat := none
  /-- it waits for the replication engine with this group -/
  group : Option Nat := none
  /-- buffer bytes outside the packet that a Sprue engine has written, by offset in the buffer -/
  extra : Tab Byte := []
  /-- TB0 nanosecond at which it entered, or its PTP stamp (Table 13-6, R426) -/
  ts : Nat := 0
  /-- transmit ring whose descriptors wait for it to leave (R396) -/
  ring : Option Nat := none
  /-- an uncorrectable error stands in the buffer's data (R337) -/
  ecc : Bool := false
deriving DecidableEq, Repr, Inhabited

/-- Answer to an ALLOC (R332). -/
inductive AllocAns where
  | handle (h : Nat) | empty | zero | tooLong
deriving DecidableEq, Repr, Inhabited

/-- One packet pool (R335). -/
structure Pool where
  /-- buffers in use, ascending -/
  used : List Nat := []
  /-- port that last won an allocation -/
  winner : Nat := 95
  /-- requests carried to the next cycle: port and bytes -/
  carried : List (Nat × Nat) := []
deriving DecidableEq, Repr, Inhabited

/-- A datagram under reassembly (R357, code 9): handles of its fragments in order of arrival. -/
structure Datagram where
  key : List Byte := []
  frags : List Nat := []
  /-- TB0 nanosecond of the first fragment -/
  since : Nat := 0
deriving DecidableEq, Repr, Inhabited

/-- A token bucket counted in units of 10⁻⁹ token, as the debt below its depth. -/
structure Bucket where
  debt : Nat := 0
  filled : Nat := 0
deriving DecidableEq, Repr, Inhabited

/-- Rules, flows and exceptions (R347, R351 to R358). -/
structure Pkt where
  wb : Tab Waybill := []
  pool : Tab Pool := []
  /-- ALLOC answers given in the last pipeline cycle: port and answer (an output) -/
  answers : List (Nat × AllocAns) := []
  /-- waybill allocation: port that last won -/
  wbWinner : Nat := 95
  /-- current rule version -/
  version : Nat := 0
  /-- rules of the current version: 176 bytes, unlisted all zero -/
  tcam : Tab (List Byte) := []
  /-- edits of the next version, oldest first -/
  tcamEdit : List (Nat × List Byte) := []
  /-- superseded versions that are still live, with their rules, oldest first -/
  old : List (Nat × Tab (List Byte)) := []
  /-- flow entries: 64 bytes, unlisted all zero -/
  flow : Tab (List Byte) := []
  /-- staged flow entries, oldest first -/
  flowEdit : List (List Byte) := []
  /-- TB0 nanosecond at which a flow entry was written, or its hit flag cleared -/
  flowAt : Tab Nat := []
  /-- LEARN exceptions raised in venue second `learnSec` -/
  learned : Nat := 0
  learnSec : Nat := 0
  /-- token buckets of host-delivered exceptions, by code -/
  excHost : Tab Bucket := []
  /-- token bucket of ICMP time exceeded (Table 11-9, code 5) -/
  icmpBucket : Bucket := {}
  /-- datagrams under reassembly, by model number -/
  frag : Tab Datagram := []
  fragNext : Nat := 0
  /-- ICMP and ICMPv6 messages sent by firmware: type, code, and the packet that caused it (an output) -/
  icmp : List (Nat × Nat × List Byte) := []
  /-- packets that the management complex has taken (scheduler 74, an output) -/
  mgmtRx : List (List Byte) := []
deriving DecidableEq, Repr, Inhabited

/-- A packet in a Tollgate queue. -/
structure QPkt where
  handle : Nat
  /-- counted length L' (R368) -/
  len : Nat
  /-- TB0 nanosecond of the enqueue -/
  at_ : Nat
deriving DecidableEq, Repr, Inhabited

/-- One Tollgate queue; each bucket as the debt below its depth in units of 1/8,000,000 byte (R370). -/
structure TollQ where
  pkts : List QPkt := []
  cDebt : Nat := 0
  pDebt : Nat := 0
  /-- TB0 nanosecond up to which the buckets have been filled -/
  filled : Nat := 0
  /-- held ineligible (R227) -/
  heldOff : Bool := false
  /-- overflow episode of C and of P in progress (R377) -/
  cEpisode : Bool := false
  pEpisode : Bool := false
deriving DecidableEq, Repr, Inhabited

/-- A queue on a scheduler's active list (R371). -/
structure Active where
  q : Nat
  deficit : Nat := 0
  /-- tier in which its turn began -/
  turn : Option Nat := none
  /-- TB0 nanosecond of its last turn, or of joining -/
  last : Nat := 0
deriving DecidableEq, Repr, Inhabited

/-- One scheduler (R367, R371 to R374). -/
structure Sched where
  list : List Active := []
  /-- last queue passed by the pointer -/
  pointer : Option Nat := none
  vtime : Nat := 0
  /-- gate state in force: entry 0 is no list -/
  gateEntry : Nat := 0
  gateOpen : Nat := 0xFF
  gateProtect : Nat := 0
  /-- time-base nanosecond at which the entry began -/
  gateAt : Nat := 0
  /-- heads of the protected queues when their window opened (R376) -/
  heads : List (Nat × Nat) := []
  /-- queue of a protected class last served in the window -/
  windowServed : Option Nat := none
  /-- packets dequeued and not yet sent by the egress, oldest first: handle and queue -/
  out : List (Nat × Nat) := []
deriving DecidableEq, Repr, Inhabited

/-- Debts of a policer's two buckets, in units of 1/8,000,000 byte (R368). -/
structure Policer where
  cDebt : Nat := 0
  pDebt : Nat := 0
  filled : Nat := 0
deriving DecidableEq, Repr, Inhabited

/-- Tollgate. -/
structure Toll where
  q : Tab TollQ := []
  sched : Tab Sched := []
  policer : Tab Policer := []
  /-- the last sweep: bytes, packets and delay by queue, and its number (R378) -/
  sample : Tab (Nat × Nat × Nat) := []
  sweep : Nat := 0
deriving DecidableEq, Repr, Inhabited

end Sys2Proof.Machine
end

