-- ==== Sys2Proof/Machine/StTask.lean ====
section
/-!
DEFINITION. The state of the job scheduler, the Ladle engines and the Drover cores (chapter 9, R357, R360).
-/
namespace Sys2Proof.Machine

/-- A posted job (R273, R277). -/
structure Job where
  queue : Nat
  /-- 0 software, 1 waybill, 2 round -/
  kind : Nat
  arg : Nat
  /-- in units of 64 cycles -/
  cost : Nat
  barrier : Bool := false
  seq : Nat := 0
deriving DecidableEq, Repr, Inhabited

/-- One job queue. -/
structure JobQ where
  jobs : List Job := []
  /-- hardware posts that wait for space -/
  held : List Job := []
  seq : Nat := 0
deriving DecidableEq, Repr, Inhabited

/-- A record of the scheduler trace ring (R279). -/
structure TraceRec where
  time : Nat
  kind : Nat
  group : Nat
  queue : Nat
  engine : Nat
  word : Nat
  /-- its sequence number (R280) -/
  seq : Nat := 0
deriving DecidableEq, Repr, Inhabited

/-- What the scheduler knows of an engine: Ladle engine e, or 0x40 + n for Drover core DCn. -/
structure Runner where
  job : Option Job := none
  /-- TB0 nanosecond of its dispatch -/
  since : Nat := 0
  /-- fetch buffer (R273) -/
  buf : Option Job := none
  /-- blocked in a read of JOB_FETCH; the register that takes the argument -/
  fetch : Option (Option Nat) := none
  info : Nat := 0
  /-- argument that the last read returned -/
  arg : Nat := 0
  held : Bool := false
  /-- TB0 nanoseconds of its recasts -/
  recasts : List Nat := []
  postArg : Nat := 0
  postStatus : Nat := 0
deriving DecidableEq, Repr, Inhabited

/-- A data memory: listed bytes over zeros, or over lost contents of a generation (Table 9-15, DORMANT).
Log entry 51 (DESIGN CHOICE). -/
structure Mem where
  cells : Tab (Option Byte) := []
  lost : Option Nat := none
deriving DecidableEq, Repr, Inhabited

/-- One bank of the banked registers (Table 9-1). Log entries 3 (DESIGN CHOICE), 51 (DESIGN CHOICE). -/
structure Bank where
  /-- A0–A3 as 40-bit patterns -/
  acc : Tab Nat := []
  d : Tab Nat := []
  f : Tab Nat := []
  /-- IX0–IX3 and IY0–IY3, 0–7 -/
  idx : Tab Nat := []
  /-- ST [7:0] -/
  st : Nat := 0
  lr : Nat := 0
  lpc : Nat := 0
  lps : Nat := 0
  lpe : Nat := 0
  /-- the hidden set of the enclosing loop -/
  lpc2 : Nat := 0
  lps2 : Nat := 0
  lpe2 : Nat := 0
deriving DecidableEq, Repr, Inhabited

/-- An entry of the active stack: source, or 0x40 for the fault exception (R268 to R272). -/
structure Handler where
  source : Nat
  claimed : Bool := false
  completed : Bool := false
  group : Nat := 0
deriving DecidableEq, Repr, Inhabited

/-- A store that the next two instructions may not see (Table 9-7): memory Y, word address, old word, and instructions
left. Log entry 52 (DEDUCED). -/
structure Exposed where
  y : Bool
  addr : Nat
  old : Nat
  left : Nat
deriving DecidableEq, Repr, Inhabited

/-- Sleep of an engine (Table 9-15). -/
inductive Sleep where
  | awake | idle | nap | dormant
deriving DecidableEq, Repr, Inhabited

/-- One Ladle engine. Log entry 3 (DESIGN CHOICE). -/
structure Ladle where
  bank0 : Bank := {}
  bank1 : Bank := {}
  /-- MX0–MX3, MY0–MY3 (0–7) and LX0–LX3, LY0–LY3 (8–15) -/
  mod : Tab Nat := []
  /-- values of `mod` that post-modify still uses: register, value, instructions left (Table 9-7) -/
  late : List (Nat × Nat × Nat) := []
  exposed : List Exposed := []
  isp : Nat := 0
  islim : Nat := 0
  vbase : Nat := 0
  pc : Nat := 0
  /-- PC of the thread while handlers run -/
  threadPc : Nat := 0
  /-- device cycle of the engine's reset -/
  resetCycle : Nat := 0
  prog : Tab Nat := []
  x : Mem := {}
  y : Mem := {}
  stack : List Handler := []
  mask : Nat := 0
  soft : Nat := 0
  doorbell : Bool := false
  wlData : Tab Nat := []
  /-- stalled on weight-load credit -/
  wlStall : Bool := false
  dmaLo : Nat := 0
  dmaHi : Nat := 0
  pwrm : Nat := 0xC
  sleep : Sleep := .awake
  /-- a fault in the fault handler, or an interrupt stack overflow (R272) -/
  halted : Bool := false
  /-- halted for the debugger by BREAK -/
  debugHalt : Bool := false
  faultCause : Nat := 0
  /-- value that the last port read returned, for the port's own command -/
  lastRead : Nat := 0
deriving DecidableEq, Repr, Inhabited

/-- A resident kernel (R282 to R285). -/
structure Kernel where
  abi : Nat := 0
  /-- engines that hold it -/
  engines : Nat := 0
  progBase : Nat := 0
  xBase : Nat := 0
  yBase : Nat := 0
  /-- words, bytes of X and bytes of Y -/
  progLen : Nat := 0
  xLen : Nat := 0
  yLen : Nat := 0
  /-- queues it may post to -/
  posts : List Nat := []
  /-- job entries: queue and PROGRAM offset; handlers: source and PROGRAM offset -/
  entries : List (Nat × Nat) := []
  handlers : List (Nat × Nat) := []
  reset : Nat := 0
  /-- relocated content: program words, X bytes, Y bytes -/
  prog : List Nat := []
  xData : List Byte := []
  yData : List Byte := []
deriving DecidableEq, Repr, Inhabited

/-- An installation or unload in progress (R285). -/
structure Install where
  slot : Nat
  cid : Option Nat
  /-- the new kernel; `none` unloads -/
  kernel : Option Kernel
  mask : Nat
  left : List Nat
deriving DecidableEq, Repr, Inhabited

/-- A timer of the interrupt controller (sources 56 to 59). -/
structure Timer where
  lo : Nat := 0
  hi : Nat := 0
  armed : Bool := false
  level : Bool := false
deriving DecidableEq, Repr, Inhabited

/-- Jobs, engines and kernels. -/
structure Task where
  q : Tab JobQ := []
  credit : Tab Int := []
  trace : List TraceRec := []
  /-- sequence number of the next record (R280) -/
  traceNext : Nat := 0
  /-- engines that wait in a fetch, longest first -/
  waiters : List Nat := []
  run : Tab Runner := []
  eng : Tab Ladle := []
  slot : Tab Kernel := []
  install : List Install := []
  chunks : Chunks := {}
  timer : Tab Timer := []
  /-- sources 8–10 and 11–13 by radio, and 60, that await acknowledgement -/
  roundLevel : Tab Bool := []
  swpLevel : Tab Bool := []
  secLevel : Bool := false
  /-- generations of lost memory contents drawn so far -/
  lostGen : Nat := 0
deriving DecidableEq, Repr, Inhabited

end Sys2Proof.Machine
end

