-- ==== Sys2Proof/Machine/StWlan.lean ====
section
/-!
DEFINITION. The state of the wireless MAC (chapter 8).
-/
namespace Sys2Proof.Machine

/-- An MPDU sent and not yet acknowledged: its waybill, TID and the attempts made. -/
structure AirPending where
  handle : Nat
  tid : Nat
  tries : Nat := 1
  /-- packet number and key slot -/
  pn : Nat := 0
  key : Option Nat := none
deriving DecidableEq, Repr, Inhabited

/-- One station as the MAC holds it. -/
structure StaSt where
  /-- links that are awake, bit r -/
  awake : Nat := 0
  /-- queues held because every link is in power save (R227) -/
  held : Bool := false
  unacked : List AirPending := []
  /-- buffer that the station has reported, bytes (R233) -/
  buffered : Nat := 0
  /-- TB0 nanosecond at which each radio last served it, plus 1 (R224) -/
  served : Tab Nat := []
  /-- EMLSR: radio of the exchange in progress, radio of the last one, and the end of the transition delay (R230) -/
  emlsr : Option Nat := none
  emlsrLast : Option Nat := none
  emlsrFree : Nat := 0
  /-- levels received in the running second, 0.25 dBm, and STA.rssi -/
  levelSum : Int := 0
  levelCount : Nat := 0
  rssi : Int := 0
deriving DecidableEq, Repr, Inhabited

/-- A sounding round on the air (R223). -/
structure RoundPlan where
  /-- TB0 time of its first EHT-LTF, 80-bit format -/
  time : Nat
  /-- user slots: station and sector -/
  users : List (Nat × Nat)
  /-- channels usable at its start, bit j -/
  mask : Nat
deriving DecidableEq, Repr, Inhabited

/-- A restricted service period that runs (R232). -/
structure ServicePeriod where
  sector : Nat
  entry : Nat
  /-- TB0 nanosecond of its end -/
  until_ : Nat
  /-- a beacon has gone out in it -/
  beacon : Bool := false
deriving DecidableEq, Repr, Inhabited

/-- One radio as the MAC drives it. -/
structure WRadio where
  /-- TB0 nanosecond at which the interval on the air ends (R216) -/
  txUntil : Nat := 0
  /-- intervals of the last 10 ms: TB0 nanoseconds of start and end (R495) -/
  air : List (Nat × Nat) := []
  /-- TXOP: TB0 nanoseconds of its start and of its latest end (R219) -/
  txop : Option (Nat × Nat) := none
  /-- access category of the TXOP: 0 BK, 1 BE, 2 VI, 3 VO (R220) -/
  ac : Nat := 0
  round : Option RoundPlan := none
  /-- TB0 nanosecond of the last sounding round, plus 1 -/
  roundAt : Nat := 0
  sp : Option ServicePeriod := none
  /-- a channel switch is announced, with the announcements left by sector (R243) -/
  switching : Bool := false
  announce : Tab Nat := []
  /-- after a channel switch, only beacons go out until calibration ends -/
  beaconsOnly : Bool := false
deriving DecidableEq, Repr, Inhabited

/-- The PPDU that a sector receiver takes (R235). -/
structure Incoming where
  solicited : Bool
  /-- dBm -/
  level : Int
deriving DecidableEq, Repr, Inhabited

/-- One sector as the MAC drives it. -/
structure WSector where
  /-- TSF of the last TBTT handled, µs -/
  lastTbtt : Nat := 0
  /-- beacons until the next DTIM -/
  dtim : Nat := 0
  /-- BSS parameters change count -/
  changes : Nat := 0
  /-- TB0 nanosecond of the last beacon or FILS discovery frame -/
  lastAd : Nat := 0
  rx : Option Incoming := none
deriving DecidableEq, Repr, Inhabited

/-- An MPDU sent: station (none for group-addressed), TID, packet number, key slot and contents. Log entry 44 (PRESUMED). -/
structure AirMpdu where
  station : Option Nat
  tid : Nat
  pn : Nat
  key : Option Nat
  data : List Byte
deriving DecidableEq, Repr, Inhabited

/-- Kinds of frames that a sector sends. -/
inductive AirKind where
  | beacon | fils | data | ctsToSelf | trigger | muRts | control
deriving DecidableEq, Repr, Inhabited

/-- A PPDU sent by a sector. -/
structure AirPpdu where
  sector : Nat
  kind : AirKind
  precoded : Bool := false
  /-- TSF of the sector at its start, µs -/
  tsf : Nat
  mpdus : List AirMpdu := []
  /-- beacons: DTIM count, stations with buffered traffic, channel-switch count, change count -/
  info : List Nat := []
  /-- beacons: Quiet element, period in ms and length in µs (R460) -/
  quiet : Option (Nat × Nat) := none
deriving DecidableEq, Repr, Inhabited

/-- Grants of an Alloc-ID index as the PON terminal reports them: start (TB0 ns) and bytes, newest last (R233). -/
abbrev Grants := List (Nat × Nat)

/-- An uplink exchange aligned to a grant (R234): radio, Alloc-ID index, end of its TB PPDUs (TB0 ns), bytes solicited. -/
structure Aligned where
  radio : Nat
  alloc : Nat
  end_ : Nat
  bytes : Nat
deriving DecidableEq, Repr, Inhabited

/-- The wireless MAC. -/
structure Wlan where
  radio : Tab WRadio := []
  sector : Tab WSector := []
  sta : Tab StaSt := []
  /-- next transmit packet number less 1, by key slot (R239) -/
  txPn : Tab Nat := []
  /-- replay counters by key slot × 16 + TID, or + 8 for management frames -/
  replay : Tab Nat := []
  grants : Tab Grants := []
  aligned : List Aligned := []
  /-- PPDUs sent, oldest first (an output) -/
  sent : List AirPpdu := []
deriving DecidableEq, Repr, Inhabited

end Sys2Proof.Machine
end

