-- ==== Sys2Proof/Machine/State.lean ====
section
/-!
DEFINITION. The state of the block, its faults and refusals, and the state after reset.
-/
namespace Sys2Proof.Machine

/-- A general-purpose ball (R535). -/
structure Gpio where
  /-- level of the ball -/
  level : Bool := false
deriving DecidableEq, Repr, Inhabited

/-- A stop at which the spec gives the machine no effect. -/
inductive Fault where
  /-- No command raises it: every command of the block has an effect. Safe. -/
  | unreachable
deriving DecidableEq, Repr, Inhabited

/-- A command that the model rejects by name. -/
inductive Refusal where
  /-- No meaning has been given to the command with this mnemonic. Safe. -/
  | notModelled (mnemonic : String)
deriving DecidableEq, Repr, Inhabited

/-- The state of the block. -/
structure State where
  host : HostPort := {}
  mbx : Mbx := {}
  evt : Evt := {}
  cfg : Cfg := {}
  flash : Flash := {}
  sec : Sec := {}
  time : Time := {}
  boot : Boot := {}
  fw : Fw := {}
  recast : Recast := {}
  power : Power := {}
  mgmt : Mgmt := {}
  jtag : Jtag := {}
  gpio : Tab Gpio := []
  radio : Radio := {}
  beam : Crucible := {}
  pkt : Pkt := {}
  toll : Toll := {}
  task : Task := {}
  dma : Dma := {}
  eth : Eth := {}
  wlan : Wlan := {}
  pon : Pon := {}
  cvn : Caravan := {}
  /-- number of free values drawn so far (the model's own field) -/
  free : Nat := 0
  /-- the commands that wait, first in, first out -/
  pending : List Instr := []
deriving DecidableEq, Repr, Inhabited

/-- The block before its supplies come up: the flash holds no image, no key and no record, and every register stands at the
default of its field, which is the value the spec gives it for reset where it gives one. Nothing waits in the queue.
Log entries 2 (DESIGN CHOICE), 3 (DESIGN CHOICE). -/
def State.reset : State where
  host := {}
  mbx := {}
  evt := {}
  cfg := {}
  flash := {}
  sec := {}
  time := {}
  boot := {}
  fw := {}
  recast := {}
  power := {}
  mgmt := {}
  jtag := {}
  gpio := []
  radio := {}
  beam := {}
  pkt := {}
  toll := {}
  task := {}
  dma := {}
  eth := {}
  wlan := {}
  pon := {}
  cvn := {}
  free := 0
  pending := []

end Sys2Proof.Machine
end

