-- ==== Sys2Proof/Machine/Ops.lean ====
section
/-!
DEFINITION. The named operations that every family of commands shares: parameters and counters, time, MSI-X, mailbox
windows and responses, event records and their delivery, and free values.
-/
namespace Sys2Proof.Machine

/-! ### Status codes -/

/-- Status codes of Table 2-15. -/
inductive Status where
  | ok | pending | staleEpoch | badVersion | badParam | conflict | busy | zero | denied | noResource | unsupported
deriving DecidableEq, Repr, Inhabited

/-- Code of a status (Table 2-15). -/
def Status.code : Status → Nat
  | .ok => 0 | .pending => 1 | .staleEpoch => 3 | .badVersion => 4 | .badParam => 5 | .conflict => 6 | .busy => 7
  | .zero => 8 | .denied => 9 | .noResource => 10 | .unsupported => 11

/-! ### Parameters -/

/-- Key of one instance of a parameter in the sparse stores. -/
def parKey (id inst : Nat) : Nat := id * 2 ^ 16 + inst

/-- Committed value of a parameter instance (R88). Log entry 8 (DEDUCED). -/
def State.com (s : State) (p : ParamDef) (i : Nat) : Int := (s.cfg.par.get (parKey p.id i)).getD (p.deflt i)

/-- Value in force at the unit: the committed one, unless the unit has still to take it (R77). Log entry 8 (DEDUCED). -/
def State.par (s : State) (p : ParamDef) (i : Nat) : Int :=
  (s.cfg.old.get (parKey p.id i)).getD (s.com p i)

/-- Value in force as a natural number. -/
def State.parN (s : State) (p : ParamDef) (i : Nat) : Nat := (s.par p i).toNat

/-- Store a committed value; the master-pattern value is held as `none`. -/
def parPut (t : Tab (Option Int)) (p : ParamDef) (i : Nat) (v : Int) : Tab (Option Int) :=
  t.put (parKey p.id i) (if v = p.deflt i then none else some v)

/-- Write the committed value of a parameter instance. -/
def State.setPar (s : State) (p : ParamDef) (i : Nat) (v : Int) : State :=
  { s with cfg := { s.cfg with par := parPut s.cfg.par p i v } }

/-- Add to a saturating counter (Table 0-4, RC; R28). Log entry 7 (DEDUCED). -/
def bumpBy (p : ParamDef) (i k : Nat) (s : State) : State :=
  s.setPar p i (satAdd p.width (s.com p i).toNat k : Nat)

/-- Count one event. -/
def bump (p : ParamDef) (i : Nat) (s : State) : State := bumpBy p i 1 s

/-! ### Time -/

/-- TB t in nanoseconds (R420): [79:16] of the 80-bit format. -/
def State.tbNs (s : State) (t : Nat) : Nat := (s.time.tb.get t).val / 2 ^ 48

/-- TB0 in nanoseconds. -/
def State.now (s : State) : Nat := s.tbNs 0

/-- TB t in the 80-bit format (notation). -/
def State.tb80 (s : State) (t : Nat) : Nat := (s.time.tb.get t).val / 2 ^ 32

/-- Second of venue time (TB2). -/
def State.venueSec (s : State) : Nat := s.tbNs 2 / 1000000000

/-! ### Free values -/

/-- A fresh free value below `m`, and the state that has drawn it. Log entry 4 (DESIGN CHOICE). -/
def drawBelow (m : Nat) (s : State) : Nat × State := (Config.freeNat s.free % m, { s with free := s.free + 1 })

/-- One request to the random number generator below `m`; a failed health test has stopped every draw (R480).
Log entry 4 (DESIGN CHOICE). -/
def drawRandom (m : Nat) (s : State) : Option Nat × State :=
  if s.sec.rngFailed then (none, s)
  else
    let (x, s) := drawBelow m s
    (some x, { s with sec := { s.sec with rngRequests := s.sec.rngRequests + 1 } })

/-! ### MSI-X and console -/

/-- A vector falls due: sent when it is unmasked, held in the PBA while masked, lost while MSI-X is disabled or the link
is down (R41, R560). Log entry 13 (DESIGN CHOICE). -/
def sendVector (v : Nat) (s : State) : State :=
  if s.host.linkUp && s.host.msixEnabled then
    if bit s.host.masked v then { s with host := { s.host with pba := setBit s.host.pba v true } }
    else { s with host := { s.host with sent := s.host.sent ++ [v] } }
  else s

/-- A line of the console (R534). -/
def uartLine (code cls group inst : Nat) (s : State) : State :=
  { s with evt := { s.evt with uart := s.evt.uart ++ [(code, cls, group, inst)] } }

/-- BOOT_STATUS.stage changes: vector 8 and a console line (R38, R534). -/
def setStage (n : Nat) (s : State) : State :=
  if s.boot.stage = n then s
  else sendVector 8 (uartLine n 0 0 0 { s with boot := { s.boot with stage := n } })

/-! ### Windows -/

def State.win (s : State) (w : Nat) : Window := s.mbx.win.get w

def State.setWin (s : State) (w : Nat) (x : Window) : State := { s with mbx := { s.mbx with win := s.mbx.win.put w x } }

/-- Write bytes into a byte memory from an offset. -/
def writeBytes (m : Tab Byte) (o : Nat) : List Byte → Tab Byte
  | [] => m
  | b :: t => writeBytes (m.put o b) (o + 1) t

/-- Read bytes of a byte memory. Log entry 15 (DESIGN CHOICE). -/
def readBytes (m : Tab Byte) (o k : Nat) : List Byte := (List.range k).map fun j => m.get (o + j)

/-- Hand window w back to the host with a reason: its seq counts and its vector is sent after the update (R41, R42). -/
def handBack (w : Nat) (r : HandBack) (s : State) : State :=
  let x := s.win w
  sendVector w
    ({ s with mbx := { s.mbx with armed := s.mbx.armed.filter (· != w) } }.setWin w
      { x with hold := .host, handback := r, seq := (x.seq + 1) % 256 })

/-- A protocol error on window w (R45). Log entry 14 (DEDUCED). -/
def protoError (w : Nat) (s : State) : State :=
  bump Prm.hostProtoErr w (s.setWin w { s.win w with protoErr := true })

/-- The 16-byte message header of Table 2-13. -/
def header (major minor opcode tag length status epoch : Nat) : List Byte :=
  le 1 major ++ le 1 minor ++ le 2 opcode ++ le 4 tag ++ le 2 length ++ le 2 status ++ le 4 epoch

/-- Write a whole message into window w. -/
def putMessage (w : Nat) (bytes : List Byte) (s : State) : State :=
  s.setWin w { s.win w with bytes := writeBytes (s.win w).bytes 0 bytes }

/-- Version that response and event headers carry. -/
def State.version (s : State) : Nat × Nat := s.mbx.session.getD (0, 0)

/-- The session is a 2.x session (R55). -/
def State.compat (s : State) : Bool := match s.mbx.session with | some (2, _) => true | _ => false

/-- Status as a header carries it: a 2.x session reports a status above 0x0007 as BAD_PARAM (R55). -/
def reported (ver : Nat × Nat) (st : Status) : Nat := if ver.1 = 2 ∧ 7 < st.code then 5 else st.code

/-- Answer a command in its window, under the version of its session (R43, R47, R49). -/
def respond (o : Outstanding) (st : Status) (payload : List Byte) (s : State) : State :=
  let s := putMessage o.window
    (header o.ver.1 o.ver.2 o.opcode o.tag payload.length (reported o.ver st) s.mbx.epoch ++ payload) s
  handBack o.window .response (s.setPar Prm.hostLastStatus o.window st.code)

/-! ### Event rings (R57 to R60, R559) -/

/-- Share of a class in the common store (Table 2-21). -/
def EvClass.share : EvClass → Nat
  | .fatal => 16 | .alarm => 256 | .warn => 1024 | .info => 1024 | .trace => 4096

/-- Records a class holds. -/
def Evt.held (e : Evt) (c : EvClass) : Nat := (e.recs.filter fun r => r.cls == c).length

/-- Slots a class holds: its share, less those lent, plus those borrowed (R559). -/
def Evt.slots (e : Evt) (c : EvClass) : Nat :=
  c.share + (e.loans.filter fun l => l.2 == c).length - (e.loans.filter fun l => l.1 == c).length

/-- Two records have the same key (R58). -/
def EvRec.sameKey (a b : EvRec) : Bool := a.code == b.code && a.group == b.group && a.inst == b.inst

/-- Fold a record into the first waiting record of its class with its key. -/
def foldStorm (r : EvRec) : List EvRec → List EvRec
  | [] => []
  | x :: t => if x.cls == r.cls && x.sameKey r then { x with storm := true, count := satAdd 32 x.count 1, last := r.time } :: t
    else x :: foldStorm r t

/-- Remove the oldest record of a class. -/
def dropOldest (c : EvClass) : List EvRec → List EvRec
  | [] => []
  | x :: t => if x.cls == c then t else x :: dropOldest c t

/-- Class that a full ring of class `c` may evict from: oldest TRACE, else INFO for ALARM and WARN (Table 2-21). -/
def Evt.victim (e : Evt) (c : EvClass) : Option EvClass :=
  match c with
  | .fatal => none
  | .trace => if e.held .trace = 0 then none else some .trace
  | .info => if e.held .trace = 0 then none else some .trace
  | _ => if e.held .trace ≠ 0 then some .trace else if e.held .info ≠ 0 then some .info else none

/-- Store a record; a TRACE record takes the next sequence number of its ring (R280). -/
def Evt.store (e : Evt) (r : EvRec) : Evt :=
  if r.cls == .trace then
    { e with recs := e.recs ++ [{ r with seq := e.traceNext }], traceNext := (e.traceNext + 1) % 0xFFFFFFFF }
  else { e with recs := e.recs ++ [r] }

/-- Put a record into its class ring (R58, R559). Log entry 26 (DEDUCED). -/
def ringInsert (r : EvRec) (s : State) : State :=
  let e := s.evt
  let c := r.cls
  let same := e.recs.any fun x => x.cls == c && x.sameKey r
  let full := decide (e.slots c ≤ e.held c)
  if same && (full || c == .fatal) then
    bump Prm.hostEvtCoalesced c.num { s with evt := { e with recs := foldStorm r e.recs } }
  else if !full then { s with evt := e.store r }
  else match e.victim c with
    | none => bump Prm.hostEvtLost c.num s
    | some v =>
      let loans := if v == c then e.loans else e.loans ++ [(v, c)]
      bump Prm.hostEvtLost v.num { s with evt := Evt.store { e with recs := dropOldest v e.recs, loans := loans } r }

/-- Refill of the persistent log's token bucket: 10 records per second, depth 10 (R498). -/
def logRefill (s : State) : State :=
  let n := (s.now - s.mgmt.logFilled) / 100000000
  { s with mgmt := { s.mgmt with logTokens := min 10 (s.mgmt.logTokens + n), logFilled := s.mgmt.logFilled + n * 100000000 } }

/-- Offer a record to the persistent log's staging queue (R498). Log entry 26 (DEDUCED). -/
def logInsert (r : EvRec) (s : State) : State :=
  if !bit (s.parN Prm.mgmtLogFlashMask 0) r.cls.num then s
  else
    let s := logRefill s
    let m := s.mgmt
    let other := (m.logQueue.filter fun x => x.cls != .fatal).length
    if (r.cls == .fatal || (decide (0 < m.logTokens) && decide (other < 48))) && decide (m.logQueue.length < 64) then
      let tok := if r.cls == .fatal then m.logTokens else m.logTokens - 1
      { s with mgmt := { m with logQueue := m.logQueue ++ [r], logTokens := tok } }
    else if m.logQueue.any fun x => x.cls == r.cls && x.sameKey r then
      { s with mgmt := { m with logQueue := foldStorm r m.logQueue } }
    else bump Prm.mgmtLogFlashLost 0 s

/-! ### Delivery -/

/-- Classes that LOG messages of the session carry (R55, R59). -/
def State.delivers (s : State) (c : EvClass) : Bool :=
  bit (s.parN Prm.hostEvtDeliverMask 0) c.num && (!s.compat || c == .fatal || c == .alarm)

/-- Waiting records in delivery order: class order, and time order within a class (R59). -/
def State.waiting (s : State) : List EvRec :=
  [EvClass.fatal, .alarm, .warn, .info, .trace].flatMap fun c =>
    if s.delivers c then s.evt.recs.filter fun r => r.cls == c else []

/-- The oldest waiting record has waited evt_batch_us (R60). -/
def State.batchWaited (s : State) : Bool :=
  s.evt.batchDue || s.waiting.any fun r => decide (r.time / 65536 + s.parN Prm.hostEvtBatchUs 0 * 1000 ≤ s.now)

/-- A LOG message is due (R60). -/
def State.logDue (s : State) : Bool :=
  let w := s.waiting
  !w.isEmpty && ((w.any fun r => r.cls == .fatal || r.cls == .alarm) || decide (127 ≤ w.length) || s.batchWaited)

/-- A class delivers a record while it holds more records than its share: its oldest loan returns (R559). -/
def returnLoan (c : EvClass) (e : Evt) : Evt :=
  if c.share < e.held c then { e with loans := match e.loans.find? (fun l => l.2 == c) with
    | some l => e.loans.erase l
    | none => e.loans } else e

/-- Take a delivered record out of its ring. Log entry 26 (DEDUCED). -/
def takeRecord (e : Evt) (r : EvRec) : Evt :=
  let e := returnLoan r.cls e
  { e with recs := e.recs.erase r }

/-- The 32 bytes of an event record (Table 2-20); a storm record of a 3.4 session carries its last time. -/
def recordBytes (lastTime : Bool) (r : EvRec) : List Byte :=
  le 2 r.code ++ le 1 (r.cls.num + if r.storm then 128 else 0) ++ le 1 r.group ++ le 2 r.inst ++ le 2 0 ++
    le 10 r.time ++ le 2 0 ++ le 4 r.count ++ le 8 (if r.storm && lastTime then r.last else r.detail)

/-- Opcode and payload of a control message (Table 2-19). -/
def Ctl.message : Ctl → Nat × Nat × Nat × List Byte
  | .recast u n p c k t => (0x8001, 0, 0, le 4 n ++ le 4 p ++ le 1 u.scope ++ le 1 u.group ++ le 2 u.inst ++ le 2 c ++ le 2 k ++
      le 10 t ++ le 6 0)
  | .complete _ tag op st res => (0x8002, tag, st, le 2 op ++ le 2 st ++ res)
  | .version i n ma mi => (0x8003, 0, 0, le 1 i ++ le 1 0 ++ le 2 n ++ le 1 ma ++ le 1 mi ++ le 2 0)

/-- A control message is a RECAST or VERSION message, which shares 64 entries (R61). -/
def Ctl.shared : Ctl → Bool
  | .complete .. => false
  | _ => true

/-- RECAST and VERSION messages move from the backlog into free entries (R61). -/
def refillControl (m : Mbx) : Mbx :=
  let room := 64 - (m.control.filter Ctl.shared).length
  { m with control := m.control ++ m.backlog.take room, backlog := m.backlog.drop room }

/-- A delivered COMPLETE ends its command (R48). -/
def endCommand (c : Ctl) (l : List Outstanding) : List Outstanding :=
  match c with
  | .complete cid .. => l.filter fun o => o.cid != cid
  | _ => l

/-- Write an event message into an armed window and hand the window back (R44). -/
def deliverMessage (w op tag status epoch : Nat) (payload : List Byte) (s : State) : State :=
  let (ma, mi) := s.version
  handBack w .event (putMessage w (header ma mi op tag payload.length status epoch ++ payload) s)

/-- Deliver one message into one armed window, when there is one to deliver (R59, R60). -/
def deliverOne (s : State) : Option State :=
  match s.mbx.armed with
  | [] => none
  | w :: _ =>
    match s.mbx.control with
    | c :: rest =>
      let (op, tag, st, p) := c.message
      let s := { s with mbx := refillControl { s.mbx with control := rest, outstanding := endCommand c s.mbx.outstanding } }
      some (deliverMessage w op tag st s.mbx.epoch p s)
    | [] =>
      if s.logDue then
        let ws := s.waiting
        let ep := match ws with | r :: _ => r.epoch | [] => s.mbx.epoch
        let take := (ws.filter fun r => r.epoch == ep).take 127
        let lastTime := match s.mbx.session with | some (3, m) => decide (4 ≤ m) | _ => false
        let p := le 2 take.length ++ le 14 0 ++ take.flatMap (recordBytes lastTime)
        let e := take.foldl takeRecord s.evt
        let s := { s with evt := { e with batchDue := false } }
        some (deliverMessage w 0x8004 0 0 ep p s)
      else none

/-- Deliver while an armed window and something to deliver remain; `n` bounds the count of armed windows. -/
def deliver : Nat → State → State
  | 0, s => s
  | n + 1, s => match deliverOne s with
    | some t => deliver n t
    | none => s

/-- Deliver everything that can go into the eight windows. -/
def pump (s : State) : State := deliver 8 s

/-- A block raises an event record (R57): it enters its class ring, the persistent log and, for FATAL and ALARM, the
console, and goes out when a window is armed. -/
def raise (e : EvDef) (inst detail : Nat) (s : State) : State :=
  let r : EvRec := { code := e.code, cls := e.cls, group := e.group, inst := inst, time := s.tb80 0, last := s.tb80 0,
                     detail := detail, epoch := s.mbx.epoch }
  let s := logInsert r (ringInsert r s)
  let s := if e.cls == .fatal || e.cls == .alarm then uartLine e.code e.cls.num e.group inst s else s
  pump s

/-- Detail bytes from a little-endian byte list: byte offset and value pairs added up. -/
def detail (l : List (Nat × Nat × Nat)) : Nat := l.foldl (fun a x => a + x.2.2 % 256 ^ x.2.1 * 256 ^ x.1) 0

/-- A FIFO counter counts a discarded or substituted unit, and raises its WARN on the first increment within each
venue-time second (R28, R32). -/
def fifoSlip (p : ParamDef) (e : EvDef) (i k : Nat) (s : State) : State :=
  let s := bumpBy p i k s
  let key := parKey p.id i
  if s.evt.warned.get key = s.venueSec + 1 then s
  else raise e i ((s.com p i).toNat % 2 ^ 32) { s with evt := { s.evt with warned := s.evt.warned.put key (s.venueSec + 1) } }

/-- A WARN or INFO that is raised at most once in each venue-time second for each counter instance. -/
def warnOnce (p : ParamDef) (i : Nat) (e : EvDef) (inst det : Nat) (s : State) : State :=
  let key := parKey p.id i
  if s.evt.warned.get key = s.venueSec + 1 then s
  else raise e inst det { s with evt := { s.evt with warned := s.evt.warned.put key (s.venueSec + 1) } }

/-! ### Commands that complete later -/

/-- Queue a control message: COMPLETE has its reserved entry, RECAST and VERSION share 64 entries and wait in the
backlog, which holds one message per unit (R61). -/
def queueControl (c : Ctl) (s : State) : State :=
  let m := s.mbx
  if !c.shared || (decide ((m.control.filter Ctl.shared).length < 64) && m.backlog.isEmpty) then
    { s with mbx := { m with control := m.control ++ [c] } }
  else
    let merge : Ctl → Option Ctl := fun b => match b, c with
      | .version i n _ _, .version i' n' ma mi => if i = i' ∧ n = n' then some (.version i n ma mi) else none
      | .recast u _ p _ k t, .recast u' n' _ c' k' _ =>
        if u = u' then some (.recast u n' p c' (satAdd 16 k k') t) else none
      | _, _ => none
    if m.backlog.any fun b => (merge b).isSome then
      { s with mbx := { m with backlog := m.backlog.map fun b => (merge b).getD b } }
    else { s with mbx := { m with backlog := m.backlog ++ [c] } }

/-- A VERSION event; a 2.x session queues none (R4, R55). -/
def reportVersion (iface inst major minor : Nat) (s : State) : State :=
  if s.compat then s else pump (queueControl (.version iface inst major minor) s)

/-- The command with this serial, when it is still outstanding. -/
def State.command? (s : State) (cid : Nat) : Option Outstanding := s.mbx.outstanding.find? fun o => o.cid == cid

/-- End a command that did not complete at once: a COMPLETE event, or the response that its window still waits for
(R50, R55, R510). A discarded command ends without either (R48). -/
def finish (cid : Nat) (st : Status) (result : List Byte) (s : State) : State :=
  match s.command? cid with
  | none => s
  | some o =>
    if o.pending then pump (queueControl (.complete cid o.tag o.opcode st.code result) s)
    else pump (respond o st result
      { s with mbx := { s.mbx with outstanding := s.mbx.outstanding.filter fun x => x.cid != cid } })

/-- `finish` for work that may have no command behind it. -/
def finish? (cid : Option Nat) (st : Status) (result : List Byte) (s : State) : State :=
  match cid with
  | none => s
  | some c => finish c st result s

/-- The answer that an opcode's own processing gives: status, response payload, state, the version of the response where it
is not the one in which the command came, and what happens once the response is written. -/
structure Reply where
  st : Status
  body : List Byte := []
  s : State
  ver : Option (Nat × Nat) := none
  after : State → State := id
  /-- the command holds its window until it ends, in a session of any version (R510) -/
  hold : Bool := false

/-! ### Images in chunks (R94) -/

/-- Take one chunk of an image: the chunk rules that PATTERN_LOAD, boot push, LADLE_LOAD and FW_STAGE share (R94).
Log entry 23 (DESIGN CHOICE). -/
def takeChunk (limit offset total : Nat) (data : List Byte) (c : Chunks) : Status × Chunks :=
  if data.isEmpty then (.zero, c)
  else if 4064 < data.length ∨ limit < total ∨ total < offset + data.length then (.badParam, c)
  else if offset ≠ c.bytes.length ∨ (c.bytes ≠ [] ∧ total ≠ c.total) then (.conflict, {})
  else (.ok, { total := total, bytes := c.bytes ++ data })

/-- Every byte of the image has arrived. -/
def Chunks.complete (c : Chunks) : Bool := !c.bytes.isEmpty && decide (c.bytes.length = c.total)

end Sys2Proof.Machine
end

