-- ==== Sys2Proof/Machine/Parse.lean ====
section
/-!
DEFINITION. The packet parser (R339 to R342), the hash (R343), the TCAM key (R345) and checksum arithmetic.
-/
namespace Sys2Proof.Machine

/-- What the parser finds (Tables 11-1, 11-5 and 11-7). -/
structure Parsed where
  layers : Nat := 0
  trunc : Bool := false
  conflict : Bool := false
  /-- end of the last header parsed -/
  stop : Nat := 0
  dmac : Nat := 0
  smac : Nat := 0
  tags : List Nat := []
  etype : Nat := 0
  /-- offset of the first byte after the tags' EtherType -/
  l2End : Nat := 0
  l3Type : Nat := 0
  l3Off : Nat := 0
  l4Type : Nat := 0
  l4Off : Nat := 0
  tunnel : Bool := false
  inOff : Nat := 0
  proto : Nat := 0
  tos : Nat := 0
  ttl : Nat := 0
  /-- more fragments, non-first fragment, don't fragment -/
  frag : Nat := 0
  src : Nat := 0
  dst : Nat := 0
  sport : Nat := 0
  dport : Nat := 0
  tcpFlags : Nat := 0
  flowLabel : Nat := 0
  vni : Nat := 0
  /-- IPv4 options or an IPv6 hop-by-hop header (R354 step 3) -/
  options : Bool := false
  /-- end of the outer IP datagram -/
  datagram : Option Nat := none
  /-- PTP by EtherType or UDP port -/
  ptp : Bool := false
deriving DecidableEq, Repr, Inhabited

/-- Big-endian number in bytes `o` to `o + k - 1`. -/
def beAt (l : List Byte) (o k : Nat) : Nat := (bytesAt l o k).foldl (fun a b => a * 256 + b.toNat) 0

/-- Big-endian bytes of a number. -/
def beBytes (k v : Nat) : List Byte := (le k v).reverse

/-- Replace bytes from offset `o`. -/
def putAt (l : List Byte) (o : Nat) (new : List Byte) : List Byte := l.take o ++ new ++ l.drop (o + new.length)

/-- Header that stands next. -/
inductive Hdr where
  | eth | ether (t : Nat) | pppoe | ipv4 | ipv6 | ext (proto : Nat) | vxlan | gre | done
deriving DecidableEq, Repr

/-- A header of `n` bytes at `off` begins: the depth limit stops before it, and it counts as a layer otherwise (R340). -/
def Parsed.accept (r : Parsed) (off n : Nat) : Parsed × Bool :=
  if r.layers = 8 ∨ 256 < off + n then ({ r with trunc := true }, false)
  else ({ r with layers := r.layers + 1, stop := off + n }, true)

/-- What the L4 header at `off` gives, for the outer headers (R339, Table 11-6). `lim` ends the datagram. -/
def parseL4 (d : List Byte) (vxlan proto off lim : Nat) (outer : Bool) (r : Parsed) : Parsed × Hdr × Nat :=
  let fixed := match proto with | 6 => 20 | 17 => 8 | 1 => 8 | 58 => 4 | 132 => 12 | 50 => 8 | _ => 0
  let kind := match proto with | 6 => 1 | 17 => 2 | 1 => 3 | 58 => 3 | 132 => 4 | 50 => 5 | _ => 6
  let doff := beAt d (off + 12) 1 / 16
  let len := if proto = 6 then max 20 (doff * 4) else fixed
  let bad := decide (d.length < off + fixed) ||
    (decide (proto = 6) && (decide (doff < 5) || decide (lim - off < doff * 4))) ||
    (decide (proto = 17) && (decide (beAt d (off + 4) 2 < 8) || decide (beAt d (off + 4) 2 ≠ lim - off)))
  let (r', ok) := r.accept off len
  if !(r.accept off fixed).2 then ({ r with trunc := true }, .done, off)
  else if bad then ({ r with conflict := true }, .done, off)
  else if !ok then ({ r with trunc := true }, .done, off)
  else
    let sp := beAt d off 2
    let dp := beAt d (off + 2) 2
    let ports := decide (proto = 6 ∨ proto = 17 ∨ proto = 132 ∨ proto = 50)
    let r := if outer then { r' with
        l4Type := kind, l4Off := off
        sport := if ports then sp else 0, dport := if ports then dp else 0
        tcpFlags := if proto = 6 then beAt d (off + 13) 1 else 0
        ptp := r'.ptp || (decide (proto = 17) && (decide (sp = 319 ∨ sp = 320 ∨ dp = 319 ∨ dp = 320))) } else r'
    if proto = 17 ∧ dp = vxlan then (r, .vxlan, off + 8) else (r, .done, off + len)

/-- The parser, header by header; nine headers and the tags bound the fuel. Log entries 72 (DEDUCED), 73 (PRESUMED). -/
def parseFrom (d : List Byte) (vxlan : Nat) : Nat → Hdr → Nat → Nat → Bool → Parsed → Parsed
  | 0, _, _, _, _, r => r
  | n + 1, h, off, lim, outer, r =>
    match h with
    | .done => r
    | .eth =>
      let len := beAt d (off + 12) 2
      let snap := decide (len ≤ 1500) && decide (beAt d (off + 14) 3 = 0xAAAA03) && decide (beAt d (off + 17) 3 = 0)
      let size := if snap then 22 else 14
      if d.length < off + 14 then { r with conflict := true }
      else
        let (r, ok) := r.accept off size
        if !ok then r
        else
          let r := if outer then { r with dmac := beAt d off 6, smac := beAt d (off + 6) 6 } else r
          if len ≤ 1500 ∧ !snap then r
          else parseFrom d vxlan n (.ether (if snap then beAt d (off + 20) 2 else len)) (off + size) lim outer r
    | .ether t =>
      let seen := if outer then { r with etype := t, l2End := off } else r
      if t = 0x8100 ∨ t = 0x88A8 then
        if outer ∧ 2 ≤ r.tags.length then r
        else if d.length < off + 4 then { r with conflict := true }
        else
          let (r, ok) := r.accept off 4
          if !ok then r
          else
            let r := if outer then { r with tags := r.tags ++ [beAt d off 2] } else r
            parseFrom d vxlan n (.ether (beAt d (off + 2) 2)) (off + 4) lim outer r
      else if t = 0x8864 then parseFrom d vxlan n .pppoe off lim outer seen
      else if t = 0x0800 then parseFrom d vxlan n .ipv4 off lim outer seen
      else if t = 0x86DD then parseFrom d vxlan n .ipv6 off lim outer seen
      else if t = 0x0806 ∨ t = 0x888E ∨ t = 0x88CC ∨ t = 0x88F7 then
        let (r, ok) := seen.accept off 0
        if ok && outer then { r with l3Type := 3, l3Off := off, ptp := r.ptp || decide (t = 0x88F7) } else r
      else seen
    | .pppoe =>
      if d.length < off + 6 then { r with conflict := true }
      else if d.length < off + 6 + beAt d (off + 4) 2 then { r with conflict := true }
      else
        let (r, ok) := r.accept off 8
        if !ok then r
        else if d.length < off + 8 then { r with conflict := true }
        else match beAt d (off + 6) 2 with
          | 0x0021 => parseFrom d vxlan n .ipv4 (off + 8) lim outer r
          | 0x0057 => parseFrom d vxlan n .ipv6 (off + 8) lim outer r
          | _ => r
    | .ipv4 =>
      let hl := beAt d off 1 % 16 * 4
      let tl := beAt d (off + 2) 2
      if !(r.accept off 20).2 then { r with trunc := true }
      else if d.length < off + 20 ∨ hl < 20 ∨ tl < hl ∨ lim - off < tl then { r with conflict := true }
      else
        let (r, ok) := r.accept off hl
        if !ok then r
        else
          let fo := beAt d (off + 6) 2
          let later := decide (fo % 8192 ≠ 0)
          let p := beAt d (off + 9) 1
          let r := if outer then { r with
              l3Type := 1, l3Off := off, proto := p, tos := beAt d (off + 1) 1, ttl := beAt d (off + 8) 1
              frag := b2n (bit fo 13) * 4 + b2n later * 2 + b2n (bit fo 14)
              src := beAt d (off + 12) 4, dst := beAt d (off + 16) 4
              options := r.options || decide (20 < hl), datagram := some (off + tl) }
            else { r with tunnel := true, inOff := if r.tunnel then r.inOff else off }
          if later then (if outer then { r with l4Type := 7, l4Off := off + hl } else r)
          else parseFrom d vxlan n (.ext p) (off + hl) (off + tl) outer r
    | .ipv6 =>
      let pl := beAt d (off + 4) 2
      if !(r.accept off 40).2 then { r with trunc := true }
      else if d.length < off + 40 ∨ pl = 0 ∨ lim - off < 40 + pl then { r with conflict := true }
      else
        let (r, _) := r.accept off 40
        let p := beAt d (off + 6) 1
        let r := if outer then { r with
            l3Type := 2, l3Off := off, proto := p, tos := beAt d off 2 / 16 % 256, ttl := beAt d (off + 7) 1
            src := beAt d (off + 8) 16, dst := beAt d (off + 24) 16, flowLabel := beAt d (off + 1) 3 % 2 ^ 20
            datagram := some (off + 40 + pl) }
          else { r with tunnel := true, inOff := if r.tunnel then r.inOff else off }
        parseFrom d vxlan n (.ext p) (off + 40) (off + 40 + pl) outer r
    | .ext p =>
      if p = 0 ∨ p = 43 ∨ p = 44 ∨ p = 60 ∨ p = 51 then
        let size := if p = 44 then 8 else if p = 51 then (beAt d (off + 1) 1 + 2) * 4 else (beAt d (off + 1) 1 + 1) * 8
        let fixed := 8
        if !(r.accept off fixed).2 then { r with trunc := true }
        else if d.length < off + fixed ∨ lim < off + size then { r with conflict := true }
        else
          let (r, ok) := r.accept off size
          if !ok then r
          else
            let nx := beAt d off 1
            let fo := beAt d (off + 2) 2
            let later := decide (p = 44) && decide (fo / 8 ≠ 0)
            let r := if outer then { r with
                proto := nx, options := r.options || decide (p = 0)
                frag := if p = 44 then b2n (bit fo 0) * 4 + b2n later * 2 else r.frag } else r
            if later then (if outer then { r with l4Type := 7, l4Off := off + size } else r)
            else parseFrom d vxlan n (.ext nx) (off + size) lim outer r
      else if p = 6 ∨ p = 17 ∨ p = 1 ∨ p = 58 ∨ p = 132 ∨ p = 50 then
        let (r, h, o) := parseL4 d vxlan p off lim outer r
        parseFrom d vxlan n h o lim outer r
      else if p = 47 then
        parseFrom d vxlan n .gre off lim outer (if outer then { r with l4Type := 6, l4Off := off } else r)
      else if p = 4 then
        parseFrom d vxlan n .ipv4 off lim false (if outer then { r with l4Type := 6, l4Off := off } else r)
      else if p = 41 then
        parseFrom d vxlan n .ipv6 off lim false (if outer then { r with l4Type := 6, l4Off := off } else r)
      else r
    | .vxlan =>
      if !(r.accept off 8).2 then { r with trunc := true }
      else if d.length < off + 8 then { r with conflict := true }
      else
        let (r, _) := r.accept off 8
        let r := if outer then { r with vni := beAt d (off + 4) 3 } else r
        parseFrom d vxlan n .eth (off + 8) lim false r
    | .gre =>
      let fl := beAt d off 2
      let key := bit fl 13
      let size := 4 + b2n (bit fl 15) * 4 + b2n key * 4
      if !(r.accept off 4).2 then { r with trunc := true }
      else if d.length < off + 4 then { r with conflict := true }
      else if bit fl 12 || bit fl 14 || decide (fl % 8 ≠ 0) then r
      else if d.length < off + size then { r with conflict := true }
      else
        let (r, ok) := r.accept off size
        if !ok then r
        else
          let r := if outer && key then { r with vni := beAt d (off + size - 4) 4 % 2 ^ 24 } else r
          match beAt d (off + 2) 2 with
          | 0x0800 => parseFrom d vxlan n .ipv4 (off + size) lim false r
          | 0x86DD => parseFrom d vxlan n .ipv6 (off + size) lim false r
          | 0x6558 => parseFrom d vxlan n .eth (off + size) lim false r
          | _ => r

/-- Parse a whole packet. Log entry 44 (PRESUMED). -/
def parsePacket (d : List Byte) (vxlan : Nat) : Parsed := parseFrom d vxlan 32 .eth 0 d.length true {}

/-! ### Checksums -/

/-- Sum of the 16-bit big-endian words of a string, the last byte padded. -/
def wordSum : List Byte → Nat
  | [] => 0
  | [a] => a.toNat * 256
  | a :: b :: t => a.toNat * 256 + b.toNat + wordSum t

/-- Fold a sum to 16 bits in ones' complement. -/
def onesFold (v : Nat) : Nat :=
  let a := v % 65536 + v / 65536
  let b := a % 65536 + a / 65536
  b % 65536 + b / 65536

/-- The Internet checksum of a string. -/
def inetSum (l : List Byte) : Nat := 65535 - onesFold (wordSum l)

/-- An incremental update of a checksum: `old` bytes are replaced by `new`, both of even length (RFC 1624). -/
def sumUpdate (c : Nat) (old new : List Byte) : Nat :=
  65535 - onesFold ((65535 - c) + (wordSum (old.map fun b => ~~~b)) + wordSum new)

/-- Bytes that the outer datagram holds from an offset. -/
def Parsed.upTo (r : Parsed) (d : List Byte) (o : Nat) : List Byte := (d.take (r.datagram.getD d.length)).drop o

/-- Pseudo-header sum. -/
def Parsed.pseudo (r : Parsed) (d : List Byte) : Nat :=
  let len := (r.datagram.getD d.length) - r.l4Off
  let a := if r.l3Type = 1 then bytesAt d (r.l3Off + 12) 8 else bytesAt d (r.l3Off + 8) 32
  wordSum a + len / 65536 + len % 65536 + r.proto

/-- l3_csum (R342): 1 good, 2 bad, 0 not checked. Log entry 72 (DEDUCED). -/
def Parsed.l3Check (r : Parsed) (d : List Byte) : Nat :=
  if r.l3Type ≠ 1 then 0
  else if onesFold (wordSum (bytesAt d r.l3Off (beAt d r.l3Off 1 % 16 * 4))) = 65535 then 1 else 2

/-- l4_csum (R342): a fragment is never checked, nor a UDP header that carries no checksum. Log entry 72 (DEDUCED). -/
def Parsed.l4Check (r : Parsed) (d : List Byte) : Nat :=
  if r.frag / 2 ≠ 0 ∨ r.l4Off = 0 then 0
  else
    let body := r.upTo d r.l4Off
    let good := fun (v : Nat) => if onesFold v = 65535 then 1 else 2
    match r.l4Type with
    | 1 => good (wordSum body + r.pseudo d)
    | 2 => if beAt d (r.l4Off + 6) 2 = 0 ∧ r.l3Type = 1 then 0 else good (wordSum body + r.pseudo d)
    | 3 => if r.proto = 58 then good (wordSum body + r.pseudo d) else good (wordSum body)
    | _ => 0

/-! ### Hash and key -/

/-- Packet type k of R343. -/
def Parsed.hashType (r : Parsed) : Nat :=
  match r.l3Type with
  | 1 => match r.l4Type with | 1 => 0 | 2 => 1 | _ => 2
  | 2 => match r.l4Type with | 1 => 3 | 2 => 4 | _ => 5
  | _ => 6

/-- The hash input (R343). -/
def Parsed.hashInput (r : Parsed) (fields : Nat) (sym : Bool) : List Byte :=
  let w := if r.l3Type = 1 then 4 else if r.l3Type = 2 then 16 else 0
  let swap := sym && decide (r.dst < r.src)
  let (s, d, sp, dp) := if swap then (r.dst, r.src, r.dport, r.sport) else (r.src, r.dst, r.sport, r.dport)
  let (dm, sm) := if sym && decide (r.dmac < r.smac) then (r.smac, r.dmac) else (r.dmac, r.smac)
  let sel := fun (n : Nat) (b : List Byte) => if bit fields n then b else []
  (sel 0 (beBytes w s) ++ sel 1 (beBytes w d) ++ sel 2 (beBytes 2 sp) ++ sel 3 (beBytes 2 dp) ++ sel 4 (beBytes 1 r.proto) ++
    sel 5 (beBytes 3 r.vni) ++ sel 6 (beBytes 6 dm) ++ sel 7 (beBytes 6 sm)).take 52

/-- The Toeplitz hash under a 448-bit key, first byte first (R343). -/
def toeplitz (key input : List Byte) : Nat :=
  let k := beAt key 0 56
  let bitsIn := input.flatMap fun b => (List.range 8).map fun j => b.toNat.testBit (7 - j)
  (bitsIn.zipIdx.filter (·.1)).foldl (fun h x => h ^^^ (k / 2 ^ (416 - x.2) % 2 ^ 32)) 0

/-- A user-defined field: 4 bytes from its anchor; 0 where they lie beyond the parsed headers (R345). -/
def Parsed.udf (r : Parsed) (d : List Byte) (u : Nat) : Nat :=
  let off := u % 256
  let base : Option Nat := match u / 256 % 4 with
    | 0 => some 0
    | 1 => if r.l3Type = 0 then none else some r.l3Off
    | 2 => if r.l4Type = 0 then none else some r.l4Off
    | _ => if r.tunnel then some r.inOff else none
  match base with
  | none => 0
  | some b => if r.stop < b + off + 4 then 0 else beAt d (b + off) 4

/-- The 640-bit TCAM key (Table 11-7). -/
def Parsed.key (r : Parsed) (d : List Byte) (cls srcType srcInst udf0 udf1 : Nat) : Nat :=
  cls * 2 ^ 638 + srcType * 2 ^ 634 + srcInst * 2 ^ 623 + r.dmac * 2 ^ 575 + r.smac * 2 ^ 527 +
  r.tags.getD 0 0 * 2 ^ 511 + r.tags.getD 1 0 * 2 ^ 495 + r.etype * 2 ^ 479 + r.l3Type * 2 ^ 477 + r.l4Type * 2 ^ 474 +
  r.proto * 2 ^ 466 + r.tos * 2 ^ 458 + r.ttl * 2 ^ 450 + r.frag * 2 ^ 447 + r.src * 2 ^ 319 + r.dst * 2 ^ 191 +
  r.sport * 2 ^ 175 + r.dport * 2 ^ 159 + r.tcpFlags * 2 ^ 151 + r.flowLabel * 2 ^ 131 + b2n r.tunnel * 2 ^ 130 +
  r.vni * 2 ^ 106 + r.udf d udf0 * 2 ^ 74 + r.udf d udf1 * 2 ^ 42

end Sys2Proof.Machine
end

