-- ==== Sys2Proof/Machine/Reset.lean ====
section
/-!
DEFINITION. Resets of the whole chip: what survives one (R39, Table 17-1), the persistent log (R498, R499), boot halts
(R508) and the rollback of a firmware trial (R507).
-/
namespace Sys2Proof.Machine

/-- Append a record to the persistent log; with the next sector kept erased, 63 sectors of 1,365 records remain (R499). -/
def logAppend (afterFail : Bool) (r : EvRec) (s : State) : State :=
  let m := s.mgmt
  let rec' : LogRec := { seq := m.logSeq, boot := s.boot.count, afterFail := afterFail, ev := r }
  let full := decide (63 * 1365 ≤ m.log.length)
  { s with mgmt := { m with
      log := (if full then m.log.drop 1365 else m.log) ++ [rec'],
      logDropped := if full then m.logDropped + 1365 else m.logDropped,
      logSeq := (m.logSeq + 1) % 0xFFFFFFFF } }

/-- The record of an event raised now. -/
def evRec (e : EvDef) (inst detail : Nat) (s : State) : EvRec :=
  { code := e.code, cls := e.cls, group := e.group, inst := inst, time := s.tb80 0, last := s.tb80 0, detail := detail,
    epoch := s.mbx.epoch }

/-- Write a FATAL record straight to the persistent log, ahead of a reset (R490, R491, R497). -/
def logFatal (afterFail : Bool) (e : EvDef) (inst detail : Nat) (s : State) : State :=
  let r := evRec e inst detail s
  uartLine e.code e.cls.num e.group inst (logAppend afterFail r s)

/-- What an interrupted write of a Pattern image leaves in its region: a part of the image, whose length is open, or a blank
region (R96, R497). Log entry 24 (DESIGN CHOICE). -/
def cutPatternWrite (s : State) : State :=
  match s.cfg.patWrite with
  | none => s
  | some w =>
    let (k, s) := drawBelow w.image.length s
    { s with flash := { s.flash with pattern := s.flash.pattern.put w.copy (if k = 0 then none else some (w.image.take k)) } }

/-- The chip after a reset with a cause: what flash, OTP, the board, the drives and the sequencer hold survives; all
else takes its reset value (R39, R497, R507, Table 17-1). Flash stays held while a power-down runs (R544). -/
def resetWith (cause : Nat) (s : State) : State :=
  let s := cutPatternWrite s
  { boot := { cause := cause, count := (s.boot.count + 1) % 0x10000, railsValid := s.boot.railsValid,
              released := s.boot.released, resetLow := s.boot.resetLow, enables := s.boot.enables,
              pmicPg := s.boot.pmicPg, pllStarted := decide (s.boot.enables = 15) && s.boot.pmicPg,
              pwrfailLow := s.boot.pwrfailLow, powerDown := s.boot.powerDown, off := s.boot.off,
              tripped := s.boot.tripped }
    host := { perstLow := s.host.perstLow, sent := s.host.sent }
    flash := { s.flash with held := s.boot.powerDown, failing := false }
    sec := { custRoot := s.sec.custRoot, revoked := s.sec.revoked, svn := s.sec.svn, lifecycle := s.sec.lifecycle,
             records := s.sec.records, rngHalt := s.sec.rngHalt }
    fw := { selected := s.fw.selected, trial := s.fw.trial, staged := s.fw.staged, version := s.fw.version,
            resets := s.fw.resets.upd cause (fun n => satAdd 32 n 1), lockstep := s.fw.lockstep, ponO7 := s.fw.ponO7,
            rollback := s.fw.rollback }
    mgmt := { log := s.mgmt.log, logSeq := s.mgmt.logSeq, logDropped := s.mgmt.logDropped }
    evt := { uart := s.evt.uart }
    jtag := s.jtag
    gpio := s.gpio
    dma := { drive := s.dma.drive.mapV fun d => { (default : Drive) with media := d.media } }
    free := s.free
    pending := s.pending }

/-- Roll a trial back: the record returns to the previous bank and the chip resets with cause 4 (R507). -/
def rollback (reason : Nat) (s : State) : State :=
  resetWith 4 { s with fw := { s.fw with trial := false, staged := false, selected := 1 - s.fw.selected, rollback := reason } }

/-- A chip reset; one with cause 3 during a trial is followed by the rollback (R39, R507). Log entry 92 (DEDUCED). -/
def chipReset (cause : Nat) (s : State) : State :=
  let t := resetWith cause s
  if cause = 3 ∧ s.fw.trial then rollback 2 t else t

/-- Boot halts at stage 0xF with an error code (Table 2-6, R508). -/
def bootHalt (code : Nat) (s : State) : State :=
  setStage 15 (uartLine code 15 s.boot.stage 0
    { s with boot := { s.boot with errStage := s.boot.stage, errCode := code } })

end Sys2Proof.Machine
end

