-- ==== Sys2Proof/Machine/Faults.lean ====
section
/-!
DEFINITION. Faults and recasts: units and their bounds (Table 17-5), admission, absorption, escalation and the start of a
recast (R62 to R64, R501 to R504).
-/
namespace Sys2Proof.Machine

/-- Causes of Table 17-6. -/
def Cause.host : Nat := 1
def Cause.ecc : Nat := 2
def Cause.watchdog : Nat := 3
def Cause.core : Nat := 4
def Cause.assay : Nat := 5
def Cause.tracking : Nat := 6
def Cause.rng : Nat := 7
def Cause.escalation : Nat := 8

/-- Radio of an antenna channel (R17). -/
def radioOfAch (c : Nat) : Nat := if c < 16 then 0 else if c < 64 then 1 else 2

/-- Radio of a sector (R17). -/
def radioOfSector (k : Nat) : Nat := if k < 3 then 1 else if k < 7 then 2 else 0

/-- The device unit. -/
def RUnit.device : RUnit := ⟨2, 0, 0⟩

/-- Unit `u` lies inside the larger unit `v` (Table 17-5). -/
def RUnit.inside (u v : RUnit) : Bool :=
  match v.scope with
  | 2 => decide (u.scope < 2) && decide (u.group ≠ 0x14)
  | 1 => decide (v.group = 8) && decide (u.scope = 0) &&
      ((decide (u.group = 6) && decide (radioOfAch u.inst = v.inst)) ||
       (decide (u.group = 7) && decide (radioOfSector u.inst = v.inst)))
  | _ => false

/-- The smallest unit that a fault of a unit recasts for its cause (R501, Table 17-6): some causes reach the device at least, and
others the subsystem of a block, or the device for a block of no subsystem (R555). Log entry 110 (DEDUCED). -/
def RUnit.reach (u : RUnit) (cause : Nat) : RUnit :=
  if cause = 1 ∨ cause = 7 ∨ cause = 12 then .device
  else if u.scope ≠ 0 ∨ (cause ≠ 8 ∧ cause ≠ 10 ∧ cause ≠ 11) then u
  else match u.group with
    | 0x06 => ⟨1, 8, radioOfAch u.inst⟩
    | 0x07 => ⟨1, 8, radioOfSector u.inst⟩
    | 0x14 => if cause = 11 then u else .device
    | _ => .device

/-- A unit of Table 17-5. -/
def RUnit.valid (u : RUnit) : Bool :=
  match u.scope, u.group with
  | 0, 0x06 => decide (u.inst < 128)
  | 0, 0x07 => decide (u.inst < 8)
  | 0, 0x0A => decide (u.inst < 32)
  | 0, 0x0C => decide (0x40 ≤ u.inst) && decide (u.inst < 0x40 + 28)
  | 0, 0x14 => decide (u.inst = 0)
  | 1, 0x08 => decide (u.inst < 3)
  | 1, 0x0B => decide (u.inst = 0)
  | 1, 0x0C => decide (u.inst = 0)
  | 1, 0x11 => decide (u.inst = 0)
  | 2, 0x00 => decide (u.inst = 0)
  | _, _ => false

/-- A recast of subsystem or device scope runs, or the device is HELD: RESET_STATUS.recasting (Table 2-8, R502). -/
def State.recasting (s : State) : Bool := s.recast.held || s.recast.jobs.any fun j => decide (0 < j.unit.scope)

/-- The unit, or a unit around it, is being recast; in HELD the device is. -/
def State.recastHolds (s : State) (u : RUnit) : Bool :=
  (s.recast.held && (u == .device || u.inside .device)) || s.recast.jobs.any fun j => j.unit == u || u.inside j.unit

/-- Block of Table 17-11 that a unit belongs to. -/
def RUnit.block (u : RUnit) : Nat :=
  match u.group with
  | 0x08 => 0
  | 0x0A => 1
  | 0x06 | 0x07 => 2
  | 0x0B => 6
  | 0x11 => 7
  | 0x0C => if 0x40 ≤ u.inst then 9 else 10
  | _ => 12

/-- The power state has the unit off (R509, R511). -/
def State.unitOff (s : State) (u : RUnit) : Bool := bit s.power.down u.block

/-- Firmware has brought the blocks up (R38). Log entry 106 (DEDUCED). -/
def State.booted (s : State) : Bool := decide (4 ≤ s.boot.stage) && decide (s.boot.stage ≠ 15)

/-- The unit does not run: before boot is done, off in the power state, or in a recast of its own or of a unit around it.
Log entry 106 (DEDUCED). -/
def State.stopped (s : State) (u : RUnit) : Bool := !s.booted || s.unitOff u || s.recastHolds u

/-- Times of recasts of a unit within a window of seconds up to now. -/
def State.recastsWithin (s : State) (u : RUnit) (sec : Nat) : Nat :=
  (s.recast.history.filter fun h => h.1 == u && decide (s.now ≤ h.2 + sec * 1000000000)).length

/-! ### Table pages under a recast (R86) -/

/-- Key of a table instance. -/
def insKey (id inst : Nat) : Nat := id * 2 ^ 16 + inst

def State.tabState (s : State) (id inst : Nat) : TabState := s.cfg.tables.get (insKey id inst)
def updTabState (id inst : Nat) (f : TabState → TabState) (s : State) : State :=
  { s with cfg := { s.cfg with tables := s.cfg.tables.upd (insKey id inst) f } }

/-- The part of a store that lies in a key range. -/
def tabSlice {α : Type} (t : Tab α) (lo hi : Nat) : Tab α := t.filter fun e => decide (lo ≤ e.1) && decide (e.1 < hi)

/-- Put `seg` in the place of a key range. -/
def tabSplice {α : Type} (t : Tab α) (lo hi : Nat) (seg : Tab α) : Tab α :=
  (t.filter fun e => decide (e.1 < lo)) ++ seg ++ t.filter fun e => decide (hi ≤ e.1)

/-- Identifier of SEC.cust_root, whose burn completes across a recast (R86, R472). -/
def custRootId : Nat := 0x15100000

/-- A recast of subsystem or device scope: a table that has not yet switched keeps its active page, and every standby page
is loaded from the active one; edits of the next rule version are lost with them (R86). -/
def reloadStandby (s : State) : State :=
  let burns := fun (k : Nat) => (s.sec.burning.get k).isSome
  let s := s.cfg.tables.foldl (fun s e =>
    if e.2.switching && !(e.1 / 2 ^ 16 == custRootId && burns (e.1 % 2 ^ 16)) then
      updTabState (e.1 / 2 ^ 16) (e.1 % 2 ^ 16) (fun st => { st with switching := false, cid := none }) s
    else s) s
  let page := (List.range 2).foldl (fun p k =>
    let lo := insKey custRootId k * 2 ^ 20
    if burns k then tabSplice p lo (lo + 2 ^ 20) (tabSlice s.cfg.standby lo (lo + 2 ^ 20)) else p) s.cfg.active
  { s with cfg := { s.cfg with standby := page }, pkt := { s.pkt with tcamEdit := [], flowEdit := [] } }

/-! ### Recasts -/

/-- Steps 1 to 3 of R63: windows reclaimed, staging sets and undelivered COMPLETE events discarded, the epoch advanced.
The result counts the reclaimed windows. -/
def reclaim (s : State) : Nat × State :=
  let ws := (List.range 8).filter fun w => match (s.win w).hold with | .command _ => true | _ => false
  let s := ws.foldl (fun s w => handBack w .reclaimed s) s
  let m := s.mbx
  (ws.length, { s with
    mbx := refillControl { m with control := m.control.filter Ctl.shared, outstanding := [],
                                  epoch := if m.epoch = 0xFFFFFFFF then 1 else m.epoch + 1 }
    cfg := { s.cfg with staging := [] } })

/-- Start the recast of a unit: QUIESCE, with its RECAST event queued; a device recast absorbs the queued faults that it
covers (R62, R63, R502, R503). Log entry 96 (DEDUCED). -/
def startRecast (u : RUnit) (cause : Nat) (full : Bool) (s : State) : State :=
  let prev := s.mbx.epoch
  let (k, s) := if u.scope = 0 then (0, s) else reclaim (reloadStandby s)
  let s := bump Prm.faultRecasts u.scope s
  let r := s.recast
  let keep := r.jobs.filter fun j => !(j.unit == u || j.unit.inside u)
  let covered := fun (q : RUnit × Nat) => q.1.inside u && decide (u.scope = 2)
  let s := { s with recast := { r with
      jobs := keep ++ [{ unit := u, cause := cause, st := .reset, full := full }]
      queue := r.queue.filter fun q => !covered q
      history := if u.scope = 0 then r.history else r.history ++ [(u, s.now)]
      lastCause := cause } }
  let s := if r.queue.any covered then bumpBy Prm.faultAbsorbed 0 (r.queue.filter covered).length s else s
  pump (queueControl (.recast u s.mbx.epoch prev cause k (s.tb80 0)) s)

/-- Start a device recast; once the device has been recast `escalate_n` times within `dev_window_s` it stops after RESET
(R504). -/
def startDevice (cause : Nat) (s : State) : State :=
  let hold := decide (s.parN Prm.faultEscalateN 0 ≤ s.recastsWithin .device (s.parN Prm.faultDevWindowS 0))
  startRecast .device cause (!hold) s

/-! ### Power states that a fault cuts short (R511, R517) -/

/-- Code of the power state (Table 17-10). -/
def PState.code : PState → Nat
  | .run => 0 | .standby => 1 | .sleep => 2 | .entering => 3 | .waking => 4

/-- PWR.state changes (Table 17-15); time spent in SLEEP counts in whole milliseconds. Log entry 97 (DEDUCED). -/
def setPower (st : PState) (s : State) : State :=
  let old := s.power.st
  if old == st then s
  else
    let s := if old == .sleep then
        let d := s.power.sleepRem + (s.now - s.power.asleepAt)
        bumpBy Prm.pwrSleepMs 0 (d / 1000000) { s with power := { s.power with sleepRem := d % 1000000 } }
      else s
    raise Ev.pwrState 0 (detail [(0, 1, st.code), (1, 1, old.code)]) { s with power := { s.power with st := st } }

/-- Result that a POWER_REQUEST ends with (R510): state reached, refusing block or 0xFF, and entry time. -/
def State.powerResult (s : State) (reached block : Nat) : List Byte :=
  le 1 reached ++ le 1 block ++ le 2 0 ++ le 4 ((s.now - s.power.entryAt) / 1000 % 2 ^ 32)

/-- Answer the POWER_REQUEST in progress, when there is one. -/
def answerPower (st : Status) (reached block : Nat) (s : State) : State :=
  finish? s.power.cid st (s.powerResult reached block) { s with power := { s.power with cid := none, cut := none } }

/-- Bits of the blocks that a state has stopped (Table 17-11). -/
def PState.blocks : PState → Nat
  | .standby => 0x01F
  | .sleep => 0xFFF
  | _ => 0

/-- A refusal by block b, or a fault as 0xFE, is counted and reported (R511). -/
def countRefusal (b : Nat) (s : State) : State :=
  let s := if b < 12 then bump Prm.pwrRefusals b s else s
  raise Ev.pwrRefused b (detail [(0, 1, s.power.target.code)]) { s with power := { s.power with lastRefuser := b } }

/-- Abort an entry: every block that agreed restarts, and the device stays in its state (R510, R511). Log entry 97 (DEDUCED). -/
def abortEntry (b : Nat) (s : State) : State :=
  let s := countRefusal b s
  let o := s.power.origin
  let s := setPower o { s with power := { s.power with down := o.blocks, steps := [], arrived := none } }
  answerPower .conflict o.code b s

/-- A stage of Table 17-12 has nothing to do: the state left its part on (R513). -/
def Power.stageOn (p : Power) (k : Nat) : Bool :=
  match k with
  | 0 => !p.railsOff
  | 1 => !p.pllOff
  | 2 => !p.memOff
  | _ => false

/-- First stage from k on that has something to do. -/
def Power.nextStage (p : Power) (k : Nat) : Nat :=
  if k ≤ 0 ∧ !p.stageOn 0 then 0 else if k ≤ 1 ∧ !p.stageOn 1 then 1 else if k ≤ 2 ∧ !p.stageOn 2 then 2 else 3

/-- Start a wake stage: the regulator stage asserts the enables, and the logic stage begins with the host endpoint (R513,
Table 17-13). -/
def startStage (k : Nat) (s : State) : State :=
  let s := { s with power := { s.power with stage := k, stageAt := s.now } }
  if k = 0 then { s with boot := { s.boot with enables := 15 } }
  else if k = 3 then { s with power := { s.power with down := setBit s.power.down 11 false } }
  else s

/-- Start a wake attempt (R513, R514). -/
def startAttempt (s : State) : State :=
  let s := setPower .waking { s with power := { s.power with attempt := s.power.attempt + 1, retryFrom := none } }
  startStage (s.power.nextStage 0) s

/-- Start a series of wake attempts for a cause of R515; `none` for a fault. Log entry 97 (DEDUCED). -/
def startWake (cause : Option Nat) (s : State) : State :=
  startAttempt { s with power := { s.power with
    attempt := 0, steps := [], arrived := none, lastCause := cause.getD s.power.lastCause } }

/-- A fault during entry: before the sequencer runs it aborts the entry; during the sequencer's steps the device wakes from
there (R511, R512). Log entry 97 (DEDUCED). -/
def entryFault (s : State) : State :=
  if s.power.st != .entering then s
  else if s.power.steps.isEmpty then abortEntry 0xFE s
  else startWake none (countRefusal 0xFE { s with power := { s.power with cut := some 0xFE } })

/-- Wake causes that the host has enabled (R515). -/
def State.wakeEnabled (s : State) (b : Nat) : Bool := decide (b < 4) && bit (s.parN Prm.pwrWakeSources 0) b

/-- A wake source arrives (R512, R514, R515). Log entry 111 (DEDUCED). -/
def wakeSource (b : Nat) (s : State) : State :=
  let p := s.power
  if !s.wakeEnabled b then s
  else if p.st == .entering && !p.steps.isEmpty then
    if p.arrived.isSome then s else bump Prm.pwrEntryAborts 0 { s with power := { p with arrived := some b } }
  else if (p.st == .standby || p.st == .sleep) && p.retryFrom.isNone then startWake (some b) s
  else s

/-- Why an engine or core recasts, as LADLE_ENGINE_HELD and PKT_DROVER_HELD code it: 1 ECC, 3 watchdog, 2 anything else. -/
def recastWhy (cause : Nat) : Nat := if cause = Cause.ecc then 1 else if cause = Cause.watchdog then 3 else 2

/-- Admit a fault of a unit: absorb it, queue it, or start its recast (R503, R504). -/
def admitFault (u : RUnit) (cause : Nat) (s : State) : State :=
  let s := entryFault s
  let r := s.recast
  if s.recastHolds u || (decide (u.scope = 1) && r.queue.any fun q => q.1 == u) then bump Prm.faultAbsorbed 0 s
  else if s.power.st == .waking then
    if 32 ≤ r.queue.length then s else { s with recast := { r with queue := r.queue ++ [(u, cause)] } }
  else if u.scope = 0 then startRecast u cause true s
  else if u.scope = 1 then
    if s.parN Prm.faultEscalateN 0 ≤ s.recastsWithin u (s.parN Prm.faultEscalateWindowS 0) then
      startDevice Cause.escalation
        (raise Ev.faultEscalate 0 (detail [(0, 1, u.group), (2, 2, u.inst), (4, 1, 2)]) s)
    else if r.jobs.any fun j => decide (0 < j.unit.scope) then
      if 32 ≤ r.queue.length then startDevice Cause.escalation s
      else { s with recast := { r with queue := r.queue ++ [(u, cause)] } }
    else startRecast u cause true s
  else startDevice cause s

/-- The queued recast that runs next: device scope first, then ascending group and instance (R503). -/
def nextQueued : List (RUnit × Nat) → Option (RUnit × Nat)
  | [] => none
  | q :: t => match nextQueued t with
    | none => some q
    | some b =>
      if q.1.scope > b.1.scope ∨ (q.1.scope = b.1.scope ∧ (q.1.group < b.1.group ∨
          (q.1.group = b.1.group ∧ q.1.inst ≤ b.1.inst))) then some q else some b

/-- Start the next queued recast when none of subsystem or device scope runs. -/
def runQueued (s : State) : State :=
  if s.recasting then s
  else match nextQueued s.recast.queue with
    | none => s
    | some q => admitFault q.1 q.2 { s with recast := { s.recast with queue := s.recast.queue.erase q } }

end Sys2Proof.Machine
end

