-- ==== Sys2Proof/Machine/Rings.lean ====
section
/-!
DEFINITION. Host rings: indices, write-back in ring order and their MSI-X messages (R392, R396 to R398).
-/
namespace Sys2Proof.Machine

def State.ring (s : State) (n : Nat) : Ring := s.dma.ring.get n
def updRing (n : Nat) (f : Ring → Ring) (s : State) : State := { s with dma := { s.dma with ring := s.dma.ring.upd n f } }

/-- The ring runs. -/
def State.ringOn (s : State) (n : Nat) : Bool := decide (s.par Prm.dmaRingEnable n = 1) && !(s.ring n).stopped

/-- Write host memory. -/
def hostWrite (addr : Nat) (b : List Byte) (s : State) : State :=
  { s with dma := { s.dma with hostOut := s.dma.hostOut ++ [(addr % 2 ^ 64, b)] } }

/-- Bus address of the descriptor at an index. -/
def State.descAddr (s : State) (n i : Nat) : Nat :=
  s.parN Prm.dmaRingBase n + i % s.parN Prm.dmaRingSize n * 32

/-- Descriptors posted and not yet used (R394). -/
def State.posted (s : State) (n : Nat) : Nat := ((s.ring n).prod + 65536 - (s.ring n).cons) % 65536

/-- The MSI-X vector of a ring (R397). -/
def ringVector (n : Nat) : Nat := 16 + n

/-- Signal a ring's vector. -/
def signalRing (n : Nat) (s : State) : State := sendVector (ringVector n) (updRing n (fun r => { r with unsignalled := 0, since := 0 }) s)

/-- One packet has been written back (R397). -/
def countWriteback (n : Nat) (s : State) : State :=
  let s := bump Prm.dmaRingPkts n s
  let s := updRing n (fun r => { r with unsignalled := r.unsignalled + 1, since := if r.unsignalled = 0 then s.now else r.since }) s
  if s.parN Prm.dmaRingIrqUs n = 0 ∨ s.parN Prm.dmaRingIrqPkts n ≤ (s.ring n).unsignalled then signalRing n s else s

/-- Write back the descriptors of one transmitted packet (Table 13-7, R396). Log entry 82 (DEDUCED). -/
def writebackTx (n : Nat) (w : TxWait) (status ts tb : Nat) (s : State) : State :=
  let r := s.ring n
  let s := (List.range w.descs).foldl (fun s i =>
    let eop := decide (i + 1 = w.descs)
    let t := if eop && w.tsReq && decide (status = 0) then ts * 2 ^ 48 + tb * 2 ^ 128 else 0
    hostWrite (s.descAddr n (r.cons + i)) (le 32 (status + t + 2 ^ 255)) s) s
  let s := updRing n (fun r => { r with cons := (r.cons + w.descs) % 65536, taken := r.taken - w.descs }) s
  let s := if 2 ≤ status then bump Prm.dmaRingTxErr n s else s
  countWriteback n s

/-- Write back, in ring order, every packet whose outcome is known (R396); `k` bounds the count. -/
def flushTx (n : Nat) : Nat → State → State
  | 0, s => s
  | k + 1, s => match (s.ring n).wait with
    | [] => s
    | w :: rest => match w.done with
      | none => s
      | some (st, ts, tb) => flushTx n k (writebackTx n w st ts tb (updRing n (fun r => { r with wait := rest }) s))

/-- The packet behind a handle of a transmit ring has an outcome. Log entry 81 (DEDUCED). -/
def txOutcome (n h status ts tb : Nat) (s : State) : State :=
  let s := updRing n (fun r => { r with
    wait := r.wait.map fun w => if w.handle = h && w.done.isNone then { w with done := some (status, ts, tb) } else w }) s
  flushTx n ((s.ring n).wait.length + 1) s

/-- RING_IRQ_TIMER (R397). -/
def execRingIrqTimer (n : Nat) (s : State) : Host.Outcome State Fault Refusal :=
  let r := s.ring n
  let us := s.parN Prm.dmaRingIrqUs n
  .next (if n < 32 ∧ us ≠ 0 ∧ r.unsignalled ≠ 0 ∧ r.since + us * 1000 ≤ s.now then signalRing n s else s)

/-- After a reset of the host side every enabled ring stops at its current descriptor (R398). -/
def stopRings (s : State) : State :=
  (List.range 32).foldl (fun s n =>
    if s.ringOn n then
      raise Ev.dmaRingStopped n (detail [(0, 2, (s.ring n).cons)]) (updRing n (fun r => { r with stopped := true }) s)
    else s) s

/-- A commit of DMA.ring_enable: 1 starts the ring at index 0, 0 ends a stop (R392, R398). Log entry 9 (DEDUCED). -/
def applyRing (n : Nat) (s : State) : State :=
  updRing n (fun _ => {}) s

end Sys2Proof.Machine
end

