-- ==== Sys2Proof/Machine/Pool.lean ====
section
/-!
DEFINITION. Caravanserai: waybills, packet pools and ownership (R327 to R337).
-/
namespace Sys2Proof.Machine

def State.wb (s : State) (h : Nat) : Waybill := s.pkt.wb.get h
def updWb (h : Nat) (f : Waybill → Waybill) (s : State) : State := { s with pkt := { s.pkt with wb := s.pkt.wb.upd h f } }
def State.pool (s : State) (p : Nat) : Pool := s.pkt.pool.get p
def updPool (p : Nat) (f : Pool → Pool) (s : State) : State := { s with pkt := { s.pkt with pool := s.pkt.pool.upd p f } }

/-- Waybills in the store (R327). -/
def waybills : Nat := 262144

/-- Length of the packet. -/
def Waybill.length (w : Waybill) : Nat := w.data.length

/-- A data-class requester of Table 11-4. -/
def dataClass (port : Nat) : Bool := decide (port < 11)

/-- Port ID of an engine: Ladle engine e, or Drover core 0x40 + n. -/
def enginePort (e : Nat) : Nat := if e < 0x40 then 64 + e else 32 + (e - 0x40)

/-- The first number from `start` on, modulo `n`, that is not in use. Log entry 71 (DESIGN CHOICE). -/
def firstFree (used : List Nat) (n start : Nat) : Option Nat :=
  ((List.range (used.length + 1)).map fun j => (start + j) % n).find? fun x => !used.contains x

/-- Smallest enabled pool that holds `n` bytes (R331). -/
def State.poolFor (s : State) (n : Nat) : Option Nat :=
  (List.range 6).find? fun p => decide (0 < s.parN Prm.poolCount p) && decide (n ≤ s.parN Prm.poolSize p)

/-- Free buffers of a pool. -/
def State.poolFree (s : State) (p : Nat) : Nat := s.parN Prm.poolCount p - (s.pool p).used.length

/-- The requester may take a buffer of the pool (R335). -/
def State.mayTake (s : State) (port p : Nat) : Bool :=
  if dataClass port then decide (s.parN Prm.poolReserve p < s.poolFree p) else decide (0 < s.poolFree p)

/-- EMPTY from a pool (R335). -/
def poolEmpty (port p : Nat) (s : State) : State :=
  warnOnce Prm.poolEmpty p Ev.poolEmpty p (detail [(0, 1, port)]) (bump Prm.poolEmpty p s)

/-- EMPTY from the waybill store (R335). -/
def wbEmpty (port : Nat) (s : State) : State :=
  warnOnce Prm.pktWbEmpty 0 Ev.pktWbEmpty 0 (detail [(0, 1, port)]) (bump Prm.pktWbEmpty 0 s)

/-- Which of the free waybills and buffers an ALLOC returns is left open: the search starts at a free value.
Log entry 71 (DESIGN CHOICE). -/
def takeBuffer (port p : Nat) (s : State) : Option (Nat × State) :=
  let (start, s) := drawBelow (s.parN Prm.poolCount p) s
  (firstFree (s.pool p).used (s.parN Prm.poolCount p) start).map fun b =>
    (b, bump Prm.poolAlloc p (updPool p (fun x => { x with used := insertNat b x.used, winner := port }) s))
where
  insertNat (b : Nat) : List Nat → List Nat
    | [] => [b]
    | x :: t => if b ≤ x then b :: x :: t else x :: insertNat b t

/-- ALLOC of `n` bytes by a port: a waybill and one buffer, owned by it (R331, R332, R335). -/
def alloc (port n : Nat) (s : State) : AllocAns × State :=
  if n = 0 then (.zero, s)
  else match s.poolFor n with
    | none => (.tooLong, s)
    | some p =>
      let used := s.pkt.wb.map (·.1)
      let (start, s) := drawBelow waybills s
      match firstFree used waybills start with
      | none => (.empty, wbEmpty port s)
      | some h =>
        if used.length ≥ waybills then (.empty, wbEmpty port s)
        else if !s.mayTake port p then (.empty, poolEmpty port p s)
        else match takeBuffer port p s with
          | none => (.empty, poolEmpty port p s)
          | some (b, s) =>
            let w : Waybill := { used := true, pool := p, buffer := b, owner := port }
            (.handle h, updWb h (fun _ => w) { s with pkt := { s.pkt with wbWinner := port } })

/-- A waybill that goes takes no PTP stamp any more. -/
def dropMark (h : Nat) (s : State) : State :=
  if s.eth.port.any fun p => p.2.rxMarks.any fun m => m.handle == some h then
    { s with eth := { s.eth with port := s.eth.port.mapV fun p =>
        { p with rxMarks := p.rxMarks.map fun m => if m.handle = some h then { m with handle := none } else m } } }
  else s

/-- Return a waybill and its buffer to their free lists; a transmit descriptor that waits for the packet has status 3
(R396). -/
def free (h : Nat) (s : State) : State :=
  let w := s.wb h
  if !w.used then s
  else
    let s := updPool w.pool (fun x => { x with used := x.used.erase w.buffer }) s
    let s := dropMark h { s with pkt := { s.pkt with wb := s.pkt.wb.erase h } }
    match w.ring with
    | some n => txOutcome n h 3 0 0 s
    | none => s

/-- The packet has left its egress port at a time on a time base: the waybill is released (R328, R396). -/
def sendOff (h ts tb : Nat) (s : State) : State :=
  let s := match (s.wb h).ring with
    | some n => txOutcome n h 0 ts tb s
    | none => s
  free h s

/-- A refused GIVE or RELEASE (R333): 1 GIVE, 2 RELEASE. -/
def badFree (port h op : Nat) (s : State) : State :=
  let w := s.wb h
  let owner := if w.used then w.owner else 0xFF
  raise Ev.poolBadFree w.pool (detail [(0, 1, port), (1, 1, owner), (2, 1, op), (4, 4, h)]) (bump Prm.poolBadFree w.pool s)

/-- A refused pointer (R334). -/
def badPtr (port ptr : Nat) (s : State) : State :=
  raise Ev.poolBadPtr 0 (detail [(0, 1, port), (4, 4, ptr % 2 ^ 32)]) (bump Prm.poolBadPtr 0 s)

/-- GIVE (R332, R333). -/
def give (port h dest : Nat) (s : State) : State :=
  if waybills ≤ h then badPtr port h s
  else if (s.wb h).used && decide ((s.wb h).owner = port) then updWb h (fun w => { w with owner := dest }) s
  else badFree port h 1 s

/-- RELEASE (R332, R333). -/
def release (port h : Nat) (s : State) : State :=
  if waybills ≤ h then badPtr port h s
  else if (s.wb h).used && decide ((s.wb h).owner = port) then free h s
  else badFree port h 2 s

/-- Port ID of Table 11-4. -/
def validPort (p : Nat) : Bool :=
  decide (p < 20) || (decide (32 ≤ p) && decide (p < 60)) || (decide (64 ≤ p) && decide (p < 96))

/-- Rank of a port in round-robin order after the last winner (R335). -/
def portRank (winner port : Nat) : Nat := (port + 96 - winner - 1) % 96

/-- The request of least rank. -/
def leastRank (winner : Nat) : List (Nat × Nat) → Option (Nat × Nat)
  | [] => none
  | r :: t => match leastRank winner t with
    | none => some r
    | some b => if portRank winner r.1 ≤ portRank winner b.1 then some r else some b

/-- Requests in rank order. -/
def rankSort (winner : Nat) : Nat → List (Nat × Nat) → List (Nat × Nat)
  | 0, _ => []
  | n + 1, l => match leastRank winner l with
    | none => []
    | some r => r :: rankSort winner n (l.erase r)

/-- One pool's part of a pipeline cycle: at most four grants, EMPTY where nothing may be taken, and the rest carried
(R335). -/
def poolCycle (p : Nat) : Nat → List (Nat × Nat) → State → State
  | _, [], s => s
  | g, (port, n) :: rest, s =>
    if s.mayTake port p then
      if g < 4 then
        let (a, s) := alloc port n s
        poolCycle p (g + 1) rest { s with pkt := { s.pkt with answers := s.pkt.answers ++ [(port, a)] } }
      else poolCycle p g rest (updPool p (fun x => { x with carried := x.carried ++ [(port, n)] }) s)
    else
      let s := poolEmpty port p s
      poolCycle p g rest { s with pkt := { s.pkt with answers := s.pkt.answers ++ [(port, .empty)] } }

/-- POOL_ALLOC: the ALLOC requests that the pools receive in one pipeline cycle, each a port ID and a byte count (R332,
R335). -/
def execPoolAlloc (reqs : List (Nat × Nat)) (s : State) : Host.Outcome State Fault Refusal :=
  let reqs := reqs.filter fun r => validPort r.1
  let zero := (reqs.filter fun r => r.2 = 0).map fun r => (r.1, AllocAns.zero)
  let long := (reqs.filter fun r => r.2 ≠ 0 && (s.poolFor r.2).isNone).map fun r => (r.1, AllocAns.tooLong)
  let s := { s with pkt := { s.pkt with answers := zero ++ long } }
  .next ((List.range 6).foldl (fun s p =>
    let mine := (s.pool p).carried ++ reqs.filter fun r => r.2 ≠ 0 && s.poolFor r.2 == some p
    let s := updPool p (fun x => { x with carried := [] }) s
    poolCycle p 0 (rankSort (s.pool p).winner mine.length mine) s) s)

/-- WAYBILL_GIVE (R332, R333). -/
def execWaybillGive (port h dest : Nat) (s : State) : Host.Outcome State Fault Refusal :=
  .next (if validPort port && validPort dest then give port h dest s else s)

/-- Pool and index of a byte address, when it lies in an enabled pool at a multiple of the buffer size (R334). -/
def State.addrBuffer (s : State) (a : Nat) : Option (Nat × Nat) :=
  ((List.range 6).find? fun p => decide (Config.poolBase p ≤ a) &&
      decide (a < Config.poolBase p + s.parN Prm.poolCount p * s.parN Prm.poolSize p)).bind fun p =>
    if (a - Config.poolBase p) % s.parN Prm.poolSize p = 0 then some (p, (a - Config.poolBase p) / s.parN Prm.poolSize p)
    else none

/-- Handle of the waybill that holds a buffer. -/
def State.bufferOwner (s : State) (p b : Nat) : Option Nat :=
  (s.pkt.wb.find? fun e => e.2.used && decide (e.2.pool = p) && decide (e.2.buffer = b)).map (·.1)

/-- RELEASE of a buffer by pool and index: a free buffer is a double release (R333, R334). -/
def releaseIndex (port ptr p b : Nat) (s : State) : State :=
  if s.parN Prm.poolCount p ≤ b ∨ 6 ≤ p then badPtr port ptr s
  else match s.bufferOwner p b with
    | some h => release port h s
    | none => raise Ev.poolBadFree p (detail [(0, 1, port), (1, 1, 0xFF), (2, 1, 2)]) (bump Prm.poolBadFree p s)

/-- WAYBILL_RELEASE (R332 to R334). -/
def execWaybillRelease (port : Nat) (ptr : BufPtr) (s : State) : Host.Outcome State Fault Refusal :=
  .next (if !validPort port then s else match ptr with
    | .handle h => release port h s
    | .index p b => releaseIndex port b p b s
    | .address a => match s.addrBuffer a with
      | some (p, b) => releaseIndex port a p b s
      | none => badPtr port a s)

/-- An uncorrectable error in a buffer's data releases the packet when it is read (R337). -/
def readPacket (h : Nat) (s : State) : Option (List Byte) × State :=
  let w := s.wb h
  if w.ecc then (none, free h (raise Ev.poolEcc w.pool (detail [(0, 1, 1)]) s)) else (some w.data, s)

end Sys2Proof.Machine
end

