-- ==== Sys2Proof/Machine/Jobs.lean ====
section
/-!
DEFINITION. The job scheduler: posting, dispatch, completion bookkeeping and its trace (R273 to R280).
-/
namespace Sys2Proof.Machine

def State.jobq (s : State) (q : Nat) : JobQ := s.task.q.get q
def updJobq (q : Nat) (f : JobQ → JobQ) (s : State) : State := { s with task := { s.task with q := s.task.q.upd q f } }
def State.runner (s : State) (e : Nat) : Runner := s.task.run.get e
def updRunner (e : Nat) (f : Runner → Runner) (s : State) : State := { s with task := { s.task with run := s.task.run.upd e f } }
def State.eng (s : State) (e : Nat) : Ladle := s.task.eng.get e
def updEng (e : Nat) (f : Ladle → Ladle) (s : State) : State := { s with task := { s.task with eng := s.task.eng.upd e f } }
def State.kernel (s : State) (k : Nat) : Kernel := s.task.slot.get k
def updKernel (k : Nat) (f : Kernel → Kernel) (s : State) : State := { s with task := { s.task with slot := s.task.slot.upd k f } }

/-! ### Memories -/

/-- A byte of a memory; an unlisted byte of lost contents is a free value. -/
def Mem.byte (m : Mem) (a : Nat) : Byte :=
  (m.cells.get a).getD (match m.lost with | none => 0 | some g => Config.lostByte g a)

/-- Write a byte. -/
def Mem.setByte (m : Mem) (a : Nat) (b : Byte) : Mem :=
  let base := match m.lost with | none => 0 | some g => Config.lostByte g a
  { m with cells := m.cells.put a (if b = base then none else some b) }

/-- Write bytes from an address. -/
def Mem.write (m : Mem) (a : Nat) : List Byte → Mem
  | [] => m
  | b :: t => Mem.write (m.setByte (a % 65536) b) (a + 1) t

/-- Read `k` bytes. -/
def Mem.read (m : Mem) (a k : Nat) : List Byte := (List.range k).map fun j => m.byte ((a + j) % 65536)

/-! ### The waybill as 32 bytes -/

/-- The 256 bits of Table 11-1. -/
def Waybill.word (w : Waybill) (h : Nat) : Nat :=
  h + w.pool * 2 ^ 18 + w.buffer * 2 ^ 21 + w.length * 2 ^ 40 + w.offset * 2 ^ 56 + w.version * 2 ^ 64 +
  w.srcType * 2 ^ 68 + w.srcInst * 2 ^ 72 + w.layers * 2 ^ 83 + w.l3Type * 2 ^ 87 + w.l4Type * 2 ^ 89 +
  b2n w.tunnel * 2 ^ 92 + b2n w.trunc * 2 ^ 93 + b2n w.lenConf * 2 ^ 94 + w.l3Off * 2 ^ 96 + w.l4Off * 2 ^ 104 +
  w.inOff * 2 ^ 112 + w.l3Csum * 2 ^ 120 + w.l4Csum * 2 ^ 122 + w.hash * 2 ^ 128 + w.rule * 2 ^ 160 +
  b2n w.tcamHit * 2 ^ 174 + b2n w.flowHit * 2 ^ 175 + w.mark * 2 ^ 176 + w.flow * 2 ^ 192 + w.color * 2 ^ 214 +
  w.queue * 2 ^ 216 + w.tid * 2 ^ 231 + w.exc * 2 ^ 234 + w.owner * 2 ^ 238

/-- Mark, queue and tid taken back from 32 bytes of X memory (R329). -/
def Waybill.takeBack (w : Waybill) (bytes : List Byte) : Waybill :=
  let v := leNat bytes
  { w with mark := bits v 191 176, queue := bits v 230 216, tid := bits v 233 231 }

/-! ### Trace -/

/-- Job group of a queue (R274). -/
def jobGroup (q : Nat) : Nat := q / 16

/-- A scheduler decision enters the trace ring when its kind is enabled (R279). -/
def traceJob (kind g q e word : Nat) (s : State) : State :=
  if !bit (s.parN Prm.taskTraceMask 0) (kind - 1) then s
  else
    let r : TraceRec := { time := s.now % 2 ^ 48, kind := kind, group := g, queue := q, engine := e, word := word, seq := s.task.traceNext }
    let t := s.task
    let full := decide (4096 ≤ t.trace.length)
    let s := { s with task := { t with
        trace := (if full then t.trace.drop 1 else t.trace) ++ [r]
        traceNext := (t.traceNext + 1) % 0xFFFFFFFF } }
    if full then bump Prm.taskTraceLost 0 s else s

/-! ### Dispatch -/

/-- Engines that hold a job of the queue not yet complete. -/
def State.running (s : State) (q : Nat) : Bool :=
  s.task.run.any fun e => (e.2.job.any fun j => j.queue == q) || (e.2.buf.any fun j => j.queue == q)

/-- Head job of a queue, unless it is a barrier that still waits (R274, R276). -/
def State.headJob (s : State) (q : Nat) : Option Job :=
  match (s.jobq q).jobs with
  | [] => none
  | j :: _ => if j.barrier && s.running q then none else some j

/-- Recast unit of an engine or Drover core (Table 17-5). -/
def engineUnit (e : Nat) : RUnit := if e < 0x40 then ⟨0, 0x0A, e⟩ else ⟨0, 0x0C, e⟩

/-- The engine is in service: enabled, not held and not being recast. -/
def State.inService (s : State) (e : Nat) : Bool :=
  !(s.runner e).held && !s.stopped (engineUnit e) &&
    (if e < 0x40 then decide (s.par Prm.ladleEnable e = 1) && !(s.eng e).halted
     else decide (s.par Prm.pktDcEnable (e - 0x40) = 1))

/-- The queue's slot is resident on the engine, or both are the Drover firmware's; a slot under installation dispatches
nothing to the engines of its mask (R274, R285). -/
def State.serves (s : State) (q e : Nat) : Bool :=
  let k := s.parN Prm.taskQueueSlot q
  if k < 64 then decide (e < 32) && bit (s.kernel k).engines e &&
      !(s.task.install.any fun i => decide (i.slot = k) && bit i.mask e)
  else decide (k = 0xFE) && decide (0x40 ≤ e) && decide (e < 0x5B)

/-- A job of queue q is dispatchable to engine e (R274); with a power-cap step in force group 9 receives no dispatch
(R495). -/
def State.dispatchable (s : State) (q e : Nat) : Bool :=
  let g := jobGroup q
  let mask := if e < 0x40 then bit (s.parN Prm.taskGroupLadleMask g) e else bit (s.parN Prm.taskGroupDroverMask g) (e - 0x40)
  decide (0 < s.parN Prm.taskGroupWeight g) && (decide (g ≠ 9) || decide (s.mgmt.capStep = 0)) && mask && s.serves q e && (s.headJob q).isSome

/-- Queues with a job. -/
def State.queuesWithJobs (s : State) : List Nat := (s.task.q.filter fun x => !x.2.jobs.isEmpty).map (·.1)

/-- Groups that hold a job dispatchable to the engine, background groups removed where a foreground one is there
(R275). -/
def State.jobGroupsFor (s : State) (e : Nat) : List Nat :=
  let all := pick 16 fun g => s.queuesWithJobs.any fun q => decide (jobGroup q = g) && s.dispatchable q e
  let fore := all.filter fun g => s.par Prm.taskGroupBackground g = 0
  if fore.isEmpty then all else fore

def State.creditOf (s : State) (g : Nat) : Int := s.task.credit.get g

/-- One credit refill of every group with a weight (R275). -/
def refillCredits (s : State) : State :=
  (List.range 16).foldl (fun s g =>
    let w : Int := s.parN Prm.taskGroupWeight g
    if w = 0 then s
    else
      let c := if s.queuesWithJobs.any fun q => jobGroup q == g then s.creditOf g else min (s.creditOf g) 0
      let c := min (c + w * 64) (w * 256)
      traceJob 5 g 0 0 (twos 32 c) { s with task := { s.task with credit := s.task.credit.put g c } }) s

/-- Refill while no group of `gs` has credit; 64 rounds lift any credit that a dispatch can leave above 0. -/
def refillUntil (gs : List Nat) : Nat → State → State
  | 0, s => s
  | n + 1, s => if gs.any fun g => decide (0 < s.creditOf g) then s else refillUntil gs n (refillCredits s)

/-- The member of largest credit, ties to the lower number. -/
def richest (c : Nat → Int) : List Nat → Option Nat
  | [] => none
  | g :: t => match richest c t with
    | none => some g
    | some b => if c b ≤ c g then some g else some b

/-- Hardware posts that wait move into the space of their queue (R277). -/
def admitHeld (q : Nat) (s : State) : State :=
  let x := s.jobq q
  let room := s.parN Prm.taskQueueDepth q - x.jobs.length
  let moved := x.held.take room
  if moved.isEmpty then s
  else
    let numbered := moved.zipIdx.map fun m => { m.1 with seq := (x.seq + m.2) % 65536 }
    let s := updJobq q (fun _ => { jobs := x.jobs ++ numbered, held := x.held.drop room, seq := (x.seq + moved.length) % 65536 }) s
    numbered.foldl (fun s j => traceJob 1 (jobGroup q) q 0 j.arg s) (bumpBy Prm.taskPosted q moved.length s)

/-- Choose the job that a fetching engine receives and take it out of its queue (R275). -/
def selectJob (e : Nat) (s : State) : Option (Job × State) :=
  let gs := s.jobGroupsFor e
  if gs.isEmpty then none
  else
    let s := refillUntil gs 80 s
    match richest s.creditOf gs with
    | none => none
    | some g =>
      match (s.queuesWithJobs.filter fun q => decide (jobGroup q = g) && s.dispatchable q e).head? with
      | none => none
      | some q => (s.headJob q).map fun j =>
        let s := updJobq q (fun x => { x with jobs := x.jobs.drop 1 }) s
        let s := { s with task := { s.task with credit := s.task.credit.upd g fun c => c - (j.cost : Int) } }
        (j, admitHeld q (traceJob 2 g q e j.arg (bump Prm.taskDispatched q s)))

/-- JOB_INFO (Table 9-13). -/
def Job.info (j : Job) : Nat := j.queue * 2 ^ 24 + j.kind * 2 ^ 20 + j.seq

/-- A waybill job reaches its engine: the waybill and its buffer change owner, and a Ladle engine sees the waybill and the
first 256 bytes in X memory (R328, R329). -/
def handWaybill (e : Nat) (j : Job) (s : State) : State :=
  let w := s.wb j.arg
  if j.kind ≠ 1 ∨ !w.used then s
  else
    let s := updWb j.arg (fun w => { w with owner := enginePort e }) s
    if e < 0x40 then
      let w := s.wb j.arg
      updEng e (fun x => { x with x := (x.x.write 0xE000 (le 32 (w.word j.arg))).write 0xE020 (w.data.take 256) }) s
    else s

/-- The read of JOB_FETCH returns job j (R273); the register that waits takes the argument. -/
def returnJob (e : Nat) (dst : Option Nat) (j : Job) (s : State) : State :=
  let s := { s with task := { s.task with waiters := s.task.waiters.filter (· != e) } }
  let s := updRunner e (fun r => { r with job := some j, since := s.now, buf := none, fetch := none, info := j.info, arg := j.arg }) s
  if e < 0x40 then
    updEng e (fun x =>
      let write := fun (b : Bank) => match dst with | some r => { b with d := b.d.put r j.arg } | none => b
      let pc := if dst.isSome then (x.pc + 1) % 16384 else x.pc
      if x.stack.isEmpty then { x with bank0 := write x.bank0, pc := pc } else { x with bank1 := write x.bank1, pc := pc }) s
  else s

/-- Give jobs to the engines that wait, the longest wait first (R275). -/
def serveWaiters (s : State) : State :=
  s.task.waiters.foldl (fun s e =>
    if !s.inService e then s
    else match (s.runner e).fetch with
      | none => s
      | some dst => match selectJob e s with
        | none => s
        | some (j, s) => returnJob e dst j (handWaybill e j s)) s

/-! ### Posting -/

/-- TASK_QUEUE_FULL, once per venue-time second and queue (R277). -/
def queueFull (q sw : Nat) (s : State) : State :=
  warnOnce Prm.taskPostFull q Ev.taskQueueFull q (detail [(0, 1, sw)]) (bump Prm.taskPostFull q s)

/-- Put a job at the tail of its queue. -/
def enqueueJob (j : Job) (s : State) : State :=
  let s := updJobq j.queue (fun x => { x with jobs := x.jobs ++ [{ j with seq := x.seq }], seq := (x.seq + 1) % 65536 }) s
  serveWaiters (traceJob 1 (jobGroup j.queue) j.queue 0 j.arg (bump Prm.taskPosted j.queue s))

/-- A hardware poster posts; a full queue holds the job until space returns (R277). The cost of such a job is left
open. Log entry 57 (DESIGN CHOICE). -/
def postHardware (q kind arg : Nat) (s : State) : State :=
  let (c, s) := drawBelow 4095 s
  let j : Job := { queue := q, kind := kind, arg := arg, cost := c + 1 }
  if s.parN Prm.taskQueueDepth q ≤ (s.jobq q).jobs.length then
    queueFull q 0 (updJobq q (fun x => { x with held := x.held ++ [j] }) s)
  else enqueueJob j s

/-- A software post (R277): the new POST_STATUS. -/
def postSoftware (j : Job) (permitted : Bool) (s : State) : Nat × State :=
  if j.cost = 0 then (3, s)
  else if !permitted then (2, s)
  else if s.parN Prm.taskQueueDepth j.queue ≤ (s.jobq j.queue).jobs.length then (1, queueFull j.queue 1 s)
  else (0, enqueueJob j s)

/-- The round jobs of a complete round (R277, Table 9-13). -/
def postRound (r round : Nat) (s : State) : State :=
  (List.range (s.parN Prm.taskRoundFanout r)).foldl
    (fun s i => postHardware (s.parN Prm.taskRoundQueue r) 2 (round % 2 ^ 24 * 256 + i) s) s

/-- The current job leaves its engine complete: the trace says so, and a barrier at the head may be released (R276). -/
def retireJob (e : Nat) (j : Job) (s : State) : State :=
  let s := updRunner e (fun r => { r with job := none }) s
  let s := traceJob 3 (jobGroup j.queue) j.queue e j.arg s
  let s := match (s.jobq j.queue).jobs with
    | b :: _ => if b.barrier && !s.running j.queue then traceJob 6 (jobGroup j.queue) j.queue 0 b.arg s else s
    | [] => s
  serveWaiters s

/-- The current job is dropped with its engine: it is counted, and counts as complete for barriers (R278, R360). -/
def dropJob (e : Nat) (s : State) : State :=
  match (s.runner e).job with
  | none => s
  | some j =>
    let g := jobGroup j.queue
    let s := traceJob 4 g j.queue e j.arg (bump Prm.taskDropped g (updRunner e (fun r => { r with job := none }) s))
    raise Ev.taskJobDropped g (detail [(0, 2, j.queue), (4, 4, j.arg)]) s

/-- A job in the fetch buffer returns to the head of its queue (R278). -/
def returnBuffered (e : Nat) (s : State) : State :=
  match (s.runner e).buf with
  | none => s
  | some j => updJobq j.queue (fun x => { x with jobs := j :: x.jobs }) (updRunner e (fun r => { r with buf := none }) s)

/-- Waybill jobs that wait when the packet path recasts are dropped (R337). -/
def dropWaybillJobs (s : State) : State :=
  s.task.q.foldl (fun s x =>
    let lost := (x.2.jobs ++ x.2.held).filter fun j => j.kind == 1
    let s := updJobq x.1 (fun y => { y with jobs := y.jobs.filter (fun j => j.kind != 1), held := y.held.filter (fun j => j.kind != 1) }) s
    lost.foldl (fun s j => traceJob 4 (jobGroup x.1) x.1 0 j.arg (bump Prm.taskDropped (jobGroup x.1) s)) s) s

end Sys2Proof.Machine
end

