-- ==== Sys2Proof/Machine/Tables.lean ====
section
/-!
DEFINITION. Table storage: what a table is (R82 to R84) and how blocks read and firmware writes its entries.
-/
namespace Sys2Proof.Machine

/-- A failing entry of an offender list (Table 3-6): identifier, instance, reason. -/
structure Offence where
  id : Nat
  inst : Nat
  reason : Nat
deriving DecidableEq, Repr, Inhabited

/-- One table of the spec. -/
structure TableDef where
  id : Nat
  /-- instances -/
  insts : Nat
  /-- entries of an instance -/
  entries : Nat → Nat
  /-- bytes of an entry -/
  size : Nat
  /-- default entry -/
  dflt : Nat → Nat → List Byte := fun _ _ => []
  /-- empty entry kind: a table with no default page writes zeros -/
  versioned : Bool := false

/-- Key of one entry in the page stores. -/
def tabKey (id inst idx : Nat) : Nat := (id * 2 ^ 16 + inst) * 2 ^ 20 + idx

/-- Default entry of a table at its full size. -/
def TableDef.default (t : TableDef) (i k : Nat) : List Byte := bytesAt (t.dflt i k) 0 t.size

/-- Entry of the active page. -/
def State.entry (s : State) (t : TableDef) (i k : Nat) : List Byte :=
  (s.cfg.active.get (tabKey t.id i k)).getD (t.default i k)

/-- Entry of the standby page. -/
def State.standbyEntry (s : State) (t : TableDef) (i k : Nat) : List Byte :=
  (s.cfg.standby.get (tabKey t.id i k)).getD (t.default i k)

/-- Active entry as one little-endian number. -/
def State.entryNat (s : State) (t : TableDef) (i k : Nat) : Nat := leNat (s.entry t i k)

/-- Stored form of an entry: the default is held as `none`. -/
def TableDef.stored (t : TableDef) (i k : Nat) (b : List Byte) : Option (List Byte) :=
  let b := bytesAt b 0 t.size
  if b = t.default i k then none else some b

/-- Write an entry of the active page. -/
def setActive (t : TableDef) (i k : Nat) (b : List Byte) (s : State) : State :=
  { s with cfg := { s.cfg with active := s.cfg.active.put (tabKey t.id i k) (t.stored i k b) } }

/-- Write an entry of the standby page. -/
def setStandby (t : TableDef) (i k : Nat) (b : List Byte) (s : State) : State :=
  { s with cfg := { s.cfg with standby := s.cfg.standby.put (tabKey t.id i k) (t.stored i k b) } }

/-- Firmware writes an entry of both pages. -/
def setBoth (t : TableDef) (i k : Nat) (b : List Byte) (s : State) : State := setStandby t i k b (setActive t i k b s)

/-- A relation among parameters: every one that takes part in a failed relation offends (R81). -/
def offend (ok : Bool) (reason : Nat) (ps : List (ParamDef × Nat)) : List Offence :=
  if ok then [] else ps.map fun p => ⟨p.1.id, p.2, reason⟩

/-! ### Page switches (R82 to R86) -/

/-- The standby page of an instance becomes active, at a time that the COMPLETE result carries; firmware then copies it
(R82, R83, R85). -/
def switchPage (id inst time : Nat) (s : State) : State :=
  let lo := tabKey id inst 0
  let hi := lo + 2 ^ 20
  let a := tabSlice s.cfg.active lo hi
  let b := tabSlice s.cfg.standby lo hi
  let s := { s with cfg := { s.cfg with active := tabSplice s.cfg.active lo hi b, standby := tabSplice s.cfg.standby lo hi a } }
  let st := s.tabState id inst
  let page := 1 - st.page
  let s := updTabState id inst (fun st => { st with page := page, switching := false, cid := none, copying := true }) s
  finish? st.cid .ok (le 4 id ++ le 2 inst ++ le 2 page ++ le 8 time) s

/-- A unit that reaches its safe point switches a page that waits for it (R87). -/
def switchWaiting (id inst : Nat) (s : State) : State := if (s.tabState id inst).switching then switchPage id inst s.now s else s

/-- Firmware finishes the copy of the new active page into the standby page (R83). -/
def copyStandby (id inst : Nat) (s : State) : State :=
  let lo := tabKey id inst 0
  let hi := lo + 2 ^ 20
  let s := { s with cfg := { s.cfg with standby := tabSplice s.cfg.standby lo hi (tabSlice s.cfg.active lo hi) } }
  updTabState id inst (fun st => { st with copying := false }) s

end Sys2Proof.Machine
end

