-- ==== Sys2Proof/Machine/Commit.lean ====
section
/-!
DEFINITION. Units that take committed values (R70, Table 3-2), and what it is for a unit to take them (R77, R78, R95).
-/
namespace Sys2Proof.Machine

/-- Sectors of a radio (R17). -/
def sectorsOf (r : Nat) : List Nat := (List.range 8).filter fun k => decide (radioOfSector k = r)

/-- Units that take a value of a parameter instance at a safe point of their own; none where it takes effect at commit
(Table 3-2). A radio's channel waits, as unit 0x100 + r, for its channel switch (R243). Log entries 8 (DEDUCED), 10 (DEDUCED). -/
def paramUnits (p : ParamDef) (i : Nat) : List Nat :=
  let own := fun (n : Nat) => if p.n = n then [i] else []
  match p.group with
  | 0x04 => own 20
  | 0x05 => own 16
  | 0x06 => own 128
  | 0x07 => if p.n = 8 then [i] else if p.n = 3 then sectorsOf i else []
  | 0x08 => if p.id = Prm.wlanChannel.id ∨ p.id = Prm.wlanBw.id ∨ p.id = Prm.wlanPunct.id then [0x100 + i]
    else if p.n = 8 then [i] else if p.n = 3 then sectorsOf i else []
  | 0x0A => own 32
  | 0x0B => [0]
  | 0x0C => [0]
  | 0x0D => own 6
  | 0x0E => if p.n = 256 then [i / 16] else own 16
  | 0x0F => own 17408
  | 0x10 => if p.n = 256 then [i / 32] else []
  | 0x11 => own 2
  | 0x12 => own 4
  | 0x14 => [0]
  | _ => []

/-- Parameter and instance of a store key. -/
def keyParam (k : Nat) : Option (ParamDef × Nat) := (Prm.find (k / 2 ^ 16)).map fun p => (p, k % 2 ^ 16)

/-- A commit or an applied image has been taken by every unit: the COMPLETE result (R78, R95).
Log entries 10 (DEDUCED), 20 (DEDUCED). -/
def Commit.result (c : Commit) (now : Nat) : List Byte :=
  match c.image with
  | some (q, groups) => le 4 q ++ le 2 groups
  | none => le 1 c.group ++ le 3 0 ++ le 2 c.total ++ le 2 0 ++ le 8 now

/-- Complete every commit that no unit has still to take. -/
def finishCommits (s : State) : State :=
  let done := s.cfg.commits.filter fun c => c.left.isEmpty
  let s := { s with cfg := { s.cfg with commits := s.cfg.commits.filter fun c => !c.left.isEmpty } }
  done.foldl (fun s c => finish? c.cid .ok (c.result s.now) s) s

/-- CFG.apply_max_us of a group covers an interval that has ended (Table 3-11). Log entry 10 (DEDUCED). -/
def countApply (g start : Nat) (s : State) : State :=
  let us := min ((s.now - start) / 1000) 0xFFFFFFFF
  if (s.com Prm.cfgApplyMaxUs g).toNat < us then s.setPar Prm.cfgApplyMaxUs g (us : Nat) else s

/-- Unit `u` of group `g` takes the committed values: its old values are forgotten, and the keys of the parameters whose
value in force changed are answered (R77 step 6). -/
def unitTakes (g u : Nat) (s : State) : List Nat × State :=
  let was := s.cfg.commits
  let commits := was.map fun c => { c with left := c.left.filter fun x => !(x.1 == g && x.2 == u) }
  let waits := fun (k : Nat) => match keyParam k with
    | some (p, i) => decide (p.group = g) && (paramUnits p i).contains u &&
        !(paramUnits p i).any fun v => commits.any fun c => c.left.contains (g, v)
    | none => false
  let mine := (s.cfg.old.filter fun e => waits e.1).map (·.1)
  let s := { s with cfg := { s.cfg with commits := commits, old := s.cfg.old.filter fun e => !mine.contains e.1 } }
  -- the last unit of the group in a commit has now taken the values
  let ended := was.filter fun c => c.left.contains (g, u) && c.left.all fun x => x.1 != g || x.2 == u
  (mine, ended.foldl (fun s c => countApply g c.start s) s)

/-- A parameter is among those whose value in force changed at an instance. -/
def changedAt (ks : List Nat) (i : Nat) (p : ParamDef) : Bool := ks.contains (parKey p.id i)

/-- Steps 5 and 6 of R77: values become the committed configuration at once, and each unit has still to take them. The
commit is listed with the units that are left; `total` counts them, and a radio's channel switch counts for each of its
sectors. -/
def commitValues (group : Nat) (cid : Option Nat) (image : Option (Nat × Nat)) (vals : List (ParamDef × Nat × Int)) (s : State) :
    State :=
  let s' := vals.foldl (fun s v =>
    let (p, i, x) := v
    let key := parKey p.id i
    let old := if (paramUnits p i).isEmpty then s.cfg.old
      else s.cfg.old.put key (some ((s.cfg.old.get key).getD (s.com p i)))
    ({ s with cfg := { s.cfg with old := old } } : State).setPar p i x) s
  let units := (vals.flatMap fun v => (paramUnits v.1 v.2.1).map fun u => (v.1.group, u)).eraseDups
  let count := ((units.flatMap fun u => if u.1 = 8 ∧ 0x100 ≤ u.2 then (sectorsOf (u.2 - 0x100)).map fun k => (8, k) else [u]).eraseDups).length
  let c : Commit := { group := group, cid := cid, total := max count (if units.isEmpty then 1 else 0), left := units,
                      start := s.now, image := image }
  { s' with cfg := { s'.cfg with commits := s'.cfg.commits ++ [c] } }

end Sys2Proof.Machine
end

