-- ==== Sys2Proof/Machine/LinkCodec.lean ====
section
/-!
DEFINITION. Codings of the lane and the link: lane marker (R105, R106), Gray map and precoding (R102, R103), CRC (R129),
scrambler (R125), control word (Table 5-4), frame layout (R123, R124, R127) and sample blocks (R152 to R154).
-/
namespace Sys2Proof.Machine

/-! ### CRC -/

/-- The bits of a number, most significant first. -/
def msbBits : Nat → Nat → List Bool
  | 0, _ => []
  | n + 1, v => v.testBit n :: msbBits n v

/-- One bit of a CRC of `w` bits, most significant bit first. -/
def crcBit (w poly c : Nat) (b : Bool) : Nat :=
  let top := c.testBit (w - 1)
  let c := c * 2 % 2 ^ w
  if top != b then c ^^^ poly else c

/-- CRC of a bit string, most significant bit first, with no final inversion. -/
def crcMsb (w poly init : Nat) (l : List Bool) : Nat := l.foldl (crcBit w poly) init

/-- CRC-16 of the Irwick link (R129). -/
def crc16 (l : List Bool) : Nat := crcMsb 16 0x1021 0xFFFF l

/-- CRC-8 of the lane marker (Table 4-3). -/
def crc8 (l : List Bool) : Nat := crcMsb 8 0x07 0 l

/-- One step of a reflected CRC-32. -/
def crc32Shift (poly : Nat) : Nat → Nat → Nat
  | 0, c => c
  | n + 1, c => crc32Shift poly n (if c % 2 = 1 then (c / 2) ^^^ poly else c / 2)

/-- Reflected CRC-32 of bytes, all ones at start and inverted at the end. -/
def crc32With (poly : Nat) (l : List Byte) : Nat :=
  (l.foldl (fun c b => crc32Shift poly 8 (c ^^^ b.toNat)) 0xFFFFFFFF) ^^^ 0xFFFFFFFF

/-- CRC-32 of IEEE 802.3, and CRC-32C. -/
def crc32 (l : List Byte) : Nat := crc32With 0xEDB88320 l
def crc32c (l : List Byte) : Nat := crc32With 0x82F63B78 l

/-! ### Lane line code -/

/-- Gray value of a bit pair, first bit in time first (Table 4-2). -/
def grayOf (a b : Bool) : Nat := match a, b with
  | false, false => 0 | false, true => 1 | true, true => 2 | true, false => 3

/-- Bit pair of a Gray value (Table 4-2). -/
def pairOf (g : Nat) : Bool × Bool := match g % 4 with
  | 0 => (false, false) | 1 => (false, true) | 2 => (true, true) | _ => (true, false)

/-- Precoded levels of a Gray sequence, from the previous level (R103). -/
def precode : Nat → List Nat → List Nat
  | _, [] => []
  | p, g :: t => let q := (g + 4 - p % 4) % 4; q :: precode q t

/-- Gray values recovered from precoded levels (R103). -/
def unprecode : Nat → List Nat → List Nat
  | _, [] => []
  | p, q :: t => (q + p) % 4 :: unprecode q t

/-! ### Lane marker -/

/-- The lane marker that a sender builds (Table 4-3). -/
def markerOf (lane echo : Nat) (inv : Bool) (rate : Nat) : Nat :=
  let m := 0x5A3C * 2 ^ 24 + lane % 32 * 2 ^ 19 + echo % 32 * 2 ^ 14 + b2n inv * 2 ^ 13 + rate % 4 * 2 ^ 11
  m + crc8 (msbBits 32 (m / 256))

/-- A marker as the receiver reads it: sense, echo and inv_seen; `none` is a miss (R106). -/
def readMarker (raw : Nat) : Option (Bool × Nat × Bool) :=
  let inverted := decide (raw / 2 ^ 24 % 65536 = 0xA5C3)
  let m := if inverted then 2 ^ 40 - 1 - raw % 2 ^ 40 else raw % 2 ^ 40
  if m / 2 ^ 24 = 0x5A3C ∧ crc8 (msbBits 32 (m / 256)) = m % 256 then some (inverted, bits m 18 14, m.testBit 13)
  else none

/-! ### Scrambler -/

/-- The next bits of the additive scrambler x³¹ + x²⁸ + 1 from a register whose bit 0 is the newest (R125).
Log entry 31 (DESIGN CHOICE). -/
def scramble : Nat → Nat → List Bool
  | 0, _ => []
  | n + 1, r =>
    let b := r.testBit 30 != r.testBit 27
    b :: scramble n ((r * 2 + b2n b) % 2 ^ 31)

/-- The number whose bits, most significant first, are given. -/
def ofMsb (l : List Bool) : Nat := l.foldl (fun a b => a * 2 + b2n b) 0

/-- The bits of a frame after its sync word, with the scrambler removed or added (R125). Log entry 31 (DESIGN CHOICE). -/
def scrambled (n v : Nat) : Nat := v ^^^ ofMsb (scramble n 0x7FFFFFFF)

/-! ### Control word -/

/-- The fields of the control word (Table 5-4). -/
structure CtlWord where
  verMax : Nat := 2
  verActive : Nat := 1
  fnum : Nat := 0
  offset : Nat := 0
  secMark : Bool := false
  rdi : Bool := false
  spare : Bool := false
  fmt : Nat := 0
  srate : Nat := 0
  slotAlarm : Nat := 0
  layout : Bool := false
  ccValid : Bool := false
  ccStart : Bool := false
  ccLen : Nat := 0
  ccData : Nat := 0
  mf : Nat := 0
deriving DecidableEq, Repr, Inhabited

/-- The 192 bits of a control word, with its CRC (R129). -/
def CtlWord.encode (w : CtlWord) : Nat :=
  let put := fun (lo n v : Nat) => v % 2 ^ n * 2 ^ lo
  let v := put 190 2 w.verMax + put 188 2 w.verActive + put 178 10 w.fnum + put 169 9 w.offset + put 168 1 (b2n w.secMark) +
    put 167 1 (b2n w.rdi) + put 166 1 (b2n w.spare) + put 164 2 w.fmt + put 162 2 w.srate + put 153 9 w.slotAlarm +
    put 152 1 (b2n w.layout) + put 143 1 (b2n w.ccValid) + put 142 1 (b2n w.ccStart) + put 139 3 w.ccLen +
    put 72 64 w.ccData + put 48 24 w.mf
  v + crc16 (msbBits 176 (v / 65536))

/-- The fields of 192 received bits. -/
def CtlWord.decode (v : Nat) : CtlWord :=
  { verMax := bits v 191 190, verActive := bits v 189 188, fnum := bits v 187 178, offset := bits v 177 169,
    secMark := v.testBit 168, rdi := v.testBit 167, spare := v.testBit 166, fmt := bits v 165 164, srate := bits v 163 162,
    slotAlarm := bits v 161 153, layout := v.testBit 152, ccValid := v.testBit 143, ccStart := v.testBit 142,
    ccLen := bits v 141 139, ccData := bits v 135 72, mf := bits v 71 48 }

/-- The CRC of 192 received bits is correct. -/
def ctlCrcOk (v : Nat) : Bool := decide (crc16 (msbBits 176 (v / 65536)) = v % 65536)

/-! ### Frame layout -/

/-- Sample rate in Msps of a code (Table 5-3). -/
def srateMsps : Nat → Nat
  | 0 => 50 | 1 => 200 | 2 => 400 | _ => 512

/-- Bits of a block (R124). -/
def blockBits (fmt : Nat) : Nat := if fmt = 0 then 324 else 388

/-- Blocks per slot in frame f at R Msps (R124). -/
def blocksIn (R f : Nat) : Nat := (f + 1) * R / 16 - f * R / 16

/-- Most blocks per slot that any frame carries at R Msps. -/
def blocksMax (R : Nat) : Nat := (R + 15) / 16

/-- Slots of a frame. -/
def slotsOf (spare : Bool) : Nat := if spare then 9 else 8

/-- Length of the longest frame of a layout in bits (Table 5-3). -/
def frameBits (fmt : Nat) (spare : Bool) (srate : Nat) : Nat :=
  256 + slotsOf spare * blocksMax (srateMsps srate) * blockBits fmt

/-- Frame budget of a lane rate code (Table 5-2). -/
def frameBudget : Nat → Nat
  | 0 => 25000 | 1 => 50000 | _ => 100000

/-! ### Sample blocks -/

/-- `floor((v + 2^(e-1)) / 2^e)` (R153). -/
def bfpRound (v : Int) (e : Nat) : Int := if e = 0 then v else (v + 2 ^ (e - 1)) / (2 ^ e : Nat)

/-- A component fits W bits at an exponent. -/
def bfpFits (W e : Nat) (v : Int) : Bool :=
  let m := bfpRound v e
  decide (-(2 ^ (W - 1) : Int) ≤ m) && decide (m ≤ 2 ^ (W - 1) - 1)

/-- Exponent, mantissas and count of saturated components of a block of components (R153). -/
def bfpEncode (W : Nat) (l : List Int) : Nat × List Int × Nat :=
  let emax := if W = 10 then 14 else 12
  let e := (lowest (emax + 1) fun e => l.all (bfpFits W e)).getD emax
  (e, l.map fun v => sat (bfpRound v e) W, (l.filter fun v => !bfpFits W e v).length)

/-- The 32 components of a received block, and whether its exponent breaks the format; `none` is absent (R154). -/
def bfpDecode (fmt v : Nat) : Option (List (Int × Int)) × Bool :=
  let W := if fmt = 0 then 10 else 12
  let e := bits v (32 * W + 3) (32 * W)
  if e = 15 then (none, false)
  else if fmt ≠ 0 ∧ 12 < e then (none, true)
  else (some ((List.range 16).map fun k =>
    let i := bits v (32 * W - 1 - 2 * W * k) (32 * W - W - 2 * W * k)
    let q := bits v (32 * W - W - 1 - 2 * W * k) (32 * W - 2 * W - 2 * W * k)
    (signed W i * 2 ^ e, signed W q * 2 ^ e)), false)

end Sys2Proof.Machine
end

