-- ==== Sys2Proof/Machine/Ach.lean ====
section
/-!
DEFINITION. Control-channel sending (R137, R138), antenna channel states (R163 to R165), gain requests (R158, R159) and
the recalibration flag (R164).
-/
namespace Sys2Proof.Machine

/-! ### Lenses -/

def State.lane (s : State) (n : Nat) : Lane := s.radio.lane.get n
def updLane (n : Nat) (f : Lane → Lane) (s : State) : State :=
  { s with radio := { s.radio with lane := s.radio.lane.upd n f } }
def State.link (s : State) (l : Nat) : Link := s.radio.link.get l
def updLink (l : Nat) (f : Link → Link) (s : State) : State :=
  { s with radio := { s.radio with link := s.radio.link.upd l f } }
def State.ach (s : State) (c : Nat) : Ach := s.radio.ach.get c
def updAch (c : Nat) (f : Ach → Ach) (s : State) : State :=
  { s with radio := { s.radio with ach := s.radio.ach.upd c f } }
def State.cal (s : State) (r : Nat) : Cal := s.radio.cal.get r
def updCal (r : Nat) (f : Cal → Cal) (s : State) : State :=
  { s with radio := { s.radio with cal := s.radio.cal.upd r f } }
def State.feed (s : State) (h : Nat) : Feed := s.radio.feed.get h
def updFeed (h : Nat) (f : Feed → Feed) (s : State) : State :=
  { s with radio := { s.radio with feed := s.radio.feed.upd h f } }

/-! ### Slot interchange -/

/-- LINK.cmap (R143, Table 5-9). -/
def Tbl.linkCmap : TableDef where
  id := 0x05100000
  insts := 1
  entries := fun _ => 128
  size := 4
  dflt := fun _ c => le 4 (c / 8 * 4096 + c % 8 * 256 + 1)

/-- ACH.cal (R171, Table 6-7). -/
def Tbl.achCal : TableDef where
  id := 0x06100000
  insts := 128
  entries := fun c => if c < 16 then 31 else if c < 64 then 123 else 245
  size := 4
  dflt := fun _ _ => le 4 0x40000000

/-- Link and slot that an entry names, `none` where it is not enabled. -/
def cmapTarget (e : Nat) : Option (Nat × Nat) := if e.testBit 0 then some (bits e 15 12, bits e 11 8) else none

/-- Link and slot of a channel in the active page (R143). -/
def State.mapped (s : State) (c : Nat) : Option (Nat × Nat) := cmapTarget (s.entryNat Tbl.linkCmap 0 c)

/-- Receive source of a channel in force (R145). -/
def State.source (s : State) (c : Nat) : Option (Nat × Nat) := (s.ach c).source.getD (s.mapped c)

/-- Channels that a link carries on receive. -/
def State.carried (s : State) (l : Nat) : List Nat :=
  pick 128 fun c => match s.source c with | some (m, _) => decide (m = l) | none => false

/-- A layout in effect includes a slot. -/
def Layout.has (y : Layout) (slot : Nat) : Bool := decide (slot < slotsOf y.spare)

/-- The channel has a present source (R163). -/
def State.presentSource (s : State) (c : Nat) : Bool :=
  match s.source c with
  | none => false
  | some (l, slot) =>
    let k := s.link l
    let f := (s.feed l).st
    (k.st == .sync) && (match k.layout with | some y => y.has slot | none => false) && !k.slotAlarm.testBit slot &&
      (f == .on || f == .opened) && k.capsOk

/-! ### Control channel -/

/-- Bytes of a message, with its CRC (Table 5-7). -/
def CcMsg.bytes (m : CcMsg) : List Byte :=
  let n := m.payload.length
  let b := [BitVec.ofNat 8 m.typ, BitVec.ofNat 8 m.seq, BitVec.ofNat 8 (n / 256), BitVec.ofNat 8 n] ++ m.payload
  let c := crc16 (b.flatMap fun x => msbBits 8 x.toNat)
  b ++ [BitVec.ofNat 8 (c / 256), BitVec.ofNat 8 c]

/-- Most significant byte first (R137). -/
def be (k v : Nat) : List Byte := (le k v).reverse

/-- Hand a message to the framer. -/
def emit (l : Nat) (m : CcMsg) : State → State :=
  updLink l fun k => { k with sent := k.sent ++ [m], ccBuf := k.ccBuf ++ [(true, m.bytes)] }

/-- A new sequence number of the device on a link. -/
def stamp (l typ : Nat) (payload : List Byte) (s : State) : CcMsg × State :=
  ({ typ := typ, seq := (s.link l).seqNext, payload := payload }, updLink l (fun k => { k with seqNext := (k.seqNext + 1) % 256 }) s)

/-- Send a message that is acknowledged, or answered; at most one is outstanding (R138). -/
def ccSend (l typ : Nat) (payload : List Byte) (s : State) : State :=
  let (m, s) := stamp l typ payload s
  match (s.link l).out with
  | none => emit l m (updLink l (fun k => { k with out := some (m, 0) }) s)
  | some _ => updLink l (fun k => { k with waiting := k.waiting ++ [m] }) s

/-- The outstanding message has ended: the next one that waits is sent. -/
def ccNext (l : Nat) (s : State) : State :=
  match (s.link l).waiting with
  | [] => updLink l (fun k => { k with out := none }) s
  | m :: t => emit l m (updLink l (fun k => { k with out := some (m, 0), waiting := t }) s)

/-- Send an ACK (Table 5-8, type 0x03). -/
def ccAck (l typ seq status : Nat) (s : State) : State :=
  let (m, s) := stamp l 0x03 [BitVec.ofNat 8 typ, BitVec.ofNat 8 seq, BitVec.ofNat 8 status, 0] s
  emit l m s

/-- A message to be acknowledged arrives on a link in SYNC: it is acknowledged, and acted on when it is no duplicate
(R138). -/
def ccReceive (l typ seq status : Nat) (act : State → State) (s : State) : State :=
  if (s.link l).st != .sync then s
  else
    let dup := (s.link l).lastRxSeq == some seq
    let s := ccAck l typ seq status (updLink l (fun k => { k with lastRxSeq := some seq }) s)
    if dup then s else act s

/-- Firmware requests a calibration window (R166). -/
def Cal.request (k : Cal) (now : Nat) : Cal :=
  if k.requested || k.window then k else { k with requested := true, requestedAt := now }

/-! ### Channel states -/

/-- Code of a channel state (Table 6-5). -/
def AchSt.code : AchSt → Nat
  | .off => 0 | .absent => 1 | .calibrating => 2 | .active => 3 | .fault => 4

/-- Change a channel's state with its event (Table 6-11); a channel that enters CALIBRATING asks for a rejoin pass
(R170). -/
def setAch (c : Nat) (st : AchSt) (s : State) : State :=
  let old := (s.ach c).st
  if old = st then s
  else
    let s := updAch c (fun a => { a with st := st, presentRun := false, absentRun := false }) s
    let r := radioOfAch c
    let s := if st = .calibrating ∧ s.parN Prm.achCalMode r = 0 then
      updCal r (fun k => { k with rejoinDue := true }.request s.now) s else s
    raise Ev.achState c (detail [(0, 1, st.code), (1, 1, old.code)]) s

/-- A CALIBRATING channel whose source is no longer present is ABSENT (Table 6-5). Log entry 34 (DEDUCED). -/
def recheckAch (c : Nat) (s : State) : State :=
  if (s.ach c).st = .calibrating ∧ !s.presentSource c then setAch c .absent s else s

/-- Set the recalibration flag; an ACTIVE channel moves to CALIBRATING at once (R164). Log entry 34 (DEDUCED). -/
def flagAch (c : Nat) (s : State) : State :=
  let s := updAch c (fun a => { a with calibrated := false }) s
  recheckAch c (if (s.ach c).st = .active then setAch c .calibrating s else s)

/-- The feed of a link leaves ON and OPEN: its channels are ABSENT with the flag set (R175). -/
def feedLost (h : Nat) (s : State) : State :=
  (s.carried h).foldl (fun s c =>
    let s := updAch c (fun a => { a with calibrated := false }) s
    match (s.ach c).st with
    | .active | .calibrating => setAch c .absent s
    | _ => s) s

/-- A whole multiframe of present blocks ends on an ABSENT channel with a present source (Table 6-5). -/
def sourcePresent (c : Nat) (s : State) : State :=
  if (s.ach c).st = .absent ∧ s.presentSource c then
    setAch c (if (s.ach c).calibrated then .active else .calibrating) s
  else s

/-- ABSENT blocks persist for absent_persist_us on an ACTIVE channel. -/
def execAchAbsentTimeout (c : Nat) (s : State) : Host.Outcome State Fault Refusal :=
  .next (if (s.ach c).st = .active ∧ (s.ach c).absentRun then setAch c .absent s else s)

/-- A front-end fault of a RECAST cause recasts a channel; the third within 60 s holds it in FAULT. A channel that is OFF
recasts and stays OFF, and a fault that finds the channel recasting is absorbed (R165, R503, Table 6-5). -/
def frontendFault (c cause : Nat) (s : State) : State :=
  if 128 ≤ c then s
  else if s.recastHolds ⟨0, 6, c⟩ then admitFault ⟨0, 6, c⟩ cause s
  else
    let off := decide ((s.ach c).st = .off)
    let recent := ((s.ach c).recasts.filter fun t => decide (s.now ≤ t + 60000000000)) ++ [s.now]
    let third := decide (3 ≤ recent.length)
    let s := updAch c (fun a => { a with recasts := recent, held := third && !off, calibrated := false })
      (if off then s else setAch c .fault s)
    let s := bump Prm.achRecastCount c s
    let s := if third then raise Ev.achFault c (detail [(0, 1, if cause = Cause.tracking then 2 else 1)]) s else s
    admitFault ⟨0, 6, c⟩ cause s

/-- ACH_FRONTEND_FAULT: an uncorrectable ECC error (1) or a tracking loop out of range (2) (R165). -/
def execAchFrontendFault (c cause : Nat) (s : State) : Host.Outcome State Fault Refusal :=
  .next (frontendFault c (if cause = 1 then Cause.ecc else Cause.tracking) s)

/-- The block recast of a channel is complete (Table 6-5). -/
def achRecastDone (c : Nat) (s : State) : State :=
  if (s.ach c).st = .fault ∧ !(s.ach c).held then
    setAch c .absent (updAch c (fun a => { a with calibrated := false, gain := none, gainAbsent := false }) s)
  else s

/-! ### Gain, attenuation and tuning (R158, R159) -/

/-- Transceiver of a channel: the slot it is mapped to. -/
def State.transceiver (s : State) (c : Nat) : Option (Nat × Nat) := s.mapped c

/-- The multiframe two ahead of the one that runs. Log entry 37 (DEDUCED). -/
def State.effective (s : State) : Nat := (s.radio.tx.mf + 2) % 2 ^ 24

/-- Clamp to the head's declared gain range (R159). -/
def HeadCaps.clampGain (k : HeadCaps) (g : Int) : Int := max (k.minGain * 16) (min (k.maxGain * 16) g)

/-- Send RX_GAIN_SET for a channel, within the head's range (R158, R159). -/
def sendGain (c : Nat) (g : Int) (s : State) : State :=
  match s.transceiver c with
  | none => s
  | some (l, t) => match (s.link l).caps with
    | none => s
    | some k =>
      let g := k.clampGain g
      let eff := s.effective
      ccSend l 0x10 (be 1 t ++ be 2 (twos 16 g) ++ be 3 eff) (updAch c (fun a => { a with gain := some { value := g, eff := eff } }) s)

/-- Send TX_ATTEN_SET for a channel, within the head's range (R158, R159). -/
def sendAtten (c : Nat) (v : Int) (s : State) : State :=
  match s.transceiver c with
  | none => s
  | some (l, t) => match (s.link l).caps with
    | none => s
    | some k =>
      let v := min v (k.maxAtten * 16 : Nat)
      let eff := s.effective
      ccSend l 0x12 (be 1 t ++ be 2 (twos 16 v) ++ be 3 eff) (updAch c (fun a => { a with atten := some { value := v, eff := eff } }) s)

/-- Send RF_TUNE to the head of a link; every channel of the head is flagged (R158). Log entry 37 (DEDUCED). -/
def sendTune (l khz : Nat) (s : State) : State :=
  let eff := s.effective
  let s := ccSend l 0x13 (be 4 khz ++ be 3 eff ++ [0]) (updLink l (fun k => { k with tune := some { value := khz, eff := eff } }) s)
  (s.carried l).foldl (fun s c => flagAch c s) s

/-- One decision of receive gain control on a channel whose 99.9th percentile lies `level` (1/16 dB) below full scale:
automatic mode steps at most 6 dB and at most once in 10 ms, and never in a calibration window; fixed mode sends the
committed gain (R159). Log entry 38 (DESIGN CHOICE). -/
def execGainControlTick (c : Nat) (level : Nat) (s : State) : Host.Outcome State Fault Refusal :=
  .next (
    let a := s.ach c
    if 128 ≤ c ∨ a.st = .off ∨ a.gain.isSome then s
    else if s.parN Prm.achRxGainMode c = 0 then
      match (s.transceiver c).bind fun t => (s.link t.1).caps with
      | none => s
      | some k => if k.clampGain (s.par Prm.achRxGain c) = a.gainNow then s else sendGain c (s.par Prm.achRxGain c) s
    else if (s.cal (radioOfAch c)).window ∨ s.now < a.gainAt then s
    else
      let want := (level : Int) - s.par Prm.achRxBackoffDb c * 16
      let step := max (-96) (min 96 want)
      if step = 0 then s
      else sendGain c (a.gainNow + step) (updAch c (fun a => { a with gainAt := s.now + 10000000 }) s))

/-- One multiframe before the effective count, the acknowledgement of a request of message type 0x10, 0x12 or 0x13 is
missing: the channel, or every channel of the head, is delivered absent from the effective multiframe (R158). -/
def execGainAckDeadline (c typ : Nat) (s : State) : Host.Outcome State Fault Refusal :=
  .next (
    let late := fun (q : Option Retune) => match q with | some q => !q.acked | none => false
    let absent := fun (c : Nat) (s : State) =>
      raise Ev.achGainFault c (detail [(0, 1, typ)]) (updAch c (fun a => { a with gainAbsent := true }) s)
    if typ = 0x10 then
      if late (s.ach c).gain then absent c (updAch c (fun a => { a with gain := none }) s) else s
    else if typ = 0x12 then
      if late (s.ach c).atten then absent c (updAch c (fun a => { a with atten := none }) s) else s
    else if typ = 0x13 then
      match s.transceiver c with
      | none => s
      | some (l, _) =>
        if late (s.link l).tune then
          (s.carried l).foldl (fun s c => absent c s) (updLink l (fun k => { k with tune := none }) s)
        else s
    else s)

/-- The effective multiframe begins: an acknowledged request takes effect (R158). -/
def execGainEffective (c typ : Nat) (s : State) : Host.Outcome State Fault Refusal :=
  .next (
    if typ = 0x10 then
      match (s.ach c).gain with
      | some q => if q.acked then updAch c (fun a => { a with gainNow := q.value, gain := none }) s else s
      | none => s
    else if typ = 0x12 then
      match (s.ach c).atten with
      | some q => if q.acked then updAch c (fun a => { a with attenNow := q.value, atten := none }) s else s
      | none => s
    else if typ = 0x13 then
      match s.transceiver c with
      | some (l, _) => match (s.link l).tune with
        | some q => if q.acked then updLink l (fun k => { k with tune := none }) s else s
        | none => s
      | none => s
    else s)

/-- RX_GAIN_APPLIED: the measured gain applies from the next multiframe boundary, and a channel held absent by R158
returns (R158). -/
def execRxGainApplied (l seq t : Nat) (gain : Int) (s : State) : Host.Outcome State Fault Refusal :=
  .next (ccReceive l 0x11 seq 0 (fun s =>
    (pick 128 fun c => s.mapped c == some (l, t)).foldl
      (fun s c => updAch c (fun a => { a with gainNext := some gain, gainAbsent := false }) s) s) s)

/-! ### Calibration (R166 to R171) -/

/-- TELEMETRY: transceiver temperatures and supply of a head; a change beyond cal_temp_delta since a transceiver's last
calibration makes a full pass due (R156, R170). -/
def execTelemetry (l : Nat) (temps : List Int) (mv : Nat) (s : State) : Host.Outcome State Fault Refusal :=
  .next (
    if (s.link l).st != .sync then s
    else
      let s := updLink l (fun k => { k with temps := temps, supplyMv := mv }) s
      (s.carried l).foldl (fun s c =>
        let r := radioOfAch c
        let d := s.par Prm.achCalTempDelta r
        match s.source c, (s.ach c).calTemp with
        | some (_, slot), some t0 =>
          if d ≠ 0 ∧ s.parN Prm.achCalMode r = 0 ∧ d < ((temps.getD slot t0 - t0) * 10).natAbs then
            updCal r (fun k => { k with fullDue := true }.request s.now) s
          else s
        | _, _ => s) s)

/-- cal_period_s elapses: a full pass is due (R170). -/
def execCalPeriodExpiry (r : Nat) (s : State) : Host.Outcome State Fault Refusal :=
  .next (if r < 3 ∧ s.parN Prm.achCalPeriodS r ≠ 0 ∧ s.parN Prm.achCalMode r = 0 then
    updCal r (fun k => { k with fullDue := true }.request s.now) s else s)

/-- Channels of a radio in a state. -/
def State.achsIn (s : State) (r : Nat) (st : AchSt) : List Nat :=
  pick 128 fun c => decide (radioOfAch c = r) && (s.ach c).st == st

/-- Length of a calibration turn in ns (R166). -/
def State.turnNs (s : State) (r : Nat) : Nat := 28800 + s.parN Prm.achTrLeadNs r + 2000

/-- Most turns of a window, and of one that carries the quiet tail (R166). -/
def State.windowTurns (s : State) (r : Nat) (tail : Bool) : Nat :=
  (s.parN Prm.achCalWindowUs r * 1000 - if tail then 100000 else 0) / s.turnNs r

/-- A granted window opens: a pass that waits begins, with a full pass ahead of a rejoin pass, whose anchors are ACTIVE
channels on other links, the best first as measured (R166, R167, R170). -/
def openWindow (r : Nat) (best : List Nat) (s : State) : State :=
  let k := { s.cal r with window := true, requested := false, urgent := false, inWindow := 0, openedAt := s.now }
  let join := s.achsIn r .calibrating
  let act := s.achsIn r .active
  let k := match k.pass with
    | some _ => k
    | none =>
      if k.fullDue then
        { k with pass := some true, fullDue := false, rejoinDue := false, done := [], dropped := [],
                 turns := pick 128 fun c => join.contains c || act.contains c }
      else
        let links := join.filterMap fun c => (s.source c).map (·.1)
        let anchors := (best.filter fun c => act.contains c && (match s.source c with
          | some (l, _) => !links.contains l | none => false)).take (s.parN Prm.achCalAnchors r)
        { k with pass := some false, rejoinDue := false, done := [], dropped := [], turns := join ++ anchors }
  updCal r (fun _ => k) s

/-- One turn of a window: the channel transmits its two symbols; a full window closes and the next is requested
(R166). -/
def execCalTurn (r : Nat) (s : State) : Host.Outcome State Fault Refusal :=
  .next (
    let k := s.cal r
    if !k.window then s
    else match k.turns with
      | [] => s
      | c :: rest =>
        let k := { k with turn := some c, turns := rest, done := k.done ++ [c], inWindow := k.inWindow + 1 }
        let lastFits := decide (k.inWindow ≤ s.windowTurns r true)
        let full := if rest.isEmpty then !lastFits else decide (s.windowTurns r false ≤ k.inWindow)
        updCal r (fun _ => if full then { k with window := false, turn := none }.request s.now else k) s)

/-- Write the coefficients of a channel into both pages (R171). -/
def writeCoef (c : Nat) : Nat → List Nat → State → State
  | _, [], s => s
  | g, v :: t, s => writeCoef c (g + 1) t (if g < Tbl.achCal.entries c then setBoth Tbl.achCal c g (le 4 v) s else s)

/-- The quiet tail ends: the coefficients of every channel that calibrated take effect together (R168, R169). -/
def execCalPassEnd (r : Nat) (results : List CalResult) (s : State) : Host.Outcome State Fault Refusal :=
  .next (
    let k := s.cal r
    if !k.window ∨ !k.turns.isEmpty then s
    else match k.pass with
      | none => s
      | some full =>
        let took := k.done.filter fun c => (s.ach c).st == .calibrating || full
        let res := took.map fun c =>
          let q := (results.find? fun x => x.chan == c).getD { chan := c, pairs := 0, coef := [] }
          if k.dropped.any fun l => (s.source c).any fun x => x.1 == l then { q with pairs := 0 } else q
        let good := res.filter fun q => decide (s.parN Prm.achCalMinPairs r ≤ q.pairs)
        let bad := res.filter fun q => !decide (s.parN Prm.achCalMinPairs r ≤ q.pairs)
        let s := good.foldl (fun s q =>
          let (x, s) := drawBelow (2 ^ 64) s
          let t := match s.source q.chan with
            | some (l, slot) => (s.link l).temps[slot]?
            | none => none
          let s := updAch q.chan (fun a => { a with calibrated := true, calAt := some s.now, calTemp := t, pre := x })
            (writeCoef q.chan 0 q.coef s)
          if (s.ach q.chan).st = .calibrating then setAch q.chan .active s else s) s
        let s := bad.foldl (fun s q =>
          let s := bump Prm.achCalFail q.chan (raise Ev.achCalFail q.chan (detail [(0, 1, min q.pairs 255)]) s)
          if (s.ach q.chan).st = .calibrating then updCal r (fun k => { k with rejoinDue := true }) s else s) s
        let s := updCal r (fun k =>
          let k := { k with pass := none, window := false, turn := none, done := [], dropped := [], inWindow := 0 }
          if k.fullDue || k.rejoinDue then k.request s.now else k) s
        raise Ev.achCalDone r (detail [(0, 1, if full then 0 else 1), (1, 1, good.length), (2, 1, bad.length)]) s)

/-- No window has been granted within cal_defer_ms (R245). -/
def execCalDeferTimeout (r : Nat) (s : State) : Host.Outcome State Fault Refusal :=
  .next (if r < 3 ∧ (s.cal r).requested ∧ !(s.cal r).urgent then
    raise Ev.wlanCalDeferred r (detail [(0, 4, (s.now - (s.cal r).requestedAt) / 1000)]) (updCal r (fun k => { k with urgent := true }) s) else s)

/-! ### Commits -/

/-- A channel takes committed values (R108 pattern of Table 6-5; R158, R161). -/
def applyAch (c : Nat) (changed : ParamDef → Bool) (s : State) : State :=
  let on := decide (s.par Prm.achEnable c = 1)
  let s := if on then
      if (s.ach c).st = .off then setAch c .absent (updAch c (fun a => { a with calibrated := false }) s) else s
    else setAch c .off (updAch c (fun a => { a with held := false, gain := none, atten := none, gainAbsent := false }) s)
  let s := if changed Prm.achTxAtten then sendAtten c (s.par Prm.achTxAtten c) s else s
  if changed Prm.achCalMode then flagAch c s else s

/-- ACH.cal of a channel has switched in host mode: a CALIBRATING channel is ACTIVE (R170). -/
def switchedCal (c : Nat) (s : State) : State :=
  if s.parN Prm.achCalMode (radioOfAch c) = 1 ∧ (s.ach c).st = .calibrating then
    setAch c .active (updAch c (fun a => { a with calibrated := true, calAt := some s.now }) s)
  else s

end Sys2Proof.Machine
end

