-- ==== Sys2Proof/Machine/Feeds.lean ====
section
/-!
DEFINITION. Feed supervision (R172 to R176, Table 6-8).
-/
namespace Sys2Proof.Machine

/-- Code of a feed state (Table 6-8). -/
def FeedSt.code : FeedSt → Nat
  | .off => 0 | .check => 1 | .inrush => 2 | .on => 3 | .opened => 4 | .shortWait => 5 | .lockout => 6 | .reversed => 7

/-- FEED_EN is high in the state (Table 6-8). -/
def FeedSt.enabled : FeedSt → Bool
  | .inrush | .on | .opened => true
  | _ => false

/-- The states whose entry is a wake source (R515). -/
def FeedSt.wakes : FeedSt → Bool
  | .shortWait | .lockout | .reversed => true
  | _ => false

/-- Change a feed's state with its event (Table 6-11); a feed that leaves ON and OPEN takes its channels with it
(R175), and one that enters SHORT_WAIT, LOCKOUT or REVERSED is a wake source (R515). Log entry 32 (DESIGN CHOICE). -/
def setFeed (h : Nat) (st : FeedSt) (s : State) : State :=
  let old := s.feed h
  if old.st = st then s
  else
    let s := updFeed h (fun f => { f with st := st, n := if st = .off then 0 else f.n }) s
    let f := s.feed h
    let s := match st with
      | .shortWait => raise Ev.achFeedShort h (detail [(0, 1, f.n), (4, 4, f.currentMa)]) s
      | .lockout => raise Ev.achFeedLockout h (detail [(0, 1, f.n + 1)]) s
      | .opened => raise Ev.achFeedOpen h (detail [(4, 4, f.currentMa)]) s
      | .reversed => raise Ev.achFeedReversed h (detail [(4, 4, twos 32 f.voltageMv)]) s
      | _ => raise Ev.achFeedState h (detail [(0, 1, st.code)]) s
    let s := if (old.st = .on ∨ old.st = .opened) ∧ st ≠ .on ∧ st ≠ .opened then feedLost h s else s
    if st.wakes then wakeSource 2 s else s

/-- BOOT_STATUS.stage has reached 0x4 (R172). -/
def State.pastStage4 (s : State) : Bool := s.boot.stage == 4 || s.boot.stage == 5 || s.boot.stage == 14

/-- The feed is to be on (R172, R509). -/
def State.feedWanted (s : State) (h : Nat) : Bool :=
  s.pastStage4 && decide (s.par Prm.achFeedEnable h = 1) && (s.boot.source == 0 || s.radio.feedsReleased) &&
    (!bit s.power.down 3 || decide (s.par Prm.pwrFeedsInSleep 0 = 1))

/-- A feed follows its committed enable. -/
def applyFeed (h : Nat) (s : State) : State :=
  if s.feedWanted h then if (s.feed h).st = .off then setFeed h .check s else s
  else setFeed h .off s

/-- Every feed follows its committed enable. -/
def applyFeeds (s : State) : State := (List.range 16).foldl (fun s h => applyFeed h s) s

/-- Limit in force (R173). -/
def State.feedLimit (s : State) (h : Nat) : Nat :=
  if (s.feed h).st = .inrush then s.parN Prm.achFeedInrushMa h else s.parN Prm.achFeedIlimitMa h

/-- A short (R173, R174). -/
def execFeedShort (h ma : Nat) (s : State) : Host.Outcome State Fault Refusal :=
  .next (
    if (s.feed h).st.enabled ∧ s.feedLimit h < ma then
      let s := bump Prm.achFeedTrips h (updFeed h (fun f => { f with currentMa := ma }) s)
      if (s.feed h).n = s.parN Prm.achFeedRetryMax h then setFeed h .lockout s
      else setFeed h .shortWait (updFeed h (fun f => { f with n := f.n + 1 }) s)
    else s)

/-- Backoff of the feed in ms (R174). -/
def State.feedBackoff (s : State) (h : Nat) : Nat := s.parN Prm.achFeedRetryMs h * 2 ^ ((s.feed h).n - 1)

/-- A reversed pin voltage, mV (R173). -/
def execFeedReversed (h : Nat) (mv : Int) (s : State) : Host.Outcome State Fault Refusal :=
  .next (
    if mv < -100 ∧ ((s.feed h).st = .check ∨ (s.feed h).st.enabled) then
      let old := (s.feed h).voltageMv
      let s := setFeed h .reversed (updFeed h (fun f => { f with voltageMv := mv }) s)
      updFeed h (fun f => { f with voltageMv := old }) s
    else s)

/-- The ADC samples a feed: pin voltages in mV, and the mean current of the last 10 ms in mA (R172, Table 6-8). -/
def execFeedAdcSample (h isns : Nat) (vsns : Int) (mean : Nat) (s : State) : Host.Outcome State Fault Refusal :=
  .next (
    if 16 ≤ h then s
    else
      let s := updFeed h (fun f => { f with
        currentMa := min 65535 (isns * s.parN Prm.achFeedIsnsGain h / 1000),
        voltageMv := vsns * s.par Prm.achFeedVsnsRatio h }) s
      let imin := s.parN Prm.achFeedIminMa h
      if (s.feed h).st = .on ∧ mean < imin then setFeed h .opened s
      else if (s.feed h).st = .opened ∧ imin ≤ mean then setFeed h .on s
      else s)

/-- 1 ms in CHECK without a reversed reading (Table 6-8). -/
def execFeedCheckEnd (h : Nat) (s : State) : Host.Outcome State Fault Refusal :=
  .next (if (s.feed h).st = .check then setFeed h .inrush s else s)

/-- feed_inrush_ms elapses at a current (Table 6-8). -/
def execFeedInrushEnd (h ma : Nat) (s : State) : Host.Outcome State Fault Refusal :=
  .next (if (s.feed h).st = .inrush then
    setFeed h (if s.parN Prm.achFeedIminMa h ≤ ma then .on else .opened) (updFeed h (fun f => { f with currentMa := ma }) s)
    else s)

/-- The backoff elapses (R174). -/
def execFeedBackoffEnd (h : Nat) (s : State) : Host.Outcome State Fault Refusal :=
  .next (if (s.feed h).st = .shortWait then setFeed h .check s else s)

/-- FEED_VSNS has stayed at or above −50 mV for 1 s (Table 6-8). -/
def execFeedReversedClear (h : Nat) (s : State) : Host.Outcome State Fault Refusal :=
  .next (if (s.feed h).st = .reversed then setFeed h .check s else s)

/-- 60 s in ON without a break (R174). -/
def execFeedRetryReset (h : Nat) (s : State) : Host.Outcome State Fault Refusal :=
  .next (if (s.feed h).st = .on then updFeed h (fun f => { f with n := 0 }) s else s)

/-- Offences of the feed items of the ACH group (R176). -/
def feedOffences (s : State) : List Offence :=
  (List.range 16).flatMap fun h =>
    let lim := s.com Prm.achFeedIlimitMa h
    let inr := s.com Prm.achFeedInrushMa h
    let mn := s.com Prm.achFeedIminMa h
    let gain := s.com Prm.achFeedIsnsGain h
    offend (decide (lim ≤ inr)) 6 [(Prm.achFeedInrushMa, h), (Prm.achFeedIlimitMa, h)] ++
    offend (decide (mn = 0) || decide (mn < lim)) 6 [(Prm.achFeedIminMa, h), (Prm.achFeedIlimitMa, h)] ++
    offend (decide (inr * 10 ≤ gain * 12)) 6 [(Prm.achFeedInrushMa, h), (Prm.achFeedIsnsGain, h)]

end Sys2Proof.Machine
end

