-- ==== Sys2Proof/Machine/Link.lean ====
section
/-!
DEFINITION. The Irwick link: frame synchronisation (R130, R131), defects and per-second counters (R132 to R136), control
channel (R137, R138), version selection (R139 to R142) and standby switching (R146).
-/
namespace Sys2Proof.Machine

/-- Lane of a link is in UP. -/
def State.laneUp (s : State) (l : Nat) : Bool := (s.lane l).st == .up

/-- The link layer receives the lane's stream: the lane is UP with no payload pattern on, and the link is in use
(R109, R116, R147). -/
def State.linkFed (s : State) (l : Nat) : Bool :=
  let payload := fun (v : Nat) => v.testBit 8 && decide (v % 256 ≠ 0)
  s.laneUp l && decide (s.par Prm.linkEnable l = 1) && !payload (s.parN Prm.laneTxPattern l) &&
    !payload (s.parN Prm.laneRxChecker l)

/-! ### Leaving and entering SYNC -/

/-- A link leaves PRESYNC or SYNC: its channels are flagged, and a pass that runs discards its pairs (R130, R164,
R168). Log entry 34 (DEDUCED). -/
def toHunt (l : Nat) (s : State) : State :=
  let was := (s.link l).st
  let s := updLink l (fun k => { k with
      st := .hunt, hits := 0, syncMiss := 0, crcFail := 0, mismatch := 0, rdiRun := 0,
      layout := if was = .sync then none else k.layout, version := if was = .sync then 0 else k.version,
      select := if was = .sync then none else k.select, early := 3, outMf := true, recentred := false }) s
  if was ≠ .sync then s
  else
    let s := (s.carried l).foldl (fun s c => flagAch c (updAch c (fun a => { a with absentRun := true, presentRun := false }) s)) s
    (List.range 3).foldl (fun s r => updCal r (fun k => if k.pass.isSome then { k with dropped := l :: k.dropped } else k) s) s

/-- An exit from SYNC other than by lane loss (LINK.rehunt). -/
def rehunt (l : Nat) (s : State) : State := toHunt l (bump Prm.linkRehunt l s)

/-- The lane of the link leaves UP, or the link is disabled (R109, Table 5-5). Log entry 34 (DEDUCED). -/
def linkLost (l : Nat) (s : State) : State := toHunt l s

/-- The third consecutive hit: SYNC, FIFO recentred, VERF cleared, bootstrap until a layout takes effect (R130, R134,
R139). -/
def enterSync (l : Nat) (s : State) : State :=
  let s := updLink l (fun k => { k with
      st := .sync, hits := 0, syncMiss := 0, crcFail := 0, mismatch := 0, defects := setBit k.defects 5 false,
      layout := none, prev := none, select := none, version := 0, early := 3, headId := none, caps := none,
      capsOk := false, recentred := true }) s
  raise Ev.linkSync l (detail [(0, 1, (s.link l).verMax)]) s

/-! ### Defects -/

/-- Declare or clear a defect bit with its event (R134). -/
def setDefect (l b : Nat) (e : EvDef) (on : Bool) (extra : List (Nat × Nat × Nat)) (s : State) : State :=
  if (s.link l).defects.testBit b = on then s
  else raise e l (detail ((0, 1, b2n on) :: extra)) (updLink l (fun k => { k with defects := setBit k.defects b on }) s)

/-- Version selection fails for a reason: 1 rate, 2 refused, 3 no acknowledgement, 4 field mismatch (R140, R141). -/
def versionFault (l why : Nat) (s : State) : State :=
  raise Ev.linkVersionFault l (detail [(0, 1, why)]) (updLink l (fun k => { k with
    defects := setBit k.defects 5 true, layout := none, select := none, version := 0, early := 3 }) s)

/-- A persistence time expires: defect 0 is LOS, 1 is LOF (R134). -/
def execLinkDefectPersist (l defect : Nat) (declare : Bool) (s : State) : Host.Outcome State Fault Refusal :=
  .next (
    let up := s.laneUp l
    let sync := (s.link l).st == .sync
    if 16 ≤ l then s
    else match defect, declare with
      | 0, true => if up then s else
          let s := updLink l (fun k => { k with defects := setBit k.defects 1 false }) s
          setDefect l 0 Ev.linkLos true [] s
      | 0, false => if up then setDefect l 0 Ev.linkLos false [] s else s
      | 1, true => if up && !sync then setDefect l 1 Ev.linkLof true [] s else s
      | 1, false => if sync then setDefect l 1 Ev.linkLof false [] s else s
      | _, _ => s)

/-- The latch of one link, with the SD decision (R134, R136). -/
def latchLink (l : Nat) (s : State) : State :=
  let n := (s.link l).run.errored
  let th := s.parN Prm.linkSdThreshold l
  let s := updLink l (fun k => { k with sec := k.run, run := {} }) s
  if th ≤ n then setDefect l 2 Ev.linkSd true [(4, 4, n)] s
  else if n < th / 10 then setDefect l 2 Ev.linkSd false [(4, 4, n)] s
  else s

/-- The per-second latch of the links and channels (R136); RSSI and noise are measured values (R160).
Log entry 38 (DESIGN CHOICE). -/
def latchLinks (s : State) : State :=
  let s := (List.range 16).foldl (fun s l => latchLink l s) s
  let s := { s with radio := { s.radio with tx := { s.radio.tx with secMark := true } } }
  (pick 128 fun c => (s.ach c).st != .off).foldl (fun s c =>
    let (x, s) := drawBelow 65536 s
    let (y, s) := drawBelow 65536 s
    updAch c (fun a => { a with rssi := signed 16 x, noise := signed 16 y }) s) s

/-! ### Received frames -/

/-- Firmware acts on a transceiver fault of a slot (R146). -/
def standbyFault (l slot : Nat) (s : State) : State :=
  let k := s.link l
  let ok := decide (s.par Prm.linkAutoStandby l = 1) && (match k.headId with | some h => h.caps.testBit 2 | none => false) &&
    (match k.layout with | some y => y.spare | none => false) && k.onStandby.isNone && k.standby.isNone && decide (slot < 8)
  if ok then
    let eff := s.effective
    ccSend l 0x06 (be 1 slot ++ be 3 eff) (updLink l (fun k => { k with standby := some { element := slot, eff := eff } }) s)
  else s

/-- Layout the head's frame is expected in (R139, R140). -/
def Link.expected (k : Link) (mf : Nat) : Option Layout := if k.early = 0 ∧ mf ≠ k.effMf then k.prev else k.layout

/-- The layout fields of a control word agree with a layout; `none` is a bootstrap frame. -/
def CtlWord.agrees (w : CtlWord) : Option Layout → Bool
  | none => !w.layout
  | some y => w.layout && decide (w.verActive = y.version) && decide (w.fmt = y.fmt) && w.spare == y.spare &&
      decide (w.srate = y.srate)

/-- Item `b × S + s` of a frame after the control word (R124). -/
def frameItem (y : Layout) (bits' nbits i : Nat) : Nat :=
  let w := blockBits y.fmt
  bits' / 2 ^ (nbits - 192 - (i + 1) * w) % 2 ^ w

/-- What reaches a channel in one frame: its decoded blocks, and the counts of absent and badly formatted ones
(R131, R132, R154). -/
structure Delivery where
  blocks : List (Option (List (Int × Int)))
  absent : Nat
  badFmt : Nat
deriving DecidableEq, Repr, Inhabited

/-- Blocks of one slot of a frame; `forced` delivers all of them absent, `bad` names the items that a lost codeword
touches. -/
def slotBlocks (y : Layout) (f content nbits slot : Nat) (forced : Bool) (bad : List Nat) : Delivery :=
  let S := slotsOf y.spare
  let bs := (List.range (blocksIn (srateMsps y.srate) f)).map fun b =>
    if forced || bad.contains (b * S + slot) then (none, false)
    else bfpDecode y.fmt (frameItem y content nbits (b * S + slot))
  { blocks := bs.map (·.1), absent := (bs.filter fun x => x.1.isNone).length, badFmt := (bs.filter (·.2)).length }

/-- Deliver a frame's blocks to a channel (Table 6-1 stage 1, Table 6-5). -/
def deliverAch (c f : Nat) (d : Delivery) (s : State) : State :=
  let st := (s.ach c).st
  if st = .off then s
  else
    let allPresent := decide (d.absent = 0) && !d.blocks.isEmpty
    let lastAbsent := match d.blocks.getLast? with | some (some _) => false | _ => true
    let s := bumpBy Prm.achAbsentBlocks c d.absent (bumpBy Prm.achFmtErr c d.badFmt s)
    let s := updAch c (fun a => { a with
      rx := if st = .fault then d.blocks.map (fun _ => none) else d.blocks
      absentRun := lastAbsent
      presentRun := if f = 0 then allPresent else a.presentRun && allPresent }) s
    if f = 999 ∧ (s.ach c).presentRun then sourcePresent c s else s

/-- The receive multiframe of a link begins: channels take their new source, and measured gains apply (R145, R158). -/
def rxMultiframe (l : Nat) (s : State) : State :=
  (pick 128 fun c => (s.ach c).source.isSome && decide (bits (s.entryNat Tbl.linkCmap 0 c) 15 12 = l)).foldl
    (fun s c => updAch c (fun a => { a with source := none }) s) s |>
  fun s => (s.carried l).foldl (fun s c => updAch c (fun a => match a.gainNext with
    | some g => { a with gainNow := g, gainNext := none }
    | none => a) s) s

/-- RDI declared or cleared by 8 consecutive frames with correct CRC (Table 5-6). -/
def rdiFrame (l : Nat) (rdi : Bool) (s : State) : State :=
  if (s.link l).defects.testBit 3 = rdi then updLink l (fun k => { k with rdiRun := 0 }) s
  else
    let n := (s.link l).rdiRun + 1
    if n < 8 then updLink l (fun k => { k with rdiRun := n }) s
    else setDefect l 3 Ev.linkRdi rdi [] (updLink l (fun k => { k with rdiRun := 0 }) s)

/-- Deliver a frame of a link in SYNC to every channel it carries; `lost` delivers it absent as a whole.
Log entry 39 (DESIGN CHOICE). -/
def deliverFrame (l : Nat) (w : CtlWord) (lost : Bool) (content nbits : Nat) (bad cdc : List Nat) (s : State) : State :=
  let k := s.link l
  match k.expected w.mf with
  | none => s
  | some y =>
    let s := if w.fnum = 0 ∧ !lost then rxMultiframe l s else s
    let S := slotsOf y.spare
    let hit := bad.filter fun i => decide (i < S * blocksIn (srateMsps y.srate) w.fnum)
    let alarm := (List.range S).filter fun t => k.slotAlarm.testBit t
    let n := blocksIn (srateMsps y.srate) w.fnum
    let forced := (hit.filter fun i => !alarm.contains (i % S)).length + alarm.length * n
    let s := updLink l (fun k => { k with run := { k.run with
        absent := satAdd 32 k.run.absent (if lost then 0 else forced)
        errored := if lost || !hit.isEmpty then k.run.errored + 1 else k.run.errored } }) s
    (s.carried l).foldl (fun s c =>
      match s.source c with
      | none => s
      | some (_, slot) =>
        let slip := cdc.contains c && decide (c < 64)
        let s := if slip then fifoSlip Prm.achCdcSlip Ev.fifoAchCdcSlip c 1 s else s
        let dead := lost || alarm.contains slot || !decide (slot < S) || (s.ach c).gainAbsent
        let d := slotBlocks y w.fnum content nbits slot dead bad
        let d := if slip then match d.blocks with
          | _ :: t => { d with blocks := none :: t, absent := (none :: t).countP (·.isNone) }
          | [] => d else d
        deliverAch c w.fnum d s) s

/-- One received frame position: bit errors found in the sync word (64 for none found), the bits after it as received,
the items that a lost codeword touches, a slip of the link receive FIFO, and channel sample FIFOs that slipped
(R25, R130 to R135). -/
def execLinkFrameRx (l syncErrs raw nbits : Nat) (bad : List Nat) (slip : Bool) (cdc : List Nat) (s : State) :
    Host.Outcome State Fault Refusal :=
  .next (
    if 16 ≤ l ∨ !s.linkFed l then s
    else
      let content := scrambled nbits raw
      let word := content / 2 ^ (nbits - 192)
      let w := CtlWord.decode word
      let crcOk := decide (192 ≤ nbits) && ctlCrcOk word
      match (s.link l).st with
      | .hunt =>
        if syncErrs = 0 ∧ crcOk then
          updLink l (fun k => { k with st := .presync, hits := 1, fnum := w.fnum, rxMf := w.mf, verMax := w.verMax }) s
        else s
      | .presync =>
        if syncErrs ≤ s.parN Prm.linkSyncErrTol l ∧ crcOk then
          let s := updLink l (fun k => { k with hits := k.hits + 1, fnum := w.fnum, rxMf := w.mf, verMax := w.verMax }) s
          if 3 ≤ (s.link l).hits then enterSync l s else s
        else toHunt l s
      | .sync =>
        let syncOk := decide (syncErrs ≤ s.parN Prm.linkSyncErrTol l)
        let k := s.link l
        let s := updLink l (fun k => { k with
          syncMiss := if syncOk then 0 else k.syncMiss + 1
          crcFail := if crcOk then 0 else k.crcFail + 1
          run := { k.run with syncMiss := k.run.syncMiss + b2n (!syncOk), crcErr := k.run.crcErr + b2n (!crcOk) } }) s
        let s := if slip then fifoSlip Prm.linkRxSlip Ev.fifoLinkRxSlip l 1 (updLink l (fun k => { k with recentred := false }) s)
          else updLink l (fun k => { k with recentred := true }) s
        if !crcOk then
          let s := deliverFrame l { w with fnum := (k.fnum + 1) % 1000, mf := k.rxMf } true content nbits bad cdc s
          let s := updLink l (fun k => { k with fnum := (k.fnum + 1) % 1000 }) s
          if 2 ≤ (s.link l).crcFail then
            raise Ev.linkRehuntCrc l (detail [(0, 1, k.fnum)]) (rehunt l s)
          else if 4 ≤ (s.link l).syncMiss then rehunt l s else s
        else
          let s := rdiFrame l w.rdi s
          let s := if w.slotAlarm = k.slotAlarm then s
            else
              let s := raise Ev.linkSlotAlarm l (detail [(0, 2, w.slotAlarm)]) (updLink l (fun k => { k with slotAlarm := w.slotAlarm }) s)
              (pick 9 fun t => w.slotAlarm.testBit t && !k.slotAlarm.testBit t).foldl (fun s t => standbyFault l t s) s
          let agree := decide (w.fnum = (k.fnum + 1) % 1000) && w.agrees (k.expected w.mf)
          let s := updLink l (fun k => { k with mismatch := if agree then 0 else k.mismatch + 1 }) s
          let inEarly := decide (k.early < 3) && decide (w.mf = k.effMf) && decide (w.fnum ≤ 2)
          if inEarly && !w.agrees k.layout then versionFault l 4 (updLink l (fun k => { k with fnum := w.fnum, rxMf := w.mf }) s)
          else
            let s := deliverFrame l w slip content nbits bad cdc s
            let s := updLink l (fun k => { k with fnum := w.fnum, rxMf := w.mf, verMax := w.verMax,
                                                  early := if inEarly then k.early + 1 else k.early }) s
            if 2 ≤ (s.link l).mismatch then rehunt l s
            else if 4 ≤ (s.link l).syncMiss then rehunt l s else s)

/-! ### Versions (R139 to R142) -/

/-- The layout to select for a head: version, then what the version and the head's capabilities allow; `none` is a rate
that they do not (R139, R141). -/
def State.chooseLayout (s : State) (l : Nat) (h : HeadId) : Option Layout :=
  let v := min (min (s.parN Prm.linkMaxVersion l) h.verMax) 2
  let srate := s.parN Prm.linkSrate l
  if srate = 3 ∧ (v = 1 ∨ !h.caps.testBit 1) then none
  else some { version := v, fmt := if v = 1 ∨ !h.caps.testBit 0 then 0 else s.parN Prm.linkFmt l,
              spare := v == 2 && decide (h.transceivers = 9) && decide (s.par Prm.linkSpareOn l = 1), srate := srate }

/-- Send LAYOUT_SELECT, or declare VERF where no layout can be given (R139, R141). -/
def selectLayout (l : Nat) (s : State) : State :=
  match (s.link l).headId with
  | none => s
  | some h => match s.chooseLayout l h with
    | none => versionFault l 1 s
    | some y =>
      let eff := s.effective
      ccSend l 0x02 (be 1 y.version ++ be 1 y.fmt ++ be 1 (b2n y.spare) ++ be 1 y.srate ++ be 3 eff ++ [0])
        (updLink l (fun k => { k with select := some { layout := y, eff := eff } }) s)

/-- HEAD_ID arrives (R139). -/
def execHeadId (l seq : Nat) (h : HeadId) (s : State) : Host.Outcome State Fault Refusal :=
  .next (ccReceive l 0x01 seq 0 (fun s => selectLayout l (updLink l (fun k => { k with headId := some h }) s)) s)

/-- One multiframe before the effective count, the acknowledgement of LAYOUT_SELECT is missing (R140). -/
def execLayoutAckDeadline (l : Nat) (s : State) : Host.Outcome State Fault Refusal :=
  .next (match (s.link l).select with
    | some q => if q.acked then s else versionFault l 3 s
    | none => s)

/-- Radio that a link's first connected channel belongs to. -/
def State.radioOfLink (s : State) (l : Nat) : Option Nat :=
  (lowest 128 fun c => match s.mapped c with | some (m, _) => decide (m = l) | none => false).map radioOfAch

/-- The effective multiframe of LAYOUT_SELECT begins: the layout takes effect, the version is reported, and a head that
has sent no HEAD_RF_CAPS is incompatible (R139, R157). -/
def execLayoutEffect (l : Nat) (s : State) : Host.Outcome State Fault Refusal :=
  .next (match (s.link l).select with
    | some q =>
      if q.acked then
        let s := updLink l (fun k => { k with
          prev := k.layout, layout := some q.layout, effMf := q.eff, early := 0, select := none, version := q.layout.version }) s
        let s := reportVersion 1 l q.layout.version 0 s
        if (s.link l).caps.isNone then raise Ev.achHeadIncompat l (detail [(0, 1, 3)]) s else s
      else s
    | none => s)

/-! ### Acknowledgements, echoes and retries (R138) -/

/-- The channel on a transceiver of a head. -/
def State.achAt (s : State) (l t : Nat) : Option Nat := lowest 128 fun c => s.mapped c == some (l, t)

/-- What the acknowledgement of a message does. -/
def acked (l : Nat) (m : CcMsg) (status : Nat) (s : State) : State :=
  let ok := decide (status = 0)
  let t := match m.payload with | b :: _ => b.toNat | [] => 0
  match m.typ with
  | 0x02 =>
    if ok then updLink l (fun k => { k with select := k.select.map fun q => { q with acked := true } }) s
    else versionFault l 2 s
  | 0x06 => updLink l (fun k => { k with standby := if ok then k.standby.map fun q => { q with acked := true } else none }) s
  | 0x10 => if ok then match s.achAt l t with
      | some c => updAch c (fun a => { a with gain := a.gain.map fun q => { q with acked := true } }) s
      | none => s else s
  | 0x12 => if ok then match s.achAt l t with
      | some c => updAch c (fun a => { a with atten := a.atten.map fun q => { q with acked := true } }) s
      | none => s else s
  | 0x13 => if ok then updLink l (fun k => { k with tune := k.tune.map fun q => { q with acked := true } }) s else s
  | _ => s

/-- An ACK arrives (R138). -/
def execAck (l typ seq status : Nat) (s : State) : Host.Outcome State Fault Refusal :=
  .next (
    if (s.link l).st != .sync then s
    else match (s.link l).out with
      | some (m, _) =>
        if m.typ = typ ∧ m.seq = seq ∧ typ ≠ 0x04 then
          let s := setDefect l 4 Ev.linkCcFault false [(1, 1, typ)] s
          ccNext l (acked l m status s)
        else s
      | none => s)

/-- An ECHO arrives: it closes the outstanding one, or is answered with its token unchanged (Table 5-8, R138). -/
def execEcho (l seq token : Nat) (s : State) : Host.Outcome State Fault Refusal :=
  .next (
    if (s.link l).st != .sync then s
    else match (s.link l).out with
      | some (m, _) =>
        if m.typ = 0x04 ∧ m.payload = be 4 token then ccNext l (setDefect l 4 Ev.linkCcFault false [(1, 1, 0x04)] s)
        else emit l { typ := 0x04, seq := seq, payload := be 4 token } s
      | none => emit l { typ := 0x04, seq := seq, payload := be 4 token } s)

/-- A message of a reserved type is answered ACK with status 2 (Table 5-8). -/
def execCcReservedType (l typ seq : Nat) (s : State) : Host.Outcome State Fault Refusal :=
  .next (ccReceive l typ seq 2 (fun s => s) s)

/-- cc_retry_ms elapses on the outstanding message: up to three retries, then CCF (R138). -/
def execCcRetryTimeout (l : Nat) (s : State) : Host.Outcome State Fault Refusal :=
  .next (match (s.link l).out with
    | some (m, n) =>
      if n < 3 then emit l m (updLink l (fun k => { k with out := some (m, n + 1) }) s)
      else ccNext l (setDefect l 4 Ev.linkCcFault true [(1, 1, m.typ)] s)
    | none => s)

/-- echo_period_ms elapses: an ECHO with a token of the device's choice (R138). -/
def execEchoPeriod (l : Nat) (s : State) : Host.Outcome State Fault Refusal :=
  .next (
    if 16 ≤ l ∨ s.parN Prm.linkEchoPeriodMs l = 0 ∨ s.par Prm.linkEnable l = 0 then s
    else
      let (x, s) := drawBelow (2 ^ 32) s
      ccSend l 0x04 (be 4 x) s)

/-! ### Standby switching (R146) -/

/-- HEAD_ALARM arrives (R146). -/
def execHeadAlarm (l seq t cause det : Nat) (s : State) : Host.Outcome State Fault Refusal :=
  .next (ccReceive l 0x05 seq 0 (fun s => standbyFault l t s) s)

/-- The effective multiframe of SPARE_SWITCH begins: the channel moves to slot 8 in both pages (R145, R146). -/
def execSpareSwitchEffect (l : Nat) (s : State) : Host.Outcome State Fault Refusal :=
  .next (match (s.link l).standby with
    | none => s
    | some q =>
      let s := updLink l (fun k => { k with standby := none }) s
      if !q.acked then s
      else match s.achAt l q.element with
        | none => s
        | some c =>
          let old := s.source c
          let move := fun (e : Nat) => e - bits e 11 8 * 256 + 8 * 256
          let a := s.entryNat Tbl.linkCmap 0 c
          let b := leNat (s.standbyEntry Tbl.linkCmap 0 c)
          let s := setActive Tbl.linkCmap 0 c (le 4 (move a)) s
          let s := if bits b 15 12 = l then setStandby Tbl.linkCmap 0 c (le 4 (move b)) s
            else setStandby Tbl.linkCmap 0 c (le 4 (move a)) s
          let s := updLink l (fun k => { k with onStandby := some q.element }) s
          let s := flagAch c (updAch c (fun x => { x with source := some old }) s)
          raise Ev.linkStandbySwitch l (detail [(0, 1, q.element), (1, 1, c)]) s)

/-- A standby switch is scheduled on some link: TABLE_COMMIT of LINK.cmap is BUSY (R146). -/
def State.standbyPending (s : State) : Bool := (List.range 16).any fun l => (s.link l).standby.isSome

/-! ### HEAD_RF_CAPS (R157) -/

/-- HEAD_RF_CAPS is accepted, or says why not: 1 T/R too slow, 2 frequency range (R157); `khz` is the radio's centre
frequency. -/
def capsFault (k : HeadCaps) (lead khz : Nat) : Option Nat :=
  if lead < k.trSwitch * 100 then some 1
  else if khz < k.lowMhz * 1000 ∨ k.highMhz * 1000 < khz then some 2
  else none

/-! ### Commits (R127, R142, R144) -/

/-- Sample-rate code of a radio: the one its links must carry (R142). -/
def State.linkRadios (s : State) (l : Nat) : List Nat :=
  ((pick 128 fun c => match s.mapped c with | some (m, _) => decide (m = l) | none => false).map radioOfAch).eraseDups

/-- Sample-rate codes of a radio: 50 Msps for 2.4 GHz, 200 for 5 GHz, 400 or 512 for 6 GHz (Tables 4-1 and 6-1). -/
def radioTakes (r code : Nat) : Bool :=
  match r with
  | 0 => decide (code = 0)
  | 1 => decide (code = 1)
  | _ => decide (code = 2) || decide (code = 3)

/-- Links that feed a radio in the active page. -/
def State.linksOf (s : State) (r : Nat) : List Nat := (List.range 16).filter fun l => (s.linkRadios l).contains r

/-- Offences of a LINK commit (R127, R142). -/
def linkOffences (s : State) : List Offence :=
  let budget := (List.range 16).flatMap fun l =>
    let len := frameBits (s.com Prm.linkFmt l).toNat (decide (s.com Prm.linkSpareOn l = 1)) (s.com Prm.linkSrate l).toNat
    offend (decide (len ≤ frameBudget (s.com Prm.laneRate l).toNat)) 7
      [(Prm.linkSrate, l), (Prm.linkFmt, l), (Prm.linkSpareOn, l)]
  let rates := (List.range 3).flatMap fun r =>
    let ls := s.linksOf r
    let codes := (ls.map fun l => (s.com Prm.linkSrate l).toNat).eraseDups
    offend (decide (codes.length ≤ 1) && codes.all (radioTakes r)) 6 (ls.map fun l => (Prm.linkSrate, l))
  budget ++ rates

/-- TABLE_COMMIT of LINK.cmap passes (R144). -/
def cmapPageOk (s : State) : Bool :=
  let es := (List.range 128).map fun c => (c, leNat (s.standbyEntry Tbl.linkCmap 0 c))
  let on := es.filter fun e => e.2.testBit 0
  let targets := on.map fun e => (bits e.2 15 12, bits e.2 11 8)
  let rateOf := fun r => (s.linksOf r).head?.map fun l => s.com Prm.linkSrate l
  decide (targets.eraseDups.length = targets.length) &&
    es.all fun e => decide (bits e.2 31 16 = 0) && decide (bits e.2 7 2 = 0) && decide (bits e.2 11 8 ≤ 8) &&
      (!e.2.testBit 0 ||
        let code := s.com Prm.linkSrate (bits e.2 15 12)
        radioTakes (radioOfAch e.1) code.toNat && (match rateOf (radioOfAch e.1) with | some x => decide (x = code) | none => true))

/-- A link takes committed values: a disabled one hunts, a changed layout is selected anew (R130, R140). -/
def applyLink (l : Nat) (layoutChanged : Bool) (s : State) : State :=
  if s.par Prm.linkEnable l = 0 then if (s.link l).st = .sync then rehunt l s else toHunt l s
  else if layoutChanged ∧ (s.link l).st = .sync then selectLayout l s
  else s

/-- The active page of LINK.cmap has switched: every channel whose entry changed keeps its old source until its new
link's next multiframe, and is flagged (R145, R164). Log entry 10 (DEDUCED). -/
def switchedCmap (old : List (Nat × List Byte)) (s : State) : State :=
  old.foldl (fun s e =>
    if s.entry Tbl.linkCmap 0 e.1 = e.2 then s
    else flagAch e.1 (updAch e.1 (fun a => { a with source := some (a.source.getD (cmapTarget (leNat e.2))) }) s)) s

end Sys2Proof.Machine
end

