-- ==== Sys2Proof/Machine/Lanes.lean ====
section
/-!
DEFINITION. The Runner lanes: bring-up and lock (R107 to R109), polarity and swap correction (R110, R111), equalisation
(R114, R115), test patterns, checker and error injection (R116 to R118), and low power (R119, R120).
-/
namespace Sys2Proof.Machine

/-- LANE.eq (R114, Table 4-5). -/
def Tbl.laneEq : TableDef where
  id := 0x04100000
  insts := 20
  entries := fun _ => 3
  size := 16
  dflt := fun _ _ => [0, 4, 51, 8, 12, 10, 0, 0, 0, 0, 0, 0, 0, 0, 0, 0]

/-- An Irwick lane, or an Ethernet lane (R98). -/
def isRl (n : Nat) : Bool := decide (n < 16)

/-- Code of a lane state (Table 4-4). -/
def LaneSt.code : LaneSt → Nat
  | .down => 0 | .acquire => 1 | .align => 2 | .train => 3 | .up => 4 | .fault => 5 | .test => 6 | .deep => 7

/-- The lane's rate uses RS(544,514) (Table 4-1, R104). Log entry 30 (PRESUMED). -/
def State.laneRs544 (s : State) (n : Nat) : Bool :=
  decide (s.par Prm.laneRate n ≤ 2) || decide (s.par Prm.laneFecMode n = 3)

/-- The rate is a PAM4 rate (Table 4-1). -/
def ratePam4 (code : Int) : Bool := decide (code ≤ 2) || decide (code = 5)

/-- LANE.polarity (Table 4-8). -/
def Lane.polarity (k : Lane) : Nat := b2n k.txInv + 2 * b2n k.rxInv

/-- Move a lane to a state; one that leaves UP raises LANE_LOST and takes its link out of sync (R109, Table 4-9).
Log entries 28 (DESIGN CHOICE), 29 (DEDUCED). -/
def setLane (n : Nat) (st : LaneSt) (s : State) : State :=
  let old := (s.lane n).st
  let s := updLane n (fun k => { k with
    st := st, good := 0, miss := 0, last := none
    holding := if old = .up then false else k.holding
    deepExit := if st = .up then false else k.deepExit }) s
  if old = .up ∧ st ≠ .up then
    let s := raise Ev.laneLost n (detail [(0, 1, st.code)]) s
    if isRl n then linkLost n s else s
  else if old ≠ .up ∧ st = .up then raise Ev.laneUp n (detail [(0, 1, s.parN Prm.laneRate n)]) s
  else s

/-- A polarity correction changes (R110). -/
def setPolarity (n : Nat) (f : Lane → Lane) (s : State) : State :=
  let t := updLane n f s
  if (t.lane n).polarity = (s.lane n).polarity then t
  else raise Ev.lanePolarity n (detail [(0, 1, (t.lane n).polarity)]) t

/-- A lane enters FAULT for a reason: 1 PLL, 2 echo claimed, 3 TRAIN timeout (Table 4-9). Log entry 29 (DEDUCED). -/
def laneFault (n why echo : Nat) (s : State) : State :=
  raise Ev.laneTrainFault n (detail [(0, 1, why), (1, 1, echo)]) (setLane n .fault s)

/-- The lane's macro is powered: the device has booted, and the power state has the lane on (Table 17-10). -/
def State.lanePowered (s : State) (n : Nat) : Bool := s.booted && !bit s.power.down (if isRl n then 4 else 5)

/-- The transmit PLL locks: the entry of the committed rate applies and the lane acquires (R107, R114). -/
def execLanePllLock (n : Nat) (s : State) : Host.Outcome State Fault Refusal :=
  .next (
    if n < 20 ∧ s.lanePowered n ∧ (s.lane n).st = .down ∧ s.par Prm.laneEnable n = 1 ∧ s.par Prm.lanePower n = 0 then
      let code := s.parN Prm.laneRate n
      let e := s.entryNat Tbl.laneEq n (if isRl n then code else code - 3)
      setLane n .acquire (updLane n (fun k => { k with eqTx := e.testBit 72, eqRx := e.testBit 73, txInv := false, rxInv := false }) s)
    else s)

/-- The PLL has not locked within 400 µs (Table 4-4). -/
def execLanePllTimeout (n : Nat) (s : State) : Host.Outcome State Fault Refusal :=
  .next (if n < 20 ∧ s.lanePowered n ∧ (s.lane n).st = .down ∧ s.par Prm.laneEnable n = 1 ∧ s.par Prm.lanePower n = 0 then laneFault n 1 0x1F s else s)

/-- Clock recovery locks (Table 4-4). -/
def execLaneCdrLock (n : Nat) (s : State) : Host.Outcome State Fault Refusal :=
  .next (if (s.lane n).st = .acquire then setLane n .align s else s)

/-- 100 µs in ACQUIRE without lock (Table 4-4). -/
def execLaneAcqTimeout (n : Nat) (s : State) : Host.Outcome State Fault Refusal :=
  .next (if (s.lane n).st = .acquire then bump Prm.laneAcqRetry n s else s)

/-- Another link holds transmit lane `a` (R111). Log entry 28 (DESIGN CHOICE). -/
def State.claimed (s : State) (l a : Nat) : Bool :=
  (List.range 16).any fun m => decide (m ≠ l) && (s.lane m).holding && decide ((s.lane m).txLane.getD m = a)

/-- TRAIN ends on a lane with an echo and inv_seen: swap and polarity corrections, then UP (R107, R110, R111). -/
def trained (n a : Nat) (inv : Bool) (s : State) : State :=
  let swap := decide (s.par Prm.laneAutoSwap 0 = 1)
  if s.claimed n a ∨ (!swap ∧ a ≠ n) then laneFault n 2 a s
  else
    let s := updLane n (fun k => { k with txLane := if a = n then none else some a, holding := true }) s
    let s := if a ≠ n then raise Ev.laneSwap n (detail [(0, 1, a)]) s else s
    let s := if inv ∧ s.par Prm.laneAutoPolarity n = 1 then setPolarity a (fun k => { k with txInv := !k.txInv }) s else s
    setLane n .up s

/-- A valid marker, with the sense in which it validates. Log entry 29 (DEDUCED). -/
def markerGood (n : Nat) (inverted : Bool) (echo : Nat) (inv : Bool) (s : State) : State :=
  let k := s.lane n
  match k.st with
  | .align =>
    let good := if k.good = 0 ∨ k.sense = inverted then k.good + 1 else 1
    let s := updLane n (fun k => { k with good := good, sense := inverted }) s
    if good < 3 then s
    else
      let s := if inverted ∧ s.par Prm.laneAutoPolarity n = 1 then setPolarity n (fun k => { k with rxInv := !k.rxInv }) s else s
      setLane n .train s
  | .train =>
    let s := updLane n (fun k => { k with miss := 0, last := some (echo, inv) }) s
    if echo < 16 ∧ k.last = some (echo, inv) then trained n echo inv s else s
  | .up => updLane n (fun k => { k with miss := 0 }) s
  | _ => s

/-- A marker absent or invalid at its expected position (R106, Table 4-4). Log entry 29 (DEDUCED). -/
def markerMiss (n : Nat) (s : State) : State :=
  let k := s.lane n
  match k.st with
  | .align => updLane n (fun k => { k with good := 0 }) s
  | .train =>
    if 4 ≤ k.miss + 1 then setLane n .align s else updLane n (fun k => { k with miss := k.miss + 1, last := none }) s
  | .up =>
    if 4 ≤ k.miss + 1 then setLane n .align (bump Prm.laneLockLoss n s)
    else updLane n (fun k => { k with miss := k.miss + 1 }) s
  | _ => s

/-- One marker position of an Irwick lane: the 40 bits at the receiver's input, or none (R105 to R107). -/
def execLaneMarkerRx (n : Nat) (raw : Option Nat) (s : State) : Host.Outcome State Fault Refusal :=
  .next (
    if !isRl n then s
    else
      let sense := (s.lane n).eqRx != (s.lane n).rxInv
      let seen := raw.map fun v => if sense then 2 ^ 40 - 1 - v % 2 ^ 40 else v % 2 ^ 40
      match seen.bind readMarker with
      | some (inverted, echo, inv) => markerGood n inverted echo inv s
      | none => markerMiss n s)

/-- TRAIN has no result for 2 ms (Table 4-4). -/
def execLaneTrainTimeout (n : Nat) (s : State) : Host.Outcome State Fault Refusal :=
  .next (if (s.lane n).st = .train then laneFault n 3 (((s.lane n).last.map (·.1)).getD 0x1F) s else s)

/-- 10 ms after FAULT (Table 4-4). -/
def execLaneFaultExpiry (n : Nat) (s : State) : Host.Outcome State Fault Refusal :=
  .next (if (s.lane n).st = .fault then setLane n .acquire s else s)

/-- The recovered clock is lost (Table 4-4). -/
def execLaneClockLoss (n : Nat) (s : State) : Host.Outcome State Fault Refusal :=
  .next (match (s.lane n).st with
    | .align => setLane n .acquire s
    | .up => setLane n .acquire (bump Prm.laneLockLoss n s)
    | _ => s)

/-- An Ethernet lane reaches PCS lock (Table 4-4). -/
def execLanePcsLock (n : Nat) (s : State) : Host.Outcome State Fault Refusal :=
  .next (if !isRl n ∧ (s.lane n).st = .align then setLane n .up s else s)

/-- An Ethernet lane loses PCS lock (Table 4-4). -/
def execLanePcsLoss (n : Nat) (s : State) : Host.Outcome State Fault Refusal :=
  .next (if !isRl n ∧ (s.lane n).st = .up then setLane n .align (bump Prm.laneLockLoss n s) else s)

/-- 250 µs in ALIGN without PCS lock: an Ethernet lane with auto_polarity tries the other sense (R110). -/
def execLanePolarityRetry (n : Nat) (s : State) : Host.Outcome State Fault Refusal :=
  .next (if !isRl n ∧ (s.lane n).st = .align ∧ s.par Prm.laneAutoPolarity n = 1 then
    setPolarity n (fun k => { k with rxInv := !k.rxInv }) s else s)

/-! ### Checker and injection -/

/-- One received pattern bit, in error or not: the checker, the bits compared and the errors counted (R117). -/
def Checker.bit (x : Checker × Nat × Nat) (err : Bool) : Checker × Nat × Nat :=
  let (k, b, e) := x
  if k.locked then
    let recent := (if err then k.compared :: k.errs else k.errs).filter fun p => decide (k.compared < p + 256)
    let k' := { k with compared := k.compared + 1, errs := recent }
    if err && decide (32 < recent.length) then ({}, b + 1, e + 1)
    else (k', b + 1, e + b2n err)
  else if err then ({ k with run := 0 }, b, e)
  else if k.run + 1 = 64 then ({ locked := true }, b, e)
  else ({ k with run := k.run + 1 }, b, e)

/-- Run the checker of a lane over pattern bits. -/
def runChecker (n : Nat) (l : List Bool) (s : State) : State :=
  let (k, b, e) := l.foldl Checker.bit ((s.lane n).chk, 0, 0)
  bumpBy Prm.lanePrbsErr n e (bumpBy Prm.lanePrbsBits n b (updLane n (fun x => { x with chk := k }) s))

/-- Places from `p` on, `period` apart, below a bound. Log entry 33 (DESIGN CHOICE). -/
def everyPeriod (p period : Nat) : Nat → List Nat
  | 0 => []
  | k + 1 => p :: everyPeriod (p + period) period k

/-- Bits of codeword number `cw` that LANE.inject inverts, of a codeword of `size` bits (R118, Table 4-6).
Log entry 33 (DESIGN CHOICE). -/
def injected (inject cw size : Nat) (left : Option Nat) : List Nat × Option Nat :=
  match bits inject 63 62 with
  | 1 => match left with
    | some p =>
      let per := bits inject 31 0
      if size ≤ p then ([], some (p - size))
      else
        let k := (size - p + per - 1) / per
        (everyPeriod p per k, some (p + k * per - size))
    | none => ([], none)
  | 2 =>
    if cw % bits inject 31 0 = 0 then
      ((List.range (10 * bits inject 41 32)).map fun j => 10 * bits inject 57 48 + j, left)
    else ([], left)
  | 3 => match left with
    | some p => if p < size then ([p], none) else ([], some (p - size))
    | none => ([], none)
  | _ => ([], none)

/-- A codeword arrives: its number since the start of the transmission, the bits in error on the line, and whether the
far end loops this lane's own transmission back, so that injected errors return in it (R104, R117, R118).
Log entry 30 (PRESUMED). -/
def execLaneCodewordRx (n cw : Nat) (errs : List Nat) (loop : Bool) (s : State) : Host.Outcome State Fault Refusal :=
  .next (
    if 20 ≤ n then s
    else
      let chk := s.parN Prm.laneRxChecker n
      let rs544 := s.laneRs544 n
      let rs528 := !rs544 && decide (s.par Prm.laneFecMode n = 2)
      let size := if rs544 then 5440 else 5280
      let (inj, left) := if loop then injected (s.parN Prm.laneInject n) cw size (s.lane n).inj else ([], (s.lane n).inj)
      let s := updLane n (fun k => { k with inj := left }) s
      let wrong := (errs.filter fun p => !inj.contains p) ++ inj.filter fun p => !errs.contains p
      let line := (List.range size).map fun p => wrong.contains p
      if (s.lane n).st = .test then
        if chk % 256 ≠ 0 ∧ !chk.testBit 8 then runChecker n line s else s
      else if !rs544 ∧ !rs528 then s
      else
        let syms := (wrong.map (· / 10)).eraseDups
        let t := if rs544 then 15 else 7
        let lost := decide (t < syms.length)
        let s := if lost then bump Prm.laneFecUncorrCw n s
          else if syms.isEmpty then s
          else bumpBy Prm.laneFecCorrSym n syms.length (bump Prm.laneFecCorrCw n s)
        if chk.testBit 8 ∧ chk % 256 ≠ 0 ∧ (s.lane n).st = .up then
          let from' := if cw % 256 = 0 ∧ isRl n then 40 else 0
          runChecker n (((line.take 5140).drop from').map fun b => lost && b) s
        else s)

/-! ### Low power -/

/-- A lane that left DEEP has not reached UP within its bound (R119, R513). -/
def execLaneWakeTimeout (n : Nat) (s : State) : Host.Outcome State Fault Refusal :=
  .next (if (s.lane n).deepExit then
    raise Ev.laneWakeTimeout n (detail [(0, 1, (s.lane n).st.code)])
      (bump Prm.pwrLaneWakeFail 0 (updLane n (fun k => { k with deepExit := false }) s))
    else s)

/-! ### Commits -/

/-- A lane takes committed values (R108, R119): `retrain` says that rate, FEC, precoding or equalisation changed.
Log entry 33 (DESIGN CHOICE). -/
def applyLane (n : Nat) (retrain : Bool) (s : State) : State :=
  let awake := fun (s : State) => updLane n (fun k => { k with txQuiet := false, rxQuiet := false }) s
  if s.par Prm.lanePower n = 1 ∨ (isRl n ∧ bit s.power.down 4) then awake (setLane n .deep s)
  else if (s.lane n).st = .deep then
    setLane n .down (updLane n (fun k => { k with deepExit := true }) s)
  else if s.par Prm.laneEnable n = 0 then awake (setLane n .down s)
  else if retrain then awake (setLane n .down s)
  else s

/-- An immediate LANE value takes effect: the generator and checker move the lane into and out of TEST, and injection
starts at a place that the spec leaves open (R116 to R118). -/
def laneImmediate (p : ParamDef) (n : Nat) (s : State) : State :=
  let line := fun (v : Nat) => decide (v % 256 ≠ 0) && !v.testBit 8
  let on := line (s.parN Prm.laneTxPattern n) || line (s.parN Prm.laneRxChecker n)
  if p.id = Prm.laneTxPattern.id ∨ p.id = Prm.laneRxChecker.id then
    let s := if p.id = Prm.laneRxChecker.id then updLane n (fun k => { k with chk := {} }) s else s
    if on then setLane n .test s
    else if (s.lane n).st = .test then setLane n .acquire s else s
  else if p.id = Prm.laneInject.id then
    let v := s.parN Prm.laneInject n
    match bits v 63 62 with
    | 1 => let (x, s) := drawBelow (bits v 31 0) s; updLane n (fun k => { k with inj := some x }) s
    | 3 => let (x, s) := drawBelow 5440 s; updLane n (fun k => { k with inj := some x }) s
    | _ => updLane n (fun k => { k with inj := none }) s
  else s

/-- Offences of an immediate LANE value on a lane (R116, R118). -/
def laneImmediateOffences (s : State) (p : ParamDef) (n : Nat) : List Offence :=
  let rs := s.laneRs544 n
  let okPattern := fun (v : Nat) =>
    if v % 256 = 0 then true
    else if v.testBit 8 then rs && (decide (v % 256 ≤ 5) || decide (v % 256 = 10))
    else if 6 ≤ v % 256 ∧ v % 256 ≤ 8 then ratePam4 (s.par Prm.laneRate n) else true
  let v := (s.com p n).toNat
  if p.id = Prm.laneTxPattern.id ∨ p.id = Prm.laneRxChecker.id then offend (okPattern v) 6 [(p, n)]
  else if p.id = Prm.laneInject.id then
    let per := bits v 31 0
    let burst := bits v 41 32
    match bits v 63 62 with
    | 1 => offend (decide (per ≠ 0)) 5 [(p, n)]
    | 2 => offend (decide (per ≠ 0) && decide (burst ≠ 0)) 5 [(p, n)] ++ offend rs 6 [(p, n)]
    | _ => []
  else []

/-- Offences of a LANE commit (Table 4-8, R103). -/
def laneOffences (s : State) : List Offence :=
  (List.range 20).flatMap fun n =>
    let rate := s.com Prm.laneRate n
    let fec := s.com Prm.laneFecMode n
    let okRole := if isRl n then decide (rate ≤ 2) else decide (3 ≤ rate)
    let okFec := if isRl n ∨ rate = 5 then decide (fec = 3)
      else if rate = 4 then decide (fec ≤ 2) else if rate = 3 then decide (fec ≤ 1) else true
    offend okRole 6 [(Prm.laneRate, n)] ++ offend okFec 6 [(Prm.laneFecMode, n), (Prm.laneRate, n)] ++
      offend (decide (s.com Prm.lanePrecode n = 0) || ratePam4 rate) 6 [(Prm.lanePrecode, n), (Prm.laneRate, n)]

/-- One LANE.eq entry is within its rules (R115, Table 4-5). -/
def eqEntryOk (b : List Byte) : Bool :=
  let f := fun k => (b.getD k 0).toNat
  let g := fun k => signed 8 (f k)
  decide (f 0 ≤ 7) && decide (f 1 ≤ 24) && decide (20 ≤ f 2) && decide (f 2 ≤ 63) && decide (f 3 ≤ 24) && decide (f 4 ≤ 31) &&
    decide (f 5 ≤ 31) && decide (-32 ≤ g 6) && decide (g 6 ≤ 31) && decide (-16 ≤ g 7) && decide (g 7 ≤ 15) &&
    decide (-16 ≤ g 8) && decide (g 8 ≤ 15) && decide (f 9 < 8) && decide (fieldAt b 10 6 = 0) &&
    decide (f 0 + f 1 + f 2 + f 3 ≤ 63)

/-- TABLE_COMMIT of LANE.eq passes on a lane (R115). -/
def laneEqPageOk (n : Nat) (s : State) : Bool := (List.range 3).all fun k => eqEntryOk (s.standbyEntry Tbl.laneEq n k)

end Sys2Proof.Machine
end

