-- ==== Sys2Proof/Machine/Beam.lean ====
section
/-!
DEFINITION. The Crucible: weight-load entries and weight sets (R191, R192), speculation (R195 to R200), switch points
(R193, R198), assay tones (R201 to R204), reports (R206, R207), occupancy maps (R209) and commit checks (R180, R189).
-/
namespace Sys2Proof.Machine

def State.beamOf (s : State) (r : Nat) : Beam := s.beam.radio.get r
def updBeam (r : Nat) (f : Beam → Beam) (s : State) : State := { s with beam := { s.beam with radio := s.beam.radio.upd r f } }
def State.mould (s : State) (k : Nat) : Mould := s.beam.sector.get k
def updMould (k : Nat) (f : Mould → Mould) (s : State) : State :=
  { s with beam := { s.beam with sector := s.beam.sector.upd k f } }

/-! ### Figures and tables -/

/-- Channels N of a radio (Table 7-1). -/
def radioN (r : Nat) : Nat := match r with | 0 => 16 | 1 => 48 | _ => 64

/-- First channel of a radio (R17). -/
def radioFirst (r : Nat) : Nat := match r with | 0 => 0 | 1 => 16 | _ => 64

/-- Tone groups at the widest bandwidth (Table 7-1). -/
def groupsWidest (r : Nat) : Nat := match r with | 0 => 31 | 1 => 123 | _ => 245

/-- Widest bandwidth code of a radio. -/
def widestBw (r : Nat) : Nat := match r with | 0 => 1 | 1 => 3 | _ => 4

/-- Tone groups under a bandwidth and puncturing (R183, R184). -/
def groupsFor (r bw punct : Nat) : Nat :=
  if bw = widestBw r ∧ punct = 0 then groupsWidest r else (Config.occupiedTones bw punct + 15) / 16

/-- Tone groups in force. -/
def State.groups (s : State) (r : Nat) : Nat := groupsFor r (s.parN Prm.wlanBw r) (s.parN Prm.wlanPunct r)

/-- BEAM.cover (R211): on the reference channel 0x7FFF + 0j, elsewhere 0. -/
def Tbl.beamCover : TableDef where
  id := 0x07110000
  insts := 8
  entries := fun k => groupsWidest (radioOfSector k) * (radioN (radioOfSector k) / 16)
  size := 64
  dflt := fun k i => if i % (radioN (radioOfSector k) / 16) = 0 then le 2 0x7FFF else []

/-- BEAM.geom (Table 7-11). -/
def Tbl.beamGeom : TableDef where
  id := 0x07120000
  insts := 3
  entries := radioN
  size := 8
  dflt := fun _ _ => le 8 0x8000000000000000

/-- BEAM.sta_report (Table 7-10). -/
def Tbl.staReport : TableDef where
  id := 0x07130000
  insts := 1
  entries := fun _ => 2048
  size := 32
  dflt := fun _ k => le 16 k ++ le 2 0x8000

/-- BEAM.null_report (R207). -/
def Tbl.nullReport : TableDef where
  id := 0x07140000
  insts := 3
  entries := fun _ => 16
  size := 8
  dflt := fun _ _ => le 2 0x8000

/-- BEAM.chan_report (R208). -/
def Tbl.chanReport : TableDef where
  id := 0x07150000
  insts := 2048
  entries := fun _ => 245
  size := 260

/-- BEAM.aoa_map (R209). -/
def Tbl.aoaMap : TableDef where
  id := 0x07160000
  insts := 3
  entries := fun _ => 1024
  size := 4

/-- BEAM.tone_map of a radio (R183): computed from the channel in force. -/
def State.toneMap (s : State) (r g : Nat) : List Byte :=
  let bw := s.parN Prm.wlanBw r
  let p := s.parN Prm.wlanPunct r
  let tones := Config.occupiedTones bw p
  let n := if g + 1 = s.groups r ∧ tones % 16 ≠ 0 then tones % 16 else 16
  le 2 n ++ le 2 (twos 16 (Config.firstTone r bw p g))

/-! ### Sectors and channels -/

/-- The sector is in service. -/
def State.sectorOn (s : State) (k : Nat) : Bool := decide (s.par Prm.beamEnable k = 1)

/-- Enabled sectors of a radio, ascending. -/
def State.enabledSectors (s : State) (r : Nat) : List Nat := (sectorsOf r).filter fun k => s.sectorOn k

/-- Usable channels of a radio (R163, R179). -/
def State.usable (s : State) (r : Nat) : List Nat := s.achsIn r .active

/-- Streams of a radio: K_r (R180). -/
def State.streamsOf (s : State) (r : Nat) : Nat := ((s.enabledSectors r).map fun k => s.parN Prm.beamMaxStreams k).sum

/-- BEAM.stream_cap (R180). -/
def State.streamCap (s : State) (r : Nat) : Nat := min (s.streamsOf r) (s.usable r).length

/-- Station of a COLMAP column, when it is valid: sector and station (Table 7-4). -/
def colStation (c : Nat) : Option (Nat × Nat) := if c.testBit 15 then some (bits c 14 12, bits c 10 0) else none

/-- Stations of the active set of a radio. -/
def State.activeStations (s : State) (r : Nat) : List Nat :=
  match (s.beamOf r).active with
  | some a => (a.cols.filterMap fun e => (colStation e.2).map (·.2)).eraseDups
  | none => []

/-! ### The shadow banks -/

/-- Every enabled sector has delivered its SET_END (R192). -/
def State.setComplete (s : State) (r : Nat) (w : ShadowSet) : Bool := (s.enabledSectors r).all fun k => w.ended.contains k

/-- Empty the shadow banks of a radio. -/
def clearShadow (r : Nat) (s : State) : State :=
  (sectorsOf r).foldl (fun s k => updMould k (fun m => { m with shadow := [] }) s) (updBeam r (fun b => { b with shadow := none }) s)

/-- Why a set is discarded (Table 7-8). -/
inductive Why where
  | error | expired | displaced | incompleteRound | antenna | bad
deriving DecidableEq, Repr, Inhabited

/-- Code in BEAM_SPEC_DISCARD (Table 7-8). -/
def Why.code : Why → Nat
  | .error => 1 | .expired => 2 | .displaced => 3 | .incompleteRound => 4 | .antenna => 5 | .bad => 3

/-- Ledger counter of a discard (Table 7-7). Log entry 40 (DEDUCED). -/
def Why.counter : Why → ParamDef
  | .error => Prm.beamSpecRejected
  | .incompleteRound => Prm.beamSpecRejected
  | .expired => Prm.beamSpecExpired
  | _ => Prm.beamSpecDisplaced

/-- Discard whatever the shadow banks hold; a complete speculative set enters the ledger (R192, R199, R200).
Log entry 40 (DEDUCED). -/
def discardShadow (r : Nat) (why : Why) (err : Option Nat) (s : State) : State :=
  match (s.beamOf r).shadow with
  | none => s
  | some w =>
    let done := s.setComplete r w
    let s := clearShadow r s
    if !w.spec then s
    else
      let s := if done then bump why.counter r s else s
      raise Ev.beamSpecDiscard r (detail [(0, 2, w.id), (2, 1, why.code), (4, 2, (err.or w.err).getD 0)]) s

/-! ### Weight-load entries (Table 7-4) -/

/-- Entry type. -/
def wlType (e : Nat) : Nat := bits e 511 508

/-- The oldest entry of a sector's weight-load FIFO, when it is of a type; it leaves the FIFO. -/
def popEntry (k t : Nat) (s : State) : Option (Nat × State) :=
  match (s.mould k).fifo with
  | e :: rest => if wlType e = t then some (e, updMould k (fun m => { m with fifo := rest }) s) else none
  | [] => none

/-- Run the reading of an entry of a type at a sector; nothing happens where the FIFO's oldest entry is of another type. -/
def readEntry (k t : Nat) (f : Nat → State → State) (s : State) : State :=
  if 8 ≤ k then s else match popEntry k t s with
    | some (e, s) => f e s
    | none => s

/-- A stale set, or a speculative one with speculation disabled or under the power cap, is dropped up to its SET_END (R192,
R195, R495). -/
def dropSet (k id basis : Nat) (s : State) : State :=
  let r := radioOfSector k
  let first := decide ((s.beamOf r).stale ≠ some id)
  let s := updBeam r (fun b => { b with stale := some id }) (updMould k (fun m => { m with dropping := some id }) s)
  if first then raise Ev.beamStaleSet r (detail [(0, 2, id), (4, 4, basis)]) (bump Prm.beamStaleSets r s) else s

/-- A sector pipeline reads SET_BEGIN (R192, R195). -/
def setBegin (k e : Nat) (s : State) : State :=
  let r := radioOfSector k
  let id := bits e 507 492
  let spec := e.testBit 491
  let basis := bits e 490 459
  let b := s.beamOf r
  let joins := match b.shadow with | some w => w.id == id && w.basis == basis && !w.begun.contains k | none => false
  if joins then
    updBeam r (fun b => { b with shadow := b.shadow.map fun w => { w with begun := k :: w.begun } }) s
  else if (match b.active with | some a => !serialNewer 32 basis a.basis | none => false) || 
      (spec && (decide (s.par Prm.beamSpecEnable r = 0) || decide (1 ≤ s.mgmt.capStep))) then
    dropSet k id basis s
  else
    let s := discardShadow r .displaced none s
    updBeam r (fun b => { b with stale := none, shadow := some {
      id := id, spec := spec, basis := basis, validUntil := bits e 458 395, antUsed := bits e 394 331, users := bits e 330 324,
      begun := [k] } }) s

/-- A sector pipeline reads a WEIGHT entry of the set it loads. -/
def weightEntry (k e : Nat) (s : State) : State :=
  let r := radioOfSector k
  match (s.beamOf r).shadow with
  | some w =>
    if (s.mould k).dropping.isNone ∧ w.begun.contains k ∧ !w.ended.contains k ∧ bits e 507 504 = w.id % 16 then
      let key := (bits e 503 496 * 64 + bits e 495 490) * 4 + bits e 489 488
      updBeam r (fun b => { b with shadow := b.shadow.map fun w => { w with counts := w.counts.upd k (· + 1) } })
        (updMould k (fun m => { m with shadow := m.shadow.put key (bits e 479 0) }) s)
    else s
  | none => s

/-- A sector pipeline reads a COLMAP entry: user slots from `first` on. -/
def colmapEntry (k e : Nat) (s : State) : State :=
  let r := radioOfSector k
  let first := bits e 507 502
  let fill := fun (w : ShadowSet) =>
    if w.begun.contains k then
      { w with cols := (List.range 30).foldl (fun t i =>
          if first + i < 64 then t.put (first + i) (bits e (479 - 16 * i) (464 - 16 * i)) else t) w.cols }
    else w
  if (s.mould k).dropping.isSome then s else updBeam r (fun b => { b with shadow := b.shadow.map fill }) s

/-- A sector pipeline reads SET_END: its part of the set closes, or a count mismatch discards the set (R192).
Log entry 40 (DEDUCED). -/
def setEnd (k e : Nat) (s : State) : State :=
  let r := radioOfSector k
  let id := bits e 507 492
  if (s.mould k).dropping = some id then updMould k (fun m => { m with dropping := none }) s
  else match (s.beamOf r).shadow with
    | some w =>
      if w.id ≠ id ∨ !w.begun.contains k ∨ w.ended.contains k then s
      else if w.counts.get k ≠ bits e 491 472 then
        raise Ev.beamSetBad r (detail [(0, 2, id), (2, 1, k)]) (discardShadow r .bad none s)
      else
        let w := { w with ended := k :: w.ended }
        let s := updBeam r (fun b => { b with shadow := some w }) s
        if w.spec && s.setComplete r w then
          raise Ev.beamSpecLoaded r (detail [(0, 2, id), (4, 4, w.basis)]) (bump Prm.beamSpecPrepared r s)
        else s
    | none => s

/-- A sector pipeline reads CONFIRM (R196, R197). -/
def confirmEntry (k e : Nat) (s : State) : State :=
  let r := radioOfSector k
  let err := bits e 459 444
  match (s.beamOf r).shadow with
  | some w =>
    if !w.spec ∨ w.id ≠ bits e 507 492 ∨ !s.setComplete r w then s
    else if bits e 491 460 ≠ w.basis ∨ s.parN Prm.beamSpecEps r < err ∨ err = 65535 then
      discardShadow r .error (some err) s
    else updBeam r (fun b => { b with shadow := some { w with confirmed := k :: w.confirmed, err := some err } }) s
  | none => s

/-- A sector pipeline reads DISCARD (R192). -/
def discardEntry (k e : Nat) (s : State) : State :=
  let r := radioOfSector k
  match (s.beamOf r).shadow with
  | some w =>
    if w.id = bits e 507 492 then discardShadow r (if bits e 491 489 = 4 then .incompleteRound else .displaced) none s else s
  | none => s

def execSetBegin (k : Nat) (s : State) : Host.Outcome State Fault Refusal := .next (readEntry k 2 (setBegin k) s)
def execWeightEntry (k : Nat) (s : State) : Host.Outcome State Fault Refusal := .next (readEntry k 1 (weightEntry k) s)
def execColmap (k : Nat) (s : State) : Host.Outcome State Fault Refusal := .next (readEntry k 3 (colmapEntry k) s)
def execSetEnd (k : Nat) (s : State) : Host.Outcome State Fault Refusal := .next (readEntry k 4 (setEnd k) s)
def execConfirm (k : Nat) (s : State) : Host.Outcome State Fault Refusal := .next (readEntry k 5 (confirmEntry k) s)
def execDiscard (k : Nat) (s : State) : Host.Outcome State Fault Refusal := .next (readEntry k 6 (discardEntry k) s)

/-- A set is still incomplete 2 × update_ms after its SET_BEGIN (R192). -/
def execSetLoadTimeout (r : Nat) (s : State) : Host.Outcome State Fault Refusal :=
  .next (match (s.beamOf r).shadow with
    | some w => if s.setComplete r w then s else bump Prm.beamOverrun r (discardShadow r .displaced none s)
    | none => s)

/-- No set of a basis round has reached SET_END within update_ms of the round's time (R189). -/
def execUpdateLate (r basis : Nat) (s : State) : Host.Outcome State Fault Refusal :=
  .next (
    let b := s.beamOf r
    let met := (match b.active with | some a => a.basis == basis || serialNewer 32 a.basis basis | none => false) ||
      (match b.shadow with | some w => w.basis == basis && s.setComplete r w | none => false)
    if 3 ≤ r ∨ met then s else raise Ev.beamUpdateLate r (detail [(0, 4, basis)]) (bump Prm.beamOverrun r s))

/-! ### Switch points -/

/-- The slot of the estimate store that holds a complete round of this number. -/
def State.roundAt (s : State) (r n : Nat) : Option Round :=
  ((s.beamOf r).est.find? fun e => e.2.round == n && e.2.complete).map (·.2)

/-- The shadow set becomes active (R191, R198, R218). -/
def activate (r : Nat) (w : ShadowSet) (s : State) : State :=
  let time := match s.roundAt r w.basis with | some x => x.time / 65536 | none => s.now
  let s := (sectorsOf r).foldl (fun s k => updMould k (fun m => { m with bank := m.shadow, shadow := [] }) s) s
  let s := updBeam r (fun b => { b with
    active := some { id := w.id, basis := w.basis, time := time, antUsed := w.antUsed, cols := w.cols }
    shadow := none, ageUs := min ((s.now - time) / 1000) 0xFFFFFFFF }) s
  let lost := (s.beamOf r).stations.filter fun k => !(s.activeStations r).contains k
  bumpBy Prm.wlanSchedOrphan r lost.length (updBeam r (fun b => { b with orphans := lost }) s)

/-- The decision of Table 7-6 at a switch point. -/
def decideSwitch (r : Nat) (s : State) : State :=
  match (s.beamOf r).shadow with
  | none => s
  | some w =>
    if !s.setComplete r w then s
    else if !w.spec then activate r w s
    else if w.validUntil < s.now then discardShadow r .expired none s
    else
      let round := s.roundAt r w.basis
      let read := (s.enabledSectors r).all fun k => w.confirmed.contains k
      match round with
      | some x =>
        if read then
          raise Ev.beamSpecCommit r (detail [(0, 2, w.id), (2, 2, w.err.getD 0), (4, 4, (s.now - x.doneAt) / 1000)])
            (bump Prm.beamSpecCommitted r (activate r w s))
        else raise Ev.beamSpecMiss r (detail [(0, 2, w.id), (2, 1, 1)]) (bump Prm.beamSpecMissedCp r s)
      | none => raise Ev.beamSpecMiss r (detail [(0, 2, w.id), (2, 1, 0)]) (bump Prm.beamSpecMissedCp r s)

/-- A sector takes committed BEAM values; a change of the speculation limits or of the streams displaces a speculative set
(R200). -/
def applyBeam (k : Nat) (ks : List Nat) (s : State) : State :=
  let r := radioOfSector k
  let spec := match (s.beamOf r).shadow with | some w => w.spec | none => false
  let hit := changedAt ks r Prm.beamSpecEnable || changedAt ks r Prm.beamSpecEps ||
    (sectorsOf r).any fun j => changedAt ks j Prm.beamMaxStreams
  if spec && hit then discardShadow r .displaced none s else s

/-- Every sector of a radio takes committed BEAM values (R193, R210). -/
def takeBeam (r : Nat) (s : State) : State :=
  let s := switchWaiting Tbl.beamGeom.id r s
  finishCommits ((sectorsOf r).foldl (fun s k =>
    let (ks, s) := unitTakes 7 k (switchWaiting Tbl.beamCover.id k s)
    applyBeam k ks s) s)

/-- The switch point of a transmit interval (R193, R198); interrupt source 11 + r stays set until it is acknowledged
(Table 9-9). -/
def execSwitchPoint (r : Nat) (s : State) : Host.Outcome State Fault Refusal :=
  .next (if 3 ≤ r then s
    else
      let s := decideSwitch r (takeBeam r s)
      { s with task := { s.task with swpLevel := s.task.swpLevel.put r true } })

/-- A channel stops being usable (R190). -/
def execChannelUnusable (c : Nat) (s : State) : Host.Outcome State Fault Refusal :=
  .next (
    let r := radioOfAch c
    if 128 ≤ c ∨ (s.ach c).st = .active then s
    else
      let s := raise Ev.beamAntDrop r (detail [(0, 1, c)]) (bump Prm.beamAntDrop r s)
      let s := updBeam r (fun b => { b with extra := b.extra + 1 }) s
      match (s.beamOf r).shadow with
      | some w => if w.spec ∧ w.antUsed.testBit (c - radioFirst r) then discardShadow r .antenna none s else s
      | none => s)

/-- A channel switch or a sector recast empties the banks named (R184, R204). -/
def emptyBanks (r : Nat) (activeToo : Bool) (s : State) : State :=
  let s := clearShadow r (discardShadow r .displaced none s)
  if activeToo then
    (sectorsOf r).foldl (fun s k => updMould k (fun m => { m with bank := [] }) s) (updBeam r (fun b => { b with active := none }) s)
  else s

/-! ### Assay -/

/-- One step of the 32-bit Galois LFSR x³² + x²² + x² + x + 1 (R201). -/
def lfsrStep (v : Nat) : Nat := if v.testBit 31 then (v * 2 % 2 ^ 32) ^^^ 0x00400007 else v * 2

/-- A draw: 32 steps. Log entry 41 (DESIGN CHOICE). -/
def lfsrDraw : Nat → Nat → Nat
  | 0, v => v
  | n + 1, v => lfsrDraw n (lfsrStep v)

/-- The two assay tones of a symbol of T tones, and the register after the two draws (R201). -/
def assayTones (T v : Nat) : Nat × Nat × Nat :=
  let a := lfsrDraw 32 v
  let b := lfsrDraw 32 a
  let t1 := a % T
  (t1, (t1 + 1 + b % (T - 1)) % T, b)

/-- Seed the assay registers from the random number generator (R201). Log entry 41 (DESIGN CHOICE). -/
def seedAssay (s : State) : State :=
  (List.range 8).foldl (fun s k =>
    let (x, s) := drawBelow (2 ^ 32) s
    let (y, s) := drawBelow (2 ^ 32) s
    updMould k (fun m => { m with lfsrTx := x, lfsrRx := y }) s) s

/-- An assay mismatch of a sector (R203, R204). -/
def assayMismatch (k : Nat) (rx : Bool) (t1 t2 : Nat) (s : State) : State :=
  let s := raise Ev.beamAssayMismatch k (detail [(0, 1, b2n rx), (2, 2, t1), (4, 2, t2)]) (bump Prm.beamAssayMismatch k s)
  let times := ((s.mould k).mismatches.filter fun t => decide (s.now < t + 1000000000)) ++ [s.now]
  let s := updMould k (fun m => { m with mismatches := times, txZero := m.txZero || !rx, rxDrop := m.rxDrop || rx }) s
  if 3 ≤ times.length then
    let s := updMould k (fun m => { m with mismatches := [] }) (emptyBanks (radioOfSector k) false s)
    admitFault ⟨0, 7, k⟩ Cause.assay (bump Prm.beamRecastCount k s)
  else s

/-- The checker has recomputed the assay tones of a symbol of T tones: `wrong` names the tones whose pipeline output
differs, and `residue` a mismatch of the combining adder, which counts for every sector of the interval (R202, R203). -/
def execSymbolAssay (k : Nat) (rx : Bool) (T : Nat) (wrong : List Nat) (residue : Bool) (s : State) :
    Host.Outcome State Fault Refusal :=
  .next (
    if 8 ≤ k ∨ T < 2 then s
    else
      let v := if rx then (s.mould k).lfsrRx else (s.mould k).lfsrTx
      let (t1, t2, v) := assayTones T v
      let s := updMould k (fun m => if rx then { m with lfsrRx := v } else { m with lfsrTx := v }) s
      let s := if wrong.contains t1 || wrong.contains t2 then assayMismatch k rx t1 t2 s else s
      if residue then ((s.beamOf (radioOfSector k)).sectors).foldl (fun s j => assayMismatch j rx t1 t2 s) s else s)

/-! ### Reports -/

/-- Firmware refreshes the reports of a radio after a switch: entries of the active set's stations take the figures
computed from the measured channels, those of stations that have left become invalid (R206, R207). Log entry 38 (DESIGN CHOICE). -/
def execStaReportRefresh (r : Nat) (figs : List StaFigures) (nulls : List (Nat × Int × Nat)) (s : State) :
    Host.Outcome State Fault Refusal :=
  .next (match (s.beamOf r).active with
    | none => s
    | some a =>
      let here := a.cols.filterMap fun e => colStation e.2
      let s := figs.foldl (fun s f =>
        match here.find? fun x => x.2 == f.station with
        | none => s
        | some (k, _) =>
          let sched := (s.beamOf r).stations.contains f.station
          setActive Tbl.staReport 0 f.station
            (le 2 (f.station + k * 2048 + 16384 + (if sched then 32768 else 0)) ++ le 2 a.id ++ le 4 a.basis ++
              le 2 (twos 16 f.mean) ++ le 2 (twos 16 f.low) ++ le 2 (twos 16 f.leakIn) ++ le 2 (twos 16 f.leakOut) ++
              le 2 (match f.uplink with | some u => twos 16 u | none => 0x8000) ++ le 6 0 ++ le 8 a.time) s) s
      let gone := pick 2048 fun k =>
        let e := s.entryNat Tbl.staReport 0 k
        e.testBit 14 && decide (radioOfSector (bits e 13 11) = r) && !here.any fun x => x.2 == k
      let s := gone.foldl (fun s k => setActive Tbl.staReport 0 k (le 32 (setBit (s.entryNat Tbl.staReport 0 k) 14 false)) s) s
      nulls.foldl (fun s x => if x.1 < 16 then
        setActive Tbl.nullReport r x.1 (le 2 (twos 16 x.2.1) ++ le 2 x.2.2 ++ le 2 a.id) s else s) s)

/-- A direction estimate from a received PPDU, with direction cosines in units of 2⁻¹⁵ and its SNR in dB (R209).
Log entry 38 (DESIGN CHOICE). -/
def execAoaDetection (r : Nat) (u v : Int) (snr : Int) (sta : Option Nat) (s : State) : Host.Outcome State Fault Refusal :=
  .next (
    if (r ≠ 1 ∧ r ≠ 2) ∨ s.par Prm.beamAoaEnable r = 0 ∨ snr < 10 ∨ 2 ^ 30 < u * u + v * v then s
    else
      let bin := 32 * min 31 ((v + 32768) / 2048).toNat + min 31 ((u + 32768) / 2048).toNat
      updBeam r (fun b => { b with
        hits := b.hits.upd bin (· + 1)
        seen := match sta with
          | some k => if b.seen.contains (bin * 4096 + k) then b.seen else b.seen ++ [bin * 4096 + k]
          | none => b.seen }) s)

/-- The map of the past second becomes readable (R209). -/
def latchAoa (r : Nat) (s : State) : State :=
  let b := s.beamOf r
  let s := (List.range 1024).foldl (fun s i =>
    let st := (b.seen.filter fun x => decide (x / 4096 = i)).length
    setActive Tbl.aoaMap r i (le 2 (min (b.hits.get i) 65535) ++ le 2 (min st 65535)) s) s
  updBeam r (fun b => { b with hits := [], seen := [] }) s

/-! ### Commit checks -/

/-- cost(K, N) of R189. -/
def beamCost (K N : Nat) : Nat := K * (K + 1) / 2 * N + K * K * K / 6 + K * K * N + K * N

/-- Committed K_r and N_r (R180). -/
def State.committedK (s : State) (r : Nat) : Nat :=
  (((sectorsOf r).filter fun k => decide (s.com Prm.beamEnable k = 1)).map fun k => (s.com Prm.beamMaxStreams k).toNat).sum
def State.committedN (s : State) (r : Nat) : Nat :=
  ((List.range (radioN r)).filter fun j => decide (s.com Prm.achEnable (radioFirst r + j) = 1)).length

/-- The confirmed-update load fits the budget, compared as exact fractions (R189); `groups` gives G_r. -/
def State.loadFits (s : State) (groups : Nat → Nat) : Bool :=
  let part := fun r =>
    let K := s.committedK r
    if K = 0 then 0 else groups r * beamCost K (s.committedN r) * 1000 * (12 / (s.com Prm.beamUpdateMs r).toNat)
  decide ((part 0 + part 1 + part 2) * 100 ≤ (s.com Prm.beamBudgetPct 0).toNat * 51200000000 * 12)

/-- Radios that contribute to the load, with the parameters that R189 names. -/
def State.loadNames (s : State) : List (ParamDef × Nat) :=
  ((List.range 3).filter fun r => decide (0 < s.committedK r)).flatMap fun r =>
    (Prm.beamUpdateMs, r) :: ((sectorsOf r).filter fun k => decide (s.com Prm.beamEnable k = 1)).map fun k => (Prm.beamMaxStreams, k)

/-- Tone groups under the committed channel. -/
def State.committedGroups (s : State) (r : Nat) : Nat := groupsFor r (s.com Prm.wlanBw r).toNat (s.com Prm.wlanPunct r).toNat

/-- Offences of a BEAM commit (R180, R189, R209, Table 7-13). -/
def beamOffences (s : State) : List Offence :=
  ((List.range 3).flatMap fun r =>
    offend (decide (s.committedK r ≤ s.committedN r)) 7
      (((sectorsOf r).filter fun k => decide (s.com Prm.beamEnable k = 1)).map fun k => (Prm.beamMaxStreams, k)) ++
    offend (decide (r ≠ 0) || decide (s.com Prm.beamAoaEnable r = 0)) 6 [(Prm.beamAoaEnable, r)] ++
    offend (decide (s.com Prm.beamAoaEnable r = 0) ||
      (List.range (radioN r)).all fun j => decide (fieldAt (s.entry Tbl.beamGeom r j) 6 2 ≠ 0x8000)) 6 [(Prm.beamAoaEnable, r)]) ++
  offend (s.loadFits s.committedGroups) 6 s.loadNames

end Sys2Proof.Machine
end

