-- ==== Sys2Proof/Machine/Stations.lean ====
section
/-!
DEFINITION. The station table (R225, Table 8-2) and its fields.
-/
namespace Sys2Proof.Machine

/-- STA.entry (Table 8-2). -/
def Tbl.staEntry : TableDef where
  id := 0x09100000
  insts := 2048
  entries := fun _ => 1
  size := 64
  dflt := fun _ _ => List.replicate 44 0 ++ [0xFF]

/-- The entry of station k, as one number. -/
def State.sta (s : State) (k : Nat) : Nat := s.entryNat Tbl.staEntry k 0

def staValid (v : Nat) : Bool := bit v 63
def staMld (v : Nat) : Nat := bits v 47 0
def staAid (v : Nat) : Nat := bits v 58 48
def staPmf (v : Nat) : Bool := bit v 62
def staAddr (v r : Nat) : Nat := bits v (64 * (r + 1) + 47) (64 * (r + 1))
def staSector (v r : Nat) : Nat := bits v (64 * (r + 1) + 50) (64 * (r + 1) + 48)
/-- A link is set up on radio r. -/
def staLink (v r : Nat) : Bool := bit v (64 * (r + 1) + 51)
def staClass (v r : Nat) : Nat := bits v (64 * (r + 1) + 54) (64 * (r + 1) + 52)
/-- Streams of the station. -/
def staNss (v r : Nat) : Nat := bits v (64 * (r + 1) + 57) (64 * (r + 1) + 55) + 1
def staBw (v r : Nat) : Nat := bits v (64 * (r + 1) + 60) (64 * (r + 1) + 58)
def staPtk (v : Nat) : Option Nat := if bit v 268 then some (bits v 267 256) else none
def staPtk2 (v : Nat) : Option Nat := if bit v 269 then some (bits v 283 272) else none
def staTxKey (v : Nat) : Nat := bits v 270 270
def staCipher (v : Nat) : Nat := bits v 287 284
def staMode (v : Nat) : Nat := bits v 289 288
/-- TID t may use radio r. -/
def staTidLink (v t r : Nat) : Bool := bit v (296 + 3 * t + r)
def staUapsd (v : Nat) : Nat := bits v 327 320
def staListen (v : Nat) : Nat := bits v 343 328
def staRtwt (v : Nat) : Nat := bits v 351 344
def staUlAlloc (v : Nat) : Nat := bits v 359 352

/-- Radios on which station k has a link. -/
def staLinks (v : Nat) : List Nat := if staValid v then (List.range 3).filter (staLink v) else []

end Sys2Proof.Machine
end

