-- ==== Sys2Proof/Machine/TollQ.lean ====
section
/-!
DEFINITION. Tollgate's queues: enqueue, policing and drops (R365 to R369), buckets and tiers (R370), gates (R373, R375),
active lists and decisions (R371, R372), and broken guarantees (R376, R377).
-/
namespace Sys2Proof.Machine

def State.tq (s : State) (q : Nat) : TollQ := s.toll.q.get q
def updTq (q : Nat) (f : TollQ → TollQ) (s : State) : State := { s with toll := { s.toll with q := s.toll.q.upd q f } }
def State.sched (s : State) (e : Nat) : Sched := s.toll.sched.get e
def updSched (e : Nat) (f : Sched → Sched) (s : State) : State := { s with toll := { s.toll with sched := s.toll.sched.upd e f } }

/-- TOLL.gate (Tables 12-4 and 12-5); instances 67 to 74 have it. -/
def Tbl.tollGate : TableDef where
  id := 0x0F100000
  insts := 75
  entries := fun _ => 257
  size := 16
  dflt := fun _ i => if i = 0 then le 16 (2 ^ 81) else le 16 0xFF

/-- TOLL.policer (Table 12-3). -/
def Tbl.tollPolicer : TableDef where
  id := 0x0F110000
  insts := 1
  entries := fun _ => 4096
  size := 16
  dflt := fun _ _ => le 16 (2 ^ 113)

/-- TOLL.sample (Table 12-7). -/
def Tbl.tollSample : TableDef where
  id := 0x0F120000
  insts := 1
  entries := fun _ => 17408
  size := 16

/-- Number of queues. -/
def queues : Nat := 17408

/-- A queue that Table 12-1 assigns. -/
def assignedQueue (q : Nat) : Bool :=
  decide (q < 16955) || (decide (16960 ≤ q) && decide (q ≤ 16979))

/-- Schedulers of a queue (Table 12-1, R367). -/
def State.schedsOf (s : State) (q : Nat) : List Nat :=
  if q < 16384 then
    let v := s.sta (q / 8)
    (staLinks v).filter fun r => staTidLink v (q % 8) r
  else if q < 16896 then [3 + (q - 16384) / 8]
  else if q < 16928 then [67 + (q - 16896) / 8]
  else if q < 16955 then [71]
  else if q = 16960 then [3]
  else if 16961 ≤ q ∧ q < 16969 then [radioOfSector (q - 16961)]
  else if 16969 ≤ q ∧ q < 16977 then [radioOfSector (q - 16969)]
  else if q = 16977 ∨ q = 16978 then [72 + (q - 16977)]
  else if q = 16979 then [74]
  else []

/-! ### Depth and buckets -/

/-- Depth in counted bytes. -/
def TollQ.depth (x : TollQ) : Nat := (x.pkts.map (·.len)).sum

/-- Counted length L' of a packet (R368). -/
def State.counted (s : State) (q len : Nat) : Nat := ((len : Int) + s.par Prm.tollOverhead q).toNat

/-- One byte in the units of the bucket debts. -/
def byteUnit : Nat := 8000000

/-- Depth of bucket C of a queue, in debt units. Log entry 76 (DESIGN CHOICE). -/
def State.cDepth (s : State) (q : Nat) : Nat := s.parN Prm.tollCbsBytes q * byteUnit
/-- Log entry 76 (DESIGN CHOICE). -/
def State.pDepth (s : State) (q : Nat) : Nat := s.parN Prm.tollPbsBytes q * byteUnit

/-- C and P enabled (R370). -/
def State.cOn (s : State) (q : Nat) : Bool := decide (0 < s.parN Prm.tollCirKbps q)
def State.pOn (s : State) (q : Nat) : Bool := decide (0 < s.parN Prm.tollPirKbps q)

/-- Fill the buckets of a queue up to now: a rate of r kb/s fills r debt units in a nanosecond (R370).
Log entry 76 (DESIGN CHOICE). -/
def fillBuckets (q : Nat) (s : State) : State :=
  updTq q (fun x =>
    let dt := s.now - x.filled
    { x with cDebt := x.cDebt - s.parN Prm.tollCirKbps q * dt
             pDebt := x.pDebt - s.parN Prm.tollPirKbps q * dt
             filled := s.now }) s

/-- Tokens above 0. -/
def State.cPositive (s : State) (q : Nat) : Bool := decide ((s.tq q).cDebt < s.cDepth q)
def State.pPositive (s : State) (q : Nat) : Bool := decide ((s.tq q).pDebt < s.pDepth q)

/-- Debit both buckets by L'; neither falls below minus its depth, and a bucket below its cap ends its episode (R370,
R377). Log entry 76 (DESIGN CHOICE). -/
def debitBuckets (q len : Nat) (s : State) : State :=
  let s := fillBuckets q s
  updTq q (fun x =>
    let c := if s.cOn q then min (x.cDebt + len * byteUnit) (2 * s.cDepth q) else 0
    let p := if s.pOn q then min (x.pDebt + len * byteUnit) (2 * s.pDepth q) else 0
    { x with cDebt := c, pDebt := p
             cEpisode := x.cEpisode && decide (c = 0), pEpisode := x.pEpisode && decide (p = 0) }) s

/-! ### Gates -/

/-- Gate class of a queue. -/
def State.gateClass (s : State) (q : Nat) : Nat := s.parN Prm.tollGateClass q

/-- The scheduler has gates (R373). -/
def gated (e : Nat) : Bool := decide (67 ≤ e)

def State.gateIsOpen (s : State) (e q : Nat) : Bool := !gated e || bit (s.sched e).gateOpen (s.gateClass q)
def State.gateProtects (s : State) (e q : Nat) : Bool :=
  gated e && bit ((s.sched e).gateOpen &&& (s.sched e).gateProtect) (s.gateClass q)

/-- Header fields of a gate list page (Table 12-4). -/
structure GateHead where
  base : Nat
  tb : Nat
  count : Nat
  guard : Bool
deriving DecidableEq, Repr, Inhabited

def gateHead (b : List Byte) : GateHead :=
  let v := leNat b
  { base := bits v 63 0, tb := bits v 67 64, count := bits v 80 72, guard := bit v 81 }

/-- Open, protect and duration of a gate entry (Table 12-5). -/
def gateEntry (b : List Byte) : Nat × Nat × Nat :=
  let v := leNat b
  (bits v 7 0, bits v 15 8, bits v 63 32)

/-- The entries 1 to count of the active page. Log entry 75 (DEDUCED). -/
def State.gateList (s : State) (e : Nat) : List (Nat × Nat × Nat) :=
  (List.range (gateHead (s.entry Tbl.tollGate e 0)).count).map fun i => gateEntry (s.entry Tbl.tollGate e (i + 1))

/-- Cycle time of a list. -/
def gateCycle (l : List (Nat × Nat × Nat)) : Nat := (l.map fun x => x.2.2).sum

/-- Time from now until class c closes on scheduler e; `none` where it never does. -/
def State.gateCloses (s : State) (e c : Nat) : Option Nat :=
  let h := gateHead (s.entry Tbl.tollGate e 0)
  let l := s.gateList e
  let g := s.sched e
  if h.count = 0 ∨ g.gateEntry = 0 then none
  else if l.all fun x => bit x.1 c then none
  else
    let i := g.gateEntry - 1
    let turn := l.drop i ++ l.take i
    let run := turn.takeWhile fun x => bit x.1 c
    some (g.gateAt + gateCycle run - s.tbNs h.tb)

/-- Rate of Ethernet port n in Gb/s (Table 4-1). -/
def State.portGbps (s : State) (n : Nat) : Nat :=
  match s.par Prm.laneRate (16 + n) with | 3 => 10 | 4 => 25 | 5 => 50 | _ => 0

/-- A packet of L' bytes may start now under the guard (R375). Log entry 75 (DEDUCED). -/
def State.guardAllows (s : State) (e q len : Nat) : Bool :=
  if e < 67 ∨ 71 ≤ e then true
  else if !(gateHead (s.entry Tbl.tollGate e 0)).guard then true
  else match s.gateCloses e (s.gateClass q) with
    | none => true
    | some t =>
      -- R417: a port in low-power idle adds its wake time
      let x := s.eth.port.get (e - 67)
      let wake := if x.lpi then x.tw * 1000 else x.readyAt - s.now
      decide (len * 8 + wake * s.portGbps (e - 67) ≤ t * s.portGbps (e - 67))

/-! ### Tiers and lists -/

/-- Tier of a queue on a scheduler; `none` is ineligible (R370). The buckets have been filled up to now. -/
def State.tier (s : State) (e q : Nat) : Option Nat :=
  if (s.tq q).heldOff || !s.gateIsOpen e q then none
  else if s.gateProtects e q then some 0
  else if s.pOn q && !s.pPositive q then none
  else if s.cOn q && s.cPositive q then some 1
  else if s.pOn q then some 2
  else some 3

/-- Backlogged queues of a scheduler, ascending. -/
def State.backlogged (s : State) (e : Nat) : List Nat :=
  ((s.toll.q.filter fun x => !x.2.pkts.isEmpty).map (·.1)).filter fun q => (s.schedsOf q).contains e

/-- Take a queue off an active list; a pointer at it moves back to the queue before it. Log entry 75 (DEDUCED). -/
def Sched.drop (x : Sched) (q : Nat) : Sched :=
  let before := x.list.takeWhile fun a => a.q != q
  { x with list := x.list.filter fun a => a.q != q
           pointer := if x.pointer = some q then (before.getLast?).map (·.q) else x.pointer }

/-- A turn ends: the queue moves to the tail and the pointer to it (R371). -/
def Sched.endTurn (x : Sched) (q : Nat) : Sched :=
  match x.list.find? fun a => a.q == q with
  | none => x
  | some a => { x with list := (x.list.filter fun b => b.q != q) ++ [{ a with turn := none }], pointer := some q }

/-- Bring the active list of a scheduler up to date: buckets filled, queues that are no longer backlogged or eligible
taken off, those that became so joined at the tail with no deficit, and turns ended where the tier changed (R371,
R372). -/
def refreshList (e : Nat) (s : State) : State :=
  let qs := s.backlogged e
  let s := qs.foldl (fun s q => fillBuckets q s) s
  let ok := qs.filter fun q => (s.tier e q).isSome
  let x := s.sched e
  let x := (x.list.filter fun a => !ok.contains a.q).foldl (fun x a => x.drop a.q) x
  let joiners : List Active := (ok.filter fun q => !(x.list.any fun a => a.q == q)).map fun q => { q := q, last := s.now }
  let x : Sched := { x with list := x.list ++ joiners }
  let x := x.list.foldl (fun x a => match a.turn with
    | some t => if s.tier e a.q = some t then x else x.endTurn a.q
    | none => x) x
  updSched e (fun _ => x) s

/-- The list in the order in which a decision searches it, and how many of its queues come before the tail is passed. -/
def Sched.order (x : Sched) : List Active × Nat :=
  match x.pointer with
  | none => (x.list, x.list.length)
  | some p =>
    let before := x.list.takeWhile fun a => a.q != p
    if before.length = x.list.length then (x.list, x.list.length)
    else
      let after := x.list.drop (before.length + 1)
      (after ++ x.list.take (before.length + 1), after.length)

/-- The lowest tier on the list among the queues that the egress can take. -/
def State.lowestTier (s : State) (e : Nat) (ready : Nat → Bool) : Option Nat :=
  lowest 4 fun t => (s.sched e).list.any fun a => ready a.q && s.tier e a.q == some t

/-- One pass of a dequeue decision (R371) over the queues whose head packet the egress can take: the queue and packet that
leave, when one does. -/
def dequeueFrom (e : Nat) (ready : Nat → Bool) (s : State) : Option (Nat × QPkt) × State :=
  let s := refreshList e s
  match s.lowestTier e ready with
  | none => (none, s)
  | some t =>
    let (ord, early) := (s.sched e).order
    match ord.findIdx? fun a => ready a.q && s.tier e a.q == some t with
    | none => (none, s)
    | some i =>
      let a := ord.getD i default
      let q := a.q
      -- the search passed the tail of the list
      let s := if early ≤ i then updSched e (fun x => { x with vtime := (x.vtime + 1) % 2 ^ 32 }) s else s
      let d := if a.turn.isNone then a.deficit + s.parN Prm.tollQuantum q else a.deficit
      let s := updSched e (fun x => { x with list := x.list.map fun b =>
        if b.q = q then { b with deficit := d, turn := some t, last := s.now } else b }) s
      match (s.tq q).pkts with
      | [] => (none, s)
      | h :: rest =>
        if d < h.len then (none, updSched e (fun x => x.endTurn q) s)
        else if !s.guardAllows e q h.len then (none, s)
        else
          let s := updTq q (fun x => { x with pkts := rest }) (debitBuckets q h.len s)
          let s := bumpBy Prm.tollDequeued q h.len s
          let s := updSched e (fun x => { x with
            list := x.list.map fun b => if b.q = q then { b with deficit := d - h.len } else b
            windowServed := if t = 0 then some q else x.windowServed }) s
          let s := if rest.isEmpty then updSched e (fun x => x.drop q) s
            else if s.tier e q = some t then s else updSched e (fun x => x.endTurn q) s
          (some (q, h), s)

/-- One pass of a dequeue decision of an egress that takes any queue. -/
def dequeue (e : Nat) (s : State) : Option (Nat × QPkt) × State := dequeueFrom e (fun _ => true) s

/-! ### Enqueue -/

/-- Fields of a policer entry (Table 12-3). -/
structure PolicerEntry where
  cir : Nat
  pir : Nat
  cbs : Nat
  pbs : Nat
  valid : Bool
  redDrop : Bool
deriving DecidableEq, Repr, Inhabited

def policerEntry (b : List Byte) : PolicerEntry :=
  let v := leNat b
  { cir := bits v 31 0, pir := bits v 63 32, cbs := bits v 87 64, pbs := bits v 111 88, valid := bit v 112, redDrop := bit v 113 }

/-- Colour a packet of L' bytes: the colour-blind two-rate three-colour marker of RFC 2698 (R368). -/
def police (n len : Nat) (s : State) : Nat × State :=
  let p := policerEntry (s.entry Tbl.tollPolicer 0 n)
  let x := s.toll.policer.get n
  let dt := s.now - x.filled
  let c := x.cDebt - p.cir * dt
  let pk := x.pDebt - p.pir * dt
  let need := len * byteUnit
  let (col, c, pk) :=
    if p.pbs * byteUnit < pk + need then (2, c, pk)
    else if p.cbs * byteUnit < c + need then (1, c, pk + need)
    else (0, c + need, pk + need)
  (col, { s with toll := { s.toll with policer := s.toll.policer.put n { cDebt := c, pDebt := pk, filled := s.now } } })

/-- Packet length of a waybill, as the counted length sees it. -/
def State.lenOf (s : State) (h : Nat) : Nat := (s.wb h).length

/-- ENQUEUE: police, test the depth, and add the packet to its queue, or release it (R366, R368). -/
def enqueue (h q : Nat) (s : State) : State :=
  if !assignedQueue q then free h (bump Prm.tollUnassigned 0 s)
  else
    let len := s.counted q (s.lenOf h)
    let n := s.parN Prm.tollPolicer q
    let (col, s) := if n = 0xFFFF then (3, s) else police n len s
    let s := updWb h (fun w => { w with color := col, queue := q, owner := 11 }) s
    let depth := (s.tq q).depth + len
    if n ≠ 0xFFFF ∧ col = 2 ∧ (policerEntry (s.entry Tbl.tollPolicer 0 n)).redDrop then free h (bump Prm.tollDropColor q s)
    else if col = 1 ∧ s.parN Prm.tollYellowMaxBytes q ≠ 0 ∧ s.parN Prm.tollYellowMaxBytes q < depth then
      free h (bump Prm.tollDropColor q s)
    else if s.parN Prm.tollQmaxBytes q < depth then free h (bump Prm.tollDropTail q s)
    else
      let s := updTq q (fun x => { x with pkts := x.pkts ++ [{ handle := h, len := len, at_ := s.now }] }) s
      (s.schedsOf q).foldl (fun s e => refreshList e s) s

/-- ENQUEUE, of a packet in the path whose queue has been chosen (R368). -/
def execEnqueue (h q : Nat) (s : State) : Host.Outcome State Fault Refusal :=
  .next (
    if (s.wb h).used && !(s.toll.q.any fun x => x.2.pkts.any fun p => p.handle == h) then
      if q = 0x7FFF then free h s
      else if queues ≤ q then free h (bump Prm.pktBadQueue 0 s)
      else enqueue h q s
    else s)

/-- Flush a queue: every waybill is released and counted (R369). -/
def flushQueue (q : Nat) (s : State) : State :=
  let hs := (s.tq q).pkts.map (·.handle)
  let s := updTq q (fun x => { x with pkts := [] }) s
  let s := hs.foldl (fun s h => free h s) s
  let s := if hs.isEmpty then s else bumpBy Prm.tollFlushed q hs.length s
  (List.range 75).foldl (fun s e => if (s.sched e).list.any fun a => a.q == q then updSched e (fun x => x.drop q) s else s) s

/-- Hold a queue ineligible, or end that (R227, R372). Log entry 75 (DEDUCED). -/
def holdQueue (q : Nat) (on : Bool) (s : State) : State :=
  let s := updTq q (fun x => { x with heldOff := on }) s
  (s.schedsOf q).foldl (fun s e => refreshList e s) s

/-! ### Broken guarantees -/

/-- Rank of an occupant kind of ranks 1 and 2 (Table 12-6). -/
def occupantRank (k : Nat) : Nat := if k = 1 then 1 else 2

/-- A break of rank `rank` of a queue, or of an item that holds no queue (0xFFFF), on scheduler e (R377): the counters and
the event, and true where the holder outranks the loss. -/
def breakGuarantee (rank loser loserKind e : Nat) (o : Occupant) (s : State) : Bool × State :=
  let closed := gated e && decide (loser < queues) && !s.gateIsOpen e loser && decide ((s.sched e).gateProtect ≠ 0)
  let holder : Option (Nat × Nat × Nat) :=
    if 1 ≤ o.kind ∧ o.kind ≤ 4 then some (occupantRank o.kind, 0xFFFF, o.kind)
    else if closed then some (3, ((s.sched e).windowServed).getD 0xFFFF, 5)
    else match o.serving with
      | some q => some (match s.tier e q with | some 0 => 3 | some 1 => 4 | some 2 => 5 | _ => 6, q, 0)
      | none => if o.kind = 6 ∨ o.kind = 7 then some (3, 0xFFFF, o.kind) else none
  match holder with
  | some (hr, hq, hk) =>
    if hr < rank then
      let unit := if 3 ≤ e ∧ e < 67 then e - 3 else o.unit
      (true, raise Ev.tollGuaranteeBroken loser
        (detail [(0, 1, hr), (1, 1, rank), (2, 2, hq), (4, 1, hk), (5, 1, loserKind), (6, 1, e), (7, 1, unit)])
        (bump Prm.tollBroken rank s))
    else (false, s)
  | none => (false, s)

end Sys2Proof.Machine
end

