-- ==== Sys2Proof/Machine/Classify.lean ====
section
/-!
DEFINITION. Rules, flows, bridging, routing and address translation (R344 to R356), and the ways a packet leaves the
classifier (R328, R350, R357).
-/
namespace Sys2Proof.Machine

/-- PKT.itable (R344): every entry is job queue 0 at first. -/
def Tbl.pktItable : TableDef where
  id := 0x0C120000
  insts := 64
  entries := fun _ => 512
  size := 2
  dflt := fun _ _ => le 2 0x8000

/-- PKT.hash_key (R343). -/
def Tbl.pktHashKey : TableDef where
  id := 0x0C130000
  insts := 1
  entries := fun _ => 1
  size := 56

/-- PKT.nexthop (R354). -/
def Tbl.pktNexthop : TableDef where
  id := 0x0C140000
  insts := 1
  entries := fun _ => 4096
  size := 32

/-- PKT.mcast (Table 11-13). -/
def Tbl.pktMcast : TableDef where
  id := 0x0C150000
  insts := 4096
  entries := fun _ => 64
  size := 2
  dflt := fun _ _ => le 2 0xFFFF

/-- PKT.dscp_map (R356, R362). -/
def Tbl.pktDscpMap : TableDef where
  id := 0x0C160000
  insts := 1
  entries := fun _ => 64
  size := 1
  dflt := fun _ k => le 1 (k / 8)

/-- PON.xgem (Table 10-7). -/
def Tbl.ponXgem : TableDef where
  id := 0x0B100000
  insts := 1
  entries := fun _ => 1024
  size := 8

/-! ### Rules -/

/-- Fields of a rule action (Table 11-8). -/
structure Action where
  op : Nat
  spread : Bool
  valid : Bool
  tid : Nat
  setTid : Bool
  queue : Nat
  itable : Nat
  reserved : Nat
  nexthop : Nat
  group : Nat
  useGroup : Bool
  zone : Nat
  mark : Nat
  setMark : Bool
deriving DecidableEq, Repr, Inhabited

/-- The action of a 176-byte rule. -/
def ruleAction (b : List Byte) : Action :=
  let v := fieldAt b 160 16
  { op := bits v 2 0, spread := bit v 3, valid := bit v 4, tid := bits v 7 5, setTid := bit v 8, queue := bits v 23 9
    itable := bits v 29 24, reserved := bits v 31 30 + bits v 127 90, nexthop := bits v 43 32, group := bits v 55 44
    useGroup := bit v 56, zone := bits v 72 57, mark := bits v 88 73, setMark := bit v 89 }

/-- A valid rule matches a key: every bit its mask compares is equal (R346). -/
def ruleMatches (b : List Byte) (key : Nat) : Bool :=
  (ruleAction b).valid && decide ((fieldAt b 0 80 ^^^ key) &&& fieldAt b 80 80 = 0)

/-- The matching rule of lowest index. -/
def matchRule (rules : Tab (List Byte)) (key : Nat) : Option (Nat × List Byte) := rules.find? fun r => ruleMatches r.2 key

/-! ### Flow table -/

/-- Key bytes of a flow lookup or entry: type, protocol, zone, addresses and ports (Table 11-10). -/
def flowKey (typ proto zone : Nat) (src dst : List Byte) (sport dport : Nat) : List Byte :=
  le 1 typ ++ le 1 proto ++ le 2 zone ++ bytesAt src 0 16 ++ bytesAt dst 0 16 ++ beBytes 2 sport ++ beBytes 2 dport

/-- The eight candidate indices of a key (R352). -/
def flowCandidates (key : List Byte) : List Nat :=
  [0, 1].flatMap fun h =>
    let b := Config.flowHash h key % 2 ^ 20
    (List.range 4).map fun w => 4 * b + w

def State.flowAt (s : State) (i : Nat) : List Byte := s.pkt.flow.get i

/-- An entry is valid (byte 43, bit 0). -/
def flowValid (e : List Byte) : Bool := bit (fieldAt e 43 1) 0 && decide (fieldAt e 0 1 ≠ 0)

/-- Index of the valid entry with a key. -/
def findFlow (t : Tab (List Byte)) (key : List Byte) : Option Nat :=
  (flowCandidates key).find? fun i => flowValid (t.get i) && decide ((t.get i).take 40 = key)

/-- The free way that an insert takes; which one is the model's choice: the first in candidate order.
Log entry 71 (DESIGN CHOICE). -/
def freeFlow (t : Tab (List Byte)) (key : List Byte) : Option Nat :=
  (flowCandidates key).find? fun i => !flowValid (t.get i)

/-- Insert or replace an entry, or delete its key; `none` where no way is free (R352). -/
def applyFlow (t : Tab (List Byte)) (e : List Byte) : Option (Tab (List Byte)) :=
  let e := bytesAt e 0 64
  let key := e.take 40
  if flowValid e then
    match findFlow t key with
    | some i => some (t.put i e)
    | none => (freeFlow t key).map fun i => t.put i e
  else match findFlow t key with
    | some i => some (t.put i [])
    | none => some t

/-- Entries that Drover firmware learns take effect at once (R352). -/
def learnFlow (e : List Byte) (s : State) : Option State :=
  match applyFlow s.pkt.flow e with
  | none => none
  | some t =>
    let at' := match findFlow t ((bytesAt e 0 64).take 40) with
      | some i => s.pkt.flowAt.put i s.now
      | none => s.pkt.flowAt
    some { s with pkt := { s.pkt with flow := t, flowAt := at' } }

/-- Count a lookup; whether it reached LPDDR6 is left open (R361). Log entry 57 (DESIGN CHOICE). -/
def countLookup (hit : Bool) (s : State) : State :=
  let (miss, s) := drawBelow 2 s
  let s := bump (if hit then Prm.pktFlowHit else Prm.pktFlowMiss) 0 s
  if miss = 1 then bump Prm.pktFlowCacheMiss 0 s else s

/-- A lookup sets the hit flag of the entry that it finds (R351). -/
def lookupFlow (key : List Byte) (s : State) : Option Nat × State :=
  match findFlow s.pkt.flow key with
  | none => (none, countLookup false s)
  | some i =>
    let e := s.flowAt i
    let e := putAt e 43 [BitVec.ofNat 8 (setBit (fieldAt e 43 1) 2 true)]
    (some i, countLookup true { s with pkt := { s.pkt with flow := s.pkt.flow.put i e } })

/-- Ports of a flow key. For an ICMP query the identifier stands in the place of the port of the side that sent the
request. -/
def Parsed.flowPorts (p : Parsed) (d : List Byte) : Nat × Nat :=
  if p.l4Type = 3 then
    let t := beAt d p.l4Off 1
    let i := beAt d (p.l4Off + 4) 2
    if t = 8 ∨ t = 128 then (i, 0) else if t = 0 ∨ t = 129 then (0, i) else (0, 0)
  else (p.sport, p.dport)

/-- Key of a packet's 5-tuple in a zone. -/
def Parsed.tuple (p : Parsed) (d : List Byte) (zone : Nat) : List Byte :=
  let w := if p.l3Type = 1 then 4 else 16
  let (sp, dp) := p.flowPorts d
  flowKey p.l3Type p.proto zone (beBytes w p.src) (beBytes w p.dst) sp dp

/-- Key of a MAC address in a zone. -/
def macKey (zone mac : Nat) : List Byte := flowKey 3 0 zone (beBytes 6 mac) [] 0 0

/-! ### Edits -/

/-- Replace an address or port, and update the IP and L4 checksums (R355). -/
def translate (source : Bool) (addr : List Byte) (port : Nat) (p : Parsed) (d : List Byte) : List Byte :=
  let w := if p.l3Type = 1 then 4 else 16
  let ao := p.l3Off + (if p.l3Type = 1 then (if source then 12 else 16) else (if source then 8 else 24))
  let old := bytesAt d ao w
  let new := bytesAt addr 0 w
  let d := if p.l3Type = 1 then putAt d (p.l3Off + 10) (beBytes 2 (sumUpdate (beAt d (p.l3Off + 10) 2) old new)) else d
  let d := putAt d ao new
  let po : Option Nat :=
    if p.l4Type = 1 ∨ p.l4Type = 2 ∨ p.l4Type = 4 then some (p.l4Off + (if source then 0 else 2))
    else if p.l4Type = 3 then some (p.l4Off + 4) else none
  match po with
  | none => d
  | some o =>
    let oldP := bytesAt d o 2
    let newP := beBytes 2 port
    let d := putAt d o newP
    -- TCP and UDP cover the addresses through the pseudo-header, and so does ICMPv6; SCTP has no Internet checksum
    let fix := fun (c : Nat) (withAddr : Bool) =>
      let v := beAt d c 2
      let v := if withAddr then sumUpdate v old new else v
      putAt d c (beBytes 2 (sumUpdate v oldP newP))
    match p.l4Type with
    | 1 => fix (p.l4Off + 16) true
    | 2 => if beAt d (p.l4Off + 6) 2 = 0 ∧ p.l3Type = 1 then d else fix (p.l4Off + 6) true
    | 3 => fix (p.l4Off + 2) (decide (p.proto = 58))
    | _ => d

/-- What the route steps answer (R354). -/
inductive Routed where
  | exc (c : Nat)
  | noRoom
  | ok (data : List Byte) (grow : Int)
deriving DecidableEq, Repr, Inhabited

/-- Steps 4 and 5 of the route op: TTL, MACs and outer tag. The byte count that the packet grows in front comes with
the data. -/
def routeRewrite (nh : List Byte) (p : Parsed) (d : List Byte) (offset : Nat) : Routed :=
  let d := if p.l3Type = 1 then
      let o := p.l3Off + 8
      let old := bytesAt d o 2
      let new := beBytes 1 (p.ttl - 1) ++ bytesAt d (o + 1) 1
      putAt (putAt d (p.l3Off + 10) (beBytes 2 (sumUpdate (beAt d (p.l3Off + 10) 2) old new))) o new
    else putAt d (p.l3Off + 7) (beBytes 1 (p.ttl - 1))
  let d := putAt d 0 (bytesAt nh 0 12)
  let tci := fieldAt nh 12 2
  match p.tags with
  | [] =>
    if tci = 0 then .ok d 0
    else if offset < 4 then .noRoom
    else .ok (d.take 12 ++ beBytes 2 0x8100 ++ beBytes 2 tci ++ d.drop 12) 4
  | _ => if tci = 0 then .ok (d.take 12 ++ d.drop 16) (-4) else .ok (putAt d 14 (beBytes 2 tci)) 0

/-- The route op with next hop entry `nh` (R354). Log entry 72 (DEDUCED). -/
def route (nh : List Byte) (slow : Bool) (p : Parsed) (d : List Byte) (offset : Nat) : Routed :=
  if p.ttl ≤ 1 then .exc 5
  else if fieldAt nh 16 2 < d.length - p.l3Off then .exc 6
  else if p.options && !slow then .exc 8
  else routeRewrite nh p d offset

/-! ### Where a packet goes -/

/-- Destination of the classifier. -/
inductive Dest where
  | queue (q : Nat) | group (g : Nat) | jobs (q : Nat) | release
deriving DecidableEq, Repr, Inhabited

/-- Queue that leads back to a packet's source port; `none` where the source has none. Log entry 74 (DESIGN CHOICE). -/
def State.sourceQueue (s : State) (srcType srcInst : Nat) : Option Nat :=
  match srcType with
  | 0 => some (8 * srcInst)
  | 1 => some (16384 + 8 * bits (s.entryNat Tbl.ponXgem 0 srcInst) 24 19)
  | 2 => some (16896 + 8 * srcInst)
  | 3 => some (16928 + srcInst % 16)
  | _ => none

/-- A queue belongs to the source port of a packet (R353). -/
def State.isSource (s : State) (srcType srcInst q : Nat) : Bool :=
  match s.sourceQueue srcType srcInst with
  | none => false
  | some b => if srcType = 3 then decide (q = b) else decide (q / 8 = b / 8)

/-- A packet with an exception goes to its job queue (R357). -/
def postException (c h : Nat) (s : State) : State :=
  postHardware (s.parN Prm.pktExcJobq c) 1 h (updWb h (fun w => { w with exc := c }) s)

/-- The waybill leaves the classifier for its destination (R328, R350). -/
def sendTo (d : Dest) (h : Nat) (s : State) : State :=
  match d with
  | .release => free h s
  | .group g => updWb h (fun w => { w with owner := 10, group := some g }) s
  | .jobs q => postHardware q 1 h s
  | .queue q =>
    if q = 0x7FFF then free h s
    else
      let q := if q < 16384 then 8 * (q / 8) + (s.wb h).tid else q
      if queues ≤ q then free h (bump Prm.pktBadQueue 0 s) else enqueue h q s

/-- The TID of a waybill: the flow entry's, the rule's, the 802.11 TID, the PCP, the DSCP map, or 0 (R356). -/
def State.chooseTid (s : State) (w : Waybill) (p : Parsed) (flowTid ruleTid : Option Nat) : Nat :=
  flowTid.getD (ruleTid.getD (w.airTid.getD (match p.tags with
    | t :: _ => t / 2 ^ 13
    | [] => if p.l3Type = 1 ∨ p.l3Type = 2 then s.entryNat Tbl.pktDscpMap 0 (p.tos / 4) % 8 else 0)))

/-- What classification settles before the packet leaves. -/
structure Verdict where
  dest : Dest
  exc : Nat := 0
  flowTid : Option Nat := none
  ruleTid : Option Nat := none
  /-- the destination is still the rule's queue -/
  plain : Bool := false
deriving DecidableEq, Repr, Inhabited

/-- The outcome of the route steps takes effect; the offsets of the waybill follow the packet's first byte. -/
def takeRoute (h : Nat) (v : Verdict) (r : Routed) (s : State) : Verdict × State :=
  match r with
  | .exc c => ({ v with exc := c }, s)
  | .noRoom => ({ v with dest := .release }, bump Prm.pktEditFail 0 s)
  | .ok d g =>
    let move := fun (o : Nat) => if o = 0 then 0 else ((o : Int) + g).toNat
    (v, updWb h (fun w => { w with
      data := d, offset := ((w.offset : Int) - g).toNat, l3Off := move w.l3Off, l4Off := move w.l4Off, inOff := move w.inOff }) s)

/-- Apply a flow entry to the packet: its queue, tid and mark, then its edit (R351). -/
def applyEntry (i h : Nat) (p : Parsed) (v : Verdict) (s : State) : Verdict × State :=
  let e := s.flowAt i
  let q := fieldAt e 40 2
  let fl := fieldAt e 43 1
  let v := { v with
    dest := if bit q 15 then .group (q % 2 ^ 12) else .queue (q % 2 ^ 15)
    flowTid := if bit fl 3 then some (bits fl 6 4) else none
    plain := false }
  let s := updWb h (fun w => { w with flowHit := true, flow := i, mark := fieldAt e 62 2 }) s
  let w := s.wb h
  match fieldAt e 42 1 % 8 with
  | 1 => (v, updWb h (fun w => { w with data := translate true (bytesAt e 44 16) (beAt e 60 2) p w.data }) s)
  | 2 => (v, updWb h (fun w => { w with data := translate false (bytesAt e 44 16) (beAt e 60 2) p w.data }) s)
  | 3 => takeRoute h v (route (s.entry Tbl.pktNexthop 0 (beAt e 60 2 % 4096)) false p w.data w.offset) s
  | _ => (v, s)

/-- LEARN exceptions stay within PKT.learn_pps in each venue-time second (R353). -/
def admitLearn (s : State) : Bool × State :=
  let n := if s.pkt.learnSec = s.venueSec then s.pkt.learned else 0
  if n < s.parN Prm.pktLearnPps 0 then
    (true, { s with pkt := { s.pkt with learned := n + 1, learnSec := s.venueSec } })
  else (false, { s with pkt := { s.pkt with learnSec := s.venueSec, learned := n } })

/-- Bridging (R353). -/
def bridge (a : Action) (h : Nat) (p : Parsed) (v : Verdict) (s : State) : Verdict × State :=
  let (v, s) := if bit p.dmac 40 then ({ v with dest := .group a.group, plain := false }, s)
    else match lookupFlow (macKey a.zone p.dmac) s with
      | (none, s) => ({ v with dest := .group a.group, plain := false }, s)
      | (some i, s) => applyEntry i h p v s
  let w := s.wb h
  let (src, s) := lookupFlow (macKey a.zone p.smac) s
  let stale := match src with
    | none => true
    | some i => !s.isSource w.srcType w.srcInst (fieldAt (s.flowAt i) 40 2)
  if stale && decide (v.exc = 0) then
    let (ok, s) := admitLearn s
    (if ok then { v with exc := 4 } else v, s)
  else (v, s)

/-- The operation of the matching rule (R350, R353 to R355). -/
def applyRule (a : Action) (cls h : Nat) (p : Parsed) (s : State) : Verdict × State :=
  let base : Verdict := { dest := .queue a.queue, ruleTid := if a.setTid then some a.tid else none, plain := true }
  let w := s.wb h
  let misses := decide (p.l3Type = 0) || decide (p.l3Type = 3) || bit p.frag 1
  match a.op with
  | 0 => (if a.useGroup then { base with dest := .group a.group, plain := false } else base, s)
  | 1 => ({ base with dest := .release, plain := false }, s)
  | 2 => ({ base with exc := if cls = 1 then 1 else 3 }, s)
  | 3 => bridge a h p base s
  | 4 =>
    let nh := s.entry Tbl.pktNexthop 0 a.nexthop
    takeRoute h { base with dest := .queue (fieldAt nh 14 2), plain := false } (route nh false p w.data w.offset) s
  | 5 =>
    if misses then (base, s)
    else match lookupFlow (p.tuple w.data a.zone) s with
      | (none, s) => (base, s)
      | (some i, s) => applyEntry i h p base s
  | 6 =>
    if misses || decide (p.l3Type = 2) then ({ base with exc := 9 }, s)
    else if p.l4Type ≠ 1 ∧ p.l4Type ≠ 2 ∧ p.l4Type ≠ 3 then (base, s)
    else match lookupFlow (p.tuple w.data a.zone) s with
      | (none, s) => ({ base with exc := 4 }, s)
      | (some i, s) => applyEntry i h p base s
  | _ => ({ base with dest := .release, plain := false }, s)

/-- Classify a parsed packet and send it on (R350). -/
def classify (h cls : Nat) (p : Parsed) (s : State) : State :=
  let w := s.wb h
  let key := p.key w.data cls w.srcType w.srcInst (s.parN Prm.pktUdf 0) (s.parN Prm.pktUdf 1)
  match matchRule s.pkt.tcam key with
  | none =>
    let s := bump Prm.pktTcamMiss cls s
    let m := s.parN Prm.pktMissAction cls
    let s := updWb h (fun w => { w with tid := s.chooseTid w p none none }) s
    match m % 4 with
    | 0 => free h s
    | 1 => postException (if cls = 1 then 1 else 3) h s
    | _ => sendTo (.queue (m / 4)) h s
  | some (i, rule) =>
    let a := ruleAction rule
    let s := updWb h (fun w => { w with tcamHit := true, rule := i, mark := if a.setMark then a.mark else w.mark }) s
    let (v, s) := applyRule a cls h p s
    let v := if a.spread && v.plain then
        let e := s.entryNat Tbl.pktItable a.itable ((s.wb h).hash % 512)
        { v with dest := if bit e 15 then .jobs (e % 256) else .queue (e % 2 ^ 15) }
      else v
    let s := updWb h (fun w => { w with
      tid := s.chooseTid w p v.flowTid v.ruleTid
      queue := match v.dest with | .queue q => q | _ => 0x7FFF }) s
    if v.exc ≠ 0 then postException v.exc h s else sendTo v.dest h s

/-! ### Ingress -/

/-- Unit of the packet path (Table 17-5). -/
def packetPath : RUnit := ⟨1, 0x0C, 0⟩

/-- Parse a packet that stands in its buffer, and classify it, or send it to the queue that a port-directed packet names
(R338 to R343, R350). Log entry 74 (DESIGN CHOICE). -/
def parseAndClassify (h cls : Nat) (directed : Option Nat) (s : State) : State :=
  let w := s.wb h
  let p := parsePacket w.data (s.parN Prm.pktVxlanPort 0)
  let data := match p.datagram with
    | some e => if p.conflict then w.data else w.data.take e
    | none => w.data
  let check := s.parN Prm.pktCsumCheck 0
  let l3 := if check = 0 then 0 else p.l3Check data
  let l4 := if check = 0 then 0 else p.l4Check data
  let k := p.hashType
  let hash := toeplitz (s.entry Tbl.pktHashKey 0 0)
    (p.hashInput (s.parN Prm.pktHashFields k) (decide (s.par Prm.pktHashSymmetric 0 = 1)))
  let s := updWb h (fun w => { w with
    data := data, version := s.pkt.version, layers := p.layers, l3Type := p.l3Type, l4Type := p.l4Type
    tunnel := p.tunnel, trunc := p.trunc, lenConf := p.conflict, l3Off := p.l3Off, l4Off := p.l4Off, inOff := p.inOff
    l3Csum := l3, l4Csum := l4, hash := hash, tcamHit := false, flowHit := false, exc := 0 }) s
  let src := [(0, 1, w.srcType), (2, 2, w.srcInst), (4, 2, w.data.length)]
  let s := if p.trunc then
      warnOnce Prm.pktTrunc 0 Ev.pktTrunc 0 (detail [(0, 1, w.srcType), (1, 1, p.layers)]) (bump Prm.pktTrunc 0 s) else s
  match directed with
  | some q => enqueue h q s
  | none =>
    if p.conflict then
      postException 2 h (warnOnce Prm.pktLenconf 0 Ev.pktLenConflict 0 (detail src) (bump Prm.pktLenconf 0 s))
    else if check = 2 ∧ (l3 = 2 ∨ l4 = 2) then postException 7 h s
    else classify h (if p.trunc then 1 else cls) p s

/-- An ingress port presents a packet (R331, R335, R338): `pre` sees the handle before the packet goes on. The result is
0 where the packet has a waybill, and otherwise why it has none: 2 no buffer or waybill, 3 packet path not running, 5 too
long for every pool. -/
def ingressWith (pre : Nat → State → State) (a : Arrival) (s : State) : Nat × State :=
  if s.par Prm.pktEnable 0 = 0 ∨ s.stopped packetPath ∨ a.data.isEmpty then (3, s)
  else
    let s := bump Prm.pktRxPkts a.port s
    let room := s.parN Prm.poolHeadroom 0
    if 65535 < a.data.length then (5, bump Prm.pktTooLong 0 s)
    else match alloc a.port (room + a.data.length) s with
      | (.handle h, s) =>
        let s := updWb h (fun w => { w with
          offset := room, srcType := a.srcType, srcInst := a.srcInst, data := a.data, whole := a.data.length, airTid := a.tid
          ts := a.ts.getD s.now, ring := a.ring, tid := a.setTid, mark := a.mark }) s
        (0, parseAndClassify h a.cls a.directed (pre h s))
      | (.tooLong, s) => (5, bump Prm.pktTooLong 0 s)
      | (_, s) => (2, s)

/-- An ingress port presents a packet. -/
def ingress (a : Arrival) (s : State) : State := (ingressWith (fun _ s => s) a s).2

/-- Queue a new packet that firmware or a port builds, for a queue of its own. -/
def emitPacket (port srcType srcInst q : Nat) (data : List Byte) (s : State) : Bool × State :=
  let room := s.parN Prm.poolHeadroom 0
  match alloc port (room + data.length) s with
  | (.handle h, s) =>
    let s := updWb h (fun w => { w with
      offset := room, srcType := srcType, srcInst := srcInst, data := data, whole := data.length, version := s.pkt.version }) s
    (true, enqueue h q s)
  | (_, s) => (false, s)

end Sys2Proof.Machine
end

