-- ==== Sys2Proof/Machine/Packet.lean ====
section
/-!
DEFINITION. The packet path's commands: ingress, replication, exceptions and their handling by the Drover cores (R357 to
R360), ageing, rule versions, reassembly, and recasts of the packet path (R337).
-/
namespace Sys2Proof.Machine

/-- Source type of an ingress port (Tables 11-1 and 11-4). -/
def portSource (port : Nat) : Nat := if port < 3 then 0 else if port = 3 then 1 else if port < 8 then 2 else if port = 8 then 3 else if port = 9 then 4 else 6

/-- PACKET_INGRESS (R338). -/
def execPacketIngress (a : Arrival) (s : State) : Host.Outcome State Fault Refusal :=
  .next (if a.port < 10 ∧ a.cls ≤ 2 then ingress { a with srcType := portSource a.port } s else s)

/-! ### Replication -/

/-- Members of a group (Table 11-13). Log entry 18 (DEDUCED). -/
def State.groupMembers (s : State) (g : Nat) : List Nat :=
  ((List.range 64).map fun i => s.entryNat Tbl.pktMcast g i).filter fun v => v ≠ 0xFFFF

/-- One copy of a packet for a member queue (R331); a copy of a splice is dropped while its queue is at or above half its
limit (R405). -/
def copyTo (h q : Nat) (s : State) : State :=
  let w := s.wb h
  if w.srcType = 4 ∧ s.parN Prm.tollQmaxBytes (q % 2 ^ 15) ≤ 2 * (s.tq (q % 2 ^ 15)).depth then
    bump Prm.storeMcMemberDrop 0 s
  else
  let (d, s) := match readPacket h s with | (some d, s) => (d, s) | (none, s) => ([], s)
  if d.isEmpty then s
  else match alloc 10 (s.parN Prm.poolHeadroom 0 + d.length) s with
    | (.handle c, s) =>
      let x := s.wb c
      let s := updWb c (fun _ => { w with
        pool := x.pool, buffer := x.buffer, owner := 10, srcType := 6, srcInst := 10, group := none, data := d
        offset := s.parN Prm.poolHeadroom 0 }) s
      sendTo (.queue (q % 2 ^ 15)) c s
    | (_, s) => s

/-- REPLICATION: one copy for each member but the source port's own queue, and the original released (R328, R353). -/
def replicate (h : Nat) (s : State) : State :=
  let w := s.wb h
  match w.group with
  | none => s
  | some g =>
    let qs := (s.groupMembers g).filter fun q => !s.isSource w.srcType w.srcInst (q % 2 ^ 15)
    free h (qs.foldl (fun s q => copyTo h q s) s)

def execReplication (h : Nat) (s : State) : Host.Outcome State Fault Refusal := .next (replicate h s)

/-! ### Exceptions -/

/-- Take a token from a bucket of a rate per second and a depth; an untouched bucket is full. -/
def takeToken (rate depth now : Nat) (b : Bucket) : Bool × Bucket :=
  let debt := b.debt - rate * (now - b.filled)
  if debt + 1000000000 ≤ depth * 1000000000 then (true, { debt := debt + 1000000000, filled := now })
  else (false, { debt := debt, filled := now })

/-- The 16-byte head of a packet delivered to the host (R358). -/
def hostHead (w : Waybill) : List Byte :=
  le 1 w.exc ++ le 1 w.srcType ++ le 2 w.srcInst ++ le 2 (if w.tcamHit then w.rule else 0xFFFF) ++ le 1 w.version ++
    le 1 (b2n w.trunc + 2 * b2n w.lenConf + 4 * b2n w.flowHit) ++ le 4 (if w.flowHit then w.flow else 0xFFFFFFFF) ++
    le 2 w.whole ++ le 2 w.mark

/-- Deliver an exception packet to its host exception queue, within its rate (R358). -/
def toHost (c h : Nat) (s : State) : State :=
  let rate := s.parN Prm.pktExcHostPps c
  let (ok, b) := takeToken rate (max 1 (rate / 10)) s.now (s.pkt.excHost.get c)
  let s := { s with pkt := { s.pkt with excHost := s.pkt.excHost.put c b } }
  if ok then
    let s := updWb h (fun w => { w with data := hostHead w ++ w.data, offset := w.offset - 16 }) s
    enqueue h (16943 + c) s
  else
    free h (warnOnce Prm.pktExcHostDrop c Ev.pktExcHostDrop c (detail [(4, 4, 1)]) (bump Prm.pktExcHostDrop c s))

/-- Parse a packet again as it stands. -/
def State.reparse (s : State) (h : Nat) : Parsed := parsePacket (s.wb h).data (s.parN Prm.pktVxlanPort 0)

/-- The action of the rule that a waybill matched. -/
def State.ruleOf (s : State) (h : Nat) : Action := ruleAction (s.pkt.tcam.get (s.wb h).rule)

/-- Next hop entry that a routed packet uses: the rule's, or that of the flow entry's edit 3 (R354). -/
def State.nexthopOf (s : State) (h : Nat) : List Byte :=
  let a := s.ruleOf h
  s.entry Tbl.pktNexthop 0 (if a.op = 4 then a.nexthop else beAt (s.flowAt (s.wb h).flow) 60 2 % 4096)

/-- A flow entry of 64 bytes (Table 11-10). -/
def flowEntry (key : List Byte) (queue edit flags : Nat) (xaddr : List Byte) (xport mark : Nat) : List Byte :=
  bytesAt key 0 40 ++ le 2 queue ++ le 1 edit ++ le 1 flags ++ bytesAt xaddr 0 16 ++ beBytes 2 xport ++ le 2 mark

/-- Re-inject a packet into classification in class 2, under the version that is current now (R359). Log entry 72 (DEDUCED). -/
def reinject (h : Nat) (s : State) : State := parseAndClassify h 2 none s

/-- LEARN of a bridged packet: an entry for its source MAC, then re-injection (Table 11-9, R353). Log entry 74 (DESIGN CHOICE). -/
def learnBridge (h : Nat) (s : State) : State :=
  let w := s.wb h
  let p := s.reparse h
  match s.sourceQueue w.srcType w.srcInst with
  | none => reinject h s
  | some q =>
    match learnFlow (flowEntry (macKey (s.ruleOf h).zone p.smac) q 0 1 [] 0 0) s with
    | some s => reinject h s
    | none => reinject h (warnOnce Prm.pktFlowFull 0 Ev.pktFlowFull 0 (detail [(0, 1, 3)]) (bump Prm.pktFlowFull 0 s))

/-- A port of the NAPT range that no DNAT entry uses; which one firmware takes is left open (R355).
Log entry 71 (DESIGN CHOICE). -/
def freePort (proto zone addr : Nat) (s : State) : Option Nat × State :=
  let lo := s.parN Prm.pktNaptPortLo 0
  let n := s.parN Prm.pktNaptPortHi 0 + 1 - lo
  let taken := (s.pkt.flow.filter fun e => flowValid e.2 && decide (fieldAt e.2 42 1 % 8 = 2) && decide (fieldAt e.2 1 1 = proto) &&
    decide (fieldAt e.2 2 2 = zone) && decide (beAt e.2 20 4 = addr)).map fun e => beAt e.2 38 2
  let (start, s) := drawBelow n s
  ((((List.range (taken.length + 1)).map fun j => lo + (start + j) % n).find? fun x => !taken.contains x), s)

/-- LEARN of a NAPT packet: an outbound SNAT and an inbound DNAT entry, then re-injection (R355). Log entry 71 (DESIGN CHOICE). -/
def learnNapt (h : Nat) (s : State) : State :=
  let w := s.wb h
  let a := s.ruleOf h
  let p := s.reparse h
  let addr := s.parN Prm.pktNaptAddr (a.nexthop % 16)
  let (port, s) := freePort p.proto a.zone addr s
  match port with
  | none =>
    free h (warnOnce Prm.pktNaptFull 0 Ev.pktNaptFull 0 (detail [(4, 4, p.src)]) (bump Prm.pktNaptFull 0 s))
  | some n =>
    let (sp, dp) := p.flowPorts w.data
    let out := p.tuple w.data a.zone
    let icmp := decide (p.l4Type = 3)
    let inn := flowKey 1 p.proto a.zone (beBytes 4 p.dst) (beBytes 4 addr) (if icmp then 0 else dp) n
    let back := match findFlow s.pkt.flow (macKey a.zone p.smac) with
      | some i => fieldAt (s.flowAt i) 40 2
      | none => (s.sourceQueue w.srcType w.srcInst).getD 0x7FFF
    let done := (learnFlow (flowEntry out a.queue 1 1 (beBytes 4 addr) n w.mark) s).bind
      (learnFlow (flowEntry inn back 2 1 (beBytes 4 p.src) sp w.mark))
    match done with
    | some s => reinject h s
    | none => free h (warnOnce Prm.pktFlowFull 0 Ev.pktFlowFull 0 (detail [(0, 1, 1)]) (bump Prm.pktFlowFull 0 s))

/-- Firmware sends an ICMP message about a packet (Table 11-9). Log entry 44 (PRESUMED). -/
def sendIcmp (typ code h : Nat) (s : State) : State :=
  { s with pkt := { s.pkt with icmp := s.pkt.icmp ++ [(typ, code, (s.wb h).data)] } }

/-- TTL: time exceeded, at most 100 in a second (Table 11-9, code 5). -/
def handleTtl (h : Nat) (s : State) : State :=
  let (ok, b) := takeToken 100 100 s.now s.pkt.icmpBucket
  let s := { s with pkt := { s.pkt with icmpBucket := b } }
  let v6 := decide ((s.wb h).l3Type = 2)
  free h (if ok then sendIcmp (if v6 then 3 else 11) 0 h s else s)

/-- One IPv4 fragment: the header with its length, offset, more-fragments bit and checksum, then its payload. -/
def ipv4Fragment (hdr payload : List Byte) (units : Nat) (more : Bool) : List Byte :=
  let h := putAt hdr 2 (beBytes 2 (hdr.length + payload.length))
  let h := putAt h 6 (beBytes 2 (units + b2n more * 2 ^ 13))
  let h := putAt h 10 [0, 0]
  putAt h 10 (beBytes 2 (inetSum h)) ++ payload

/-- Pieces of a payload of `k` bytes each. -/
def pieces (k : Nat) : Nat → List Byte → List (List Byte)
  | 0, _ => []
  | n + 1, l => if l.isEmpty then [] else l.take k :: pieces k n (l.drop k)

/-- MTU: fragment IPv4 that may be fragmented, and otherwise send the ICMP message (Table 11-9, code 6). -/
def handleMtu (core h : Nat) (s : State) : State :=
  let w := s.wb h
  let p := s.reparse h
  let nh := s.nexthopOf h
  if p.l3Type ≠ 1 ∨ bit p.frag 0 then free h (sendIcmp (if p.l3Type = 2 then 2 else 3) (if p.l3Type = 2 then 0 else 4) h s)
  else
    let hl := beAt w.data p.l3Off 1 % 16 * 4
    let k := (fieldAt nh 16 2 - hl) / 8 * 8
    let l2 := w.data.take p.l3Off
    let hdr := bytesAt w.data p.l3Off hl
    let payload := p.upTo w.data (p.l3Off + hl)
    let old := beAt w.data (p.l3Off + 6) 2
    let ps := if k = 0 then [] else pieces k payload.length payload
    let queue := if (s.ruleOf h).op = 4 then fieldAt nh 14 2 else w.queue
    let s := (ps.zipIdx).foldl (fun s x =>
      let last := decide (x.2 + 1 = ps.length)
      let f := l2 ++ ipv4Fragment hdr x.1 (old % 8192 + x.2 * (k / 8)) (!last || bit old 13)
      match alloc core (s.parN Prm.poolHeadroom 0 + f.length) s with
      | (.handle c, s) =>
        let y := s.wb c
        let room := s.parN Prm.poolHeadroom 0
        match routeRewrite nh p f room with
        | .ok d g =>
          let s := updWb c (fun _ => { w with
            pool := y.pool, buffer := y.buffer, owner := core, data := d, offset := ((room : Int) - g).toNat, exc := 0 }) s
          sendTo (.queue queue) c s
        | _ => free c (bump Prm.pktEditFail 0 s)
      | (_, s) => s) s
    free h s

/-- SLOW: firmware routes the packet (Table 11-9, code 8). -/
def handleSlow (h : Nat) (s : State) : State :=
  let w := s.wb h
  let nh := s.nexthopOf h
  let queue := if (s.ruleOf h).op = 4 then fieldAt nh 14 2 else w.queue
  let (v, s) := takeRoute h { dest := .queue queue } (route nh true (s.reparse h) w.data w.offset) s
  if v.exc ≠ 0 then postException v.exc h s else sendTo v.dest h s

/-! ### Reassembly -/

/-- Key, byte offset, more-fragments bit and payload of a fragment of the outer datagram; `none` for a whole datagram. -/
def Parsed.fragment (p : Parsed) (d : List Byte) : Option (List Byte × Nat × Bool × List Byte) :=
  if p.l3Type = 1 then
    let fo := beAt d (p.l3Off + 6) 2
    let hl := beAt d p.l3Off 1 % 16 * 4
    if fo % 8192 = 0 ∧ !bit fo 13 then none
    else some (bytesAt d (p.l3Off + 12) 8 ++ bytesAt d (p.l3Off + 4) 2 ++ bytesAt d (p.l3Off + 9) 1, fo % 8192 * 8, bit fo 13,
      p.upTo d (p.l3Off + hl))
  else if p.l3Type = 2 ∧ p.frag / 2 ≠ 0 then
    let o := p.l4Off - 8
    let fo := beAt d (o + 2) 2
    some (bytesAt d (p.l3Off + 8) 32 ++ bytesAt d (o + 4) 4, fo / 8 * 8, bit fo 0, p.upTo d (o + 8))
  else none

/-- Join pieces that lie end to end from offset `at_`, up to the one without more fragments. -/
def joinPieces : Nat → Nat → List (Nat × Bool × List Byte) → Option (List Byte)
  | 0, _, _ => none
  | n + 1, at_, ps =>
    match ps.find? fun x => x.1 == at_ with
    | none => none
    | some (_, more, b) => if more then (if b.isEmpty then none else (joinPieces n (at_ + b.length) ps).map fun r => b ++ r) else some b

/-- The whole packet of a datagram: layer 2 and IP header of its first fragment, and the joined payload. -/
def State.assemble (s : State) (hs : List Nat) : Option (List Byte) :=
  let fs := hs.filterMap fun h =>
    let d := (s.wb h).data
    let p := parsePacket d (s.parN Prm.pktVxlanPort 0)
    (p.fragment d).map fun f => (f.2, d, p)
  match fs.find? (fun f => f.1.1 == 0), joinPieces (fs.length + 1) 0 (fs.map fun f => (f.1.1, f.1.2.1, f.1.2.2)) with
  | some (_, d, p), some body =>
    if p.l3Type = 1 then
      let hl := beAt d p.l3Off 1 % 16 * 4
      some (d.take p.l3Off ++ ipv4Fragment (bytesAt d p.l3Off hl) body 0 false)
    else
      let o := p.l4Off - 8
      let pre := (d.take o).drop p.l3Off
      -- the header in front of the fragment header names what follows it
      let pre := if o = p.l3Off + 40 then putAt pre 6 (bytesAt d o 1) else pre
      let pre := putAt pre 4 (beBytes 2 (pre.length - 40 + body.length))
      some (d.take p.l3Off ++ pre ++ body)
  | _, _ => none

/-- FRAGMENT: keep the fragment of one of at most 1,024 datagrams, and re-inject the datagram once it is whole
(Table 11-9, code 9). -/
def handleFragment (core h : Nat) (s : State) : State :=
  let w := s.wb h
  match (s.reparse h).fragment w.data with
  | none => reinject h s
  | some (key, _) =>
    match s.pkt.frag.find? fun e => decide (e.2.key = key) with
    | none =>
      if 1024 ≤ s.pkt.frag.length then free h s
      else { s with pkt := { s.pkt with
          frag := s.pkt.frag.put s.pkt.fragNext { key := key, frags := [h], since := s.now }
          fragNext := s.pkt.fragNext + 1 } }
    | some (i, g) =>
      let hs := g.frags ++ [h]
      match s.assemble hs with
      | none => { s with pkt := { s.pkt with frag := s.pkt.frag.put i { g with frags := hs } } }
      | some d =>
        let s := hs.foldl (fun s h => free h s) { s with pkt := { s.pkt with frag := s.pkt.frag.erase i } }
        match alloc core (s.parN Prm.poolHeadroom 0 + d.length) s with
        | (.handle c, s) =>
          let y := s.wb c
          let room := s.parN Prm.poolHeadroom 0
          reinject c (updWb c (fun _ => { w with
            pool := y.pool, buffer := y.buffer, owner := core, data := d, whole := d.length, offset := room, exc := 0 }) s)
        | (_, s) => s

/-- FRAGMENT_REASSEMBLY_TIMEOUT: 2 s after its first fragment a partial datagram is discarded (R357). -/
def execFragmentReassemblyTimeout (i : Nat) (s : State) : Host.Outcome State Fault Refusal :=
  let g := s.pkt.frag.get i
  .next (
    if g.frags.isEmpty ∨ s.now < g.since + 2000000000 then s
    else g.frags.foldl (fun s h => free h s) { s with pkt := { s.pkt with frag := s.pkt.frag.erase i } })

/-! ### Job completion -/

/-- Drover firmware applies PKT.exc_action to a packet that took an exception (R357, Table 11-9). -/
def droverException (core h : Nat) (s : State) : State :=
  let c := (s.wb h).exc
  match s.par Prm.pktExcAction c with
  | 0 => free h (bump Prm.pktExc c s)
  | 2 => toHost c h s
  | _ => match c with
    | 4 => if (s.ruleOf h).op = 6 then learnNapt h s else learnBridge h s
    | 5 => handleTtl h s
    | 6 => handleMtu core h s
    | 8 => handleSlow h s
    | 9 => handleFragment core h s
    | _ => free h s

/-- The current job of an engine completes (R276, R328, R329): a Ladle engine's mark, queue and tid are taken back from X
memory, and the waybill goes on to its queue or is released. -/
def completeJob (e status : Nat) (s : State) : State :=
  match (s.runner e).job with
  | none => s
  | some j =>
    let s := if status = 0 then s else bump Prm.taskJobErrors j.queue s
    let s :=
      if j.kind = 1 ∧ (s.wb j.arg).used ∧ (s.wb j.arg).owner = enginePort e then
        if e < 0x40 then
          let s := updWb j.arg (fun w => w.takeBack ((s.eng e).x.read 0xE000 32)) s
          sendTo (.queue (s.wb j.arg).queue) j.arg s
        else if (s.wb j.arg).exc ≠ 0 then droverException (enginePort e) j.arg s
        else sendTo (.queue (s.wb j.arg).queue) j.arg s
      else s
    retireJob e j s

/-- REINJECT: a Drover core re-injects a waybill that it owns (R359). -/
def execReinject (n h : Nat) (s : State) : Host.Outcome State Fault Refusal :=
  .next (
    if 27 < n then s
    else if waybills ≤ h then badPtr (32 + n) h s
    else if (s.wb h).used ∧ (s.wb h).owner = 32 + n then reinject h s
    else badFree (32 + n) h 1 s)

/-- FLOW_AGEING: firmware looks at a flow entry; one that is not static and whose hit flag has stayed clear for
PKT.flow_age_s is removed (R353). -/
def execFlowAgeing (i : Nat) (s : State) : Host.Outcome State Fault Refusal :=
  let e := s.flowAt i
  let age := s.parN Prm.pktFlowAgeS 0
  let flags := fieldAt e 43 1
  .next (
    if !flowValid e || bit flags 1 || decide (age = 0) then s
    else if bit flags 2 then
      { s with pkt := { s.pkt with
          flow := s.pkt.flow.put i (putAt e 43 (le 1 (setBit flags 2 false))), flowAt := s.pkt.flowAt.put i s.now } }
    else if s.pkt.flowAt.get i + age * 1000000000 ≤ s.now then
      { s with pkt := { s.pkt with flow := s.pkt.flow.put i [], flowAt := s.pkt.flowAt.erase i } }
    else s)

/-! ### Rule versions -/

/-- Physical TCAM entries in use: rules with equal contents at one index share one (R348). -/
def tcamPhysical (versions : List (Tab (List Byte))) : Nat :=
  ((versions.flatMap fun t => t.filter fun e => (ruleAction e.2).valid).eraseDups).length

/-- Rules of the next version. -/
def Pkt.nextTcam (p : Pkt) : Tab (List Byte) := p.tcamEdit.foldl (fun t e => t.put e.1 e.2) p.tcam

/-- Physical entries of every live version and of the next (R348). -/
def Pkt.tcamUsed (p : Pkt) : Nat := tcamPhysical ((p.old.map (·.2)) ++ [p.tcam] ++ (if p.tcamEdit.isEmpty then [] else [p.nextTcam]))

/-- Flow entries of the next version. -/
def Pkt.nextFlow (p : Pkt) : Tab (List Byte) := p.flowEdit.foldl (fun t e => (applyFlow t e).getD t) p.flow

/-- The next version becomes current, with every pending edit of both tables (R347). -/
def advanceVersion (s : State) : State :=
  let p := s.pkt
  let flow := p.nextFlow
  let at' := p.flowEdit.foldl (fun t e => match findFlow flow ((bytesAt e 0 64).take 40) with
    | some i => t.put i s.now
    | none => t) p.flowAt
  { s with pkt := { p with
      old := p.old ++ [(p.version, p.tcam)], version := (p.version + 1) % 16, tcam := p.nextTcam, tcamEdit := []
      flow := flow, flowEdit := [], flowAt := at' } }

/-- VERSION_RETIRE: the last waybill stamped with a superseded version has left the classifier (R347, R348). -/
def execVersionRetire (v : Nat) (s : State) : Host.Outcome State Fault Refusal :=
  .next { s with pkt := { s.pkt with old := s.pkt.old.filter fun o => o.1 != v } }

/-! ### Recasts -/

/-- Release every waybill that a port owns, and count it (R360). -/
def freeOwned (port : Nat) (s : State) : State :=
  let hs := (s.pkt.wb.filter fun e => decide (e.2.owner = port)).map (·.1)
  if hs.isEmpty then s else bumpBy Prm.pktRecastFreed 0 hs.length (hs.foldl (fun s h => free h s) s)

/-- A Drover core recasts for a RECAST cause (R360). A third within 60 s holds the core. -/
def recastDrover (n cause : Nat) (s : State) : State :=
  let e := 0x40 + n
  let s := freeOwned (32 + n) (returnBuffered e (dropJob e s))
  let times := ((s.runner e).recasts.filter fun t => decide (s.now ≤ t + 60000000000)) ++ [s.now]
  let s := updRunner e (fun r => { r with recasts := times, fetch := none, buf := none, held := r.held || decide (3 ≤ times.length) }) s
  let s := { s with task := { s.task with waiters := s.task.waiters.filter (· != e) } }
  let s := if 3 ≤ times.length then raise Ev.pktDroverHeld n (detail [(0, 1, recastWhy cause)]) s else s
  admitFault ⟨0, 0x0C, e⟩ cause s

/-- DROVER_WATCHDOG (R360): a job of a core, or one timestamp handler of DC27, runs longer than PKT.dc_watchdog_us. -/
def execDroverWatchdog (n : Nat) (s : State) : Host.Outcome State Fault Refusal :=
  let r := s.runner (0x40 + n)
  let limit := s.parN Prm.pktDcWatchdogUs 0
  .next (
    if 27 < n ∨ limit = 0 ∨ s.stopped (engineUnit (0x40 + n)) then s
    else if n = 27 ∨ (r.job.isSome ∧ r.since + limit * 1000 < s.now) then serveWaiters (recastDrover n Cause.watchdog s)
    else s)

/-- The packet path recasts at subsystem scope: every waybill and buffer is released, and its inputs flush; tables and
flow entries stay (R337). -/
def clearPacketPath (s : State) : State :=
  let n := s.pkt.wb.length
  let rings := s.pkt.wb.filterMap fun e => e.2.ring.map fun r => (r, e.1)
  let s := dropWaybillJobs s
  let s := if n = 0 then s else bumpBy Prm.pktRecastFreed 0 n s
  let s := { s with
    pkt := { s.pkt with wb := [], pool := [], frag := [] }
    toll := { s.toll with
      q := s.toll.q.mapV fun x => { x with pkts := [] }
      sched := s.toll.sched.mapV fun x => { x with list := [], pointer := none, out := [], heads := [] } } }
  rings.foldl (fun s r => txOutcome r.1 r.2 3 0 0 s) s

end Sys2Proof.Machine
end

