-- ==== Sys2Proof/Machine/Sprue.lean ====
section
/-!
DEFINITION. The Sprue engines (R383 to R391) and the device's memories.
-/
namespace Sys2Proof.Machine

/-! ### Memories -/

/-- Write bytes from an address. -/
def Memory.write (m : Memory) (a : Nat) : List Byte → Memory
  | [] => m
  | b :: t => Memory.write (Tab.put m a b) (a + 1) t

/-- Read `k` bytes from an address. Log entry 51 (DESIGN CHOICE). -/
def Memory.read (m : Memory) (a k : Nat) : List Byte := (List.range k).map fun j => Tab.get m (a + j)

def State.sprue (s : State) (n : Nat) : Sprue := s.dma.sprue.get n
def updSprue (n : Nat) (f : Sprue → Sprue) (s : State) : State := { s with dma := { s.dma with sprue := s.dma.sprue.upd n f } }
def setChan (c : Nat) (l : Option Nat) (s : State) : State := { s with dma := { s.dma with chan := s.dma.chan.put c l } }

/-- Bytes of the on-chip SRAM (Table 1-1, R330, R361): pools and flow cache. Log entry 77 (DEDUCED). -/
def sramBytes : Nat := 41943040

/-! ### Address spaces (Table 13-2) -/

/-- A range of bytes passes the checks of its space (R386). Log entry 77 (DEDUCED). -/
def State.spaceOk (s : State) (n : Nat) (fw source : Bool) (a len : Nat) : Bool :=
  let off := a % 2 ^ 60
  match a / 2 ^ 60 with
  | 0 => decide (off + len ≤ s.boot.ddrBytes)
  | 1 => fw && decide (off + len ≤ sramBytes)
  | 2 | 3 => decide (off < 2 ^ 21) && decide (off % 4 = 0) && decide (len % 4 = 0) && decide (off % 65536 + len ≤ 65536)
  | 4 =>
    let h := bits off 49 32
    let w := s.wb h
    decide (off < 2 ^ 50) && w.used && decide (w.owner = 12 + n) && decide (bits off 31 0 + len ≤ s.parN Prm.poolSize w.pool)
  | 5 => fw
  | 6 => source && decide (off < 2 ^ 32)
  | _ => false

/-- A byte of a packet buffer, by offset in the buffer. -/
def Waybill.bufByte (w : Waybill) (o : Nat) : Byte :=
  if w.offset ≤ o ∧ o < w.offset + w.length then w.data.getD (o - w.offset) 0 else w.extra.get o

/-- Write a byte of a packet buffer. -/
def Waybill.setBufByte (w : Waybill) (o : Nat) (b : Byte) : Waybill :=
  if w.offset ≤ o ∧ o < w.offset + w.length then { w with data := w.data.set (o - w.offset) b }
  else { w with extra := w.extra.put o b }

/-- Read from a space; host memory gives the bytes that arrive with the command. -/
def State.readSpace (s : State) (a len : Nat) (host : List Byte) : List Byte × List Byte :=
  let off := a % 2 ^ 60
  match a / 2 ^ 60 with
  | 0 => (Memory.read s.dma.ddr off len, host)
  | 1 => (Memory.read s.dma.sram off len, host)
  | 2 => ((s.eng (off / 65536)).x.read (off % 65536) len, host)
  | 3 => ((s.eng (off / 65536)).y.read (off % 65536) len, host)
  | 4 =>
    let w := s.wb (bits off 49 32)
    ((List.range len).map fun j => w.bufByte (bits off 31 0 + j), host)
  | 5 => (bytesAt host 0 len, host.drop len)
  | _ => ((List.range len).map fun j => (le 4 off).getD (j % 4) 0, host)

/-- Write to a space. -/
def writeSpace (a : Nat) (b : List Byte) (s : State) : State :=
  let off := a % 2 ^ 60
  match a / 2 ^ 60 with
  | 0 => { s with dma := { s.dma with ddr := Memory.write s.dma.ddr off b } }
  | 1 => { s with dma := { s.dma with sram := Memory.write s.dma.sram off b } }
  | 2 => updEng (off / 65536) (fun x => { x with x := x.x.write (off % 65536) b }) s
  | 3 => updEng (off / 65536) (fun x => { x with y := x.y.write (off % 65536) b }) s
  | 4 => updWb (bits off 49 32) (fun w => (b.zipIdx).foldl (fun w x => w.setBufByte (bits off 31 0 + x.2) x.1) w) s
  | 5 => hostWrite off b s
  | _ => s

/-- `k` bytes whose values are left open. Log entry 78 (DESIGN CHOICE). -/
def freeBytes (k : Nat) (s : State) : List Byte × State :=
  ((List.range k).map fun i => BitVec.ofNat 8 (Config.freeNat (s.free + i)), { s with free := s.free + k })

/-! ### Runs -/

/-- A run in progress. -/
structure RunSt where
  status : Nat := 0
  tag : Nat := 0
  bytes : Nat := 0
  entry : Nat := 0
  host : List Byte := []

/-- Move one entry: checks first, then the bytes; a transfer that fails leaves what it has written undefined (R386,
R387). Log entry 78 (DESIGN CHOICE). -/
def moveEntry (n : Nat) (fw : Bool) (src dst len : Nat) (bad : Option Nat) (r : RunSt) (s : State) : RunSt × State :=
  if len = 0 then (r, s)
  else if 16777216 < len then ({ r with status := 7 }, s)
  else
    let ptr := fun (a : Nat) (ok : Bool) (s : State) => if !ok && decide (a / 2 ^ 60 = 4) then badPtr (12 + n) (a % 2 ^ 32) s else s
    let so := s.spaceOk n fw true src len
    let d := s.spaceOk n fw false dst len
    if !(so && d) then ({ r with status := 2 }, ptr dst d (ptr src so s))
    else
      let hostSide := decide (src / 2 ^ 60 = 5) || decide (dst / 2 ^ 60 = 5)
      let bad := if hostSide && !s.host.linkUp then some 4
        else if decide (src / 2 ^ 60 = 5) && decide (r.host.length < len) then some 4 else bad
      match bad with
      | some st =>
        let (b, s) := freeBytes len s
        ({ r with status := st }, writeSpace dst b s)
      | none =>
        let (b, host) := s.readSpace src len r.host
        ({ r with bytes := r.bytes + len, host := host }, writeSpace dst b s)

/-- Upset of an entry. Log entry 78 (DESIGN CHOICE). -/
def upsetAt (u : Option Upset) (i : Nat) : Option Nat := u.bind fun x => if x.entry = i then some x.status else none

/-- List mode (R385, Table 13-1): at most 4,096 entries, in chain order. Log entry 78 (DESIGN CHOICE). -/
def runList (n : Nat) (fw : Bool) (u : Option Upset) : Nat → Nat → RunSt → State → RunSt × State
  | 0, _, r, s => ({ r with status := 7 }, s)
  | k + 1, a, r, s =>
    if a % 32 ≠ 0 then ({ r with status := 7 }, s)
    else if s.boot.ddrBytes < a + 32 then ({ r with status := 2 }, s)
    else
      let e := leNat (Memory.read s.dma.ddr a 32)
      let i := 4095 - k
      let r := { r with tag := bits e 223 192, entry := i }
      let src := bits e 63 0
      let last := bit e 160
      if bit e 161 then
        if last then (r, s)
        else if src / 2 ^ 60 ≠ 0 then ({ r with status := 2 }, s)
        else runList n fw u k (src % 2 ^ 60) r s
      else
        let (r, s) := moveEntry n fw src (bits e 127 64) (bits e 159 128) (upsetAt u i) r s
        if r.status ≠ 0 ∨ last then (r, s) else runList n fw u k (a + 32) r s

/-- Index-table mode (R391, Table 13-5). -/
def runTable (n : Nat) (fw : Bool) (u : Option Upset) (a : Nat) (r : RunSt) (s : State) : RunSt × State :=
  if a % 32 ≠ 0 then ({ r with status := 7 }, s)
  else if s.boot.ddrBytes < a + 32 then ({ r with status := 2 }, s)
  else
    let t := Memory.read s.dma.ddr a 32
    let block := fieldAt t 16 4
    let count := fieldAt t 20 4
    if count = 0 then (r, s)
    else if 4096 < count ∨ block = 0 ∨ 16777216 < block then ({ r with status := 7 }, s)
    else if s.boot.ddrBytes < a + 32 + 8 * count then ({ r with status := 2 }, s)
    else (List.range count).foldl (fun x i =>
      if x.1.status ≠ 0 then x
      else
        let p := Memory.read x.2.dma.ddr (a + 32 + 8 * i) 8
        moveEntry n fw ((fieldAt t 0 8 + fieldAt p 0 4 * block) % 2 ^ 64) ((fieldAt t 8 8 + fieldAt p 4 4 * block) % 2 ^ 64) block
          (upsetAt u i) { x.1 with entry := i } x.2) (r, s)

/-- Owner of channel c: firmware, or a kernel slot. -/
def State.chanOwner (s : State) (c : Nat) : Nat := s.parN Prm.dmaChanOwner c

/-- A completion goes to the Ladle queue of its engine, or to firmware (R389, R390). -/
def pushCompletion (c status tag : Nat) (s : State) : State :=
  let n := c / 32
  if s.chanOwner c < 64 then
    if 64 ≤ (s.sprue n).cq.length then bump Prm.dmaCqLost n s
    else updSprue n (fun x => { x with cq := x.cq ++ [(status, c % 32, tag % 65536)] }) s
  else { s with dma := { s.dma with fwDone := s.dma.fwDone ++ [(c, status, tag)] } }

/-- Channels of an engine that hold a list. -/
def State.readyChans (s : State) (n : Nat) : List Nat := (List.range 32).filter fun k => (s.dma.chan.get (32 * n + k)).isSome

/-- SPRUE_RUN_START: an idle engine takes the next ready channel in round-robin order and runs its list (R384, R385). -/
def execSprueRunStart (n : Nat) (host : List Byte) (u : Option Upset) (s : State) : Host.Outcome State Fault Refusal :=
  let e := s.sprue n
  .next (
    if 8 ≤ n ∨ s.par Prm.dmaEngineEnable n = 0 ∨ e.running.isSome then s
    else
      match ((List.range 32).map fun j => (e.last + 1 + j) % 32).find? fun k => (s.dma.chan.get (32 * n + k)).isSome with
      | none => s
      | some k =>
        let c := 32 * n + k
        let a := (s.dma.chan.get c).getD 0
        let fw := decide (s.chanOwner c = 0xFE)
        let (r, s) := if s.par Prm.dmaChanMode c = 1 then runTable n fw u a { host := host } s
          else runList n fw u 4096 a { host := host } s
        let st := if r.status = 0 ∧ r.bytes = 0 then 1 else r.status
        updSprue n (fun x => { x with
          running := some { chan := k, status := st, tag := r.tag, bytes := r.bytes, entry := r.entry }, last := k }) s)

/-- SPRUE_RUN_COMPLETE: the read-back returns and the run completes; `err` is 3 or 4 where the read-back fails (R387,
R388). -/
def execSprueRunComplete (n err : Nat) (s : State) : Host.Outcome State Fault Refusal :=
  .next (match (s.sprue n).running with
    | none => s
    | some r =>
      let c := 32 * n + r.chan
      let st := if r.status = 0 ∧ (err = 3 ∨ err = 4) then err else r.status
      let s := updSprue n (fun x => { x with running := none }) (setChan c none s)
      let s := bumpBy Prm.dmaBytes c r.bytes (bump Prm.dmaRuns c s)
      let s := if 2 ≤ st then bump Prm.dmaErrors c s else s
      let s := if st = 2 ∨ st = 3 ∨ st = 4 ∨ st = 7 then raise Ev.dmaError c (detail [(0, 1, st), (4, 4, r.entry)]) s else s
      pushCompletion c st r.tag s)

/-- DMA.engine_enable = 0 stops an engine at once: every list it holds completes ABORTED (R390). -/
def stopSprue (n : Nat) (s : State) : State :=
  let ks := s.readyChans n
  let tag := match (s.sprue n).running with | some r => r.tag | none => 0
  let run := (s.sprue n).running.map (·.chan)
  let s := updSprue n (fun x => { x with running := none }) s
  let s := ks.foldl (fun s k =>
    let c := 32 * n + k
    pushCompletion c 5 (if run = some k then tag else 0) (bump Prm.dmaErrors c (bump Prm.dmaRuns c (setChan c none s)))) s
  if ks.isEmpty then s else raise Ev.dmaAborted n (detail [(0, 1, ks.length)]) s

/-- DMA_GO on channel k by Ladle engine e, for the kernel slot of its current job (R387, R389, R390). -/
def ladleDmaGo (e k : Nat) (s : State) : State :=
  let n := e / 4
  let c := 32 * n + k
  let slot : Option Nat := (s.runner e).job.bind fun j =>
    let q := s.parN Prm.taskQueueSlot j.queue
    if q < 64 then some q else none
  let x := s.eng e
  let done := fun st =>
    let s := bump Prm.dmaErrors c s
    if 64 ≤ (s.sprue n).cq.length then bump Prm.dmaCqLost n s
    else updSprue n (fun x => { x with cq := x.cq ++ [(st, k, 0)] }) s
  match slot with
  | none => done 6
  | some sl =>
    if s.chanOwner c ≠ sl ∨ (s.kernel sl).abi < 2 then done 6
    else if s.par Prm.dmaEngineEnable n = 0 then done 5
    else if (s.dma.chan.get c).isSome then done 8
    else setChan c (some (x.dmaLo + x.dmaHi * 2 ^ 32)) s

/-- DMA_GO by firmware on channel c with a list address. -/
def firmwareDmaGo (c a : Nat) (s : State) : State :=
  let done := fun st =>
    let s := bump Prm.dmaErrors c s
    { s with dma := { s.dma with fwDone := s.dma.fwDone ++ [(c, st, 0)] } }
  if 256 ≤ c then s
  else if s.chanOwner c ≠ 0xFE then done 6
  else if s.par Prm.dmaEngineEnable (c / 32) = 0 then done 5
  else if (s.dma.chan.get c).isSome then done 8
  else setChan c (some a) s

/-- DMA_STATUS of a Ladle engine: the oldest completion of its Sprue engine, removed (R389, Table 13-4). -/
def dmaStatus (e : Nat) (s : State) : Nat × State :=
  match (s.sprue (e / 4)).cq with
  | [] => (0, s)
  | (st, k, tag) :: rest =>
    (2 ^ 31 + st * 2 ^ 27 + k * 2 ^ 22 + tag, updSprue (e / 4) (fun x => { x with cq := rest }) s)

end Sys2Proof.Machine
end

