-- ==== Sys2Proof/Machine/Store.lean ====
section
/-!
DEFINITION. The edge store: drives (R399 to R401), objects and store commands (R402, R403, R407), splices (R404 to R406),
and its recast (R408).
-/
namespace Sys2Proof.Machine

def State.drive (s : State) (d : Nat) : Drive := s.dma.drive.get d
def updDrive (d : Nat) (f : Drive → Drive) (s : State) : State := { s with dma := { s.dma with drive := s.dma.drive.upd d f } }

/-- Unit of the store (Table 17-5). -/
def storeUnit : RUnit := ⟨1, 0x11, 0⟩

/-- Code of a drive state (Table 13-9). -/
def DriveSt.code : DriveSt → Nat
  | .off => 0 | .absent => 1 | .init => 2 | .ready => 3 | .failed => 4

/-- Code of an object state (Table 13-10). -/
def ObjSt.code : ObjSt → Nat
  | .open_ => 1 | .sealed => 2 | .deleting => 3 | .lost => 4

/-- Bytes of an extent, extents of the index, and extents and objects at most (R401). -/
def extentBytes : Nat := 1048576
def indexExtents : Nat := 1024
def maxExtents : Nat := 7629394
def maxObjects : Nat := 4194304

/-- Extents for a number of bytes. -/
def extentsFor (n : Nat) : Nat := (n + extentBytes - 1) / extentBytes

/-- Extents of an object: those of its maximum length until SEAL frees the unused ones (R402). -/
def Obj.extents (o : Obj) : Nat := if o.sealedAt = 0 then extentsFor o.max else extentsFor o.data.length

/-- Objects of a drive. -/
def State.objsOn (s : State) (d : Nat) : List Obj := s.dma.objs.filter fun o => o.drive == d

/-- Extents of a drive that the store uses, and free ones. -/
def State.extentsTotal (s : State) (d : Nat) : Nat := min (s.drive d).extents maxExtents
def State.extentsFree (s : State) (d : Nat) : Nat :=
  s.extentsTotal d - indexExtents - ((s.objsOn d).map Obj.extents).sum

/-- The drive takes commands. -/
def State.driveReady (s : State) (d : Nat) : Bool :=
  (s.drive d).st == .ready && decide (s.par Prm.storeEnable 0 = 1) && !s.stopped storeUnit

def State.obj? (s : State) (k : Nat) : Option Obj := s.dma.objs.find? fun o => o.key == k

/-- Change an object. -/
def updObj (k : Nat) (f : Obj → Obj) (s : State) : State :=
  { s with dma := { s.dma with objs := s.dma.objs.map fun o => if o.key = k then f o else o } }

def State.storeJob? (s : State) (cid : Nat) : Option StoreJob := s.dma.jobs.find? fun j => j.cid == cid

def updStoreJob (cid : Nat) (f : StoreJob → StoreJob) (s : State) : State :=
  { s with dma := { s.dma with jobs := s.dma.jobs.map fun j => if j.cid = cid then f j else j } }

def endStoreJob (cid : Nat) (s : State) : State :=
  { s with dma := { s.dma with jobs := s.dma.jobs.filter fun j => j.cid != cid } }

/-- A splice. -/
def StoreJob.splice (j : StoreJob) : Bool := j.op == .spliceTcp || j.op == .spliceMcast

/-- A reader of an object (R407). -/
def StoreJob.reader (j : StoreJob) : Bool := j.op == .read || j.splice

def State.readers (s : State) (k : Nat) : Nat := (s.dma.jobs.filter fun j => j.key == k && j.reader).length

/-! ### Headers of a splice -/

/-- Offsets of the IP and of the transport header in a template of Ethernet II with up to two VLAN tags and IPv4, or IPv6
without extension headers; true for IPv6 (R404, R405). -/
def templateShape (t : List Byte) (proto : Nat) : Option (Nat × Nat × Bool) :=
  let vlan := fun e : Nat => e == 0x8100 || e == 0x88A8
  let e0 := beAt t 12 2
  let o := if !vlan e0 then 14 else if !vlan (beAt t 16 2) then 18 else 22
  let e := beAt t (o - 2) 2
  if e = 0x0800 ∧ beAt t o 1 / 16 = 4 then
    let hl := beAt t o 1 % 16 * 4
    if 20 ≤ hl ∧ beAt t (o + 9) 1 = proto then some (o, o + hl, false) else none
  else if e = 0x86DD ∧ beAt t o 1 / 16 = 6 ∧ beAt t (o + 6) 1 = proto then some (o, o + 40, true)
  else none

/-- The template ends where its transport header ends. -/
def templateOk (t : List Byte) (tcp : Bool) : Bool :=
  match templateShape t (if tcp then 6 else 17) with
  | none => false
  | some (_, l4, _) => if tcp then decide (20 ≤ beAt t (l4 + 12) 1 / 16 * 4) && decide (l4 + beAt t (l4 + 12) 1 / 16 * 4 = t.length)
    else decide (l4 + 8 = t.length)

/-- Checksum of the pseudo-header, the transport header with a zero checksum, and the payload. -/
def transportSum (v6 : Bool) (ip seg : List Byte) (proto : Nat) : Nat :=
  let addr := if v6 then bytesAt ip 8 32 else bytesAt ip 12 8
  inetSum (addr ++ beBytes 4 seg.length ++ beBytes 4 proto ++ seg)

/-- IP header with its length, and for IPv4 its ID and checksum, completed. Log entry 44 (PRESUMED). -/
def completeIp (v6 : Bool) (ip : List Byte) (i segLen : Nat) : List Byte :=
  if v6 then putAt ip 4 (beBytes 2 segLen)
  else
    let h := putAt ip 2 (beBytes 2 (ip.length + segLen))
    let h := putAt h 4 (beBytes 2 (beAt ip 4 2 + i))
    let h := putAt h 10 [0, 0]
    putAt h 10 (beBytes 2 (inetSum h))

/-- Segment i of a splice, whose payload starts at byte b of the range (R404, R405). Log entry 80 (DEDUCED). -/
def splicePacket (tcp : Bool) (t payload : List Byte) (i b : Nat) (last : Bool) : List Byte :=
  match templateShape t (if tcp then 6 else 17) with
  | none => t ++ payload
  | some (l3, l4, v6) =>
    let ip := completeIp v6 (bytesAt t l3 (l4 - l3)) i (t.length - l4 + payload.length)
    let h := t.drop l4
    let h := if tcp then
        let h := putAt h 4 (beBytes 4 (beAt h 4 4 + b))
        let flags := beAt h 13 1
        let h := putAt h 13 (beBytes 1 (if last then flags else setBit (setBit flags 3 false) 0 false))
        putAt h 16 [0, 0]
      else putAt (putAt h 4 (beBytes 2 (8 + payload.length))) 6 [0, 0]
    let sum := transportSum v6 ip (h ++ payload) (if tcp then 6 else 17)
    let h := if tcp then putAt h 16 (beBytes 2 sum) else putAt h 6 (beBytes 2 (if sum = 0 then 0xFFFF else sum))
    t.take l3 ++ ip ++ h ++ payload

/-! ### Completion -/

/-- Result of a splice (R406). Log entry 79 (DEDUCED). -/
def spliceResult (j : StoreJob) (failed : Bool) : List Byte :=
  let seq := if j.op == .spliceTcp then
      match templateShape j.template 6 with
      | some (_, l4, _) => (beAt j.template (l4 + 4) 4 + j.done) % 2 ^ 32
      | none => 0
    else 0
  le 8 j.done ++ le 4 j.pkts ++ le 4 seq ++ le 4 (b2n j.cancelled + 2 * b2n failed) ++ le 4 0

/-- End a store command with the result of its kind. -/
def completeStore (j : StoreJob) (st : Status) (failed : Bool) (s : State) : State :=
  let res := if j.splice then spliceResult j failed
    else match j.op with
      | .seal_ => match s.obj? j.key with | some o => le 8 o.data.length | none => le 8 0
      | .delete => []
      | _ => le 8 j.done
  finish j.cid (if j.splice then .ok else st) res (endStoreJob j.cid s)

/-- The commands outstanding on a drive end because it has stopped (R400, R406). -/
def failJobs (d : Nat) (s : State) : State :=
  let keys := (s.objsOn d).map (·.key)
  (s.dma.jobs.filter fun j => keys.contains j.key).foldl (fun s j => completeStore j .busy true s) s

/-! ### Drives -/

/-- A drive changes state (R400, Table 13-14); entry to FAILED loses its objects. -/
def setDrive (d : Nat) (st : DriveSt) (why : Nat) (s : State) : State :=
  let old := (s.drive d).st
  if old == st then s
  else
    let s := updDrive d (fun x => { x with st := st, initAt := if st == .init then s.now else x.initAt }) s
    let s := raise Ev.storeDriveState d (detail [(0, 1, st.code), (1, 1, old.code)]) s
    let s := if st == .failed then
        let s := raise Ev.storeDriveFailed d (detail [(0, 1, why)]) s
        { s with dma := { s.dma with objs := s.dma.objs.map fun o => if o.drive = d then { o with st := .lost } else o } }
      else s
    if st == .failed || st == .off then failJobs d s else s

/-- ABSENT, and INIT at once where the link is up (Table 13-9). Log entry 80 (DEDUCED). -/
def enableDrive (d : Nat) (s : State) : State :=
  if (s.drive d).st == .off then
    let s := setDrive d .absent 0 s
    if (s.drive d).link then setDrive d .init 0 s else s
  else s

/-- A commit of STORE.drive_enable[d] takes effect (Table 13-9). -/
def applyDriveEnable (d : Nat) (s : State) : State :=
  if s.par Prm.storeDriveEnable d = 1 ∧ s.boot.running then enableDrive d s else setDrive d .off 0 s

/-- DRIVE_LINK_UP. -/
def execDriveLinkUp (d : Nat) (s : State) : Host.Outcome State Fault Refusal :=
  .next (if 2 ≤ d then s
    else
      let s := updDrive d (fun x => { x with link := true }) s
      if (s.drive d).st == .absent then setDrive d .init 0 s else s)

/-- A drive fails, for a reason in READY; from INIT every failure is reason 4. -/
def failDrive (d why : Nat) (s : State) : State :=
  match (s.drive d).st with
  | .ready => setDrive d .failed why s
  | .init => setDrive d .failed 4 s
  | _ => s

/-- DRIVE_INIT_DONE, with the extents that the drive offers: the index is rebuilt from the checkpoint and journal, and what
was not sealed is discarded (R401). -/
def execDriveInitDone (d extents : Nat) (s : State) : Host.Outcome State Fault Refusal :=
  .next (
    if (s.drive d).st != .init || s.stopped storeUnit then s
    else
      let s := updDrive d (fun x => { x with extents := extents }) s
      let kept := (s.drive d).media
      let dying := fun k => s.dma.jobs.any fun j => j.key == k && j.op == .delete
      let gone := ((s.objsOn d).filter fun o => !(kept.any fun m => m.key == o.key)).length
      let objs := kept.map fun o => if dying o.key then { o with st := .deleting } else { o with st := .sealed }
      let s := { s with dma := { s.dma with
        objs := (s.dma.objs.filter fun o => o.drive != d) ++ objs
        bind := s.dma.bind.filter fun b => !((s.objsOn d).any fun o => o.key == b.key) } }
      raise Ev.storeIndexRebuilt d (detail [(0, 4, objs.length), (4, 4, gone)]) (setDrive d .ready 0 s))

/-- DRIVE_INIT_TIMEOUT: 10 s in INIT. -/
def execDriveInitTimeout (d : Nat) (s : State) : Host.Outcome State Fault Refusal :=
  .next (if (s.drive d).st == .init && decide ((s.drive d).initAt + 10000000000 ≤ s.now) then failDrive d 4 s else s)

/-- DRIVE_LINK_DOWN. -/
def execDriveLinkDown (d : Nat) (s : State) : Host.Outcome State Fault Refusal :=
  .next (if 2 ≤ d then s else failDrive d 2 (updDrive d (fun x => { x with link := false }) s))

/-- DRIVE_FATAL_STATUS. -/
def execDriveFatalStatus (d : Nat) (s : State) : Host.Outcome State Fault Refusal := .next (failDrive d 3 s)

/-- NVME_TIMEOUT: the controller of the drive is reset and every outstanding command re-issued; a second timeout within 60 s
fails the drive (R400). Log entry 80 (DEDUCED). -/
def execNvmeTimeout (d opcode : Nat) (s : State) : Host.Outcome State Fault Refusal :=
  .next (match (s.drive d).st with
    | .off | .absent | .failed => s
    | st =>
      let s := raise Ev.storeTimeout d (detail [(0, 2, opcode)]) (bump Prm.storeResets d s)
      let recent := (s.drive d).timeouts.filter fun t => decide (s.now < t + 60000000000)
      let s := updDrive d (fun x => { x with timeouts := recent ++ [s.now] }) s
      if st == .init || !recent.isEmpty then failDrive d 1 s else s)

/-! ### Commands (Table 13-10) -/

/-- Checks that every command on an object shares (R403, R407): the key, the drive and DELETING. -/
def withObj (k : Nat) (s : State) (f : Obj → Reply) : Reply :=
  if k = 0 then { st := .badParam, s := s }
  else match s.obj? k with
    | none => { st := .badParam, s := s }
    | some o =>
      if o.st == .deleting then { st := .conflict, s := s }
      else if !s.driveReady o.drive then { st := .busy, s := s }
      else f o

/-- Key of a store command. -/
def storeKey (p : List Byte) : Nat := fieldAt p 0 16

/-- STORE_INFO. Log entry 79 (DEDUCED). -/
def storeInfo (s : State) : Reply :=
  { st := .ok, s := s, body := (List.range 2).flatMap fun d =>
      le 1 (s.drive d).st.code ++ le 3 0 ++ le 4 (s.extentsTotal d) ++ le 4 (s.extentsFree d) ++ le 4 (s.objsOn d).length }

/-- The READY drive with more free extents. Log entry 79 (DEDUCED). -/
def State.roomier (s : State) : Option Nat :=
  match s.driveReady 0, s.driveReady 1 with
  | true, true => some (if s.extentsFree 0 < s.extentsFree 1 then 1 else 0)
  | true, false => some 0
  | false, true => some 1
  | false, false => none

/-- STORE_CREATE. Log entry 79 (DEDUCED). -/
def storeCreate (p : List Byte) (s : State) : Reply :=
  let k := storeKey p
  let max := fieldAt p 16 8
  let want := fieldAt p 24 1
  let fail := fun st => ({ st := st, s := s } : Reply)
  if k = 0 ∨ fieldAt p 25 7 ≠ 0 ∨ (want ≠ 0 ∧ want ≠ 1 ∧ want ≠ 0xFF) ∨ 4294967296 < max then fail .badParam
  else if max = 0 then fail .zero
  else if (s.obj? k).isSome then fail .conflict
  else match (if want = 0xFF then s.roomier else some want) with
    | none => fail .busy
    | some d =>
      if !s.driveReady d then fail .busy
      else if 256 ≤ (s.dma.objs.filter fun o => o.st == .open_).length ∨ maxObjects ≤ s.dma.objs.length then fail .noResource
      else if s.extentsFree d < extentsFor max then
        { st := .noResource, s := raise Ev.storeFull d (detail [(4, 4, extentsFor max)]) s }
      else { st := .ok, s := { s with dma := { s.dma with objs := s.dma.objs ++ [{ key := k, drive := d, max := max }] } } }

/-- Bytes that the outstanding WRITE commands of an object have still to append. -/
def State.writing (s : State) (k : Nat) : Nat :=
  ((s.dma.jobs.filter fun j => j.key == k && j.op == .write).map fun j => j.len - j.done).sum

/-- A SEAL of the object is outstanding. -/
def State.sealing (s : State) (k : Nat) : Bool := s.dma.jobs.any fun j => j.key == k && j.op == .seal_

/-- Start work that ends with a COMPLETE event. -/
def startStore (j : StoreJob) (s : State) : Reply :=
  { st := .pending, s := { s with dma := { s.dma with jobs := s.dma.jobs ++ [{ j with since := s.now }] } } }

/-- STORE_WRITE. Log entry 79 (DEDUCED). -/
def storeWrite (cid : Nat) (p : List Byte) (s : State) : Reply :=
  let n := fieldAt p 24 2
  withObj (storeKey p) s fun o =>
    if n = 0 then { st := .zero, s := s }
    else if 252 < n ∨ p.length ≠ 32 + 16 * n ∨ fieldAt p 26 6 ≠ 0 then { st := .badParam, s := s }
    else
      let segs := (List.range n).map fun i => (fieldAt p (32 + 16 * i) 8, fieldAt p (40 + 16 * i) 4)
      let len := (segs.map (·.2)).sum
      let at_ := o.data.length + s.writing o.key
      if (List.range n).any fun i => decide (fieldAt p (44 + 16 * i) 4 ≠ 0) then { st := .badParam, s := s }
      else if o.st != .open_ || s.sealing o.key then { st := .conflict, s := s }
      else if fieldAt p 16 8 ≠ at_ ∨ o.max < at_ + len then { st := .badParam, s := s }
      else if len = 0 then { st := .zero, s := s }
      else startStore { cid := cid, op := .write, key := o.key, off := at_, len := len, segs := segs } s

/-- STORE_INGEST. Log entry 79 (DEDUCED). -/
def storeIngest (p : List Byte) (s : State) : Reply :=
  let mark := fieldAt p 16 2
  let anchor := fieldAt p 18 1
  withObj (storeKey p) s fun o =>
    if 2 < anchor ∨ fieldAt p 19 5 ≠ 0 then { st := .badParam, s := s }
    else if o.st != .open_ || s.sealing o.key then { st := .conflict, s := s }
    else if anchor = 2 then
      if s.dma.bind.any fun b => b.mark == mark && b.key == o.key then
        { st := .ok, s := { s with dma := { s.dma with bind := s.dma.bind.filter fun b => b.mark != mark } } }
      else { st := .conflict, s := s }
    else if s.dma.bind.any fun b => b.mark == mark then { st := .conflict, s := s }
    else if 64 ≤ s.dma.bind.length then { st := .noResource, s := s }
    else { st := .ok, s := { s with dma := { s.dma with bind := s.dma.bind ++ [{ mark := mark, key := o.key, payload := decide (anchor = 1) }] } } }

/-- STORE_SEAL. -/
def storeSeal (cid : Nat) (p : List Byte) (s : State) : Reply :=
  withObj (storeKey p) s fun o =>
    if o.st != .open_ || s.sealing o.key then { st := .conflict, s := s }
    else if o.data.length + s.writing o.key = 0 ∧ !(s.dma.bind.any fun b => b.key == o.key) then { st := .zero, s := s }
    else startStore { cid := cid, op := .seal_, key := o.key } s

/-- Stop a WRITE, or a SEAL that an object no longer needs, with what it has done. -/
def stopWrites (k : Nat) (s : State) : State :=
  (s.dma.jobs.filter fun j => j.key == k && (j.op == .write || j.op == .seal_)).foldl (fun s j =>
    completeStore j (if j.op == .write then .ok else .conflict) false s) s

/-- STORE_DELETE: the object is DELETING; an OPEN one cancels its writes and ingests first (R407). -/
def storeDelete (cid : Nat) (p : List Byte) (s : State) : Reply :=
  withObj (storeKey p) s fun o =>
    let s := stopWrites o.key s
    let s := { s with dma := { s.dma with bind := s.dma.bind.filter fun b => b.key != o.key } }
    startStore { cid := cid, op := .delete, key := o.key } (updObj o.key (fun o => { o with st := .deleting }) s)

/-- STORE_STAT, also of a LOST or DELETING object. Log entry 79 (DEDUCED). -/
def storeStat (p : List Byte) (s : State) : Reply :=
  match (if storeKey p = 0 then none else s.obj? (storeKey p)) with
  | none => { st := .badParam, s := s }
  | some o =>
    { st := .ok, s := s, body := le 1 o.st.code ++ le 1 o.drive ++ le 2 0 ++ le 4 (s.readers o.key) ++ le 8 o.data.length ++
        le 8 o.max ++ le 8 (o.sealedAt - 1) }

/-- Range of a SEALED object that a READ or a splice names. -/
def withRange (p : List Byte) (s : State) (f : Obj → Nat → Nat → Reply) : Reply :=
  let off := fieldAt p 16 8
  let len := fieldAt p 24 8
  withObj (storeKey p) s fun o =>
    if o.st != .sealed then { st := .conflict, s := s }
    else if len = 0 then { st := .zero, s := s }
    else if o.data.length < off + len then { st := .badParam, s := s }
    else f o off len

/-- STORE_READ. -/
def storeRead (cid : Nat) (p : List Byte) (s : State) : Reply :=
  withRange p s fun o off len =>
    startStore { cid := cid, op := .read, key := o.key, off := off, len := len, host := fieldAt p 32 8 } s

/-- STORE_SPLICE_TCP and STORE_SPLICE_MCAST (R404, R405). -/
def storeSplice (tcp : Bool) (cid : Nat) (p : List Byte) (s : State) : Reply :=
  let dest := fieldAt p 32 2
  let tid := fieldAt p 34 1
  let hlen := fieldAt p 35 1
  let mss := fieldAt p 36 2
  let t := bytesAt p 56 hlen
  let lo := if tcp then 54 else 42
  if p.length ≠ 56 + hlen ∨ hlen < lo ∨ 128 < hlen ∨ mss < (if tcp then 64 else 16) ∨ 9000 < mss ∨ fieldAt p 38 2 ≠ 0 ∨
      fieldAt p 46 10 ≠ 0 ∨ !templateOk t tcp ∨ (if tcp then 7 < tid ∨ (dest < 2 ^ 15 ∧ queues ≤ dest) else tid ≠ 0 ∨ 4096 ≤ dest) then
    { st := .badParam, s := s }
  else withRange p s fun o off len =>
    startStore { cid := cid, op := if tcp then .spliceTcp else .spliceMcast, key := o.key, off := off, len := len, dest := dest,
                 tid := tid, mss := mss, rate := fieldAt p 40 4, mark := fieldAt p 44 2, template := t } s

/-- STORE_CANCEL, of the outstanding command with a tag (R407): the WRITE, READ or splice ends where it stands.
Log entry 79 (DEDUCED). -/
def storeCancel (p : List Byte) (s : State) : Reply :=
  let tag := fieldAt p 0 4
  if fieldAt p 4 4 ≠ 0 then { st := .badParam, s := s }
  else match s.mbx.outstanding.find? fun o => o.tag == tag with
    | none => { st := .conflict, s := s }
    | some o => match s.storeJob? o.cid with
      | none => { st := .conflict, s := s }
      | some j =>
        if j.op == .seal_ || j.op == .delete then { st := .conflict, s := s }
        else { st := .ok, s := completeStore { j with cancelled := true } .ok false s }

/-- The payload length that a store opcode accepts (Table 2-14, check 8). -/
def storeLength (op len : Nat) : Bool :=
  match op with
  | 0x40 => decide (len = 0)
  | 0x41 => decide (len = 32)
  | 0x42 => decide (32 ≤ len) && decide (len % 16 = 0)
  | 0x43 => decide (len = 24)
  | 0x44 | 0x45 | 0x46 => decide (len = 16)
  | 0x47 => decide (len = 40)
  | 0x48 => decide (110 ≤ len)
  | 0x49 => decide (98 ≤ len)
  | 0x4A => decide (len = 8)
  | _ => true

/-! ### Drive work -/

/-- The bytes of a drive read: STORE.read_kib at most (Table 13-13). -/
def State.readChunk (s : State) (left : Nat) : Nat := min (s.parN Prm.storeReadKib 0 * 1024) left

/-- Marks bound to an object. -/
def State.marksOf (s : State) (k : Nat) : List Nat := (s.dma.bind.filter fun b => b.key == k).map (·.mark)

/-- A packet of the object waits in its drive's ingest queue. -/
def State.ingestWaits (s : State) (o : Obj) : Bool :=
  (s.tq (16977 + o.drive)).pkts.any fun p => (s.marksOf o.key).contains (s.wb p.handle).mark

/-- An object is sealed: its journal record is on the drive (R401, R402). -/
def sealObj (k : Nat) (s : State) : State :=
  let s := updObj k (fun o => { o with st := .sealed, sealedAt := s.tbNs 2 + 1 }) s
  let s := { s with dma := { s.dma with bind := s.dma.bind.filter fun b => b.key != k } }
  match s.obj? k with
  | some o => updDrive o.drive (fun d => { d with media := d.media ++ [o] }) s
  | none => s

/-- NVME_COMPLETION: a command that drive d ran for an outstanding store command completes, with the host's bytes for a
WRITE (R403 to R407). -/
def execNvmeCompletion (d cid : Nat) (host : List Byte) (s : State) : Host.Outcome State Fault Refusal :=
  .next (match s.storeJob? cid with
    | none => s
    | some j => match s.obj? j.key with
      | none => s
      | some o =>
        if o.drive ≠ d || !s.driveReady d then s
        else match j.op with
          | .write =>
            let first := s.dma.jobs.find? fun x => x.key == j.key && x.op == .write
            match j.segs with
            | [] => s
            | (_, len) :: rest =>
              if (first.map (·.cid)) ≠ some cid then s
              else
                let s := updObj j.key (fun o => { o with data := o.data ++ bytesAt host 0 len }) s
                let s := bumpBy Prm.storeWriteBytes d len s
                let j := { j with segs := rest, done := j.done + len }
                if rest.isEmpty then completeStore j .ok false s else updStoreJob cid (fun _ => j) s
          | .read =>
            let k := s.readChunk (j.len - j.done)
            let s := bumpBy Prm.storeReadBytes d k (hostWrite (j.host + j.done) (bytesAt o.data (j.off + j.done) k) s)
            let j := { j with done := j.done + k }
            if j.len ≤ j.done then completeStore j .ok false s else updStoreJob cid (fun _ => j) s
          | .spliceTcp | .spliceMcast =>
            let k := s.readChunk (j.len - j.fetched)
            bumpBy Prm.storeReadBytes d k (updStoreJob cid (fun j => { j with fetched := j.fetched + k }) s)
          | .seal_ =>
            if (s.dma.jobs.any fun x => x.key == j.key && x.op == .write) || s.ingestWaits o then s
            else if o.data.isEmpty then completeStore j .zero false s
            else completeStore j .ok false (sealObj j.key s)
          | .delete => updStoreJob cid (fun j => { j with flushed := true })
              (updDrive d (fun x => { x with media := x.media.filter fun m => m.key != j.key }) s))

/-- DELETE_FINISH: no reader is left, the journal record has been flushed, and the extents have been deallocated (R407). -/
def execDeleteFinish (cid : Nat) (s : State) : Host.Outcome State Fault Refusal :=
  .next (match s.storeJob? cid with
    | none => s
    | some j =>
      if j.op != .delete || !j.flushed || decide (0 < s.readers j.key) then s
      else completeStore j .ok false { s with dma := { s.dma with objs := s.dma.objs.filter fun o => o.key != j.key } })

/-! ### Splices -/

/-- A paced splice may send its next packet (R404): the bits sent so far take their time at `rate` kb/s. -/
def State.paced (s : State) (j : StoreJob) : Bool := decide (j.rate = 0) || decide (j.sentBytes * 8 * 1000000 ≤ j.rate * (s.now - j.since))

/-- SPLICE_SEGMENT: the next segment gets its buffer and goes to its queue, the classifier or replication (R404, R405); on
EMPTY the store retries in the next cycle. -/
def execSpliceSegment (cid : Nat) (s : State) : Host.Outcome State Fault Refusal :=
  .next (match s.storeJob? cid with
    | none => s
    | some j => match s.obj? j.key with
      | none => s
      | some o =>
        let size := min j.mss (j.len - j.done)
        let tcp := j.op == .spliceTcp
        let directed := tcp && decide (j.dest < 2 ^ 15)
        if !j.splice || !s.driveReady o.drive || decide (s.par Prm.pktEnable 0 = 0) || s.stopped packetPath ||
            decide (j.fetched < j.done + size) || !s.paced j ||
            (directed && decide (s.parN Prm.tollQmaxBytes j.dest ≤ 2 * (s.tq j.dest).depth)) then s
        else
          let last := decide (j.len ≤ j.done + size)
          let d := splicePacket tcp j.template (bytesAt o.data (j.off + j.done) size) j.pkts j.done last
          let next := { j with done := j.done + size, pkts := j.pkts + 1, sentBytes := j.sentBytes + d.length }
          let go := fun s => if last then completeStore next .ok false s else updStoreJob cid (fun _ => next) s
          let room := s.parN Prm.poolHeadroom 0
          match alloc 9 (room + d.length) s with
          | (.handle h, s) =>
            let s := bump Prm.pktRxPkts 9 s
            let s := updWb h (fun w => { w with
              offset := room, srcType := 4, srcInst := o.drive, data := d, whole := d.length, ts := s.now, tid := j.tid
              mark := j.mark, version := s.pkt.version }) s
            go (if !tcp then updWb h (fun w => { w with owner := 10, group := some j.dest }) s
                else parseAndClassify h 0 (if directed then some j.dest else none) s)
          | (.empty, s) => bump Prm.storeBufWait 0 s
          | (_, s) => go (bump Prm.pktTooLong 0 s))

/-! ### Recast -/

/-- The store recasts (R408): READ, WRITE and splices stop, OPEN objects and bindings go, and both drive controllers are
reset and pass through INIT. Log entry 80 (DEDUCED). -/
def stopStore (s : State) : State :=
  let keep := fun k => (s.dma.drive.any fun d => d.2.media.any fun m => m.key == k)
  let s := { s with dma := { s.dma with
    jobs := s.dma.jobs.filter fun j => j.op == .delete && keep j.key
    objs := s.dma.objs.filter fun o => o.st == .sealed || o.st == .lost || (o.st == .deleting && o.sealedAt != 0)
    bind := [] } }
  (List.range 2).foldl (fun s d => match (s.drive d).st with
    | .ready => setDrive d .init 0 s
    | .init => updDrive d (fun x => { x with initAt := s.now }) s
    | _ => s) s

end Sys2Proof.Machine
end

