-- ==== Sys2Proof/Machine/HostTx.lean ====
section
/-!
DEFINITION. The host's transmit rings (R395, R396).
-/
namespace Sys2Proof.Machine

/-- Queue a fetched packet for its write-back. Log entry 81 (DEDUCED). -/
def pushTx (n : Nat) (w : TxWait) (s : State) : State :=
  let s := updRing n (fun r => { r with wait := r.wait ++ [w], taken := r.taken + w.descs }) s
  flushTx n ((s.ring n).wait.length + 1) s

/-- Posted descriptors of one packet: the last, and only the last, carries eop. Log entry 81 (DEDUCED). -/
def oneDescPacket (descs : List Nat) : Bool :=
  match descs.getLast? with
  | none => false
  | some l => bit l 80 && (descs.dropLast.all fun d => !bit d 80)

/-- TX_PACKET_FETCH: transmit ring n has fetched the descriptors of its next packet and their data (R395, R396); `err` is a
PCIe read error. -/
def execTxPacketFetch (n : Nat) (descs : List Nat) (data : List Byte) (err : Bool) (s : State) :
    Host.Outcome State Fault Refusal :=
  .next (
    if n < 16 ∨ 32 ≤ n ∨ !s.ringOn n ∨ !oneDescPacket descs ∨ s.posted n < (s.ring n).taken + descs.length then s
    else
      let total := (descs.map fun d => bits d 79 64).sum
      let e := descs.getLastD 0
      let mode := bits e 82 81
      let ts := bit e 101
      let w : TxWait := { descs := descs.length, tsReq := ts }
      let done := fun st s => pushTx n { w with done := some (st, 0, 0) } s
      if total = 0 then done 1 s
      else if err ∨ mode = 3 ∨ 16 < descs.length ∨ 65535 < total ∨ (mode = 2 ∧ queues ≤ bits e 97 83) then done 4 s
      else
        let a : Arrival := {
          port := 8, srcType := 3, srcInst := n, data := bytesAt data 0 total
          directed := if mode = 2 then some (bits e 97 83) else none
          cls := if mode = 1 then 2 else 0
          ring := if ts then some n else none
          setTid := if mode = 2 then bits e 100 98 else 0
          mark := if bit e 102 then bits e 119 104 else 0 }
        let pre := fun h s => pushTx n { w with handle := h, done := if ts then none else some (0, 0, 0) } s
        let (st, s) := ingressWith pre a s
        if st = 0 then s else done st s)

end Sys2Proof.Machine
end

