-- ==== Sys2Proof/Machine/MacSec.lean ====
section
/-!
DEFINITION. MACsec on the Ethernet ports (R481, R482), with the SecTAG of IEEE 802.1AE.
-/
namespace Sys2Proof.Machine

/-- SEC.macsec (Table 16-8). -/
def Tbl.secMacsec : TableDef where
  id := 0x15110000
  insts := 4
  entries := fun _ => 1
  size := 48
  dflt := fun _ _ => le 48 (2 ^ 67 + 2 ^ 69)

/-- Fields of an entry. -/
structure MacsecEntry where
  sci : Nat
  cipher : Nat
  encrypt : Bool
  validate : Nat
  txAn : Nat
  anValid : Nat
  sak : List Nat
  window : Nat
  ssci : Nat
  salt : Nat
  reserved : Nat
deriving DecidableEq, Repr, Inhabited

def macsecEntry (b : List Byte) : MacsecEntry :=
  let v := leNat b
  { sci := bits v 63 0, cipher := bits v 66 64, encrypt := bit v 67, validate := bits v 69 68, txAn := bits v 71 70
    anValid := bits v 75 72, sak := [bits v 87 76, bits v 99 88, bits v 111 100, bits v 123 112]
    window := bits v 155 124, ssci := bits v 187 156, salt := bits v 283 188, reserved := bits v 383 284 }

def State.macsec (s : State) (n : Nat) : MacsecEntry := macsecEntry (s.entry Tbl.secMacsec n 0)

/-- An extended-packet-number cipher. -/
def MacsecEntry.xpn (e : MacsecEntry) : Bool := decide (3 ≤ e.cipher)

/-- Usage of a SAK for the cipher (Table 16-4). -/
def MacsecEntry.usage (e : MacsecEntry) : Nat := if e.cipher = 1 ∨ e.cipher = 3 then 3 else 4

/-- Packet numbers of an AN: one past the last. -/
def MacsecEntry.space (e : MacsecEntry) : Nat := if e.xpn then 2 ^ 64 else 2 ^ 32

/-- Key of port and AN in the packet-number stores. -/
def pnKey (n an : Nat) : Nat := 4 * n + an

def State.sakOf (s : State) (e : MacsecEntry) (an : Nat) : List Byte := (s.sec.slots.get (e.sak.getD an 0)).key

/-- Initialisation vector: SCI and packet number, or the salt with short SCI and packet number added. -/
def MacsecEntry.iv (e : MacsecEntry) (sci pn : Nat) : List Byte :=
  if e.xpn then beBytes 12 (e.salt ^^^ (e.ssci * 2 ^ 64 + pn)) else beBytes 8 sci ++ beBytes 4 pn

/-- SecTAG: EtherType 0x88E5, control octet, short length, packet number, SCI. Log entry 44 (PRESUMED). -/
def secTag (e : MacsecEntry) (pn len : Nat) : List Byte :=
  beBytes 2 0x88E5 ++ beBytes 1 (0x20 + (if e.encrypt then 0x0C else 0) + e.txAn) ++ beBytes 1 (if len < 48 then len else 0) ++
    beBytes 4 pn ++ beBytes 8 e.sci

/-- Protect a frame for transmission on port n; `none` where the packet numbers are used up. -/
def macsecTx (n : Nat) (d : List Byte) (s : State) : Option (List Byte) × State :=
  let e := s.macsec n
  if e.cipher = 0 then (some d, s)
  else
    let k := pnKey n e.txAn
    let pn := s.sec.txPn.get k
    if e.space ≤ pn then (none, bump Prm.secMacsecTxDrop n s)
    else
      let s := { s with sec := { s.sec with txPn := s.sec.txPn.put k (pn + 1) } }
      let s := if pn = e.space / 4 * 3 then raise Ev.secMacsecPn n (detail [(0, 1, e.txAn)]) s else s
      let s := if pn + 1 = e.space then raise Ev.secMacsecPn n (detail [(0, 1, e.txAn), (1, 1, 1)]) s else s
      let body := d.drop 12
      let hdr := d.take 12 ++ secTag e pn body.length
      let key := s.sakOf e e.txAn
      let iv := e.iv e.sci pn
      let out := if e.encrypt then bytesAt (Config.gcmSeal key iv hdr body) 0 (body.length + 16)
        else body ++ bytesAt (Config.gcmSeal key iv (hdr ++ body) []) 0 16
      (some (hdr ++ out), s)

/-- Recover an extended packet number from its low half and the highest one received. -/
def recoverPn (highest low : Nat) : Nat :=
  let hi := highest / 2 ^ 32
  if 2 ^ 31 ≤ highest % 2 ^ 32 ∧ low < highest % 2 ^ 32 - 2 ^ 31 then (hi + 1) * 2 ^ 32 + low else hi * 2 ^ 32 + low

/-- Check a received frame on port n; `none` where it is dropped (R479, R481). -/
def macsecRx (n : Nat) (d : List Byte) (s : State) : Option (List Byte) × State :=
  let e := s.macsec n
  let tagged := decide (beAt d 12 2 = 0x88E5)
  let fail := (none, bump Prm.secMacsecAuthFail n s)
  if e.cipher = 0 then (if tagged then fail else (some d, s))
  else if !tagged then (if e.validate = 2 then fail else (some d, s))
  else
    let tci := beAt d 14 1
    let an := tci % 4
    let sc := bit tci 5
    let enc := bit tci 3
    let hdrLen := if sc then 28 else 20
    let sci := if sc then beAt d 20 8 else beAt d 6 6 * 2 ^ 16 + 1
    let k := pnKey n an
    let highest := s.sec.rxPn.get k
    let pn := if e.xpn then recoverPn highest (beAt d 16 4) else beAt d 16 4
    let hdr := d.take hdrLen
    let body := d.drop hdrLen
    let plain := body.take (body.length - 16)
    let key := s.sakOf e an
    let opened := if !bit e.anValid an || decide (body.length < 16) || bit tci 7 then none
      else if enc then Config.gcmOpen key (e.iv sci pn) hdr body
      else (Config.gcmOpen key (e.iv sci pn) (hdr ++ plain) (body.drop (body.length - 16))).map fun _ => plain
    if e.validate = 0 then (if enc || decide (body.length < 16) then fail else (some (d.take 12 ++ plain), s))
    else match opened with
      | none => fail
      | some b =>
        if pn + e.window < highest + 1 then (none, bump Prm.secMacsecReplay n s)
        else
          (some (d.take 12 ++ b), { s with sec := { s.sec with rxPn := s.sec.rxPn.put k (max highest pn) } })

/-- The page of port n has switched: the packet numbers of a new transmit AN start at 1, and those of an AN with a new key
are forgotten (R482). -/
def applyMacsec (n : Nat) (old : MacsecEntry) (s : State) : State :=
  let e := s.macsec n
  let fresh := fun an => decide (old.sak.getD an 0 ≠ e.sak.getD an 0) || !bit old.anValid an
  let tx := if e.cipher ≠ 0 ∧ (old.cipher = 0 ∨ old.txAn ≠ e.txAn) then s.sec.txPn.put (pnKey n e.txAn) 1 else s.sec.txPn
  let rx := (List.range 4).foldl (fun t an => if bit e.anValid an && fresh an then Tab.erase t (pnKey n an) else t) s.sec.rxPn
  { s with sec := { s.sec with txPn := tx, rxPn := rx } }

/-- The check of TABLE_COMMIT: reason of the conflict, if any (R481). -/
def macsecConflict (n : Nat) (s : State) : Option Nat :=
  let e := macsecEntry (s.standbyEntry Tbl.secMacsec n 0)
  if 4 < e.cipher ∨ e.reserved ≠ 0 ∨ (e.cipher ≠ 0 ∧ !bit e.anValid e.txAn) then some 6
  else if e.cipher ≠ 0 ∧ (List.range 4).any fun an => bit e.anValid an && decide ((s.sec.slots.get (e.sak.getD an 0)).usage ≠ e.usage) then
    some 7
  else none

end Sys2Proof.Machine
end

