-- ==== Sys2Proof/Machine/Gpio.lean ====
section
/-!
DEFINITION. General-purpose balls (R535).
-/
namespace Sys2Proof.Machine

/-- Level of GPIO g. Log entry 90 (DEDUCED). -/
def State.gpioLevel (s : State) (g : Nat) : Bool := (s.gpio.get g).level

/-- The ball is unpowered in the power state (R535). -/
def State.gpioDead (s : State) (g : Nat) : Bool := decide (10 ≤ g) && s.power.railsOff

/-- The ball of GPIO g takes a level: an enabled edge raises DEV_GPIO, once the configuration is in force (R535).
Log entry 100 (DEDUCED). -/
def setGpio (g : Nat) (level : Bool) (s : State) : State :=
  if s.gpioLevel g = level then s
  else
    let t := { s with gpio := s.gpio.put g { level := level } }
    if s.booted && bit (s.parN Prm.devGpioEvent g) (if level then 0 else 1) then raise Ev.devGpio g (detail [(0, 1, b2n level)]) t else t

/-- The level that the device itself drives: push-pull, or an open drain that is low; `none` leaves the ball to the board
(Table 18-10). -/
def State.gpioDrive (s : State) (g : Nat) : Option Bool :=
  if !s.booted || s.gpioDead g then none
  else match s.parN Prm.devGpioMode g with
    | 1 => some (decide (s.par Prm.devGpioOut g = 1))
    | 2 => if s.par Prm.devGpioOut g = 0 then some false else none
    | _ => none

/-- The ball follows what the device drives. Log entry 100 (DEDUCED). -/
def driveGpio (g : Nat) (s : State) : State := match s.gpioDrive g with | some l => setGpio g l s | none => s

/-- Every ball follows its configuration. -/
def driveGpios (s : State) : State := (List.range 24).foldl (fun s g => driveGpio g s) s

/-- GPIO10 to GPIO23 lose their rail (R535). Log entry 98 (DESIGN CHOICE). -/
def dropGpios (s : State) : State := { s with gpio := s.gpio.clearRange 10 24 }

/-- GPIO_EDGE: the board moves the ball of GPIO g to a level; a ball that the device drives stays where it is (R535).
Log entry 100 (DEDUCED). -/
def execGpioEdge (g : Nat) (level : Bool) (s : State) : Host.Outcome State Fault Refusal :=
  .next (if g < 24 ∧ (s.gpioDrive g).isNone ∧ !s.gpioDead g then setGpio g level s else s)

end Sys2Proof.Machine
end

