-- ==== Sys2Proof/Machine/Eth.lean ====
section
/-!
DEFINITION. The Ethernet ports: frames, link state, low-power idle, LLDP, SNAPSHOT and PTP stamps (R412 to R419, R425 to
R429).
-/
namespace Sys2Proof.Machine

def State.port (s : State) (n : Nat) : EthPort := s.eth.port.get n
def updPort (n : Nat) (f : EthPort → EthPort) (s : State) : State := { s with eth := { s.eth with port := s.eth.port.upd n f } }

/-! ### Statistics (Table 14-2) -/

/-- Places of the counters in a port block. -/
def Stat.rxOctets : Nat := 0
def Stat.rxFrames : Nat := 1
def Stat.rxUnicast : Nat := 2
def Stat.rxFcsErr : Nat := 5
def Stat.rxRunt : Nat := 6
def Stat.rxOversize : Nat := 7
def Stat.rxMacCtrl : Nat := 8
def Stat.rxFiltered : Nat := 9
def Stat.rxFifoDrop : Nat := 10
def Stat.rxBins : Nat := 11
def Stat.txOctets : Nat := 18
def Stat.txFrames : Nat := 19
def Stat.txUnicast : Nat := 20
def Stat.txLinkDrop : Nat := 23
def Stat.txLpiEntries : Nat := 24
def Stat.txLpiUs : Nat := 25
def Stat.rxLpiEntries : Nat := 26
def Stat.rxLpiUs : Nat := 27
def Stat.localFaults : Nat := 28
def Stat.remoteFaults : Nat := 29
def Stat.ptpRx : Nat := 30
def Stat.ptpTx : Nat := 31

/-- Add to a live counter. -/
def countStat (n i k : Nat) (s : State) : State := updPort n (fun p => { p with stats := p.stats.put i (satAdd 64 (p.stats.get i) k) }) s

/-- Place of a destination address after the unicast counter: 0 unicast, 1 multicast, 2 broadcast. -/
def castOf (d : List Byte) : Nat :=
  if beAt d 0 6 = 0xFFFFFFFFFFFF then 2 else if bit (beAt d 0 1) 0 then 1 else 0

/-- Size bin of a frame of `len` bytes, FCS included. -/
def sizeBin (len : Nat) : Nat :=
  if len ≤ 64 then 0 else if len ≤ 127 then 1 else if len ≤ 255 then 2 else if len ≤ 511 then 3 else if len ≤ 1023 then 4
  else if len ≤ 1518 then 5 else 6

/-- SNAPSHOT (R418). -/
def snapshot (p : List Byte) (s : State) : Reply :=
  let mask := fieldAt p 0 1
  let flags := fieldAt p 1 1
  if 16 ≤ mask ∨ 2 ≤ flags ∨ fieldAt p 2 6 ≠ 0 then { st := .badParam, s := s }
  else if mask = 0 then { st := .zero, s := s }
  else
    let ps := pick 4 fun n => bit mask n
    let body := le 10 (s.tb80 0) ++ le 1 mask ++ le 5 0 ++ ps.flatMap fun n => (List.range 32).flatMap fun i => le 8 ((s.port n).stats.get i)
    { st := .ok, body := body, s := if flags = 1 then ps.foldl (fun s n => updPort n (fun p => { p with stats := [] }) s) s else s }

/-! ### Link state (R414) -/

/-- ETH.link_state[n]. -/
def State.ethLink (s : State) (n : Nat) : Nat :=
  if (s.lane (16 + n)).st = .up then (if (s.port n).fault = 0 then 1 else (s.port n).fault) else 0

/-- Discard the frame in the transmit FIFO. -/
def dropFifo (n : Nat) (s : State) : State :=
  let hs := (s.sched (67 + n)).out
  let s := updSched (67 + n) (fun x => { x with out := [] }) s
  hs.foldl (fun s h => countStat n Stat.txLinkDrop 1 (free h.1 s)) s

/-- ETH_LINK_CHANGE: the lane or the fault signalling (0 none, 2 local, 3 remote) changes the link state. -/
def execEthLinkChange (n fault : Nat) (s : State) : Host.Outcome State Fault Refusal :=
  .next (
    if 4 ≤ n ∨ (fault ≠ 0 ∧ fault ≠ 2 ∧ fault ≠ 3) then s
    else
      let old := (s.port n).fault
      let s := updPort n (fun p => { p with fault := fault }) s
      let s := if fault = 2 ∧ old ≠ 2 then countStat n Stat.localFaults 1 s
        else if fault = 3 ∧ old ≠ 3 then countStat n Stat.remoteFaults 1 s else s
      let now := s.ethLink n
      let s := if now = 1 then s else dropFifo n s
      if now = (s.port n).link then s
      else raise Ev.ethLink n (detail [(0, 1, now)]) (updPort n (fun p => { p with link := now }) s))

/-! ### Low-power idle (R415 to R417) -/

/-- An eligible backlogged queue stands at the port's scheduler. -/
def State.portEligible (s : State) (n : Nat) : Bool :=
  let e := 67 + n
  decide (s.par Prm.ethEnable n = 1) && (s.backlogged e).any fun q => (s.tier e q).isSome

/-- Buckets of the port's queues filled up to now. -/
def fillPort (n : Nat) (s : State) : State := (s.backlogged (67 + n)).foldl (fun s q => fillBuckets q s) s

/-- EEE_TX_ENTRY (R415). -/
def execEeeTxEntry (n : Nat) (s : State) : Host.Outcome State Fault Refusal :=
  let s := fillPort n s
  let p := s.port n
  .next (
    if 4 ≤ n ∨ s.ethLink n ≠ 1 ∨ p.lpi then s
    else if s.portEligible n ∨ (s.sched (67 + n)).out ≠ [] then updPort n (fun p => { p with idleAt := s.now }) s
    else if p.tw = 0 ∨ s.now < p.idleAt + s.parN Prm.ethLpiIdleUs n * 1000 then s
    else
      let s := updLane (16 + n) (fun k => { k with txQuiet := true }) s
      countStat n Stat.txLpiEntries 1 (updPort n (fun p => { p with lpi := true, lpiAt := s.now }) s))

/-- The transmit direction wakes: a frame may start the resolved wake time after the 1 µs of entry is over (R415). -/
def wakeTx (n : Nat) (s : State) : State :=
  let p := s.port n
  let s := countStat n Stat.txLpiUs ((s.now - p.lpiAt) / 1000) s
  let s := updLane (16 + n) (fun k => { k with txQuiet := false }) s
  updPort n (fun p => { p with lpi := false, readyAt := max s.now (p.lpiAt + 1000) + p.tw * 1000 }) s

/-- EEE_TX_WAKE (R415). -/
def execEeeTxWake (n : Nat) (s : State) : Host.Outcome State Fault Refusal :=
  let s := fillPort n s
  .next (if n < 4 ∧ (s.port n).lpi ∧ s.portEligible n then wakeTx n s else s)

/-- LPI_GATE_WAKE: the next gate entry of the port protects a class and begins within one wake time (R417). -/
def execLpiGateWake (n : Nat) (s : State) : Host.Outcome State Fault Refusal :=
  let e := 67 + n
  let h := gateHead (s.entry Tbl.tollGate e 0)
  let l := s.gateList e
  let g := s.sched e
  let p := s.port n
  let near := match l.getD (g.gateEntry - 1) (0, 0, 0), l.getD (g.gateEntry % h.count) (0, 0, 0) with
    | cur, nxt => decide (nxt.2.1 ≠ 0) && decide (g.gateAt + cur.2.2 ≤ s.tbNs h.tb + p.tw * 1000)
  let first := match l.head? with
    | some x => decide (x.2.1 ≠ 0) && decide (h.base ≤ s.tbNs h.tb + p.tw * 1000)
    | none => false
  .next (if decide (n < 4) && p.lpi && decide (h.count ≠ 0) && (if g.gateEntry = 0 then first else near) then wakeTx n s else s)

/-- EEE_RX_LPI and EEE_RX_WAKE at the MAC: the receive direction's counters. -/
def rxLpi (n : Nat) (on : Bool) (s : State) : State :=
  let p := s.port n
  if on && !p.rxLpi then countStat n Stat.rxLpiEntries 1 (updPort n (fun p => { p with rxLpi := true, rxLpiAt := s.now }) s)
  else if !on && p.rxLpi then countStat n Stat.rxLpiUs ((s.now - p.rxLpiAt) / 1000) (updPort n (fun p => { p with rxLpi := false }) s)
  else s

/-- EEE_RX_LPI: a receive direction goes quiet (R120). -/
def execEeeRxLpi (p : Nat) (s : State) : Host.Outcome State Fault Refusal :=
  .next (if p < 4 ∧ (s.lane (16 + p)).st = .up then rxLpi p true (updLane (16 + p) (fun k => { k with rxQuiet := true }) s) else s)

/-- EEE_RX_WAKE (R120). -/
def execEeeRxWake (p : Nat) (s : State) : Host.Outcome State Fault Refusal :=
  .next (if p < 4 then rxLpi p false (updLane (16 + p) (fun k => { k with rxQuiet := false }) s) else s)

/-! ### Wake-time resolution (R416) -/

/-- The partner's Receive Tw, by the source that ETH.lpi_mode selects. -/
def State.partnerTw (s : State) (n : Nat) : Option Nat :=
  match s.par Prm.ethLpiMode n with
  | 1 => (s.port n).lldp.map (·.rxTw)
  | 2 => if s.parN Prm.ethLpiPartnerTwUs n = 0 then none else some (s.parN Prm.ethLpiPartnerTwUs n)
  | _ => none

/-- Resolve the transmit wake time again. -/
def resolveTw (n : Nat) (s : State) : State :=
  let tw := match s.partnerTw n with | some t => max 5 t | none => 0
  if tw = (s.port n).tw then s
  else raise Ev.ethLpiResolved n (detail [(0, 2, tw)]) (updPort n (fun p => { p with tw := tw }) s)

/-- TLVs of an LLDPDU: type and value. Log entry 44 (PRESUMED). -/
def lldpTlvs : Nat → List Byte → List (Nat × List Byte)
  | 0, _ => []
  | k + 1, d =>
    let h := beAt d 0 2
    if d.length < 2 ∨ h / 512 = 0 then []
    else (h / 512, bytesAt d 2 (h % 512)) :: lldpTlvs k (d.drop (2 + h % 512))

/-- Organisation and subtype of the EEE TLV of IEEE 802.3 Clause 79. -/
def eeeOui : Nat := 0x00120F05

/-- LLDP multicast address of the nearest bridge. -/
def lldpAddress : Nat := 0x0180C200000E

/-- An EEE TLV in a received LLDPDU updates the partner's values (R416). -/
def lldpRx (n : Nat) (d : List Byte) (s : State) : State :=
  if s.par Prm.ethLpiMode n ≠ 1 ∨ beAt d 0 6 ≠ lldpAddress ∨ beAt d 12 2 ≠ 0x88CC then s
  else
    let ts := lldpTlvs 64 (d.drop 14)
    match ts.find? (fun t => t.1 == 3), ts.find? (fun t => t.1 == 127 && beAt t.2 0 4 == eeeOui) with
    | some ttl, some e =>
      let life := beAt ttl.2 0 2
      let v : Lldp := { txTw := beAt e.2 4 2, rxTw := beAt e.2 6 2, until_ := s.now + life * 1000000000 }
      resolveTw n (updPort n (fun p => { p with lldp := if life = 0 then none else some v }) s)
    | _, _ => s

/-- LLDP_TTL_EXPIRY (R416). -/
def execLldpTtlExpiry (n : Nat) (s : State) : Host.Outcome State Fault Refusal :=
  .next (match (s.port n).lldp with
    | some v => if v.until_ ≤ s.now then resolveTw n (updPort n (fun p => { p with lldp := none }) s) else s
    | none => s)

/-- One TLV. -/
def tlv (typ : Nat) (v : List Byte) : List Byte := beBytes 2 (typ * 512 + v.length) ++ v

/-- The LLDPDU of the port's agent (R416). -/
def State.lldpdu (s : State) (n : Nat) : List Byte :=
  let mac := beBytes 6 (s.parN Prm.ethMacAddr n)
  let rx := s.parN Prm.ethLpiRxTwUs n
  let (et, er) := match (s.port n).lldp with | some v => (v.txTw, v.rxTw) | none => (0, 0)
  beBytes 6 lldpAddress ++ mac ++ beBytes 2 0x88CC ++ tlv 1 (beBytes 1 4 ++ mac) ++ tlv 2 (beBytes 1 3 ++ mac) ++
    tlv 3 (beBytes 2 (4 * s.parN Prm.ethLldpIntervalS n)) ++
    tlv 127 (beBytes 4 eeeOui ++ beBytes 2 5 ++ beBytes 2 rx ++ beBytes 2 rx ++ beBytes 2 et ++ beBytes 2 er) ++ tlv 0 []

/-! ### Transmission -/

/-- Pad a frame to the smallest size, and append its FCS. Log entry 44 (PRESUMED). -/
def wireFrame (d : List Byte) : List Byte :=
  let d := bytesAt d 0 (max 60 d.length)
  d ++ le 4 (crc32 d)

/-- Send a frame on the wire and count it. -/
def sendFrame (n : Nat) (d : List Byte) (s : State) : State :=
  let f := wireFrame d
  let s := updPort n (fun p => { p with sent := p.sent ++ [f], idleAt := s.now }) s
  let s := countStat n Stat.txOctets f.length (countStat n Stat.txFrames 1 s)
  countStat n (Stat.txUnicast + castOf d) 1 s

/-- LLDP_TX (R416): in mode 1 the agent sends its LLDPDU every lldp_interval_s. -/
def execLldpTx (n : Nat) (s : State) : Host.Outcome State Fault Refusal :=
  let p := s.port n
  .next (
    if 4 ≤ n ∨ s.par Prm.ethLpiMode n ≠ 1 ∨ s.ethLink n ≠ 1 ∨
        (p.lldpAt ≠ 0 ∧ s.now + 1 < p.lldpAt + s.parN Prm.ethLldpIntervalS n * 1000000000) then s
    else sendFrame n (s.lldpdu n) (updPort n (fun p => { p with lldpAt := s.now + 1 }) s))

/-! ### PTP (R425 to R429) -/

/-- Offset of the frame's EtherType after up to two tags. -/
def etherOffset (d : List Byte) : Nat :=
  let vlan := fun e : Nat => e == 0x8100 || e == 0x88A8
  if !vlan (beAt d 12 2) then 12 else if !vlan (beAt d 16 2) then 16 else 20

/-- Kind of PTP transport and offset of the PTP header (R425). Log entry 82 (DEDUCED). -/
def ptpKind (d : List Byte) : Option (Nat × Nat) :=
  let o := etherOffset d
  match beAt d o 2 with
  | 0x88F7 => some (0, o + 2)
  | 0x0800 =>
    let hl := beAt d (o + 2) 1 % 16 * 4
    if beAt d (o + 11) 1 = 17 ∧ beAt d (o + 2 + hl + 2) 2 = 319 then some (1, o + 2 + hl + 8) else none
  | 0x86DD => if beAt d (o + 8) 1 = 17 ∧ beAt d (o + 44) 2 = 319 then some (2, o + 50) else none
  | _ => none

/-- The MAC marks the frame as a PTP event. -/
def State.ptpEvent (s : State) (n : Nat) (d : List Byte) : Bool :=
  match ptpKind d with
  | some (k, o) => bit (s.parN Prm.ethPtpDetect n) k && decide (o < d.length) && decide (beAt d o 1 % 16 < 4)
  | none => false

/-- A fifth marked frame gets no stamp (R426). Log entry 82 (DEDUCED). -/
def stampLost (n tx : Nat) (s : State) : State :=
  warnOnce Prm.ethPtpTsLost n Ev.ethPtpTsLost n (detail [(0, 1, tx)]) (bump Prm.ethPtpTsLost n s)

/-- A write-back that waited for a waybill waits for a stamp. -/
def rehandle (r h id : Nat) (s : State) : State :=
  updRing r (fun x => { x with
    wait := x.wait.map fun (t : TxWait) => if t.handle = h && t.done.isNone then { t with handle := id } else t }) s

/-- ETH_FRAME_TX_START: the frame is whole in the transmit FIFO, and the MAC starts it (R413, R415, R425, R429). -/
def execEthFrameTxStart (n : Nat) (s : State) : Host.Outcome State Fault Refusal :=
  let e := 67 + n
  let p := s.port n
  .next (
    if 4 ≤ n ∨ s.ethLink n ≠ 1 ∨ p.lpi ∨ s.now < p.readyAt then s
    else match (s.sched e).out with
      | [] => s
      | (h, _) :: rest =>
        let s := updSched e (fun x => { x with out := rest }) s
        let w := s.wb h
        match macsecTx n w.data s with
        | (none, s) => free h s
        | (some d, s) =>
          let s := sendFrame n d s
          let tb := s.parN Prm.ethPtpTb n
          if !(s.ptpEvent n w.data || w.ring.isSome) then sendOff h 0 tb s
          else if 4 ≤ p.txMarks.length then sendOff h 0 tb (stampLost n 1 s)
          else
            let id := waybills + s.eth.nextMark
            let s := match w.ring with
              | some r => rehandle r h id s
              | none => s
            let m : PtpMark := { ring := w.ring.map fun r => (r, id) }
            let s := updPort n (fun p => { p with txMarks := p.txMarks ++ [m] }) { s with eth := { s.eth with nextMark := s.eth.nextMark + 1 } }
            free h (updWb h (fun w => { w with ring := none }) s))

/-- Latency constants of a port (Table 14-5): receive and transmit. -/
def State.ptpLatency (s : State) (n : Nat) : Nat × Nat :=
  match s.par Prm.laneRate (16 + n), s.par Prm.laneFecMode (16 + n) with
  | 3, 0 => (142, 88)
  | 3, 1 => (310, 96)
  | 4, 0 => (96, 61)
  | 4, 1 => (214, 70)
  | 4, 2 => (402, 118)
  | 5, _ => (435, 230)
  | _, _ => (0, 0)

/-- Lane clock periods in units of 2⁻¹⁶ ns: 128 bits at the line rate (Table 1-5). -/
def State.laneWords (s : State) (n p : Nat) : Nat :=
  match s.par Prm.laneRate (16 + n) with
  | 3 => p * 128 * 65536 * 10000 / 103125
  | 4 => p * 128 * 65536 * 100000 / 2578125
  | _ => p * 128 * 65536 * 1000 / 53125

/-- Unit of Drover core 27, the timekeeper. -/
def timekeeper : RUnit := engineUnit (0x40 + 27)

/-- PTP_TIMESTAMP: DC27 reads the time base for the oldest marked frame of a source, after `wait` core cycles; its SFD stood
`p` lane words from its block reference (R426). Log entry 82 (DEDUCED). -/
def execPtpTimestamp (n : Nat) (tx : Bool) (p wait : Nat) (s : State) : Host.Outcome State Fault Refusal :=
  let x := s.port n
  .next (
    if 4 ≤ n ∨ s.stopped timekeeper ∨ (s.runner (0x40 + 27)).held then s
    else
      let tb := s.parN Prm.ethPtpTb n
      let read : Int := s.tb80 tb
      let (rx, txl) := s.ptpLatency n
      let ns := fun (v : Int) => v * 65536
      let w : Int := wait * 40960
      let words : Int := s.laneWords n p
      if tx then
        match x.txMarks with
        | [] => s
        | m :: rest =>
          let ts := twos 80 (read + ns txl - w + words + ns (s.par Prm.ethPtpTxCompNs n))
          let s := countStat n Stat.ptpTx 1 (updPort n (fun x => { x with txMarks := rest }) s)
          match m.ring with
          | some (r, id) => txOutcome r id 0 ts tb s
          | none => s
      else
        match x.rxMarks with
        | [] => s
        | m :: rest =>
          let ts := twos 80 (read - ns rx - w - words - ns (s.par Prm.ethPtpRxCompNs n))
          let s := countStat n Stat.ptpRx 1 (updPort n (fun x => { x with rxMarks := rest }) s)
          match m.handle with
          | some h => updWb h (fun w => { w with ts := ts / 65536 }) s
          | none => s)

/-! ### Reception (R413) -/

/-- ETH_FRAME_RX: the MAC receives a frame, given without its FCS (R413, R416, R425); `fifo` is an overflow of the receive
FIFO. -/
def execEthFrameRx (n : Nat) (d : List Byte) (fcsOk fifo : Bool) (s : State) : Host.Outcome State Fault Refusal :=
  let len := d.length + 4
  .next (
    if 4 ≤ n ∨ s.ethLink n ≠ 1 ∨ s.par Prm.ethEnable n = 0 then s
    else if !fcsOk then countStat n Stat.rxFcsErr 1 s
    else if len < 64 then countStat n Stat.rxRunt 1 s
    else if s.parN Prm.ethMaxFrame n < len then countStat n Stat.rxOversize 1 s
    else if beAt d 12 2 = 0x8808 then countStat n Stat.rxMacCtrl 1 s
    else if s.par Prm.ethFilter n = 1 ∧ castOf d = 0 ∧ beAt d 0 6 ≠ s.parN Prm.ethMacAddr n then countStat n Stat.rxFiltered 1 s
    else if fifo then countStat n Stat.rxFifoDrop 1 (fifoSlip Prm.ethRxFifoDrop Ev.fifoEthRxDrop n 1 s)
    else
      let s := countStat n Stat.rxOctets len (countStat n Stat.rxFrames 1 s)
      let s := countStat n (Stat.rxUnicast + castOf d) 1 (countStat n (Stat.rxBins + sizeBin len) 1 s)
      match macsecRx n d s with
      | (none, s) => s
      | (some d, s) =>
        let s := lldpRx n d s
        let mark := s.ptpEvent n d
        let room := decide ((s.port n).rxMarks.length < 4)
        let s := if mark && !room then stampLost n 0 s else s
        let pre := fun h s => if mark && room then updPort n (fun p => { p with rxMarks := p.rxMarks ++ [{ handle := some h }] }) s else s
        (ingressWith pre { port := 4 + n, srcType := 2, srcInst := n, data := d, ts := if mark then some 0 else none } s).2)

end Sys2Proof.Machine
end

