-- ==== Sys2Proof/Machine/Time.lean ====
section
/-!
DEFINITION. Time bases: their advance, steps and resets (R420 to R424), and pulse per second (R430 to R432).
-/
namespace Sys2Proof.Machine

/-- Units of 2⁻⁴⁸ ns in a nominal core cycle of 0.625 ns. Log entry 1 (DESIGN CHOICE). -/
def cycleUnits : Nat := 5 * 2 ^ 45

/-- Units by which a time base of a rate adjustment advances in a core cycle (R421). Log entry 1 (DESIGN CHOICE). -/
def cycleAdvance (rate : Int) : Nat := ((cycleUnits : Int) + (cycleUnits : Int) * rate / 1000000000000).toNat

def State.tbase (s : State) (t : Nat) : TimeBase := s.time.tb.get t
def updTb (t : Nat) (f : TimeBase → TimeBase) (s : State) : State := { s with time := { s.time with tb := s.time.tb.upd t f } }

/-- One core cycle of a time base; the 80-bit format wraps. -/
def TimeBase.tick (x : TimeBase) : TimeBase := { x with val := (x.val + cycleAdvance x.rate) % 2 ^ 112 }

/-- Every time base advances by one core cycle (R421). Log entry 1 (DESIGN CHOICE). -/
def tickTime (s : State) : State :=
  let tb := (List.range 12).foldl (fun t k => t.upd k TimeBase.tick) s.time.tb
  { s with time := { s.time with tb := tb, cycles := s.time.cycles + 1 } }

/-- TIME.state[t] (Table 14-4). -/
def State.tbState (s : State) (t : Nat) : Nat := if t = 0 then 0 else if (s.tbase t).isSet then 2 else 1

/-- A step of an UNSET time base (R422). -/
def stepTb (t : Nat) (off : Int) (s : State) : State :=
  raise Ev.timeStepped t (twos 64 off)
    (updTb t (fun x => { x with val := twos 112 ((x.val : Int) + off * 2 ^ 48), isSet := true, lastStep := off }) s)

/-- A reset of a time base (R422). -/
def resetTb (t : Nat) (s : State) : State :=
  raise Ev.timeReset t 0 (updTb t (fun x => { x with val := 0, rate := 0, isSet := false }) s)

/-- The host is the party that steps a time base (Table 14-3). -/
def State.hostSteps (s : State) (t : Nat) : Bool := decide (t = 11) || (decide (t = 2) && decide (s.par Prm.timeTb2Source 0 ≠ 2))

/-- The host is the party that sets its rate. -/
def State.hostRates (s : State) (t : Nat) : Bool := decide (t = 11) || (decide (t = 2) && decide (s.par Prm.timeTb2Source 0 = 1))

/-- Firmware lets every TSF follow the rate of TB2, or of TB0 while TB2 has no source (R241, R424).
Log entry 50 (DESIGN CHOICE). -/
def trackTsf (s : State) : State :=
  let r := if s.par Prm.timeTb2Source 0 = 0 then 0 else (s.tbase 2).rate
  (List.range 8).foldl (fun s k => if (s.tbase (3 + k)).rate = r then s else updTb (3 + k) (fun x => { x with rate := r }) s) s

/-- A PARAM_SET entry of the TIME group that conflicts with reason 6 (R420, R422, R434). -/
def State.timeConflict (s : State) (p : ParamDef) (t : Nat) : Bool :=
  if p.id = Prm.timeStepNs.id then !s.hostSteps t || s.tbState t == 2
  else if p.id = Prm.timeReset.id then !s.hostSteps t
  else if p.id = Prm.timeRateAdj.id then !s.hostRates t
  else false

/-- An immediate TIME value takes effect (R422). -/
def timeImmediate (p : ParamDef) (t : Nat) (v : Int) (s : State) : State :=
  if p.id = Prm.timeStepNs.id then stepTb t v s
  else if p.id = Prm.timeReset.id then (if v = 1 then trackTsf (resetTb t s) else s)
  else if p.id = Prm.timeRateAdj.id then trackTsf (updTb t (fun x => { x with rate := v }) s)
  else s

/-! ### Pulse per second -/

/-- Rates that TIME.rate_adj takes. Log entry 50 (DESIGN CHOICE). -/
def rateLimit : Nat := 500000000

/-- PPS_IN_EDGE: an edge of PPS_IN (R430, R431). The rate by which firmware steers TB2 is left open, within its limits.
Log entry 83 (DEDUCED). -/
def execPpsInEdge (rising : Bool) (s : State) : Host.Outcome State Fault Refusal :=
  let sel := if s.par Prm.timePpsInEdge 0 = 0 then rising else !rising
  let t0 := ((s.now : Int) - s.par Prm.timePpsInCompNs 0).toNat
  let t2 : Int := (s.tbNs 2 : Int) - s.par Prm.timePpsInCompNs 0
  let gap : Int := (t0 : Int) - s.time.ppsLast - 1000000000
  .next (
    if !sel || decide (s.par Prm.timePpsInEnable 0 = 0) then s
    else if s.time.ppsSeen && !s.time.ppsLost && decide ((s.parN Prm.timePpsInTolNs 0 : Int) < gap.natAbs) then
      bump Prm.timePpsInRejected 0 s
    else
      let m : Int := t2 % 1000000000
      let phase : Int := if m < 500000000 then m else m - 1000000000
      let lost := s.time.ppsLost
      let s := { s with time := { s.time with ppsLast := t0, ppsSeen := true, ppsLost := false, ppsPhase := phase } }
      let s := if lost then raise Ev.timePps 0 0 s else s
      if s.par Prm.timeTb2Source 0 = 3 then
        let (r, s) := drawBelow (2 * rateLimit + 1) s
        trackTsf (updTb 2 (fun x => { x with rate := (r : Int) - rateLimit }) s)
      else s)

/-- PPS_IN_LOSS: 2 s without an accepted edge while PPS_IN is the source of TB2 (R431). -/
def execPpsInLoss (s : State) : Host.Outcome State Fault Refusal :=
  .next (
    if s.par Prm.timeTb2Source 0 = 3 ∧ s.par Prm.timePpsInEnable 0 = 1 ∧ !s.time.ppsLost ∧ s.time.ppsLast + 2000000000 ≤ s.now then
      raise Ev.timePps 0 1 { s with time := { s.time with ppsLost := true } }
    else s)

/-- The time base of PPS_OUT stands at the core cycle nearest to a second boundary, less the compensation (R432).
Log entry 83 (DEDUCED). -/
def State.ppsDue (s : State) : Bool :=
  let x := s.tbase (s.parN Prm.timePpsOutTb 0)
  let second : Int := 1000000000 * 2 ^ 48
  let m : Int := ((x.val : Int) + s.par Prm.timePpsOutCompNs 0 * 2 ^ 48) % second
  decide (2 * m ≤ (cycleAdvance x.rate : Int)) || decide (2 * (second - m) < (cycleAdvance x.rate : Int))

/-- PPS_OUT_RISE. -/
def execPpsOutRise (s : State) : Host.Outcome State Fault Refusal :=
  .next (
    if s.par Prm.timePpsOutEnable 0 = 1 ∧ !s.time.ppsOut ∧ s.tbState (s.parN Prm.timePpsOutTb 0) ≠ 1 ∧ s.ppsDue then
      { s with time := { s.time with ppsOut := true, ppsRose := s.now } }
    else s)

/-- PPS_OUT_FALL. -/
def execPpsOutFall (s : State) : Host.Outcome State Fault Refusal :=
  .next (
    if s.time.ppsOut ∧ s.time.ppsRose + s.parN Prm.timePpsOutWidthUs 0 * 1000 ≤ s.now then
      { s with time := { s.time with ppsOut := false } }
    else s)

end Sys2Proof.Machine
end

