-- ==== Sys2Proof/Machine/Air.lean ====
section
/-!
DEFINITION. What the wireless MAC's operations share: channels (R247), service-period and TBTT timing (R231, R241), power
save (R227), PPDUs sent, and TXOPs (R219, R220).
-/
namespace Sys2Proof.Machine

def State.wradio (s : State) (r : Nat) : WRadio := s.wlan.radio.get r
def updWradio (r : Nat) (f : WRadio → WRadio) (s : State) : State := { s with wlan := { s.wlan with radio := s.wlan.radio.upd r f } }
def State.wsector (s : State) (k : Nat) : WSector := s.wlan.sector.get k
def updWsector (k : Nat) (f : WSector → WSector) (s : State) : State := { s with wlan := { s.wlan with sector := s.wlan.sector.upd k f } }
def State.staSt (s : State) (k : Nat) : StaSt := s.wlan.sta.get k
def updSta (k : Nat) (f : StaSt → StaSt) (s : State) : State := { s with wlan := { s.wlan with sta := s.wlan.sta.upd k f } }

/-- Unit of a radio's MAC (Table 17-5). -/
def macUnit (r : Nat) : RUnit := ⟨1, 8, r⟩

/-! ### Channels (R247) -/

/-- Lowest 20 MHz channel of the block of `n` 20 MHz channels, in a band of blocks that start at `first`, that holds a
channel. Log entry 43 (PRESUMED). -/
def blockStart (first n ch : Nat) : Nat := first + (ch - first) / (4 * n) * (4 * n)

/-- The bands of 20 MHz channels in the 5 GHz range: first channel, count. Log entry 43 (PRESUMED). -/
def bands5 : List (Nat × Nat) := [(36, 8), (100, 12), (149, 8)]

/-- Centre frequency in kHz and index of the primary 20 MHz subchannel; `none` where the channel and the bandwidth code do
not form an 802.11be channel of the radio's band. Log entry 43 (PRESUMED). -/
def channelPlan (r ch bw : Nat) : Option (Nat × Nat) :=
  let n := 2 ^ bw
  match r with
  | 0 =>
    if ch < 1 ∨ 13 < ch then none
    else if bw = 0 then some (2407000 + 5000 * ch, 0)
    else if bw = 1 then (if ch ≤ 7 then some (2407000 + 5000 * (ch + 2), 0) else some (2407000 + 5000 * (ch - 2), 1))
    else none
  | 1 =>
    if 3 < bw then none
    else match bands5.find? fun b => decide (b.1 ≤ ch) && decide (ch < b.1 + 4 * b.2) && decide ((ch - b.1) % 4 = 0) with
      | none => none
      | some (first, count) =>
        let lo := blockStart first n ch
        if first + 4 * count < lo + 4 * n then none
        else some (5000000 + 5000 * (lo + 2 * (n - 1)), (ch - lo) / 4)
  | _ =>
    if 4 < bw ∨ ch < 1 ∨ 233 < ch ∨ (ch - 1) % 4 ≠ 0 then none
    else
      let lo := blockStart 1 n ch
      if lo + 4 * (n - 1) ≤ 233 then some (5950000 + 5000 * (lo + 2 * (n - 1)), (ch - lo) / 4)
      else if bw = 4 ∧ 161 ≤ ch ∧ ch ≤ 221 then some (5950000 + 5000 * (161 + 30), (ch - 161) / 4)
      else none

/-- The puncturing patterns of 802.11be for a bandwidth code, as bits over its 20 MHz subchannels. Log entry 43 (PRESUMED). -/
def punctPatterns (bw : Nat) : List Nat :=
  let one := fun (n w : Nat) => (List.range n).map fun i => (2 ^ w - 1) * 2 ^ (w * i)
  match bw with
  | 2 => 0 :: one 4 1
  | 3 => 0 :: (one 8 1 ++ one 4 2)
  | 4 => 0 :: (one 8 2 ++ one 4 4 ++ ((List.range 6).map fun i => 0xF + 3 * 2 ^ (2 * (i + 2))) ++
      ((List.range 6).map fun i => 0xF000 + 3 * 2 ^ (2 * i)))
  | _ => [0]

/-- Committed channel, bandwidth and puncturing are valid (R247, Table 8-6). Log entry 43 (PRESUMED). -/
def planOk (r ch bw punct : Nat) : Bool :=
  match channelPlan r ch bw with
  | none => false
  | some (_, primary) => (punctPatterns bw).contains punct && !bit punct primary

/-- Centre frequency of a radio in force, kHz. Log entry 43 (PRESUMED). -/
def State.centreKhz (s : State) (r : Nat) : Nat :=
  match channelPlan r (s.parN Prm.wlanChannel r) (s.parN Prm.wlanBw r) with
  | some (f, _) => f
  | none => 0

/-! ### Timing -/

/-- TSF of a sector in µs. -/
def State.tsf (s : State) (k : Nat) : Nat := s.tbNs (3 + k) / 1000

/-- Beacon interval in µs. -/
def State.beaconUs (s : State) (k : Nat) : Nat := max 1 (s.parN Prm.wlanBeaconTu k * 1024)

/-- Nanoseconds from now to the next TBTT of a sector. -/
def State.toTbtt (s : State) (k : Nat) : Nat := s.beaconUs k * 1000 - s.tbNs (3 + k) % (s.beaconUs k * 1000)

/-- WLAN.twt (Table 8-3). -/
def Tbl.wlanTwt : TableDef where
  id := 0x08110000
  insts := 8
  entries := fun _ => 32
  size := 16

/-- Fields of a TWT entry. -/
structure TwtEntry where
  start : Nat
  interval : Nat
  duration : Nat
  tids : Nat
  valid : Bool
  restricted : Bool
  announced : Bool
  reserved : Nat
deriving DecidableEq, Repr, Inhabited

def twtEntry (b : List Byte) : TwtEntry :=
  let v := leNat b
  { start := bits v 63 0, interval := bits v 95 64, duration := bits v 111 96, tids := bits v 119 112
    valid := bit v 120, restricted := bit v 121, announced := bit v 122, reserved := bits v 127 123 }

def State.twt (s : State) (k i : Nat) : TwtEntry := twtEntry (s.entry Tbl.wlanTwt k i)

/-- TABLE_COMMIT of WLAN.twt (R231). -/
def twtPageOk (k : Nat) (s : State) : Bool := (List.range 32).all fun i =>
  let e := twtEntry (s.standbyEntry Tbl.wlanTwt k i)
  decide (e.reserved = 0) && (!e.valid || (decide (1024 ≤ e.interval) && decide (e.interval ≤ 4194304) && decide (256 ≤ e.duration) &&
    decide (e.duration ≤ e.interval) && (e.restricted || decide (e.tids = 0))))

/-- TABLE_COMMIT of WLAN.ssid (R247). -/
def Tbl.wlanSsid : TableDef where
  id := 0x08100000
  insts := 8
  entries := fun _ => 1
  size := 36

def ssidPageOk (k : Nat) (s : State) : Bool :=
  let b := s.standbyEntry Tbl.wlanSsid k 0
  let n := fieldAt b 0 1
  decide (1 ≤ n) && decide (n ≤ 32) && decide (fieldAt b 33 3 = 0)

/-- Nanoseconds from now to the next start of a restricted schedule, and whether its period covers now. -/
def State.toSp (s : State) (k i : Nat) : Option (Nat × Bool) :=
  let e := s.twt k i
  if !e.valid || !e.restricted then none
  else
    let t := s.tbNs (3 + k)
    let st := e.start * 1000
    let iv := max 1 (e.interval * 1000)
    if t < st then some (st - t, false)
    else
      let p := (t - st) % iv
      some (iv - p, decide (p < e.duration * 1000))

/-! ### Quiet intervals (R459, R460) -/

/-- CVN.plan (Table 15-9). -/
def Tbl.cvnPlan : TableDef where
  id := 0x14110000
  insts := 1
  entries := fun _ => 1
  size := 48

/-- The plan in force. -/
def State.venuePlan (s : State) : List Byte := s.entry Tbl.cvnPlan 0 0

/-- Nanoseconds of a superframe (R446). -/
def sfNs : Nat := 4096000000

/-- The quiet schedule that a radio follows: period in ms and interval length in µs. Log entry 102 (DEDUCED). -/
def State.quietPlan (s : State) (r : Nat) : Option (Nat × Nat) :=
  let p := s.venuePlan
  if s.par Prm.cvnPlanApply r = 1 ∧ fieldAt p 0 2 ≠ 0 ∧ bit (fieldAt p 6 1) r ∧ fieldAt p 10 2 ≠ 0 then some (fieldAt p 10 2, fieldAt p 12 2)
  else none

/-- Nanoseconds left of a quiet interval that runs on a radio, and nanoseconds to the start of the next. -/
def State.quietNow (s : State) (r : Nat) : Option (Nat × Nat) :=
  (s.quietPlan r).map fun (ms, us) =>
    let p := s.venuePlan
    let t : Int := (s.tbNs 2 : Int) - (fieldAt p 2 4 * sfNs + fieldAt p 14 2 * 1000000 : Nat)
    let period := ms * 1000000
    if t < 0 then (0, (-t).toNat)
    else (us * 1000 - t.toNat % period, period - t.toNat % period)

/-- A quiet interval runs. -/
def State.inQuiet (s : State) (r : Nat) : Bool := match s.quietNow r with | some (k, _) => decide (0 < k) | none => false

/-- Nanoseconds to the first TBTT, restricted period start or quiet interval of any enabled sector of a radio (R219).
Log entry 105 (DEDUCED). -/
def State.toBreak (s : State) (r : Nat) : Nat :=
  let ks := s.enabledSectors r
  let all := ks.map s.toTbtt ++ ks.flatMap fun k => (List.range 32).filterMap fun i => (s.toSp k i).map (·.1)
  (match s.quietNow r with | some (_, n) => n :: all | none => all).foldl min (2 ^ 64)

/-! ### Stations -/

/-- Hold or free the eight queues of a station (R227). -/
def holdStation (k : Nat) (on : Bool) (s : State) : State :=
  if (s.staSt k).held = on then s
  else (List.range 8).foldl (fun s t => holdQueue (8 * k + t) on s) (updSta k (fun x => { x with held := on }) s)

/-- A station's power state on a link; with every link in power save its queues are held (R227). -/
def setDoze (k r : Nat) (doze : Bool) (s : State) : State :=
  let s := updSta k (fun x => { x with awake := setBit x.awake r (!doze) }) s
  holdStation k (decide ((s.staSt k).awake = 0)) s

/-- Access category of a TID: 0 BK, 1 BE, 2 VI, 3 VO. -/
def acOf (tid : Nat) : Nat := match tid % 8 with | 1 | 2 => 0 | 0 | 3 => 1 | 4 | 5 => 2 | _ => 3

/-- Access category of a Tollgate queue of a radio. -/
def acOfQueue (q : Nat) : Nat := if q < 16384 then acOf (q % 8) else if q < 16969 then 3 else 1

/-- Members of a service period and their listed queues (R232). -/
def State.spQueue (s : State) (r q : Nat) : Bool :=
  match (s.wradio r).sp with
  | none => false
  | some p =>
    let v := s.sta (q / 8)
    decide (q < 16384) && staLink v r && decide (staSector v r = p.sector) && bit (s.twt p.sector p.entry).tids (q % 8) &&
      bit (staRtwt v) (q % 8)

/-- The key slot and cipher in use toward a station. -/
def State.txKeyOf (s : State) (k : Nat) : Option Nat :=
  let v := s.sta k
  if staCipher v = 0 then none else if staTxKey v = 0 then staPtk v else staPtk2 v

/-- The next packet number of a key slot (R239). -/
def nextPn (slot : Nat) (s : State) : Nat × State :=
  let n := s.wlan.txPn.get slot + 1
  (n, { s with wlan := { s.wlan with txPn := s.wlan.txPn.put slot n } })

/-- Transmit key slot of a field such as WLAN.gtk_slot (R238). -/
def groupKey (v : Nat) : Option Nat :=
  let x := if bit v 32 then bits v 31 16 else bits v 15 0
  if x = 0xFFFF then none else some x

/-! ### Sending -/

/-- A sector sends a PPDU. -/
def sendPpdu (p : AirPpdu) (s : State) : State :=
  bump Prm.wlanTxPpdu p.sector { s with wlan := { s.wlan with sent := s.wlan.sent ++ [p] } }

/-- A control frame of a sector. -/
def sendControl (k : Nat) (kind : AirKind) (s : State) : State := sendPpdu { sector := k, kind := kind, tsf := s.tsf k } s

/-- The radio is free to start something of its own: no PPDU on the air, no calibration window, no quiet interval, no
recast. -/
def State.radioQuiet (s : State) (r : Nat) : Bool :=
  decide (r < 3) && decide ((s.wradio r).txUntil ≤ s.now) && !(s.cal r).window && !s.stopped (macUnit r) &&
    !(s.enabledSectors r).isEmpty && !s.inQuiet r

/-- The TXOP of a radio ends; EMLSR stations served in it begin their transition delay (R230). -/
def endTxop (r : Nat) (s : State) : State :=
  let s := updWradio r (fun x => { x with txop := none }) s
  (s.wlan.sta.filter fun e => e.2.emlsr == some r).foldl (fun s e =>
    let d := match bits (s.sta e.1) 295 293 with | 1 => 16 | 2 => 32 | 3 => 64 | 4 => 128 | 5 => 256 | _ => 0
    updSta e.1 (fun x => { x with emlsr := none, emlsrFree := s.now + d * 1000 }) s) s

/-- CHANNEL_ACCESS: the radio's EDCA function wins the medium for the highest access category with eligible traffic, and a
TXOP begins that ends before the next TBTT or restricted period (R219, R220, R237). -/
def execChannelAccess (r : Nat) (s : State) : Host.Outcome State Fault Refusal :=
  let s := refreshList r s
  let acs := (s.sched r).list.map fun a => acOfQueue a.q
  .next (
    if !s.radioQuiet r || acs.isEmpty || (s.wradio r).txop.isSome || (s.wradio r).round.isSome || (s.wradio r).beaconsOnly then s
    else
      let len := min (s.parN Prm.wlanTxopUs r * 1000) (s.toBreak r)
      let s := updWradio r (fun x => { x with txop := some (s.now, s.now + len), ac := acs.foldl max 0 }) s
      if r = 0 ∧ (List.range 2048).any fun k => (staLinks (s.sta k)).contains 0 && decide (staClass (s.sta k) 0 = 1) then
        match s.enabledSectors 0 with
        | k :: _ => sendControl k .ctsToSelf s
        | [] => s
      else s)

end Sys2Proof.Machine
end

