-- ==== Sys2Proof/Machine/Wlan.lean ====
section
/-!
DEFINITION. The wireless MAC's commands: intervals, sounding rounds, reception, beacons, service periods and calibration
windows (R216 to R245), and what its commits and table switches do.
-/
namespace Sys2Proof.Machine

/-! ### Transmit intervals -/

/-- Streams that a station takes on a radio: at most 4 (Table 8-1). -/
def State.streams (s : State) (k r : Nat) : Nat := min 4 (staNss (s.sta k) r)

/-- The MAC may serve a station in an interval of a radio that ends at `e` (R217, R227, R229, R230). -/
def State.canServe (s : State) (r : Nat) (x : Interval) (e k : Nat) : Bool :=
  let v := s.sta k
  let st := s.staSt k
  let awake := bit st.awake r || !st.held
  let emlsr := staMode v != 3 || (decide (st.emlsrFree ≤ s.now) && (match st.emlsr with
    | some q => q == r
    | none => decide (st.emlsrLast ≠ some r) || decide ((staLinks v).length ≤ 1)))
  let nstr := staMode v != 2 || (List.range 3).all fun q => q == r || !((s.beamOf q).stations.contains k) ||
    decide ((s.wradio q).txUntil ≤ s.now) || (decide ((s.wradio q).txUntil = e) && !x.trigger)
  (staLinks v).contains r && awake && emlsr && nstr && s.sectorOn (staSector v r) &&
    (if x.precoded then (s.activeStations r).contains k else decide (staSector v r = x.sector))

/-- Users of an interval, within the stream cap of a precoded one (R180, R217). -/
def takeUsers (s : State) (r cap : Nat) (x : Interval) (e : Nat) : List Nat → List Nat
  | [] => []
  | k :: t =>
    if !s.canServe r x e k then takeUsers s r cap x e t
    else
      let n := if x.precoded then s.streams k r else 0
      if cap < n then takeUsers s r cap x e t else k :: takeUsers s r (cap - n) x e t

/-- A packet handed to the MAC goes out for the first time in a PPDU of a sector: its transmit time is known (R396, R429),
and it is protected with the key in use (R238, R239). Log entry 45 (DEDUCED). -/
def firstSend (h sec : Nat) (sta : Option Nat) (s : State) : AirMpdu × State :=
  let w := s.wb h
  let s := match w.ring with
    | some n => updWb h (fun w => { w with ring := none }) (txOutcome n h 0 (s.tb80 (3 + sec)) (3 + sec) s)
    | none => s
  let key := match sta with
    | some k => s.txKeyOf k
    | none => groupKey (s.parN Prm.wlanGtkSlot sec)
  let (pn, s) := match key with
    | some slot => nextPn slot s
    | none => (0, s)
  ({ station := sta, tid := w.tid, pn := pn, key := key, data := w.data }, s)

/-- Send the packets of a station that the MAC holds, and again those that are unacknowledged; an MPDU past its last
attempt is dropped (Table 8-7). Log entry 45 (DEDUCED). -/
def serveStation (r k : Nat) (hs : List Nat) (s : State) : List AirMpdu × State :=
  let limit := s.parN Prm.staRetryLimit 0
  let sec := staSector (s.sta k) r
  let old := (s.staSt k).unacked
  let dead := old.filter fun p => decide (limit ≤ p.tries)
  let live := old.filter fun p => decide (p.tries < limit)
  let s := dead.foldl (fun s p => free p.handle s) (bumpBy Prm.staTxFail k dead.length s)
  let s := bumpBy Prm.staTxRetry k live.length s
  let again : List AirMpdu := live.map fun p => { station := some k, tid := p.tid, pn := p.pn, key := p.key, data := (s.wb p.handle).data }
  let s := updSta k (fun x => { x with unacked := live.map fun p => { p with tries := p.tries + 1 } }) s
  let (new, s) := hs.foldl (fun (acc : List AirMpdu × State) h =>
    let (m, s) := firstSend h sec (some k) acc.2
    (acc.1 ++ [m], updSta k (fun x => { x with unacked := x.unacked ++ [{ handle := h, tid := m.tid, pn := m.pn, key := m.key }] }) s))
    ([], s)
  (again ++ new, updSta k (fun x => { x with served := x.served.put r (s.now + 1) }) s)

/-- Send group-addressed or management frames, which are released at once. -/
def serveGroup (sec : Nat) (hs : List Nat) (s : State) : List AirMpdu × State :=
  hs.foldl (fun (acc : List AirMpdu × State) h =>
    let (m, s) := firstSend h sec none acc.2
    (acc.1 ++ [m], free h s)) ([], s)

/-- An EMLSR station's first exchange of a TXOP opens with an MU-RTS in a cover interval (R230). Log entry 45 (DEDUCED). -/
def openEmlsr (r k : Nat) (s : State) : State :=
  if staMode (s.sta k) = 3 ∧ (s.staSt k).emlsr ≠ some r then
    sendControl (staSector (s.sta k) r) .muRts (updSta k (fun x => { x with emlsr := some r, emlsrLast := some r }) s)
  else s

/-- Step 3 of the power cap: an interval of radio 2 keeps the transmit airtime of every 10 ms at 50 % or below (R495).
Log entry 48 (DEDUCED). -/
def State.airtimeOk (s : State) (r e : Nat) : Bool :=
  decide (r ≠ 2) || decide (s.mgmt.capStep < 3) ||
    decide (((s.wradio r).air.map fun x => x.2 - max x.1 (e - 10000000)).sum + (e - s.now) ≤ 5000000)

/-- TX_INTERVAL: the MAC builds and sends an interval inside its TXOP (R216 to R219, R222). Log entry 48 (DEDUCED). -/
def execTxInterval (r : Nat) (x : Interval) (s : State) : Host.Outcome State Fault Refusal :=
  let e := s.now + x.durUs * 1000
  let fits := match (s.wradio r).txop with | some (_, t) => decide (e ≤ t) | none => false
  .next (
    if !s.radioQuiet r || !fits || !s.airtimeOk r e || (s.wradio r).round.isSome || (s.wradio r).beaconsOnly ||
        (!x.precoded && !(s.enabledSectors r).contains x.sector) || (x.precoded && (x.group || x.mgmt || x.control)) then s
    else
      let users := takeUsers s r (s.streamCap r) x e x.users.eraseDups
      let s := users.foldl (fun s k => openEmlsr r k s) s
      let out := (s.sched r).out
      let mine := fun (p : Nat × Nat) => decide (p.2 < 16384) && users.contains (p.2 / 8)
      let shared := fun (p : Nat × Nat) => (x.group && decide (p.2 = 16969 + x.sector)) || (x.mgmt && decide (p.2 = 16961 + x.sector))
      let s := updSched r (fun y => { y with out := out.filter fun p => !mine p && !shared p }) s
      let (sent, s) := users.foldl (fun (acc : List (Nat × List AirMpdu) × State) k =>
        let hs := (out.filter fun p => mine p && decide (p.2 / 8 = k)).map (·.1)
        let (ms, s) := serveStation r k hs acc.2
        (acc.1 ++ [(staSector (s.sta k) r, ms)], s)) ([], s)
      let (grp, s) := serveGroup x.sector ((out.filter shared).map (·.1)) s
      let secs := if x.precoded then (sectorsOf r).filter fun k => sent.any fun y => y.1 == k
        else if users.isEmpty && !x.control && grp.isEmpty then [] else [x.sector]
      let s := secs.foldl (fun s k =>
        let ms := (sent.filter fun y => y.1 == k).flatMap (·.2) ++ (if x.precoded then [] else grp)
        let s := updMould k (fun m => { m with txZero := false }) s
        let s := sendPpdu { sector := k, kind := if x.control then .control else .data, precoded := x.precoded, tsf := s.tsf k, mpdus := ms } s
        if x.slip = 2 then fifoSlip Prm.beamToneSlip Ev.fifoToneSlip k 1 s else s) s
      let s := if x.slip = 1 ∧ secs ≠ [] then fifoSlip Prm.wlanPsduSlip Ev.fifoPsduSlip r secs.length s else s
      let s := updBeam r (fun b => { b with sectors := secs, stations := if x.precoded then users else [], orphans := [] }) s
      if secs.isEmpty then s else updWradio r (fun y => { y with
        txUntil := e, air := (y.air.filter fun x => decide (s.now < x.2 + 10000000)) ++ [(s.now, e)] }) s)

/-! ### Sounding rounds (R223, R224) -/

/-- Stations that a sector may sound, in the order in which the MAC chooses them (R224). Log entry 46 (DEDUCED). -/
def State.soundOrder (s : State) (r sec : Nat) : List Nat :=
  let fit := fun k => let v := s.sta k; (staLinks v).contains r && decide (staSector v r = sec) && decide (staClass v r = 6) &&
    bit (s.staSt k).awake r
  let byTier := (List.range 4).flatMap fun t => ((s.sched r).order.1.filter fun a => s.tier r a.q == some t && decide (a.q < 16384)).map fun a => a.q / 8
  let up := (s.wlan.sta.filter fun e => decide (0 < e.2.buffered)).map (·.1)
  let keep := (s.wlan.sta.filter fun e => decide (0 < e.2.served.get r) &&
    decide (s.now + 1 ≤ e.2.served.get r + s.parN Prm.wlanSoundKeepMs r * 1000000)).map fun e => (e.2.served.get r, e.1)
  let recent := (keep.mergeSort fun a b => decide (b.1 ≤ a.1)).map (·.2)
  ((byTier ++ up ++ recent).eraseDups).filter fit

/-- Take stations while their streams fit the slots left. -/
def takeSlots (s : State) (r sec : Nat) : Nat → List Nat → List (Nat × Nat)
  | _, [] => []
  | left, k :: t =>
    let n := s.streams k r
    if left < n then takeSlots s r sec left t else List.replicate n (k, sec) ++ takeSlots s r sec (left - n) t

/-- User slots of a round: at most BEAM.max_streams for each sector and 64 for the radio. Log entry 46 (DEDUCED). -/
def State.roundUsers (s : State) (r : Nat) : List (Nat × Nat) :=
  (s.enabledSectors r).foldl (fun acc k => acc ++ takeSlots s r k (min (s.parN Prm.beamMaxStreams k) (64 - acc.length)) (s.soundOrder r k)) []

/-- Bit j set for channel j of a radio that is usable. -/
def State.usableMask (s : State) (r : Nat) : Nat := (s.usable r).foldl (fun m c => setBit m (c - radioFirst r) true) 0

/-- Round interval of a radio: 4 ms from step 2 of the power cap (R495). -/
def State.updateMs (s : State) (r : Nat) : Nat := if 2 ≤ s.mgmt.capStep then 4 else s.parN Prm.beamUpdateMs r

/-- SOUNDING_ROUND_START: every update_ms the MAC starts a round, whose first EHT-LTF begins `ltfNs` later (R223). -/
def execSoundingRoundStart (r ltfNs : Nat) (s : State) : Host.Outcome State Fault Refusal :=
  let s := refreshList r s
  let w := s.wradio r
  .next (
    if !s.radioQuiet r || w.txop.isSome || w.round.isSome || w.beaconsOnly ||
        (decide (w.roundAt ≠ 0) && decide (s.now + 1 < w.roundAt + s.updateMs r * 1000000)) then s
    else
      let us := s.roundUsers r
      let s := updWradio r (fun w => { w with roundAt := s.now + 1 }) s
      if us.isEmpty then s
      else
        let secs := (s.enabledSectors r).filter fun k => us.any fun u => u.2 == k
        let s := secs.foldl (fun s k => sendControl k .trigger s) s
        updWradio r (fun w => { w with round := some { time := (s.tb80 0 + ltfNs * 65536) % 2 ^ 80, users := us, mask := s.usableMask r } }) s)

/-- Measured channel of a user slot and tone group: one value for each channel (R186, R208). -/
def roundChannel (N G k g : Nat) (mask : Nat) (recs : List Nat) : List (Int × Int) :=
  let units := N / 16
  let vals := (List.range units).flatMap fun b =>
    match (bfpDecode 1 (recs.getD ((k * G + g) * units + b) 0)).1 with
    | some l => l
    | none => List.replicate 16 (0, 0)
  (vals.zipIdx).map fun x => if bit mask x.2 then x.1 else (0, 0)

/-- The channel reports of the stations of a complete round (R208). Log entry 42 (DESIGN CHOICE). -/
def reportChannels (r n : Nat) (x : Round) (s : State) : State :=
  let N := radioN r
  let firsts := (x.users.zipIdx).filter fun u => u.1.present && !((x.users.take u.2).any fun v => v.station == u.1.station && v.present)
  firsts.foldl (fun s u => (List.range x.groups).foldl (fun s g =>
    setBoth Tbl.chanReport u.1.station g
      (le 2 n ++ le 1 N ++ Config.channelReport (roundChannel N x.groups u.2 g x.antMask x.recs)) s) s) s

/-- ROUND_COMPLETE: the last sector's estimates are written (R186, R187, R223, R277). Log entry 42 (DESIGN CHOICE). -/
def execRoundComplete (r : Nat) (q : RoundResult) (s : State) : Host.Outcome State Fault Refusal :=
  .next (match (s.wradio r).round with
    | none => s
    | some p =>
      let b := s.beamOf r
      let n := b.nextRound
      let s := updWradio r (fun w => { w with round := none }) s
      let s := updBeam r (fun b => { b with nextRound := (b.nextRound + 1) % 2 ^ 32 }) s
      if q.overflow ∨ q.busy then
        let s := if q.overflow ∧ !q.busy then
            updBeam r (fun b => { b with est := b.est.put b.slot { round := n, time := p.time } }) s else s
        (sectorsOf r).foldl (fun s k => fifoSlip Prm.beamEstDrop Ev.beamEstDrop k 1 s) s
      else
        let us : List RoundUser := (p.users.zipIdx).map fun u =>
          let (present, noise, snr) := q.users.getD u.2 (false, 0, 0)
          { station := u.1.1, sector := u.1.2, present := present, noise := noise, snr := snr }
        let x : Round := {
          round := n, time := p.time, users := us, antMask := p.mask &&& s.usableMask r, groups := s.groups r, complete := true
          partialRound := us.any fun u => !u.present, doneAt := s.now, recs := q.recs }
        let s := updBeam r (fun b => { b with
          est := b.est.put b.slot x, newest := some b.slot, slot := (b.slot + 1) % max 1 (s.parN Prm.beamEstDepth r) }) s
        let s := reportChannels r n x s
        postRound r n { s with task := { s.task with roundLevel := s.task.roundLevel.put r true } })

/-! ### Reception (R227, R228, R235 to R240) -/

/-- The end of an MPDU that a cipher engine has rejected (R240). Log entry 45 (DEDUCED). -/
def mpduFail (k tid kid : Nat) (replayed : Bool) (s : State) : State :=
  let det := detail [(0, 1, tid), (1, 1, kid)]
  if replayed then warnOnce Prm.staReplay k Ev.staReplay k det (bump Prm.staReplay k s)
  else warnOnce Prm.staMicFail k Ev.staMicFail k det (bump Prm.staMicFail k s)

/-- Decryption and replay check of an MPDU: true where it goes on (R239, R240). Log entry 45 (DEDUCED). -/
def openMpdu (k : Nat) (m : RxMpdu) (s : State) : Bool × State :=
  let v := s.sta k
  match m.prot with
  | none => (decide (staCipher v = 0) || decide (m.kind ≠ .data), s)
  | some (kid, pn, ok) =>
    match (if staCipher v = 0 then none else if kid = 0 then staPtk v else if kid = 1 then staPtk2 v else none) with
    | none => (false, mpduFail k m.tid kid false s)
    | some slot =>
      let key := slot * 16 + if m.kind = .mgmt then 8 else m.tid % 8
      if !ok then (false, mpduFail k m.tid kid false s)
      else if pn ≤ s.wlan.replay.get key then (false, mpduFail k m.tid kid true s)
      else (true, { s with wlan := { s.wlan with replay := s.wlan.replay.put key pn } })

/-- Queue of received management frames and EAPOL (R228). -/
def mgmtQueue : Nat := 16954

/-- One MPDU with a correct FCS, received by sector `sec` (R227, R228, R240). -/
def takeMpdu (sec : Nat) (m : RxMpdu) (s : State) : State :=
  let r := radioOfSector sec
  match m.station with
  | none => if m.kind = .mgmt ∨ m.kind = .eapol then (emitPacket r 0 0 mgmtQueue m.data s).2 else s
  | some k =>
    let v := s.sta k
    if !(staLinks v).contains r || decide (staSector v r ≠ sec) then
      if m.kind = .mgmt ∨ m.kind = .eapol then (emitPacket r 0 k mgmtQueue m.data s).2 else s
    else
      let (ok, s) := openMpdu k m s
      if !ok then s
      else
        let s := setDoze k r m.doze s
        let s := match m.buffered with | some b => updSta k (fun x => { x with buffered := b }) s | none => s
        let s := bump Prm.staRxMpdu k s
        match m.kind with
        | .data => ingress { port := r, srcType := 0, srcInst := k, data := m.data, tid := some (m.tid % 8) } s
        | .mgmt | .eapol => (emitPacket r 0 k mgmtQueue m.data s).2
        | .psPoll => holdStation k false s
        | .uapsdTrigger => if bit (staUapsd v) (4 + acOf m.tid) then holdStation k false s else s
        | .null => s

/-- The MPDUs of a PPDU that are delivered. -/
def takeMpdus (sec : Nat) (ms : List RxMpdu) (s : State) : State := (ms.filter (·.fcsOk)).foldl (fun s m => takeMpdu sec m s) s

/-- A BlockAck or Ack of a station: the MPDUs named are delivered (R240, Table 8-7). Log entry 45 (DEDUCED). -/
def takeAck (k : Nat) (hs : List Nat) (s : State) : State :=
  let done := (s.staSt k).unacked.filter fun p => hs.contains p.handle
  let s := updSta k (fun x => { x with unacked := x.unacked.filter fun p => !hs.contains p.handle }) s
  done.foldl (fun s p => free p.handle s) (bumpBy Prm.staTxMpdu k done.length s)

/-- The TB PPDUs of exchanges aligned to grants have ended on a radio: each counts as a hit (R234, Table 8-4).
Log entry 105 (DEDUCED). -/
def finishAligned (r : Nat) (s : State) : State :=
  let done := s.wlan.aligned.filter fun a => decide (a.radio = r) && decide (a.end_ ≤ s.now)
  bumpBy Prm.wlanCoopHit r done.length
    { s with wlan := { s.wlan with aligned := s.wlan.aligned.filter fun a => !done.contains a } }

/-- PPDU_RX: a sector receiver takes a PPDU whole (R235, R240). -/
def execPpduRx (sec : Nat) (p : Ppdu) (s : State) : Host.Outcome State Fault Refusal :=
  let r := radioOfSector sec
  .next (
    if 8 ≤ sec ∨ !s.sectorOn sec ∨ s.stopped (macUnit r) ∨ s.now < (s.wradio r).txUntil then s
    else
      let drop := (s.mould sec).rxDrop
      let s := updMould sec (fun m => { m with rxDrop := false }) (updWsector sec (fun w => { w with rx := none }) s)
      if !p.header then s
      else
        let s := bump Prm.wlanRxPpdu sec s
        if p.toneSlip then fifoSlip Prm.beamToneSlip Ev.fifoToneSlip sec 1 s
        else if drop then s
        else
          let (ms, s) := match p.psduSlip with
            | some i => (p.mpdus.take i, fifoSlip Prm.wlanPsduSlip Ev.fifoPsduSlip r 1 s)
            | none => (p.mpdus, s)
          let heard := ((ms.filterMap (·.station)) ++ p.acks.map (·.1)).eraseDups
          let s := heard.foldl (fun s k => updSta k (fun x => { x with
            levelSum := x.levelSum + p.level * 4, levelCount := x.levelCount + 1 }) s) s
          let s := p.acks.foldl (fun s a => takeAck a.1 a.2 s) s
          let s := takeMpdus sec ms s
          if p.solicited then finishAligned r s else s)

/-- NEW_PREAMBLE: a preamble of a level, in dBm, appears at a sector receiver; `part` is what it has received of a PPDU that
it aborts (R235, R236, Table 8-5). Log entry 49 (DEDUCED). -/
def execNewPreamble (sec : Nat) (level : Int) (solicited : Bool) (part : List RxMpdu) (s : State) :
    Host.Outcome State Fault Refusal :=
  let r := radioOfSector sec
  let margin := s.par Prm.wlanRestartDb r
  let restart := fun s => updWsector sec (fun w => { w with rx := some { solicited := solicited, level := level } }) s
  .next (
    if 8 ≤ sec ∨ !s.sectorOn sec ∨ s.stopped (macUnit r) ∨ s.now < (s.wradio r).txUntil then s
    else match (s.wsector sec).rx with
      | none => restart s
      | some x =>
        if x.solicited then bump Prm.wlanCaptureIgnored r s
        else if margin ≠ 0 ∧ x.level + margin ≤ level then
          let s := raise Ev.wlanCaptured r (detail [(0, 1, sec), (1, 1, twos 8 (level - x.level))]) (bump Prm.wlanCapturedOver r s)
          restart (takeMpdus sec part s)
        else s)

/-! ### Beacons, channel switches (R241 to R243) -/

/-- Stations of a sector with traffic that waits while they doze (R227). -/
def State.timOf (s : State) (sec : Nat) : List Nat :=
  (s.wlan.sta.filter fun e => e.2.held && (let v := s.sta e.1; (staLinks v).any fun r => staSector v r == sec) &&
    (List.range 8).any fun t => !(s.tq (8 * e.1 + t)).pkts.isEmpty).map (·.1)

/-- The radio changes channel: the values take effect, every head is tuned, the banks empty and the channels recalibrate
(R184, R243). Log entry 47 (DEDUCED). -/
def switchChannel (r : Nat) (s : State) : State :=
  let (_, s) := unitTakes 8 (0x100 + r) s
  let s := updWradio r (fun w => { w with switching := false, announce := [], beaconsOnly := true }) s
  let s := (s.linksOf r).foldl (fun s l => sendTune l (s.centreKhz r) s) s
  let s := emptyBanks r true s
  raise Ev.wlanChannelSwitched r (detail [(0, 2, s.parN Prm.wlanChannel r), (2, 1, s.parN Prm.wlanBw r)]) (finishCommits s)

/-- A WLAN commit that changes the channel, bandwidth or puncturing starts the announcements (R243). Log entry 47 (DEDUCED). -/
def startSwitch (r : Nat) (s : State) : State :=
  let n := s.parN Prm.wlanCsaBeacons r
  let ks := s.enabledSectors r
  if ks.isEmpty then switchChannel r s
  else updWradio r (fun w => { w with switching := true, announce := ks.foldl (fun t k => t.put k n) [] }) s

/-- Calibration after a channel switch has ended: other traffic may go out again. Log entry 47 (DEDUCED). -/
def checkBeaconsOnly (r : Nat) (s : State) : State :=
  let k := s.cal r
  if (s.wradio r).beaconsOnly && !k.fullDue && !k.rejoinDue && !k.requested && k.pass.isNone then
    updWradio r (fun w => { w with beaconsOnly := false }) s
  else s

/-- TBTT: a sector's TBTT has come; commits take effect, and its beacon goes out `delayUs` after it, or after a quiet
interval that runs (R241 to R243, R460). Log entry 47 (DEDUCED). -/
def execTbtt (sec delayUs : Nat) (o : Occupant) (s : State) : Host.Outcome State Fault Refusal :=
  let r := radioOfSector sec
  let at_ := s.tsf sec / s.beaconUs sec * s.beaconUs sec
  .next (
    if 8 ≤ sec ∨ !s.sectorOn sec ∨ s.stopped (macUnit r) ∨ at_ ≤ (s.wsector sec).lastTbtt then s
    else
      let s := updWsector sec (fun w => { w with lastTbtt := at_ }) s
      let s := if (s.wradio r).txop.isSome then endTxop r s else s
      let w := s.wradio r
      let s := if w.switching && (s.enabledSectors r).head? == some sec && w.announce.isEmpty then switchChannel r s else s
      let (ks, s) := unitTakes 8 sec (switchWaiting Tbl.wlanTwt.id sec (switchWaiting Tbl.wlanSsid.id sec s))
      let s := finishCommits s
      let s := checkBeaconsOnly r s
      let csa := (s.wradio r).announce.get sec
      let s := if csa = 0 then s else updWradio r (fun w => { w with announce := w.announce.put sec (csa - 1) }) s
      let changed := !ks.isEmpty || decide (csa ≠ 0)
      let s := updWsector sec (fun w => { w with
        dtim := if w.dtim = 0 then s.parN Prm.wlanDtim sec - 1 else w.dtim - 1
        changes := if changed then (w.changes + 1) % 256 else w.changes
        lastAd := s.now }) s
      let x := s.wsector sec
      let wait := match s.quietNow r with | some (k, _) => (k + 999) / 1000 | none => 0
      let o := if delayUs < wait then { o with kind := 1 } else o
      let delayUs := max delayUs wait
      let s := sendPpdu { sector := sec, kind := .beacon, tsf := s.tsf sec, info := [x.dtim, csa, x.changes] ++ s.timOf sec,
                          quiet := s.quietPlan r } s
      let s := updWradio r (fun w => { w with sp := w.sp.map fun p => { p with beacon := true } }) s
      if s.parN Prm.wlanBeaconLateUs 0 < delayUs then
        let s := raise Ev.wlanBeaconLate sec (detail [(0, 4, delayUs)]) (bump Prm.wlanBeaconLate sec s)
        (breakGuarantee 2 0xFFFF 2 r { o with unit := sec } s).2
      else s)

/-- FILS_DISCOVERY: a 6 GHz sector sends a FILS discovery frame every fils_tu between beacons (R242). -/
def execFilsDiscovery (sec : Nat) (s : State) : Host.Outcome State Fault Refusal :=
  let r := radioOfSector sec
  let tu := s.parN Prm.wlanFilsTu sec
  .next (
    if 8 ≤ sec ∨ !s.sectorOn sec ∨ s.stopped (macUnit r) ∨ tu = 0 ∨ r ≠ 2 ∨ s.now < (s.wradio r).txUntil ∨ s.inQuiet r ∨ (s.wradio r).beaconsOnly ∨
        s.now < (s.wsector sec).lastAd + tu * 1024000 then s
    else sendControl sec .fils (updWsector sec (fun w => { w with lastAd := s.now }) s))

/-! ### Restricted service periods (R232) -/

/-- RESTRICTED_SP_START. -/
def execRestrictedSpStart (sec i : Nat) (s : State) : Host.Outcome State Fault Refusal :=
  let r := radioOfSector sec
  .next (match s.toSp sec i with
    | some (_, true) =>
      if 8 ≤ sec ∨ 32 ≤ i ∨ !s.sectorOn sec ∨ s.stopped (macUnit r) ∨ (s.wradio r).sp.isSome then s
      else
        let e := s.twt sec i
        let gone := (s.tbNs (3 + sec) - e.start * 1000) % (e.interval * 1000)
        let s := if (s.wradio r).txop.isSome then endTxop r s else s
        updWradio r (fun w => { w with sp := some { sector := sec, entry := i, until_ := s.now + (e.duration * 1000 - gone) } }) s
    | _ => s)

/-- RESTRICTED_SP_END: what a member could not send breaks the guarantee, named with the beacon or window that took the
time (R232, R377). -/
def execRestrictedSpEnd (sec i : Nat) (o : Occupant) (s : State) : Host.Outcome State Fault Refusal :=
  let r := radioOfSector sec
  .next (match (s.wradio r).sp with
    | none => s
    | some p =>
      if p.sector ≠ sec ∨ p.entry ≠ i ∨ s.now < p.until_ then s
      else
        let lost := (s.backlogged r).filter fun q => s.spQueue r q
        let s := updWradio r (fun w => { w with sp := none }) s
        let o := if p.beacon ∧ o.kind = 0 then { o with kind := 2 } else o
        lost.foldl (fun s q => (breakGuarantee 3 q 7 r { o with unit := sec } s).2) s)

/-! ### Calibration windows (R244, R245) -/

/-- CAL_WINDOW_GRANT: the MAC grants the requested window, with the channels on other links that were measured best first
(R166, R244, R245). -/
def execCalWindowGrant (r : Nat) (best : List Nat) (s : State) : Host.Outcome State Fault Refusal :=
  let ks := s.enabledSectors r
  let L := s.parN Prm.achCalWindowUs r * 1000
  .next (
    if 3 ≤ r ∨ !(s.cal r).requested ∨ (s.cal r).window ∨ s.stopped (macUnit r) ∨ (s.wradio r).txop.isSome ∨ (s.wradio r).round.isSome ∨
        s.now < (s.wradio r).txUntil ∨ (s.wradio r).sp.isSome ∨ s.toBreak r < L then s
    else openWindow r best (ks.foldl (fun s k => sendControl k .ctsToSelf s) s))

/-! ### Sectors, commits and table switches -/

/-- A TSF that has been reset is stepped once, so that its sector's TBTTs meet venue time (R241). -/
def startSector (sec : Nat) (s : State) : State :=
  let t2 : Int := s.tbNs 2
  let off : Int := s.par Prm.wlanTbttOffsetUs sec * 1000
  let period : Int := s.beaconUs sec * 1000
  let v := if t2 < off then (t2 - off) % period else t2 - off
  let s := trackTsf (stepTb (3 + sec) v s)
  let u := s.tsf sec
  updWsector sec (fun _ => { lastTbtt := u / s.beaconUs sec * s.beaconUs sec }) s

/-- A sector is enabled: its TSF is reset and stepped (R241). -/
def enableSector (sec : Nat) (s : State) : State := startSector sec (resetTb (3 + sec) s)

/-- Links that a station has set up changed at its entry's switch; a station whose entry ends loses its packets, and a TID
without a link left loses its queue (R225, R226, R369, Table 8-8). -/
def switchedSta (old k : Nat) (s : State) : State :=
  let v := s.sta k
  let was := staLinks old
  let now := staLinks v
  let s := (List.range 3).foldl (fun s r =>
    (List.range 8).foldl (fun s t =>
      let q := 8 * k + t
      if was.contains r && staTidLink old t r && !(now.contains r && staTidLink v t r) && ((s.sched r).list.any fun a => a.q == q) then
        updSched r (fun x => x.drop q) s
      else s) s) s
  let s := if staValid old && !staValid v then
      (s.staSt k).unacked.foldl (fun s p => free p.handle s) (updSta k (fun x => { x with unacked := [] }) s) else s
  let s := (List.range 8).foldl (fun s t =>
    if (was.any fun r => staTidLink old t r) && !(now.any fun r => staTidLink v t r) then flushQueue (8 * k + t) s else s) s
  let s := if was = now then s
    else
      let s := updSta k (fun x => { x with awake := now.foldl (fun a r => setBit a r (bit x.awake r || !was.contains r)) 0 }) s
      let s := holdStation k (!now.isEmpty && decide ((s.staSt k).awake = 0)) s
      raise Ev.staLinks k (detail [(0, 1, now.foldl (fun a r => setBit a r true) 0)]) s
  now.foldl (fun s r => refreshList r s) s

/-- Key usage that a station's cipher needs (Table 16-4). -/
def cipherUsage (c : Nat) : Nat := if c = 1 ∨ c = 3 then 1 else 2

/-- Reason of the conflict that TABLE_COMMIT of a station's entry meets, if any (R226). -/
def staConflict (k : Nat) (s : State) : Option Nat :=
  let v := leNat (s.standbyEntry Tbl.staEntry k 0)
  let links := (List.range 3).filter (staLink v)
  let others := (pick 2048 fun j => j != k && staValid (s.sta j))
  let m := fun sec => s.par Prm.wlanApMld sec
  let same := fun (a b : Nat) => a == b || (m a == m b && m a != 0xFF)
  let reserved := bits v 61 59 ≠ 0 ∨ bit v 271 ∨ bits v 511 360 ≠ 0 ∨ ((List.range 3).any fun r => decide (bits v (64 * (r + 1) + 63) (64 * (r + 1) + 61) ≠ 0))
  if !staValid v then none
  else if reserved then some 6
  else if (links.any fun r => others.any fun j => staLink (s.sta j) r && decide (staAddr (s.sta j) r = staAddr v r)) ||
      (links.any fun r => others.any fun j => decide (staAid (s.sta j) = staAid v) &&
        (List.range 3).any fun p => staLink (s.sta j) p && same (staSector (s.sta j) p) (staSector v r)) ||
      (links.any fun r => decide (radioOfSector (staSector v r) ≠ r)) ||
      (links.any fun r => links.any fun p => !same (staSector v r) (staSector v p)) ||
      ((List.range 8).any fun t => (List.range 3).any fun r => staTidLink v t r && !links.contains r) ||
      (decide (staMode v = 0) && decide (1 < links.length)) then some 6
  else if staCipher v ≠ 0 ∧ ([staPtk v, staPtk2 v].any fun o => match o with
      | some x => decide ((s.sec.slots.get x).usage ≠ cipherUsage (staCipher v))
      | none => false) then some 7
  else none

/-- Offences of a WLAN commit (R214, R215, R238, R241, R247, Table 8-6); `enabled` are the committed sectors. -/
def wlanOffences (s : State) : List Offence :=
  let on := fun k => decide (s.com Prm.beamEnable k = 1)
  let pairs := (List.range 3).flatMap fun r =>
    let ks := sectorsOf r
    ks.flatMap fun a => (ks.filter (· > a)).map fun b => (a, b)
  let both := fun (p : ParamDef) (ok : Int → Int → Bool) (x : Nat × Nat) =>
    offend (ok (s.com p x.1) (s.com p x.2)) 6 [(p, x.1), (p, x.2)]
  let live := pairs.filter fun x => on x.1 && on x.2
  let key := fun (p : ParamDef) (k : Nat) =>
    let v := (s.com p k).toNat
    let lo := bits v 15 0
    let hi := bits v 31 16
    let used := [lo, hi].filter (· ≠ 0xFFFF)
    offend (if bit v 32 then decide (hi ≠ 0xFFFF) || decide (lo = 0xFFFF) else decide (lo ≠ 0xFFFF) || decide (hi = 0xFFFF)) 6 [(p, k)] ++
      offend (used.all fun x => let u := (s.sec.slots.get x).usage; decide (u = 1) || decide (u = 2)) 7 [(p, k)]
  live.flatMap (both Prm.wlanBssColor fun a b => a != b) ++ live.flatMap (both Prm.wlanBssid fun a b => a != b) ++
    live.flatMap (both Prm.wlanBeaconTu fun a b => a == b) ++
    pairs.flatMap (both Prm.wlanApMld fun a b => a != b || a == 0xFF) ++
    ((List.range 8).flatMap fun k => key Prm.wlanGtkSlot k ++ key Prm.wlanIgtkSlot k ++ key Prm.wlanBigtkSlot k ++
      offend (decide (radioOfSector k = 2) || decide (s.com Prm.wlanFilsTu k = 0)) 6 [(Prm.wlanFilsTu, k)] ++
      offend (decide (s.com Prm.wlanTbttOffsetUs k < s.com Prm.wlanBeaconTu k * 1024)) 6 [(Prm.wlanTbttOffsetUs, k), (Prm.wlanBeaconTu, k)]) ++
    ((List.range 3).flatMap fun r =>
      offend (planOk r (s.com Prm.wlanChannel r).toNat (s.com Prm.wlanBw r).toNat (s.com Prm.wlanPunct r).toNat) 6
        [(Prm.wlanChannel, r), (Prm.wlanBw, r), (Prm.wlanPunct, r)])

/-- A WLAN commit changes the channel of a radio whose announcements still run (R243). -/
def State.channelBusy (s : State) (r : Nat) (changed : Bool) : Bool := changed && (s.wradio r).switching

/-! ### The per-second latch -/

/-- STA.rssi takes the mean of the past second (Table 8-7). -/
def latchSta (s : State) : State :=
  { s with wlan := { s.wlan with sta := s.wlan.sta.mapV fun x =>
      { x with rssi := if x.levelCount = 0 then x.rssi else x.levelSum / x.levelCount, levelSum := 0, levelCount := 0 } } }

/-- LINK_SECOND_LATCH: the per-second latch (R136, R160, R209); none is taken while the time base unit is off (R516). -/
def execLinkSecondLatch (s : State) : Host.Outcome State Fault Refusal :=
  .next (if s.power.tbEntry.isSome then s else
    let s := [1, 2].foldl (fun s r => if s.par Prm.beamAoaEnable r = 1 then latchAoa r s else s) (latchSta (latchLinks s))
    { s with task := { s.task with secLevel := true } })

/-- STA.state of a station (Table 8-7). -/
def State.staState (s : State) (k : Nat) : Nat :=
  let x := s.staSt k
  bits x.awake 2 0 + 8 * b2n (!(staLinks (s.sta k)).isEmpty && decide (x.awake = 0)) +
    16 * b2n ((List.range 3).any fun r => (s.activeStations r).contains k)

/-- A radio's MAC recasts (R504's unit): its TXOP, round and announcements end, and what it held unsent is released. -/
def clearRadio (r : Nat) (s : State) : State :=
  let hs := (s.sched r).out.map (·.1)
  let s := updSched r (fun x => { x with out := [] }) s
  let s := hs.foldl (fun s h => free h s) s
  let s := updWradio r (fun w => { w with txop := none, round := none, sp := none, txUntil := 0 }) s
  (sectorsOf r).foldl (fun s k => updWsector k (fun w => { w with rx := none }) s) s

end Sys2Proof.Machine
end

