-- ==== Sys2Proof/Machine/Pon.lean ====
section
/-!
DEFINITION. The PON terminal's state machines: modes (R289), downstream sync (R293, R294), activation and PLOAM (R296 to
R301, R307, R313), watchful sleep (R320), defects (R306, R321) and optics supervision (R323).
-/
namespace Sys2Proof.Machine

def updPon (f : Pon → Pon) (s : State) : State := { s with pon := f s.pon }

/-- PON.reg_id (R298). -/
def Tbl.ponRegId : TableDef where
  id := 0x0B140000
  insts := 1
  entries := fun _ => 1
  size := 36

/-- PON.bcast_key (R314). -/
def Tbl.ponBcastKey : TableDef where
  id := 0x0B120000
  insts := 1
  entries := fun _ => 2
  size := 32

/-- PON.tod (R319). -/
def Tbl.ponTod : TableDef where
  id := 0x0B130000
  insts := 1
  entries := fun _ => 1
  size := 24

/-! ### Pins (R291, R292) -/

/-- PON_LOS and PON_TX_FAULT are active. -/
def State.ponLos (s : State) : Bool := s.pon.losPin != bit (s.parN Prm.ponPinPolarity 0) 0
def State.ponFault (s : State) : Bool := s.pon.faultPin != bit (s.parN Prm.ponPinPolarity 0) 1

/-- PON_TX_DISABLE is active (R292). -/
def State.ponTxOff (s : State) : Bool :=
  !s.booted || s.unitOff ⟨1, 0x0B, 0⟩ || decide (s.par Prm.ponMode 0 = 0) || s.pon.st == .o11 || s.pon.st == .o12 || s.pon.st == .o7 || bit s.pon.defects 6 ||
    bit s.pon.defects 5

/-- PON_BEN is active. -/
def State.ponBen (s : State) : Bool := decide (s.now < s.pon.benUntil)

/-- Levels of PON_TX_DISABLE and PON_BEN. -/
def State.ponTxDisablePin (s : State) : Bool := s.ponTxOff != bit (s.parN Prm.ponPinPolarity 0) 2
def State.ponBenPin (s : State) : Bool := s.ponBen != bit (s.parN Prm.ponPinPolarity 0) 3

/-! ### Rates (Table 10-1) -/

/-- The mode that runs: the committed one, or the one that automatic mode listens for. -/
def State.ponMode (s : State) : Nat := if s.parN Prm.ponMode 0 = 4 then s.pon.tuned else s.parN Prm.ponMode 0

/-- The capability that a mode needs (R289). -/
def ponCapable (mode : Nat) : Bool :=
  match mode with
  | 1 => bit Config.options 1
  | 2 | 3 => bit Config.options 0
  | 4 => bit Config.options 0 || bit Config.options 1
  | _ => true

/-- Upstream kb/s of a profile. -/
def State.ponUpKbps (s : State) (p : PonProfile) : Nat :=
  if s.ponMode = 1 then 9953280 else if s.ponMode = 3 ∧ p.fast then 24883200 else 12441600

/-- Downstream bits of a frame. -/
def State.ponFrameBits (s : State) : Nat := if s.ponMode = 1 then 1244160 else 6220800

/-! ### Keys (R312, R313) -/

/-- Slots that firmware reserves: PLOAM_IK, OMCI_IK, KEK, then unicast keys 1 and 2 and broadcast keys 1 and 2. -/
def ponSlot (n : Nat) : Nat := 3840 + n
/-- Log entry 69 (DESIGN CHOICE). -/
def setPonKey (n : Nat) (k : KeySlot) (s : State) : State := { s with sec := { s.sec with slots := s.sec.slots.put (ponSlot n) k } }
def State.ponKey (s : State) (n : Nat) : KeySlot := s.sec.slots.get (ponSlot n)

/-- Slot number of the key that a header's key index names on a port. Log entry 69 (DESIGN CHOICE). -/
def keyNumber (broadcast : Bool) (index : Nat) : Nat := if broadcast then 4 + index else 2 + index

/-- Firmware derives the keys at an entry to O5.1 (R312). -/
def deriveKeys (s : State) : State :=
  let n := s.parN Prm.ponMskSlot 0
  let msk := if n = 0xFFFF then [] else (s.sec.slots.get n).key
  (List.range 3).foldl (fun s w =>
    setPonKey w { usage := if w = 2 then 7 else 8, key := Config.ponDerive msk s.pon.vendor s.pon.serial s.pon.regId w } s) s

/-! ### Activation -/

/-- Code of an activation state (Table 10-5). -/
def OnuSt.code : OnuSt → Nat
  | .off => 0 | .o11 => 1 | .o12 => 2 | .o23 => 3 | .o4 => 4 | .o51 => 5 | .o6 => 6 | .o7 => 7

/-- Declare or clear a PON defect with its event (R321). -/
def ponDefect (b : Nat) (e : EvDef) (on : Bool) (s : State) : State :=
  if bit s.pon.defects b = on then s
  else raise e 0 (b2n on) (updPon (fun x => { x with defects := setBit x.defects b on }) s)

/-- Entry 0 of PON.xgem, the OMCC port, follows the ONU-ID (R308). Log entry 62 (PRESUMED). -/
def setOmcc (s : State) : State :=
  setBoth Tbl.ponXgem 0 0 (le 8 (if s.pon.onuId = 1023 then 0 else s.pon.onuId + 2 ^ 16 + 3 * 2 ^ 17)) s

/-- Release of ONU-ID, EqD, Alloc-IDs and unicast keys (R297). -/
def releaseOnu (s : State) : State :=
  let s := updPon (fun x => { x with onuId := 1023, eqd := 0, eqdNext := none, alloc := [], txKey := 0, bursts := [] }) s
  setOmcc (setPonKey 3 {} (setPonKey 4 {} s))

/-- Change the activation state (Table 10-5, R296 to R298, R312). Log entry 65 (DEDUCED). -/
def setOnu (st : OnuSt) (s : State) : State :=
  let old := s.pon.st
  if old = st then s
  else
    let s := updPon (fun x => { x with
        st := st
        watch := if old = .o51 then .activeHeld else x.watch, allow := if old = .o51 then false else x.allow
        watchAt := s.now }) s
    let s := if old = .o6 then ponDefect 1 Ev.ponLods false s else s
    let s := match st with
      | .o11 => updPon (fun x => { x with locked := false }) (releaseOnu s)
      | .o23 => updPon (fun x => { x with
          vendor := (s.par Prm.ponSnVendor 0).toNat, serial := (s.par Prm.ponSnSerial 0).toNat, regId := s.entry Tbl.ponRegId 0 0 })
          (releaseOnu s)
      | .o51 => deriveKeys s
      | .o6 => ponDefect 1 Ev.ponLods true s
      | .o7 => raise Ev.ponDisabled 0 0 { s with fw := { s.fw with ponO7 := true } }
      | _ => s
    raise Ev.ponState 0 (detail [(0, 1, st.code), (1, 1, old.code)]) s

/-- The downstream is in sync. -/
def State.ponSynced (s : State) : Bool := s.pon.sync == .sync || s.pon.sync == .resync

/-- States that what already holds leaves at once: O1.1 and O6 in sync, and O1.2 with a burst profile. Log entry 65 (DEDUCED). -/
def settleOnu (s : State) : State :=
  let s := if s.ponSynced then match s.pon.st with
    | .o11 => setOnu .o12 s
    | .o6 => setOnu .o51 s
    | _ => s else s
  if s.pon.st = .o12 ∧ s.pon.profile ≠ [] then setOnu .o23 s else s

/-- Downstream sync is lost. -/
def ponSyncLost (s : State) : State :=
  match s.pon.st with
  | .o12 | .o23 | .o4 => setOnu .o11 s
  | .o51 => setOnu .o6 s
  | _ => s

/-- The receiver goes to HUNT. -/
def ponHunt (s : State) : State :=
  let was := s.ponSynced
  let s := updPon (fun x => { x with sync := .hunt, bad := 0 }) s
  if was then ponSyncLost s else s

/-- The terminal starts: OFF, then O1.1, or O7 where the OLT has disabled it (R289, R298). Log entry 50 (DESIGN CHOICE). -/
def ponStart (s : State) : State :=
  let s := setOnu .off (ponHunt s)
  let s := updPon (fun x => { x with tuned := if bit Config.options 1 then 1 else 3, locked := false, sdRun := 0, sfRun := 0 }) s
  if s.par Prm.ponMode 0 = 0 then s else settleOnu (setOnu (if s.fw.ponO7 then .o7 else .o11) s)

/-- A recast of the PON terminal (R300): the FIFOs are flushed and packets in flight freed; an operating terminal enters
O6 with its ONU-ID, EqD, Alloc-IDs and profiles. Log entry 65 (DEDUCED). -/
def ponRecast (s : State) : State :=
  let hs := s.pon.fifo.flatMap fun f => f.2.map (·.handle)
  let s := hs.foldl (fun s h => free h s) s
  let s := updPon (fun x => { x with fifo := [], sdu := [], bursts := [], benUntil := 0 }) s
  let s := match s.pon.st with
    | .o51 => setOnu .o6 s
    | _ => s
  ponHunt s

/-! ### Commits -/

/-- Offences of a PON commit (R289, R312, R321). The master pattern's own mode does not offend: the master pattern passes its
own check (R91). Log entry 17 (DEDUCED). -/
def ponOffences (s : State) : List Offence :=
  let k := (s.com Prm.ponMskSlot 0).toNat
  offend (decide (s.com Prm.ponMode 0 = Prm.ponMode.deflt 0) || ponCapable (s.com Prm.ponMode 0).toNat) 6 [(Prm.ponMode, 0)] ++
  offend (decide (s.com Prm.ponSfExp 0 < s.com Prm.ponSdExp 0)) 6 [(Prm.ponSdExp, 0), (Prm.ponSfExp, 0)] ++
  offend (decide (k = 0xFFFF) || decide ((s.sec.slots.get k).usage = 5)) 7 [(Prm.ponMskSlot, 0)]

/-- TABLE_COMMIT of PON.xgem (R309). -/
def xgemPageOk (s : State) : Bool :=
  let es := (List.range 1024).map fun i => s.standbyEntry Tbl.ponXgem 0 i
  let vs := (es.map leNat).filter fun v => bit v 16
  let ports := vs.map fun v => bits v 15 0
  decide (ports.eraseDups.length = ports.length) && es.all (fun b => decide (bits (leNat b) 63 28 = 0)) &&
    vs.all fun v => decide (bits v 15 0 ≠ 0xFFFF) && decide (bits v 18 17 ≠ 0) && decide (bits v 27 26 ≠ 3) &&
      (!bit v 25 || (decide (bits v 18 17 = 1) && decide (bits v 27 26 ≠ 1)))

/-- Firmware takes the broadcast keys of a committed page (R314). -/
def takeBcastKeys (s : State) : State :=
  (List.range 2).foldl (fun s i =>
    let e := s.entry Tbl.ponBcastKey 0 i
    if fieldAt e 0 1 = 1 then setPonKey (5 + i) { usage := 1, key := Config.kekOpen (s.ponKey 2).key (bytesAt e 16 16) } s
    else setPonKey (5 + i) {} s) s

/-- TABLE_COMMIT of PON.bcast_key and PON.tod: valid is 0 or 1, and reserved bytes are 0. -/
def bcastPageOk (s : State) : Bool := (List.range 2).all fun i =>
  let e := s.standbyEntry Tbl.ponBcastKey 0 i
  decide (fieldAt e 0 1 ≤ 1) && decide (fieldAt e 1 15 = 0)
def todPageOk (s : State) : Bool := decide (fieldAt (s.standbyEntry Tbl.ponTod 0 0) 14 10 = 0)

/-- A committed reference waits for its frame (R319). -/
def takeTod (s : State) : State :=
  let e := s.entry Tbl.ponTod 0 0
  updPon (fun x => { x with tod := some (fieldAt e 0 4, fieldAt e 4 6, fieldAt e 10 4) }) s

/-- The terminal takes committed values and pages at a frame boundary (R87, R289, R306, R320). -/
def takePon (s : State) : State :=
  let s := switchWaiting Tbl.ponRegId.id 0 (switchWaiting Tbl.ponXgem.id 0 s)
  let s := if (s.tabState Tbl.ponBcastKey.id 0).switching then takeBcastKeys (switchWaiting Tbl.ponBcastKey.id 0 s) else s
  let s := if (s.tabState Tbl.ponTod.id 0).switching then takeTod (switchWaiting Tbl.ponTod.id 0 s) else s
  let (ks, s) := unitTakes 0x0B 0 s
  let s := if changedAt ks 0 Prm.ponMode then ponStart s else s
  let s := if s.par Prm.ponPsEnable 0 = 0 then updPon (fun x => { x with watch := .activeHeld }) s else s
  finishCommits s

/-- The host writes 1 to PON.rogue_clear (R306). Log entry 68 (DEDUCED). -/
def rogueClear (s : State) : State := if s.ponFault then s else ponDefect 6 Ev.ponRogue false s

/-! ### Watchful sleep (R320) -/

/-- A byte waits in a T-CONT queue, or an upstream OMCI message. Log entry 66 (DESIGN CHOICE). -/
def State.ponStimulus (s : State) : Bool :=
  s.toll.q.any fun x => ((decide (16384 ≤ x.1) && decide (x.1 < 16896)) || decide (x.1 = 16960)) && !x.2.pkts.isEmpty

/-- Queue a PLOAM message. -/
def sendPloam (m : PloamUp) : State → State := updPon fun x => { x with ploam := x.ploam ++ [m] }

/-- Log entry 66 (DESIGN CHOICE). -/
def setWatch (w : WatchSt) (s : State) : State := updPon (fun x => { x with watch := w, watchAt := s.now }) s

/-- Back to ActiveHeld from Aware. Log entry 66 (DESIGN CHOICE). -/
def wakeWatch (s : State) : State := sendPloam (.sleepRequest false) (setWatch .activeHeld s)

/-- A local stimulus is seen. Log entry 66 (DESIGN CHOICE). -/
def watchStimulus (s : State) : State :=
  if s.par Prm.ponPsEnable 0 = 0 ∨ !s.ponStimulus then s
  else match s.pon.watch with
    | .activeFree => updPon (fun x => { x with watchAt := s.now }) s
    | .lowPower => setWatch .aware s
    | .aware => wakeWatch s
    | .activeHeld => s

/-- PS_INTERVAL_EXPIRY: Ihold (0), Iaware (1) or Ilowpower (2) elapses (Table 10-9). -/
def execPsIntervalExpiry (which : Nat) (s : State) : Host.Outcome State Fault Refusal :=
  .next (
    if s.par Prm.ponPsEnable 0 = 0 ∨ s.pon.st ≠ .o51 then s
    else match s.pon.watch, which with
      | .activeHeld, 0 => if s.pon.allow then setWatch .activeFree s else s
      | .activeFree, 1 => if s.ponStimulus then s else sendPloam (.sleepRequest true) (setWatch .lowPower s)
      | .lowPower, 2 => setWatch .aware s
      | .aware, 1 => if s.ponStimulus then wakeWatch s else setWatch .lowPower s
      | _, _ => s)

/-! ### PLOAM (R299) -/

/-- A downstream PLOAM message: one whose MIC fails is counted and discarded (R299). Log entry 64 (PRESUMED). -/
def ploamIn (mic : Bool) (act : State → State) (s : State) : State :=
  if !s.ponSynced ∨ s.pon.st = .off then s
  else if !mic then bump Prm.ponPloamMicErr 0 s
  else act s

/-- Acknowledge a directed message. Log entry 64 (PRESUMED). -/
def ploamAck (directed : Bool) (seq : Nat) (c : AckCode) (s : State) : State :=
  if directed ∧ s.pon.onuId ≠ 1023 then sendPloam (.acknowledge seq c) s else s

/-- BURST_PROFILE (R303). -/
def execBurstProfile (mic directed : Bool) (seq i : Nat) (p : PonProfile) (s : State) : Host.Outcome State Fault Refusal :=
  .next (ploamIn mic (fun s =>
    if 4 ≤ i then s
    else ploamAck directed seq .ok (settleOnu (updPon (fun x => { x with profile := x.profile.put i (some p) }) s))) s)

/-- The terminal's serial number (R298). -/
def State.isOnu (s : State) (vendor serial : Nat) : Bool :=
  decide (vendor = (s.par Prm.ponSnVendor 0).toNat) && decide (serial = (s.par Prm.ponSnSerial 0).toNat)

/-- ASSIGN_ONU_ID (Table 10-5): the default Alloc-ID takes index 0 (R307). -/
def execAssignOnuId (mic : Bool) (id vendor serial : Nat) (s : State) : Host.Outcome State Fault Refusal :=
  .next (ploamIn mic (fun s =>
    if s.pon.st = .o23 ∧ vendor = s.pon.vendor ∧ serial = s.pon.serial ∧ id < 1023 then
      setOnu .o4 (setOmcc (updPon (fun x => { x with onuId := id, alloc := x.alloc.put 0 { used := true, allocId := id } }) s))
    else s) s)

/-- RANGING_TIME: the EqD, absolute or relative, is in force from the next frame (R301). -/
def execRangingTime (mic directed : Bool) (seq : Nat) (relative : Bool) (v : Int) (s : State) : Host.Outcome State Fault Refusal :=
  .next (ploamIn mic (fun s =>
    if s.pon.st = .o4 ∨ s.pon.st = .o51 then
      let e := if relative then ((s.pon.eqdNext.getD s.pon.eqd : Nat) : Int) + v else v
      ploamAck directed seq .ok (setOnu .o51 (updPon (fun x => { x with eqdNext := some e.toNat }) s))
    else s) s)

/-- DEACTIVATE_ONU_ID (Table 10-5). -/
def execDeactivateOnuId (mic : Bool) (s : State) : Host.Outcome State Fault Refusal :=
  .next (ploamIn mic (fun s =>
    if s.pon.st = .o4 ∨ s.pon.st = .o51 then setOnu .o23 s else s) s)

/-- DISABLE_SERIAL_NUMBER for one serial number, or for all (Table 10-5, R298). Log entry 65 (DEDUCED). -/
def execDisableSerialNumber (mic disable : Bool) (sn : Option (Nat × Nat)) (s : State) : Host.Outcome State Fault Refusal :=
  let mine := match sn with | none => true | some (v, n) => s.isOnu v n
  .next (ploamIn mic (fun s =>
    if !mine then s
    else if disable then setOnu .o7 s
    else if s.pon.st = .o7 then settleOnu (setOnu .o11 { s with fw := { s.fw with ponO7 := false } })
    else s) s)

/-- REQUEST_REGISTRATION (R299). -/
def execRequestRegistration (mic : Bool) (s : State) : Host.Outcome State Fault Refusal :=
  .next (ploamIn mic (fun s => if s.pon.onuId = 1023 then s else sendPloam (.registration s.pon.regId) s) s)

/-- ASSIGN_ALLOC_ID assigns or withdraws an Alloc-ID (R307). -/
def execAssignAllocId (mic : Bool) (seq allocId : Nat) (assign : Bool) (s : State) : Host.Outcome State Fault Refusal :=
  .next (ploamIn mic (fun s =>
    if s.pon.onuId = 1023 then s
    else
      let held := lowest 64 fun i => (s.pon.alloc.get i).used && decide ((s.pon.alloc.get i).allocId = allocId)
      match assign, held with
      | false, some i =>
        ploamAck true seq .ok (if i = 0 then s else updPon (fun x => { x with alloc := x.alloc.put i {} }) s)
      | false, none => ploamAck true seq .ok s
      | true, some _ => ploamAck true seq .ok s
      | true, none =>
        match (List.range 64).find? fun i => decide (0 < i) && !(s.pon.alloc.get i).used with
        | some i => ploamAck true seq .ok (updPon (fun x => { x with alloc := x.alloc.put i { used := true, allocId := allocId } }) s)
        | none => raise Ev.ponAllocFull 0 allocId (ploamAck true seq .noResources s)) s)

/-- KEY_CONTROL: a unicast key is drawn and returned under KEK (R313). -/
def execKeyControl (mic : Bool) (i : Nat) (s : State) : Host.Outcome State Fault Refusal :=
  .next (ploamIn mic (fun s =>
    if s.pon.onuId = 1023 ∨ (i ≠ 1 ∧ i ≠ 2) then s
    else match drawRandom (2 ^ 128) s with
      | (none, s) => s
      | (some x, s) =>
        let key := le 16 x
        sendPloam (.keyReport i (Config.kekSeal (s.ponKey 2).key key)) (setPonKey (keyNumber false i) { usage := 1, key := key } s)) s)

/-- SLEEP_ALLOW (R320). -/
def execSleepAllow (mic on : Bool) (s : State) : Host.Outcome State Fault Refusal :=
  .next (ploamIn mic (fun s =>
    let s := updPon (fun x => { x with allow := on }) s
    if s.par Prm.ponPsEnable 0 = 0 then s
    else match s.pon.watch, on with
      | .activeHeld, true =>
        if s.pon.watchAt + s.parN Prm.ponPsIholdMs 0 * 1000000 ≤ s.now then setWatch .activeFree s else s
      | .activeFree, false => setWatch .activeHeld s
      | .aware, false => wakeWatch s
      | _, _ => s) s)

/-- UNSUPPORTED_PLOAM (R299). Log entry 64 (PRESUMED). -/
def execUnsupportedPloam (mic : Bool) (seq : Nat) (s : State) : Host.Outcome State Fault Refusal :=
  .next (ploamIn mic (ploamAck true seq .unknownMessage) s)

/-- TO1_EXPIRY and TO2_EXPIRY (Table 10-5). -/
def execTo1Expiry (s : State) : Host.Outcome State Fault Refusal :=
  .next (if s.pon.st = .o4 then (if s.ponSynced then setOnu .o23 s else setOnu .o11 s) else s)
def execTo2Expiry (s : State) : Host.Outcome State Fault Refusal :=
  .next (if s.pon.st = .o6 then setOnu .o11 s else s)

/-! ### Downstream frames (R293, R294, R322) -/

/-- The receiver reaches SYNC (R289, R318): the rate of the recovered clock is measured. Log entry 50 (DESIGN CHOICE). -/
def ponInSync (s : State) : State :=
  let s := updPon (fun x => { x with sync := .sync, bad := 0 }) s
  let (r, s) := drawBelow (2 * rateLimit + 1) s
  let s := updTb 1 (fun x => { x with rate := (r : Int) - rateLimit }) s
  let s := if s.par Prm.ponMode 0 = 4 ∧ !s.pon.locked then
      raise Ev.ponMode 0 s.pon.tuned (updPon (fun x => { x with locked := true }) s) else s
  settleOnu s

/-- Time of day is set by a frame received in O5.1 (R318, R319). Log entries 50 (DESIGN CHOICE), 63 (PRESUMED). -/
def applyTod (s : State) : State :=
  match s.pon.tod with
  | none => s
  | some (f, sec, ns) =>
    if s.pon.st ≠ .o51 ∨ s.par Prm.ponTeqdNs 0 = 0 ∨ s.pon.sfc % 2 ^ 32 ≠ f then s
    else
      let rtd : Int := s.par Prm.ponTeqdNs 0 - 35000 - (s.pon.eqd : Int)
      let down : Int := rtd * s.par Prm.ponTodRatio 0 / 65536 + s.par Prm.ponTodOffsetNs 0
      let target : Int := (sec * 1000000000 + ns : Nat) + down
      let s := updPon (fun x => { x with tod := none }) s
      let s := if (s.tbase 1).isSet then
          let (r, s) := drawBelow (2 * rateLimit + 1) s
          updTb 1 (fun x => { x with rate := (r : Int) - rateLimit }) s
        else stepTb 1 (target - (s.tbNs 1 : Int)) s
      raise Ev.ponTodSet 0 f s

/-- A frame is delivered: the terminal takes committed values and the EqD, and counts the frame. Log entry 67 (DESIGN CHOICE). -/
def frameStart (sfc corr uncorr hecErr : Nat) (s : State) : State :=
  let s := takePon s
  let n := s.ponFrameBits
  let at_ := s.now
  let s := updPon (fun x => { x with
    sfc := sfc, frameAt := at_, eqd := x.eqdNext.getD x.eqd, eqdNext := none
    run := { x.run with rxBits := x.run.rxBits + n, corrBits := x.run.corrBits + corr, uncorrCw := satAdd 32 x.run.uncorrCw uncorr,
                        hecErr := satAdd 32 x.run.hecErr hecErr } }) s
  watchStimulus (applyTod s)

/-- PON_DS_FRAME: one PSBd position: bit errors in its PSync, whether its HEC holds, the SFC it carries, and corrected bits,
uncorrectable codewords and bad XGEM headers in it (R293, R294). -/
def execPonDsFrame (errs : Nat) (hec : Bool) (sfc corr uncorr hecErr : Nat) (s : State) : Host.Outcome State Fault Refusal :=
  .next (
    if s.par Prm.ponMode 0 = 0 ∨ s.ponLos ∨ s.stopped ⟨1, 0x0B, 0⟩ then s
    else
      let next := (s.pon.sfc + 1) % 2 ^ 51
      let good := decide (errs ≤ s.parN Prm.ponPsyncErrTol 0) && hec && decide (sfc = next)
      match s.pon.sync with
      | .hunt => if errs = 0 ∧ hec then updPon (fun x => { x with sync := .presync, sfc := sfc }) s else s
      | .presync => if good then frameStart sfc corr uncorr hecErr (ponInSync s) else ponHunt s
      | _ =>
        if good then
          frameStart next corr uncorr hecErr (updPon (fun x => { x with sync := .sync, bad := 0 }) s)
        else
          let s := updPon (fun x => { x with sync := .resync, bad := x.bad + 1, run := { x.run with psbdErr := x.run.psbdErr + 1 } }) s
          if s.parN Prm.ponSyncM1 0 ≤ s.pon.bad then ponHunt s else frameStart next corr uncorr hecErr s)

/-- AUTO_DWELL_EXPIRY: automatic mode alternates between the rates of modes 1 and 3 (R289). -/
def execAutoDwellExpiry (s : State) : Host.Outcome State Fault Refusal :=
  .next (
    let other := if s.pon.tuned = 1 then 3 else 1
    if s.par Prm.ponMode 0 = 4 ∧ !s.pon.locked ∧ !s.ponSynced ∧ ponCapable other then
      updPon (fun x => { x with tuned := other }) (ponHunt s)
    else s)

/-- TOD_WAIT_TIMEOUT (R319). -/
def execTodWaitTimeout (s : State) : Host.Outcome State Fault Refusal :=
  .next (match s.pon.tod with
    | none => s
    | some (f, _, _) => raise Ev.ponTodMissed 0 f (updPon (fun x => { x with tod := none }) s))

/-! ### Defects (R306, R315, R321, R322) -/

/-- PON_LOS_CHANGE: the ball takes a level, and holds it for the persistence time of LOS where `held` says so. -/
def execPonLosChange (level held : Bool) (s : State) : Host.Outcome State Fault Refusal :=
  .next (
    let s := updPon (fun x => { x with losPin := level }) s
    let s := if s.ponLos then ponHunt s else s
    if held then ponDefect 0 Ev.ponLos s.ponLos s else s)

/-- TX_FAULT_CHANGE: the ball takes a level, and holds it for 1 s where `held` says so (R306). -/
def execTxFaultChange (level held : Bool) (s : State) : Host.Outcome State Fault Refusal :=
  .next (
    let s := updPon (fun x => { x with faultPin := level }) s
    if s.ponFault then (if s.ponBen then ponDefect 5 Ev.ponTf true (updPon (fun x => { x with benUntil := 0 }) s) else s)
    else if held then ponDefect 5 Ev.ponTf false s else s)

/-- ROGUE_DETECT: 1 PON_BEN outside a window, 2 longer than 125 µs, 3 PON_TX_FAULT for 1 ms while PON_BEN is inactive
(R306). Log entry 68 (DEDUCED). -/
def execRogueDetect (cause : Nat) (s : State) : Host.Outcome State Fault Refusal :=
  .next (
    if bit s.pon.defects 6 ∨ (cause = 3 ∧ (!s.ponFault ∨ s.ponBen)) then s
    else raise Ev.ponRogue 0 (detail [(0, 1, 1), (1, 1, cause)])
      (updPon (fun x => { x with defects := setBit x.defects 6 true, benUntil := 0 }) s))

/-- A defect with its run of latches: declared at once, cleared by the tenth clear latch in a row. Log entry 68 (DEDUCED). -/
def latchDefect (b : Nat) (e : EvDef) (bad clear : Bool) (run : Nat) (s : State) : Nat × State :=
  if bad then (0, ponDefect b e true s)
  else
    let n := if clear then run + 1 else 0
    (n, if 10 ≤ n then ponDefect b e false s else s)

/-- PON_SECOND_LATCH (R315, R321, R322). Log entry 68 (DEDUCED). -/
def execPonSecondLatch (s : State) : Host.Outcome State Fault Refusal :=
  .next (if s.power.tbEntry.isSome then s else
    let c := s.pon.run
    let s := updPon (fun x => { x with
      sec := c, run := {}, alloc := Tab.mapV (fun a => { a with sec := a.run, run := 0 }) x.alloc }) s
    let sd := s.parN Prm.ponSdExp 0
    let sf := s.parN Prm.ponSfExp 0
    let (n, s) := latchDefect 2 Ev.ponSd (decide (c.rxBits ≤ c.corrBits * 10 ^ sd)) (decide (c.corrBits * 10 ^ (sd + 1) < c.rxBits))
      s.pon.sdRun s
    let sfBad := decide (c.rxBits ≤ c.corrBits * 10 ^ sf) || decide (0 < c.uncorrCw)
    let (m, s) := latchDefect 3 Ev.ponSf sfBad (!sfBad) s.pon.sfRun s
    let lok := bit s.pon.defects 4
    let k := if decide (0 < c.keyErr) != lok then s.pon.lokRun + 1 else 0
    let s := updPon (fun x => { x with sdRun := n, sfRun := m, lokRun := if 3 ≤ k then 0 else k }) s
    if 3 ≤ k then ponDefect 4 Ev.ponLok (!lok) s else s)

/-! ### Optics supervision (R323) -/

/-- Signed or unsigned order of a reading: the temperature is signed. -/
def ddmLess (i a b : Nat) : Bool := if i = 0 then decide (signed 16 a < signed 16 b) else decide (a < b)

/-- A reading after external calibration. Log entry 70 (DEDUCED). -/
def ddmValue (d : DdmRead) (i : Nat) : Nat :=
  let raw := d.raw.getD i 0
  match d.cal with
  | none => raw % 65536
  | some (lin, rx) =>
    if i = 4 then Config.ddmRxPower rx raw % 65536
    else
      let (slope, off) := lin.getD i (256, 0)
      let v : Int := if i = 0 then signed 16 raw else (raw : Int)
      twos 16 (v * (slope : Int) / 256 + off)

/-- Compare one reading with its thresholds and raise what it newly crosses. Log entry 70 (DEDUCED). -/
def ddmCheck (d : DdmRead) (i : Nat) (s : State) : State :=
  let v := ddmValue d i
  match d.limits[i]? with
  | none => updPon (fun x => { x with ddm := { x.ddm with vals := x.ddm.vals.put i (some v) } }) s
  | some (ha, la, hw, lw) =>
    let above := b2n (ddmLess i ha v) + 2 * b2n (ddmLess i v la) + 4 * b2n (ddmLess i hw v) + 8 * b2n (ddmLess i v lw)
    let old := s.pon.ddm.above.get i
    let s := updPon (fun x => { x with ddm := { x.ddm with vals := x.ddm.vals.put i (some v), above := x.ddm.above.put i above } }) s
    let say := fun (b : Nat) (e : EvDef) (high : Nat) (s : State) =>
      if bit above b && !bit old b then raise e 0 (detail [(0, 1, i + 1), (1, 1, high)]) s else s
    say 3 Ev.ponDdmWarn 0 (say 2 Ev.ponDdmWarn 1 (say 1 Ev.ponDdmAlarm 0 (say 0 Ev.ponDdmAlarm 1 s)))

/-- DDM_POLL: the diagnostics are read, or the read fails (R323). Log entries 38 (DESIGN CHOICE), 70 (DEDUCED). -/
def execDdmPoll (r : Option DdmRead) (s : State) : Host.Outcome State Fault Refusal :=
  .next (
    if s.par Prm.ponDdmPeriodMs 0 = 0 then s
    else match r with
      | some d => (List.range 5).foldl (fun s i => ddmCheck d i s) (updPon (fun x => { x with ddm := { x.ddm with fails := 0 } }) s)
      | none =>
        let n := s.pon.ddm.fails + 1
        if n = 3 then raise Ev.ponDdmFail 0 0 (updPon (fun x => { x with ddm := { x.ddm with fails := 3, vals := [] } }) s)
        else updPon (fun x => { x with ddm := { x.ddm with fails := min n 4 } }) s)

end Sys2Proof.Machine
end

