-- ==== Sys2Proof/Machine/PonData.lean ====
section
/-!
DEFINITION. The PON terminal's data path: XGEM reception (R295, R309, R313, R315, R316), the BWmap and cooperative
alignment (R302 to R305, R233, R234, R310, R311), and upstream bursts (R303, R305, R317).
-/
namespace Sys2Proof.Machine

/-! ### Reception -/

/-- Entry of PON.xgem that a downstream Port-ID names (R295). -/
def State.xgemDown (s : State) (port : Nat) : Option Nat :=
  lowest 1024 fun i =>
    let v := s.entryNat Tbl.ponXgem 0 i
    bit v 16 && bit v 17 && decide (bits v 15 0 = port)

def State.ponSdu (s : State) (port : Nat) : XgemSdu := s.pon.sdu.get port
def putSdu (port : Nat) (x : XgemSdu) : State → State := updPon fun p => { p with sdu := p.sdu.put port x }

/-- Message integrity code that OMCI carries (R316). Log entry 62 (PRESUMED). -/
def State.omciMic (s : State) (msg : List Byte) : List Byte := be 4 (Config.aesCmac (s.ponKey 1).key msg)

/-- A received OMCI message: with a good MIC it goes on with its 8-byte head (R316). Log entry 62 (PRESUMED). -/
def omciIn (d : List Byte) (s : State) : State :=
  let msg := d.take (d.length - 4)
  if d.length < 4 ∨ d.drop (d.length - 4) ≠ s.omciMic msg then bump Prm.ponOmciMicErr 0 s
  else
    let ext := decide ((bytesAt msg 3 1) = [0x0B])
    let head := le 1 (b2n ext) ++ le 1 0 ++ le 2 msg.length ++ le 4 s.pon.sfc
    ingress { port := 3, srcType := 1, srcInst := 0, data := head ++ msg, directed := some 16953 } s

/-- A whole SDU of an entry (R295). -/
def sduIn (i : Nat) (d : List Byte) (s : State) : State :=
  if i = 0 then omciIn d s else ingress { port := 3, srcType := 1, srcInst := i, data := d } s

/-- The rest of an SDU is dropped. -/
def spoilSdu (port : Nat) (last : Bool) (s : State) : State :=
  putSdu port (if last then {} else { open_ := true, bad := true }) s

/-- XGEM_FRAME_RX (R294, R295, R309, R313, R315). -/
def execXgemFrameRx (x : Xgem) (s : State) : Host.Outcome State Fault Refusal :=
  .next (
    if !s.ponSynced ∨ x.idle ∨ s.stopped ⟨1, 0x0B, 0⟩ then s
    else if x.uncorr then
      spoilSdu x.port x.last (updPon (fun p => { p with run := { p.run with xgemUncorr := satAdd 32 p.run.xgemUncorr 1 } }) s)
    else match s.xgemDown x.port with
      | none => if x.last then bump Prm.ponUnknownPort 0 (putSdu x.port {} s) else s
      | some i =>
        let v := s.entryNat Tbl.ponXgem 0 i
        let want := bits v 27 26
        let slot := s.ponKey (keyNumber (decide (want = 2)) x.key)
        if (x.key = 0 ∧ want ≠ 0) ∨ (x.key ≠ 0 ∧ (3 ≤ x.key ∨ slot.usage = 0)) then
          spoilSdu x.port x.last (updPon (fun p => { p with run := { p.run with keyErr := satAdd 32 p.run.keyErr 1 } }) s)
        else if x.full then spoilSdu x.port x.last (fifoSlip Prm.ponDsDrop Ev.fifoPonDsDrop 0 1 s)
        else
          let s := if want = 1 ∧ x.key ≠ 0 then updPon (fun p => { p with txKey := x.key }) s else s
          let d := if x.key = 0 then x.data else Config.xgemCtr slot.key s.pon.sfc x.port x.data
          let u := s.ponSdu x.port
          let crowded := !u.open_ && !x.last && decide (64 ≤ (s.pon.sdu.filter fun e => e.2.open_).length)
          let all := u.data ++ d
          if u.bad then spoilSdu x.port x.last s
          else if crowded || decide (16384 < all.length) then bump Prm.ponUnknownPort 0 (spoilSdu x.port x.last s)
          else if x.last then sduIn i all (putSdu x.port {} s)
          else putSdu x.port { open_ := true, data := all } s)

/-! ### Cooperative alignment (R233, R234) -/

/-- Bytes that wait in the queues of a T-CONT index, those of OMCI included for index 0, and those already fetched.
Log entry 61 (PRESUMED). -/
def State.tcontBytes (s : State) (i : Nat) : Nat :=
  let waits := fun q => ((s.tq q).pkts.map fun p => s.lenOf p.handle).sum
  ((List.range 8).map fun p => waits (16384 + 8 * i + p)).sum + (if i = 0 then waits 16960 else 0) +
    ((s.pon.fifo.get i).map fun u => u.left.length).sum

/-- Predicted next grant of an Alloc-ID index: start in ns and bytes (R233). Log entry 105 (DEDUCED). -/
def predictGrant (g : Grants) : Option (Nat × Nat) :=
  match g with
  | [a, b, c] =>
    let d1 : Int := (b.1 : Int) - a.1
    let d2 : Int := (c.1 : Int) - b.1
    if (d2 - d1).natAbs ≤ 1000 ∧ 0 < d2 then some (c.1 + d2.toNat, c.2) else none
  | _ => none

/-- Place one uplink exchange of radio r for a predicted grant; `place` is where the scheduler finds room for the end of
its TB PPDUs (R234). Log entry 105 (DEDUCED). -/
def alignRadio (r a g b : Nat) (place : Option Nat) (s : State) : State :=
  let group := s.wlan.sta.filter fun x =>
    let v := s.sta x.1
    decide (0 < x.2.buffered) && staValid v && staLink v r && decide (staUlAlloc v = a)
  if s.par Prm.wlanCoopEnable r = 0 ∨ group.isEmpty then s
  else
    let hi := g - s.parN Prm.wlanCoopLeadUs 0 * 1000
    let lo := hi - s.parN Prm.wlanCoopWindowUs 0 * 1000
    let fits := match place with
      | some e => decide (lo ≤ e) && decide (e ≤ hi) && decide (s.now ≤ e) && decide (e ≤ s.now + s.toBreak r)
      | none => false
    if fits then
      let bytes := min (group.map fun x => x.2.buffered).sum (b - s.tcontBytes a)
      { s with wlan := { s.wlan with aligned := s.wlan.aligned ++ [{ radio := r, alloc := a, end_ := place.getD 0, bytes := bytes }] } }
    else raise Ev.wlanCoopMiss r (detail [(0, 1, a), (4, 4, g / 1000)]) (bump Prm.wlanCoopMiss r s)

/-- A grant is reported to the MAC (R311), which predicts the next one (R233). -/
def reportGrant (a start bytes : Nat) (place : List (Nat × Nat)) (s : State) : State :=
  let s := bumpBy Prm.ponGrantBytes a bytes { s with cvn := { s.cvn with granted := s.cvn.granted + bytes } }
  let gs := ((s.wlan.grants.get a) ++ [(start, bytes)])
  let gs := gs.drop (gs.length - 3)
  let s := { s with wlan := { s.wlan with
    grants := s.wlan.grants.put a gs
    aligned := s.wlan.aligned.filter fun x => decide (x.alloc ≠ a) || decide (s.now ≤ x.end_) } }
  match predictGrant gs with
  | none => s
  | some (g, b) => (List.range 3).foldl (fun s r => alignRadio r a g b ((place.find? fun x => x.1 == r).map (·.2)) s) s

/-! ### The BWmap (R302 to R304) -/

/-- Bytes of a PLOAMu and of a DBRu. Log entry 61 (PRESUMED). -/
def ploamuBytes : Nat := 48
/-- Log entry 61 (PRESUMED). -/
def dbruBytes : Nat := 4

/-- An own grant is skipped (R304): 1 overlap, 2 profile, 3 size. -/
def skipGrant (why : Nat) (s : State) : State := warnOnce Prm.ponBwmapErr 0 Ev.ponBwmap 0 why (bump Prm.ponBwmapErr 0 s)

/-- Fewer than 64 upstream bits lie between an earlier burst of the frame and a new one, whose PSBu comes first. -/
def burstsClash (kbps psbu : Nat) (old : PonBurst) (start : Nat) : Bool :=
  decide ((start : Int) * kbps - (psbu : Int) * 1000000000 < (old.stop : Int) * kbps + 64000000000)

/-- Index of an Alloc-ID that the terminal holds. -/
def State.allocIndex (s : State) (id : Nat) : Option Nat :=
  lowest 64 fun i => (s.pon.alloc.get i).used && decide ((s.pon.alloc.get i).allocId = id)

/-- BWMAP_ALLOCATION: one allocation of the frame's BWmap; `place` gives, by radio, where the MAC finds room for an aligned
exchange (R234, R302 to R304, R311). -/
def execBwmapAllocation (m : Allocation) (place : List (Nat × Nat)) (s : State) : Host.Outcome State Fault Refusal :=
  .next (
    let st := s.pon.st
    let us := s.pon.frameAt + 35000 + s.pon.eqd
    let above := (if m.ploamu then ploamuBytes else 0) + if m.dbru then dbruBytes else 0
    if !s.ponSynced then s
    else if m.serial then
      if st ≠ .o23 then s
      else match s.pon.profile.get m.profile with
        | none => skipGrant 2 s
        | some _ => updPon (fun x => { x with bursts := x.bursts ++
            [{ us := us, start := m.start, stop := m.stop, profile := m.profile, ploamu := true, serial := true, slots := [] }] }) s
    else match s.allocIndex m.allocId with
      | none => s
      | some i =>
        let s := if m.wake ∧ s.pon.watch = .aware then wakeWatch s else s
        if (st ≠ .o4 ∧ st ≠ .o51) ∨ s.pon.watch = .lowPower then s
        else if st = .o4 ∧ (i ≠ 0 ∨ !m.ploamu) then s
        else
          let s := updPon (fun x => { x with alloc := x.alloc.upd i fun a => { a with run := satAdd 32 a.run 1 } }) s
          let slot : PonSlot := { index := i, payload := m.size - above, dbru := m.dbru }
          let last := s.pon.bursts.getLast?
          let joins := m.chained && match last with | some b => decide (b.us = us) && !b.serial | none => false
          match s.pon.profile.get m.profile with
          | none => skipGrant 2 s
          | some p =>
            if m.size < above then skipGrant 3 s
            else if !joins && s.pon.bursts.any fun b => decide (b.us = us) && burstsClash (s.ponUpKbps p) p.psbuBits b m.start then
              skipGrant 1 s
            else
              let s := if joins then
                  updPon (fun x => { x with bursts := x.bursts.dropLast ++ (match last with
                    | some b => [{ b with stop := m.stop, slots := b.slots ++ [slot] }]
                    | none => []) }) s
                else updPon (fun x => { x with bursts := x.bursts ++
                  [{ us := us, start := m.start, stop := m.stop, profile := m.profile, ploamu := m.ploamu, slots := [slot] }] }) s
              if st = .o51 then reportGrant i (us + m.start / 1000) slot.payload place s else s)

/-! ### Upstream (R303, R305, R310, R313, R317) -/

/-- The first slot of an index that has not yet asked asks for its payload. -/
def markWanted (i : Nat) : List PonSlot → Option (List PonSlot)
  | [] => none
  | x :: t =>
    if x.index = i ∧ x.wanted.isNone then some ({ x with wanted := some x.payload } :: t) else (markWanted i t).map (x :: ·)

/-- Log entry 67 (DESIGN CHOICE). -/
def markBursts (i : Nat) : List PonBurst → List PonBurst
  | [] => []
  | b :: t => match markWanted i b.slots with
    | some sl => { b with slots := sl } :: t
    | none => b :: markBursts i t

/-- US_PREFETCH: the terminal requests data for the next allocation of a T-CONT index (R305). -/
def execUsPrefetch (i : Nat) (s : State) : Host.Outcome State Fault Refusal :=
  .next (updPon (fun x => { x with bursts := markBursts i x.bursts }) s)

/-- Bytes that the terminal has requested for an index and not yet fetched. Log entry 67 (DESIGN CHOICE). -/
def State.ponWants (s : State) (i : Nat) : Nat :=
  ((s.pon.bursts.flatMap fun b => b.slots.filter fun x => x.index == i).map fun x => x.wanted.getD 0).sum -
    ((s.pon.fifo.get i).map fun u => u.left.length).sum

/-- Upstream ports of a T-CONT index (R308). Log entry 67 (DESIGN CHOICE). -/
def State.xgemUp (s : State) (i : Nat) : List Nat :=
  pick 1024 fun k =>
    let v := s.entryNat Tbl.ponXgem 0 k
    decide (0 < k) && bit v 16 && bit v 18 && decide (bits v 24 19 = i)

/-- A packet leaves Tollgate for the PON upstream FIFO (R305): OMCI on the OMCC port, and any other on an upstream port of
the T-CONT, which one where it has several being left open. -/
def fetchUpstream (i h q : Nat) (s : State) : State :=
  let d := (s.wb h).data
  let put := fun (port : Nat) (secure : Bool) (left : List Byte) => updPon fun x =>
    { x with fifo := x.fifo.upd i fun l => l ++ [{ handle := h, left := left, port := port, secure := secure }] }
  if q = 16960 then
    if s.pon.st ≠ .o51 then free h (bump Prm.ponOmciTxDrop 0 s)
    else
      let msg := d.drop 8
      put s.pon.onuId (decide (bits (s.entryNat Tbl.ponXgem 0 0) 27 26 = 1)) (msg ++ s.omciMic msg) s
  else
    let ps := s.xgemUp i
    let (x, s) := drawBelow (max 1 ps.length) s
    match ps[x]? with
    | none => free h s
    | some k =>
      let v := s.entryNat Tbl.ponXgem 0 k
      put (bits v 15 0) (decide (bits v 27 26 = 1)) d s

/-- XGEM frames of one allocation: each has an 8-byte header and is padded to 4 bytes; an SDU that does not fit is
fragmented (R305). The result gives the frames, what is left of the FIFO, and the packets sent whole. Log entry 61 (PRESUMED). -/
def fillSlot (key : Nat → Nat → List Byte → Nat × List Byte) : List PonSdu → Nat → List XgemOut × List PonSdu × List Nat
  | [], _ => ([], [], [])
  | u :: t, room =>
    if room < 12 then ([], u :: t, [])
    else
      let n := min u.left.length (room - 8)
      let (k, d) := key u.port (b2n u.secure) (u.left.take n)
      let used := 8 + (n + 3) / 4 * 4
      if n = u.left.length then
        let r := fillSlot key t (room - used)
        ({ port := u.port, key := k, last := true, data := d } :: r.1, r.2.1, u.handle :: r.2.2)
      else ([{ port := u.port, key := k, last := false, data := d }], { u with left := u.left.drop n } :: t, [])

/-- Key index and bytes of an upstream XGEM payload: encrypted with the key index that last appeared downstream (R313). -/
def State.xgemSeal (s : State) (port secure : Nat) (d : List Byte) : Nat × List Byte :=
  if secure = 0 ∨ s.pon.txKey = 0 then (0, d)
  else (s.pon.txKey, Config.xgemCtr (s.ponKey (keyNumber false s.pon.txKey)).key s.pon.sfc port d)

/-- Report of a DBRu, in units of 4 bytes (R310). -/
def State.dbruReport (s : State) (i : Nat) : Nat :=
  let fore := if s.par Prm.ponDbruMode i = 1 then ((s.wlan.aligned.filter fun a => a.alloc == i).map (·.bytes)).sum else 0
  min ((s.tcontBytes i + fore + 3) / 4) 0xFFFFFE

/-- One allocation of a burst is sent; `late` says that its data did not arrive in time (R305).
Log entries 61 (PRESUMED), 67 (DESIGN CHOICE). -/
def sendSlot (x : PonSlot) (late : Bool) (s : State) : (Nat × Option Nat × List XgemOut) × State :=
  let report := if x.dbru then some (s.dbruReport x.index) else none
  if late then ((x.index, report, []), s)
  else
    let r := fillSlot s.xgemSeal (s.pon.fifo.get x.index) x.payload
    let n := (r.1.map fun f => f.data.length).sum
    let s := updPon (fun p => { p with fifo := p.fifo.put x.index r.2.1 }) { s with cvn := { s.cvn with carried := s.cvn.carried + n } }
    ((x.index, report, r.1), r.2.2.foldl (fun s h => sendOff h s.now 1 s) s)

/-- BURST_START: PON_BEN rises for the oldest burst that is scheduled, and the burst is sent; `late` lists the places of
allocations whose data did not arrive (R302, R303, R305). Nothing leaves while PON_TX_DISABLE is active. -/
def execBurstStart (late : List Nat) (s : State) : Host.Outcome State Fault Refusal :=
  .next (match s.pon.bursts with
    | [] => s
    | b :: rest =>
      let s := updPon (fun x => { x with bursts := rest }) s
      match s.pon.profile.get b.profile with
      | none => s
      | some p =>
        if s.ponTxOff ∨ s.pon.watch = .lowPower ∨ s.stopped ⟨1, 0x0B, 0⟩ then s
        else
          let s := updPon (fun x => { x with benUntil := b.us + b.stop / 1000 + s.parN Prm.ponBenLagNs 0 }) s
          let (delay, s) := if b.serial then drawRandom 48000000 s else (none, s)
          let (ploam, s) := if b.serial then (some (PloamUp.serialNumber s.pon.vendor s.pon.serial), s)
            else if !b.ploamu then (none, s)
            else if s.pon.st = .o4 then (some (PloamUp.registration s.pon.regId), s)
            else match s.pon.ploam with
              | [] => (some PloamUp.idle, s)
              | m :: t => (some m, updPon (fun x => { x with ploam := t }) s)
          let (slots, s) := b.slots.zipIdx.foldl (fun acc x =>
            let (o, s) := sendSlot x.1 (late.contains x.2) acc.2
            (acc.1 ++ [o], s)) ([], s)
          let s := if late.any fun i => decide (i < slots.length) then fifoSlip Prm.ponUsUnderrun Ev.fifoPonUsUnderrun 0 1 s else s
          let out : BurstOut := { us := b.us, start := b.start, profile := p, onuId := s.pon.onuId, dyingGasp := s.pon.dyingGasp,
                                  ploamu := ploam, allocs := slots, delay := delay.getD 0 }
          let s := bump Prm.ponBursts 0 (updPon (fun x => { x with sent := x.sent ++ [out] }) s)
          if s.ponFault then ponDefect 5 Ev.ponTf true s else s)

end Sys2Proof.Machine
end

