-- ==== Sys2Proof/Machine/Caravan.lean ====
section
/-!
DEFINITION. The Caravan modem and the venue fabric: transceiver scripts (R437), packets and regions (R438 to R445), fabric
payloads (R446 to R450), membership (R451 to R453), venue time (R454, R455), fibre alarms and load (R456 to R458), plans
and channels (R459, R460).
-/
namespace Sys2Proof.Machine

def updCvn (f : Caravan → Caravan) (s : State) : State := { s with cvn := f s.cvn }
def State.nbr (s : State) (m : Nat) : CvnNbr := s.cvn.nbr.get m
def updNbr (m : Nat) (f : CvnNbr → CvnNbr) : State → State := updCvn fun x => { x with nbr := x.nbr.upd m f }

/-- The modem's recast unit. -/
def cvnUnit : RUnit := ⟨0, 0x14, 0⟩

/-! ### Transceiver scripts (R437) -/

/-- CVN.spi_script (Table 15-2). -/
def Tbl.cvnSpi : TableDef where
  id := 0x14120000
  insts := 6
  entries := fun _ => 16
  size := 8

/-- The operation of one entry, with the event's value; none at an end entry. -/
def spiOp (e : Nat) (value : Int) : Option SpiOp :=
  let data := bits e 47 16
  let n := bits e 15 8
  match bits e 7 0 with
  | 1 => some (.write ((be 4 data).take n))
  | 2 => some (.wait data)
  | 3 => some (.write ((be 4 ((data ||| (twos 32 value * 2 ^ bits e 55 48)) % 2 ^ 32)).take n))
  | _ => none

/-- Operations of a page up to its first end entry. Log entry 101 (DEDUCED). -/
def scriptOps (value : Int) : List Nat → List SpiOp
  | [] => []
  | e :: t => match spiOp e value with
    | some o => o :: scriptOps value t
    | none => []

/-- Run the script of an event: 0 init, 1 tune, 2 receive, 3 transmit, 4 idle, 5 power. -/
def runScript (e : Nat) (value : Int) (s : State) : State :=
  let ops := scriptOps value ((List.range 16).map fun i => s.entryNat Tbl.cvnSpi e i)
  updCvn (fun x => { x with spi := x.spi ++ ops }) s

/-- Time of a script at 10 MHz, in units of 0.1 µs. -/
def scriptTime (ops : List SpiOp) : Nat :=
  (ops.map fun o => match o with | .write b => b.length * 8 | .wait us => us * 10).sum

/-- TABLE_COMMIT of CVN.spi_script (R437). -/
def spiPageOk (i lead : Nat) (s : State) : Bool :=
  let es := (List.range 16).map fun k => leNat (s.standbyEntry Tbl.cvnSpi i k)
  es.all (fun e => decide (bits e 63 56 = 0) && decide (bits e 7 0 ≤ 3) && decide (bits e 55 48 ≤ 31) &&
    (bits e 7 0 % 2 == 0 || (decide (1 ≤ bits e 15 8) && decide (bits e 15 8 ≤ 4)))) &&
  (i != 3 || decide (scriptTime (scriptOps 0 es) ≤ lead * 10))

/-! ### Rates and regions (Tables 15-3 and 15-4) -/

/-- Code length, symbol time in ns, bits per symbol and largest fabric payload of a rate code. -/
def cvnRate (c : Nat) : Nat × Nat × Nat × Nat :=
  match c with
  | 0 => (63, 31500, 1, 18)
  | 1 => (63, 31500, 2, 39)
  | 2 => (31, 15500, 1, 49)
  | _ => (31, 15500, 2, 100)

/-- Air time of a packet in µs, rounded up (R440). Log entry 104 (DESIGN CHOICE). -/
def airUs (rate len : Nat) : Nat :=
  let (_, sym, b, _) := cvnRate rate
  let n := (8 * (len + 2) + b - 1) / b
  ((72 + n) * sym + 999) / 1000

/-- Channel centres in kHz, highest power in dBm, and duty limit in parts per thousand of a region. -/
def cvnRegion (r : Nat) : Option (List Nat × Int × Nat) :=
  match r with
  | 0 => some ([865000, 868000], 14, 10)
  | 1 => some ((List.range 10).map fun k => 903500 + 2500 * k, 30, 1000)
  | 2 => some ([921500], 13, 100)
  | _ => none

/-- Air time of the last hour in µs. -/
def State.hourUs (s : State) : Nat :=
  ((s.cvn.air.filter fun a => decide (s.now < a.at_ + 3600000000000)).map (·.us)).sum

/-- Offences of a CVN commit (R437, R445, R450). -/
def cvnOffences (s : State) : List Offence :=
  let n := fun (p : ParamDef) => (s.com p 0).toNat
  let L := (cvnRate (n Prm.cvnRate)).1
  let k := n Prm.cvnKeySlot
  let lead := scriptTime (scriptOps 0 ((List.range 16).map fun i => s.entryNat Tbl.cvnSpi 3 i))
  (match cvnRegion (n Prm.cvnRegion) with
    | none => []
    | some (cs, top, _) =>
      offend (decide (s.com Prm.cvnTxPowerDbm 0 ≤ top)) 6 [(Prm.cvnTxPowerDbm, 0), (Prm.cvnRegion, 0)] ++
      offend (decide (n Prm.cvnChannel < cs.length)) 6 [(Prm.cvnChannel, 0), (Prm.cvnRegion, 0)]) ++
  offend (decide (n Prm.cvnCodeBase < L)) 6 [(Prm.cvnCodeBase, 0), (Prm.cvnRate, 0)] ++
  offend (decide (lead ≤ n Prm.cvnXcvrTxLeadUs * 10)) 6 [(Prm.cvnXcvrTxLeadUs, 0)] ++
  offend (decide (k = 0xFFFF) || decide ((s.sec.slots.get k).usage = 8)) 7 [(Prm.cvnKeySlot, 0)]

/-! ### Fabric time (R446) -/

/-- Superframe and slot that run on TB2. -/
def State.cvnSf (s : State) : Nat := s.tbNs 2 / sfNs
def State.cvnSlot (s : State) : Nat := s.tbNs 2 / 8000000

/-- Slot of a member in a superframe. -/
def slotOf (m n : Nat) : Nat := (m / 4 + m % 4 * (n % 512)) % 512

/-- TB2 nanosecond at which the sync word of a packet ends that starts 250 µs into a slot. -/
def syncEnd (sf slot rate : Nat) : Nat := sf * sfNs + slot * 8000000 + 250000 + 48 * (cvnRate rate).2.1

/-! ### Payloads (R447, R450) -/

/-- Tag: low 16 bits of the CRC-32C of the OTP die identifier. -/
def cvnTag : Nat := crc32c (le 8 Config.otpDieId) % 65536

/-- Own member ID as the core carries it. -/
def State.ownId (s : State) : Nat := s.cvn.id.getD 0

/-- The core of a packet (Table 15-5). -/
def State.cvnCore (s : State) (type : Nat) : List Byte :=
  be 12 (s.parN Prm.cvnMaxVersion 0 * 2 ^ 94 + type * 2 ^ 92 + s.ownId * 2 ^ 81 + s.parN Prm.cvnVenueId 0 * 2 ^ 65 + cvnTag * 2 ^ 49 +
    s.cvnSf % 2 ^ 32 * 2 ^ 17 + s.cvn.hops * 2 ^ 13 + b2n (s.cvn.st == .claim) * 2 ^ 12 + b2n s.cvn.fibreOk * 2 ^ 11)

/-- Key of the MIC, where packets carry one. -/
def State.cvnKey (s : State) : Option (List Byte) :=
  let k := s.parN Prm.cvnKeySlot 0
  if k = 0xFFFF then none else some (s.sec.slots.get k).key

/-- The MIC element over the bytes before it (R450). Log entry 101 (DEDUCED). -/
def cvnMic (key bytes : List Byte) : List Byte := be 4 (Config.aesCmac key bytes / 2 ^ 96)

/-- An element. -/
def element (type : Nat) (v : List Byte) : List Byte := be 1 type ++ be 1 v.length ++ v

def Fibre.bytes (f : Fibre) : List Byte := element 5 (be 3 (f.origin * 2 ^ 13 + b2n f.lost * 2 ^ 12 + f.hops % 8 * 2 ^ 9 + f.seq % 512))
def CvnConflict.bytes (c : CvnConflict) : List Byte := element 6 (be 4 (c.id * 2 ^ 21 + c.tag * 32 + b2n c.every * 16))
def CvnVeto.bytes (v : CvnVeto) : List Byte := element 8 (be 2 v.number ++ be 4 v.crc ++ be 2 (v.member * 32 + v.reason))

/-- The elements of a payload: type and value; a length that runs past the end stops the walk. Log entry 101 (DEDUCED). -/
def elements : Nat → List Byte → List (Nat × List Byte)
  | 0, _ => []
  | n + 1, l =>
    match l with
    | t :: k :: rest =>
      if rest.length < k.toNat then [] else (t.toNat, rest.take k.toNat) :: elements n (rest.drop k.toNat)
    | _ => []

/-- Number that bytes hold, MSB first. -/
def beNat (l : List Byte) : Nat := leNat l.reverse

/-- The entries of `n` bytes that a value holds. -/
def chunksOf (n : Nat) : Nat → List Byte → List (List Byte)
  | 0, _ => []
  | k + 1, l => if l.length < n ∨ n = 0 then [] else l.take n :: chunksOf n k (l.drop n)

/-! ### Transmission (R444, R445) -/

/-- Send a packet: it is skipped where the duty limit would be passed (R445), and abandoned where it is not ready
(R444). -/
def cvnSend (slot code : Nat) (ready : Bool) (payload : List Byte) (s : State) : State :=
  let rate := s.parN Prm.cvnRate 0
  match cvnRegion (s.parN Prm.cvnRegion 0) with
  | none => s
  | some (_, _, duty) =>
    let us := airUs rate payload.length
    if 3600000 * duty < s.hourUs + us then
      warnOnce Prm.cvnDutySkip 0 Ev.cvnDuty 0 (detail [(4, 4, s.hourUs / 1000)]) (bump Prm.cvnDutySkip 0 s)
    else if !ready then s
    else
      let s := runScript 3 0 s
      let s := updCvn (fun x => { x with
        sent := x.sent ++ [{ sf := s.cvnSf, slot := slot, code := code, payload := payload }]
        air := (x.air.filter fun a => decide (s.now < a.at_ + 3600000000000)) ++ [{ at_ := s.now, us := us }] }) s
      bump Prm.cvnTxPackets 0 (runScript 2 0 s)

/-- A packet with its MIC. Log entry 101 (DEDUCED). -/
def State.sealed (s : State) (bytes : List Byte) : List Byte :=
  match s.cvnKey with
  | some k => if s.par Prm.cvnMaxVersion 0 = 3 then bytes ++ element 15 (cvnMic k bytes) else bytes
  | none => bytes

/-! ### Beacons (R446, R449) -/

/-- Elements of a beacon under construction: bytes so far and room left. -/
abbrev Frame := List Byte × Nat

/-- Add an element where it fits. -/
def Frame.add (f : Frame) (e : List Byte) : Option Frame := if e.length ≤ f.2 then some (f.1 ++ e, f.2 - e.length) else none

/-- Add elements in order; the second result lists those that fitted, as places. -/
def addAll (f : Frame) (l : List (List Byte)) : Frame × List Nat :=
  l.zipIdx.foldl (fun acc e => match acc.1.add e.1 with
    | some f => (f, acc.2 ++ [e.2])
    | none => acc) (f, [])

/-- Take the listed places out of a list. -/
def without {α : Type} (l : List α) (places : List Nat) : List α := (l.zipIdx.filter fun e => !places.contains e.2).map (·.1)

/-- Neighbours in the order of a stamp, oldest first. -/
def State.nbrsBy (s : State) (p : CvnNbr → Bool) (k : CvnNbr → Nat) : List (Nat × CvnNbr) :=
  (s.cvn.nbr.filter fun e => e.2.used && p e.2).mergeSort fun a b => decide (k a.2 ≤ k b.2)

/-- Candidate index (15 for none) that CHANNEL carries for a radio. -/
def candNibble (x : Nat) : Nat := if x = 0 then 15 else x - 1

/-- Stations with a link in any sector (Prm.wlanStations, summed). -/
def State.totalStations (s : State) : Nat :=
  ((pick 2048 fun k => staValid (s.sta k)).map fun k => (staLinks (s.sta k)).length).sum

/-- BEACON_TX: the member's beacon; `air` is the mean busy fraction of its radios in the last superframe, and `ready` says
that the packet is whole when its first word is due (R446, R449, R453, R458). -/
def execBeaconTx (air : Nat) (ready : Bool) (s : State) : Host.Outcome State Fault Refusal :=
  .next (
    if (s.cvn.st ≠ .claim ∧ s.cvn.st ≠ .member) ∨ s.stopped cvnUnit then s
    else
      let n := s.cvnSf
      let v := s.parN Prm.cvnMaxVersion 0
      let mic := s.cvnKey.isSome && decide (v = 3)
      let top := (cvnRate (s.parN Prm.cvnRate 0)).2.2.2
      let c := s.cvn
      let own := c.fibreOut.filter (fun f => f.origin == s.ownId) ++ c.fibreOut.filter (fun f => f.origin != s.ownId)
      let f : Frame := (s.cvnCore 1, top - 12 - if mic then 6 else 0)
      let (f, i1) := addAll f (own.map Fibre.bytes)
      let (f, i2) := addAll f (c.conflicts.map CvnConflict.bytes)
      let (f, i3) := if v < 2 then (f, []) else addAll f (c.vetoOut.map CvnVeto.bytes)
      let (f, _) := match c.parent with
        | some p => if v < 2 ∨ s.par Prm.timeTb2Source 0 ≠ 2 then (f, []) else addAll f [element 2 (be 2 (p * 32))]
        | none => (f, [])
      let kids := s.nbrsBy (fun x => x.dUp.isSome) (·.echoedAt)
      let kids := kids.take (min 8 ((f.2 - 2) / 5))
      let (f, _) := if v < 2 ∨ kids.isEmpty then (f, [])
        else addAll f [element 3 (kids.flatMap fun k => be 5 (k.1 * 2 ^ 29 + twos 29 (k.2.dUp.getD 0)))]
      let kids := if v < 2 then [] else kids
      let (f, _) := if v < 2 ∨ fieldAt s.venuePlan 0 2 = 0 then (f, [])
        else addAll f [element 9 ((List.range 3).flatMap fun r => be 1 (candNibble (c.cur.get r) * 16 + candNibble (c.prop.get r)))]
      let frags := match c.plan with
        | some { number, crc, whole := some w, next, .. } => (List.range 2).map fun j =>
            let k := (next + j) % 2
            element 7 (be 2 number ++ be 4 crc ++ be 1 (k * 16 + 2) ++ bytesAt w (24 * k) 24)
        | _ => []
      let (f, i7) := if v < 2 then (f, []) else addAll f frags
      let load := min s.totalStations 4095 * 2 ^ 20 + min air 100 * 2 ^ 12 + c.backhaul * 16
      let (f, _) := if v < 2 then (f, []) else addAll f [element 4 (be 4 load)]
      let near := (s.nbrsBy (fun _ => true) (·.listedAt)).take (min 8 ((f.2 - 2) / 3))
      let (f, _) := if near.isEmpty then (f, [])
        else addAll f [element 1 (near.flatMap fun k => be 3 (k.1 * 2 ^ 13 + k.2.lqi % 256 * 32))]
      let s := bumpBy Prm.cvnConflicts 0 i2.length s
      let s := updCvn (fun x => { x with
        fibreOut := without own i1
        conflicts := (x.conflicts.zipIdx.map fun e => if i2.contains e.2 then { e.1 with left := e.1.left - 1 } else e.1).filter
          fun e => decide (0 < e.left)
        vetoOut := without x.vetoOut i3
        plan := x.plan.map fun p => { p with next := (p.next + i7.length) % 2 }
        claims := if x.st = .claim then x.claims + 1 else x.claims
        claimEnd := if x.st = .claim ∧ x.claims = 1 then n + 1 else x.claimEnd }) s
      let s := kids.foldl (fun s k => updNbr k.1 (fun x => { x with echoedAt := n + 1 }) s) s
      let s := near.foldl (fun s k => updNbr k.1 (fun x => { x with listedAt := n + 1 }) s) s
      cvnSend (slotOf s.ownId n) (s.ownId % 4) ready (s.sealed f.1) s)

/-- URGENT_TX: the oldest urgent packet goes out on the common code (R456). -/
def execUrgentTx (ready : Bool) (s : State) : Host.Outcome State Fault Refusal :=
  .next (match s.cvn.urgent with
    | [] => s
    | (slot, f) :: rest =>
      let s := updCvn (fun x => { x with urgent := rest }) s
      if s.cvn.st ≠ .member ∨ s.stopped cvnUnit then s
      else cvnSend (slot % 512) 4 ready (s.sealed (s.cvnCore 2 ++ f.bytes)) s)

/-! ### Membership (R452, R453) -/

def MemberSt.code : MemberSt → Nat
  | .off => 0 | .listen => 1 | .claim => 2 | .member => 3 | .mute => 4

/-- Change the membership state with its event (Table 15-7). -/
def setMember (st : MemberSt) (s : State) : State :=
  let old := s.cvn.st
  if old = st then s
  else
    let s := updCvn (fun x => { x with
      st := st
      id := if st = .off ∨ st = .listen then none else x.id
      whole := if st = .off ∨ st = .listen then false else x.whole
      claims := 0
      urgent := if st = .member then x.urgent else []
      muteFrom := if st = .mute then s.cvnSf else x.muteFrom }) s
    raise Ev.cvnState 0 (detail [(0, 1, st.code), (1, 1, old.code)]) s

/-- IDs that the member may claim (R453). -/
def State.freeIds (s : State) : List Nat :=
  let n := s.cvnSf
  pick 2048 fun m => !((s.nbr m).used && decide (n ≤ (s.nbr m).lastSf + 16)) &&
    !(s.cvn.expelled.any fun e => decide (e.1 = m) && decide (n ≤ e.2 + 16))

/-- LISTEN ends: an ID is chosen (R453). -/
def chooseId (s : State) : State :=
  let fixed := s.parN Prm.cvnMemberId 0
  let heard := s.cvn.nbr.any fun e => e.2.used
  if s.par Prm.timeTb2Source 0 = 2 ∧ s.par Prm.cvnTimeRoot 0 = 0 ∧ !heard then s
  else if fixed ≠ 0xFFFF then
    if s.cvn.blocked then s else setMember .claim (updCvn (fun x => { x with id := some fixed }) s)
  else
    let ids := s.freeIds
    if ids.isEmpty then s
    else match drawRandom ids.length s with
      | (some k, s) => setMember .claim (updCvn (fun x => { x with id := ids[k]? }) s)
      | (none, s) => s

/-- A CONFLICT names an ID and a tag (R452, R453). Log entry 102 (DEDUCED). -/
def conflictHeard (c : CvnConflict) (s : State) : State :=
  if (s.cvn.st = .claim ∨ s.cvn.st = .member) ∧ s.cvn.id = some c.id ∧ (c.every ∨ c.tag = cvnTag) then
    let s := updCvn (fun x => { x with expelled := (x.expelled.filter fun e => e.1 != c.id) ++ [(c.id, s.cvnSf)] }) s
    let s := setMember .listen s
    if s.parN Prm.cvnMemberId 0 = c.id then
      raise Ev.cvnIdConflict c.id (detail [(0, 2, c.tag)]) (updCvn (fun x => { x with blocked := true }) s)
    else s
  else s

/-! ### Venue time (R454, R455) -/

/-- The member is a root. -/
def State.isRoot (s : State) : Bool :=
  (s.tbase 2).isSet && (decide (s.par Prm.timeTb2Source 0 = 1) || decide (s.par Prm.timeTb2Source 0 = 3) ||
    decide (s.par Prm.cvnTimeRoot 0 = 1))

/-- A neighbour that may be a parent. -/
def State.parentable (s : State) (x : CvnNbr) : Bool :=
  x.used && decide (x.hops < 15) && decide (s.cvnSf ≤ x.lastSf + 2) && decide (s.parN Prm.cvnTimeLqiMin 0 ≤ x.lqi) &&
    (x.trusted || decide (s.par Prm.cvnAuthRequired 0 = 0))

/-- The preferred one of the neighbours that qualify: lowest hops, highest LQI, lowest ID. -/
def bestParent : List (Nat × CvnNbr) → Option (Nat × CvnNbr)
  | [] => none
  | e :: t => match bestParent t with
    | none => some e
    | some b => if e.2.hops < b.2.hops ∨ (e.2.hops = b.2.hops ∧ b.2.lqi ≤ e.2.lqi) then some e else some b

/-- The member takes a parent, or has none; a change is reported. -/
def setParent (p : Option Nat) (hops : Nat) (s : State) : State :=
  let old := s.cvn.parent
  let s := updCvn (fun x => { x with parent := p, hops := hops }) s
  if old = p then s
  else
    let s := updCvn (fun x => { x with fresh := true, echo := none }) s
    let s := match p with
      | some k => raise Ev.cvnParent 0 (detail [(0, 2, k), (2, 1, hops)]) s
      | none => raise Ev.cvnParent 0 (detail [(0, 2, 0xFFFF), (2, 1, hops)]) s
    if p.isSome ∧ s.cvn.holdover then raise Ev.cvnHoldover 0 0 (updCvn (fun x => { x with holdover := false }) s) else s

/-- The parent is chosen anew (R454); a parent not heard for 4 superframes is given up for holdover (R455).
Log entry 102 (DEDUCED). -/
def chooseParent (s : State) : State :=
  if s.isRoot then setParent none 0 s
  else if s.par Prm.timeTb2Source 0 ≠ 2 then setParent none 15 s
  else
    let hopsOf := fun (x : CvnNbr) => if 14 < x.hops + 1 then 15 else x.hops + 1
    match bestParent (s.cvn.nbr.filter fun e => s.parentable e.2) with
    | some (k, x) => setParent (some k) (hopsOf x) s
    | none => match s.cvn.parent with
      | some k =>
        if s.cvnSf < (s.nbr k).lastSf + 4 then s
        else raise Ev.cvnHoldover 0 1 (updCvn (fun x => { x with holdover := true }) (setParent none 15 s))
      | none => setParent none 15 s

/-- A beacon of the parent gives d_down at a TB2 time (R455). Log entry 103 (DESIGN CHOICE). -/
def parentBeacon (k : Nat) (down : Int) (s : State) : State :=
  let n := s.cvnSf
  let two := match s.cvn.echo with
    | some (up, sf) => if 2 ≤ (s.nbr k).version ∧ n ≤ sf + 4 then some ((down - up) / 2) else none
    | none => none
  let theta := two.getD (down - s.par Prm.cvnDefaultPropNs 0)
  if s.par Prm.timeTb2Source 0 ≠ 2 then updCvn (fun x => { x with theta := theta }) s
  else if !(s.tbase 2).isSet then
    trackTsf (updCvn (fun x => { x with theta := 0, base := 0, fresh := true }) (stepTb 2 (-theta) s))
  else
    let t := s.tbNs 2
    let c := s.cvn
    let dt : Int := (t : Int) - c.thetaAt
    let drift : Int := if c.fresh ∨ dt ≤ 0 then 0 else (theta - c.theta) * 1000000000000000000 / dt
    let base := c.base - drift
    let lim := s.par Prm.cvnTimeMaxPpm 0 * 1000000
    let want := (base - theta * 244140625).tdiv 1000000
    let rate := max (-lim) (min lim want)
    let s := updCvn (fun x => { x with theta := theta, thetaAt := t, fresh := false, base := base }) s
    let s := trackTsf (updTb 2 (fun x => { x with rate := rate }) s)
    if 200000 < theta.natAbs then
      let s := raise Ev.cvnTimeFar 0 (twos 32 theta * 2 ^ 32) s
      if s.cvn.st = .member then setMember .mute s else s
    else if theta.natAbs ≤ 100000 ∧ s.cvn.st = .mute then setMember .member s
    else s

/-! ### Plans (R459) -/

/-- Candidate channels and bandwidth of a plan for a radio. -/
def planCands (p : List Byte) (r : Nat) : List Nat × Nat :=
  ((List.range (min 8 (fieldAt p (18 + 10 * r) 1))).map fun j => fieldAt p (20 + 10 * r + j) 1, fieldAt p (19 + 10 * r) 1)

/-- Every candidate channel of a plan is valid for its radio (R247). -/
def planChannelsOk (p : List Byte) : Bool := (List.range 3).all fun r =>
  !bit (fieldAt p 6 1) r || (decide (fieldAt p (18 + 10 * r) 1 ≤ 8) &&
    ((planCands p r).1.all fun ch => (channelPlan r ch (planCands p r).2).isSome))

/-- Fields of Table 15-9 hold values of their ranges. -/
def planFieldsOk (p : List Byte) : Bool :=
  decide (fieldAt p 0 2 ≠ 0) && decide (fieldAt p 7 1 ≤ 32) && decide (fieldAt p 16 2 = 0) &&
  (fieldAt p 10 2 == 0 || (decide (100 ≤ fieldAt p 10 2) && decide (1 ≤ fieldAt p 12 2) && decide (fieldAt p 12 2 < fieldAt p 10 2 * 1000)))

/-- Why the member would veto a whole plan that it first heard in superframe `since`: 1, 2 or 4; none where it would not. -/
def State.planFault (s : State) (p : List Byte) (since : Nat) : Option Nat :=
  let act := fieldAt p 2 4
  if s.par Prm.cvnPlanAccept 0 = 0 then some 1
  else if !planChannelsOk p then some 2
  else if since ≤ act ∧ act < since + 4 then some 4
  else none

/-- TABLE_COMMIT of CVN.plan passes (R459). -/
def planPageOk (s : State) : Bool :=
  let p := s.standbyEntry Tbl.cvnPlan 0 0
  planFieldsOk p && serialNewer 16 (fieldAt p 0 2) (fieldAt s.venuePlan 0 2) &&
    decide (s.cvnSf + s.parN Prm.cvnPlanLeadSf 0 ≤ fieldAt p 2 4) && (s.planFault p s.cvnSf).isNone

/-- The member holds its own host's plan, which it proposes to the venue. -/
def proposePlan (s : State) : State :=
  let p := s.standbyEntry Tbl.cvnPlan 0 0
  updCvn (fun x => { x with plan := some { number := fieldAt p 0 2, crc := crc32c p, since := s.cvnSf, whole := some p } }) s

/-- A plan is vetoed by a member: the proposing commit fails (R459). Log entry 102 (DEDUCED). -/
def planVetoed (m : Nat) (s : State) : State :=
  let act := match s.cvn.plan with | some { whole := some w, .. } => fieldAt w 2 4 | _ => 2 ^ 32
  match s.cvn.plan with
  | none => s
  | some h =>
    if h.vetoed.isSome ∨ act < s.cvnSf + 2 then s
    else
      let s := updCvn (fun x => { x with plan := some { h with vetoed := some m } }) s
      let s := raise Ev.cvnPlan 0 (detail [(0, 2, h.number), (2, 1, 3), (4, 2, m)]) s
      let st := s.tabState Tbl.cvnPlan.id 0
      if st.switching then
        finish? st.cid .conflict (le 2 m) (updTabState Tbl.cvnPlan.id 0 (fun t => { t with switching := false, cid := none }) s)
      else s

/-- The member vetoes a plan. -/
def vetoPlan (h : HeldPlan) (why : Nat) (s : State) : State :=
  let v : CvnVeto := { number := h.number, crc := h.crc, member := s.ownId, reason := why }
  let s := updCvn (fun x => { x with vetoOut := x.vetoOut ++ [v], vetoSeen := x.vetoSeen ++ [v],
                                     plan := x.plan.map fun p => { p with vetoed := some s.ownId } }) s
  raise Ev.cvnPlan 0 (detail [(0, 2, h.number), (2, 1, 3), (4, 2, s.ownId)]) s

/-- A PLAN fragment (R459). Log entry 101 (DEDUCED). -/
def planFragment (v : List Byte) (s : State) : State :=
  let number := beNat (v.take 2)
  let crc := beNat ((v.drop 2).take 4)
  let k := fieldAt v 6 1 / 16
  let count := fieldAt v 6 1 % 16
  if v.length < 7 ∨ number = 0 ∨ count = 0 ∨ count ≤ k ∨ !serialNewer 16 number (fieldAt s.venuePlan 0 2) then s
  else
    let held := s.cvn.plan
    match held.filter fun h => h.number == number with
    | some h =>
      if h.crc ≠ crc then (if h.vetoed.isSome then s else vetoPlan h 3 s)
      else if h.whole.isSome then s
      else
        let frags := h.frags.put k (v.drop 7)
        let whole := (List.range count).flatMap fun j => frags.get j
        let full := ((List.range count).all fun j => !(frags.get j).isEmpty) && decide (whole.length = 48) && decide (crc32c whole = crc)
        let h := { h with frags := frags, whole := if full then some whole else none }
        let s := updCvn (fun x => { x with plan := some h }) s
        if !full then s
        else
          let s := raise Ev.cvnPlan 0 (detail [(0, 2, number), (2, 1, 1)]) s
          match s.planFault whole h.since with
          | some why => if h.vetoed.isSome then s else vetoPlan h why s
          | none => s
    | none =>
      let newer := match held with | some h => serialNewer 16 number h.number | none => true
      if newer then updCvn (fun x => { x with plan := some { number := number, crc := crc, since := s.cvnSf, frags := Tab.put [] k (v.drop 7) } }) s
      else s

/-- A VETO is relayed once (R459). Log entry 102 (DEDUCED). -/
def vetoHeard (v : CvnVeto) (s : State) : State :=
  if s.cvn.vetoSeen.any fun w => w.number == v.number && w.crc == v.crc && w.member == v.member then s
  else
    let s := updCvn (fun x => { x with vetoSeen := x.vetoSeen ++ [v], vetoOut := x.vetoOut ++ [v] }) s
    match s.cvn.plan with
    | some h => if h.number = v.number ∧ h.crc = v.crc then planVetoed v.member s else s
    | none => s

/-- Index of the committed channel among a radio's candidates, plus 1. -/
def State.currentCand (s : State) (r : Nat) : Nat :=
  let (cs, bw) := planCands s.venuePlan r
  if (s.com Prm.wlanBw r).toNat ≠ bw then 0
  else match cs.findIdx? fun c => decide (c = (s.com Prm.wlanChannel r).toNat) with
    | some i => i + 1
    | none => 0

/-- Each member acts on an adopted plan: the TBTT grid of its radios (R460). -/
def applyPlan (s : State) : State :=
  let p := s.venuePlan
  (List.range 3).foldl (fun s r =>
    if !bit (fieldAt p 6 1) r then s
    else
      let s := updCvn (fun x => { x with cur := x.cur.put r (s.currentCand r), prop := x.prop.put r 0 }) s
      if s.par Prm.cvnPlanApply r = 1 ∧ fieldAt p 7 1 ≠ 0 then
        let off := s.ownId % fieldAt p 7 1 * fieldAt p 8 2
        finishCommits (commitValues 8 none none ((s.enabledSectors r).map fun k => (Prm.wlanTbttOffsetUs, k, (off : Int))) s)
      else s) s

/-- The held plan becomes the active page (R459). Log entry 102 (DEDUCED). -/
def adoptPlan (h : HeldPlan) (w : List Byte) (s : State) : State :=
  let s := updCvn (fun x => { x with plan := none }) s
  let s := setStandby Tbl.cvnPlan 0 0 w s
  let s := switchPage Tbl.cvnPlan.id 0 s.now s
  let s := copyStandby Tbl.cvnPlan.id 0 s
  applyPlan (raise Ev.cvnPlan 0 (detail [(0, 2, h.number), (2, 1, 2)]) s)

/-! ### Reception (R441 to R443, R450, R451) -/

/-- Two tags under one member ID within 16 superframes (R453). -/
def clash (m tag : Nat) (claim : Bool) (s : State) : State :=
  let x := s.nbr m
  if !x.used || x.tag = tag || decide (x.lastSf + 16 < s.cvnSf) then s
  else
    let yield_ := if claim then tag else if x.claim then x.tag else max tag x.tag
    let c : CvnConflict := { id := m, tag := yield_, every := false }
    updCvn (fun y => { y with conflicts := (y.conflicts.filter fun e => e.id != m) ++ [c] }) s

/-- The VERSION events that wait go out, at most 16 in a superframe (R451). -/
def sendVersions (s : State) : State :=
  let n := min (16 - s.cvn.versionsSent) s.cvn.versions.length
  let now := s.cvn.versions.take n
  let s := updCvn (fun x => { x with versions := x.versions.drop n, versionsSent := x.versionsSent + n }) s
  now.foldl (fun s v => reportVersion 2 v.1 v.2 0 s) s

/-- A version settles with a neighbour, or changes (R451). -/
def settleVersion (m v : Nat) (s : State) : State :=
  if (s.nbr m).used ∧ (s.nbr m).version = v then s
  else sendVersions (updCvn (fun x => { x with versions := (x.versions.filter fun e => e.1 != m) ++ [(m, v)] }) s)

/-- A FIBRE element: an alarm that this member has not seen is reported and relayed (R457). -/
def fibreHeard (f : Fibre) (s : State) : State :=
  let n := s.cvnSf
  let seen := s.cvn.fibreSeen.filter fun e => decide (n ≤ e.2.2 + 64)
  if seen.any (fun e => decide (e.1 = f.origin) && decide (e.2.1 = f.seq)) || s.cvn.id == some f.origin then s
  else
    let s := updCvn (fun x => { x with
      fibreSeen := seen ++ [(f.origin, f.seq, n)]
      fibreOut := if 0 < f.hops then x.fibreOut ++ [{ f with hops := f.hops - 1 }] else x.fibreOut }) s
    raise Ev.cvnFibreAlarm f.origin (detail [(0, 1, b2n f.lost), (1, 1, f.hops), (2, 2, f.seq)]) s

/-- One element of a packet from member `m` (Table 15-6); `full` says that every element may be used (R450). -/
def takeElement (m v : Nat) (full : Bool) (late : Int) (e : Nat × List Byte) (s : State) : State :=
  let x := beNat e.2
  match e.1 with
  | 2 =>
    if v < 2 ∨ e.2.length ≠ 2 then s
    else updNbr m (fun y => { y with dUp := if s.cvn.id = some (x / 32) then some late else none }) s
  | 3 =>
    if v < 2 ∨ !full ∨ s.cvn.parent ≠ some m then s
    else (chunksOf 5 8 e.2).foldl (fun s b =>
      let k := beNat b
      if s.cvn.id = some (k / 2 ^ 29) then updCvn (fun y => { y with echo := some (signed 29 k, s.cvnSf) }) s else s) s
  | 4 =>
    if v < 2 ∨ e.2.length ≠ 4 then s
    else updNbr m (fun y => { y with stations := bits x 31 20, air := bits x 19 12, backhaul := bits x 11 4 }) s
  | 5 =>
    if !full ∨ e.2.length ≠ 3 then s
    else fibreHeard { origin := bits x 23 13, lost := bit x 12, hops := bits x 11 9, seq := bits x 8 0 } s
  | 6 => if e.2.length ≠ 4 then s else conflictHeard { id := bits x 31 21, tag := bits x 20 5, every := bit x 4 } s
  | 7 => if v < 2 ∨ !full then s else planFragment e.2 s
  | 8 =>
    if v < 2 ∨ !full ∨ e.2.length ≠ 8 then s
    else vetoHeard { number := bits x 63 48, crc := bits x 47 16, member := bits x 15 5, reason := bits x 4 0 } s
  | 9 =>
    if v < 2 ∨ !full ∨ e.2.length ≠ 3 then s
    else
      let nib := fun (r hi : Nat) => (bits x (23 - 8 * r - (if hi = 1 then 0 else 4)) (20 - 8 * r - (if hi = 1 then 0 else 4)) + 1) % 16
      updNbr m (fun y => { y with
        cur := (List.range 3).foldl (fun t r => t.put r (nib r 1)) []
        prop := (List.range 3).foldl (fun t r => t.put r (nib r 0)) [] }) s
  | _ => s

/-- The fabric processes a delivered packet (R447 to R457). Log entries 50 (DESIGN CHOICE), 101 (DEDUCED). -/
def fabricRx (p : CaravanRx) (s : State) : State :=
  let core := beNat (p.payload.take 12)
  let type := bits core 93 92
  if p.payload.length < 12 ∨ bits core 80 65 ≠ s.parN Prm.cvnVenueId 0 ∨ type = 0 ∨ type = 3 ∨ bits core 95 94 = 0 then s
  else
    let els := elements 128 (p.payload.drop 12)
    let m := bits core 91 81
    let sf := bits core 48 17
    let near := decide (((sf : Int) - s.cvnSf).natAbs ≤ 1)
    let mic := match els.getLast? with | some (15, b) => some b | _ => none
    let good := match mic, s.cvnKey with
      | some b, some k => near && decide (b = cvnMic k (p.payload.take (p.payload.length - 6)))
      | _, _ => false
    let bad := match mic, s.cvnKey with
      | some _, some _ => near && !good
      | _, _ => false
    if bad then warnOnce Prm.cvnMicFail 0 Ev.cvnMicFail 0 (detail [(0, 2, m)]) (bump Prm.cvnMicFail 0 s)
    else
      let tag := bits core 64 49
      let claim := bit core 12
      let full := good || decide (s.par Prm.cvnAuthRequired 0 = 0)
      let v := min (s.parN Prm.cvnMaxVersion 0) (bits core 95 94)
      let s := settleVersion m v (clash m tag claim s)
      let s := updNbr m (fun x => { x with
        used := true, version := v, trusted := good, fibreOk := bit core 11, lqi := p.lqi
        level := p.level - s.par Prm.cvnXcvrRxGainDb 0, hops := bits core 16 13, lastSf := sf, tag := tag, claim := claim }) s
      let slot := if type = 1 then slotOf m sf else (p.at_ - sf * sfNs) / 8000000
      let late : Int := (p.at_ : Int) - s.par Prm.cvnXcvrRxLatNs 0 - syncEnd sf slot p.rate
      let s := els.foldl (fun s e => takeElement m v full late e s) s
      let s := chooseParent s
      if type = 1 ∧ s.cvn.parent = some m then parentBeacon m late s else s

/-- CARAVAN_PACKET_RX: a code channel receives a packet (R441, R442). -/
def execCaravanPacketRx (p : CaravanRx) (s : State) : Host.Outcome State Fault Refusal :=
  .next (
    if s.cvn.st = .off ∨ s.stopped cvnUnit then s
    else
      let s := match p.above with
        | some db => if s.par Prm.cvnRestartDb 0 ≠ 0 ∧ s.par Prm.cvnRestartDb 0 ≤ db then
            raise Ev.cvnCaptured 0 (detail [(0, 1, p.code), (1, 1, db)]) (bump Prm.cvnCapturedOver 0 s) else s
        | none => s
      if !p.headerOk then bump Prm.cvnRxHdrErr 0 s
      else if !p.crcOk then bump Prm.cvnRxCrcErr 0 s
      else if p.full then fifoSlip Prm.cvnRxDrop Ev.fifoCvnRxDrop 0 1 s
      else fabricRx p (bump Prm.cvnRxPackets 0 s))

/-! ### Superframes (R443, R446, R452) -/

/-- SUPERFRAME_START: a superframe begins. -/
def execSuperframeStart (s : State) : Host.Outcome State Fault Refusal :=
  .next (
    let n := s.cvnSf
    if s.cvn.st = .off ∨ n = s.cvn.sf then s
    else
      let (x, s) := drawBelow 65536 s
      let c := s.cvn
      let use := if c.granted = 0 then 0 else min 100 (c.carried * 100 / c.granted)
      let s := updCvn (fun y => { y with sf := n, noise := signed 16 x, versionsSent := 0, backhaul := use, carried := 0, granted := 0 }) s
      let s := sendVersions s
      let s := updCvn (fun y => { y with nbr := y.nbr.filter fun e => decide (n ≤ e.2.lastSf + 16) }) s
      let s := chooseParent s
      let s := match s.cvn.st with
        | .listen =>
          if s.cvn.whole then chooseId s else updCvn (fun y => { y with whole := (s.tbase 2).isSet }) s
        | .claim => if 2 ≤ s.cvn.claims ∧ s.cvn.claimEnd < n then setMember .member s else s
        | .mute => if s.cvn.muteFrom + 16 ≤ n then setMember .listen s else s
        | _ => s
      match s.cvn.plan with
      | some h => match h.whole with
        | some w => if h.vetoed.isNone ∧ fieldAt w 2 4 ≤ n then adoptPlan h w s
          else if h.vetoed.isSome ∧ fieldAt w 2 4 ≤ n then updCvn (fun y => { y with plan := none }) s
          else s
        | none => s
      | none => s)

/-! ### Fibre alarms (R456) -/

/-- Draw `k` different members of a list. Log entry 4 (DESIGN CHOICE). -/
def drawSome : Nat → List Nat → State → List Nat × State
  | 0, _, s => ([], s)
  | k + 1, l, s =>
    if l.isEmpty then ([], s)
    else match drawRandom l.length s with
      | (none, s) => ([], s)
      | (some i, s) =>
        let r := drawSome k (l.eraseIdx i) s
        ((l[i]?).toList ++ r.1, r.2)

/-- FIBRE_HOLD_EXPIRY: the PON terminal has kept to O5.1, or out of it, for fibre_hold_ms (R456). -/
def execFibreHoldExpiry (s : State) : Host.Outcome State Fault Refusal :=
  .next (
    let up := s.pon.st == .o51
    if s.cvn.st = .off ∨ up = s.cvn.fibreOk then s
    else
      let f : Fibre := { origin := s.ownId, lost := !up, hops := s.parN Prm.cvnFibreTtl 0, seq := (s.cvn.fibreSeq + 1) % 512 }
      let s := updCvn (fun x => { x with fibreOk := up, fibreSeq := f.seq }) s
      if s.cvn.st ≠ .member then s
      else
        let first := s.cvnSlot + 1
        let own := fun (j : Nat) => decide (j % 512 = slotOf s.ownId (j / 512))
        let (slots, s) := drawSome 3 (((List.range 8).map (first + ·)).filter fun j => !own j) s
        updCvn (fun x => { x with fibreOut := x.fibreOut ++ [f],
                                  urgent := x.urgent ++ ((slots.mergeSort fun a b => decide (a ≤ b)).map fun j => (j, f)) }) s)

/-! ### Channels (R460) -/

/-- 10^(q/40), the power of a level in 0.25 dBm, to twelve digits and in units of 10⁻³⁶ mW. Log entry 104 (DESIGN CHOICE). -/
def levelPower (q : Int) : Nat :=
  let digits := [1000000000000, 1059253725177, 1122018454302, 1188502227437, 1258925411794, 1333521432163, 1412537544623,
   1496235656094, 1584893192461, 1678804018123, 1778279410039, 1883649089490, 1995262314969, 2113489039837,
   2238721138568, 2371373705662, 2511886431510, 2660725059799, 2818382931264, 2985382618918, 3162277660168,
   3349654391578, 3548133892336, 3758374042884, 3981071705535, 4216965034286, 4466835921510, 4731512589615,
   5011872336273, 5308844442310, 5623413251903, 5956621435290, 6309573444802, 6683439175686, 7079457843841,
   7498942093325, 7943282347243, 8413951416452, 8912509381337, 9440608762859]
  let e := (q / 40 + 24).toNat
  digits.getD (q % 40).toNat 0 * 10 ^ e

/-- CHANNEL_ROUND: at a round start the member switches, or proposes a channel, for each radio that the plan governs. -/
def execChannelRound (s : State) : Host.Outcome State Fault Refusal :=
  .next (
    let p := s.venuePlan
    let n := s.cvnSf
    if s.cvn.st ≠ .member ∨ fieldAt p 0 2 = 0 then s
    else (pick 3 fun r => bit (fieldAt p 6 1) r).foldl (fun s r =>
      let near := s.cvn.nbr.filter fun e => e.2.used && decide (2 ≤ e.2.version) && decide (n ≤ e.2.lastSf + 4) &&
        decide (s.par Prm.cvnPlanRssiDbm 0 * 4 ≤ e.2.level)
      let (cands, bw) := planCands p r
      let cost := fun (k : Nat) => ((near.filter fun e => decide (e.2.cur.get r = k + 1)).map fun e => levelPower e.2.level).sum
      let apply := decide (s.par Prm.cvnPlanApply r = 1)
      let cur := if apply then s.currentCand r else s.cvn.cur.get r
      let own := s.cvn.prop.get r
      let s := updCvn (fun x => { x with cur := x.cur.put r cur }) s
      if own ≠ 0 then
        let s := updCvn (fun x => { x with cur := x.cur.put r own, prop := x.prop.put r 0 }) s
        let s := raise Ev.cvnChannel r (detail [(0, 1, candNibble cur), (1, 1, own - 1), (2, 1, b2n apply)]) s
        if apply then
          startSwitch r (finishCommits (commitValues 8 none none
            [(Prm.wlanChannel, r, (cands.getD (own - 1) 1 : Nat)), (Prm.wlanBw, r, (bw : Nat))] s))
        else s
      else if near.any fun e => decide (e.1 < s.ownId) && decide (e.2.prop.get r ≠ 0) then s
      else
        match (List.range cands.length).foldl (fun (b : Option Nat) k => match b with
            | none => some k
            | some j => if cost k < cost j then some k else some j) none with
        | none => s
        | some best =>
          let better := if cur = 0 then true else decide (2 * cost best < cost (cur - 1))
          if better then updCvn (fun x => { x with prop := x.prop.put r (best + 1) }) s else s) s)

/-! ### Commits -/

/-- The modem takes committed values (R437, R452, R453). -/
def takeCvn (s : State) : State :=
  let (ks, s) := unitTakes 0x14 0 s
  let ch := changedAt ks 0
  let on := decide (s.par Prm.cvnEnable 0 = 1) && decide (s.par Prm.cvnRegion 0 ≠ 0xFF)
  let s := if ch Prm.cvnMemberId then updCvn (fun x => { x with blocked := false }) s else s
  let started := on && s.cvn.st == .off
  let s := if !on then (if s.cvn.st = .off then s else runScript 4 0 (setMember .off s))
    else if started then setMember .listen (runScript 0 0 s) else s
  let s := if on then match cvnRegion (s.parN Prm.cvnRegion 0) with
      | some (cs, _, _) =>
        let s := if started || ch Prm.cvnChannel || ch Prm.cvnRegion then runScript 1 (cs.getD (s.parN Prm.cvnChannel 0) 0 : Nat) s else s
        let s := if started || ch Prm.cvnTxPowerDbm then runScript 5 (s.par Prm.cvnTxPowerDbm 0 % 256) s else s
        if started then runScript 2 0 s else s
      | none => s
    else s
  finishCommits s

/-- Entry m of CVN.neighbours (Table 15-8). -/
def State.neighbourEntry (s : State) (m : Nat) : List Byte :=
  let x := s.nbr m
  if !x.used ∨ x.lastSf + 16 < s.cvnSf then le 16 (15 * 2 ^ 40)
  else le 16 (m + 2 ^ 11 + x.version * 2 ^ 12 + b2n x.trusted * 2 ^ 14 + b2n x.fibreOk * 2 ^ 15 + x.lqi * 2 ^ 16 +
    twos 16 x.level * 2 ^ 24 + x.hops * 2 ^ 40 + x.stations * 2 ^ 48 + x.air * 2 ^ 60 + x.backhaul * 2 ^ 68 + x.lastSf * 2 ^ 96)

end Sys2Proof.Machine
end

