-- ==== Sys2Proof/Machine/Egress.lean ====
section
/-!
DEFINITION. Dequeue decisions and where their packets go: the MACs, the host's receive rings, the edge store and the
management complex (R366, R367, R371, R393, R394, R403).
-/
namespace Sys2Proof.Machine

/-- Receive ring of a queue of scheduler 71 (Table 12-1, R366). -/
def State.ringOfQueue (s : State) (q : Nat) : Nat := if q < 16944 then q - 16928 else s.parN Prm.tollHostRing q

/-- Posted receive descriptors of a ring from its consumer index on: bus address and size. -/
def ringView (rx : List (Nat × List (Nat × Nat))) (n : Nat) : List (Nat × Nat) :=
  match rx.find? fun r => r.1 == n with
  | some r => r.2
  | none => []

/-- Receive descriptors that a packet of `len` bytes fills, in ring order: address, bytes (R394); `none` where they cannot
hold it. -/
def fillDescs : List (Nat × Nat) → Nat → Option (List (Nat × Nat))
  | _, 0 => some []
  | [], _ => none
  | (a, k) :: t, len => (fillDescs t (len - min k len)).map fun r => (a, min k len) :: r

/-- The ring of a queue's head packet has descriptors for all of it (R394). Log entry 58 (DEDUCED). -/
def State.ringReady (s : State) (rx : List (Nat × List (Nat × Nat))) (q : Nat) : Bool :=
  let n := s.ringOfQueue q
  s.ringOn n && match (s.tq q).pkts with
    | [] => false
    | p :: _ => (fillDescs ((ringView rx n).take (s.posted n)) (s.wb p.handle).length).isSome

/-- The written-back form of a receive descriptor (Table 13-6). -/
def rxDescriptor (w : Waybill) (q len : Nat) (sop eop : Bool) : Nat :=
  len + b2n sop * 2 ^ 16 + b2n eop * 2 ^ 17 + b2n (decide (16944 ≤ q) && decide (q ≤ 16952)) * 2 ^ 18 + w.srcType * 2 ^ 20 +
    w.srcInst * 2 ^ 24 + w.l3Csum * 2 ^ 35 + w.l4Csum * 2 ^ 37 + w.tid * 2 ^ 39 + q * 2 ^ 42 + w.mark * 2 ^ 80 +
    w.hash * 2 ^ 96 + w.ts % 2 ^ 64 * 2 ^ 128 + 2 ^ 255

/-- Write a packet into its ring and release it (R393, R394, R397). -/
def deliverRing (h q : Nat) (rx : List (Nat × List (Nat × Nat))) (s : State) : State :=
  let n := s.ringOfQueue q
  let w := s.wb h
  match fillDescs ((ringView rx n).take (s.posted n)) w.length with
  | none => free h s
  | some ds =>
    let s := (ds.zipIdx).foldl (fun (x : Nat × State) d =>
      let (a, k) := d.1
      let i := d.2
      let s := hostWrite a (bytesAt w.data x.1 k) x.2
      let s := hostWrite (s.descAddr n ((s.ring n).cons + i))
        (le 32 (rxDescriptor w q k (decide (i = 0)) (decide (i + 1 = ds.length)))) s
      (x.1 + k, s)) (0, s) |>.2
    let s := updRing n (fun r => { r with cons := (r.cons + ds.length) % 65536 }) s
    sendOff h 0 0 (countWriteback n s)

/-- A packet of an ingest queue is appended to the object to which its mark is bound (R403). Log entry 80 (DEDUCED). -/
def ingest (d h : Nat) (s : State) : State :=
  let w := s.wb h
  let bound := s.dma.bind.find? fun b => b.mark == w.mark && (match s.obj? b.key with | some o => o.drive == d | none => false)
  match bound with
  | none => sendOff h 0 0 (bump Prm.storeIngestUnbound 0 s)
  | some b =>
    let data := if b.payload then w.data.drop (w.l4Off + 8) else w.data
    match s.obj? b.key with
    | none => sendOff h 0 0 s
    | some o =>
      if o.max < o.data.length + s.writing o.key + data.length then sendOff h 0 0 (bump Prm.storeIngestDrop 0 s)
      else sendOff h 0 0 (bumpBy Prm.storeWriteBytes d data.length (updObj b.key (fun o => { o with data := o.data ++ data }) s))

/-- The egress of a scheduler can accept a packet (Table 12-2). -/
def State.egressOpen (s : State) (e : Nat) : Bool :=
  if e < 3 then true
  else if e < 67 then decide (0 < s.ponWants (e - 3)) || (decide (e = 3) && s.pon.st != .o51)
  else if e < 71 then decide (s.par Prm.ethEnable (e - 67) = 1) && decide (s.ethLink (e - 67) = 1) && (s.sched e).out.isEmpty
  else if e = 72 ∨ e = 73 then s.driveReady (e - 72)
  else decide (e ≤ 74)

/-- Queues that a scheduler serves besides what the list says: rings need descriptors, and outside O5.1 only OMCI leaves a
T-CONT scheduler (R317, R394). Log entry 58 (DEDUCED). -/
def State.egressReady (s : State) (e : Nat) (rx : List (Nat × List (Nat × Nat))) (q : Nat) : Bool :=
  if e = 71 then s.ringReady rx q else if e = 3 ∧ s.ponWants 0 = 0 then decide (q = 16960) else true

/-- The decision of scheduler e: within a restricted service period its members' listed queues go first (R232).
Log entry 58 (DEDUCED). -/
def decideEgress (e : Nat) (rx : List (Nat × List (Nat × Nat))) (s : State) : Option (Nat × QPkt) × State :=
  match if e < 3 ∧ (s.wradio e).sp.isSome then dequeueFrom e (s.spQueue e) s else (none, s) with
  | (some x, s') => (some x, s')
  | (none, _) => dequeueFrom e (s.egressReady e rx) s

/-- DEQUEUE_DECISION: scheduler e makes one decision (R371); `rx` gives the posted descriptors of the receive rings. -/
def execDequeueDecision (e : Nat) (rx : List (Nat × List (Nat × Nat))) (s : State) : Host.Outcome State Fault Refusal :=
  .next (
    if !s.egressOpen e || s.stopped packetPath then s
    else
      match decideEgress e rx s with
      | (none, s) => s
      | (some (q, p), s) =>
        if 3 ≤ e ∧ e < 67 then fetchUpstream (e - 3) p.handle q s
        else if e = 71 then deliverRing p.handle q rx s
        else if e = 72 ∨ e = 73 then ingest (e - 72) p.handle s
        else if e = 74 then
          sendOff p.handle 0 0 { s with pkt := { s.pkt with mgmtRx := s.pkt.mgmtRx ++ [(s.wb p.handle).data] } }
        else updSched e (fun x => { x with out := x.out ++ [(p.handle, q)] }) s)

end Sys2Proof.Machine
end

