-- ==== Sys2Proof/Machine/Heads.lean ====
section
/-!
DEFINITION. HEAD_RF_CAPS (R157) and the transmit side of the links (R124, R128, R129, R133, R137, R153, R155).
-/
namespace Sys2Proof.Machine

/-- HEAD_RF_CAPS arrives: it is accepted, or the head is incompatible (R157). -/
def execHeadRfCaps (l seq : Nat) (c : HeadCaps) (s : State) : Host.Outcome State Fault Refusal :=
  .next (ccReceive l 0x15 seq 0 (fun s =>
    let fault := (s.linkRadios l).findSome? fun r => capsFault c (s.parN Prm.achTrLeadNs r) (s.centreKhz r)
    let s := updLink l (fun k => { k with caps := some c, capsOk := fault.isNone }) s
    match fault with
    | some why => raise Ev.achHeadIncompat l (detail [(0, 1, why)]) s
    | none => s) s)

/-- The shared frame counter steps to the next frame (R128, R136). Log entry 35 (DESIGN CHOICE). -/
def LinkTx.advance (t : LinkTx) : LinkTx :=
  let f := (t.f + 1) % 1000
  if f = 0 then { f := 0, mf := (t.mf + 1) % 2 ^ 24, secMark := false, marked := t.secMark } else { t with f := f }

/-- The device mutes the transmitter of slot `t`: no channel that is neither OFF, ABSENT nor in FAULT is mapped to it
(Table 5-4). Log entry 36 (DEDUCED). -/
def State.txAlarm (s : State) (l t : Nat) : Bool :=
  match s.achAt l t with
  | none => true
  | some c => match (s.ach c).st with | .calibrating | .active => false | _ => true

/-- Up to 8 bytes of the first message that a link has still to send, whether it starts there, and what is left
(R137). -/
def takeCc : List (Bool × List Byte) → Option (Bool × List Byte) × List (Bool × List Byte)
  | [] => (none, [])
  | (start, b) :: t =>
    let rest := b.drop 8
    (some (start, b.take 8), if rest.isEmpty then t else (false, rest) :: t)

/-- Control word of the frame that link `l` sends now (Table 5-4). -/
def State.ctlWord (s : State) (l offset : Nat) : CtlWord :=
  let k := s.link l
  let tx := s.radio.tx
  let cc := (takeCc k.ccBuf).1
  let w : CtlWord := { verMax := s.parN Prm.linkMaxVersion l, fnum := tx.f, offset := offset,
                       secMark := decide (tx.f = 0) && tx.marked, rdi := k.st != .sync, mf := tx.mf }
  let w := match k.layout with
    | none => w
    | some y => { w with
        verActive := y.version, spare := y.spare, fmt := y.fmt, srate := y.srate, layout := true
        slotAlarm := (pick (slotsOf y.spare) (s.txAlarm l)).foldl (fun a t => a + 2 ^ t) 0 }
  match cc with
  | none => w
  | some (start, b) => { w with ccValid := true, ccStart := start, ccLen := b.length - 1,
                                ccData := leNat (b ++ List.replicate (8 - b.length) 0).reverse }

/-- An absent transmit block (R154). Log entry 36 (DEDUCED). -/
def absentBlock : Nat × List Int := (15, [])

/-- Channels that transmit: ACTIVE ones, and a CALIBRATING one in its turn (Table 6-5). Log entry 36 (DEDUCED). -/
def State.transmits (s : State) (c : Nat) : Bool :=
  match (s.ach c).st with
  | .active => true
  | .calibrating => (s.cal (radioOfAch c)).turn == some c
  | _ => false

/-- Blocks of channel `c` in the frame, encoded with W bits: what the transmit pipeline gives, and absent blocks elsewhere;
`lost` holds the blocks lost to an underrun. The second result counts saturated components. Log entry 35 (DESIGN CHOICE). -/
def encodeTx (W n : Nat) (lost : List Nat) (blocks : List (List Int)) : List (Nat × List Int) × Nat :=
  (List.range n).foldl (fun acc b =>
    match if lost.contains b then none else blocks[b]? with
    | none => (acc.1 ++ [absentBlock], acc.2)
    | some v => let e := bfpEncode W v
                (acc.1 ++ [(e.1, e.2.1)], acc.2 + e.2.2)) ([], 0)

/-- One link sends its frame: `blocks` lists the blocks that the transmit pipeline gives for channels, and `lost` the items
b × S + s lost to a transmit FIFO underrun (R133). Log entry 35 (DESIGN CHOICE). -/
def sendLinkFrame (l offset : Nat) (blocks : List (Nat × List (List Int))) (lost : List Nat) (s : State) : State :=
  if s.parN Prm.linkEnable l = 0 then s
  else
    let w := (s.ctlWord l offset).encode
    let lay := (s.link l).layout
    let s := updLink l (fun k => { k with txWord := w, ccBuf := (takeCc k.ccBuf).2 }) s
    match lay with
    | none => s
    | some y =>
      let S := slotsOf y.spare
      let n := blocksIn (srateMsps y.srate) s.radio.tx.f
      let lost := lost.filter fun i => decide (i < n * S)
      let s := if lost.isEmpty then s else fifoSlip Prm.linkTxUnderrun Ev.fifoLinkTxUnderrun l lost.length s
      (List.range S).foldl (fun s t =>
        match s.achAt l t with
        | none => s
        | some c =>
          let given := if s.transmits c then ((blocks.find? fun x => x.1 == c).map (·.2)).getD [] else []
          let gone := (lost.filter fun i => decide (i % S = t)).map (· / S)
          let r := encodeTx (if y.fmt = 0 then 10 else 12) n gone given
          bumpBy Prm.achSatSamples c r.2 (updAch c (fun a => { a with tx := r.1 }) s)) s

/-- The device starts a frame of every link at its tick: `offsets` gives the line bits from each link's tick to its sync
word, and `lost` names items by link (R126, R128). Log entry 35 (DESIGN CHOICE). -/
def execLinkFrameTx (offsets : List Nat) (blocks : List (Nat × List (List Int))) (lost : List (Nat × Nat)) (s : State) :
    Host.Outcome State Fault Refusal :=
  .next (
    let s := { s with radio := { s.radio with tx := s.radio.tx.advance } }
    (List.range 16).foldl (fun s l =>
      sendLinkFrame l (offsets.getD l 0) blocks ((lost.filter fun x => x.1 == l).map (·.2)) s) s)

end Sys2Proof.Machine
end

