-- ==== Sys2Proof/Machine/RoView.lean ====
section
/-!
DEFINITION. What a read of a read-only parameter, or of an immediate one that holds no value of its own, returns: the live
state behind it (the Meaning columns of the parameter tables).
-/
namespace Sys2Proof.Machine

/-- A parameter and the live value of an instance. -/
abbrev RoView := ParamDef × (State → Nat → Int)

/-- A view whose value is a natural number. -/
def RoView.nat (p : ParamDef) (f : State → Nat → Nat) : RoView := (p, fun s i => (f s i : Int))

/-- The session version as HOST.mbx_version holds it (Table 2-22). -/
def State.mbxVersion (s : State) : Nat := s.version.1 * 256 + s.version.2

/-- The die's lifecycle, revocation and grade come from OTP. -/
def State.grade (_ : State) : Nat := Config.otpGrade % 2

/-- DEV, HOST and CFG. -/
def roHost : List RoView := [
  .nat Prm.devSiliconRev fun _ _ => 0xB0,
  .nat Prm.devGrade fun s _ => s.grade,
  .nat Prm.devDieId fun _ _ => Config.otpDieId % 2 ^ 64,
  .nat Prm.devDdrBytes fun s _ => s.boot.ddrBytes,
  .nat Prm.devDdrRate fun s _ => s.boot.ddrRate,
  .nat Prm.devGpioIn fun s g => b2n (s.gpio.get g).level,
  .nat Prm.devStrap fun s _ => s.boot.source,
  .nat Prm.hostMbxVersion fun s _ => s.mbxVersion,
  .nat Prm.hostEpoch fun s _ => s.mbx.epoch,
  .nat Prm.hostLinkSpeed fun s _ => s.host.speed,
  .nat Prm.hostLinkWidth fun s _ => s.host.width,
  .nat Prm.cfgStagingUsed fun s _ => s.cfg.staging.length,
  .nat Prm.cfgPatternSeq fun s _ => s.cfg.patSeq,
  .nat Prm.cfgPatternHmacRequired fun _ _ => Config.otpPatternHmac % 2]

/-- State of a link as Table 5-5 codes it. -/
def SyncSt.code : SyncSt → Nat
  | .hunt => 0 | .presync => 1 | .sync => 2

/-- LANE, LINK and ACH. -/
def roRadio : List RoView := [
  .nat Prm.laneState fun s n => (s.lane n).st.code,
  .nat Prm.laneTxLane fun s l => (s.lane l).txLane.getD l,
  .nat Prm.lanePolarity fun s n => (s.lane n).polarity,
  .nat Prm.linkVersion fun s l => (s.link l).version,
  .nat Prm.linkSyncState fun s l => (s.link l).st.code,
  .nat Prm.linkDefects fun s l => (s.link l).defects,
  .nat Prm.linkSecErrored fun s l => (s.link l).sec.errored,
  .nat Prm.linkSecCrcErr fun s l => (s.link l).sec.crcErr,
  .nat Prm.linkSecSyncMiss fun s l => (s.link l).sec.syncMiss,
  .nat Prm.linkSecAbsent fun s l => (s.link l).sec.absent,
  .nat Prm.linkSecUnavail fun s l => (s.link l).sec.unavail,
  .nat Prm.linkHeadVerMax fun s l => ((s.link l).headId.map (·.verMax)).getD 0,
  .nat Prm.linkHeadTurnaroundNs fun s l => ((s.link l).headId.map (·.turnaround)).getD 0,
  .nat Prm.linkCmapPage fun s _ => (s.tabState Tbl.linkCmap.id 0).page,
  .nat Prm.achState fun s c => (s.ach c).st.code,
  .nat Prm.achRecalNeeded fun s c => b2n !(s.ach c).calibrated,
  (Prm.achRxGainApplied, fun s c => (s.ach c).gainNow),
  .nat Prm.achCalAgeMs fun s c => match (s.ach c).calAt with | none => 0 | some t => (s.now - t) / 1000000 % 2 ^ 32,
  (Prm.achRssi, fun s c => (s.ach c).rssi),
  (Prm.achNoiseFloor, fun s c => (s.ach c).noise),
  .nat Prm.achRxLatencyNs fun s c => match s.source c with
    | none => 0
    | some (l, _) => match (s.link l).layout with
      | none => 0
      | some y => Config.rxLatencyNs y.srate % 65536,
  .nat Prm.achFeedState fun s h => (s.feed h).st.code,
  .nat Prm.achFeedCurrentMa fun s h => (s.feed h).currentMa,
  (Prm.achFeedVoltageMv, fun s h => (s.feed h).voltageMv)]

/-- Station entries with a link in a sector (Table 8-6). -/
def State.stationsIn (s : State) (k : Nat) : Nat :=
  let r := radioOfSector k
  ((List.range 2048).filter fun i => let v := s.sta i; staValid v && staLink v r && decide (staSector v r = k)).length

/-- LADLE.state (Table 9-19). -/
def State.ladleState (s : State) (e : Nat) : Nat :=
  let r := s.runner e
  if s.par Prm.ladleEnable e = 0 then 0
  else if r.held then 5
  else if s.recastHolds ⟨0, 0x0A, e⟩ then 4
  else if (s.eng e).sleep ≠ .awake then 3
  else if r.fetch.isSome then 1
  else 2

/-- Words of a mask with the bits that satisfy a test. -/
def maskOf (n : Nat) (p : Nat → Bool) : Nat := (pick n p).foldl (fun m i => setBit m i true) 0

/-- BEAM, WLAN, STA, LADLE and TASK. -/
def roBeam : List RoView := [
  .nat Prm.beamStreamCap fun s r => s.streamCap r,
  .nat Prm.beamActiveSet fun s r => ((s.beamOf r).active.map (·.id)).getD 0,
  .nat Prm.beamActiveBasis fun s r => ((s.beamOf r).active.map (·.basis)).getD 0,
  .nat Prm.beamWeightAgeUs fun s r => (s.beamOf r).ageUs,
  .nat Prm.wlanStations fun s k => s.stationsIn k,
  .nat Prm.staState fun s k => s.staState k,
  (Prm.staRssi, fun s k => (s.staSt k).rssi),
  .nat Prm.ladleState fun s e => s.ladleState e,
  .nat Prm.ladleSlots fun s e => maskOf 64 fun k => bit (s.kernel k).engines e,
  .nat Prm.ladleSlotAbi fun s k => (s.kernel k).abi,
  .nat Prm.ladleSlotEngines fun s k => (s.kernel k).engines,
  .nat Prm.taskQueueFill fun s q => (s.jobq q).jobs.length,
  (Prm.taskGroupCredit, fun s g => s.creditOf g)]

/-- Code of a downstream sync state (Table 10-4). -/
def PonSync.code : PonSync → Nat
  | .hunt => 0 | .presync => 1 | .sync => 2 | .resync => 3

/-- Reading i of the optics diagnostics as a 16-bit pattern: 0x8000 where there is none (R323). -/
def State.ddm (s : State) (i : Nat) : Nat := (s.pon.ddm.vals.get i).getD 0x8000

/-- PON. -/
def roPon : List RoView := [
  .nat Prm.ponState fun s _ => s.pon.st.code,
  .nat Prm.ponSyncState fun s _ => s.pon.sync.code,
  .nat Prm.ponOnuId fun s _ => s.pon.onuId,
  .nat Prm.ponEqdNs fun s _ => s.pon.eqd,
  .nat Prm.ponDefects fun s _ => s.pon.defects,
  (Prm.ponDdmTemp, fun s _ => signed 16 (s.ddm 0)),
  .nat Prm.ponDdmVcc fun s _ => s.ddm 1,
  .nat Prm.ponDdmBias fun s _ => s.ddm 2,
  .nat Prm.ponDdmTxPower fun s _ => s.ddm 3,
  .nat Prm.ponDdmRxPower fun s _ => s.ddm 4,
  .nat Prm.ponSecRxBits fun s _ => s.pon.sec.rxBits,
  .nat Prm.ponSecFecCorrBits fun s _ => s.pon.sec.corrBits,
  .nat Prm.ponSecFecUncorrCw fun s _ => s.pon.sec.uncorrCw,
  .nat Prm.ponSecPsbdErr fun s _ => s.pon.sec.psbdErr,
  .nat Prm.ponSecXgemHecErr fun s _ => s.pon.sec.hecErr,
  .nat Prm.ponSecXgemUncorr fun s _ => s.pon.sec.xgemUncorr,
  .nat Prm.ponSecKeyErr fun s _ => s.pon.sec.keyErr]

/-- PKT, POOL, TOLL, DMA, STORE, ETH and TIME. -/
def roPacket : List RoView := [
  .nat Prm.pktVersion fun s _ => s.pkt.version,
  .nat Prm.pktLiveVersions fun s _ => s.pkt.old.length + 1,
  .nat Prm.pktFlows fun s _ => (s.pkt.flow.filter fun e => flowValid e.2).length,
  .nat Prm.pktTcamUsed fun s _ => s.pkt.tcamUsed,
  .nat Prm.poolFree fun s p => s.poolFree p,
  .nat Prm.tollDepthBytes fun s q => (s.tq q).depth % 2 ^ 32,
  .nat Prm.tollDepthPkts fun s q => (s.tq q).pkts.length,
  .nat Prm.tollVirtualTime fun s e => (s.sched e).vtime,
  .nat Prm.tollGateState fun s e => let x := s.sched e; x.gateOpen + x.gateProtect * 2 ^ 8 + x.gateEntry * 2 ^ 16,
  .nat Prm.dmaRingStopped fun s n => b2n (s.ring n).stopped,
  .nat Prm.storeDriveState fun s d => (s.drive d).st.code,
  .nat Prm.storeExtentsTotal fun s d => s.extentsTotal d,
  .nat Prm.storeExtentsFree fun s d => s.extentsFree d,
  .nat Prm.storeObjects fun s _ => s.dma.objs.length,
  .nat Prm.ethLinkState fun s n => s.ethLink n,
  .nat Prm.ethLpiTwResUs fun s n => (s.port n).tw,
  .nat Prm.ethPtpRxLatNs fun s n => (s.ptpLatency n).1,
  .nat Prm.ethPtpTxLatNs fun s n => (s.ptpLatency n).2,
  .nat Prm.timeState fun s t => s.tbState t,
  .nat Prm.timeNow fun s t => s.tbNs t % 2 ^ 64,
  .nat Prm.timePpsInLast fun s _ => s.time.ppsLast % 2 ^ 64,
  (Prm.timeRateAdj, fun s t => (s.tbase t).rate),
  (Prm.timeStepNs, fun s t => (s.tbase t).lastStep),
  .nat Prm.timeReset fun _ _ => 0,
  .nat Prm.ponRogueClear fun _ _ => 0]

/-- Code of a key usage as SEC.slot_usage reports it (R473). -/
def State.slotUsage (s : State) (k : Nat) : Nat := if k < 3840 then (s.sec.slots.get k).usage else 0xFF

/-- Persistent slots that exist (R476). -/
def State.persistentUsed (s : State) : Nat := (s.sec.records.filter fun r => r.2.isSome).length

/-- CVN and SEC. -/
def roCvn : List RoView := [
  .nat Prm.cvnOwnId fun s _ => s.cvn.id.getD 0xFFFF,
  .nat Prm.cvnMemberState fun s _ => s.cvn.st.code,
  .nat Prm.cvnHops fun s _ => s.cvn.hops,
  .nat Prm.cvnParent fun s _ => s.cvn.parent.getD 0xFFFF,
  (Prm.cvnTimeOffsetNs, fun s _ => s.cvn.theta),
  .nat Prm.cvnSuperframe fun s _ => s.cvnSf % 2 ^ 32,
  (Prm.cvnNoiseFloor, fun s _ => s.cvn.noise),
  .nat Prm.cvnPlanChannel fun s r => (s.cvn.cur.get r + 15) % 16,
  .nat Prm.secLifecycle fun s _ => s.sec.lifecycle,
  .nat Prm.secDebugState fun s _ => s.sec.debugPerms,
  .nat Prm.secDebugChallenge fun s _ => s.sec.challenge,
  .nat Prm.secRootRevoked fun s _ => s.sec.revoked,
  .nat Prm.secCustRevoke fun s k => b2n (bit s.sec.revoked (4 + k)),
  .nat Prm.secSvnOtp fun s _ => s.sec.svn,
  .nat Prm.secSvnRunning fun s _ => s.sec.svnRunning,
  .nat Prm.secSvnAdvance fun _ _ => 0,
  .nat Prm.secSlotUsage fun s k => s.slotUsage k,
  .nat Prm.secSlotsUsed fun s _ => (s.sec.slots.filter fun e => decide (e.1 < 3840) && decide (e.2.usage ≠ 0)).length,
  .nat Prm.secPersistentUsed fun s _ => s.persistentUsed]

/-- MGMT, PWR and FAULT. -/
def roMgmt : List RoView := [
  (Prm.mgmtTemp, fun s i => s.mgmt.temp.get i),
  (Prm.mgmtTempMax, fun s _ => s.mgmt.tempMax),
  .nat Prm.mgmtRailMv fun s i => s.mgmt.rail.get i,
  .nat Prm.mgmtPowerMw fun s _ => s.mgmt.powerMw,
  .nat Prm.mgmtCapStep fun s _ => s.mgmt.capStep,
  .nat Prm.mgmtLogSeq fun s _ => s.mgmt.logSeq,
  .nat Prm.mgmtFwTrial fun s _ => b2n s.fw.trial,
  .nat Prm.mgmtFwVersion fun s b => s.fw.version.get b,
  .nat Prm.mgmtFwStaged fun s _ => b2n s.fw.staged,
  .nat Prm.mgmtResetCount fun s c => s.fw.resets.get c,
  .nat Prm.mgmtLockstepEvents fun s _ => s.fw.lockstep,
  .nat Prm.faultHeld fun s _ => b2n s.recast.held,
  .nat Prm.faultLastCause fun s _ => s.recast.lastCause,
  .nat Prm.pwrState fun s _ => s.power.st.code,
  .nat Prm.pwrLastRefuser fun s _ => s.power.lastRefuser,
  .nat Prm.pwrLastWakeCause fun s _ => s.power.lastCause]

/-- Every live view. Log entry 7 (DEDUCED). -/
def roViews : List RoView := roHost ++ roRadio ++ roBeam ++ roPon ++ roPacket ++ roCvn ++ roMgmt

/-- What a PARAM_GET with source 0 reads of a parameter instance: the live value where one stands behind it, else the
committed value (R73). Log entry 7 (DEDUCED). -/
def State.live (s : State) (p : ParamDef) (i : Nat) : Int :=
  match roViews.find? fun v => v.1.id == p.id with
  | some v => v.2 s i
  | none => s.com p i

end Sys2Proof.Machine
end

