-- ==== Sys2Proof/Machine/Tollgate.lean ====
section
/-!
DEFINITION. Tollgate's own events: gate lists (R373, R374), overflows and starvation (R376, R377), sampling (R378), and
commit checks (R374, R379).
-/
namespace Sys2Proof.Machine

/-! ### Gate lists -/

/-- Position in the cycle of a list on its time base, when the first cycle has begun. -/
def State.gatePos (s : State) (h : GateHead) (cycle : Nat) : Option Nat :=
  let t := s.tbNs h.tb
  if cycle = 0 ∨ t < h.base then none else some ((t - h.base) % cycle)

/-- Entry that covers a position: number, from 1, and its start. -/
def gateAtPos (pos : Nat) : Nat → Nat → List (Nat × Nat × Nat) → Option (Nat × Nat)
  | _, _, [] => none
  | i, start, g :: t => if pos < start + g.2.2 then some (i, start) else gateAtPos pos (i + 1) (start + g.2.2) t

/-- The gate state changes: windows that close with their head packet still waiting are broken guarantees of rank 3, and
windows that open note their heads (R373, R376). -/
def setGate (e entry open_ protect at_ : Nat) (o : Occupant) (s : State) : State :=
  let old := s.sched e
  let was := fun c => bit (old.gateOpen &&& old.gateProtect) c
  let willBe := fun c => bit (open_ &&& protect) c
  let lost := old.heads.filter fun x => !willBe (s.gateClass x.1) &&
    ((s.tq x.1).pkts.head?.any fun p => p.handle == x.2)
  let s := lost.foldl (fun s x => (breakGuarantee 3 x.1 5 e o s).2) s
  let opening := (s.backlogged e).filter fun q => willBe (s.gateClass q) && !was (s.gateClass q)
  let kept := old.heads.filter fun x => willBe (s.gateClass x.1)
  let heads := opening.filterMap fun q => ((s.tq q).pkts.head?).map fun p => (q, p.handle)
  refreshList e (updSched e (fun x => { x with
    gateEntry := entry, gateOpen := open_, gateProtect := protect, gateAt := at_, heads := kept ++ heads
    windowServed := if protect = 0 then none else if opening.isEmpty then x.windowServed else none }) s)

/-- GATE_ENTRY_START: the time base reaches an entry of the active list (R373). -/
def execGateEntryStart (e entry : Nat) (o : Occupant) (s : State) : Host.Outcome State Fault Refusal :=
  let h := gateHead (s.entry Tbl.tollGate e 0)
  let l := s.gateList e
  .next (
    if e < 67 ∨ 74 < e ∨ entry = 0 then s
    else match s.gatePos h (gateCycle l) with
      | none => s
      | some pos => match gateAtPos pos 1 0 l with
        | none => s
        | some (i, start) =>
          if i ≠ entry then s
          else
            let g := l.getD (i - 1) default
            setGate e i g.1 g.2.1 (s.tbNs h.tb - (pos - start)) o s)

/-- GATE_LIST_SWITCH: the committed page takes effect at the first instant T that ends a cycle of the old list and begins
one of the new (R374). -/
def execGateListSwitch (e : Nat) (s : State) : Host.Outcome State Fault Refusal :=
  let oldH := gateHead (s.entry Tbl.tollGate e 0)
  let oldL := s.gateList e
  let newH := gateHead (s.standbyEntry Tbl.tollGate e 0)
  let newL := (List.range newH.count).map fun i => gateEntry (s.standbyEntry Tbl.tollGate e (i + 1))
  let endsOld := oldH.count = 0 ∨ s.gatePos oldH (gateCycle oldL) = some 0
  let beginsNew := newH.count = 0 ∨ s.gatePos newH (gateCycle newL) = some 0
  .next (
    if e < 67 ∨ 74 < e ∨ !(s.tabState Tbl.tollGate.id e).switching then s
    else if endsOld ∧ beginsNew then
      let t := s.tbNs newH.tb
      let s := switchPage Tbl.tollGate.id e t s
      let s := match newL with
        | [] => setGate e 0 0xFF 0 t {} s
        | g :: _ => setGate e 1 g.1 g.2.1 t {} s
      raise Ev.tollGateSwitched e (detail [(0, 8, t)]) s
    else s)

/-- TOLL.gate_state (Table 12-8). -/
def Sched.gateState (x : Sched) : Nat := x.gateOpen + x.gateProtect * 2 ^ 8 + x.gateEntry * 2 ^ 16

/-! ### Overflow and starvation -/

/-- BUCKET_OVERFLOW: C or P of a backlogged queue reaches its cap; the first time of an episode is a break of rank 4 or 5
on scheduler e (R376, R377). -/
def execBucketOverflow (q e : Nat) (peak : Bool) (o : Occupant) (s : State) : Host.Outcome State Fault Refusal :=
  let s := fillBuckets q s
  let x := s.tq q
  let due := if peak then s.pOn q && decide (x.pDebt = 0) && !x.pEpisode else s.cOn q && decide (x.cDebt = 0) && !x.cEpisode
  .next (
    if !due || x.pkts.isEmpty || !(s.schedsOf q).contains e then s
    else
      let s := updTq q (fun x => if peak then { x with pEpisode := true } else { x with cEpisode := true }) s
      let (broken, s) := breakGuarantee (if peak then 5 else 4) q 0 e o s
      if broken then s else bump (if peak then Prm.tollPirLost else Prm.tollCirLost) q s)

/-- DRR_STARVATION: a backlogged tier-3 queue has had no turn for TOLL.starve_us (R376). -/
def execDrrStarvation (e q : Nat) (o : Occupant) (s : State) : Host.Outcome State Fault Refusal :=
  let s := refreshList e s
  .next (match (s.sched e).list.find? fun a => a.q == q with
    | none => s
    | some a =>
      if s.tier e q = some 3 ∧ a.last + s.parN Prm.tollStarveUs e * 1000 ≤ s.now then
        let s := updSched e (fun x => { x with list := x.list.map fun b => if b.q = q then { b with last := s.now } else b }) s
        (breakGuarantee 6 q 0 e o s).2
      else s)

/-! ### Sampling -/

/-- Head age of a queue, ns (R378). -/
def State.headAge (s : State) (q : Nat) : Nat := match (s.tq q).pkts with
  | [] => 0
  | p :: _ => min (s.now - p.at_) 0xFFFFFFFF

/-- QUEUE_SAMPLE_SWEEP (R378). -/
def execQueueSampleSweep (s : State) : Host.Outcome State Fault Refusal :=
  .next (
    if s.parN Prm.tollSampleUs 0 = 0 then s
    else
      let rows := s.toll.q.filterMap fun e =>
        if e.2.pkts.isEmpty then none else some (e.1, (e.2.depth % 2 ^ 32, e.2.pkts.length, s.headAge e.1))
      { s with toll := { s.toll with sample := rows, sweep := (s.toll.sweep + 1) % 2 ^ 32 } })

/-- Entry q of TOLL.sample (Table 12-7). -/
def State.sampleEntry (s : State) (q : Nat) : List Byte :=
  let x := s.toll.sample.get q
  le 4 x.1 ++ le 4 (x.2.1 % 2 ^ 18) ++ le 4 x.2.2 ++ le 4 s.toll.sweep

/-! ### Commits -/

/-- A page of TOLL.gate may be committed (R374). -/
def gatePageOk (page : Nat → List Byte) : Bool :=
  let h := gateHead (page 0)
  let l := (List.range h.count).map fun i => gateEntry (page (i + 1))
  decide (h.count ≤ 256) && decide (gateCycle l ≤ 4294967295) &&
    l.all fun g => decide (0 < g.2.2) && decide (g.2.1 &&& (0xFF - g.1 % 256) = 0)

/-- A valid policer entry is within the ranges of Table 12-3. -/
def policerOk (b : List Byte) : Bool :=
  let p := policerEntry b
  !p.valid || (decide (1 ≤ p.cir) && decide (p.cir ≤ 400000000) && decide (p.cir ≤ p.pir) && decide (p.pir ≤ 400000000) &&
    decide (64 ≤ p.cbs) && decide (64 ≤ p.pbs))

/-- A page of TOLL.policer may be committed: valid entries in range, and every policer that a queue names valid
(R368, Table 12-3). -/
def policerPageOk (page : Nat → List Byte) (s : State) : Bool :=
  (List.range 4096).all (fun i => policerOk (page i)) &&
    s.cfg.par.all fun e => !decide (e.1 / 2 ^ 16 = Prm.tollPolicer.id) ||
      (match e.2 with
        | some v => decide (v = 0xFFFF) || (policerEntry (page v.toNat)).valid
        | none => true)

/-- Failures of a TOLL commit (R379). Log entry 108 (DEDUCED). -/
def tollOffences (s : State) : List Offence :=
  -- only queues with a committed value other than the master pattern's can break a relation
  let qs := (s.cfg.par.filterMap fun e =>
    match keyParam e.1 with
    | some (p, i) => if p.group = 0x0F && p.n == 17408 then some i else none
    | none => none).eraseDups
  qs.flatMap fun q =>
    offend (s.com Prm.tollCirKbps q = 0 || s.com Prm.tollPirKbps q = 0 || decide (s.com Prm.tollCirKbps q ≤ s.com Prm.tollPirKbps q)) 6
      [(Prm.tollCirKbps, q), (Prm.tollPirKbps, q)] ++
    offend (decide (s.com Prm.tollYellowMaxBytes q ≤ s.com Prm.tollQmaxBytes q)) 6 [(Prm.tollYellowMaxBytes, q), (Prm.tollQmaxBytes, q)] ++
    offend (decide (s.com Prm.tollPolicer q = 0xFFFF) ||
        (policerEntry (s.entry Tbl.tollPolicer 0 (s.com Prm.tollPolicer q).toNat)).valid) 7 [(Prm.tollPolicer, q)]

/-- Queue q takes its committed TOLL values: buckets start full when they become enabled, and are clamped to new depths
(R370). `old` is the state before. -/
def applyToll (q : Nat) (old s : State) : State :=
  let x := (fillBuckets q old).tq q
  -- tokens above the debt's depth carry over, clamped to plus and minus the new depth
  let carry := fun (was on : Bool) (d0 d1 debt : Nat) =>
    if !on then 0 else if !was then 0
    else
      let tokens : Int := (d0 : Int) - debt
      ((d1 : Int) - min (max tokens (-(d1 : Int))) d1).toNat
  let s := updTq q (fun y => { y with
    cDebt := carry (old.cOn q) (s.cOn q) (old.cDepth q) (s.cDepth q) x.cDebt
    pDebt := carry (old.pOn q) (s.pOn q) (old.pDepth q) (s.pDepth q) x.pDebt
    filled := s.now }) s
  (s.schedsOf q).foldl (fun s e => refreshList e s) s

end Sys2Proof.Machine
end

