-- ==== Sys2Proof/Machine/Checks.lean ====
section
/-!
DEFINITION. The consistency check of a commit (R77 step 3): the relations that no family's own file states, the zero rule
(R14), and the check of each group.
-/
namespace Sys2Proof.Machine

/-- Committed value as a natural number. -/
def State.comN (s : State) (p : ParamDef) (i : Nat) : Nat := (s.com p i).toNat

/-- Actions that Table 11-9 allows for an exception code. -/
def excAllowed (c : Nat) : List Int := if c ≤ 3 ∨ c = 7 then [0, 2] else [0, 1]

/-- Offences of a PKT commit (R357, Table 11-12). -/
def pktOffences (s : State) : List Offence :=
  ((List.range 10).flatMap fun c =>
    offend (decide (c = 0) || (excAllowed c).contains (s.com Prm.pktExcAction c)) 6 [(Prm.pktExcAction, c)]) ++
  offend (decide (s.com Prm.pktNaptPortLo 0 ≤ s.com Prm.pktNaptPortHi 0)) 6 [(Prm.pktNaptPortLo, 0), (Prm.pktNaptPortHi, 0)]

/-- Bytes of pools lo to hi under the committed counts. -/
def State.poolBytes (s : State) (ps : List Nat) : Nat := (ps.map fun p => s.comN Prm.poolCount p * s.comN Prm.poolSize p).sum

/-- Offences of a POOL commit (R336); `old` is the state before it. -/
def poolOffences (old s : State) : List Offence :=
  let changed := (List.range 6).filter fun p => decide (s.com Prm.poolCount p ≠ old.com Prm.poolCount p)
  let names := fun (ps : List Nat) => ps.map fun p => (Prm.poolCount, p)
  offend (changed.isEmpty || (decide (s.com Prm.pktEnable 0 = 0) && changed.all fun p => (s.pool p).used.isEmpty)) 7 (names changed) ++
  offend (decide (s.poolBytes [0, 1, 2] ≤ 33554432)) 6 (names [0, 1, 2]) ++
  offend (decide (s.poolBytes [3, 4, 5] ≤ min (4 * 2 ^ 30) (s.boot.ddrBytes - 2 ^ 30))) 6 (names [3, 4, 5]) ++
  (List.range 6).flatMap fun p =>
    offend (decide (s.com Prm.poolReserve p ≤ s.com Prm.poolCount p)) 6 [(Prm.poolReserve, p), (Prm.poolCount, p)]

/-- Offences of a TASK commit (R287). A queue whose slot is the master pattern's own is not held to residency: the master
pattern passes its own check (R91). Log entry 17 (DEDUCED). -/
def taskOffences (s : State) : List Offence :=
  let qs := List.range 256
  let slot := fun q => s.comN Prm.taskQueueSlot q
  let g := jobGroup
  offend (decide ((qs.map fun q => s.comN Prm.taskQueueDepth q).sum ≤ 32768)) 6 (qs.map fun q => (Prm.taskQueueDepth, q)) ++
  ((List.range 16).flatMap fun k =>
    offend (decide (s.com Prm.taskGroupWeight k = 0) || decide (s.com Prm.taskGroupLadleMask k ≠ 0) ||
        decide (s.com Prm.taskGroupDroverMask k ≠ 0)) 6
      [(Prm.taskGroupWeight, k), (Prm.taskGroupLadleMask, k), (Prm.taskGroupDroverMask, k)]) ++
  qs.flatMap fun q =>
    offend (decide (slot q ≠ 0xFE) || decide (s.com Prm.taskGroupLadleMask (g q) = 0)) 6
      [(Prm.taskQueueSlot, q), (Prm.taskGroupLadleMask, g q)] ++
    offend (decide (63 < slot q) || decide (s.com Prm.taskGroupDroverMask (g q) = 0)) 6
      [(Prm.taskQueueSlot, q), (Prm.taskGroupDroverMask, g q)] ++
    offend (decide (63 < slot q) || decide (s.com Prm.taskQueueSlot q = Prm.taskQueueSlot.deflt q) ||
        decide ((s.kernel (slot q)).engines &&& s.comN Prm.taskGroupLadleMask (g q) ≠ 0)) 7 [(Prm.taskQueueSlot, q)]

/-- Offences of a DMA commit (R392, Table 13-12); `old` is the state before it. -/
def dmaOffences (old s : State) : List Offence :=
  (List.range 32).flatMap fun n =>
    let on := decide (s.com Prm.dmaRingEnable n = 1)
    let moved := fun (p : ParamDef) => on && decide (old.com Prm.dmaRingEnable n = 1) && decide (s.com p n ≠ old.com p n)
    offend (!moved Prm.dmaRingBase) 6 [(Prm.dmaRingBase, n), (Prm.dmaRingEnable, n)] ++
    offend (!moved Prm.dmaRingSize) 6 [(Prm.dmaRingSize, n), (Prm.dmaRingEnable, n)] ++
    offend (!on || decide (s.com Prm.dmaRingBase n ≠ 0)) 6 [(Prm.dmaRingBase, n), (Prm.dmaRingEnable, n)]

/-- A slot holds a persistent key of usage 6 (R476). -/
def State.patternKey (s : State) (k : Nat) : Bool :=
  let x := s.sec.slots.get k
  decide (k < 3840) && decide (x.usage = 6) && x.persistent

/-- Offences of a SEC commit (R476). -/
def secOffences (s : State) : List Offence :=
  let k := s.comN Prm.secPatternKeySlot 0
  offend (decide (k = 0xFFFF) || s.patternKey k) 7 [(Prm.secPatternKeySlot, 0)]

/-- Offences of a MGMT commit (Table 17-14). Log entry 18 (DEDUCED). -/
def mgmtOffences (s : State) : List Offence :=
  let v := s.comN Prm.mgmtLogFlashMask 0
  offend (v == 0 || bit v 0) 3 [(Prm.mgmtLogFlashMask, 0)]

/-- A WLAN commit that changes G_r is checked against R189 under the new G_r. -/
def wlanLoadOffences (old s : State) : List Offence :=
  if (List.range 3).all fun r => decide (s.committedGroups r = old.committedGroups r) then []
  else if s.loadFits s.committedGroups then []
  else
    let rs := (List.range 3).filter fun r => decide (s.committedGroups r ≠ old.committedGroups r)
    offend false 7 ((rs.flatMap fun r => [(Prm.wlanBw, r), (Prm.wlanPunct, r)]) ++ s.loadNames)

/-- Relations of a group that fail under the committed values of `s`, which `old` stood before.
Log entries 17 (DEDUCED), 18 (DEDUCED). -/
def groupOffences (g : Nat) (old s : State) : List Offence :=
  match g with
  | 0x04 => laneOffences s
  | 0x05 => linkOffences s
  | 0x06 => feedOffences s
  | 0x07 => beamOffences s
  | 0x08 => wlanOffences s ++ wlanLoadOffences old s
  | 0x0B => ponOffences s
  | 0x0C => pktOffences s
  | 0x0D => poolOffences old s
  | 0x0E => taskOffences s
  | 0x0F => tollOffences s
  | 0x10 => dmaOffences old s
  | 0x14 => cvnOffences s
  | 0x15 => secOffences s
  | 0x16 => mgmtOffences s
  | _ => []

/-- The zero rule: a zero outside an item's range (R14, R75), in the state that all the values leave. Log entry 17 (DEDUCED). -/
def zeroOffences (vals : List (ParamDef × Nat × Int)) (s : State) : List Offence :=
  vals.flatMap fun v => offend (decide (s.com v.1 v.2.1 ≠ 0) || v.1.inRange 0) 5 [(v.1, v.2.1)]

/-- A state whose committed configuration has taken values, for checks. -/
def State.withVals (s : State) (vals : List (ParamDef × Nat × Int)) : State :=
  vals.foldl (fun s v => s.setPar v.1 v.2.1 v.2.2) s

/-- The check of R77 step 3 for a group and the values that its staging set gives. Log entry 17 (DEDUCED). -/
def commitOffences (g : Nat) (vals : List (ParamDef × Nat × Int)) (s : State) : List Offence :=
  (zeroOffences vals (s.withVals vals) ++ groupOffences g s (s.withVals vals)).eraseDups

/-- The check of an immediate entry, made against the state that the entries before it leave (R76). -/
def immediateOffences (p : ParamDef) (i : Nat) (v : Int) (s : State) : List Offence :=
  let t := s.setPar p i v
  let zero := zeroOffences [(p, i, v)] t
  let own := if p.id = Prm.hostEvtDeliverMask.id then offend (v == 0 || bit v.toNat 0) 3 [(p, i)]
    else if p.group = 0x04 then laneImmediateOffences t p i
    else if p.group = 0x13 then offend (!s.timeConflict p i) 6 [(p, i)]
    else []
  zero ++ own

end Sys2Proof.Machine
end

