-- ==== Sys2Proof/Machine/Flags.lean ====
section
/-!
DEFINITION. Arithmetic and flags of a Ladle engine: accumulators, products, rounding and saturation (R252 to R254), and
the status bits that each result sets (R261, Table 9-2).
-/
namespace Sys2Proof.Machine

/-- Bits of ST (Table 9-2). -/
def St.z : Nat := 0
def St.n : Nat := 1
def St.c : Nat := 2
def St.v : Nat := 3
def St.sv : Nat := 4
def St.im : Nat := 5
def St.rnd : Nat := 6
def St.ie : Nat := 7

/-- A status bit. -/
def Bank.flag (b : Bank) (n : Nat) : Bool := bit b.st n

/-- Set a status bit to a value. -/
def Bank.setFlag (b : Bank) (n : Nat) (v : Bool) : Bank := { b with st := setBit b.st n v }

/-- A sticky bit is only ever set (R253). -/
def Bank.stick (b : Bank) (n : Nat) (v : Bool) : Bank := if v then b.setFlag n true else b

/-- Z and N of a result (R261). -/
def Bank.zn (b : Bank) (r : Int) : Bank := (b.setFlag St.z (decide (r = 0))).setFlag St.n (decide (r < 0))

/-- Accumulator k, signed (R251). -/
def Bank.accOf (b : Bank) (k : Nat) : Int := signed 40 (b.acc.get k)

/-- Store a signed value in accumulator k. -/
def Bank.setAcc (b : Bank) (k : Nat) (v : Int) : Bank := { b with acc := b.acc.put k (twos 40 v) }

/-- General register k, as a pattern and signed. -/
def Bank.dOf (b : Bank) (k : Nat) : Nat := b.d.get k
def Bank.dInt (b : Bank) (k : Nat) : Int := signed 32 (b.d.get k)
def Bank.setD (b : Bank) (k : Nat) (v : Nat) : Bank := { b with d := b.d.put k (v % 2 ^ 32) }

/-- Real and imaginary parts of a 32-bit complex value (R251). -/
def re (v : Nat) : Int := signed 16 (v / 65536 % 65536)
def im (v : Nat) : Int := signed 16 (v % 65536)

/-- A complex word from its parts. -/
def complexWord (r i : Int) : Nat := twos 16 r * 65536 + twos 16 i

/-- The multiplier (R252): the product, and whether it was the one that saturates. -/
def Bank.prod (b : Bank) (u w : Int) : Int × Bool :=
  if b.flag St.im then (u * w, false)
  else if u = -32768 ∧ w = -32768 then (0x7FFFFFFF, true)
  else (2 * u * w, false)

/-- Put an exact accumulator result, saturated to 32 bits or wrapped at 40 (R252). -/
def Bank.putAcc (b : Bank) (k : Nat) (t : Int) (s : Bool) : Bank :=
  if s then (b.setAcc k (sat t 32)).stick St.sv (decide (sat t 32 ≠ t))
  else (b.setAcc k t).stick St.v (decide (signed 40 (twos 40 t) ≠ t))

/-- acc(k, v, s) (R252). -/
def Bank.accAdd (b : Bank) (k : Nat) (v : Int) (s : Bool) : Bank := b.putAcc k (b.accOf k + v) s

/-- rnd(A) (R254): add one half, or convergent at bit 16. -/
def Bank.round (b : Bank) (v : Int) : Int :=
  let t := v + 0x8000
  if b.flag St.rnd && decide (twos 40 v % 65536 = 0x8000) && decide (twos 40 t / 65536 % 2 = 1) then t - 65536 else t

/-- h(A) (R254): the halfword, and whether it clamped. -/
def Bank.halfOf (b : Bank) (k : Nat) : Int × Bool :=
  let v := b.round (b.accOf k) / 65536
  (sat v 16, decide (sat v 16 ≠ v))

/-- sat(A, 32) as it leaves the accumulator: the pattern, and whether it clamped (R253). -/
def Bank.wordOf (b : Bank) (k : Nat) : Nat × Bool :=
  let v := b.accOf k
  (twos 32 (sat v 32), decide (sat v 32 ≠ v))

/-- Redundant sign bits of a signed value of `w` bits. -/
def signBits (w : Nat) (v : Int) : Nat :=
  let m := (if v < 0 then -v - 1 else v).toNat
  ((List.range w).find? fun n => decide (2 ^ (w - 1 - n) ≤ m)).elim (w - 1) fun n => n - 1

/-- ADD or SUB on 32-bit patterns (R261): the stored pattern, carry or borrow, and whether it saturated. -/
def addSub (sub s : Bool) (x y : Nat) : Nat × Bool × Bool :=
  let exact := if sub then signed 32 x - signed 32 y else signed 32 x + signed 32 y
  let carry := if sub then decide (x < y) else decide (2 ^ 32 ≤ x + y)
  if s then (twos 32 (sat exact 32), carry, decide (sat exact 32 ≠ exact)) else (twos 32 exact, carry, false)

/-- Z, N and C of an ADD, SUB or CMP result. -/
def Bank.znc (b : Bank) (r : Nat) (c : Bool) : Bank := (b.zn (signed 32 r)).setFlag St.c c

/-- One half of ADD16 or SUB16. -/
def addSub16 (sub s : Bool) (x y : Int) : Int × Bool :=
  let t := if sub then x - y else x + y
  if s then (sat t 16, decide (sat t 16 ≠ t)) else (signed 16 (twos 16 t), false)

/-- Floor of a square root below 2⁴⁰, bit by bit. -/
def isqrt (n : Nat) : Nat :=
  (List.range 40).foldl (fun r j => let t := r + 2 ^ (39 - j); if t * t ≤ n then t else r) 0

/-- RCP and RSQ take operands from 2²⁹ to 2³¹ − 1 (R261). Log entry 56 (DESIGN CHOICE). -/
def estimateIn (a : Nat) : Bool := decide (2 ^ 29 ≤ a) && decide (a < 2 ^ 31)

/-- Results that RCP may give: least and greatest within the relative error (R261). Log entry 56 (DESIGN CHOICE). -/
def rcpRange (a : Nat) : Nat × Nat := ((2 ^ 60 - 2 ^ 48) / a + 1, (2 ^ 60 + 2 ^ 48 - 1) / a)

/-- Results that RSQ may give. Log entry 56 (DESIGN CHOICE). -/
def rsqRange (a : Nat) : Nat × Nat := (isqrt (4095 ^ 2 * 2 ^ 67 / a) + 1, isqrt ((4097 ^ 2 * 2 ^ 67 - 1) / a))

end Sys2Proof.Machine
end

