-- ==== Sys2Proof/Machine/Operands.lean ====
section
/-!
DEFINITION. Operand forms of a Ladle engine: register codes, memory words and address modes (R255, R257, R258), special
registers (Table 9-1), and the exposed hazards that they see (Table 9-7).
-/
namespace Sys2Proof.Machine

/-- The bank in use: bank 0 at thread level, bank 1 in every handler (R251). -/
def Ladle.bank (x : Ladle) : Bank := if x.stack.isEmpty then x.bank0 else x.bank1

/-- Change the bank in use. -/
def Ladle.setBank (x : Ladle) (b : Bank) : Ladle := if x.stack.isEmpty then { x with bank0 := b } else { x with bank1 := b }

/-! ### Register codes -/

/-- A code names a general register, a feed register, an accumulator (R257). -/
def isD (c : Nat) : Bool := decide (c < 8)
def isF (c : Nat) : Bool := decide (8 ≤ c) && decide (c < 12)
def isA (c : Nat) : Bool := decide (12 ≤ c) && decide (c < 16)

/-- 32-bit value of a register code; an accumulator saturates and says so (R253, R261 MOV). -/
def Bank.code (b : Bank) (c : Nat) : Nat × Bool :=
  if isA c then b.wordOf (c - 12) else if isF c then (b.f.get (c - 8), false) else (b.d.get c, false)

/-- Write a 32-bit value to a register code; an accumulator takes it sign-extended (R258). -/
def Bank.setCode (b : Bank) (c v : Nat) : Bank :=
  if isA c then b.setAcc (c - 12) (signed 32 v)
  else if isF c then { b with f := b.f.put (c - 8) (v % 2 ^ 32) }
  else b.setD c v

/-! ### Memory -/

/-- X or Y memory of an engine. -/
def Ladle.mem (x : Ladle) (y : Bool) : Mem := if y then x.y else x.x
def Ladle.setMem (x : Ladle) (y : Bool) (m : Mem) : Ladle := if y then { x with y := m } else { x with x := m }

/-- Word at an address that is a multiple of 4. Log entry 51 (DESIGN CHOICE). -/
def Ladle.word (x : Ladle) (y : Bool) (a : Nat) : Nat := leNat ((x.mem y).read a 4)

/-- Word that LDX and LDY see: a store of the last two instructions to the same word is not seen yet (Table 9-7).
Log entry 52 (DEDUCED). -/
def Ladle.seenWord (x : Ladle) (y : Bool) (a : Nat) : Nat :=
  match x.exposed.find? fun e => e.y == y && decide (e.addr = a / 4 * 4) with
  | some e => e.old
  | none => x.word y (a / 4 * 4)

/-- Write bytes of X or Y, and remember the word that the next two instructions still see. -/
def Ladle.store (x : Ladle) (y : Bool) (a : Nat) (bytes : List Byte) : Ladle :=
  let old := x.word y (a / 4 * 4)
  let x := x.setMem y ((x.mem y).write a bytes)
  { x with exposed := x.exposed ++ [{ y := y, addr := a / 4 * 4, old := old, left := 3 }] }

/-! ### Address registers -/

/-- Value of a modify or length register that post-modify uses: an MTS of the last two instructions does not count yet
(Table 9-7). -/
def Ladle.modUse (x : Ladle) (n : Nat) : Nat :=
  match x.late.find? fun e => e.1 == n with
  | some e => e.2.1
  | none => x.mod.get n

/-- Smallest power of two that is at least `l`, up to 2¹⁶. -/
def pow2Ceil (l : Nat) : Nat := ((List.range 17).find? fun k => decide (l ≤ 2 ^ k)).elim 65536 fun k => 2 ^ k

/-- Advance of an address register: linear, or circular when its length register is not 0 (R255). `j` is 0–3 for IX and
4–7 for IY. -/
def Ladle.advance (x : Ladle) (j : Nat) (m : Int) (i : Nat) : Nat :=
  let l := x.modUse (8 + j)
  if l = 0 then (((i : Int) + m) % 65536).toNat
  else
    let b := i / pow2Ceil l * pow2Ceil l
    (b + (((i : Int) - b + m) % (l : Int)).toNat) % 65536

/-- Step of a post-modify field: 0, +4, −4, or the modify register (R257). -/
def Ladle.stepOf (x : Ladle) (j step : Nat) : Int :=
  match step with | 0 => 0 | 1 => 4 | 2 => -4 | _ => signed 16 (x.modUse j)

/-- Post-modify address register j. -/
def Ladle.postModify (x : Ladle) (j step : Nat) : Ladle :=
  let b := x.bank
  x.setBank { b with idx := b.idx.put j (x.advance j (x.stepOf j step) (b.idx.get j)) }

/-- A parsed move field: destination feed register, index register and step (R257); `none` where it makes no move. -/
structure Move where
  f : Nat
  i : Nat
  step : Nat
deriving DecidableEq, Repr, Inhabited

/-- Parse a move field; `none` for an illegal one. -/
def parseMove (v : Nat) : Option (Option Move) :=
  if v % 2 = 1 then none
  else if v / 128 % 2 = 0 then (if v / 2 % 64 = 0 then some none else none)
  else some (some { f := v / 32 % 4, i := v / 8 % 4, step := v / 2 % 4 })

/-! ### Special registers -/

/-- ST as it reads (Table 9-2). -/
def Ladle.st (x : Ladle) : Nat :=
  x.bank.st % 256 + b2n (!x.stack.isEmpty) * 2 ^ 8 + x.stack.length % 16 * 2 ^ 12 +
    (match x.stack with | h :: _ => h.group % 256 | [] => 0) * 2 ^ 16 + b2n x.stack.isEmpty * 2 ^ 24

/-- A special register reads (Table 9-1); `cycles` is the device's cycle count. -/
def Ladle.special (x : Ladle) (e cycles n : Nat) : Nat :=
  let b := x.bank
  if n < 8 then b.idx.get n
  else if n < 24 then x.mod.get (n - 8)
  else match n with
    | 24 => x.st
    | 25 => b.lr
    | 26 => b.lpc
    | 27 => b.lps
    | 28 => b.lpe
    | 29 => x.isp
    | 30 => x.islim
    | 31 => x.vbase
    | 32 => e
    | 33 => (cycles - x.resetCycle) % 2 ^ 32
    | 34 => (cycles - x.resetCycle) / 2 ^ 32 % 2 ^ 32
    | _ => 0

/-- MTS; read-only registers ignore the write (R262). -/
def Ladle.setSpecial (x : Ladle) (n v : Nat) : Ladle :=
  let b := x.bank
  let h := v % 65536
  let w := v % 16384
  if n < 8 then x.setBank { b with idx := b.idx.put n h }
  else if n < 24 then
    let k := n - 8
    { x with mod := x.mod.put k h, late := x.late ++ [(k, x.mod.get k, 3)] }
  else match n with
    | 24 => x.setBank { b with st := v % 256 }
    | 25 => x.setBank { b with lr := w }
    | 26 => x.setBank { b with lpc := h }
    | 27 => x.setBank { b with lps := w }
    | 28 => x.setBank { b with lpe := w }
    | 29 => { x with isp := h }
    | 30 => { x with islim := h }
    | 31 => { x with vbase := w / 128 * 128 }
    | _ => x

/-- The special register exists (Table 9-1). -/
def specialExists (n : Nat) : Bool := decide (n ≤ 34)

end Sys2Proof.Machine
end

