-- ==== Sys2Proof/Machine/LadleIrq.lean ====
section
/-!
DEFINITION. The Ladle interrupt controller (R266 to R272), fault exceptions, engine recasts (R278) and sleep (R281).
-/
namespace Sys2Proof.Machine

/-- LADLE.irq (R286). -/
def Tbl.ladleIrq : TableDef where
  id := 0x0A100000
  insts := 1
  entries := fun _ => 64
  size := 4
  dflt := fun _ i => if i < 8 then le 4 0x80 else if i < 14 then le 4 0xC0 else if 16 ≤ i ∧ i < 48 then le 4 (0x40 + (i - 16) * 256) else []

/-- Priority and target engine of a source. -/
def State.irqPriority (s : State) (i : Nat) : Nat := bits (s.entryNat Tbl.ladleIrq 0 i) 7 0
def State.irqTarget (s : State) (i : Nat) : Nat := bits (s.entryNat Tbl.ladleIrq 0 i) 12 8

/-- Level of a source (Table 9-9). -/
def State.irqLevel (s : State) (i : Nat) : Bool :=
  if i < 8 then decide ((s.mould i).fifo.length ≤ 128)
  else if i < 11 then s.task.roundLevel.get (i - 8)
  else if i < 14 then s.task.swpLevel.get (i - 11)
  else if i < 16 then false
  else if i < 48 then (s.eng (i - 16)).doorbell
  else if i < 56 then !(s.sprue (i - 48)).cq.isEmpty
  else if i < 60 then (s.task.timer.get (i - 56)).level
  else decide (i = 60) && s.task.secLevel

/-- Sources that target an engine, as a mask. -/
def State.targets (s : State) (e : Nat) : Nat := (pick 64 fun i => s.irqTarget i = e).foldl (fun m i => setBit m i true) 0

/-- PEND as engine e reads it: level OR software bit, for the sources that target it. -/
def State.irqPend (s : State) (e : Nat) : Nat :=
  (pick 64 fun i => s.irqTarget i == e && (s.irqLevel i || bit (s.eng e).soft i)).foldl (fun m i => setBit m i true) 0

/-- Group field of a priority (R267). -/
def State.irqGroup (s : State) (p : Nat) : Nat :=
  let g := s.parN Prm.ladleIrqSplit 0
  if g = 0 then 0 else p / 2 ^ (8 - g)

/-- Candidates for engine e (R267); an entry that has been completed no longer holds its source back (R270).
Log entry 109 (DEDUCED). -/
def State.candidates (s : State) (e : Nat) : List Nat :=
  let x := s.eng e
  pick 64 fun i => s.irqTarget i == e && decide (s.irqPriority i ≠ 0) && (s.irqLevel i || bit x.soft i) && !bit x.mask i &&
    !(x.stack.any fun h => h.source == i && !h.completed)

/-- The candidate of largest priority, ties to the lower source. -/
def bestOf (p : Nat → Nat) : List Nat → Option Nat
  | [] => none
  | i :: t => match bestOf p t with
    | none => some i
    | some b => if p b ≤ p i then some i else some b

/-- The best candidate, when it is eligible against a context: the stack, and IE of the thread (R267). -/
def State.eligible (s : State) (e : Nat) (stack : List Handler) (ie : Bool) : Option Nat :=
  match bestOf s.irqPriority (s.candidates e) with
  | none => none
  | some i => match stack with
    | [] => if ie then some i else none
    | h :: _ => if h.group < s.irqGroup (s.irqPriority i) then some i else none

/-- Eligible against the context that runs now. -/
def State.eligibleNow (s : State) (e : Nat) : Option Nat :=
  let x := s.eng e
  s.eligible e x.stack (x.bank.flag St.ie)

/-! ### Recast of an engine (R278) -/

/-- The engine leaves dispatch and the scheduler forgets its work. -/
def detachEngine (e : Nat) (s : State) : State :=
  let s := returnBuffered e (dropJob e s)
  let s := updRunner e (fun r => { r with fetch := none, buf := none }) s
  { s with task := { s.task with waiters := s.task.waiters.filter (· != e) } }

/-- Recast an engine at block scope for a RECAST cause. -/
def recastEngine (e cause : Nat) (s : State) : State :=
  let owned := (s.pkt.wb.filter fun x => decide (x.2.owner = enginePort e)).map (·.1)
  let s := bump Prm.ladleRecastCount e (owned.foldl (fun s h => free h s) (detachEngine e s))
  let times := ((s.runner e).recasts.filter fun t => decide (s.now ≤ t + 60000000000)) ++ [s.now]
  let s := updRunner e (fun r => { r with recasts := times, held := r.held || decide (3 ≤ times.length) }) s
  let s := updEng e (fun x => { x with stack := [], soft := 0, doorbell := false, halted := true, sleep := .awake, wlStall := false }) s
  let s := if 3 ≤ times.length then raise Ev.ladleEngineHeld e (detail [(0, 1, recastWhy cause)]) s else s
  serveWaiters (admitFault ⟨0, 0x0A, e⟩ cause s)

/-- Content of the resident slots of an engine written into its memories again. -/
def loadSlot (k : Kernel) (x : Ladle) : Ladle :=
  let prog := (k.prog.zipIdx).foldl (fun m w => m.put (k.progBase + w.2) w.1) x.prog
  { x with prog := prog, x := x.x.write k.xBase k.xData, y := x.y.write k.yBase k.yData }

/-- The engine's memories and registers after a recast, with its resident slots reloaded (R278). Log entry 53 (DESIGN CHOICE). -/
def freshEngine (e : Nat) (s : State) : Ladle :=
  let base : Ladle := { resetCycle := s.time.cycles }
  s.task.slot.foldl (fun x k => if bit k.2.engines e then loadSlot k.2 x else x) base

/-! ### Entry -/

/-- A frame of Table 9-10 as 64 bytes. -/
def Ladle.frame (x : Ladle) : List Byte :=
  let b := x.bank1
  let h := x.stack.headD default
  le 4 x.pc ++ le 4 x.st ++ le 4 b.lr ++ le 4 b.lpc ++ le 4 (b.lps * 2 ^ 16 + b.lpe) ++ le 4 b.lpc2 ++ le 4 (b.lps2 * 2 ^ 16 + b.lpe2) ++
    le 4 (h.source + b2n h.claimed * 2 ^ 8 + b2n h.completed * 2 ^ 9 + h.group * 2 ^ 16) ++
    (List.range 4).flatMap fun k => le 4 (b.acc.get k % 2 ^ 32) ++ le 4 (twos 32 (b.accOf k / 2 ^ 32))

/-- Restore a frame from X memory at ISP (R271). -/
def Ladle.unframe (x : Ladle) : Ladle :=
  let f := x.x.read x.isp 64
  let w := fun o => fieldAt f o 4
  let acc := (List.range 4).foldl (fun (t : Tab Nat) k => t.put k (w (32 + 8 * k) + w (36 + 8 * k) % 256 * 2 ^ 32)) []
  let b := { x.bank1 with
    st := w 4 % 256, lr := w 8 % 16384, lpc := w 12 % 65536, lps := w 16 / 65536 % 16384, lpe := w 16 % 16384
    lpc2 := w 20 % 65536, lps2 := w 24 / 65536 % 16384, lpe2 := w 24 % 16384, acc := acc }
  { x with bank1 := b, pc := w 0 % 16384, isp := (x.isp + 64) % 65536 }

/-- Enter a handler from the context that runs: bank 1 from thread level, a frame inside a handler. `none` where the push
would take ISP below ISLIM (R268, R272). Log entry 54 (DESIGN CHOICE). -/
def Ladle.enter (x : Ladle) (h : Handler) (vector : Nat) : Option Ladle :=
  match x.stack with
  | [] => some { x with threadPc := x.pc, pc := (x.vbase + vector) % 16384, stack := [h] }
  | _ =>
    if x.isp < x.islim + 64 then none
    else
      let isp := x.isp - 64
      some { x with x := x.x.write isp x.frame, isp := isp, pc := (x.vbase + vector) % 16384, stack := h :: x.stack }

/-- The engine halts, and firmware recasts it (R272). -/
def haltEngine (e : Nat) (s : State) : State := recastEngine e Cause.core s

/-- The fault exception of cause c (R272, Table 9-11). Whether the PC that its RETI returns to is that of the fault or the
next, and the group of its entry, are left open. Log entry 54 (DESIGN CHOICE). -/
def faultEntry (e c : Nat) (s : State) : State :=
  let x := s.eng e
  let s := raise Ev.ladleFault e (detail [(0, 1, c), (2, 2, x.pc)]) (bump Prm.ladleFaults e s)
  let s := updEng e (fun x => { x with faultCause := c + x.pc * 2 ^ 16 }) s
  if x.stack.any fun h => h.source == 0x40 then haltEngine e s
  else
    let (step, s) := drawBelow 2 s
    let (grp, s) := drawBelow 256 s
    let x := s.eng e
    match ({ x with pc := (x.pc + step) % 16384 } : Ladle).enter { source := 0x40, group := grp } 64 with
    | none => haltEngine e s
    | some y => updEng e (fun _ => y) s

/-- An eligible source enters its handler (R268). -/
def enterSource (e i : Nat) (s : State) : State :=
  let x := s.eng e
  match x.enter { source := i, group := s.irqGroup (s.irqPriority i) } i with
  | none => haltEngine e s
  | some y => updEng e (fun _ => y) s

/-- INTERRUPT_ENTRY: the controller takes the best eligible source; a blocked read of JOB_FETCH is abandoned, and a job
dispatched in that same cycle stays in the fetch buffer (R268, R273). -/
def execInterruptEntry (e : Nat) (race : Bool) (s : State) : Host.Outcome State Fault Refusal :=
  let x := s.eng e
  .next (
    if 32 ≤ e ∨ !s.inService e ∨ x.debugHalt ∨ x.sleep ≠ .awake then s
    else match s.eligibleNow e with
      | none => s
      | some i =>
        let s := if (s.runner e).fetch.isSome then
            let s := updRunner e (fun r => { r with fetch := none }) { s with task := { s.task with waiters := s.task.waiters.filter (· != e) } }
            if race && (s.runner e).buf.isNone then match selectJob e s with
              | some (j, s) => updRunner e (fun r => { r with buf := some j }) s
              | none => s
            else s
          else s
        enterSource e i s)

/-! ### Claim, completion and return -/

/-- A read of ICU_CLAIM (R269). -/
def icuClaim (e : Nat) (s : State) : Nat × State :=
  let x := s.eng e
  match x.stack with
  | h :: rest =>
    if h.source = 0x40 ∨ h.claimed then (0xFF, s)
    else
      let spurious := !s.irqLevel h.source && !bit x.soft h.source
      let s := updEng e (fun x => { x with stack := { h with claimed := true } :: rest, soft := setBit x.soft h.source false }) s
      (h.source, if spurious then bump Prm.ladleIrqSpurious e s else s)
  | [] => (0xFF, s)

/-- A write of ICU_COMPLETE: the fault cause to raise, if any (R270). -/
def icuComplete (e v : Nat) (s : State) : Option Nat × State :=
  match (s.eng e).stack with
  | h :: rest =>
    if h.source = v ∧ h.source ≠ 0x40 ∧ h.claimed then
      (none, updEng e (fun x => { x with stack := { h with completed := true } :: rest }) s)
    else (some 5, bump Prm.ladleIrqOoo e s)
  | [] => (some 5, bump Prm.ladleIrqOoo e s)

/-- RETI (R271, Table 9-11). -/
def returnFromHandler (e : Nat) (s : State) : State :=
  let x := s.eng e
  match x.stack with
  | [] => faultEntry e 7 s
  | h :: rest =>
    if h.source ≠ 0x40 ∧ !h.completed then
      faultEntry e 6 (bump Prm.ladleIrqOoo e (updEng e (fun x => { x with stack := { h with completed := true } :: rest }) s))
    else
      -- the context being returned to, without the popped entry
      let popped := updEng e (fun x => { x with stack := rest }) s
      match popped.eligible e rest (bit x.bank0.st St.ie) with
      | some i =>
        -- the exit is abandoned: the frame stays for the new handler's own RETI
        updEng e (fun x => { x with
          stack := { source := i, group := s.irqGroup (s.irqPriority i) } :: rest, pc := (x.vbase + i) % 16384 }) s
      | none =>
        if rest.isEmpty then updEng e (fun x => { x with stack := [], pc := x.threadPc }) s
        else updEng e (fun x => { x.unframe with stack := rest }) s

/-! ### Sleep -/

/-- A wake condition of PWRM holds (Table 9-15). -/
def State.wakes (s : State) (e : Nat) : Bool :=
  let p := (s.eng e).pwrm
  (bit p 3 && (s.eligibleNow e).isSome) || (bit p 2 && !(s.jobGroupsFor e).isEmpty)

/-- Registers, X and Y whose contents are lost (Table 9-15, DORMANT). Log entries 51 (DESIGN CHOICE), 53 (DESIGN CHOICE). -/
def loseEngine (e : Nat) (s : State) : State :=
  let f := s.free
  let v := fun (i w : Nat) => Config.freeNat (f + i) % 2 ^ w
  let tab := fun (base n w : Nat) => (List.range n).foldl (fun (t : Tab Nat) i => t.put i (v (base + i) w)) []
  let bank := fun (o : Nat) => ({
    acc := tab o 4 40, d := tab (o + 4) 8 32, f := tab (o + 12) 4 32, idx := tab (o + 16) 8 16, st := 0
    lr := v (o + 24) 14, lpc := 0, lps := v (o + 25) 14, lpe := v (o + 26) 14 } : Bank)
  let g := s.task.lostGen
  let s := { s with free := f + 80, task := { s.task with lostGen := g + 2 } }
  updEng e (fun x => { x with
    bank0 := bank 0, bank1 := bank 27, mod := tab 54 16 16, late := [], exposed := [], isp := v 70 16, islim := v 71 16
    vbase := v 72 7 * 128, pc := 0, threadPc := 0, stack := [], x := { lost := some g }, y := { lost := some (g + 1) } }) s

/-- ENGINE_WAKE (R281): after IDLE or NAP the engine goes on after its WAIT; after DORMANT it restarts at the runtime reset
entry. -/
def execEngineWake (e : Nat) (s : State) : Host.Outcome State Fault Refusal :=
  let x := s.eng e
  .next (
    if 32 ≤ e ∨ x.sleep = .awake ∨ !s.wakes e then s
    else if x.sleep = .dormant then updEng e (fun x => { x with sleep := .awake }) (loseEngine e s)
    else updEng e (fun x => { x with sleep := .awake, pc := (x.pc + 1) % 16384 }) s)

/-- JOB_WATCHDOG (R278). -/
def execJobWatchdog (e : Nat) (s : State) : Host.Outcome State Fault Refusal :=
  let r := s.runner e
  let limit := s.parN Prm.ladleJobWatchdogUs e
  .next (match r.job with
    | none => s
    | some j =>
      if 32 ≤ e ∨ limit = 0 ∨ s.now ≤ r.since + limit * 1000 then s
      else recastEngine e Cause.watchdog (raise Ev.ladleWatchdog e (detail [(0, 2, j.queue), (4, 4, j.arg)]) s))

/-- TIMER_COMPARE: TB0 reaches the compare of timer t (Table 9-9). -/
def execTimerCompare (t : Nat) (s : State) : Host.Outcome State Fault Refusal :=
  let x := s.task.timer.get t
  .next (
    if t < 4 ∧ x.armed ∧ x.lo + x.hi * 2 ^ 32 ≤ s.now then
      { s with task := { s.task with timer := s.task.timer.put t { x with armed := false, level := true } } }
    else s)

end Sys2Proof.Machine
end

