-- ==== Sys2Proof/Machine/LadlePorts.lean ====
section
/-!
DEFINITION. The I/O ports of an engine (R265, Table 9-8) and the commands that act on them.
-/
namespace Sys2Proof.Machine

/-! ### Jobs -/

/-- A read of JOB_FETCH by an engine: its current job completes; a buffered or dispatchable job is returned, and otherwise
the engine waits (R273, R275, R276). -/
def jobFetch (e : Nat) (dst : Option Nat) (s : State) : State :=
  let s := completeJob e 0 s
  match (s.runner e).buf with
  | some j => returnJob e dst j (handWaybill e j s)
  | none =>
    match selectJob e s with
    | some (j, s) => returnJob e dst j (handWaybill e j s)
    | none =>
      updRunner e (fun r => { r with fetch := some dst }) { s with task := { s.task with waiters := s.task.waiters.filter (· != e) ++ [e] } }

/-- An engine, by the numbering of Table 9-14's dispatch: Ladle engine e, or 0x40 + n for DCn. -/
def isEngine (e : Nat) : Bool := decide (e < 32) || (decide (0x40 ≤ e) && decide (e < 0x5C))

/-- The engine can act on its ports now. -/
def State.canAct (s : State) (e : Nat) : Bool :=
  isEngine e && s.inService e && (s.runner e).fetch.isNone &&
    (decide (32 ≤ e) || ((s.eng e).sleep == .awake && !(s.eng e).debugHalt))

/-- JOB_FETCH (R273). -/
def execJobFetch (e : Nat) (s : State) : Host.Outcome State Fault Refusal :=
  .next (if s.canAct e && decide (e ≠ 0x5B) then jobFetch e none s else s)

/-- JOB_DONE (R276). -/
def execJobDone (e status : Nat) (s : State) : Host.Outcome State Fault Refusal :=
  .next (if s.canAct e then completeJob e status s else s)

/-- The queue is in the post list of the object that posts: that of the current job's slot, or of any slot of the engine
while it runs none; Drover firmware posts anywhere (R277, Table 9-16). -/
def State.mayPost (s : State) (e q : Nat) : Bool :=
  if 32 ≤ e then true
  else match (s.runner e).job with
    | some j => (s.kernel (s.parN Prm.taskQueueSlot j.queue)).posts.contains q
    | none => s.task.slot.any fun k => bit k.2.engines e && k.2.posts.contains q

/-- A write of POST_CTL (R277, Table 9-8). -/
def postCtl (e v : Nat) (s : State) : State :=
  let j : Job := { queue := v % 256, kind := 0, arg := (s.runner e).postArg, cost := bits v 19 8, barrier := bit v 20 }
  let (st, s) := postSoftware j (s.mayPost e j.queue) s
  updRunner e (fun r => { r with postStatus := st }) s

/-- POST_CTL, with the argument that POST_ARG holds (R277). -/
def execPostCtl (e arg v : Nat) (s : State) : Host.Outcome State Fault Refusal :=
  .next (if s.canAct e then postCtl e v (updRunner e (fun r => { r with postArg := arg % 2 ^ 32 }) s) else s)

/-! ### Weight loads -/

/-- Entries of a weight-load FIFO (Table 1-6, Table 9-9). -/
def weightFifo : Nat := 256

/-- WL_PUSH has credit in every named FIFO. -/
def State.wlCredit (s : State) (mask : Nat) : Bool :=
  (pick 8 (bit mask)).all fun k => decide ((s.mould k).fifo.length < weightFifo)

/-- The entry in WL_DATA0 to WL_DATA15. -/
def Ladle.wlEntry (x : Ladle) : Nat := (List.range 16).foldl (fun v n => v + x.wlData.get n * 2 ^ (32 * n)) 0

/-- Push the entry into each named FIFO, or stall until credit returns (Tables 9-7 and 9-8). The result is true when it was
pushed. -/
def wlPush (e mask : Nat) (s : State) : Bool × State :=
  if s.wlCredit mask then
    let v := (s.eng e).wlEntry
    (true, updEng e (fun x => { x with wlStall := false }) ((pick 8 (bit mask)).foldl (fun s k =>
      updMould k (fun m => { m with fifo := m.fifo ++ [v] }) s) s))
  else (false, updEng e (fun x => { x with wlStall := true }) s)

/-- WL_PUSH of an entry (R265). -/
def execWlPush (e mask entry : Nat) (s : State) : Host.Outcome State Fault Refusal :=
  .next (
    if s.canAct e && decide (e < 32) then
      let data := (List.range 16).foldl (fun (t : Tab Nat) n => t.put n (entry / 2 ^ (32 * n) % 2 ^ 32)) []
      (wlPush e mask (updEng e (fun x => { x with wlData := data }) s)).2
    else s)

/-! ### Acknowledgements and masks -/

/-- Sources of a 32-bit word of mask or pending bits that target the engine. -/
def State.ownBits (s : State) (e hi v : Nat) : Nat := (v % 2 ^ 32 * 2 ^ (32 * hi)) &&& s.targets e

/-- Set or clear bits of a 64-bit value. -/
def setBits (m v : Nat) : Nat := m ||| v
def clearBits (m v : Nat) : Nat := m - (m &&& v)

def maskSet (e hi v : Nat) (s : State) : State := updEng e (fun x => { x with mask := setBits x.mask (s.ownBits e hi v) }) s
def maskClr (e hi v : Nat) (s : State) : State := updEng e (fun x => { x with mask := clearBits x.mask (s.ownBits e hi v) }) s
def pendSet (e hi v : Nat) (s : State) : State := updEng e (fun x => { x with soft := setBits x.soft (s.ownBits e hi v) }) s
def pendClr (e hi v : Nat) (s : State) : State := updEng e (fun x => { x with soft := clearBits x.soft (s.ownBits e hi v) }) s

/-- ROUND_ACK, SWP_ACK, SEC_ACK and TMR_ACK act only for sources whose target is the writing engine (R265). -/
def roundAck (e r : Nat) (s : State) : State :=
  if r < 3 ∧ s.irqTarget (8 + r) = e then { s with task := { s.task with roundLevel := s.task.roundLevel.put r false } } else s
def swpAck (e r : Nat) (s : State) : State :=
  if r < 3 ∧ s.irqTarget (11 + r) = e then { s with task := { s.task with swpLevel := s.task.swpLevel.put r false } } else s
def secAck (e : Nat) (s : State) : State :=
  if s.irqTarget 60 = e then { s with task := { s.task with secLevel := false } } else s
def tmrAck (e t : Nat) (s : State) : State :=
  if s.irqTarget (56 + t) = e then
    { s with task := { s.task with timer := s.task.timer.upd t fun x => { x with level := false } } } else s

/-- A port command of a Ladle engine. -/
def onPort (e : Nat) (f : State → State) (s : State) : Host.Outcome State Fault Refusal :=
  .next (if s.canAct e && decide (e < 32) then f s else s)

def execMaskSet (e hi v : Nat) (s : State) : Host.Outcome State Fault Refusal := onPort e (maskSet e (hi % 2) v) s
def execMaskClr (e hi v : Nat) (s : State) : Host.Outcome State Fault Refusal := onPort e (maskClr e (hi % 2) v) s
def execPendSet (e hi v : Nat) (s : State) : Host.Outcome State Fault Refusal := onPort e (pendSet e (hi % 2) v) s
def execPendClr (e hi v : Nat) (s : State) : Host.Outcome State Fault Refusal := onPort e (pendClr e (hi % 2) v) s
def execRoundAck (e v : Nat) (s : State) : Host.Outcome State Fault Refusal := onPort e (roundAck e (v % 4)) s
def execSwpAck (e v : Nat) (s : State) : Host.Outcome State Fault Refusal := onPort e (swpAck e (v % 4)) s
def execDbSet (e v : Nat) (s : State) : Host.Outcome State Fault Refusal :=
  onPort e (updEng (v % 32) fun x => { x with doorbell := true }) s
def execDbClr (e : Nat) (s : State) : Host.Outcome State Fault Refusal :=
  onPort e (updEng e fun x => { x with doorbell := false }) s
def execSecAck (e : Nat) (s : State) : Host.Outcome State Fault Refusal := onPort e (secAck e) s
def execTmrAck (e v : Nat) (s : State) : Host.Outcome State Fault Refusal := onPort e (tmrAck e (v % 4)) s

/-- ICU_CLAIM (R269). -/
def execIcuClaim (e : Nat) (s : State) : Host.Outcome State Fault Refusal :=
  onPort e (fun s => let (v, s) := icuClaim e s; updEng e (fun x => { x with lastRead := v }) s) s

/-- ICU_COMPLETE (R270). -/
def execIcuComplete (e v : Nat) (s : State) : Host.Outcome State Fault Refusal :=
  onPort e (fun s => match icuComplete e v s with
    | (some c, s) => faultEntry e c s
    | (none, s) => s) s

/-- DMA_STATUS (R389). -/
def execDmaStatus (e : Nat) (s : State) : Host.Outcome State Fault Refusal :=
  onPort e (fun s => let (v, s) := dmaStatus e s; updEng e (fun x => { x with lastRead := v }) s) s

/-- DMA_GO (R389): by a Ladle engine on channel [4:0] of its Sprue engine with the list at `a`, or by firmware (e = 0x40 + n)
on channel v. -/
def execDmaGo (e v a : Nat) (s : State) : Host.Outcome State Fault Refusal :=
  .next (
    if !s.canAct e then s
    else if e < 32 then
      ladleDmaGo e (v % 32) (updEng e (fun x => { x with dmaLo := a % 2 ^ 32, dmaHi := a / 2 ^ 32 % 2 ^ 32 }) s)
    else firmwareDmaGo v (a % 2 ^ 64) s)

/-! ### Ports by address -/

/-- Half of a timer compare register. -/
def State.tmrCmp (s : State) (n : Nat) : Nat :=
  let t := s.task.timer.get (n / 2)
  if n % 2 = 0 then t.lo else t.hi

/-- Write half of a timer compare; the timer is armed (Table 9-8). -/
def setTmrCmp (n v : Nat) (s : State) : State :=
  { s with task := { s.task with timer := s.task.timer.upd (n / 2) fun t =>
      if n % 2 = 0 then { t with lo := v, armed := true } else { t with hi := v, armed := true } } }

/-- IN of every port but JOB_FETCH (Table 9-8); an unassigned address reads 0. -/
def portRead (e io : Nat) (s : State) : Nat × State :=
  let x := s.eng e
  let r := s.runner e
  if 0x078 ≤ io ∧ io ≤ 0x07F then (s.tmrCmp (io - 0x078), s)
  else match io with
    | 0x001 => (r.info, s)
    | 0x005 => (r.postStatus, s)
    | 0x033 => dmaStatus e s
    | 0x040 => icuClaim e s
    | 0x042 => ((match x.stack with | h :: _ => (if h.source = 0x40 then 0xFF else h.source) | [] => 0xFF) + x.stack.length % 16 * 2 ^ 8, s)
    | 0x048 => (x.mask % 2 ^ 32, s)
    | 0x049 => (x.mask / 2 ^ 32, s)
    | 0x050 => (s.irqPend e % 2 ^ 32, s)
    | 0x051 => (s.irqPend e / 2 ^ 32, s)
    | 0x060 => (x.pwrm, s)
    | 0x0F0 => (x.faultCause, s)
    | _ => (0, s)

/-- What an OUT does beyond its effect. -/
inductive PortEnd where
  /-- the instruction is done -/
  | done
  /-- it stalls and issues again -/
  | stall
  | fault (c : Nat)
deriving DecidableEq, Repr, Inhabited

/-- OUT of a value to a port (Table 9-8); a write to an unassigned address is ignored. -/
def portWrite (e io v : Nat) (s : State) : PortEnd × State :=
  if 0x010 ≤ io ∧ io ≤ 0x01F then (.done, updEng e (fun x => { x with wlData := x.wlData.put (io - 0x010) v }) s)
  else if 0x078 ≤ io ∧ io ≤ 0x07F then (.done, setTmrCmp (io - 0x078) v s)
  else match io with
    | 0x002 => (.done, completeJob e v s)
    | 0x003 => (.done, updRunner e (fun r => { r with postArg := v }) s)
    | 0x004 => (.done, postCtl e v s)
    | 0x020 => match wlPush e (v % 256) s with
      | (true, s) => (.done, s)
      | (false, s) => (.stall, s)
    | 0x030 => (.done, updEng e (fun x => { x with dmaLo := v }) s)
    | 0x031 => (.done, updEng e (fun x => { x with dmaHi := v }) s)
    | 0x032 => (.done, ladleDmaGo e (v % 32) s)
    | 0x041 => match icuComplete e v s with
      | (some c, s) => (.fault c, s)
      | (none, s) => (.done, s)
    | 0x044 => (.done, maskSet e 0 v s)
    | 0x045 => (.done, maskSet e 1 v s)
    | 0x046 => (.done, maskClr e 0 v s)
    | 0x047 => (.done, maskClr e 1 v s)
    | 0x04C => (.done, pendSet e 0 v s)
    | 0x04D => (.done, pendSet e 1 v s)
    | 0x04E => (.done, pendClr e 0 v s)
    | 0x04F => (.done, pendClr e 1 v s)
    | 0x060 => (.done, updEng e (fun x => { x with pwrm := v % 16 }) s)
    | 0x070 => (.done, roundAck e (v % 4) s)
    | 0x071 => (.done, swpAck e (v % 4) s)
    | 0x072 => (.done, updEng (v % 32) (fun x => { x with doorbell := true }) s)
    | 0x073 => (.done, updEng e (fun x => { x with doorbell := false }) s)
    | 0x074 => (.done, secAck e s)
    | 0x075 => (.done, tmrAck e (v % 4) s)
    | _ => (.done, s)

end Sys2Proof.Machine
end

