-- ==== Sys2Proof/Machine/LadleIsa.lean ====
section
/-!
DEFINITION. The Ladle instruction set (R252 to R263): one meaning per instruction over the shared operand and flag
operations. Each is the issue of that instruction by engine e with the fields of its word.
-/
namespace Sys2Proof.Machine

/-- What an instruction does to its engine. -/
inductive Issue where
  /-- go on at the next word, or at the loop start -/
  | ok (x : Ladle)
  /-- go on at a word -/
  | jump (x : Ladle) (pc : Nat)
  | fault (c : Nat)

/-- The engine can issue an instruction. Log entry 52 (DEDUCED). -/
def State.canIssue (s : State) (e : Nat) : Bool := decide (e < 32) && s.canAct e

/-- The word after the one at `pc`: loop ends count down and return to their start (R263). -/
def Bank.afterWord (b : Bank) (pc : Nat) : Bank × Nat :=
  if b.lpc ≠ 0 ∧ pc = b.lpe then
    if 1 < b.lpc then ({ b with lpc := b.lpc - 1 }, b.lps)
    else
      let o := { b with lpc := b.lpc2, lps := b.lps2, lpe := b.lpe2, lpc2 := 0 }
      if o.lpc ≠ 0 ∧ pc = o.lpe then
        if 1 < o.lpc then ({ o with lpc := o.lpc - 1 }, o.lps) else ({ o with lpc := 0 }, (pc + 1) % 16384)
      else (o, (pc + 1) % 16384)
  else (b, (pc + 1) % 16384)

/-- Exposed hazards draw nearer to their end by one instruction (Table 9-7). -/
def Ladle.age (x : Ladle) : Ladle :=
  { x with
    late := (x.late.map fun e => (e.1, e.2.1, e.2.2 - 1)).filter fun e => e.2.2 ≠ 0
    exposed := (x.exposed.map fun e => { e with left := e.left - 1 }).filter fun e => e.left ≠ 0 }

/-- Step to the next word. Log entry 52 (DEDUCED). -/
def Ladle.nextWord (x : Ladle) : Ladle :=
  let (b, pc) := x.bank.afterWord x.pc
  { (x.setBank b) with pc := pc }

/-- The word at PC ends a loop body. -/
def Ladle.atLoopEnd (x : Ladle) : Bool := decide (x.bank.lpc ≠ 0) && decide (x.pc = x.bank.lpe)

/-- Issue an instruction that acts on its engine alone; `ends` says that it may not end a loop body (R263).
Log entry 52 (DEDUCED). -/
def issue (e : Nat) (ends : Bool) (op : Ladle → Issue) (s : State) : Host.Outcome State Fault Refusal :=
  .next (
    if !s.canIssue e then s
    else
      let x := s.eng e
      if ends && x.atLoopEnd then faultEntry e 1 s
      else match op x with
        | .ok y => updEng e (fun _ => y.nextWord.age) s
        | .jump y pc => updEng e (fun _ => { y.age with pc := pc % 16384 }) s
        | .fault c => faultEntry e c s)

/-! ### Format M -/

/-- The loads of the two moves (R257); the multiply has used the feed registers as they stood. -/
def loadMoves (x : Ladle) (mx my : Option Move) : Issue :=
  match mx, my with
  | some a, some b => if a.f = b.f then .fault 1 else step x [(false, a), (true, b)]
  | some a, none => step x [(false, a)]
  | none, some b => step x [(true, b)]
  | none, none => .ok x
where
  step (x : Ladle) : List (Bool × Move) → Issue
    | [] => .ok x
    | (y, m) :: t =>
      let j := m.i + (if y then 4 else 0)
      let a := x.bank.idx.get j
      if a % 4 ≠ 0 then .fault 2
      else
        let v := x.word y a
        let b := x.bank
        step ((x.setBank { b with f := b.f.put m.f v }).postModify j m.step) t

/-- A format M instruction: the arithmetic on u and w, then the moves. -/
def multiply (f : FmtM) (complex_ quad : Bool) (op : Bank → Nat → Nat → Bank) (x : Ladle) : Issue :=
  if f.rsv ≠ 0 then .fault 1
  else if complex_ ∧ f.a ≠ 0 ∧ f.a ≠ 2 then .fault 1
  else if quad ∧ f.a ≠ 0 then .fault 1
  else match parseMove f.xm, parseMove f.ym with
    | some mx, some my =>
      let b := x.bank
      loadMoves (x.setBank (op b (b.f.get f.u) (b.f.get f.w))) mx my
    | _, _ => .fault 1

/-- The complex product, with w conjugated on request (R259). Log entry 55 (DEDUCED). -/
def Bank.cprod (b : Bank) (conj : Bool) (u w : Nat) : Int × Int × Bool :=
  let iw := if conj then -(im w) else im w
  let (rr, s1) := b.prod (re u) (re w)
  let (ii, s2) := b.prod (im u) iw
  let (ri, s3) := b.prod (re u) iw
  let (ir, s4) := b.prod (im u) (re w)
  (rr - ii, ri + ir, s1 || s2 || s3 || s4)

/-- Accumulate a complex product into a and a + 1. -/
def Bank.cmac (b : Bank) (f : FmtM) (conj neg : Bool) (u w : Nat) : Bank :=
  let (r, i, sv) := b.cprod conj u w
  let g := fun (v : Int) => if neg then -v else v
  ((b.stick St.sv sv).accAdd f.a (g r) f.s).accAdd (f.a + 1) (g i) f.s

/-- Clear two accumulators. -/
def Bank.clear2 (b : Bank) (a : Nat) : Bank := (b.setAcc a 0).setAcc (a + 1) 0

/-- The four real products. -/
def Bank.qmac (b : Bank) (f : FmtM) (u w : Nat) : Bank :=
  let add := fun (b : Bank) (k : Nat) (p : Int × Bool) => (b.stick St.sv p.2).accAdd k p.1 f.s
  add (add (add (add b 0 (b.prod (re u) (re w))) 1 (b.prod (re u) (im w))) 2 (b.prod (im u) (re w))) 3 (b.prod (im u) (im w))

/-- A real product. -/
def Bank.rmac (b : Bank) (f : FmtM) (neg : Bool) (u w : Nat) : Bank :=
  let p := b.prod (re u) (re w)
  (b.stick St.sv p.2).accAdd f.a (if neg then -p.1 else p.1) f.s

def execLeCmac (e : Nat) (f : FmtM) (s : State) := issue e false (multiply f true false fun b u w => b.cmac f false false u w) s
def execLeCmacc (e : Nat) (f : FmtM) (s : State) := issue e false (multiply f true false fun b u w => b.cmac f true false u w) s
def execLeCmsu (e : Nat) (f : FmtM) (s : State) := issue e false (multiply f true false fun b u w => b.cmac f false true u w) s
def execLeCmpy (e : Nat) (f : FmtM) (s : State) := issue e false (multiply f true false fun b u w => (b.clear2 f.a).cmac f false false u w) s
def execLeCmpyc (e : Nat) (f : FmtM) (s : State) := issue e false (multiply f true false fun b u w => (b.clear2 f.a).cmac f true false u w) s
def execLeQmac (e : Nat) (f : FmtM) (s : State) := issue e false (multiply f false true fun b u w => b.qmac f u w) s
def execLeQmpy (e : Nat) (f : FmtM) (s : State) := issue e false (multiply f false true fun b u w => ((b.clear2 0).clear2 2).qmac f u w) s
def execLeMac (e : Nat) (f : FmtM) (s : State) := issue e false (multiply f false false fun b u w => b.rmac f false u w) s
def execLeMsu (e : Nat) (f : FmtM) (s : State) := issue e false (multiply f false false fun b u w => b.rmac f true u w) s
def execLeMpy (e : Nat) (f : FmtM) (s : State) := issue e false (multiply f false false fun b u w => (b.setAcc f.a 0).rmac f false u w) s
def execLeFeed (e : Nat) (f : FmtM) (s : State) := issue e false (multiply f false false fun b _ _ => b) s

/-- A filter tap: multiply the values that the moves load, and move the delay line up one word (R260). -/
def firTap (f : FmtM) (real : Bool) (x : Ladle) : Issue :=
  match parseMove f.xm, parseMove f.ym with
  | some (some mx), some (some my) =>
    let b := x.bank
    let ax := b.idx.get mx.i
    let ay := b.idx.get (4 + my.i)
    if f.rsv ≠ 0 ∨ mx.f = my.f ∨ (!real ∧ f.a ≠ 0 ∧ f.a ≠ 2) then .fault 1
    else if ax % 4 ≠ 0 ∨ ay % 4 ≠ 0 then .fault 2
    else
      let xv := x.word false ax
      let yv := x.word true ay
      let b := if real then b.rmac f false xv yv else b.cmac f false false xv yv
      let up := x.advance mx.i 4 ax
      let b := { b with f := (b.f.put mx.f xv).put my.f yv }
      let x := x.setBank b
      let x := { x with x := x.x.write up (le 4 xv) }
      .ok ((x.postModify mx.i mx.step).postModify (4 + my.i) my.step)
  | _, _ => .fault 1

def execLeFirmv (e : Nat) (f : FmtM) (s : State) := issue e false (firTap f false) s
def execLeFirmvr (e : Nat) (f : FmtM) (s : State) := issue e false (firTap f true) s

/-! ### Format A -/

/-- Kind that an operand field of format A must name. -/
inductive Kind where
  | acc | gen | any | imm | unused
deriving DecidableEq, Repr

/-- A register code is of the right kind (R256, R261). -/
def Kind.admits (k : Kind) (c : Nat) : Bool :=
  match k with | .acc => isA c | .gen => isD c | .any => decide (c < 16) | .imm | .unused => true

/-- A format A instruction. -/
def register (f : FmtA) (d a b : Kind) (op : Bank → Bank) (x : Ladle) : Issue :=
  if f.rsv ≠ 0 ∨ !d.admits f.d ∨ !a.admits f.a ∨ !b.admits f.b then .fault 1
  else .ok (x.setBank (op x.bank))

/-- Accumulator that a code names. -/
def accNo (c : Nat) : Nat := c - 12

/-- Put an exact accumulator result with Z and N (R261). -/
def Bank.accRes (b : Bank) (f : FmtA) (t : Int) (s : Bool) : Bank :=
  let b := b.putAcc (accNo f.d) t s
  b.zn (b.accOf (accNo f.d))

/-- Put a result in the destination D with Z and N. -/
def Bank.dRes (b : Bank) (f : FmtA) (v : Nat) : Bank := (b.setD f.d v).zn (signed 32 v)

def execLeAclr (e : Nat) (f : FmtA) (s : State) := issue e false (register f .acc .unused .unused fun b => b.accRes f 0 false) s
def execLeAadd (e : Nat) (f : FmtA) (s : State) :=
  issue e false (register f .acc .acc .acc fun b => b.accRes f (b.accOf (accNo f.a) + b.accOf (accNo f.b)) f.s) s
def execLeAsub (e : Nat) (f : FmtA) (s : State) :=
  issue e false (register f .acc .acc .acc fun b => b.accRes f (b.accOf (accNo f.a) - b.accOf (accNo f.b)) f.s) s
def execLeAneg (e : Nat) (f : FmtA) (s : State) :=
  issue e false (register f .acc .acc .unused fun b => b.accRes f (-b.accOf (accNo f.a)) f.s) s
def execLeAabs (e : Nat) (f : FmtA) (s : State) :=
  issue e false (register f .acc .acc .unused fun b => b.accRes f (b.accOf (accNo f.a)).natAbs f.s) s
def execLeAshl (e : Nat) (f : FmtA) (s : State) :=
  issue e false (register f .acc .acc .imm fun b => b.accRes f (b.accOf (accNo f.a) * 2 ^ f.b) f.s) s
def execLeAshr (e : Nat) (f : FmtA) (s : State) :=
  issue e false (register f .acc .acc .imm fun b => b.accRes f (b.accOf (accNo f.a) / 2 ^ f.b) false) s
def execLeAshv (e : Nat) (f : FmtA) (s : State) :=
  issue e false (register f .acc .acc .gen fun b =>
    let k := signed 6 (b.dOf f.b)
    let v := b.accOf (accNo f.a)
    b.accRes f (if 0 ≤ k then v * 2 ^ k.toNat else v / 2 ^ (-k).toNat) f.s) s
/-- Log entry 55 (DEDUCED). -/
def execLeArnd (e : Nat) (f : FmtA) (s : State) :=
  issue e false (register f .acc .acc .unused fun b => b.accRes f (b.round (b.accOf (accNo f.a)) / 65536 * 65536) false) s
def execLeAmov (e : Nat) (f : FmtA) (s : State) :=
  issue e false (register f .acc .acc .unused fun b => b.accRes f (b.accOf (accNo f.a)) false) s
def execLeAnorm (e : Nat) (f : FmtA) (s : State) :=
  issue e false (register f .gen .acc .unused fun b => b.dRes f (signBits 40 (b.accOf (accNo f.a)))) s
def execLeAext (e : Nat) (f : FmtA) (s : State) :=
  issue e false (register f .gen .acc .unused fun b =>
    let (v, c) := b.wordOf (accNo f.a)
    (b.stick St.sv c).dRes f v) s
def execLeAins (e : Nat) (f : FmtA) (s : State) :=
  issue e false (register f .acc .gen .unused fun b => b.accRes f (b.dInt f.a) false) s
def execLePack (e : Nat) (f : FmtA) (s : State) :=
  issue e false (register f .gen .acc .acc fun b =>
    let (h, c1) := b.halfOf (accNo f.a)
    let (l, c2) := b.halfOf (accNo f.b)
    (b.stick St.sv (c1 || c2)).dRes f (complexWord h l)) s

/-- ADD and SUB. -/
def Bank.addSubD (b : Bank) (f : FmtA) (sub : Bool) : Bank :=
  let (v, c, sv) := addSub sub f.s (b.dOf f.a) (b.dOf f.b)
  ((b.stick St.sv sv).setD f.d v).znc v c

def execLeAdd (e : Nat) (f : FmtA) (s : State) := issue e false (register f .gen .gen .gen fun b => b.addSubD f false) s
def execLeSub (e : Nat) (f : FmtA) (s : State) := issue e false (register f .gen .gen .gen fun b => b.addSubD f true) s
def execLeAnd (e : Nat) (f : FmtA) (s : State) :=
  issue e false (register f .gen .gen .gen fun b => b.dRes f (b.dOf f.a &&& b.dOf f.b)) s
def execLeOr (e : Nat) (f : FmtA) (s : State) :=
  issue e false (register f .gen .gen .gen fun b => b.dRes f (b.dOf f.a ||| b.dOf f.b)) s
def execLeXor (e : Nat) (f : FmtA) (s : State) :=
  issue e false (register f .gen .gen .gen fun b => b.dRes f (b.dOf f.a ^^^ b.dOf f.b)) s
def execLeShl (e : Nat) (f : FmtA) (s : State) :=
  issue e false (register f .gen .gen .gen fun b => b.dRes f (b.dOf f.a * 2 ^ (b.dOf f.b % 32) % 2 ^ 32)) s
def execLeShr (e : Nat) (f : FmtA) (s : State) :=
  issue e false (register f .gen .gen .gen fun b => b.dRes f (b.dOf f.a / 2 ^ (b.dOf f.b % 32))) s
def execLeSar (e : Nat) (f : FmtA) (s : State) :=
  issue e false (register f .gen .gen .gen fun b => b.dRes f (twos 32 (b.dInt f.a / 2 ^ (b.dOf f.b % 32)))) s
def execLeMin (e : Nat) (f : FmtA) (s : State) :=
  issue e false (register f .gen .gen .gen fun b => b.dRes f (twos 32 (min (b.dInt f.a) (b.dInt f.b)))) s
def execLeMax (e : Nat) (f : FmtA) (s : State) :=
  issue e false (register f .gen .gen .gen fun b => b.dRes f (twos 32 (max (b.dInt f.a) (b.dInt f.b)))) s
def execLeCmp (e : Nat) (f : FmtA) (s : State) :=
  issue e false (register f .unused .gen .gen fun b =>
    let (v, c, _) := addSub true false (b.dOf f.a) (b.dOf f.b)
    b.znc v c) s
def execLeCls (e : Nat) (f : FmtA) (s : State) :=
  issue e false (register f .gen .gen .unused fun b => b.dRes f (signBits 32 (b.dInt f.a))) s

/-- MOV: any register code to any (R261); Z and N come from a value moved to a general register or an accumulator.
Log entry 55 (DEDUCED). -/
def execLeMov (e : Nat) (f : FmtA) (s : State) :=
  issue e false (register f .any .any .unused fun b =>
    let (v, c) := b.code f.a
    let b := (b.stick St.sv c).setCode f.d v
    if isF f.d then b else b.zn (signed 32 v)) s

/-- ADD16 and SUB16. -/
def Bank.addSubHalves (b : Bank) (f : FmtA) (sub : Bool) : Bank :=
  let (x, y) := (b.dOf f.a, b.dOf f.b)
  let (h, c1) := addSub16 sub f.s (re x) (re y)
  let (l, c2) := addSub16 sub f.s (im x) (im y)
  (b.stick St.sv (c1 || c2)).dRes f (complexWord h l)

def execLeAdd16 (e : Nat) (f : FmtA) (s : State) := issue e false (register f .gen .gen .gen fun b => b.addSubHalves f false) s
def execLeSub16 (e : Nat) (f : FmtA) (s : State) := issue e false (register f .gen .gen .gen fun b => b.addSubHalves f true) s
def execLeConj (e : Nat) (f : FmtA) (s : State) :=
  issue e false (register f .gen .gen .unused fun b =>
    let i := -(im (b.dOf f.a))
    (b.stick St.sv (decide (sat i 16 ≠ i))).dRes f (complexWord (re (b.dOf f.a)) (sat i 16))) s
def execLeSwap (e : Nat) (f : FmtA) (s : State) :=
  issue e false (register f .gen .gen .unused fun b => b.dRes f (complexWord (im (b.dOf f.a)) (re (b.dOf f.a)))) s

/-- RCP and RSQ: a value within the relative error, which one is left open; out of range 0x7FFFFFFF and V (R261).
Log entry 56 (DESIGN CHOICE). -/
def estimate (e : Nat) (f : FmtA) (range : Nat → Nat × Nat) (s : State) : Host.Outcome State Fault Refusal :=
  let a := (s.eng e).bank.dOf f.a
  let (lo, hi) := range a
  let (k, t) := drawBelow (hi + 1 - lo) s
  if estimateIn a then issue e false (register f .gen .gen .unused fun b => b.dRes f (lo + k)) (if s.canIssue e then t else s)
  else issue e false (register f .gen .gen .unused fun b => (b.dRes f 0x7FFFFFFF).setFlag St.v true) s

def execLeRcp (e : Nat) (f : FmtA) (s : State) := estimate e f rcpRange s
def execLeRsq (e : Nat) (f : FmtA) (s : State) := estimate e f rsqRange s

/-! ### Format I -/

/-- A format I instruction that writes D. -/
def immediate (f : FmtI) (op : Bank → Nat) (x : Ladle) : Issue :=
  if !isD f.d ∨ !isD f.a then .fault 1
  else
    let v := op x.bank % 2 ^ 32
    .ok (x.setBank ((x.bank.setD f.d v).zn (signed 32 v)))

/-- The immediate, sign-extended, as a 32-bit pattern. -/
def immSx (f : FmtI) : Nat := twos 32 (signed 16 f.imm)

def execLeMovi (e : Nat) (f : FmtI) (s : State) := issue e false (immediate { f with a := 0 } fun _ => immSx f) s
def execLeMovu (e : Nat) (f : FmtI) (s : State) :=
  issue e false (immediate { f with a := 0 } fun b => f.imm % 65536 * 65536 + b.dOf f.d % 65536) s
def execLeAddi (e : Nat) (f : FmtI) (s : State) := issue e false (immediate f fun b => b.dOf f.a + immSx f) s
def execLeAndi (e : Nat) (f : FmtI) (s : State) := issue e false (immediate f fun b => b.dOf f.a &&& f.imm % 65536) s
def execLeOri (e : Nat) (f : FmtI) (s : State) := issue e false (immediate f fun b => b.dOf f.a ||| f.imm % 65536) s
def execLeCmpi (e : Nat) (f : FmtI) (s : State) :=
  issue e false (fun x =>
    if !isD f.a then .fault 1
    else
      let (v, c, _) := addSub true false (x.bank.dOf f.a) (immSx f)
      .ok (x.setBank (x.bank.znc v c))) s
def execLeShli (e : Nat) (f : FmtI) (s : State) := issue e false (immediate f fun b => b.dOf f.a * 2 ^ (f.imm % 32)) s
def execLeSari (e : Nat) (f : FmtI) (s : State) :=
  issue e false (immediate f fun b => twos 32 (b.dInt f.a / 2 ^ (f.imm % 32))) s

/-! ### Formats LX and LY -/

/-- Effective address of a load or store (R255). -/
def Ladle.effective (x : Ladle) (y : Bool) (f : FmtL) : Nat :=
  let i := x.bank.idx.get (f.i + (if y then 4 else 0))
  match f.mode with | 0 => i | 1 => (i + f.off) % 65536 | _ => f.off % 65536

/-- The address mode's own update. -/
def Ladle.afterAccess (x : Ladle) (y : Bool) (f : FmtL) : Ladle :=
  if f.mode = 0 then x.postModify (f.i + (if y then 4 else 0)) f.step else x

/-- The access is illegal or misaligned: fault cause (R255, R256). -/
def accessFault (f : FmtL) (a : Nat) : Option Nat :=
  if 3 ≤ f.mode ∨ 16 ≤ f.reg then some 1
  else if a % (if f.half then 2 else 4) ≠ 0 then some 2
  else none

/-- LDX and LDY (R258). -/
def load (y : Bool) (f : FmtL) (x : Ladle) : Issue :=
  let a := x.effective y f
  match accessFault f a with
  | some c => .fault c
  | none =>
    let w := x.seenWord y a
    let v := if f.half then twos 32 (signed 16 (w / 2 ^ (8 * (a % 4)) % 65536)) else w
    .ok ((x.setBank (x.bank.setCode f.reg v)).afterAccess y f)

/-- STX and STY (R258). -/
def store (y : Bool) (f : FmtL) (x : Ladle) : Issue :=
  let a := x.effective y f
  match accessFault f a with
  | some c => .fault c
  | none =>
    let b := x.bank
    let (v, c) := if isA f.reg then
        (if f.half then (let (h, c) := b.halfOf (f.reg - 12); (twos 16 h, c)) else b.wordOf (f.reg - 12))
      else b.code f.reg
    let x := (x.setBank (b.stick St.sv c)).store y a (le (if f.half then 2 else 4) v)
    .ok (x.afterAccess y f)

def execLeLdx (e : Nat) (f : FmtL) (s : State) := issue e false (load false f) s
def execLeStx (e : Nat) (f : FmtL) (s : State) := issue e false (store false f) s
def execLeLdy (e : Nat) (f : FmtL) (s : State) := issue e false (load true f) s
def execLeSty (e : Nat) (f : FmtL) (s : State) := issue e false (store true f) s

/-! ### Format B -/

/-- Condition codes 0 to 8; `none` is illegal (R262). -/
def Bank.condition (b : Bank) (c : Nat) : Option Bool :=
  let z := b.flag St.z
  let n := b.flag St.n
  match c with
  | 0 => some true
  | 1 => some z
  | 2 => some (!z)
  | 3 => some n
  | 4 => some (!n)
  | 5 => some (!z && !n)
  | 6 => some (z || n)
  | 7 => some (b.flag St.v)
  | 8 => some (b.flag St.c)
  | _ => none

/-- BR and BRI. -/
def branch (f : FmtB) (target : Bank → Nat) (indirect : Bool) (x : Ladle) : Issue :=
  if f.rsv ≠ 0 ∨ (indirect ∧ !isD f.reg) then .fault 1
  else match x.bank.condition f.cond with
    | none => .fault 1
    | some true => .jump x (target x.bank)
    | some false => .jump x (x.pc + 1)

/-- CALL and CALLI. -/
def call (f : FmtB) (target : Bank → Nat) (indirect : Bool) (x : Ladle) : Issue :=
  if f.rsv ≠ 0 ∨ (indirect ∧ !isD f.reg) then .fault 1
  else .jump (x.setBank { x.bank with lr := (x.pc + 1) % 16384 }) (target x.bank)

/-- LOOP and LOOPI with a count (R263). -/
def loop (count : Bank → Nat) (f : FmtB) (x : Ladle) : Issue :=
  let b := x.bank
  let n := count b
  if f.rsv ≠ 0 then .fault 1
  else if b.lpc ≠ 0 ∧ b.lpc2 ≠ 0 then .fault 3
  else if n = 0 then .jump x (f.target + 1)
  else
    let b := if b.lpc ≠ 0 then { b with lpc2 := b.lpc, lps2 := b.lps, lpe2 := b.lpe } else b
    .jump (x.setBank { b with lpc := n, lps := (x.pc + 1) % 16384, lpe := f.target % 16384 }) (x.pc + 1)

def execLeBr (e : Nat) (f : FmtB) (s : State) := issue e true (branch f (fun _ => f.target) false) s
def execLeCall (e : Nat) (f : FmtB) (s : State) := issue e true (call f (fun _ => f.target) false) s
def execLeRet (e : Nat) (f : FmtB) (s : State) := issue e true (fun x => if f.rsv ≠ 0 then .fault 1 else .jump x x.bank.lr) s
def execLeLoop (e : Nat) (f : FmtB) (s : State) :=
  issue e true (fun x => if isD f.reg then loop (fun b => b.dOf f.reg % 65536) f x else .fault 1) s
def execLeLoopi (e : Nat) (f : FmtB) (s : State) := issue e true (loop (fun _ => f.cond * 16 + f.reg) f) s
def execLeBri (e : Nat) (f : FmtB) (s : State) := issue e true (branch f (fun b => b.dOf f.reg % 16384) true) s
def execLeCalli (e : Nat) (f : FmtB) (s : State) := issue e true (call f (fun b => b.dOf f.reg % 16384) true) s

/-- RETI (R271). -/
def execLeReti (e : Nat) (f : FmtB) (s : State) : Host.Outcome State Fault Refusal :=
  .next (
    if !s.canIssue e then s
    else if f.rsv ≠ 0 ∨ (s.eng e).atLoopEnd then faultEntry e 1 s
    else returnFromHandler e (updEng e Ladle.age s))

/-! ### Format S -/

def execLeNop (e : Nat) (f : FmtS) (s : State) := issue e false (fun x => .ok x) s

/-- FENCE: every store, OUT, push and Sprue request has been accepted when its command ends. -/
def execLeFence (e : Nat) (f : FmtS) (s : State) := issue e false (fun x => .ok { x with exposed := [] }) s

/-- MFS; the special register must exist. -/
def execLeMfs (e : Nat) (f : FmtS) (s : State) :=
  issue e false (fun x =>
    if !isD f.reg ∨ !specialExists f.sreg then .fault 1
    else .ok (x.setBank (x.bank.setD f.reg (x.special e s.time.cycles f.sreg)))) s

def execLeMts (e : Nat) (f : FmtS) (s : State) :=
  issue e false (fun x =>
    if !isD f.reg ∨ !specialExists f.sreg then .fault 1
    else .ok (x.setSpecial f.sreg (x.bank.dOf f.reg))) s

/-- ST[7:3] bits of a mask (R262). -/
def modeMask (f : FmtS) : Nat := f.io % 256 / 8 * 8

def execLeSetm (e : Nat) (f : FmtS) (s : State) :=
  issue e false (fun x => .ok (x.setBank { x.bank with st := setBits x.bank.st (modeMask f) })) s
def execLeClrm (e : Nat) (f : FmtS) (s : State) :=
  issue e false (fun x => .ok (x.setBank { x.bank with st := clearBits x.bank.st (modeMask f) })) s

/-- WAIT (R281). -/
def execLeWait (e : Nat) (f : FmtS) (s : State) : Host.Outcome State Fault Refusal :=
  let x := s.eng e
  .next (
    if !s.canIssue e then s
    else if x.atLoopEnd then faultEntry e 1 s
    else if bits x.pwrm 3 2 = 0 ∨ x.pwrm % 4 = 3 then faultEntry e 9 s
    else if s.wakes e then bump Prm.ladleWaitNosleep e (updEng e (fun x => x.nextWord.age) s)
    else updEng e (fun x => { x.age with
      sleep := match x.pwrm % 4 with | 0 => .idle | 1 => .nap | _ => .dormant }) s)

/-- IN (R265): a read of JOB_FETCH completes the current job and may block. -/
def execLeIn (e : Nat) (f : FmtS) (s : State) : Host.Outcome State Fault Refusal :=
  .next (
    if !s.canIssue e then s
    else if !isD f.reg then faultEntry e 1 s
    else if f.io = 0 then jobFetch e (some f.reg) (updEng e Ladle.age s)
    else
      let (v, s) := portRead e f.io s
      updEng e (fun x => ((x.setBank (x.bank.setD f.reg v)).nextWord).age) s)

/-- OUT (R265). -/
def execLeOut (e : Nat) (f : FmtS) (s : State) : Host.Outcome State Fault Refusal :=
  .next (
    if !s.canIssue e then s
    else if !isD f.reg then faultEntry e 1 s
    else match portWrite e f.io ((s.eng e).bank.dOf f.reg) s with
      | (.done, s) => updEng e (fun x => x.nextWord.age) s
      | (.stall, s) => s
      | (.fault c, s) => faultEntry e c s)

/-- BREAK: a halt for the debugger when debug of the Ladle engines is unlocked, else the fault exception (R262, R485).
Log entry 55 (DEDUCED). -/
def execLeBreak (e : Nat) (f : FmtS) (s : State) : Host.Outcome State Fault Refusal :=
  .next (
    if !s.canIssue e then s
    else if bit s.sec.debugPerms 0 then updEng e (fun x => { x.age with debugHalt := true }) s
    else faultEntry e 8 s)

end Sys2Proof.Machine
end

