-- ==== Sys2Proof/Machine/TableCat.lean ====
section
/-!
DEFINITION. The catalogue of tables: which are read-only, what their commit checks, which units switch them, and what their
switch does (R82 to R87 and the table rules of each chapter).
-/
namespace Sys2Proof.Machine

/-! ### Tables that no other file defines -/

/-- BEAM.tone_map (R183), read-only. -/
def Tbl.toneMap : TableDef where
  id := 0x07100000
  insts := 3
  entries := groupsWidest
  size := 4

/-- PON.alloc (R307), read-only. -/
def Tbl.ponAlloc : TableDef where
  id := 0x0B110000
  insts := 1
  entries := fun _ => 64
  size := 8

/-- CVN.neighbours (Table 15-8), read-only. -/
def Tbl.cvnNeighbours : TableDef where
  id := 0x14100000
  insts := 1
  entries := fun _ => 2048
  size := 16

/-- SEC.cust_root (R472), write-once. -/
def Tbl.secCustRoot : TableDef where
  id := 0x15100000
  insts := 2
  entries := fun _ => 1
  size := 48

/-- SEC.debug_token (R484). -/
def Tbl.secDebugToken : TableDef where
  id := 0x15120000
  insts := 1
  entries := fun _ => 1
  size := 320

/-- PKT.tcam (R346), versioned. -/
def Tbl.pktTcam : TableDef where
  id := 0x0C100000
  insts := 1
  entries := fun _ => 16384
  size := 176
  versioned := true

/-- PKT.flow (R351), versioned. -/
def Tbl.pktFlow : TableDef where
  id := 0x0C110000
  insts := 1
  entries := fun _ => 4194304
  size := 64
  versioned := true

/-- Entry i of PON.alloc (Table 10-6). -/
def State.allocEntry (s : State) (i : Nat) : List Byte :=
  let a := s.pon.alloc.get i
  if a.used then le 8 (a.allocId % 2 ^ 14 + 2 ^ 14 + b2n (decide (i = 0)) * 2 ^ 15 + min a.sec (2 ^ 32 - 1) * 2 ^ 32) else le 8 0

/-! ### Checks of the PKT rules (R349) -/

/-- The active page of a table holds a valid entry where a rule names one: a valid next hop, a group with a member, an
indirection table all of whose entries name queues. -/
def State.nexthopOk (s : State) (n : Nat) : Bool := bit (fieldAt (s.entry Tbl.pktNexthop 0 n) 18 1) 0
def State.mcastOk (s : State) (g : Nat) : Bool := (List.range 64).any fun k => decide (s.entryNat Tbl.pktMcast g k ≠ 0xFFFF)
def State.itableOk (s : State) (t : Nat) : Bool := (List.range 512).all fun k =>
  let e := s.entryNat Tbl.pktItable t k
  if bit e 15 then decide (e % 32768 ≤ 255) else decide (e % 32768 ≤ 17407)

/-- Reasons for which a rule fails. -/
def State.ruleReasons (s : State) (b : List Byte) : List Nat :=
  let a := ruleAction b
  if !a.valid then []
  else
    let six := decide (a.op = 7) || decide (a.reserved ≠ 0) || (decide (17407 < a.queue) && decide (a.queue ≠ 0x7FFF)) ||
      (decide (a.op = 6) && decide (s.com Prm.pktNaptAddr (a.nexthop % 16) = 0))
    let seven := (decide (a.op = 4) && !s.nexthopOk a.nexthop) ||
      ((decide (a.op = 3) || (decide (a.op = 0) && a.useGroup)) && !s.mcastOk a.group) || (a.spread && !s.itableOk a.itable)
    (if six then [6] else []) ++ (if seven then [7] else [])

/-- Reasons for which TABLE_COMMIT of PKT.tcam fails. -/
def State.tcamReasons (s : State) : List Nat := (s.pkt.nextTcam.flatMap fun e => s.ruleReasons e.2).eraseDups

/-! ### The catalogue -/

/-- What the table commands know of a table. -/
structure TableSpec where
  t : TableDef
  /-- first instance -/
  first : Nat := 0
  /-- TABLE_WRITE and TABLE_COMMIT return BAD_PARAM with reason 4 -/
  ro : Bool := false
  /-- TABLE_READ returns BAD_PARAM with reason 4 -/
  secret : Bool := false
  /-- entries that an instance has now -/
  count : State → Nat → Nat := fun _ i => t.entries i
  /-- live content of a table that no page holds -/
  view : Option (State → Nat → Nat → List Byte) := none
  /-- a write that starts at this entry is allowed -/
  writable : Nat → Bool := fun _ => true
  /-- TABLE_WRITE and TABLE_COMMIT return CONFLICT with reason 6 -/
  locked : Nat → State → Bool := fun _ _ => false
  /-- TABLE_COMMIT returns BUSY -/
  busy : Nat → State → Bool := fun _ _ => false
  /-- reasons for which TABLE_COMMIT of an instance returns CONFLICT -/
  reasons : Nat → State → List Nat := fun _ _ => []
  /-- units whose safe point switches an instance: group and unit -/
  units : Nat → List (Nat × Nat) := fun _ => []
  /-- the switch waits for a command of its own -/
  special : Bool := false
  /-- what the switch of an instance does, from the state before it -/
  after : Nat → State → State → State := fun _ _ s => s

/-- Reason 6 unless a page check passes. -/
def six (ok : Bool) : List Nat := if ok then [] else [6]

/-- Old entries of the connection memory, as `switchedCmap` takes them. -/
def State.cmapEntries (s : State) : List (Nat × List Byte) := (List.range 128).map fun c => (c, s.entry Tbl.linkCmap 0 c)

/-- Tables of the radio side. -/
def radioTables : List TableSpec := [
  { t := Tbl.laneEq, reasons := fun n s => six (laneEqPageOk n s), units := fun n => [(4, n)], after := fun n _ s => applyLane n true s },
  { t := Tbl.linkCmap, reasons := fun _ s => six (cmapPageOk s), busy := fun _ s => s.standbyPending,
    units := fun _ => (List.range 16).map fun l => (5, l), after := fun _ old s => switchedCmap old.cmapEntries s },
  { t := Tbl.achCal, count := fun s c => s.groups (radioOfAch c), locked := fun c s => decide (s.com Prm.achCalMode (radioOfAch c) = 0),
    units := fun c => [(6, c)], after := fun c _ s => switchedCal c s },
  { t := Tbl.toneMap, ro := true, count := fun s r => s.groups r, view := some fun s r g => s.toneMap r g },
  { t := Tbl.beamCover, count := fun s k => s.groups (radioOfSector k) * (radioN (radioOfSector k) / 16), units := fun k => [(7, k)] },
  { t := Tbl.beamGeom, units := fun r => (sectorsOf r).map fun k => (7, k) },
  { t := Tbl.staReport, ro := true },
  { t := Tbl.nullReport, ro := true },
  { t := Tbl.chanReport, ro := true, count := fun s k =>
      match (List.range 3).find? fun r => staLink (s.sta k) r with | some r => s.groups r | none => 245 },
  { t := Tbl.aoaMap, ro := true },
  { t := Tbl.wlanSsid, reasons := fun k s => six (ssidPageOk k s), units := fun k => [(8, k)] },
  { t := Tbl.wlanTwt, reasons := fun k s => six (twtPageOk k s), units := fun k => [(8, k)] },
  { t := Tbl.staEntry, reasons := fun k s => (staConflict k s).toList, units := fun k => [(9, k)],
    after := fun k old s => switchedSta (old.sta k) k s },
  { t := Tbl.ladleIrq, units := fun _ => (List.range 32).map fun e => (0x0A, e) }]

/-- Tables of the PON terminal, the packet path and Tollgate. -/
def packetTables : List TableSpec := [
  { t := Tbl.ponXgem, writable := fun k => decide (k ≠ 0), reasons := fun _ s => six (xgemPageOk s), units := fun _ => [(0x0B, 0)] },
  { t := Tbl.ponAlloc, ro := true, view := some fun s _ i => s.allocEntry i },
  { t := Tbl.ponBcastKey, reasons := fun _ s => six (bcastPageOk s), units := fun _ => [(0x0B, 0)], after := fun _ _ s => takeBcastKeys s },
  { t := Tbl.ponTod, reasons := fun _ s => six (todPageOk s), units := fun _ => [(0x0B, 0)], after := fun _ _ s => takeTod s },
  { t := Tbl.ponRegId, units := fun _ => [(0x0B, 0)] },
  { t := Tbl.pktTcam, busy := fun _ s => decide (16 ≤ s.pkt.old.length + 1), reasons := fun _ s => s.tcamReasons,
    view := some fun s _ k => bytesAt (s.pkt.tcam.get k) 0 176 },
  { t := Tbl.pktFlow, busy := fun _ s => decide (16 ≤ s.pkt.old.length + 1), view := some fun s _ k => bytesAt (s.pkt.flow.get k) 0 64 },
  { t := Tbl.pktItable, units := fun _ => [(0x0C, 0)] },
  { t := Tbl.pktHashKey, units := fun _ => [(0x0C, 0)] },
  { t := Tbl.pktNexthop, units := fun _ => [(0x0C, 0)] },
  { t := Tbl.pktMcast, units := fun _ => [(0x0C, 0)] },
  { t := Tbl.pktDscpMap, units := fun _ => [(0x0C, 0)] },
  { t := Tbl.tollGate, first := 67, reasons := fun e s => six (gatePageOk fun k => s.standbyEntry Tbl.tollGate e k), special := true },
  { t := Tbl.tollPolicer, reasons := fun _ s => six (policerPageOk (fun k => s.standbyEntry Tbl.tollPolicer 0 k) s) },
  { t := Tbl.tollSample, ro := true, view := some fun s _ q => s.sampleEntry q }]

/-- Tables of the fabric and of security. -/
def otherTables : List TableSpec := [
  { t := Tbl.cvnNeighbours, ro := true, view := some fun s _ m => s.neighbourEntry m },
  { t := Tbl.cvnPlan, reasons := fun _ s => six (planPageOk s), special := true },
  { t := Tbl.cvnSpi, reasons := fun i s => six (spiPageOk i (s.parN Prm.cvnXcvrTxLeadUs 0) s), units := fun _ => [(0x14, 0)] },
  { t := Tbl.secMacsec, reasons := fun n s => (macsecConflict n s).toList, units := fun n => [(0x12, n)],
    after := fun n old s => applyMacsec n (old.macsec n) s },
  { t := Tbl.secCustRoot, secret := true, special := true },
  { t := Tbl.secDebugToken, secret := true, special := true }]

/-- Every table. -/
def tableSpecs : List TableSpec := radioTables ++ packetTables ++ otherTables

/-- The table that an identifier names. -/
def findTable (id : Nat) : Option TableSpec := tableSpecs.find? fun t => t.t.id == id

/-- An instance the table has. -/
def TableSpec.hasInst (t : TableSpec) (i : Nat) : Bool := decide (t.first ≤ i) && decide (i < t.t.insts)

/-- Bytes of an entry as TABLE_READ returns it: page 0 active, 1 standby; the next version of a versioned table. -/
def TableSpec.read (t : TableSpec) (s : State) (i k : Nat) (standby : Bool) : List Byte :=
  if standby && decide (t.t.id = Tbl.pktTcam.id) then bytesAt (s.pkt.nextTcam.get k) 0 176
  else if standby && decide (t.t.id = Tbl.pktFlow.id) then bytesAt (s.pkt.nextFlow.get k) 0 64
  else match t.view with
    | some f => f s i k
    | none => if standby then s.standbyEntry t.t i k else s.entry t.t i k

/-- Switch an instance now, with what its switch does (R82, R85). -/
def TableSpec.switch (t : TableSpec) (i : Nat) (s : State) : State := t.after i s (switchPage t.t.id i s.now s)

/-- Instances of switchable tables that wait, with their tables. -/
def State.waitingTables (s : State) : List (TableSpec × Nat) :=
  s.cfg.tables.filterMap fun e =>
    if e.2.switching then (findTable (e.1 / 2 ^ 16)).bind fun t => if t.special then none else some (t, e.1 % 2 ^ 16) else none

end Sys2Proof.Machine
end

