-- ==== Sys2Proof/Machine/Units.lean ====
section
/-!
DEFINITION. Safe points: when a unit has no work in progress (R70), what it does with the values and pages that it takes
(R77, R82, R87), and the commit of a group's values.
-/
namespace Sys2Proof.Machine

/-- The power state has the unit off (R517). -/
def groupOff (s : State) (g u : Nat) : Bool :=
  match g with
  | 0x04 => bit s.power.down (if u < 16 then 4 else 5)
  | 0x05 => bit s.power.down 4
  | 0x08 | 0x09 => bit s.power.down 0
  | 0x0A => bit s.power.down (if u < 0x40 then 1 else 9)
  | 0x06 | 0x07 => bit s.power.down 2
  | 0x0B => bit s.power.down 6
  | 0x0C | 0x0D | 0x0F => bit s.power.down 10
  | 0x10 => bit s.power.down 8
  | 0x11 => bit s.power.down 7
  | 0x12 => bit s.power.down 5
  | _ => false

/-- The unit has no work in progress, is stopped, out of sync or disabled, and takes values at once (R70, Table 3-2).
Log entry 8 (DEDUCED). -/
def State.unitIdle (s : State) (g u : Nat) : Bool :=
  groupOff s g u ||
  match g with
  | 0x04 => (s.lane u).st != .up
  | 0x05 => (s.link u).st != .sync
  | 0x06 => match s.source u with
    | none => true
    | some (l, _) => (s.link l).st != .sync
  | 0x07 => !s.sectorOn u || (decide ((s.wradio (radioOfSector u)).txUntil ≤ s.now) && (s.wsector u).rx.isNone)
  | 0x08 => decide (0x100 ≤ u) || !s.sectorOn u
  | 0x09 => (List.range 3).all fun r => decide ((s.wradio r).txUntil ≤ s.now) || !(s.beamOf r).stations.contains u
  | 0x0A => (s.runner u).job.isNone
  | 0x0B => s.pon.sync == .hunt
  | 0x10 => (s.sprue u).running.isNone
  | 0x11 => s.dma.jobs.all fun j => match s.obj? j.key with | some o => decide (o.drive ≠ u) | none => true
  | 0x12 => decide ((s.lane (16 + u)).st ≠ .up) || (s.sched (67 + u)).out.isEmpty
  | _ => true

/-- A value in force at a unit differs from the one before. -/
def moved (old s : State) (p : ParamDef) (i : Nat) : Bool := decide (old.par p i ≠ s.par p i)

/-- An engine or core that a commit takes out of service and another puts back leaves HELD (R278, R360). -/
def releaseHeld (e : Nat) (s : State) : State := serveWaiters (updRunner e (fun r => { r with held := false, recasts := [] }) s)

/-- What unit `u` of group `g` does with the values that it has just taken; `old` is the state before. -/
def unitEffect (g u : Nat) (ks : List Nat) (old s : State) : State :=
  let m := moved old s
  match g with
  | 0x04 => applyLane u (m Prm.laneRate u || m Prm.laneFecMode u || m Prm.lanePrecode u) s
  | 0x05 => applyLink u (m Prm.linkSrate u || m Prm.linkFmt u || m Prm.linkSpareOn u) s
  | 0x06 => applyAch u (fun p => m p u) s
  | 0x07 =>
    let s := applyBeam u ks s
    if m Prm.beamEnable u ∧ s.sectorOn u then enableSector u s else s
  | 0x0A => if m Prm.ladleEnable u ∧ s.par Prm.ladleEnable u = 1 then releaseHeld u s else serveWaiters s
  | 0x0C => (List.range 28).foldl (fun s n =>
      if m Prm.pktDcEnable n ∧ s.par Prm.pktDcEnable n = 1 then releaseHeld (0x40 + n) s else s) s
  | 0x0E => serveWaiters s
  | 0x0F => applyToll u old s
  | 0x11 => if m Prm.storeDriveEnable u then applyDriveEnable u s else s
  | _ => s

/-- A unit takes the committed values that wait for it. Log entry 8 (DEDUCED). -/
def takeUnit (g u : Nat) (s : State) : State :=
  match g with
  | 0x0B => takePon s
  | 0x14 => takeCvn s
  | _ =>
    let (ks, t) := unitTakes g u s
    finishCommits (if ks.isEmpty then t else unitEffect g u ks s t)

/-- The safe point of a unit: pages and values that wait for it switch together (R87). A radio's channel waits for its
switch (R243). Log entry 8 (DEDUCED). -/
def safePoint (g u : Nat) (s : State) : State :=
  let ts := s.waitingTables.filter fun x => (x.1.units x.2).contains (g, u)
  let s := ts.foldl (fun s x => x.1.switch x.2 s) s
  if g = 0x08 ∧ 0x100 ≤ u then s else takeUnit g u s

/-- SAFE_POINT_APPLY: the safe point of a unit has come (R77). -/
def execSafePointApply (g u : Nat) (s : State) : Host.Outcome State Fault Refusal := .next (safePoint g u s)

/-- TABLE_PAGE_SWITCH: the safe point of a table instance has come (R82, R85, R87). -/
def execTablePageSwitch (id inst : Nat) (s : State) : Host.Outcome State Fault Refusal :=
  .next (match findTable id with
    | none => s
    | some t =>
      if t.special ∨ !(s.tabState id inst).switching then s
      else (t.units inst).foldl (fun s u => takeUnit u.1 u.2 s) (t.switch inst s))

/-- STANDBY_COPY_DONE: firmware has loaded the standby page with the new active page (R83). -/
def execStandbyCopyDone (id inst : Nat) (s : State) : Host.Outcome State Fault Refusal :=
  .next (if (s.tabState id inst).copying then copyStandby id inst s else s)

/-! ### Commits -/

/-- What values that take effect at commit do; `old` is the state before. -/
def commitEffect (vals : List (ParamDef × Nat × Int)) (old s : State) : State :=
  let ch := fun (p : ParamDef) (i : Nat) => (vals.any fun v => v.1.id == p.id && v.2.1 == i) && moved old s p i
  let any := fun (g : Nat) => vals.any fun v => v.1.group == g
  let s := if any 0x06 then
      (List.range 3).foldl (fun s r =>
        if ch Prm.achCalMode r then ((List.range 128).filter fun c => decide (radioOfAch c = r)).foldl (fun s c => flagAch c s) s else s)
        (applyFeeds s)
    else s
  let s := if any 0x10 then (List.range 32).foldl (fun s n => if ch Prm.dmaRingEnable n then applyRing n s else s) s else s
  let s := if any 0x13 then trackTsf s else s
  let s := if any 0x01 then driveGpios s else s
  let s := if any 0x17 then applyFeeds s else s
  pump s

/-- Steps 5 to 7 of R77 for values of one or several groups: they become the committed configuration, and every unit that
has no work in progress takes them at once. Log entry 8 (DEDUCED). -/
def applyValues (group : Nat) (image : Option (Nat × Nat)) (vals : List (ParamDef × Nat × Int)) (s : State) : State :=
  let t := commitValues group none image vals s
  let units := match t.cfg.commits.getLast? with | some c => c.left | none => []
  let t := commitEffect vals s t
  let radios := (List.range 3).filter fun r => units.contains (8, 0x100 + r)
  let t := (units.filter fun u => !(u.1 == 8 && decide (0x100 ≤ u.2))).foldl (fun t u => if s.unitIdle u.1 u.2 then takeUnit u.1 u.2 t else t) t
  finishCommits (radios.foldl (fun t r => startSwitch r t) t)

/-- The commit of a group that is still applying (R77 step 2). -/
def State.applying (s : State) (g : Nat) : Bool :=
  s.cfg.commits.any fun c => decide (c.group = g) || (c.image.isSome && c.left.any fun u => u.1 == g)

end Sys2Proof.Machine
end

