-- ==== Sys2Proof/Machine/Session.lean ====
section
/-!
DEFINITION. The host endpoint and mailbox sessions: resets of the endpoint (R34, R560), MSI-X, ARM and RECALL (R41 to R46),
HELLO and BYE (R51 to R55), and the batch timer of events (R60).
-/
namespace Sys2Proof.Machine

/-- The host can reach BAR0. -/
def State.hostUp (s : State) : Bool := s.host.linkUp

/-- Firmware serves the mailbox (R38). -/
def State.ready (s : State) : Bool := decide (s.boot.stage = 5) || decide (s.boot.stage = 14)

/-- The device owns window w. -/
def State.owns (s : State) (w : Nat) : Bool := (s.win w).hold != .host

/-! ### Sessions -/

/-- Close the session: armed windows return CLOSED, COMPLETE events of PENDING commands and the staging sets are discarded,
and event records stay (R34, R53, R71). -/
def closeSession (s : State) : State :=
  let s := s.mbx.armed.foldl (fun s w => handBack w .closed s) s
  let m := s.mbx
  { s with
    mbx := refillControl { m with session := none, control := m.control.filter Ctl.shared,
                                  outstanding := m.outstanding.filter fun o => !o.pending }
    cfg := { s.cfg with staging := [] } }

/-- Versions the device speaks, highest first (R51). -/
def mbxVersions : List (Nat × Nat) := [(3, 4), (3, 3), (3, 2), (3, 1), (3, 0), (2, 3), (2, 2), (2, 1), (2, 0)]

/-- A version lies in an offered range. -/
def verIn (lo hi v : Nat × Nat) : Bool := decide (lo.1 * 256 + lo.2 ≤ v.1 * 256 + v.2) && decide (v.1 * 256 + v.2 ≤ hi.1 * 256 + hi.2)

/-- The capability user_kernels: a customer root is programmed and not revoked, and the device is not in RMA (R471, R484). -/
def State.userKernels (s : State) : Bool :=
  decide (s.sec.lifecycle ≠ 2) && (List.range 2).any fun k => (s.sec.custRoot.get k).isSome && !bit s.sec.revoked (4 + k)

/-- A drive is present (Table 2-17). Log entry 107 (DEDUCED). -/
def State.drivePresent (s : State) : Bool := (List.range 2).any fun d => (s.drive d).st != .off && (s.drive d).st != .absent

/-- The capability set of Table 2-17. -/
def State.capabilities (s : State) : Nat :=
  let o := Config.options
  let on := fun (k : Nat) (b : Bool) => b2n b * 2 ^ k
  on 0 (bit o 0) + on 1 (bit o 1) + on 2 s.drivePresent + on 3 (bit o 3) + on 4 s.userKernels + on 5 (bit o 5) + on 6 (bit o 6) +
    on 7 (bit o 7) + on 8 (decide (Config.otpPatternHmac % 2 = 1)) +
    ((List.range 16).map fun l => on (16 + l) ((s.link l).st == .sync)).sum

/-- Open a session (R52, R55): the hand-back reasons start again, and a 2.x session discards every waiting VERSION
message. -/
def openSession (v : Nat × Nat) (s : State) : State :=
  let keep : Ctl → Bool := fun c => match c with | .version .. => decide (v.1 ≠ 2) | _ => true
  let m := s.mbx
  let s := { s with mbx := refillControl { m with
      session := some v, control := m.control.filter keep, backlog := m.backlog.filter keep
      win := Tab.mapV (fun x => { x with handback := .none }) m.win } }
  reportVersion 0 0 v.1 v.2 s

/-- HELLO (R51 to R53). Log entry 14 (DEDUCED). -/
def hello (p : List Byte) (s : State) : Reply :=
  if fieldAt p 4 4 ≠ 0 then { st := .badParam, s := s }
  else
    let s := closeSession s
    let n := fun (k : Nat) => fieldAt p k 1
    let chosen := mbxVersions.find? (verIn (n 0, n 1) (n 2, n 3))
    let v := chosen.getD (0, 0)
    let body := le 1 v.1 ++ le 1 v.2 ++ le 1 2 ++ le 1 0 ++ le 1 3 ++ le 1 4 ++ le 2 0 ++ le 8 s.capabilities
    match chosen with
    | none => { st := .badVersion, body := body, s := s, ver := some (0, 0) }
    | some v => { st := .ok, body := body, s := openSession v s, ver := some v }

/-- BYE (R53). -/
def bye (s : State) : Reply := { st := .ok, s := closeSession s }

/-! ### The endpoint -/

/-- A reset of the host endpoint (R34, R560): the session ends, every window that the device owns returns, the host rings
stop, and MSI-X takes its reset state. -/
def resetEndpoint (s : State) : State :=
  let s := { s with host := { s.host with msixEnabled := false, masked := 2 ^ 64 - 1, pba := 0 } }
  let s := closeSession s
  let ws := (List.range 8).filter fun w => match (s.win w).hold with | .command _ => true | _ => false
  let s := ws.foldl (fun s w => handBack w .reclaimed s) s
  stopRings { s with mbx := { s.mbx with outstanding := [] } }

/-- The link is down: rate and width read 0 (R560). -/
def dropLink (s : State) : State := { s with host := { s.host with linkUp := false, speed := 0, width := 0 } }

/-- FUNDAMENTAL_RESET: PCIE_PERST_L changes level; its fall resets the endpoint (R34, R560). -/
def execFundamentalReset (low : Bool) (s : State) : Host.Outcome State Fault Refusal :=
  let t : State := { s with host := { s.host with perstLow := low } }
  .next (if low && !s.host.perstLow then dropLink (resetEndpoint t) else t)

/-- HOT_RESET (R34, R560). -/
def execHotReset (s : State) : Host.Outcome State Fault Refusal :=
  .next (if s.hostUp then dropLink (resetEndpoint s) else s)

/-- FUNCTION_LEVEL_RESET: the link stays trained (R560). -/
def execFunctionLevelReset (s : State) : Host.Outcome State Fault Refusal := .next (if s.hostUp then resetEndpoint s else s)

/-- HOST_LINK_DOWN (R34). -/
def execHostLinkDown (s : State) : Host.Outcome State Fault Refusal :=
  .next (if s.hostUp then dropLink (resetEndpoint s) else s)

/-- Link rates in 0.1 GT/s, and widths (Tables 2-1 and 2-22). -/
def linkRateOk (speed : Nat) : Bool := [25, 50, 80, 160, 320].contains speed
def linkWidthOk (width : Nat) : Bool := [1, 2, 4].contains width

/-- HOST_LINK_UP: training has reached a rate and a width (R560); the endpoint trains while PCIE_PERST_L is high, the
internal reset has ended and the power state has the endpoint on. -/
def execHostLinkUp (speed width : Nat) (s : State) : Host.Outcome State Fault Refusal :=
  .next (if s.boot.running && !s.host.perstLow && !s.host.linkUp && linkRateOk speed && linkWidthOk width && !bit s.power.down 11 then
      { s with host := { s.host with linkUp := true, speed := speed, width := width } }
    else s)

/-- MSIX_UNMASK: the host unmasks vector v, and the one message that its PBA bit holds is sent (R41). MSI-X is enabled with
the first vector unmasked. Log entry 13 (DESIGN CHOICE). -/
def execMsixUnmask (v : Nat) (s : State) : Host.Outcome State Fault Refusal :=
  .next (if s.hostUp && decide (v < 64) then
      let h := s.host
      { s with host := { h with
          msixEnabled := true, masked := setBit h.masked v false, pba := setBit h.pba v false
          sent := if bit h.pba v then h.sent ++ [v] else h.sent } }
    else s)

/-! ### Windows -/

/-- ARM on window w (R44, R45, R67). -/
def armWindow (w : Nat) (s : State) : State :=
  if s.owns w || !s.ready then protoError w s
  else if s.mbx.session.isNone then handBack w .closed s
  else pump ({ s with mbx := { s.mbx with armed := s.mbx.armed ++ [w] } }.setWin w { s.win w with hold := .armed })

/-- RECALL on window w (R44, R45, R67). -/
def recallWindow (w : Nat) (s : State) : State :=
  if s.ready && (s.win w).hold == .armed then handBack w .recalled s else protoError w s

/-- ARM (R44). -/
def execArm (w : Nat) (s : State) : Host.Outcome State Fault Refusal :=
  .next (if s.hostUp && decide (w < 8) then armWindow w s else s)

/-- RECALL (R44). -/
def execRecall (w : Nat) (s : State) : Host.Outcome State Fault Refusal :=
  .next (if s.hostUp && decide (w < 8) then recallWindow w s else s)

/-- Clear MBX_STAT.proto_err of window w (Table 2-12). -/
def clearProtoErr (w : Nat) (s : State) : State := s.setWin w { s.win w with protoErr := false }

/-- PROTO_ERR_CLEAR (R42). -/
def execProtoErrClear (w : Nat) (s : State) : Host.Outcome State Fault Refusal :=
  .next (if s.hostUp && decide (w < 8) then clearProtoErr w s else s)

/-- EVENT_BATCH_TIMEOUT: the oldest waiting record has waited evt_batch_us (R60); the command stands for the timer's
expiry, so it acts only when the wait has passed. -/
def execEventBatchTimeout (s : State) : Host.Outcome State Fault Refusal :=
  .next (if s.ready && s.batchWaited then pump { s with evt := { s.evt with batchDue := true } } else s)

end Sys2Proof.Machine
end

