-- ==== Sys2Proof/Machine/ParamCmd.lean ====
section
/-!
DEFINITION. Parameter commands: PARAM_GET, PARAM_SET, PARAM_COMMIT and PARAM_ABORT (R68 to R81), and which commands address
a unit that is being recast (R64, R561).
-/
namespace Sys2Proof.Machine

/-! ### Offender lists (R81) -/

/-- The offender list of Table 3-6. -/
def offenderList (os : List Offence) : List Byte :=
  let l := os.take 509
  le 2 l.length ++ le 2 (min os.length 0xFFFF) ++ l.flatMap fun o => le 4 o.id ++ le 2 o.inst ++ le 2 o.reason

/-- A refusal that names entries, or none. -/
def refuse (st : Status) (os : List Offence) (s : State) : Reply := { st := st, body := offenderList os, s := s }

/-! ### Commands that address a recasting unit (R561) -/

/-- The radios that an instance of an item with `n` instances belongs to; every radio where none is named. -/
def radiosFor (s : State) (g n : Nat) (i : Option Nat) : List Nat :=
  match i with
  | none => [0, 1, 2]
  | some i =>
    if g = 9 then staLinks (s.sta i)
    else if n = 128 then [radioOfAch i]
    else if n = 8 then [radioOfSector i]
    else if n = 3 then [i]
    else [0, 1, 2]

/-- Units that firmware still reaches during a device recast (R561): the management complex, the time base unit and the
Caravan modem. -/
def outsideDevice (g : Nat) : Bool := [0x01, 0x02, 0x03, 0x13, 0x14, 0x15, 0x16, 0x17, 0x18].contains g

/-- An item of group `g`, at an instance or at all, lies in a unit of subsystem or device scope (Table 17-5). `ring` says
that it is one of the host rings. -/
def unitHolds (s : State) (v : RUnit) (g n : Nat) (ring : Bool) (i : Option Nat) : Bool :=
  match v.scope, v.group with
  | 2, _ => !outsideDevice g
  | 1, 0x08 => [6, 7, 8, 9].contains g && (radiosFor s g n i).contains v.inst
  | 1, 0x0B => decide (g = 0x0B)
  | 1, 0x0C => [0x0C, 0x0D, 0x0F].contains g || (decide (g = 0x10) && ring)
  | 1, 0x11 => decide (g = 0x11)
  | _, _ => false

/-- Units of subsystem or device scope that are stopped (R502, R504). -/
def State.stoppedUnits (s : State) : List RUnit :=
  (if s.recast.held then [RUnit.device] else []) ++ (s.recast.jobs.filter fun j => decide (0 < j.unit.scope)).map (·.unit)

/-- A command that addresses the item returns BUSY. -/
def State.busyAt (s : State) (g n : Nat) (ring : Bool) (i : Option Nat) : Bool :=
  s.stoppedUnits.any fun v => unitHolds s v g n ring i

/-- A feed parameter (R561). -/
def ParamDef.isFeed (p : ParamDef) : Bool := decide (p.group = 6) && decide (p.n = 16)

/-- A parameter of the host rings. -/
def ParamDef.isRing (p : ParamDef) : Bool := decide (p.group = 0x10) && decide (p.n = 32)

/-- A command that addresses a parameter instance returns BUSY. -/
def State.busyParam (s : State) (p : ParamDef) (i : Option Nat) : Bool := !p.isFeed && s.busyAt p.group p.n p.isRing i

/-! ### Looking up -/

/-- The item has the instance; a queue number that Table 12-1 does not assign is no instance. -/
def paramInst (p : ParamDef) (i : Nat) : Bool := p.hasInst i && (decide (p.n ≠ 17408) || decide (p.group ≠ 0x0F) || assignedQueue i)

/-- Every instance of an item. -/
def paramInsts (p : ParamDef) : List Nat := (List.range p.n).filter (paramInst p)

/-- Instances that an entry covers (R68). -/
def entryInsts (p : ParamDef) (i : Nat) : List Nat := if i = 0xFFFF then paramInsts p else [i]

/-- Items whose master-pattern value is what OTP, the straps or the boot give (R13). Log entry 6 (DEDUCED). -/
def bootGiven : List ParamDef := [Prm.devGrade, Prm.devDieId, Prm.devDdrBytes, Prm.devDdrRate, Prm.devStrap,
  Prm.cfgPatternHmacRequired, Prm.achRxLatencyNs, Prm.ethPtpRxLatNs, Prm.ethPtpTxLatNs, Prm.secLifecycle,
  Prm.secDebugChallenge, Prm.secRootRevoked, Prm.secCustRevoke, Prm.secSvnOtp, Prm.secSvnRunning]

/-- Master-pattern value as PARAM_GET returns it (R73, R472). Log entry 6 (DEDUCED). -/
def State.master (s : State) (p : ParamDef) (i : Nat) : Int :=
  if bootGiven.any fun q => q.id == p.id then s.live p i else p.deflt i

/-- The staged value that wins for an instance (R72). Log entry 25 (DEDUCED). -/
def State.stagedValue (s : State) (p : ParamDef) (i : Nat) : Option Int :=
  (s.cfg.staging.filter fun e => e.id == p.id && (e.inst == i || e.inst == 0xFFFF)).getLast?.map (·.value)

/-- Reason for which an entry names no instance of an item: 1 unknown ID, 2 instance out of range. Log entry 17 (DEDUCED). -/
def lookupReason (id i : Nat) (all : Bool) : Nat :=
  match Prm.find id with
  | none => 1
  | some p => if (all && i == 0xFFFF) || paramInst p i then 0 else 2

/-! ### PARAM_GET (R73) -/

/-- One response entry. Log entry 6 (DEDUCED). -/
def getEntry (source : Nat) (p : ParamDef) (i : Nat) (s : State) : List Byte × State :=
  let now := s.live p i
  let master := s.master p i
  let staged := if source = 1 then s.stagedValue p i else none
  let v := if source = 2 then master else staged.getD now
  let flags := b2n staged.isSome + b2n (s.cfg.old.get (parKey p.id i)).isSome * 2 + b2n (decide (now ≠ master)) * 4
  (le 4 p.id ++ le 2 i ++ le 2 flags ++ le 8 (ParamDef.encode v), if source = 0 ∧ p.access = .rc then s.setPar p i 0 else s)

/-- Response entries in request order; an RC item that is read twice reads 0 the second time. -/
def getEntries (source : Nat) : List (ParamDef × Nat) → State → List Byte × State
  | [], s => ([], s)
  | (p, i) :: t, s =>
    let (b, s) := getEntry source p i s
    let (r, s) := getEntries source t s
    (b ++ r, s)

/-- PARAM_GET (R73). Log entry 7 (DEDUCED). -/
def paramGet (p : List Byte) (s : State) : Reply :=
  let n := fieldAt p 0 2
  let source := fieldAt p 2 1
  let reqs := (List.range n).map fun k => (fieldAt p (8 + 8 * k) 4, fieldAt p (12 + 8 * k) 2, fieldAt p (14 + 8 * k) 2)
  if p.length < 8 ∨ fieldAt p 3 5 ≠ 0 ∨ 2 < source ∨ p.length ≠ 8 + 8 * n ∨ 254 < n then refuse .badParam [] s
  else if n = 0 then { st := .zero, s := s }
  else if reqs.any fun r => r.2.2 ≠ 0 then refuse .badParam [] s
  else
    let bad := reqs.filterMap fun r =>
      let c := lookupReason r.1 r.2.1 false
      if c = 0 then none else some (⟨r.1, r.2.1, c⟩ : Offence)
    if !bad.isEmpty then refuse .badParam bad s
    else
      let items := reqs.filterMap fun r => (Prm.find r.1).map fun q => (q, r.2.1)
      if source = 0 && items.any fun x => s.busyParam x.1 (some x.2) then { st := .busy, s := s }
      else
        let (body, s) := getEntries source items s
        { st := .ok, body := p.take 8 ++ body, s := s }

/-! ### PARAM_SET (R74 to R76) -/

/-- Burn an OTP revocation bit (R470, R472). -/
def burnRevoke (root : Nat) (s : State) : State :=
  if bit s.sec.revoked root then s
  else raise Ev.secRootRevoked root 0 { s with sec := { s.sec with revoked := setBit s.sec.revoked root true } }

/-- Burn the security version up to that of the running firmware (R469). -/
def advanceSvn (s : State) : State :=
  if s.sec.svnRunning ≤ s.sec.svn then s
  else raise Ev.secSvnAdvanced 0 (detail [(0, 1, s.sec.svnRunning)]) { s with sec := { s.sec with svn := s.sec.svnRunning } }

/-- Items that act or hold time-base state, and are not configuration (R558). -/
def notConfig : List ParamDef := [Prm.timeRateAdj, Prm.timeStepNs, Prm.timeReset, Prm.secSvnAdvance, Prm.secCustRevoke,
  Prm.ponRogueClear]

def ParamDef.notConfig (p : ParamDef) : Bool := Machine.notConfig.any fun q => q.id == p.id

/-- An immediate value takes effect (R76). -/
def applyImmediate (p : ParamDef) (i : Nat) (v : Int) (s : State) : State :=
  if p.id = Prm.secCustRevoke.id then (if v = 1 then burnRevoke (4 + i) s else s)
  else if p.id = Prm.secSvnAdvance.id then (if v = 1 then advanceSvn s else s)
  else if p.id = Prm.ponRogueClear.id then (if v = 1 then rogueClear s else s)
  else if p.group = 0x13 then timeImmediate p i v s
  else
    let t := s.setPar p i v
    if p.id = Prm.hostEvtDeliverMask.id then pump t
    else if p.group = 0x04 then laneImmediate p i t
    else if p.id = Prm.devGpioOut.id then driveGpio i t
    else if p.id = Prm.dmaEngineEnable.id then
      (if v = 0 ∧ s.com p i ≠ 0 then stopSprue i t else t)
    else t

/-- A decoded PARAM_SET entry: item, instance as named, and value. -/
abbrev SetEntry := ParamDef × Nat × Int

/-- Reason for which an entry fails R75, or 0. Log entry 17 (DEDUCED). -/
def setReason (p : ParamDef) (v : Int) : Nat :=
  if p.access = .ro ∨ p.access = .rc then 4
  else if v ≠ 0 ∧ !p.inRange v then 3
  else 0

/-- Stage one value: a second one for the same item and instance replaces it and moves to the end (R72). Log entry 25 (DEDUCED). -/
def stage (p : ParamDef) (i : Nat) (v : Int) (s : State) : State :=
  let keep := s.cfg.staging.filter fun e => !(e.id == p.id && e.inst == i)
  { s with cfg := { s.cfg with staging := keep ++ [⟨p.id, i, v⟩] } }

/-- Check every immediate entry against the state that those before it would leave (R76). -/
def immediateFaults : List SetEntry → State → List Offence
  | [], _ => []
  | (p, i, v) :: t, s =>
    let is := entryInsts p i
    let bad := is.flatMap fun k => immediateOffences p k v s
    bad ++ immediateFaults t (is.foldl (fun s k => if p.notConfig then s else s.setPar p k v) s)

/-- Process the entries in order (R75). -/
def setEntries : List SetEntry → State → State
  | [], s => s
  | (p, i, v) :: t, s =>
    setEntries t (if p.access = .rwi then (entryInsts p i).foldl (fun s k => applyImmediate p k v s) s else stage p i v s)

/-- An svn_advance entry that burns nothing (R469). Log entry 25 (DEDUCED). -/
def idleSvn (s : State) (e : SetEntry) : Bool :=
  e.1.id == Prm.secSvnAdvance.id && decide (e.2.2 = 1) && decide (s.sec.svnRunning ≤ s.sec.svn)

/-- PARAM_SET (R74 to R76). -/
def paramSet (p : List Byte) (s : State) : Reply :=
  let n := fieldAt p 0 2
  let ents := (List.range n).map fun k =>
    let o := 8 + 16 * k
    (fieldAt p o 4, fieldAt p (o + 4) 2, fieldAt p (o + 6) 2, fieldAt p (o + 8) 8)
  if p.length < 8 ∨ fieldAt p 2 6 ≠ 0 ∨ p.length ≠ 8 + 16 * n ∨ 254 < n then refuse .badParam [] s
  else if n = 0 then { st := .zero, s := s }
  else if ents.any fun e => e.2.2.1 ≠ 0 then refuse .badParam [] s
  else
    let bad := ents.filterMap fun e =>
      let c := lookupReason e.1 e.2.1 true
      let c := if c ≠ 0 then c else match Prm.find e.1 with
        | some q => setReason q (q.decode e.2.2.2)
        | none => 1
      if c = 0 then none else some (⟨e.1, e.2.1, c⟩ : Offence)
    if !bad.isEmpty then refuse .badParam bad s
    else
      let all : List SetEntry := ents.filterMap fun e => (Prm.find e.1).map fun q => (q, e.2.1, q.decode e.2.2.2)
      let es := all.filter fun e => !idleSvn s e
      let rwi := es.filter fun e => e.1.access == .rwi
      let rw := es.filter fun e => e.1.access == .rw
      let fresh := (rw.map fun e => (e.1.id, e.2.1)).eraseDups.filter fun k =>
        !s.cfg.staging.any fun x => x.id == k.1 && x.inst == k.2
      if rwi.any fun e => (entryInsts e.1 e.2.1).any fun k => s.busyParam e.1 (some k) then { st := .busy, s := s }
      else if 4096 < s.cfg.staging.length + fresh.length then { st := .noResource, s := s }
      else
        let faults := immediateFaults rwi s
        if !faults.isEmpty then refuse .conflict faults s
        else if es.isEmpty then { st := .zero, s := s }
        else { st := .ok, s := setEntries es s }

/-! ### PARAM_COMMIT and PARAM_ABORT (R77 to R80) -/

/-- The staging set of a group. -/
def State.stagingOf (s : State) (g : Nat) : List Staged := s.cfg.staging.filter fun e => decide (e.id / 2 ^ 24 = g)

/-- The values that a staging set gives, for every instance the one most recently staged (R72). Log entry 25 (DEDUCED). -/
def stagedVals (l : List Staged) : List (ParamDef × Nat × Int) :=
  let t : Tab Int := l.foldl (fun t e => match Prm.find e.id with
    | some p => (entryInsts p e.inst).foldl (fun t i => t.insert (parKey p.id i) e.value) t
    | none => t) []
  t.filterMap fun e => (keyParam e.1).map fun k => (k.1, k.2, e.2)

/-- A group number of Table 3-2. -/
def groupOk (g : Nat) : Bool := decide (1 ≤ g) && decide (g ≤ 24)

/-- A commit changes the channel of a radio whose announcements still run (R243). -/
def State.switchBusy (s : State) (vals : List (ParamDef × Nat × Int)) : Bool :=
  vals.any fun v => (paramUnits v.1 v.2.1).contains (0x100 + v.2.1) && decide (v.1.group = 8) &&
    s.channelBusy v.2.1 (decide (s.com v.1 v.2.1 ≠ v.2.2))

/-- A commit of the group has still to be taken: the command waits for it. -/
def waitForCommit (g cid : Nat) (s : State) : Option State :=
  if s.cfg.commits.any fun c => c.group == g && c.cid.isNone && c.image.isNone then
    some { s with cfg := { s.cfg with commits := s.cfg.commits.map fun c =>
      if c.group == g && c.cid.isNone && c.image.isNone then { c with cid := some cid } else c } }
  else none

/-- PARAM_COMMIT (R77). -/
def paramCommit (cid : Nat) (p : List Byte) (s : State) : Reply :=
  let g := fieldAt p 0 1
  let fl := fieldAt p 1 1
  let set_ := s.stagingOf g
  if p.length ≠ 4 ∨ !groupOk g ∨ 1 < fl ∨ fieldAt p 2 2 ≠ 0 then refuse .badParam [] s
  else if set_.isEmpty then { st := .zero, s := s }
  else
    let vals := stagedVals set_
    if (vals.any fun v => s.busyParam v.1 none) || s.applying g || s.switchBusy vals then { st := .busy, s := s }
    else
      let os := commitOffences g vals s
      if !os.isEmpty then refuse .conflict os (bump Prm.cfgConflictCount g s)
      else if fl = 1 then { st := .ok, s := s }
      else
        let s := { s with cfg := { s.cfg with staging := s.cfg.staging.filter fun e => decide (e.id / 2 ^ 24 ≠ g) } }
        let s := if vals.any fun v => v.1.id == Prm.achFeedEnable.id then
            { s with radio := { s.radio with feedsReleased := true } } else s
        let s := applyValues g none vals (bump Prm.cfgCommitCount g s)
        match waitForCommit g cid s with
        | some t => { st := .pending, s := t }
        | none => { st := .ok, s := s }

/-- PARAM_ABORT (R80). -/
def paramAbort (p : List Byte) (s : State) : Reply :=
  let g := fieldAt p 0 1
  if p.length ≠ 4 ∨ !(groupOk g || g == 0xFF) ∨ fieldAt p 1 3 ≠ 0 then refuse .badParam [] s
  else
    let keep := if g = 0xFF then [] else s.cfg.staging.filter fun e => decide (e.id / 2 ^ 24 ≠ g)
    if keep.length = s.cfg.staging.length then { st := .zero, s := s }
    else { st := .ok, s := { s with cfg := { s.cfg with staging := keep } } }

end Sys2Proof.Machine
end

