-- ==== Sys2Proof/Machine/Security.lean ====
section
/-!
DEFINITION. Security (chapter 16): signature blocks and their verifier, key slots, customer roots, debug tokens, and the
health of the random number generator.
-/
namespace Sys2Proof.Machine

/-! ### The verifier (R466, R467) -/

/-- What a verification found: the failing step, or 0, and fields of the block. -/
structure SigVerdict where
  step : Nat
  domain : Nat := 0
  root : Nat := 0
  svn : Nat := 0
  revoke : Nat := 0
  /-- the root is programmed, and its revocation bit stops it -/
  revoked : Bool := false
deriving DecidableEq, Repr, Inhabited

/-- A root is revoked; in RMA both customer roots are (R485). -/
def State.rootRevoked (s : State) (domain root : Nat) : Bool :=
  if domain = 0 then bit s.sec.revoked root else decide (s.sec.lifecycle = 2) || bit s.sec.revoked (4 + root)

/-- Hash in a root; 0 is unprogrammed. -/
def State.rootHash (s : State) (domain root : Nat) : Nat :=
  if domain = 0 then (if root < 4 then Config.finvarRoot root else 0)
  else if domain = 1 ∧ root < 2 then leNat ((s.sec.custRoot.get root).getD []) else 0

/-- Verify an object that ends in a signature block: `fw` for firmware images, and the domains that its use accepts
(R467). -/
def verify (fw : Bool) (accepts : Nat → Bool) (obj : List Byte) (s : State) : SigVerdict :=
  let cov := obj.length - 256
  let b := obj.drop cov
  let v : SigVerdict := { step := 0, domain := fieldAt b 5 1, root := fieldAt b 6 1, svn := fieldAt b 8 4, revoke := fieldAt b 208 1 }
  if obj.length < 256 then { step := 1 }
  else if fieldAt b 0 4 ≠ 0x4B47534E ∨ fieldAt b 4 1 ≠ 1 ∨ fieldAt b 7 1 ≠ 0 ∨ fieldAt b 209 47 ≠ 0 ∨ fieldAt b 12 4 ≠ cov ∨
      (v.revoke ≠ 0 ∧ !(fw && v.domain == 0)) then { v with step := 1 }
  else if !accepts v.domain ∨ s.rootHash v.domain v.root = 0 then { v with step := 2 }
  else if s.rootRevoked v.domain v.root then { v with step := 2, revoked := true }
  else if Config.sha384 (bytesAt b 16 96) ≠ s.rootHash v.domain v.root then { v with step := 3 }
  else if !Config.ecdsaOk (bytesAt b 16 96) (Config.sha384 (obj.take cov ++ b.take 16)) (bytesAt b 112 96) then { v with step := 4 }
  else v

/-- Only Finvar's domain (R468). -/
def finvarOnly (d : Nat) : Bool := d == 0

/-- SEC_SIG_FAIL (Table 16-10). Log entry 86 (DESIGN CHOICE). -/
def sigFail (inst : Nat) (v : SigVerdict) (s : State) : State :=
  raise Ev.secSigFail inst (detail [(0, 1, v.step), (1, 1, v.domain), (2, 1, v.root)]) s

/-- Firmware acts on the revoke field of the image that has reached stage 0x5 (R470). -/
def applyRevocations (s : State) : State :=
  (List.range 4).foldl (fun s k =>
    let left := (List.range 4).any fun j => decide (j ≠ k) && decide (Config.finvarRoot j ≠ 0) && !bit s.sec.revoked j
    if bit s.sec.runRevoke k && decide (s.sec.runRoot ≠ k) && left then burnRevoke k s else s) s

/-! ### Key slots (R473 to R476) -/

/-- Key length of a usage; 0 for none (Table 16-4). -/
def keyLength (u : Nat) : Nat := [0, 16, 32, 16, 32, 16, 32, 32, 16].getD u 0

/-- Host slots. Log entry 69 (DESIGN CHOICE). -/
def hostSlots : Nat := 3840

def State.slot (s : State) (k : Nat) : KeySlot := s.sec.slots.get k

/-- Write a slot whole; a new key starts its packet numbers and replay counters again (R239). Log entry 85 (DEDUCED). -/
def setSlot (k : Nat) (x : KeySlot) (s : State) : State :=
  { s with
    sec := { s.sec with slots := s.sec.slots.put k x }
    wlan := { s.wlan with txPn := s.wlan.txPn.put k 0, replay := s.wlan.replay.clearRange (16 * k) (16 * k + 16) } }

/-- Erase or write the flash record of a persistent slot. -/
def setRecord (k : Nat) (r : Option KeySlot) (s : State) : State := { s with sec := { s.sec with records := s.sec.records.put k r } }

/-- KEY_INSTALL (R474). Log entry 87 (DEDUCED). -/
def keyInstall (p : List Byte) (s : State) : Reply :=
  let no : Status → Reply := fun st => { st := st, s := s }
  let slot := fieldAt p 0 2
  let usage := fieldAt p 2 1
  let fl := fieldAt p 3 1
  let wrapped := bit fl 0
  let persistent := bit fl 1
  let kek := fieldAt p 4 2
  let n := fieldAt p 6 1
  let data := p.drop 8
  if p.length < 8 ∨ 3 < fl ∨ fieldAt p 7 1 ≠ 0 ∨ usage = 0 ∨ 8 < usage ∨ n ≠ keyLength usage + (if wrapped then 8 else 0) ∨
      data.length ≠ n ∨ (!wrapped ∧ kek ≠ 0) then no .badParam
  else if hostSlots ≤ slot ∨ (wrapped ∧ hostSlots ≤ kek) then no .denied
  else if (s.slot slot).usage ≠ 0 then no .conflict
  else if wrapped ∧ (s.slot kek).usage ≠ 7 then no .badParam
  else if persistent ∧ 256 ≤ s.persistentUsed then no .noResource
  else match (if wrapped then Config.keyUnwrap (s.slot kek).key data else some data) with
    | none => no .badParam
    | some key =>
      let x : KeySlot := { usage := usage, key := bytesAt key 0 (keyLength usage), persistent := persistent }
      if persistent ∧ (s.flash.held ∨ s.flash.failing) then no .busy
      else
        let s := if persistent then setRecord slot (some x) s else s
        { st := .ok, s := setSlot slot x s }

/-- Parameters that name key slots, with the slots that a value names. -/
def slotParams : List (ParamDef × (Int → List Nat)) :=
  let one : Int → List Nat := fun v => if v = 0xFFFF then [] else [v.toNat]
  let two : Int → List Nat := fun v => [bits v.toNat 15 0, bits v.toNat 31 16].filter fun k => decide (k ≠ 0xFFFF)
  [(Prm.wlanGtkSlot, two), (Prm.wlanIgtkSlot, two), (Prm.wlanBigtkSlot, two), (Prm.ponMskSlot, one), (Prm.cvnKeySlot, one),
   (Prm.secPatternKeySlot, one)]

/-- Slots that an entry of a table names. Log entry 87 (DEDUCED). -/
def staSlots (b : List Byte) : List Nat := let v := leNat b; (staPtk v).toList ++ (staPtk2 v).toList
/-- Log entry 87 (DEDUCED). -/
def macsecSlots (b : List Byte) : List Nat :=
  let e := macsecEntry b
  (List.range 4).filterMap fun a => if bit e.anValid a then some (e.sak.getD a 0) else none

/-- Everything that names a slot (R475): committed values, those that units have still to give up, and both pages.
Log entry 87 (DEDUCED). -/
def State.slotUsers (s : State) (k : Nat) : List Offence :=
  (slotParams.flatMap fun x => (List.range x.1.n).flatMap fun i =>
    if (x.2 (s.com x.1 i)).contains k || (x.2 (s.par x.1 i)).contains k then [(⟨x.1.id, i, 6⟩ : Offence)] else []) ++
  ((List.range 2048).flatMap fun i =>
    if (staSlots (s.entry Tbl.staEntry i 0)).contains k || (staSlots (s.standbyEntry Tbl.staEntry i 0)).contains k then
      [(⟨Tbl.staEntry.id, i, 6⟩ : Offence)] else []) ++
  (List.range 4).flatMap fun i =>
    if (macsecSlots (s.entry Tbl.secMacsec i 0)).contains k || (macsecSlots (s.standbyEntry Tbl.secMacsec i 0)).contains k then
      [(⟨Tbl.secMacsec.id, i, 6⟩ : Offence)] else []

/-- KEY_RETIRE (R475). Log entry 87 (DEDUCED). -/
def keyRetire (p : List Byte) (s : State) : Reply :=
  let k := fieldAt p 0 2
  if p.length ≠ 4 ∨ fieldAt p 2 2 ≠ 0 then { st := .badParam, s := s }
  else if hostSlots ≤ k then { st := .denied, s := s }
  else if (s.slot k).usage = 0 then { st := .ok, s := s }
  else
    let users := s.slotUsers k
    if !users.isEmpty then refuse .conflict users s
    else if (s.slot k).persistent ∧ s.flash.held then { st := .busy, s := s }
    else { st := .ok, s := setSlot k {} (setRecord k none s) }

/-- Persistent slots are restored at stage 0x3; a record that fails leaves its slot empty (R476). -/
def restoreSlots (bad : List Nat) (s : State) : State :=
  s.sec.records.foldl (fun s r => match r.2 with
    | none => s
    | some x => if bad.contains r.1 then raise Ev.secKeyRestore 0 (detail [(0, 2, r.1)]) s else setSlot r.1 x s) s

/-! ### Customer roots (R472) -/

/-- Reason for which TABLE_COMMIT of SEC.cust_root fails. -/
def State.custRootReasons (s : State) (k : Nat) : List Nat :=
  if (s.sec.custRoot.get k).isSome then [6]
  else if (s.standbyEntry Tbl.secCustRoot k 0).all (· == 0) then [5]
  else []

/-- The burn of a customer root begins. -/
def startBurn (k : Nat) (cid : Nat) (s : State) : State :=
  updTabState Tbl.secCustRoot.id k (fun st => { st with switching := true, cid := some cid })
    { s with sec := { s.sec with burning := s.sec.burning.put k (some cid) } }

/-- ROOT_BURN_DONE: the burn has been read back (R472). -/
def execRootBurnDone (k : Nat) (s : State) : Host.Outcome State Fault Refusal :=
  .next (if (s.sec.burning.get k).isSome then
      let s := { s with sec := { s.sec with custRoot := s.sec.custRoot.put k (some (s.standbyEntry Tbl.secCustRoot k 0))
                                            burning := s.sec.burning.put k none } }
      switchPage Tbl.secCustRoot.id k s.now s
    else s)

/-! ### Debug tokens (R484, R485) -/

/-- A new debug challenge; a stopped generator draws none (R480, R484). -/
def newChallenge (s : State) : State :=
  match drawRandom (2 ^ 64) s with
  | (some x, s) => { s with sec := { s.sec with challenge := x } }
  | (none, s) => s

/-- Check a token: `none` where it passes, else the verdict, whose step is none of the verifier's where a field of the token
itself fails. Log entry 86 (DESIGN CHOICE). -/
def checkToken (t : List Byte) (s : State) : Option (Option SigVerdict) :=
  let perm := fieldAt t 16 4
  if fieldAt t 0 8 ≠ Config.otpDieId % 2 ^ 64 ∨ fieldAt t 8 8 ≠ s.sec.challenge ∨ 7 < perm ∨ fieldAt t 20 44 ≠ 0 then some none
  else
    let v := verify false (fun d => d == 0 || (d == 1 && decide (perm ≤ 1))) t s
    if v.step = 0 then none else some (some v)

/-- The effects of a token that passes (R485): every key slot is emptied, and RMA erases the persistent records.
Log entry 85 (DEDUCED). -/
def unlockDebug (perm : Nat) (s : State) : State :=
  let s := raise Ev.secDebugUnlocked 0 (detail [(0, 4, perm)]) s
  let rma := bit perm 2
  { s with sec := { s.sec with
      debugPerms := perm, slots := [], records := if rma then [] else s.sec.records, lifecycle := if rma then 2 else s.sec.lifecycle } }

/-- TABLE_COMMIT of SEC.debug_token: CONFLICT, or the permissions in force. Log entry 86 (DESIGN CHOICE). -/
def commitToken (s : State) : Status × State :=
  let t := s.standbyEntry Tbl.secDebugToken 0 0
  match checkToken t s with
  | some (some v) => (.conflict, newChallenge (sigFail 0xFFFF v s))
  | some none =>
    let (x, s) := drawBelow 256 s
    (.conflict, newChallenge (sigFail 0xFFFF { step := x, domain := fieldAt t 69 1, root := fieldAt t 70 1 } s))
  | none => (.ok, newChallenge (unlockDebug (fieldAt t 16 4) s))

/-! ### Random number generator (R480) -/

/-- RNG_HEALTH_FAIL: test 1 to 4 fails (R480). -/
def execRngHealthFail (test : Nat) (s : State) : Host.Outcome State Fault Refusal :=
  .next (if 1 ≤ test ∧ test ≤ 4 ∧ 3 ≤ s.boot.stage ∧ s.boot.stage ≠ 15 then
      let again := decide (s.sec.rngFailAt ≠ 0) && decide (s.now + 1 - s.sec.rngFailAt < 60000000000)
      let s := { s with sec := { s.sec with rngFailed := true, rngFailAt := s.now + 1, rngHalt := s.sec.rngHalt || again } }
      admitFault .device Cause.rng (raise Ev.secRngFail 0 (detail [(0, 1, test)]) s)
    else s)

/-- RNG_RESEED: after 2²⁰ requests the DRBG reseeds (R480). -/
def execRngReseed (s : State) : Host.Outcome State Fault Refusal :=
  .next (if 2 ^ 20 ≤ s.sec.rngRequests then { s with sec := { s.sec with rngRequests := s.sec.rngRequests - 2 ^ 20 } } else s)

end Sys2Proof.Machine
end

