-- ==== Sys2Proof/Machine/TableCmd.lean ====
section
/-!
DEFINITION. Table commands: TABLE_WRITE, TABLE_READ and TABLE_COMMIT (R82 to R87).
-/
namespace Sys2Proof.Machine

/-- Group whose unit holds a table (R561): SEC.macsec belongs to the Ethernet ports, the other SEC tables to the management
complex. -/
def TableDef.unitGroup (t : TableDef) : Nat := if t.id = Tbl.secMacsec.id then 0x12 else t.id / 2 ^ 24

/-- A command that addresses a table instance returns BUSY (R64, R561). -/
def State.busyTable (s : State) (t : TableDef) (i : Nat) : Bool := s.busyAt t.unitGroup t.insts false (some i)

/-- The fields that the three payloads share (Table 3-7). -/
structure TableReq where
  id : Nat
  inst : Nat
  flags : Nat
  first : Nat
  count : Nat
  size : Nat
deriving DecidableEq, Repr, Inhabited

def tableReq (p : List Byte) : TableReq :=
  { id := fieldAt p 0 4, inst := fieldAt p 4 2, flags := fieldAt p 6 2, first := fieldAt p 8 4, count := fieldAt p 12 2, size := fieldAt p 14 2 }

/-- A refusal that names the table instance. -/
def TableReq.refuse (q : TableReq) (st : Status) (reason : Nat) (s : State) : Reply := Machine.refuse st [⟨q.id, q.inst, reason⟩] s

/-- The table and instance that a request names (R68); the answer where it names none. -/
def TableReq.look (q : TableReq) (s : State) : Except Reply TableSpec :=
  match findTable q.id with
  | none => .error (q.refuse .badParam 1 s)
  | some t => if t.hasInst q.inst then .ok t else .error (q.refuse .badParam 2 s)

/-- The range checks that TABLE_WRITE and TABLE_READ share (R85). -/
def TableReq.rangeFault (q : TableReq) (t : TableSpec) (s : State) : Option Reply :=
  if 1 < q.flags then some (Machine.refuse .badParam [] s)
  else if q.count = 0 then some { st := .zero, s := s }
  else if 4064 < q.count * q.size then some (Machine.refuse .badParam [] s)
  else if t.count s q.inst < q.first + q.count then some (q.refuse .badParam 9 s)
  else if q.size ≠ t.t.size then some (q.refuse .badParam 8 s)
  else none

/-! ### TABLE_WRITE -/

/-- Clear the standby page to the table's empty entries (Table 3-7); entry 0 of PON.xgem stays firmware's (R308).
Log entry 19 (DESIGN CHOICE). -/
def clearStandby (t : TableDef) (i : Nat) (s : State) : State :=
  let lo := tabKey t.id i 0
  let own := s.standbyEntry Tbl.ponXgem 0 0
  let s := { s with cfg := { s.cfg with standby := Tab.clearRange s.cfg.standby lo (lo + 2 ^ 20) } }
  if t.id = Tbl.ponXgem.id then setStandby Tbl.ponXgem 0 0 own s else s

/-- Edits of the next rule version (R347, R348): `none` where the physical entries run out. -/
def writeTcam (clear : Bool) (first : Nat) (es : List (List Byte)) (s : State) : Option State :=
  let wipe := if clear then s.pkt.nextTcam.map fun e => (e.1, ([] : List Byte)) else []
  let p : Pkt := { s.pkt with tcamEdit := s.pkt.tcamEdit ++ wipe ++ es.zipIdx.map fun e => (first + e.2, e.1) }
  if 16384 < p.tcamUsed then none else some { s with pkt := p }

/-- Apply staged flow entries one after another. -/
def applyFlows (t : Tab (List Byte)) : List (List Byte) → Option (Tab (List Byte))
  | [] => some t
  | e :: r => (applyFlow t e).bind fun t => applyFlows t r

/-- Stage flow entries for the next version (R352): `none` where a key has no free way. Log entry 19 (DESIGN CHOICE). -/
def writeFlow (clear : Bool) (es : List (List Byte)) (s : State) : Option State :=
  let wipe := if clear then s.pkt.nextFlow.map fun e => putAt (bytesAt e.2 0 64) 43 (le 1 (setBit (fieldAt e.2 43 1) 0 false)) else []
  let edits := s.pkt.flowEdit ++ wipe ++ es
  (applyFlows s.pkt.flow edits).map fun _ => { s with pkt := { s.pkt with flowEdit := edits } }

/-- Write entries into the standby page. Log entry 19 (DESIGN CHOICE). -/
def writeEntries (t : TableDef) (i first : Nat) (es : List (List Byte)) (s : State) : State :=
  es.zipIdx.foldl (fun s e => setStandby t i (first + e.2) e.1 s) s

/-- TABLE_WRITE (R82 to R85). -/
def tableWrite (p : List Byte) (s : State) : Reply :=
  let q := tableReq p
  if p.length < 16 then refuse .badParam [] s
  else match q.look s with
    | .error r => r
    | .ok t =>
      if t.ro then q.refuse .badParam 4 s
      else match q.rangeFault t s with
        | some r => r
        | none =>
          let es := (List.range q.count).map fun k => bytesAt p (16 + k * q.size) q.size
          let st := s.tabState q.id q.inst
          let clear := bit q.flags 0
          if p.length ≠ 16 + q.count * q.size then refuse .badParam [] s
          else if !t.writable q.first then q.refuse .badParam 4 s
          else if t.t.id = Tbl.pktFlow.id ∧ q.first ≠ 0 then q.refuse .badParam 9 s
          else if s.busyTable t.t q.inst || st.switching || st.copying then { st := .busy, s := s }
          else if t.locked q.inst s then q.refuse .conflict 6 s
          else if t.t.id = Tbl.pktTcam.id then
            match writeTcam clear q.first es s with
            | none => { st := .noResource, s := s }
            | some s => { st := .ok, s := s }
          else if t.t.id = Tbl.pktFlow.id then
            match writeFlow clear es s with
            | none => { st := .noResource, s := s }
            | some s => { st := .ok, s := s }
          else { st := .ok, s := writeEntries t.t q.inst q.first es (if clear then clearStandby t.t q.inst s else s) }

/-! ### TABLE_READ -/

/-- TABLE_READ (R85). -/
def tableRead (p : List Byte) (s : State) : Reply :=
  let q := tableReq p
  if p.length ≠ 16 then refuse .badParam [] s
  else match q.look s with
    | .error r => r
    | .ok t =>
      if t.secret then q.refuse .badParam 4 s
      else match q.rangeFault t s with
        | some r => r
        | none =>
          if s.busyTable t.t q.inst then { st := .busy, s := s }
          else { st := .ok, body := p ++ (List.range q.count).flatMap fun k => t.read s q.inst (q.first + k) (bit q.flags 0), s := s }

/-! ### TABLE_COMMIT -/

/-- Reasons for which the standby page of an instance may not become active. -/
def TableSpec.faults (t : TableSpec) (i : Nat) (s : State) : List Nat :=
  if t.t.id = Tbl.secCustRoot.id then s.custRootReasons i
  else if t.t.id = Tbl.secDebugToken.id then
    (if (checkToken (s.standbyEntry Tbl.secDebugToken 0 0) s).isSome then [6] else [])
  else t.reasons i s

/-- A commit waits for its switch. -/
def waitForSwitch (id inst cid : Nat) (s : State) : State :=
  updTabState id inst (fun st => { st with switching := true, cid := some cid }) s

/-- The page switch of a checked instance: at once where every unit is at its safe point, else later (R85). -/
def startSwitchTable (t : TableSpec) (i cid : Nat) (s : State) : Reply :=
  if t.t.id = Tbl.secCustRoot.id then { st := .pending, s := startBurn i cid s }
  else if t.t.id = Tbl.secDebugToken.id then
    let (_, s) := commitToken s
    { st := .ok, s := switchPage t.t.id i s.now s }
  else if t.t.id = Tbl.cvnPlan.id then { st := .pending, s := waitForSwitch t.t.id i cid (proposePlan s) }
  else if t.special then { st := .pending, s := waitForSwitch t.t.id i cid s }
  else if t.t.versioned then { st := .ok, s := advanceVersion s }
  else if (t.units i).all fun u => s.unitIdle u.1 u.2 then { st := .ok, s := t.switch i s }
  else { st := .pending, s := waitForSwitch t.t.id i cid s }

/-- TABLE_COMMIT (R82 to R87). Log entry 19 (DESIGN CHOICE). -/
def tableCommit (cid : Nat) (p : List Byte) (s : State) : Reply :=
  let q := tableReq p
  if p.length ≠ 16 then refuse .badParam [] s
  else match q.look s with
    | .error r => r
    | .ok t =>
      let st := s.tabState q.id q.inst
      if t.ro then q.refuse .badParam 4 s
      else if 1 < q.flags ∨ q.first ≠ 0 ∨ q.count ≠ 0 ∨ q.size ≠ 0 then refuse .badParam [] s
      else if s.busyTable t.t q.inst || st.switching || st.copying || t.busy q.inst s then { st := .busy, s := s }
      else if t.locked q.inst s then q.refuse .conflict 6 s
      else
        let fs := t.faults q.inst s
        if !fs.isEmpty then
          refuse .conflict (fs.map fun r => ⟨q.id, q.inst, r⟩)
            (if t.t.id = Tbl.secDebugToken.id ∧ !bit q.flags 0 then (commitToken s).2 else s)
        else if bit q.flags 0 then { st := .ok, s := s }
        else startSwitchTable t q.inst cid s

end Sys2Proof.Machine
end

