-- ==== Sys2Proof/Machine/Pattern.lean ====
section
/-!
DEFINITION. The Pattern image (R88 to R96, R557, R558): its format and validation, selection at boot, PATTERN_LOAD and
PATTERN_SAVE.
-/
namespace Sys2Proof.Machine

/-! ### Format and validation (R89 to R91) -/

/-- The header of Table 3-8. -/
structure PatHead where
  bodyLen : Nat
  seq : Nat
  records : Nat
  flags : Nat
  slot : Nat
  /-- the values that every image of this device has -/
  fixed : Bool
  crc : Nat
deriving DecidableEq, Repr, Inhabited

def patHead (b : List Byte) : PatHead :=
  { bodyLen := fieldAt b 8 4, seq := fieldAt b 12 4, records := fieldAt b 16 4, flags := fieldAt b 20 2, slot := fieldAt b 22 2
    fixed := decide (fieldAt b 0 4 = 0x4E525450) && decide (fieldAt b 4 2 = 1) && decide (fieldAt b 6 2 = 64) &&
      decide (fieldAt b 32 2 = 0x7180) && decide (fieldAt b 34 1 ≤ 0xB0) && decide (fieldAt b 35 25 = 0)
    crc := fieldAt b 60 4 }

/-- The header itself is sound. -/
def PatHead.ok (h : PatHead) : Bool :=
  h.fixed && decide (h.flags ≤ 1) && (decide (h.flags = 1) || decide (h.slot = 0)) && decide (h.bodyLen % 4 = 0) &&
    decide (64 < h.bodyLen) && decide (h.bodyLen ≤ 1048540) && decide (1 ≤ h.seq) && decide (h.seq ≤ 0xFFFFFFFE) &&
    decide (1 ≤ h.records)

/-- Length of the image. -/
def PatHead.total (h : PatHead) : Nat := h.bodyLen + 4 + 32 * h.flags

/-- A table content that an image names. -/
structure PatTab where
  id : Nat
  inst : Nat
  first : Nat
  entries : List (List Byte)
deriving DecidableEq, Repr, Inhabited

/-- What a validation found. -/
structure PatCheck where
  /-- reason of R92, or 0 -/
  reason : Nat := 0
  offs : List Offence := []
  seq : Nat := 0
  /-- named values, in record order -/
  vals : List (ParamDef × Nat × Int) := []
  tabs : List PatTab := []
  skipped : List Nat := []

/-- The offending ID that events carry for reasons 5 and 6 (R92). -/
def PatCheck.ident (c : PatCheck) : Nat := if c.reason = 5 ∨ c.reason = 6 then (c.offs.head?.map (·.id)).getD 0 else 0

/-- The tables of R558. -/
def TableDef.notConfig (t : TableDef) : Bool := decide (t.id = Tbl.secCustRoot.id) || decide (t.id = Tbl.secDebugToken.id)

/-- One record's value added to a check (R91). Log entry 21 (DEDUCED). -/
def patRecord (type : Nat) (opt : Bool) (v : List Byte) (s : State) (c : PatCheck) : PatCheck :=
  let id := fieldAt v 0 4
  let inst := fieldAt v 4 2
  let bad := fun (r : Nat) => { c with reason := 5, offs := c.offs ++ [(⟨id, inst, r⟩ : Offence)] }
  if type = 1 ∧ 8 ≤ v.length then
    let n := fieldAt v 6 2
    match Prm.find id with
    | none => if opt then { c with skipped := c.skipped ++ [id] } else bad 1
    | some p =>
      if n = 0 ∨ v.length ≠ 8 + 8 * n then bad 8
      else
        let es := (List.range n).map fun k => (p, inst + k, p.decode (fieldAt v (8 + 8 * k) 8))
        let os := es.filterMap fun e =>
          let r := if !paramInst p e.2.1 then 2 else if p.notConfig then 4 else setReason p e.2.2
          if r = 0 then none else some (⟨id, e.2.1, r⟩ : Offence)
        if os.isEmpty then { c with vals := c.vals ++ es } else { c with reason := 5, offs := c.offs ++ os }
  else if type = 2 ∧ 16 ≤ v.length then
    let size := fieldAt v 6 2
    let first := fieldAt v 8 4
    let n := fieldAt v 12 4
    match findTable id with
    | none => if opt then { c with skipped := c.skipped ++ [id] } else bad 1
    | some t =>
      if !t.hasInst inst then bad 2
      else if t.ro || t.t.notConfig || !t.writable first then bad 4
      else if n = 0 ∨ v.length ≠ 16 + n * size ∨ size ≠ t.t.size then bad 8
      else if t.count s inst < first + n ∨ (t.t.id = Tbl.pktFlow.id ∧ first ≠ 0) then bad 9
      else { c with tabs := c.tabs ++ [{ id := id, inst := inst, first := first,
                                         entries := (List.range n).map fun k => bytesAt v (16 + k * size) size }] }
  else { c with reason := 5 }

/-- The records from an offset on; `k` bounds their number. -/
def patRecords (s : State) : Nat → List Byte → Nat → PatCheck → PatCheck
  | 0, l, n, c => if l.isEmpty ∧ n = 0 then c else { c with reason := 5 }
  | k + 1, l, n, c =>
    if l.isEmpty then (if n = 0 then c else { c with reason := 5 })
    else
      let len := fieldAt l 4 4
      let whole := 8 + (len + 3) / 4 * 4
      if l.length < 8 ∨ l.length < whole ∨ 1 < fieldAt l 2 2 ∨ (l.take whole).drop (8 + len) ≠ List.replicate (whole - 8 - len) 0 then
        { c with reason := 5 }
      else patRecords s k (l.drop whole) (n - 1)
        (let c' := patRecord (fieldAt l 0 2) (bit (fieldAt l 2 2) 0) ((l.drop 8).take len) s c
         if n = 0 then { c' with reason := 5 } else c')

/-- Items that an image may hold: committed RW and RWI values other than those of R558. -/
def ParamDef.imageItem (p : ParamDef) : Bool := (p.access == .rw || p.access == .rwi) && !p.notConfig

/-- The committed configuration without any value that an image could hold: the master pattern. -/
def masterState (s : State) : State :=
  { s with cfg := { s.cfg with
      par := s.cfg.par.filter fun e => match keyParam e.1 with | some (p, _) => !p.imageItem | none => true
      old := [] } }

/-- Entries of a page as an image names them, over the default page. -/
def pageOf (t : TableDef) (r : PatTab) (set_ : TableDef → Nat → Nat → List Byte → State → State) (s : State) : State :=
  r.entries.zipIdx.foldl (fun s e => set_ t r.inst (r.first + e.2) e.1 s) s

/-- The state whose configuration is the master pattern overlaid with an image, for its consistency check. -/
def overlay (c : PatCheck) (s : State) : State :=
  let s := (masterState s).withVals c.vals
  c.tabs.foldl (fun s r => match findTable r.id with
    | none => s
    | some t => pageOf t.t r setStandby (pageOf t.t r setActive s)) s

/-- Offences of an image under the check of R77 (R91); a rule page is checked against the image's own tables.
Log entry 21 (DEDUCED). -/
def imageOffences (c : PatCheck) (s : State) : List Offence :=
  let t := overlay c s
  let groups := (List.range 25).flatMap fun g => groupOffences g t t
  let pages := c.tabs.flatMap fun r => match findTable r.id with
    | none => []
    | some x =>
      let fs := if r.id = Tbl.cvnPlan.id ∨ r.id = Tbl.pktFlow.id then []
        else if r.id = Tbl.pktTcam.id then (r.entries.flatMap fun e => t.ruleReasons e).eraseDups
        else x.reasons r.inst t
      fs.map fun f => (⟨r.id, r.inst, f⟩ : Offence)
  (zeroOffences c.vals t ++ groups ++ pages).eraseDups

/-- The HMAC requirement of R91. -/
def patHmacOk (h : PatHead) (img : List Byte) (s : State) : Bool :=
  let required := decide (Config.otpPatternHmac % 2 = 1)
  if h.flags = 0 then !required
  else (!required || decide ((h.slot : Int) = s.com Prm.secPatternKeySlot 0)) && decide (h.slot < 4096) &&
    decide ((s.slot h.slot).usage = 6) &&
    decide (Config.hmacSha256 (s.slot h.slot).key (img.take (h.bodyLen + 4)) = bytesAt img (h.bodyLen + 4) 32)

/-- Validate an image (R91). `exact` says that its length is known, as it is for an image that arrived in chunks.
Log entry 21 (DEDUCED). -/
def validate (exact : Bool) (img : List Byte) (s : State) : PatCheck :=
  let h := patHead img
  if img.length < 64 ∨ !h.ok then { reason := 1 }
  else if h.crc ≠ crc32c (img.take 60) then { reason := 2 }
  else if (exact ∧ img.length ≠ h.total) then { reason := 1 }
  else if img.length < h.bodyLen + 4 ∨ fieldAt img h.bodyLen 4 ≠ crc32c (img.take h.bodyLen) then { reason := 3 }
  else if !patHmacOk h img s then { reason := 4 }
  else
    let body := (img.take h.bodyLen).drop 64
    let c := patRecords s body.length body h.records { seq := h.seq }
    if c.reason ≠ 0 then c
    else
      let rwi := c.vals.filter fun v => v.1.access == .rwi
      let os := rwi.flatMap fun v => immediateOffences v.1 v.2.1 v.2.2 (overlay c s)
      if !os.isEmpty then { c with reason := 5, offs := os }
      else
        let os := imageOffences c s
        if os.isEmpty then c else { c with reason := 6, offs := os }

/-! ### Flash copies (R89, R92) -/

/-- The image that a region holds; `none` where it is blank. -/
def State.copy (s : State) (k : Nat) : Option (List Byte) := s.flash.pattern.get k

/-- A copy, validated; `none` where it is blank. -/
def State.copyCheck (s : State) (k : Nat) : Option PatCheck := (s.copy k).map fun img => validate false img s

/-- A copy is valid. -/
def State.copyValid (s : State) (k : Nat) : Option PatCheck :=
  match s.copyCheck k with
  | some c => if c.reason = 0 then some c else none
  | none => none

/-- The newest valid copy; with equal sequences copy 0 counts as the newest (R92, R94). -/
def State.newest (s : State) : Option (Nat × PatCheck) :=
  match s.copyValid 0, s.copyValid 1 with
  | some a, some b => if a.seq < b.seq then some (1, b) else some (0, a)
  | some a, none => some (0, a)
  | none, some b => some (1, b)
  | none, none => none

/-- The region that the next write takes (R94, R96). -/
def State.writeCopy (s : State) : Nat := match s.newest with | some (k, _) => 1 - k | none => 0

/-! ### Applying an image (R95) -/

/-- Values that the image sets, one for each instance that it names or that now differs from the master pattern. -/
def imageVals (c : PatCheck) (s : State) : List (ParamDef × Nat × Int) :=
  let named : Tab Int := c.vals.foldl (fun t v => t.insert (parKey v.1.id v.2.1) v.2.2) []
  let back : List (Nat × Int) := s.cfg.par.filterMap fun e => match keyParam e.1 with
    | some (p, i) => if p.imageItem && !(named.any fun x => x.1 == e.1) then some (e.1, p.deflt i) else none
    | none => none
  let all : Tab Int := back.foldl (fun t e => t.insert e.1 e.2) named
  all.filterMap fun e => (keyParam e.1).map fun k => (k.1, k.2, e.2)

/-- Table instances whose pages an image replaces: those it names, and those that runtime commits have changed. Pages that
firmware or calibration writes are left. -/
def imageTables (c : PatCheck) (s : State) : List (TableSpec × Nat) :=
  let keys := (s.cfg.active.map fun e => (e.1 / 2 ^ 36, e.1 / 2 ^ 20 % 2 ^ 16)) ++ c.tabs.map fun r => (r.id, r.inst)
  keys.eraseDups.filterMap fun k => (findTable k.1).bind fun t =>
    let named := c.tabs.any fun r => r.id == k.1 && r.inst == k.2
    if t.ro || t.t.notConfig || t.t.versioned || (!named && t.locked k.2 s) then none else some (t, k.2)

/-- Build a table instance's standby page from the image and switch it, at once or at its safe point. Log entry 21 (DEDUCED). -/
def imagePage (c : PatCheck) (t : TableSpec) (i : Nat) (s : State) : State :=
  let s := clearStandby t.t i s
  let s := (c.tabs.filter fun r => r.id == t.t.id && r.inst == i).foldl (fun s r => pageOf t.t r setStandby s) s
  if t.t.id ≠ Tbl.tollGate.id ∧ (t.units i).all fun u => s.unitIdle u.1 u.2 then t.switch i s
  else updTabState t.t.id i (fun st => { st with switching := true }) s

/-- The rules and flows of an image become the next version, and it becomes current. Log entry 21 (DEDUCED). -/
def imageVersion (c : PatCheck) (s : State) : State :=
  let of := fun (t : TableDef) => c.tabs.filter fun r => r.id == t.id
  let rules := (of Tbl.pktTcam).flatMap fun r => r.entries.zipIdx.map fun e => (r.first + e.2, e.1)
  let flows := (of Tbl.pktFlow).flatMap fun r => r.entries
  if s.pkt.tcam.isEmpty ∧ s.pkt.flow.isEmpty ∧ rules.isEmpty ∧ flows.isEmpty then s
  else
    let s := { s with pkt := { s.pkt with tcamEdit := [], flowEdit := [] } }
    let s := (writeTcam true 0 [] s).getD s
    let s := (writeFlow true [] s).getD s
    advanceVersion { s with pkt := { s.pkt with tcamEdit := s.pkt.tcamEdit ++ rules, flowEdit := s.pkt.flowEdit ++ flows } }

/-- The commit of the applied image is still being taken: the command waits for it. Log entry 20 (DEDUCED). -/
def waitForImage (cid : Nat) (s : State) : Option State :=
  if s.cfg.commits.any fun c => c.image.isSome && c.cid.isNone then
    some { s with cfg := { s.cfg with commits := s.cfg.commits.map fun c =>
      if c.image.isSome && c.cid.isNone then { c with cid := some cid } else c } }
  else none

/-- Apply a valid image (R95, R557, R558): `source` is what BOOT_STATUS.pattern then reads.
Log entries 20 (DEDUCED), 21 (DEDUCED). -/
def applyImage (source : Nat) (c : PatCheck) (s : State) : State :=
  let s := { s with
    cfg := { s.cfg with staging := [], patSeq := c.seq }
    boot := { s.boot with pattern := source } }
  let s := c.skipped.foldl (fun s id => raise Ev.patternSkipped 0 (detail [(0, 1, source), (4, 4, id)]) s) s
  let vals := imageVals c s
  let s := applyValues 0 (some (c.seq, 24)) (vals.filter fun v => v.1.access == .rw) s
  let s := (vals.filter fun v => v.1.access == .rwi).foldl (fun s v => applyImmediate v.1 v.2.1 v.2.2 s) s
  let s := imageVersion c ((imageTables c s).foldl (fun s x => imagePage c x.1 x.2 s) s)
  applyFeeds { s with radio := { s.radio with feedsReleased := true } }

/-- Detail bytes of the Pattern events (R92). -/
def patDetail (copy : Nat) (c : PatCheck) : Nat := detail [(0, 1, copy), (1, 1, c.reason), (4, 4, c.ident)]

/-- Selection at boot with boot source xSPI flash (R92). -/
def selectPattern (s : State) : State :=
  match s.newest with
  | some (k, c) =>
    let other := s.copyCheck (1 - k)
    let s := applyImage k c s
    match other with
    | some o => if o.reason ≠ 0 then raise Ev.patternFallback 0 (patDetail (1 - k) o) s else s
    | none => s
  | none =>
    let cs := [0, 1].map fun k => (k, s.copyCheck k)
    let s := { s with boot := { s.boot with pattern := 2 }, cfg := { s.cfg with patSeq := 0 } }
    if cs.all fun x => x.2.isNone then raise Ev.patternNone 0 0 s
    else cs.foldl (fun s x => match x.2 with
      | some c => raise Ev.patternBad 0 (patDetail x.1 c) s
      | none => s) s

/-! ### Writing an image to flash (R94, R96) -/

/-- No PATTERN_SAVE or PATTERN_LOAD op 2 can start: one is writing, or flash writes have stopped (R94, R96, R497). -/
def State.patternBusy (s : State) : Bool := s.cfg.patWrite.isSome || s.flash.held

/-- Erase the region that does not hold the newest valid image, and start writing an image there. -/
def startPatternWrite (img : List Byte) (cid : Nat) (s : State) : State :=
  let k := s.writeCopy
  { s with
    flash := { s.flash with pattern := s.flash.pattern.put k none }
    cfg := { s.cfg with patWrite := some { copy := k, image := img, cid := some cid } } }

/-- PATTERN_FLASH_WRITE_DONE: the write has ended with its read-back and validation (R94, R96). -/
def execPatternFlashWriteDone (good : Bool) (s : State) : Host.Outcome State Fault Refusal :=
  .next (match s.cfg.patWrite with
    | none => s
    | some w =>
      if s.flash.held then s
      else
        let c := validate true w.image s
        let t : State := { s with cfg := { s.cfg with patWrite := none } }
        if good && c.reason == 0 then
          finish? w.cid .ok (le 4 c.seq ++ le 4 w.image.length ++ le 1 w.copy)
            { t with flash := { t.flash with pattern := t.flash.pattern.put w.copy (some w.image) } }
        else finish? w.cid .conflict [] t)

/-! ### PATTERN_LOAD (R94) -/

/-- Apply an image for a command: PENDING, and COMPLETE once the last unit has taken its values (R95). -/
def applyFor (cid source : Nat) (c : PatCheck) (s : State) : Reply :=
  let t := applyImage source c s
  match waitForImage cid t with
  | some t => { st := .pending, s := t }
  | none => { st := .pending, s := t, after := finish cid .ok (le 4 c.seq ++ le 2 24) }

/-- PATTERN_LOAD (R94, R95). Log entry 23 (DESIGN CHOICE). -/
def patternLoad (cid : Nat) (p : List Byte) (s : State) : Reply :=
  let op := fieldAt p 0 1
  let copy := fieldAt p 1 1
  let chunks := s.cfg.patChunks
  if p.length < 16 ∨ 3 < op ∨ fieldAt p 2 2 ≠ 0 ∨ fieldAt p 12 4 ≠ 0 ∨ (op ≠ 3 ∧ copy ≠ 0) ∨ 1 < copy then refuse .badParam [] s
  else if op = 0 then
    let (st, c) := takeChunk (2 ^ 20) (fieldAt p 4 4) (fieldAt p 8 4) (p.drop 16) chunks
    { st := st, s := { s with cfg := { s.cfg with patChunks := c } } }
  else if p.length ≠ 16 ∨ fieldAt p 4 8 ≠ 0 then refuse .badParam [] s
  else if op ≠ 2 ∧ !s.stoppedUnits.isEmpty then { st := .busy, s := s }
  else if op = 3 then
    match s.copyCheck copy with
    | none => refuse .conflict [] s
    | some c => if c.reason = 0 then applyFor cid copy c s else refuse .conflict c.offs s
  else if op = 2 ∧ s.patternBusy then { st := .busy, s := s }
  else if !chunks.complete then { st := .conflict, s := s }
  else
    let c := validate true chunks.bytes s
    if c.reason ≠ 0 then refuse .conflict c.offs s
    else
      let t : State := { s with cfg := { s.cfg with patChunks := {} } }
      if op = 1 then applyFor cid 3 c t
      else { st := .pending, s := startPatternWrite chunks.bytes cid t }

/-! ### PATTERN_SAVE (R96) -/

/-- A record, padded to a 4-byte boundary (Table 3-9). -/
def patRec (type : Nat) (v : List Byte) : List Byte :=
  le 2 type ++ le 2 0 ++ le 4 v.length ++ v ++ List.replicate ((4 - v.length % 4) % 4) 0

/-- A PARAM record of one value. -/
def paramRec (p : ParamDef) (i : Nat) (v : Int) : List Byte := patRec 1 (le 4 p.id ++ le 2 i ++ le 2 1 ++ le 8 (ParamDef.encode v))

/-- PARAM records of every value that differs from the master pattern. Log entry 22 (DESIGN CHOICE). -/
def State.savedParams (s : State) : List (List Byte) :=
  s.cfg.par.filterMap fun e => match keyParam e.1 with
    | some (p, i) => if p.imageItem then some (paramRec p i (s.com p i)) else none
    | none => none

/-- A TABLE record of a run of entries. Log entry 22 (DESIGN CHOICE). -/
def tableRec (t : TableDef) (i first : Nat) (es : List (List Byte)) : List Byte :=
  patRec 2 (le 4 t.id ++ le 2 i ++ le 2 t.size ++ le 4 first ++ le 4 es.length ++ es.flatMap fun b => bytesAt b 0 t.size)

/-- TABLE records of every active page that differs from the master pattern: the run from its first to its last entry that
does. Log entry 22 (DESIGN CHOICE). -/
def State.savedTables (s : State) : List (List Byte) :=
  let keys := (s.cfg.active.map fun e => e.1 / 2 ^ 20).eraseDups
  let pages := keys.filterMap fun k => (findTable (k / 2 ^ 16)).bind fun t =>
    let i := k % 2 ^ 16
    let idx := (s.cfg.active.filter fun e => decide (e.1 / 2 ^ 20 = k)).map (·.1 % 2 ^ 20)
    let idx := idx.filter fun j => decide (t.t.id ≠ Tbl.ponXgem.id) || decide (j ≠ 0)
    match idx, idx.getLast? with
    | a :: _, some b =>
      if t.ro || t.t.notConfig then none
      else some (tableRec t.t i a ((List.range (b + 1 - a)).map fun j => s.entry t.t i (a + j)))
    | _, _ => none
  let rules := match s.pkt.tcam, s.pkt.tcam.getLast? with
    | (a, _) :: _, some (b, _) => [tableRec Tbl.pktTcam 0 a ((List.range (b + 1 - a)).map fun j => s.pkt.tcam.get (a + j))]
    | _, _ => []
  let flows := (s.pkt.flow.filter fun e => flowValid e.2).map (·.2)
  pages ++ rules ++ (if flows.isEmpty then [] else [tableRec Tbl.pktFlow 0 0 flows])

/-- The image of the committed configuration (R96). Log entry 22 (DESIGN CHOICE). -/
def State.buildImage (s : State) (seq : Nat) (hmac : Bool) : List Byte :=
  let recs := s.savedParams ++ s.savedTables
  let recs := if recs.isEmpty then [paramRec Prm.hostEvtBatchUs 0 (Prm.hostEvtBatchUs.deflt 0)] else recs
  let body := recs.flatten
  let slot := s.comN Prm.secPatternKeySlot 0
  let head := le 4 0x4E525450 ++ le 2 1 ++ le 2 64 ++ le 4 (64 + body.length) ++ le 4 seq ++ le 4 recs.length ++
    le 2 (b2n hmac) ++ le 2 (if hmac then slot else 0) ++ le 8 (s.tbNs 2) ++ le 2 0x7180 ++ le 1 0xB0 ++ le 25 0
  let all := head ++ le 4 (crc32c head) ++ body
  let all := all ++ le 4 (crc32c all)
  if hmac then all ++ bytesAt (Config.hmacSha256 (s.slot slot).key all) 0 32 else all

/-- PATTERN_SAVE (R96). -/
def patternSave (cid : Nat) (p : List Byte) (s : State) : Reply :=
  let want := bit (fieldAt p 0 1) 0
  if p.length ≠ 4 ∨ 1 < fieldAt p 0 4 then { st := .badParam, s := s }
  else if Config.otpPatternHmac % 2 = 1 ∧ !want then { st := .denied, s := s }
  else if want ∧ !s.patternKey (s.comN Prm.secPatternKeySlot 0) then
    refuse .conflict [⟨Prm.secPatternKeySlot.id, 0, 7⟩] s
  else if s.patternBusy then { st := .busy, s := s }
  else
    let newest := match s.newest with | some (_, c) => c.seq | none => 0
    let img := s.buildImage (newest + 1) want
    if newest = 0xFFFFFFFE ∨ 2 ^ 20 < img.length then { st := .noResource, s := s }
    else { st := .pending, s := startPatternWrite img cid s }

end Sys2Proof.Machine
end

