-- ==== Sys2Proof/Machine/Kernels.lean ====
section
/-!
DEFINITION. Kernel objects: LADLE_LOAD, their validation and placement, installation on the engines (R282 to R285), and
TRACE_READ of the trace rings and of the persistent log (R280, R500).
-/
namespace Sys2Proof.Machine

/-! ### The object format (R283) -/

/-- A section header. -/
structure Section where
  type : Nat
  off : Nat
  len : Nat
  align : Nat
  reserved : Nat
deriving DecidableEq, Repr, Inhabited

/-- Number of sections that the header names. -/
def objSections (o : List Byte) : Nat := fieldAt o 12 2

/-- Section headers follow the 64-byte header (R283). -/
def sectionsOf (o : List Byte) : List Section := (List.range (objSections o)).map fun k =>
  let b := 64 + 16 * k
  { type := fieldAt o b 2, reserved := fieldAt o (b + 2) 2, off := fieldAt o (b + 4) 4, len := fieldAt o (b + 8) 4, align := fieldAt o (b + 12) 4 }

def findSection (o : List Byte) (t : Nat) : Option Section := (sectionsOf o).find? fun x => x.type == t

/-- Content of a section; empty where the object has none. -/
def sectionBytes (o : List Byte) (t : Nat) : List Byte := match findSection o t with
  | some x => (o.drop x.off).take x.len
  | none => []

def sectionLen (o : List Byte) (t : Nat) : Nat := match findSection o t with | some x => x.len | none => 0
def sectionAlign (o : List Byte) (t : Nat) : Nat := match findSection o t with | some x => max 1 x.align | none => 1

/-- Entries of 8 bytes of a section. -/
def entries8 (b : List Byte) : List (List Byte) := (List.range (b.length / 8)).map fun k => bytesAt b (8 * k) 8

/-- A byte offset names a program word. -/
def inProgram (o : List Byte) (x : Nat) : Bool := decide (x % 4 = 0) && decide (x < sectionLen o 1)

/-- The header of Table 9-17 is well formed. -/
def headerOk (o : List Byte) : Bool :=
  decide (64 ≤ o.length) && decide (fieldAt o 0 4 = 0x4C44414C) && decide (fieldAt o 4 2 = 1) && decide (fieldAt o 6 1 ≤ fieldAt o 7 1) &&
    decide (fieldAt o 8 4 = o.length) && decide (1 ≤ objSections o) && decide (objSections o ≤ 32) && decide (fieldAt o 14 2 = 0) &&
    decide (fieldAt o 40 20 = 0) && decide (fieldAt o 60 4 = crc32c (o.take 60)) && inProgram o (fieldAt o 36 4)

/-- A section header is well formed: a type of R283, and its content inside the object. -/
def sectionOk (o : List Byte) (x : Section) : Bool :=
  decide (1 ≤ x.type) && decide (x.type ≤ 8) && decide (x.reserved = 0) && decide (1 ≤ x.align) &&
    (decide (x.type = 4) || decide (x.type = 5) || (decide (64 + 16 * objSections o ≤ x.off) && decide (x.off + x.len ≤ o.length))) &&
    (decide (x.type ≠ 1) || decide (x.len % 4 = 0)) && ((decide (x.type ≠ 6) && decide (x.type ≠ 7)) || decide (x.len % 8 = 0))

/-- A relocation is well formed. -/
def relocOk (o : List Byte) (e : List Byte) : Bool :=
  inProgram o (fieldAt e 0 4) && decide (1 ≤ fieldAt e 4 1) && decide (fieldAt e 4 1 ≤ 3) && decide (fieldAt e 5 3 = 0)

/-- An export is well formed. -/
def exportOk (o : List Byte) (e : List Byte) : Bool :=
  let k := fieldAt e 0 1
  let n := fieldAt e 2 2
  decide (fieldAt e 1 1 = 0) &&
    match k with
    | 1 => decide (n < 256) && inProgram o (fieldAt e 4 4)
    | 2 => decide (n < 64) && inProgram o (fieldAt e 4 4)
    | 3 => decide (n < 256) && decide (fieldAt e 4 4 = 0)
    | _ => false

/-- Header, sections and relocations are well formed (R284, step 1): one PROGRAM section, and no section type twice. -/
def objectOk (o : List Byte) : Bool :=
  headerOk o && (sectionsOf o).all (sectionOk o) && decide ((sectionsOf o).map (·.type)).Nodup && (findSection o 1).isSome &&
    (entries8 (sectionBytes o 6)).all (relocOk o) && (entries8 (sectionBytes o 7)).all (exportOk o)

/-- The signature of an object for a slot (R471): the verdict. Log entry 59 (DESIGN CHOICE). -/
def kernelVerdict (k : Nat) (o : List Byte) (s : State) : SigVerdict :=
  match (sectionsOf o).getLast? with
  | some x =>
    if x.type = 8 ∧ x.len = 256 ∧ x.off + 256 = o.length then
      verify false (fun d => d == 0 || (d == 1 && decide (8 ≤ k) && s.userKernels)) o s
    else { step := 1 }
  | none => { step := 1 }

/-! ### Placement (R284, R285) -/

/-- Kernels resident on engines of a mask, those under installation included, other than slot k's. -/
def State.residents (s : State) (k mask : Nat) : List Kernel :=
  ((s.task.slot.filter fun e => decide (e.1 ≠ k) && decide (e.2.engines &&& mask ≠ 0)).map (·.2)) ++
    s.task.install.filterMap fun i => if i.slot ≠ k ∧ i.mask &&& mask ≠ 0 then i.kernel else none

/-- Bases in `[lo, hi)` at an alignment where a length meets none of the ranges in use. Log entry 59 (DESIGN CHOICE). -/
def placements (lo hi len align : Nat) (used : List (Nat × Nat)) : List Nat :=
  (List.range ((hi - lo) / align + 1)).filterMap fun n =>
    let b := (lo + align - 1) / align * align + n * align
    if b + len ≤ hi ∧ used.all fun u => decide (b + len ≤ u.1) || decide (u.1 + u.2 ≤ b) || decide (u.2 = 0) || decide (len = 0) then some b
    else none

/-- Bytes of data and zero-filled sections that follow them. -/
def dataLen (o : List Byte) (data bss : Nat) : Nat :=
  let a := sectionAlign o bss
  if sectionLen o bss = 0 then sectionLen o data else (sectionLen o data + a - 1) / a * a + sectionLen o bss

/-- Common bases on every engine of a mask, for PROGRAM words, X and Y; `none` where the object does not fit (R284). Which
of the free places firmware takes is left open. Log entry 59 (DESIGN CHOICE). -/
def placeKernel (k mask : Nat) (o : List Byte) (s : State) : Option (Nat × Nat × Nat) × State :=
  let rs := s.residents k mask
  let full := (List.range 32).any fun e => bit mask e &&
    decide (4 ≤ ((s.task.slot.filter fun x => decide (x.1 ≠ k) && bit x.2.engines e).length))
  let pa := max 1 (sectionAlign o 1 / 4)
  let ps := placements 0x400 16384 (sectionLen o 1 / 4) pa (rs.map fun r => (r.progBase, r.progLen))
  let xs := placements 0 0xE000 (dataLen o 2 4) (max (sectionAlign o 2) (sectionAlign o 4)) (rs.map fun r => (r.xBase, r.xLen))
  let ys := placements 0 0x10000 (dataLen o 3 5) (max (sectionAlign o 3) (sectionAlign o 5)) (rs.map fun r => (r.yBase, r.yLen))
  if full ∨ ps.isEmpty ∨ xs.isEmpty ∨ ys.isEmpty then (none, s)
  else
    let (i, s) := drawBelow ps.length s
    let (j, s) := drawBelow xs.length s
    let (l, s) := drawBelow ys.length s
    (some (ps.getD i 0, xs.getD j 0, ys.getD l 0), s)

/-- Relocate an instruction: a base is added to its field (R283). -/
def relocWord (kind base w : Nat) : Nat :=
  let n := if kind = 1 then 14 else 16
  w - w % 2 ^ n + (w % 2 ^ n + base) % 2 ^ n

/-- Program words of an object, relocated. Log entry 59 (DESIGN CHOICE). -/
def relocate (o : List Byte) (pb xb yb : Nat) : List Nat :=
  let b := sectionBytes o 1
  let ws := (List.range (b.length / 4)).map fun k => fieldAt b (4 * k) 4
  (entries8 (sectionBytes o 6)).foldl (fun ws e =>
    let kind := fieldAt e 4 1
    ws.modify (fieldAt e 0 4 / 4) (relocWord kind (if kind = 1 then pb else if kind = 2 then xb else yb))) ws

/-- ABI version chosen: the highest that object and runtime support (R282). Log entry 60 (DESIGN CHOICE). -/
def chosenAbi (o : List Byte) : Option Nat :=
  let hi := min 2 (fieldAt o 7 1)
  if max 1 (fieldAt o 6 1) ≤ hi then some hi else none

/-- The kernel that an object becomes at its bases. -/
def buildKernel (abi mask : Nat) (o : List Byte) (pb xb yb : Nat) : Kernel :=
  let ex := fun (k : Nat) => (entries8 (sectionBytes o 7)).filter fun e => decide (fieldAt e 0 1 = k)
  let zeros := fun (data bss : Nat) => sectionBytes o data ++ List.replicate (dataLen o data bss - sectionLen o data) 0
  { abi := abi, engines := mask, progBase := pb, xBase := xb, yBase := yb
    progLen := sectionLen o 1 / 4, xLen := dataLen o 2 4, yLen := dataLen o 3 5
    posts := (ex 3).map fun e => fieldAt e 2 2
    entries := (ex 1).map fun e => (fieldAt e 2 2, fieldAt e 4 4), handlers := (ex 2).map fun e => (fieldAt e 2 2, fieldAt e 4 4)
    reset := fieldAt o 36 4, prog := relocate o pb xb yb, xData := zeros 2 4, yData := zeros 3 5 }

/-! ### LADLE_LOAD (R284) -/

/-- A queue names the slot. -/
def State.slotNamed (s : State) (k : Nat) : Bool := (List.range 256).any fun q =>
  decide (s.com Prm.taskQueueSlot q = (k : Int)) || decide (s.par Prm.taskQueueSlot q = (k : Int))

/-- Validate an object and start its installation (R284, R285). Log entry 59 (DESIGN CHOICE). -/
def installObject (k mask cid : Nat) (o : List Byte) (s : State) : Reply :=
  if !objectOk o then { st := .badParam, s := s }
  else
    let v := kernelVerdict k o s
    if v.step ≠ 0 then { st := .denied, s := sigFail k v s }
    else match chosenAbi o with
      | none => { st := .badVersion, s := s }
      | some abi =>
        if abi = 1 ∧ (entries8 (sectionBytes o 7)).any fun e => decide (fieldAt e 0 1 = 2) then { st := .conflict, s := s }
        else match placeKernel k mask o s with
          | (none, s) => { st := .noResource, s := s }
          | (some (pb, xb, yb), s) =>
            let i : Install := { slot := k, cid := some cid, kernel := some (buildKernel abi mask o pb xb yb), mask := mask, left := pick 32 (bit mask) }
            { st := .pending, s := { s with task := { s.task with install := s.task.install ++ [i], chunks := {} } } }

/-- LADLE_LOAD (R284). Log entry 59 (DESIGN CHOICE). -/
def ladleLoad (cid : Nat) (p : List Byte) (s : State) : Reply :=
  let op := fieldAt p 0 1
  let k := fieldAt p 1 1
  let mask := fieldAt p 4 4
  let no : Status → Reply := fun st => { st := st, s := s }
  if p.length < 16 ∨ 2 < op ∨ 63 < k ∨ fieldAt p 2 2 ≠ 0 ∨ (op ≠ 0 ∧ p.length ≠ 16) then no .badParam
  else if mask = 0 then no .zero
  else if s.busyAt 0x0A 32 false none then no .busy
  else if op = 0 then
    let (st, c) := takeChunk 262144 (fieldAt p 8 4) (fieldAt p 12 4) (p.drop 16) s.task.chunks
    { st := st, s := { s with task := { s.task with chunks := c } } }
  else if s.task.install.any fun i => i.slot == k then no .busy
  else if op = 1 then
    if (List.range 32).any fun e => bit mask e && ((s.runner e).held || s.recastHolds ⟨0, 0x0A, e⟩) then no .busy
    else if !s.task.chunks.complete then no .conflict
    else installObject k mask cid s.task.chunks.bytes s
  else if s.slotNamed k then no .conflict
  else
    let i : Install := { slot := k, cid := some cid, kernel := none, mask := mask, left := pick 32 (bit mask) }
    { st := .pending, s := { s with task := { s.task with install := s.task.install ++ [i] } } }

/-! ### KERNEL_INSTALL (R285) -/

/-- Every engine of the mask has the new object, or has lost the slot: the COMPLETE result and the VERSION event. What the
result of an unload holds past the slot is left open. Log entries 59 (DESIGN CHOICE), 60 (DESIGN CHOICE). -/
def finishInstall (i : Install) (s : State) : State :=
  let s := { s with task := { s.task with install := s.task.install.filter fun x => x.slot != i.slot } }
  match i.kernel with
  | some n =>
    let s := { s with task := { s.task with slot := s.task.slot.put i.slot n } }
    let s := finish? i.cid .ok
      (le 1 i.slot ++ le 1 n.abi ++ le 2 0 ++ le 4 i.mask ++ le 2 n.progBase ++ le 2 n.xBase ++ le 2 n.yBase ++ le 2 0) s
    serveWaiters (reportVersion 3 i.slot n.abi 0 s)
  | none =>
    let n := s.kernel i.slot
    let left := maskOf 32 fun e => bit n.engines e && !bit i.mask e
    let s := { s with task := { s.task with slot := s.task.slot.put i.slot (if left = 0 then {} else { n with engines := left }) } }
    let (x, s) := drawBelow (2 ^ 120) s
    serveWaiters (finish? i.cid .ok (le 1 i.slot ++ le 15 x) s)

/-- The runtime runs the slot's reset entry: a blocked fetch is abandoned, and RET returns to where the runtime was.
Log entry 53 (DESIGN CHOICE). -/
def runReset (e : Nat) (n : Kernel) (s : State) : State :=
  let s := updRunner e (fun r => { r with fetch := none }) { s with task := { s.task with waiters := s.task.waiters.filter (· != e) } }
  updEng e (fun x => { x with bank0 := { x.bank0 with lr := x.pc }, pc := (n.progBase + n.reset / 4) % 16384, sleep := .awake }) s

/-- KERNEL_INSTALL: engine e is between two jobs, and firmware installs slot k there (R285). -/
def execKernelInstall (k e : Nat) (s : State) : Host.Outcome State Fault Refusal :=
  .next (match s.task.install.find? fun i => i.slot == k with
    | none => s
    | some i =>
      if !i.left.contains e ∨ (s.runner e).job.isSome then s
      else
        let s := match i.kernel with
          | some n => let s := updEng e (loadSlot n) s
            if s.inService e ∧ (s.eng e).stack.isEmpty then runReset e n s else s
          | none => s
        let i := { i with left := i.left.filter (· != e) }
        let s := { s with task := { s.task with install := s.task.install.map fun x => if x.slot = k then i else x } }
        if i.left.isEmpty then finishInstall i s else s)

/-- Objects of installations in progress that an engine already has, written into its memories again after a recast. -/
def reloadInstalls (e : Nat) (s : State) (x : Ladle) : Ladle :=
  s.task.install.foldl (fun x i => match i.kernel with
    | some n => if bit i.mask e && !i.left.contains e then loadSlot n x else x
    | none => x) x

/-! ### TRACE_READ (R280, R500) -/

/-- Modulus of the rings' sequence numbers. -/
def seqMod : Nat := 0xFFFFFFFF

/-- Distance from sequence number `a` up to `b`. -/
def seqUpTo (a b : Nat) : Nat := (b + seqMod - a % seqMod) % seqMod

/-- Records from the start, as long as their numbers are consecutive. -/
def runOf (n : Nat) : Nat → List (Nat × α) → List (Nat × α)
  | _, [] => []
  | 0, _ => []
  | k + 1, (q, r) :: t => if q = n then (q, r) :: runOf ((n + 1) % seqMod) k t else []

/-- The records that a request takes from a ring with its next number, and the count lost before them (R280). -/
def placeRead {α : Type} (next want k : Nat) (ring : List (Nat × α)) : Nat × List (Nat × α) :=
  let d := seqUpTo want next
  if want ≠ 0xFFFFFFFF ∧ (d = 0 ∨ 2 ^ 31 ≤ d) then (0, [])
  else
    let from_ := if want = 0xFFFFFFFF then ring else ring.filter fun r => decide (seqUpTo r.1 next ≤ d)
    let lost := match ring.head? with
      | some r => if want ≠ 0xFFFFFFFF ∧ seqUpTo r.1 next < d then d - seqUpTo r.1 next else 0
      | none => if want ≠ 0xFFFFFFFF then d else 0
    match from_ with
    | [] => (lost, [])
    | r :: _ => (lost, runOf r.1 k from_)

/-- The 16-byte response head (R280). Log entry 27 (DEDUCED). -/
def traceHead {α : Type} (next lost : Nat) (got : List (Nat × α)) : List Byte :=
  let first := match got with | r :: _ => r.1 | [] => next
  le 2 got.length ++ le 2 0 ++ le 4 first ++ le 4 ((first + got.length) % seqMod) ++ le 4 lost

/-- A record of the scheduler ring (R279). -/
def schedBytes (r : TraceRec) : List Byte :=
  le 6 r.time ++ le 1 r.kind ++ le 1 r.group ++ le 1 r.queue ++ le 1 r.engine ++ le 2 0 ++ le 4 r.word

/-- A record of the persistent log (Table 17-4). -/
def logBytes (r : LogRec) : List Byte :=
  let b := le 4 r.seq ++ le 2 r.boot ++ le 1 (b2n r.ev.storm + b2n r.afterFail * 2) ++ le 1 0 ++ recordBytes false r.ev ++ le 4 r.ev.epoch
  b ++ le 4 (crc32c b)

/-- TRACE_READ (R280, R500). Log entry 27 (DEDUCED). -/
def traceRead (p : List Byte) (s : State) : Reply :=
  let source := fieldAt p 0 1
  let fl := fieldAt p 1 1
  let n := fieldAt p 2 2
  let want := fieldAt p 4 4
  let limit := [127, 254, 84].getD source 0
  if p.length ≠ 8 ∨ 2 < source ∨ 1 < fl then { st := .badParam, s := s }
  else if n = 0 then { st := .zero, s := s }
  else if limit < n then { st := .badParam, s := s }
  else if source = 1 ∧ s.busyAt 0x0E 16 false none then { st := .busy, s := s }
  else if source = 0 then
    let ring := (s.evt.recs.filter fun r => r.cls == .trace).map fun r => (r.seq, r)
    let (lost, got) := placeRead s.evt.traceNext want n ring
    let lastTime := match s.mbx.session with | some (3, m) => decide (4 ≤ m) | _ => false
    { st := .ok, body := traceHead s.evt.traceNext lost got ++ got.flatMap fun r => recordBytes lastTime r.2
      s := if fl = 1 then { s with evt := got.foldl (fun e r => takeRecord e r.2) s.evt } else s }
  else if source = 1 then
    let t := s.task
    let (lost, got) := placeRead t.traceNext want n (t.trace.map fun r => (r.seq, r))
    { st := .ok, body := traceHead t.traceNext lost got ++ got.flatMap fun r => schedBytes r.2
      s := if fl = 1 then { s with task := { t with trace := t.trace.filter fun r => !got.any fun g => g.1 == r.seq } } else s }
  else
    let m := s.mgmt
    let (lost, got) := placeRead m.logSeq want n (m.log.map fun r => (r.seq, r))
    { st := .ok, body := traceHead m.logSeq lost got ++ got.flatMap fun r => logBytes r.2, s := s }

end Sys2Proof.Machine
end

