-- ==== Sys2Proof/Machine/Firmware.lean ====
section
/-!
DEFINITION. Firmware banks (R505 to R507): FW_STAGE, FW_ACTIVATE, trials and their rollback, and the verification of loaders
and firmware at boot (R468).
-/
namespace Sys2Proof.Machine

/-! ### Images -/

/-- Verification of a loader or firmware image (R467, R468). -/
def State.fwVerdict (s : State) (img : List Byte) : SigVerdict := verify true finvarOnly img s

/-- The image may run: it verifies, and its svn is at least the OTP security version (R468). -/
def State.fwAccepts (s : State) (img : List Byte) : Bool :=
  let v := s.fwVerdict img
  decide (v.step = 0) && decide (s.sec.svn ≤ v.svn)

/-- The image that a bank holds; an empty bank holds none. -/
def State.bankImage (s : State) (b : Nat) : List Byte := (s.flash.bank.get b).getD []

/-- Write a firmware bank, with the version that it then reports. -/
def setBank (b : Nat) (img : Option (List Byte)) (s : State) : State :=
  { s with
    flash := { s.flash with bank := s.flash.bank.put b img }
    fw := { s.fw with version := s.fw.version.put b (match img with | some i => Config.fwVersion i % 2 ^ 32 | none => 0) } }

/-- The bank that does not run. -/
def State.otherBank (s : State) : Nat := 1 - s.boot.bank

/-- Boot error where none of the images runs (Table 16-3): the root of every one is revoked, every svn is too low, or the
general code. Log entry 89 (DEDUCED). -/
def State.verifyError (s : State) (general : Nat) (imgs : List (List Byte)) : Nat :=
  let vs := (imgs.filter fun i => !i.isEmpty).map s.fwVerdict
  if vs.isEmpty then general
  else if vs.all (·.revoked) then 0x0103
  else if vs.all fun v => v.step == 0 then 0x0104
  else general

/-! ### FW_STAGE (R505) -/

/-- The other bank is erased: it is empty, and nothing is staged. -/
def eraseBank (s : State) : State := setBank s.otherBank none { s with fw := { s.fw with staged := false } }

/-- Queue flash work of FW_STAGE. Log entry 112 (DEDUCED). -/
def queueWork (w : FwWork) (s : State) : State := { s with fw := { s.fw with work := s.fw.work ++ [w] } }

/-- FW_STAGE (R505, Table 17-8). Log entries 23 (DESIGN CHOICE), 88 (DESIGN CHOICE), 112 (DEDUCED). -/
def fwStage (cid : Nat) (p : List Byte) (s : State) : Reply :=
  let no : Status → Reply := fun st => { st := st, s := s }
  let op := fieldAt p 0 1
  if p.length < 16 ∨ 2 < op ∨ fieldAt p 1 3 ≠ 0 ∨ fieldAt p 12 4 ≠ 0 ∨ (op ≠ 0 ∧ p.length ≠ 16) then no .badParam
  else if s.boot.source = 1 ∨ s.fw.trial then no .conflict
  else if s.flash.held then no .busy
  else if op = 0 then
    let (st, c) := takeChunk (2 ^ 23) (fieldAt p 4 4) (fieldAt p 8 4) (p.drop 16) s.fw.chunks
    let first := s.fw.chunks.bytes.isEmpty
    let t : State := { s with fw := { s.fw with chunks := c } }
    if st = .ok then
      { st := .pending, s := queueWork { cid := some cid, erase := first } (if first then eraseBank t else t) }
    else { st := st, s := t }
  else if op = 1 then
    if s.fw.chunks.complete then
      { st := .pending
        s := queueWork { op := 1, cid := some cid, img := s.fw.chunks.bytes } { s with fw := { s.fw with chunks := {} } } }
    else no .conflict
  else
    let t := eraseBank { s with fw := { s.fw with chunks := {} } }
    { st := .ok, s := if s.fw.work.isEmpty then t else queueWork { op := 2, erase := true } t }

/-- FW_FLASH_WRITE_DONE: the oldest bank write or verification finishes (R505). Log entry 112 (DEDUCED). -/
def execFwFlashWriteDone (s : State) : Host.Outcome State Fault Refusal :=
  .next (match s.fw.work with
    | [] => s
    | w :: rest =>
      let t : State := { s with fw := { s.fw with work := rest } }
      let t := if w.erase then eraseBank t else t
      if w.op ≠ 1 then finish? w.cid .ok [] t
      else
        let b := s.otherBank
        if s.fwAccepts w.img then
          let t := setBank b (some w.img) { t with fw := { t.fw with staged := true } }
          let v := t.fw.version.get b
          finish? w.cid .ok (le 4 v ++ le 4 (s.fwVerdict w.img).svn ++ le 1 b) (raise Ev.mgmtFwStaged b (detail [(0, 4, v)]) t)
        else finish? w.cid .denied [] (setBank b none t))

/-! ### FW_ACTIVATE and trials (R506, R507) -/

/-- The bank record selects the other bank, and the chip resets 10 ms later. -/
def activateBank (trial : Bool) (s : State) : State :=
  { s with fw := { s.fw with selected := s.otherBank, trial := trial, staged := false, resetAt := some (s.now + 10000000) } }

/-- FW_ACTIVATE (R506). -/
def fwActivate (p : List Byte) (s : State) : Reply :=
  let no : Status → Reply := fun st => { st := st, s := s }
  let op := fieldAt p 0 1
  if p.length ≠ 4 ∨ 2 < op ∨ fieldAt p 1 3 ≠ 0 then no .badParam
  else if s.boot.source = 1 then no .conflict
  else if s.flash.held then no .busy
  else if op = 0 then
    if !s.fw.staged ∨ s.fw.trial then no .conflict else { st := .ok, s := activateBank true s }
  else if op = 1 then
    if s.fw.trial ∧ s.fw.resetAt.isNone then
      { st := .ok, s := raise Ev.mgmtFwConfirmed s.boot.bank (detail [(0, 4, s.fw.version.get s.boot.bank)])
          { s with fw := { s.fw with trial := false, selected := s.boot.bank } } }
    else no .zero
  else if s.fw.trial ∨ !s.fwAccepts (s.bankImage s.otherBank) then no .conflict
  else { st := .ok, s := activateBank false s }

/-- FW_ACTIVATE_RESET: 10 ms after an activation the chip resets with cause 4 (R506). -/
def execFwActivateReset (s : State) : Host.Outcome State Fault Refusal :=
  .next (match s.fw.resetAt with
    | some t => if t ≤ s.now then chipReset 4 s else s
    | none => s)

/-- A trial runs: its bank has been selected by a chip reset. Log entry 88 (DESIGN CHOICE). -/
def State.trialRuns (s : State) : Bool := s.fw.trial && s.fw.resetAt.isNone

/-- TRIAL_STAGE_TIMEOUT: 30 s without stage 0x5 (R507). Log entry 89 (DEDUCED). -/
def execTrialStageTimeout (s : State) : Host.Outcome State Fault Refusal :=
  .next (if s.trialRuns ∧ s.boot.stage ≠ 5 ∧ 30000000000 ≤ s.now then rollback 1 s else s)

/-- TRIAL_TIME_EXPIRY: fw_trial_s without a confirmation (R507). -/
def execTrialTimeExpiry (s : State) : Host.Outcome State Fault Refusal :=
  .next (if s.trialRuns ∧ s.parN Prm.mgmtFwTrialS 0 * 1000000000 ≤ s.now then rollback 4 s else s)

end Sys2Proof.Machine
end

