-- ==== Sys2Proof/Machine/PowerCmd.lean ====
section
/-!
DEFINITION. Power states (R509 to R517): POWER_REQUEST, entry to STANDBY and SLEEP, the sequencer's steps, wake sources and
wake stages.
-/
namespace Sys2Proof.Machine

/-! ### POWER_REQUEST and entry (R510, R511) -/

/-- First block from b on that an entry to the target still asks (R511, Table 17-11): those that a STANDBY has already stopped
are not asked again. -/
def Power.nextBlock (p : Power) (b : Nat) : Nat :=
  ((List.range 12).find? fun k => decide (b ≤ k) && bit p.target.blocks k && !bit p.down k).getD 12

/-- Block b is asked; the host endpoint is asked last, after the answer to a SLEEP request (R510). -/
def askBlock (b : Nat) (s : State) : State :=
  let s := { s with power := { s.power with block := b, askedAt := s.now } }
  if b = 11 then answerPower .ok s.power.target.code 0xFF s else s

/-- Begin an entry. Log entry 97 (DEDUCED). -/
def startEntry (target : PState) (cid ms : Nat) (s : State) : State :=
  let s := { s with power := { s.power with
    origin := s.power.st, target := target, cid := some cid, cut := none, sleepMs := ms, entryAt := s.now, steps := [], arrived := none } }
  let s := setPower .entering s
  askBlock (s.power.nextBlock 0) s

/-- POWER_REQUEST (R510). Log entry 97 (DEDUCED). -/
def powerRequest (cid : Nat) (p : List Byte) (s : State) : Reply :=
  let no : Status → Reply := fun st => { st := st, s := s }
  let t := fieldAt p 0 1
  let ms := fieldAt p 4 4
  if p.length ≠ 8 ∨ fieldAt p 1 3 ≠ 0 ∨ 2 < t then no .badParam
  else if t = s.power.st.code then no .ok
  else if s.recasting ∨ s.power.st = .entering ∨ s.power.st = .waking ∨ s.power.cid.isSome ∨ s.power.retryFrom.isSome then no .busy
  else match t with
    | 0 =>
      { st := .pending, s := { s with power := { s.power with cid := some cid, cut := none, entryAt := s.now } }, after := startWake (some 4) }
    | 1 => { st := .pending, s := s, after := startEntry .standby cid ms }
    | _ => { st := .pending, hold := true, s := s, after := startEntry .sleep cid ms }

/-- A block asked still has work that makes it refuse after its drain time (Table 17-11). Log entry 97 (DEDUCED). -/
def State.blockBusy (s : State) (b : Nat) : Bool :=
  match b with
  | 0 => (List.range 3).any fun r => (s.wradio r).switching
  | 1 => (List.range 32).any fun e => (s.runner e).job.isSome
  | 7 => (s.dma.jobs.any fun j => j.op == .read || j.op == .write || j.splice) || s.dma.objs.any fun o => o.st == .open_
  | 8 => s.dma.chan.any fun c => c.2.isSome
  | 9 => (List.range 28).any fun n => (s.runner (0x40 + n)).job.isSome
  | _ => false

/-- What a block does when it stops: the MAC ends its TXOP, the packet path releases every waybill, and the host endpoint goes
down (Table 17-11, R509). -/
def stopBlock (b : Nat) (s : State) : State :=
  let s := { s with power := { s.power with down := setBit s.power.down b true } }
  match b with
  | 0 => (List.range 3).foldl (fun s r => updWradio r (fun w => { w with txop := none, round := none, sp := none }) s) s
  | 10 =>
    let n := s.pkt.wb.length
    let freed := s.par Prm.pktRecastFreed 0
    if n = 0 then s else (bumpBy Prm.pwrSleepFreed 0 n (clearPacketPath s)).setPar Prm.pktRecastFreed 0 freed
  | 11 => if s.hostUp then dropLink (resetEndpoint s) else s
  | _ => s

/-- Every block has agreed: engines are DORMANT, RL lanes DEEP and feeds off where the state has them off, and the sequencer has
its steps to take (Table 17-10, R512). -/
def startSequencer (s : State) : State :=
  let s := (List.range 32).foldl (fun s e => updEng e (fun x => { x with sleep := .dormant }) s) s
  let s := (List.range 16).foldl (fun s n => setLane n .deep s) s
  let s := applyFeeds s
  if s.power.target == .sleep then
    let s := (List.range 4).foldl (fun s n => if (s.lane (16 + n)).st == .down then s else setLane (16 + n) .down s) s
    let s := stopStore s
    { s with power := { s.power with steps := [1, 2, 3] }, dma := { s.dma with sram := [] } }
  else { s with power := { s.power with steps := [2] } }

/-- Values of the time bases. Log entry 98 (DESIGN CHOICE). -/
def State.tbValues (s : State) : Tab Nat := (List.range 12).foldl (fun t k => t.put k (s.tbase k).val) []

/-- One step of the sequencer (R512, R544). -/
def sequencerStep (k : Nat) (s : State) : State :=
  let p := s.power
  match k with
  | 1 => { s with power := { p with memOff := true } }
  | 2 => { s with power := { p with pllOff := true, tbEntry := if p.target == .sleep then some s.tbValues else none } }
  | _ => dropGpios { s with power := { p with railsOff := true }, boot := { s.boot with enables := 0, pmicPg := false } }

/-- The target state is reached: a STANDBY request completes (R510). -/
def entryDone (s : State) : State :=
  let s := setPower s.power.target { s with power := { s.power with asleepAt := s.now } }
  answerPower .ok s.power.target.code 0xFF s

/-- The block being asked answers; the last one starts the sequencer (R511, R512). Log entry 97 (DEDUCED). -/
def blockAnswers (s : State) : State :=
  let b := s.power.block
  if s.blockBusy b then
    if s.power.askedAt + s.parN Prm.pwrDrainMs 0 * 1000000 ≤ s.now then abortEntry b s else s
  else
    let s := stopBlock b s
    let n := s.power.nextBlock (b + 1)
    if n < 12 then askBlock n s else startSequencer s

/-- ENTRY_BLOCK_DRAIN: the block asked agrees or refuses (R511); once every block has agreed, the sequencer's next step is done,
and a wake source that has arrived wakes from there (R512). -/
def execEntryBlockDrain (s : State) : Host.Outcome State Fault Refusal :=
  .next (
    if s.power.st != .entering then s
    else match s.power.steps with
      | [] => blockAnswers s
      | k :: rest =>
        let s := sequencerStep k s
        match s.power.arrived with
        | some c => startWake (some c) { s with power := { s.power with cut := some 0xFF } }
        | none =>
          let s := { s with power := { s.power with steps := rest } }
          if rest.isEmpty then entryDone s else s)

/-! ### Wake (R512 to R517) -/

/-- Units of 2⁻⁴⁸ ns in a tick of the 32.768 kHz counter: 30,517.578125 ns (R516). -/
def tickUnits : Nat := 1953125 * 2 ^ 42

/-- At the first 32.768 kHz edge after the oscillator stage every time base resumes from its entry value plus the counted ticks,
those other than TB0 with their rate; the counter's phase at entry is open (R516). Log entry 98 (DESIGN CHOICE). -/
def resumeTime (s : State) : State :=
  match s.power.tbEntry with
  | none => s
  | some t =>
    let (phase, s) := drawBelow tickUnits s
    let n := ((s.tbase 0).val - t.get 0 + phase) / tickUnits + 1
    let d := n * tickUnits
    let s := (List.range 12).foldl (fun s k => updTb k (fun x =>
      let step := if k = 0 then d else ((d : Int) + (d : Int) * x.rate / 1000000000000).toNat
      { x with val := (t.get k + step) % 2 ^ 112 }) s) s
    { s with power := { s.power with tbEntry := none } }

/-- The condition behind a wake source (R515). Log entry 111 (DEDUCED). -/
def State.wakeHolds (s : State) (b : Nat) : Bool :=
  match b with
  | 0 => true
  | 2 => (List.range 16).any fun h => (s.feed h).st == .shortWait || (s.feed h).st == .lockout || (s.feed h).st == .reversed
  | 3 => s.mgmt.warm
  | _ => false

/-- WAKE_SOURCE: WAKE_L low (0), a feed in SHORT_WAIT, LOCKOUT or REVERSED (2), or the temperature at warn (3) (R515).
Log entry 111 (DEDUCED). -/
def execWakeSource (b : Nat) (s : State) : Host.Outcome State Fault Refusal := .next (if s.wakeHolds b then wakeSource b s else s)

/-- SLEEP_TIMER_EXPIRY: the sleep time of the request has elapsed (R510, R515). -/
def execSleepTimerExpiry (s : State) : Host.Outcome State Fault Refusal :=
  let p := s.power
  .next (if (p.st == .standby || p.st == .sleep) && decide (p.sleepMs ≠ 0) && decide (p.asleepAt + p.sleepMs * 1000000 ≤ s.now) then
      wakeSource 1 { s with power := { p with sleepMs := 0 } }
    else s)

/-- The blocks are restored: engines with their resident kernels, radios and PON from their start, lanes out of DEEP (Table 17-12,
Table 17-7). Log entry 98 (DESIGN CHOICE). -/
def restoreBlocks (s : State) : State :=
  let slept := s.power.railsOff || s.power.target == .sleep
  let down := s.power.down
  let s := { s with power := { s.power with down := 0, memOff := false, pllOff := false, railsOff := false } }
  let s := if bit down 1 then (List.range 32).foldl (fun s e => updEng e (fun _ => reloadInstalls e s (freshEngine e s)) s) s else s
  let s := if bit down 0 then (List.range 3).foldl (fun s r => clearRadio r s) s else s
  let s := if bit down 4 then (List.range 16).foldl (fun s n =>
      if s.par Prm.lanePower n = 1 then s else setLane n .down (updLane n (fun k => { k with deepExit := true }) s)) s else s
  let s := if slept && bit down 6 then ponStart s else s
  let s := if slept then (List.range 2).foldl (fun s d => updDrive d (fun x => if x.st == .init then { x with initAt := s.now } else x) s) s
    else s
  serveWaiters (applyFeeds (driveGpios s))

/-- The wake is complete: RUN (R510, R513, R517). -/
def wakeDone (s : State) : State :=
  let s := setPower .run (restoreBlocks s)
  let s := match s.power.cut with
    | some b => answerPower .conflict 0 b s
    | none => answerPower .ok 0 0xFF s
  runQueued s

/-- The running stage is ready (R513). -/
def stageReady (s : State) : State :=
  let p := s.power
  match p.stage with
  | 0 => startStage (p.nextStage 1) { s with power := { p with railsOff := false }, boot := { s.boot with pmicPg := true } }
  | 1 =>
    let s := resumeTime { s with power := { p with pllOff := false } }
    startStage (p.nextStage 2) s
  | 2 => startStage 3 { s with power := { p with memOff := false } }
  | _ => wakeDone s

/-- WAKE_STAGE_READY (R513). -/
def execWakeStageReady (s : State) : Host.Outcome State Fault Refusal := .next (if s.power.st == .waking then stageReady s else s)

/-- Longest time of a wake stage in ns (Table 17-12). -/
def State.stageLimit (s : State) (k : Nat) : Nat :=
  match k with
  | 0 => s.parN Prm.pwrRegTimeoutMs 0 * 1000000
  | 1 => s.parN Prm.pwrOscTimeoutUs 0 * 1000
  | 2 => s.parN Prm.pwrMemTimeoutMs 0 * 1000000
  | _ => s.parN Prm.pwrLogicTimeoutMs 0 * 1000000

/-- Back every stage of the attempt out: the device is left in its sleep state, and the time bases go back to the always-on
counter at the values they have reached (R514, R516). -/
def backOut (s : State) : State :=
  let p := s.power
  let sleep := p.target == .sleep
  let s := if sleep && s.hostUp then dropLink (resetEndpoint s) else s
  let s := { s with power := { s.power with
    down := p.down ||| p.target.blocks, memOff := sleep, pllOff := true, railsOff := sleep
    tbEntry := if sleep then (if p.tbEntry.isSome then p.tbEntry else some s.tbValues) else none } }
  let s := if sleep then dropGpios { s with boot := { s.boot with enables := 0, pmicPg := false } } else s
  setPower p.target { s with power := { s.power with asleepAt := s.now } }

/-- WAKE_STAGE_TIMEOUT: the running stage times out; `which` is the LPDDR6 channel or PLL, 0xFF none (R514). A fourth failure ends
the series. -/
def execWakeStageTimeout (which : Nat) (s : State) : Host.Outcome State Fault Refusal :=
  let k := s.power.stage
  .next (
    if s.power.st != .waking || decide (s.now < s.power.stageAt + s.stageLimit k) then s
    else
      let n := s.power.attempt
      let s := bump Prm.pwrWakeFail k (backOut s)
      let s := raise Ev.pwrWakeStageFail k (detail [(0, 1, n), (1, 1, which)]) s
      if n < 4 then runQueued { s with power := { s.power with retryFrom := some s.now } }
      else runQueued (answerPower .conflict s.power.target.code 0xFF (raise Ev.pwrWakeFail 0 (detail [(0, 1, k)]) s)))

/-- WAKE_RETRY: retry_ms after a failed attempt the next one starts (R514). -/
def execWakeRetry (s : State) : Host.Outcome State Fault Refusal :=
  .next (match s.power.retryFrom with
    | some t => if t + s.parN Prm.pwrRetryMs 0 * 1000000 ≤ s.now then startAttempt s else s
    | none => s)

end Sys2Proof.Machine
end

