-- ==== Sys2Proof/Machine/Boot.lean ====
section
/-!
DEFINITION. Power-up, boot and the supply events (R38, R67, R468, R508, R528, R533, R542 to R544, R553).
-/
namespace Sys2Proof.Machine

/-- Update the boot record. -/
def updBoot (f : Boot → Boot) (s : State) : State := { s with boot := f s.boot }

/-! ### Power-up (Table 19-3) -/

/-- ALWAYS_ON_RAILS_VALID (step 1). -/
def execAlwaysOnRailsValid (s : State) : Host.Outcome State Fault Refusal := .next (updBoot (fun b => { b with railsValid := true }) s)

/-- POR_RELEASE (step 2): the always-on domain is released and PMIC_EN0 rises. -/
def execPorRelease (s : State) : Host.Outcome State Fault Refusal :=
  .next (if s.boot.railsValid && !s.boot.released then updBoot (fun b => { b with released := true, enables := 1 }) s else s)

/-- The sequencer may raise the rails: step 2 is held while RESET_L is low (R542), and nothing rises after a halt, in a power-down
or in a thermal hold. Log entry 91 (DEDUCED). -/
def State.mayRise (s : State) : Bool :=
  s.boot.released && !s.boot.resetLow && !s.boot.powerDown && !s.boot.tripped && decide (s.boot.stage = 0)

/-- PMIC_ENABLE_STEP (steps 3 to 5): the next enable rises. -/
def execPmicEnableStep (s : State) : Host.Outcome State Fault Refusal :=
  .next (if s.mayRise && decide (s.boot.enables < 15) then updBoot (fun b => { b with enables := 2 * b.enables + 1 }) s else s)

/-- PMIC_PG_RISE: PMIC_PG goes high and the PLLs start (steps 6 and 7); in a wake it ends the regulator stage (R513). -/
def execPmicPgRise (s : State) : Host.Outcome State Fault Refusal :=
  .next (
    if s.power.st == .waking && decide (s.power.stage = 0) then stageReady s
    else if s.mayRise && decide (s.boot.enables = 15) then updBoot (fun b => { b with pmicPg := true, pllStarted := true }) s
    else s)

/-- PMIC_PG_TIMEOUT: PMIC_PG still low 50 ms after step 2; the enables fall and boot halts (R542). -/
def execPmicPgTimeout (s : State) : Host.Outcome State Fault Refusal :=
  .next (if s.mayRise && !s.boot.pmicPg && decide (s.boot.enables ≠ 0) then bootHalt 0x0202 (updBoot (fun b => { b with enables := 0 }) s)
    else s)

/-- BOOT_PLL_LOCK: the PLLs lock, the internal reset ends, GPIO0 is sampled as BOOT_SRC and the ROM starts (step 8, R468, R480,
R533). `otpOk` and `rngOk` are the ROM's checks of OTP and of the random number generator. Log entry 90 (DEDUCED). -/
def execBootPllLock (otpOk rngOk : Bool) (s : State) : Host.Outcome State Fault Refusal :=
  .next (
    if !(s.mayRise && s.boot.pllStarted && !s.boot.running) then s
    else
      let s := updBoot (fun b => { b with running := true, source := b2n (s.gpio.get 0).level }) s
      let s := setStage 1 s
      if !otpOk then bootHalt 0x0105 s
      else if !rngOk || s.sec.rngHalt then bootHalt 0x0106 { s with sec := { s.sec with rngHalt := false } }
      else s)

/-- XSPI_RESET_RELEASE (step 9, R528). -/
def execXspiResetRelease (s : State) : Host.Outcome State Fault Refusal :=
  .next (if s.boot.running then updBoot (fun b => { b with xspiReleased := true }) s else s)

/-! ### Loader and firmware (R67, R468, R505, R553) -/

/-- LOADER_VERIFY: the ROM has verified the loader copies; the first that passes runs (R468). `responds` is whether the flash
answers (Table 17-9). -/
def execLoaderVerify (responds : Bool) (s : State) : Host.Outcome State Fault Refusal :=
  let copies := [s.flash.loader.get 0, s.flash.loader.get 1]
  .next (
    if s.boot.stage ≠ 1 ∨ s.boot.source ≠ 0 ∨ s.boot.loaderRuns ∨ !s.boot.xspiReleased then s
    else if !responds then bootHalt 0x0201 s
    else if copies.any s.fwAccepts then updBoot (fun b => { b with loaderRuns := true }) s
    else bootHalt (s.verifyError 0x0101 copies) s)

/-- Data rates of Table 19-11, MT/s. -/
def ddrRates : List Nat := [10667, 9600, 8533, 7467, 6400]

/-- DDR_TRAINING_DONE: the loader has compared and trained the channels (R553): `gib` in total, and the rate at which all four
passed, 0 for none. -/
def execDdrTrainingDone (equal : Bool) (gib rate : Nat) (s : State) : Host.Outcome State Fault Refusal :=
  .next (
    if s.boot.stage ≠ 1 ∨ !s.boot.loaderRuns then s
    else if !equal then bootHalt 0x0206 s
    else if rate = 0 then bootHalt 0x0203 (updBoot (fun b => { b with ddrBytes := gib * 2 ^ 30 }) s)
    else if [8, 16, 24, 32].contains gib && ddrRates.contains rate then
      setStage 2 (updBoot (fun b => { b with ddrBytes := gib * 2 ^ 30, ddrRate := rate }) s)
    else s)

/-- A verified firmware image starts: stage 0x3 (R469, R470). Log entry 89 (DEDUCED). -/
def startFirmware (img : List Byte) (s : State) : State :=
  let v := s.fwVerdict img
  setStage 3 { s with
    boot := { s.boot with fwVersion := Config.fwVersion img % 2 ^ 32, initAt := s.now, beatAt := s.now }
    sec := { s.sec with svnRunning := v.svn, runRevoke := v.revoke, runRoot := v.root } }

/-- FIRMWARE_VERIFY: the loader has verified the bank that the record selects, and the other one where that fails (R468, R507). -/
def execFirmwareVerify (s : State) : Host.Outcome State Fault Refusal :=
  let b := s.fw.selected
  let run := fun (k : Nat) (fallback : Bool) =>
    startFirmware (s.bankImage k) (updBoot (fun x => { x with bank := k, fallback := fallback }) s)
  .next (
    if s.boot.stage ≠ 2 ∨ s.boot.source ≠ 0 then s
    else if s.fwAccepts (s.bankImage b) then run b false
    else if s.fwAccepts (s.bankImage (1 - b)) then run (1 - b) true
    else bootHalt (s.verifyError 0x0102 [s.bankImage 0, s.bankImage 1]) s)

/-! ### Boot push (R67) -/

/-- Answer a boot push message: its status goes into bytes 16 and 17, and the window is handed back. -/
def answerPush (st : Status) (s : State) : State :=
  handBack 0 .response (s.setWin 0 { s.win 0 with bytes := writeBytes (s.win 0).bytes 16 (le 2 st.code) })

/-- Boot push op 1: verify the image; a pass starts it, and the third failure halts boot (R67). -/
def finishPush (image : Nat) (s : State) : State :=
  let img := s.boot.push.bytes
  if !s.boot.push.complete then answerPush .conflict s
  else
    let s := updBoot (fun b => { b with push := {} }) s
    if s.fwAccepts img then
      let s := answerPush .ok s
      if image = 1 then updBoot (fun b => { b with loaderRuns := true }) s else startFirmware img s
    else
      let n := s.boot.pushFails.get image + 1
      let s := answerPush .denied (updBoot (fun b => { b with pushFails := b.pushFails.put image n }) s)
      if 3 ≤ n then bootHalt (0x0100 + image) s else s

/-- The ROM or the loader takes the boot push message that window 0 holds (R67, Table 2-24). -/
def bootPush (s : State) : State :=
  let m := readBytes (s.win 0).bytes 0 4096
  let image := fieldAt m 4 1
  let op := fieldAt m 5 1
  let n := fieldAt m 6 2
  if fieldAt m 0 4 ≠ 0x48535550 ∨ image = 0 ∨ 2 < image ∨ 1 < op ∨ fieldAt m 16 2 ≠ 0 ∨ (bytesAt m 18 14).any (· ≠ 0) ∨ 4064 < n ∨
      (op = 1 ∧ n ≠ 0) then answerPush .badParam s
  else if image ≠ s.boot.stage ∨ (image = 1 ∧ s.boot.loaderRuns) then answerPush .conflict s
  else if op = 1 then finishPush image s
  else
    let limit := if image = 1 then 2 ^ 19 else 2 ^ 23
    let (st, c) := takeChunk limit (fieldAt m 8 4) (fieldAt m 12 4) ((m.drop 32).take n) s.boot.push
    answerPush st (updBoot (fun b => { b with push := c }) s)

/-! ### Firmware initialisation -/

/-- Every unit starts with the committed configuration (R77, R87, R172, R241, R289, R400, R437).
Log entries 89 (DEDUCED), 106 (DEDUCED). -/
def startUnits (s : State) : State :=
  let s := (List.range 128).foldl (fun s c => applyAch c (fun _ => false) s) s
  let s := (List.range 8).foldl (fun s k => if s.sectorOn k && !(s.tbase (3 + k)).isSet then startSector k s else s) s
  let s := if s.pon.st == .off then ponStart s else s
  let s := (List.range 2).foldl (fun s d => applyDriveEnable d s) (takeCvn s)
  serveWaiters (applyFeeds (driveGpios s))

/-- BOOT_READY: firmware initialisation completes: persistent keys are restored, those whose record fails in `bad`; the Pattern
image is applied; and the stage becomes 0x5, or 0xE after a fallback or a rollback (R38, R92, R93, R476, R507). -/
def execBootReady (bad : List Nat) (s : State) : Host.Outcome State Fault Refusal :=
  .next (
    if s.boot.stage ≠ 3 then s
    else
      let s := newChallenge (restoreSlots bad s)
      let s := if s.boot.source = 0 then selectPattern s else updBoot (fun b => { b with pattern := 2 }) s
      let s := startUnits (setStage 4 s)
      if s.fw.rollback ≠ 0 then
        raise Ev.mgmtFwRollback s.boot.bank (detail [(0, 1, s.fw.rollback)]) (setStage 14 { s with fw := { s.fw with rollback := 0 } })
      else if s.boot.fallback then setStage 14 s
      else applyRevocations (setStage 5 s))

/-- BOOT_INIT_TIMEOUT: firmware initialisation exceeds 30 s (Table 17-9). -/
def execBootInitTimeout (s : State) : Host.Outcome State Fault Refusal :=
  .next (if s.boot.stage = 3 ∧ s.boot.initAt + 30000000000 ≤ s.now then bootHalt 0x0204 s else s)

/-! ### Reset pin and supplies (R496, R497, R528, R544) -/

/-- RESET_PIN: RESET_L changes level, held low for at least 10 µs; its fall resets the chip with cause 1 (R528). -/
def execResetPin (low : Bool) (s : State) : Host.Outcome State Fault Refusal :=
  let t := updBoot (fun b => { b with resetLow := low }) s
  .next (if low && !s.boot.resetLow && s.boot.released then chipReset 1 t else t)

/-- Firmware runs on the management complex (R489). -/
def State.mgmtRuns (s : State) : Bool := decide (3 ≤ s.boot.stage) && decide (s.boot.stage ≠ 15)

/-- Restart from step 2 of Table 19-3 (R544). Log entries 91 (DEDUCED), 92 (DEDUCED). -/
def restart (s : State) : State :=
  updBoot (fun b => { b with powerDown := false, off := false, enables := 1 }) { s with flash := { s.flash with held := false } }

/-- A fall of PWRFAIL_L or its equivalent starts one power-down: the FATAL record, the dying gasp, and an end to flash writes
(R303, R497, R544). Log entry 91 (DEDUCED). -/
def powerFail (s : State) : State :=
  if s.boot.powerDown ∨ !s.boot.released then s
  else
    let s := updBoot (fun b => { b with powerDown := true, failAt := s.now }) s
    let s : State := { s with flash := { s.flash with held := true }, pon := { s.pon with dyingGasp := true } }
    if s.mgmtRuns then
      let r := evRec Ev.mgmtPowerLoss 0 0 s
      pump (ringInsert r (logFatal true Ev.mgmtPowerLoss 0 0 s))
    else s

/-- POWER_FAIL: PWRFAIL_L changes level, low for at least 10 µs; when it is high again after a power-down has ended the device
restarts (R544). -/
def execPowerFail (low : Bool) (s : State) : Host.Outcome State Fault Refusal :=
  let t := updBoot (fun b => { b with pwrfailLow := low }) s
  .next (if low then (if s.boot.pwrfailLow then s else powerFail t) else if s.boot.off then restart t else t)

/-- POWERDOWN_SEQUENCE: 3 ms after the fall the enables go low, EN3 first; the device stays off until PWRFAIL_L is high (R544). -/
def execPowerdownSequence (s : State) : Host.Outcome State Fault Refusal :=
  .next (
    if !s.boot.powerDown ∨ s.boot.off ∨ s.now < s.boot.failAt + 3000000 then s
    else
      let t := resetWith 0 (updBoot (fun b => { b with enables := 0, pmicPg := false, off := true }) s)
      if t.boot.pwrfailLow then t else restart t)

/-- PMIC_PG_LOSS: a low of at least 10 µs counts as a fall of PWRFAIL_L, except in SLEEP, on the way there and in a wake (R544). -/
def execPmicPgLoss (s : State) : Host.Outcome State Fault Refusal :=
  let t := updBoot (fun b => { b with pmicPg := false }) s
  let ignored := s.power.st == .sleep || s.power.st == .waking || (s.power.st == .entering && s.power.target == .sleep)
  .next (if s.boot.pmicPg && decide (s.boot.enables = 15) && !ignored then powerFail t else t)

/-- AON_RAIL_LOSS: an always-on rail falls below its detector threshold: everything but non-volatile storage is lost, at once and
without a record (R544). Log entry 93 (DEDUCED). -/
def execAonRailLoss (s : State) : Host.Outcome State Fault Refusal :=
  let t := resetWith 0 s
  .next { t with
    boot := { pwrfailLow := s.boot.pwrfailLow, resetLow := s.boot.resetLow }
    flash := { t.flash with held := false }
    sec := { t.sec with rngHalt := false }
    fw := { t.fw with resets := s.fw.resets }
    jtag := {} }

/-- Trip threshold in 0.1 °C (Table 17-2). -/
def State.trip (s : State) : Int := if s.grade = 1 then 1200 else 1150

/-- THERMAL_TRIP: the comparator sees `t` (0.1 °C) at trip: the switched rails go and the device is held in reset (R496).
Log entry 92 (DEDUCED). -/
def execThermalTrip (t : Int) (s : State) : Host.Outcome State Fault Refusal :=
  .next (
    if s.boot.released ∧ !s.boot.tripped ∧ s.trip ≤ t then
      chipReset 5 (updBoot (fun b => { b with enables := 0, pmicPg := false, tripped := true }) s)
    else s)

/-- THERMAL_TRIP_RELEASE: the highest reading is 15 °C below trip, and the chip is released (R496). Log entry 92 (DEDUCED). -/
def execThermalTripRelease (t : Int) (s : State) : Host.Outcome State Fault Refusal :=
  .next (if s.boot.tripped ∧ t ≤ s.trip - 150 then updBoot (fun b => { b with tripped := false, enables := 1 }) s else s)

end Sys2Proof.Machine
end

