-- ==== Sys2Proof/Machine/Mgmt.lean ====
section
/-!
DEFINITION. The management complex: heartbeat, lockstep and watchdogs (R489 to R491), sensors and the power cap (R493 to
R495), the persistent log's writer (R498, R499), and LPDDR6 scrubbing (R554).
-/
namespace Sys2Proof.Machine

/-! ### Heartbeat, lockstep and watchdogs -/

/-- HEARTBEAT_TICK: pair A increments HEARTBEAT every 1 ms (R38, R489). -/
def execHeartbeatTick (s : State) : Host.Outcome State Fault Refusal :=
  .next (if s.mgmtRuns && !s.mgmt.pairStopped.get 0 then
      updBoot (fun b => { b with heartbeat := (b.heartbeat + 1) % 2 ^ 32, beatAt := s.now }) s
    else s)

/-- LOCKSTEP_MISMATCH: a pair (0 A, 1 B) mismatches, or meets an uncorrectable ECC error: the other pair logs it and resets the chip
(R490); before stage 0x5 boot halts (Table 17-9). Log entry 93 (DEDUCED). -/
def execLockstepMismatch (pair : Nat) (ecc : Bool) (s : State) : Host.Outcome State Fault Refusal :=
  .next (
    if 1 < pair ∨ s.boot.stage = 0 ∨ s.boot.stage = 15 then s
    else
      let s := { s with
        fw := { s.fw with lockstep := satAdd 32 s.fw.lockstep 1 }
        mgmt := { s.mgmt with pairStopped := s.mgmt.pairStopped.put pair true } }
      let s := logFatal false Ev.mgmtLockstep pair (if ecc then 2 else 1) s
      if s.boot.stage < 5 then bootHalt 0x0205 s else chipReset 3 s)

/-- A watchdog resets the chip after its record (R491). -/
def watchdogReset (inst : Nat) (s : State) : State := chipReset 3 (logFatal false Ev.mgmtWatchdog inst 0 s)

/-- HEARTBEAT_WATCHDOG: HEARTBEAT has not changed for 8 ms (R491). -/
def execHeartbeatWatchdog (s : State) : Host.Outcome State Fault Refusal :=
  .next (if s.mgmtRuns ∧ s.boot.beatAt + 8000000 ≤ s.now then watchdogReset 0 s else s)

/-- AON_WATCHDOG: pair B has not serviced the always-on timer for 8 ms (R491). -/
def execAonWatchdog (s : State) : Host.Outcome State Fault Refusal := .next (if s.mgmtRuns then watchdogReset 1 s else s)

/-! ### Sensors (R493 to R495) -/

/-- Nominal rail voltages in mV (Table 19-2). -/
def railNominal : List Nat := [750, 850, 1200, 850, 875, 500, 1800, 1800, 750]

/-- The PMIC enable that switches a rail; `none` for an always-on rail (Table 19-2). Log entry 94 (DEDUCED). -/
def railEnable (i : Nat) : Option Nat := [some 0, some 1, some 1, some 1, some 2, none, some 3, none, none].getD i none

/-- Alarm state of a rail's reading: 0 none, 1 under, 2 over (R493). -/
def railAlarm (i mv : Nat) : Nat :=
  let n := railNominal.getD i 0
  if mv * 100 < n * 95 then 1 else if n * 105 < mv * 100 then 2 else 0

/-- Warn, cap and release thresholds in 0.1 °C, lowered by the margin (Table 17-2). -/
def State.warnAt (s : State) : Int := (if s.grade = 1 then 1000 else 950) - 10 * s.par Prm.mgmtThermalMarginC 0
def State.capAt (s : State) : Int := (if s.grade = 1 then 1050 else 1000) - 10 * s.par Prm.mgmtThermalMarginC 0
def State.releaseAt (s : State) : Int := (if s.grade = 1 then 1000 else 950) - 10 * s.par Prm.mgmtThermalMarginC 0

/-- A rail's reading, and its ALARM when the alarm state changes; a rail that is switched off raises none.
Log entry 94 (DEDUCED). -/
def pollRail (i mv : Nat) (s : State) : State :=
  let on := match railEnable i with | some e => bit s.boot.enables e | none => true
  let a := if on then railAlarm i mv else 0
  let was := s.mgmt.railAlarm.get i
  let s := { s with mgmt := { s.mgmt with rail := s.mgmt.rail.put i mv, railAlarm := s.mgmt.railAlarm.put i a } }
  if a = was ∨ !on then s else raise Ev.mgmtRail i (detail [(0, 1, a), (2, 2, mv)]) s

/-- The highest reading and the sensor that has it. -/
def hottest (t : List Int) : Int × Nat :=
  t.zipIdx.foldl (fun b x => if b.1 < x.1 then x else b) (t.headD 0, 0)

/-- The time since which a condition has held. -/
def since (now : Nat) (holds : Bool) (was : Option Nat) : Option Nat := if holds then some (was.getD now) else none

/-- SENSOR_POLL: pair B has read every sensor: 16 temperatures in 0.1 °C, 9 rails in mV, and its estimate of the power in mW. The
timing of an LPDDR6 channel is retrained when T14 has moved by 10 °C, and reaching warn is a wake source (R493, R494, R515,
R553). Log entries 38 (DESIGN CHOICE), 95 (DEDUCED). -/
def execSensorPoll (temps : List Int) (rails : List Nat) (mw : Nat) (s : State) : Host.Outcome State Fault Refusal :=
  .next (
    if !s.mgmtRuns ∨ temps.length ≠ 16 ∨ rails.length ≠ 9 then s
    else
      let (top, i) := hottest temps
      let m := s.mgmt
      let ch := (List.range 4).foldl (fun t c =>
        if 100 ≤ (temps.getD 14 0 - Tab.get t c).natAbs then Tab.put t c (temps.getD 14 0) else t) s.boot.ddrTrainTemp
      let warm := decide (s.warnAt ≤ top)
      let s : State := { s with
        boot := { s.boot with ddrTrainTemp := ch }
        mgmt := { m with
          temp := (temps.zipIdx.foldl (fun t x => Tab.put t x.2 x.1) m.temp)
          tempMax := top, powerMw := min mw 65535, warm := warm
          hotSince := since s.now (decide (s.capAt ≤ top)) m.hotSince
          coolSince := since s.now (decide (top < s.releaseAt)) m.coolSince } }
      let s := rails.zipIdx.foldl (fun s r => pollRail r.2 r.1 s) s
      if warm = m.warm then s
      else
        let s := raise Ev.mgmtThermal i (detail [(0, 1, b2n warm), (2, 2, twos 16 top)]) s
        if warm then wakeSource 3 s else s)

/-- The cap step in force changes (R495). -/
def setCapStep (n : Nat) (s : State) : State :=
  serveWaiters (raise Ev.mgmtPowerCap 0 (detail [(0, 1, n)]) { s with mgmt := { s.mgmt with capStep := n } })

/-- CAP_STEP_UP: 100 ms at or above cap; at most once per second, up to step 3 (R495). -/
def execCapStepUp (s : State) : Host.Outcome State Fault Refusal :=
  .next (match s.mgmt.hotSince with
    | some t =>
      if t + 100000000 ≤ s.now ∧ s.mgmt.capStep < 3 ∧ (s.mgmt.capAt = 0 ∨ s.mgmt.capAt + 1000000000 ≤ s.now + 1) then
        setCapStep (s.mgmt.capStep + 1) { s with mgmt := { s.mgmt with capAt := s.now + 1 } }
      else s
    | none => s)

/-- CAP_STEP_DOWN: 10 s below release (R495). -/
def execCapStepDown (s : State) : Host.Outcome State Fault Refusal :=
  .next (match s.mgmt.coolSince with
    | some t =>
      if t + 10000000000 ≤ s.now ∧ 0 < s.mgmt.capStep then
        setCapStep (s.mgmt.capStep - 1) { s with mgmt := { s.mgmt with coolSince := some s.now } }
      else s
    | none => s)

/-! ### Persistent log -/

/-- LOG_FLASH_WRITE: the writer takes the oldest FATAL record, or else the oldest record, of the staging queue (R498); it stops at a
fall of PWRFAIL_L (R497). Log entry 26 (DEDUCED). -/
def execLogFlashWrite (s : State) : Host.Outcome State Fault Refusal :=
  let q := s.mgmt.logQueue
  .next (
    if s.flash.held then s
    else match (q.find? fun r => r.cls == .fatal).or q.head? with
      | none => s
      | some r => logAppend false r { s with mgmt := { s.mgmt with logQueue := q.erase r } })

/-! ### LPDDR6 -/

/-- PATROL_SCRUB: the scrubber has read a burst of a channel with so many symbols in error: one is corrected and written back, more
are uncorrectable (R554). Log entry 95 (DEDUCED). -/
def execPatrolScrub (ch symbols : Nat) (s : State) : Host.Outcome State Fault Refusal :=
  .next (
    if 4 ≤ ch ∨ s.boot.stage < 2 ∨ s.boot.stage = 15 ∨ s.power.memOff ∨ symbols = 0 then s
    else bump (if symbols = 1 then Prm.faultDdrEccCorr else Prm.faultDdrEccUncorr) ch s)

end Sys2Proof.Machine
end

