-- ==== Sys2Proof/Machine/Recasts.lean ====
section
/-!
DEFINITION. The recast commands: a fault is reported, and the states of a recast end (R501 to R504, Table 17-7), with what each
unit loses and keeps.
-/
namespace Sys2Proof.Machine

/-- The fault of a unit, through the unit's own path where it has one (R165, R204, R278, R360). Log entry 96 (DEDUCED). -/
def unitFault (u : RUnit) (cause : Nat) (s : State) : State :=
  if s.recastHolds u then admitFault u cause s
  else match u.scope, u.group with
    | 0, 0x0A => recastEngine u.inst cause s
    | 0, 0x0C => recastDrover (u.inst - 0x40) cause s
    | 0, 0x06 => frontendFault u.inst cause s
    | 0, 0x07 => admitFault u cause (bump Prm.beamRecastCount u.inst (emptyBanks (radioOfSector u.inst) false s))
    | _, _ => admitFault u cause s

/-- FAULT_ADMIT: a fault of a unit, with a cause of Table 17-6, is absorbed, queued, or starts a recast of the unit that the
cause reaches (R501, R503). Log entry 110 (DEDUCED). -/
def execFaultAdmit (u : RUnit) (cause : Nat) (s : State) : Host.Outcome State Fault Refusal :=
  .next (if s.booted && u.valid && decide (1 ≤ cause) && decide (cause ≤ 12) && !s.unitOff u then
    unitFault (u.reach cause) cause s else s)

/-- An engine after its reset, with its resident kernels and those already installed reloaded (R278, R285). -/
def restoreEngine (e : Nat) (s : State) : State := updEng e (fun _ => reloadInstalls e s (freshEngine e s)) s

/-- A calibration pass of a radio stops, and is due again. Log entry 96 (DEDUCED). -/
def dropPass (r : Nat) (s : State) : State :=
  updCal r (fun k => { k with
    fullDue := k.fullDue || k.pass == some true, rejoinDue := k.rejoinDue || k.pass == some false, pass := none
    requested := false, window := false, turns := [], inWindow := 0, turn := none, done := [], dropped := [] }) s

/-- The scheduler, the engines' jobs and the interrupt controller's sources are reset. -/
def resetTasks (s : State) : State :=
  { s with task := { s.task with
      q := [], credit := [], waiters := [], timer := [], roundLevel := [], swpLevel := [], secLevel := false
      run := s.task.run.mapV fun r => { (default : Runner) with held := r.held, recasts := r.recasts } } }

/-- Everything that a device recast covers is reset: lanes, links and weight banks too (Table 17-5). Log entry 96 (DEDUCED). -/
def resetDevice (s : State) : State :=
  let s := (List.range 8).foldl (fun s n => stopSprue n s) s
  let s := (List.range 3).foldl (fun s r => emptyBanks r true (dropPass r (clearRadio r s))) s
  let s := stopStore (clearPacketPath (ponRecast s))
  let s := (List.range 20).foldl (fun s n => if (s.lane n).st == .deep then s else setLane n .down s) s
  resetTasks s

/-- What the reset of a unit does to it (R165, R204, R278, R300, R337, R360, R408, R461, R501). Log entry 96 (DEDUCED). -/
def resetUnit (u : RUnit) (s : State) : State :=
  match u.scope, u.group with
  | 0, 0x07 => updMould u.inst (fun m => { m with txZero := false, rxDrop := false, mismatches := [] }) s
  | 1, 0x08 => dropPass u.inst (clearRadio u.inst s)
  | 1, 0x0B => ponRecast s
  | 1, 0x0C => clearPacketPath s
  | 1, 0x11 => stopStore s
  | 2, _ => resetDevice s
  | _, _ => s

/-- What the restore of a unit does. Log entry 96 (DEDUCED). -/
def restoreUnit (u : RUnit) (s : State) : State :=
  match u.scope, u.group with
  | 0, 0x0A => restoreEngine u.inst s
  | 2, _ => (List.range 32).foldl (fun s e => restoreEngine e s) s
  | _, _ => s

/-- What the resume of a unit does; a recast of the device lets the random number generator draw again. -/
def resumeUnit (u : RUnit) (s : State) : State :=
  match u.scope, u.group with
  | 0, 0x06 => achRecastDone u.inst s
  | 2, _ =>
    let s := { s with sec := { s.sec with rngFailed := false } }
    serveWaiters ((List.range 128).foldl (fun s c => achRecastDone c s) s)
  | _, _ => serveWaiters s

/-- The recast of a unit that is in a given state. -/
def State.recastIn (s : State) (u : RUnit) (st : RState) : Option RecastJob := s.recast.jobs.find? fun j => j.unit == u && j.st == st

def setRecast (u : RUnit) (st : RState) (s : State) : State :=
  { s with recast := { s.recast with jobs := s.recast.jobs.map fun j => if j.unit == u then { j with st := st } else j } }

def endRecast (u : RUnit) (s : State) : State := { s with recast := { s.recast with jobs := s.recast.jobs.filter fun j => j.unit != u } }

/-- A device recast stops after RESET: HELD, which ends a firmware trial in rollback (R504, R507). Log entry 96 (DEDUCED). -/
def hold (cause : Nat) (s : State) : State :=
  let s := endRecast .device { s with recast := { s.recast with held := true } }
  let s := raise Ev.faultHeld 0 (detail [(0, 2, cause)]) s
  if s.trialRuns then rollback 3 s else s

/-- RECAST_RESET_DONE: the unit's logic and memories have been reset (Table 17-7). -/
def execRecastResetDone (u : RUnit) (s : State) : Host.Outcome State Fault Refusal :=
  .next (match s.recastIn u .reset with
    | none => s
    | some j =>
      let s := resetUnit u s
      if u = RUnit.device ∧ !j.full then hold j.cause s else setRecast u .restore s)

/-- RECAST_RESTORE_DONE: configuration, pages and kernels have been reloaded (Table 17-7). -/
def execRecastRestoreDone (u : RUnit) (s : State) : Host.Outcome State Fault Refusal :=
  .next (match s.recastIn u .restore with
    | none => s
    | some _ => setRecast u .resume (restoreUnit u s))

/-- RECAST_RESUME_DONE: the unit is RUNNING, and the next queued recast starts (R502, R503). -/
def execRecastResumeDone (u : RUnit) (s : State) : Host.Outcome State Fault Refusal :=
  .next (match s.recastIn u .resume with
    | none => s
    | some _ => runQueued (resumeUnit u (endRecast u s)))

end Sys2Proof.Machine
end

