-- ==== Sys2Proof/Machine/HostCmd.lean ====
section
/-!
DEFINITION. What the host does through BAR0 (R33 to R67): doorbells, window and register writes, and the opcodes of Table 2-16.
-/
namespace Sys2Proof.Machine

/-! ### Resets and ring doorbells -/

/-- A RESET_CTRL request for a device recast; from HELD it always runs to its end (R63, R504). Log entry 96 (DEDUCED). -/
def recastDev (s : State) : State :=
  if !s.ready then s
  else if s.recast.held then startRecast .device Cause.host true { s with recast := { s.recast with held := false } }
  else admitFault .device Cause.host s

/-- CHIP_RESET: RESET_CTRL.chip_reset with its key (R39, Table 2-7). -/
def execChipReset (s : State) : Host.Outcome State Fault Refusal := .next (if s.hostUp then chipReset 2 s else s)

/-- RECAST_DEV: RESET_CTRL.recast_dev (R63, R504, Table 2-7). -/
def execRecastDev (s : State) : Host.Outcome State Fault Refusal := .next (if s.hostUp then recastDev s else s)

/-- A write of ring n's doorbell: 0–15 receive, 16–31 transmit (R40). Log entry 107 (DEDUCED). -/
def ringDoorbell (n producer : Nat) (s : State) : State :=
  if s.par Prm.dmaRingEnable n = 1 then updRing n (fun r => { r with prod := producer % 65536 }) s else bump Prm.hostRingDbErr n s

/-- RXQ_DB (R40). -/
def execRxqDb (n producer : Nat) (s : State) : Host.Outcome State Fault Refusal :=
  .next (if s.hostUp && decide (n < 16) then ringDoorbell n producer s else s)

/-- TXQ_DB (R40). -/
def execTxqDb (n producer : Nat) (s : State) : Host.Outcome State Fault Refusal :=
  .next (if s.hostUp && decide (n < 16) then ringDoorbell (16 + n) producer s else s)

/-! ### Commands in a window (R47 to R50, R54, R55) -/

/-- First minor of protocol 3 that has an opcode (Tables 2-16, 2-18 and 13-10). -/
def opcodeMinor (op : Nat) : Option Nat :=
  if op = 1 ∨ op = 2 ∨ (0x10 ≤ op ∧ op ≤ 0x13) ∨ (0x20 ≤ op ∧ op ≤ 0x22) ∨ op = 0x30 ∨ op = 0x31 ∨ op = 0x50 ∨ op = 0x51 ∨ op = 0x60 ∨
      op = 0x61 then some 0
  else if op = 0x70 ∨ op = 0x80 then some 1
  else if 0x40 ≤ op ∧ op ≤ 0x4A then some 2
  else if op = 0x90 ∨ op = 0xA0 then some 3
  else none

/-- Opcodes of a 2.x session (R55). -/
def compatOpcode (op : Nat) : Bool :=
  [1, 2, 0x10, 0x11, 0x12, 0x13, 0x20, 0x21, 0x22, 0x50, 0x51].contains op

/-- The opcode exists in the session's version; before a session only HELLO does. -/
def opcodeIn (ses : Option (Nat × Nat)) (op : Nat) : Bool :=
  match ses with
  | none => op == 1
  | some (2, _) => compatOpcode op
  | some (_, minor) => match opcodeMinor op with | some m => decide (m ≤ minor) | none => false

/-- The payload length suits the opcode; lengths that depend on the payload are the opcode's own (check 8). -/
def lengthOk (op len : Nat) : Bool :=
  match op with
  | 1 => decide (len = 8)
  | 2 => decide (len = 0)
  | 0x90 | 0xA0 | 0x70 => decide (len = 8)
  | _ => if 0x40 ≤ op ∧ op ≤ 0x4F then storeLength op len else true

/-- The opcode is a parameter or table command, whose BAD_PARAM and CONFLICT carry an offender list (R81). -/
def listsOffenders (op : Nat) : Bool := (decide (0x10 ≤ op) && decide (op ≤ 0x13)) || (decide (0x20 ≤ op) && decide (op ≤ 0x22))

/-- A command's header (Table 2-13). -/
structure CmdHead where
  major : Nat
  minor : Nat
  op : Nat
  tag : Nat
  len : Nat
  status : Nat
  epoch : Nat
deriving DecidableEq, Repr, Inhabited

/-- The header that a window holds. -/
def cmdHead (b : List Byte) : CmdHead :=
  { major := fieldAt b 0 1, minor := fieldAt b 1 1, op := fieldAt b 2 2, tag := fieldAt b 4 4, len := fieldAt b 8 2
    status := fieldAt b 10 2, epoch := fieldAt b 12 4 }

/-- The checks of Table 2-14, in their order: the status of the first that fails (R48). Log entry 16 (DEDUCED). -/
def checkCommand (h : CmdHead) (s : State) : Option Status :=
  let hello := h.op == 1
  if 4080 < h.len ∨ h.status ≠ 0 then some .badParam
  else if !hello ∧ s.mbx.session.isNone then some .denied
  else if !hello ∧ s.mbx.session ≠ some (h.major, h.minor) then some .badVersion
  else if !hello ∧ !s.compat ∧ h.epoch ≠ s.mbx.epoch then some .staleEpoch
  else if h.tag = 0 then some .badParam
  else if s.mbx.outstanding.any fun o => o.tag == h.tag then some .conflict
  else if !(hello || opcodeIn s.mbx.session h.op) then some .unsupported
  else if !lengthOk h.op h.len then some .badParam
  else none

/-- A command that acts on a unit of group g answers BUSY while that unit is being recast (R64, R561). Log entry 16 (DEDUCED). -/
def unlessBusy (g : Nat) (s : State) (r : Reply) : Reply := if s.busyAt g 1 false none then { st := .busy, s := s } else r

/-- The opcode's own processing. Log entry 16 (DEDUCED). -/
def runOpcode (op cid : Nat) (p : List Byte) (s : State) : Reply :=
  match op with
  | 0x01 => hello p s
  | 0x02 => bye s
  | 0x10 => paramGet p s
  | 0x11 => paramSet p s
  | 0x12 => paramCommit cid p s
  | 0x13 => paramAbort p s
  | 0x20 => tableWrite p s
  | 0x21 => tableRead p s
  | 0x22 => tableCommit cid p s
  | 0x30 => keyInstall p s
  | 0x31 => keyRetire p s
  | 0x40 => unlessBusy 0x11 s (storeInfo s)
  | 0x41 => unlessBusy 0x11 s (storeCreate p s)
  | 0x42 => unlessBusy 0x11 s (storeWrite cid p s)
  | 0x43 => unlessBusy 0x11 s (storeIngest p s)
  | 0x44 => unlessBusy 0x11 s (storeSeal cid p s)
  | 0x45 => unlessBusy 0x11 s (storeDelete cid p s)
  | 0x46 => unlessBusy 0x11 s (storeStat p s)
  | 0x47 => unlessBusy 0x11 s (storeRead cid p s)
  | 0x48 => unlessBusy 0x11 s (storeSplice true cid p s)
  | 0x49 => unlessBusy 0x11 s (storeSplice false cid p s)
  | 0x4A => unlessBusy 0x11 s (storeCancel p s)
  | 0x50 => fwStage cid p s
  | 0x51 => fwActivate p s
  | 0x60 => patternSave cid p s
  | 0x61 => patternLoad cid p s
  | 0x70 => powerRequest cid p s
  | 0x80 => ladleLoad cid p s
  | 0x90 => traceRead p s
  | 0xA0 => unlessBusy 0x12 s (snapshot p s)
  | _ => { st := .unsupported, s := s }

/-- Commands in the PENDING state (R50). -/
def State.pendingCount (s : State) : Nat := (s.mbx.outstanding.filter (·.pending)).length

/-- A command's final response: it is no longer outstanding. -/
def answer (o : Outstanding) (st : Status) (body : List Byte) (s : State) : State :=
  respond o st body { s with mbx := { s.mbx with outstanding := s.mbx.outstanding.filter fun x => x.cid != o.cid } }

/-- What becomes of a command that has passed every check: its response, PENDING, or a window that is held until it ends (R48,
R50, R55, R510). `s` is the state before its processing. Log entry 11 (DESIGN CHOICE). -/
def concludeCommand (o : Outstanding) (r : Reply) (s : State) : State :=
  if r.st = .pending then
    if s.compat ∨ r.hold then r.after r.s
    else if 64 ≤ s.pendingCount then answer o .busy [] s
    else
      let t := { r.s with mbx := { r.s.mbx with
        outstanding := r.s.mbx.outstanding.map fun x => if x.cid = o.cid then { x with pending := true } else x } }
      r.after (respond o .pending r.body t)
  else
    let t := match r.s.command? o.cid with
      | some _ => answer { o with ver := r.ver.getD o.ver } r.st r.body r.s
      | none => r.s
    r.after t

/-- The command that a window holds, posted (R43, R48). Log entry 11 (DESIGN CHOICE). -/
def runCommand (w : Nat) (s : State) : State :=
  let b := readBytes (s.win w).bytes 0 4096
  let h := cmdHead b
  let cid := s.mbx.nextCid
  let o : Outstanding := { cid := cid, tag := h.tag, opcode := h.op, window := w, ver := s.version }
  let t := { s with mbx := { s.mbx with nextCid := cid + 1, outstanding := s.mbx.outstanding ++ [o] } }.setWin w
    { s.win w with hold := .command cid }
  match checkCommand h s with
  | some st => pump (answer o st (if listsOffenders h.op && (st == .badParam || st == .conflict) then offenderList [] else []) t)
  | none => pump (concludeCommand o (runOpcode h.op cid ((b.drop 16).take h.len) t) t)

/-- The boot ROM (stage 0x1) or the loader (stage 0x2) serves window 0 (R38, R67). -/
def State.pushServed (s : State) : Bool := decide (s.boot.source = 1) && (decide (s.boot.stage = 1) || decide (s.boot.stage = 2))

/-- POST on window w (R43, R45, R67). Log entry 11 (DESIGN CHOICE). -/
def postWindow (w : Nat) (s : State) : State :=
  if s.owns w then protoError w s
  else if s.pushServed ∧ w = 0 then bootPush s
  else if s.ready then runCommand w s
  else protoError w s

/-- POST: the window is handed to the device (R43). Log entry 12 (DEDUCED). -/
def execPost (w : Nat) (s : State) : Host.Outcome State Fault Refusal := .next (if s.hostUp && decide (w < 8) then postWindow w s else s)

/-! ### Writes of windows and registers (R35, R36, R42, R45) -/

/-- A write into window w at an offset; while the device owns the window it is ignored and counts as a protocol error (R45). -/
def writeWindow (w off : Nat) (b : List Byte) (s : State) : State :=
  if s.owns w then protoError w s else s.setWin w { s.win w with bytes := writeBytes (s.win w).bytes off (b.take (4096 - off)) }

/-- A write of MBX_CTRL[w] (Table 2-11). Log entry 14 (DEDUCED). -/
def writeCtrl (w v : Nat) (s : State) : State :=
  if v / 4 ≠ 0 then protoError w s
  else match v with
    | 1 => postWindow w s
    | 2 => armWindow w s
    | 3 => recallWindow w s
    | _ => if s.owns w then protoError w s else s

/-- A write of RESET_CTRL (Table 2-7). -/
def writeResetCtrl (v : Nat) (s : State) : State :=
  if bit v 1 then (if bits v 15 8 = 0xA5 then chipReset 2 s else s) else if bit v 0 then recastDev s else s

/-- An aligned 32-bit write of the register region (Table 2-2). Log entry 14 (DEDUCED). -/
def writeRegister (off v : Nat) (s : State) : State :=
  if off = 0x20 then writeResetCtrl v s
  else if 0x40 ≤ off ∧ off < 0x80 then
    let w := (off - 0x40) / 8
    if off % 8 = 0 then writeCtrl w v s else if bit v 4 then clearProtoErr w s else s
  else if 0x100 ≤ off ∧ off < 0x180 then ringDoorbell ((off - 0x100) / 4) (v % 65536) s
  else s

/-- REGISTER_WRITE: a host write of bytes at an offset of BAR0 (R35, R36). -/
def execRegisterWrite (off : Nat) (b : List Byte) (s : State) : Host.Outcome State Fault Refusal :=
  .next (
    if !s.hostUp then s
    else if off < 0x1000 then (if off % 4 = 0 ∧ b.length = 4 then writeRegister off (leNat b) s else s)
    else if off < 0x9000 then writeWindow (off / 0x1000 - 1) (off % 0x1000) b s
    else s)

/-! ### Opcode commands -/

/-- The bytes of a message with an opcode (Table 2-13). Log entry 12 (DEDUCED). -/
def messageBytes (op : Nat) (m : Message) : List Byte := header m.major m.minor op m.tag m.length m.status m.epoch ++ m.payload

/-- The host writes a message into window w and posts it. Log entries 11 (DESIGN CHOICE), 12 (DEDUCED). -/
def sendMessage (w op : Nat) (m : Message) (s : State) : State :=
  if s.hostUp && decide (w < 8) then postWindow w (writeWindow w 0 (messageBytes op m) s) else s

/-- HELLO in window w (R51). -/
def execHello (w : Nat) (m : Message) (s : State) : Host.Outcome State Fault Refusal := .next (sendMessage w 0x01 m s)

/-- BYE in window w (R53). -/
def execBye (w : Nat) (m : Message) (s : State) : Host.Outcome State Fault Refusal := .next (sendMessage w 0x02 m s)

/-- PARAM_GET in window w (R73). -/
def execParamGet (w : Nat) (m : Message) (s : State) : Host.Outcome State Fault Refusal := .next (sendMessage w 0x10 m s)

/-- PARAM_SET in window w (R74). -/
def execParamSet (w : Nat) (m : Message) (s : State) : Host.Outcome State Fault Refusal := .next (sendMessage w 0x11 m s)

/-- PARAM_COMMIT in window w (R77). -/
def execParamCommit (w : Nat) (m : Message) (s : State) : Host.Outcome State Fault Refusal := .next (sendMessage w 0x12 m s)

/-- PARAM_ABORT in window w (R80). -/
def execParamAbort (w : Nat) (m : Message) (s : State) : Host.Outcome State Fault Refusal := .next (sendMessage w 0x13 m s)

/-- TABLE_WRITE in window w (R85). -/
def execTableWrite (w : Nat) (m : Message) (s : State) : Host.Outcome State Fault Refusal := .next (sendMessage w 0x20 m s)

/-- TABLE_READ in window w (R85). -/
def execTableRead (w : Nat) (m : Message) (s : State) : Host.Outcome State Fault Refusal := .next (sendMessage w 0x21 m s)

/-- TABLE_COMMIT in window w (R85). -/
def execTableCommit (w : Nat) (m : Message) (s : State) : Host.Outcome State Fault Refusal := .next (sendMessage w 0x22 m s)

/-- KEY_RETIRE in window w (R475). -/
def execKeyRetire (w : Nat) (m : Message) (s : State) : Host.Outcome State Fault Refusal := .next (sendMessage w 0x31 m s)

/-- STORE_INFO in window w (R403). -/
def execStoreInfo (w : Nat) (m : Message) (s : State) : Host.Outcome State Fault Refusal := .next (sendMessage w 0x40 m s)

/-- STORE_CREATE in window w (R403). -/
def execStoreCreate (w : Nat) (m : Message) (s : State) : Host.Outcome State Fault Refusal := .next (sendMessage w 0x41 m s)

/-- STORE_WRITE in window w (R403). -/
def execStoreWrite (w : Nat) (m : Message) (s : State) : Host.Outcome State Fault Refusal := .next (sendMessage w 0x42 m s)

/-- STORE_INGEST in window w (R403). -/
def execStoreIngest (w : Nat) (m : Message) (s : State) : Host.Outcome State Fault Refusal := .next (sendMessage w 0x43 m s)

/-- STORE_SEAL in window w (R403). -/
def execStoreSeal (w : Nat) (m : Message) (s : State) : Host.Outcome State Fault Refusal := .next (sendMessage w 0x44 m s)

/-- STORE_DELETE in window w (R407). -/
def execStoreDelete (w : Nat) (m : Message) (s : State) : Host.Outcome State Fault Refusal := .next (sendMessage w 0x45 m s)

/-- STORE_STAT in window w (R403). -/
def execStoreStat (w : Nat) (m : Message) (s : State) : Host.Outcome State Fault Refusal := .next (sendMessage w 0x46 m s)

/-- STORE_READ in window w (R403). -/
def execStoreRead (w : Nat) (m : Message) (s : State) : Host.Outcome State Fault Refusal := .next (sendMessage w 0x47 m s)

/-- STORE_SPLICE_TCP in window w (R404). -/
def execStoreSpliceTcp (w : Nat) (m : Message) (s : State) : Host.Outcome State Fault Refusal := .next (sendMessage w 0x48 m s)

/-- STORE_SPLICE_MCAST in window w (R405). -/
def execStoreSpliceMcast (w : Nat) (m : Message) (s : State) : Host.Outcome State Fault Refusal := .next (sendMessage w 0x49 m s)

/-- STORE_CANCEL in window w (R407). -/
def execStoreCancel (w : Nat) (m : Message) (s : State) : Host.Outcome State Fault Refusal := .next (sendMessage w 0x4A m s)

/-- FW_STAGE in window w (R505). -/
def execFwStage (w : Nat) (m : Message) (s : State) : Host.Outcome State Fault Refusal := .next (sendMessage w 0x50 m s)

/-- FW_ACTIVATE in window w (R506). -/
def execFwActivate (w : Nat) (m : Message) (s : State) : Host.Outcome State Fault Refusal := .next (sendMessage w 0x51 m s)

/-- PATTERN_SAVE in window w (R96). -/
def execPatternSave (w : Nat) (m : Message) (s : State) : Host.Outcome State Fault Refusal := .next (sendMessage w 0x60 m s)

/-- PATTERN_LOAD in window w (R94). -/
def execPatternLoad (w : Nat) (m : Message) (s : State) : Host.Outcome State Fault Refusal := .next (sendMessage w 0x61 m s)

/-- POWER_REQUEST in window w (R510). -/
def execPowerRequest (w : Nat) (m : Message) (s : State) : Host.Outcome State Fault Refusal := .next (sendMessage w 0x70 m s)

/-- LADLE_LOAD in window w (R284). -/
def execLadleLoad (w : Nat) (m : Message) (s : State) : Host.Outcome State Fault Refusal := .next (sendMessage w 0x80 m s)

/-- TRACE_READ in window w (R280). -/
def execTraceRead (w : Nat) (m : Message) (s : State) : Host.Outcome State Fault Refusal := .next (sendMessage w 0x90 m s)

/-- SNAPSHOT in window w (R418). -/
def execSnapshot (w : Nat) (m : Message) (s : State) : Host.Outcome State Fault Refusal := .next (sendMessage w 0xA0 m s)

/-- KEY_INSTALL in window w (R474); `flashOk` is whether the flash takes the record of a persistent key. -/
def execKeyInstall (w : Nat) (m : Message) (flashOk : Bool) (s : State) : Host.Outcome State Fault Refusal :=
  let t := sendMessage w 0x30 m { s with flash := { s.flash with failing := !flashOk } }
  .next { t with flash := { t.flash with failing := false } }

/-- BOOT_PUSH: a boot push message in window 0 (R67). -/
def execBootPush (b : List Byte) (s : State) : Host.Outcome State Fault Refusal :=
  .next (if s.hostUp then postWindow 0 (writeWindow 0 0 b s) else s)

end Sys2Proof.Machine
end

