-- ==== Sys2Proof/Machine/Pins.lean ====
section
/-!
DEFINITION. The test access port (R483, R536, R537).
-/
namespace Sys2Proof.Machine

/-- Next TAP state for a TMS level (IEEE 1149.1). Log entry 99 (PRESUMED). -/
def TapState.next (t : TapState) (tms : Bool) : TapState :=
  match t with
  | .testLogicReset => if tms then .testLogicReset else .runTestIdle
  | .runTestIdle => if tms then .selectDr else .runTestIdle
  | .selectDr => if tms then .selectIr else .captureDr
  | .captureDr => if tms then .exit1Dr else .shiftDr
  | .shiftDr => if tms then .exit1Dr else .shiftDr
  | .exit1Dr => if tms then .updateDr else .pauseDr
  | .pauseDr => if tms then .exit2Dr else .pauseDr
  | .exit2Dr => if tms then .updateDr else .shiftDr
  | .updateDr => if tms then .selectDr else .runTestIdle
  | .selectIr => if tms then .testLogicReset else .captureIr
  | .captureIr => if tms then .exit1Ir else .shiftIr
  | .shiftIr => if tms then .exit1Ir else .shiftIr
  | .exit1Ir => if tms then .updateIr else .pauseIr
  | .pauseIr => if tms then .exit2Ir else .pauseIr
  | .exit2Ir => if tms then .updateIr else .shiftIr
  | .updateIr => if tms then .selectDr else .runTestIdle

/-- IDCODE (R536). Log entry 99 (PRESUMED). -/
def idcode : Nat := 0x17180C4B

/-- What an instruction code selects (Table 18-11); an unlisted code acts as BYPASS. -/
inductive TapInstr where
  | boundary | idcode | debug | bypass
deriving DecidableEq, Repr, Inhabited

/-- Log entry 99 (PRESUMED). -/
def tapInstr (ir : Nat) : TapInstr :=
  if ir = 0 ∨ ir = 2 then .boundary else if ir = 1 then .idcode else if 0x20 ≤ ir ∧ ir ≤ 0x2F then .debug else .bypass

/-- Bits of the data register between TDI and TDO (R537). -/
def TapInstr.length : TapInstr → Nat
  | .boundary => 160
  | .idcode => 32
  | _ => 1

def updJtag (f : Jtag → Jtag) (s : State) : State := { s with jtag := f s.jtag }

/-- A rising edge of TCK: the state's capture or shift, then the transition (IEEE 1149.1). `balls` is what the 160 cells capture.
Log entry 99 (PRESUMED). -/
def tckRise (tms tdi : Bool) (balls : Nat) (j : Jtag) : Jtag :=
  let i : TapInstr := tapInstr j.ir
  let j := match j.tap with
    | .captureIr => { j with irShift := 1 }
    | .shiftIr => { j with irShift := j.irShift / 2 + b2n tdi * 2 ^ 5 }
    | .captureDr => { j with drShift := match i with | .boundary => balls % 2 ^ 160 | .idcode => idcode | _ => 0 }
    | .shiftDr => { j with drShift := if i == TapInstr.debug then 0 else j.drShift / 2 + b2n tdi * 2 ^ (i.length - 1) }
    | _ => j
  let t : TapState := j.tap.next tms
  { j with tap := t, ir := if t == TapState.testLogicReset then 1 else j.ir, tck := true }

/-- A falling edge of TCK: updates latch, and TDO is driven in the two shift states only (Table 18-7). A debug instruction returns
zeros while no token is in force; what it returns after one is open (R483). Log entry 99 (PRESUMED). -/
def tckFall (s : State) : State :=
  let j := { s.jtag with tck := false }
  let put := fun (j : Jtag) => { s with jtag := j }
  match j.tap with
  | .updateIr => put { j with ir := j.irShift % 64, tdo := none }
  | .updateDr => put { j with boundary := if tapInstr j.ir == TapInstr.boundary then j.drShift else j.boundary, tdo := none }
  | .shiftIr => put { j with tdo := some (bit j.irShift 0) }
  | .shiftDr =>
    if tapInstr j.ir == TapInstr.debug && decide (s.sec.debugPerms ≠ 0) then
      let (x, s) := drawBelow 2 s
      updJtag (fun _ => { j with tdo := some (decide (x = 1)) }) s
    else put { j with tdo := some (bit j.drShift 0) }
  | _ => put { j with tdo := none }

/-- JTAG_TCK_EDGE (R536, R537). -/
def execJtagTckEdge (rising tms tdi : Bool) (balls : Nat) (s : State) : Host.Outcome State Fault Refusal :=
  .next (
    if !s.boot.railsValid || s.jtag.tck == rising then s
    else if rising then updJtag (tckRise tms tdi balls) s
    else tckFall s)

/-- JTAG_TRST_L_LOW (R536). -/
def execJtagTrstLLow (s : State) : Host.Outcome State Fault Refusal :=
  .next (updJtag (fun j => { j with tap := .testLogicReset, ir := 1, tdo := none }) s)

end Sys2Proof.Machine
end

