-- ==== Sys2Proof/Machine/Tick.lean ====
section
/-!
DEFINITION. What happens in a core cycle in which no command comes.
-/
namespace Sys2Proof.Machine

/-- The cycle counters of engine e: LADLE.busy_cycles counts outside sleep and fetch waits, LADLE.wl_stall_cycles while the
engine waits for weight-load credit (Table 9-19). Log entry 1 (DESIGN CHOICE). -/
def countCycle (e : Nat) (s : State) : State :=
  if s.inService e && (s.eng e).sleep == .awake && (s.runner e).fetch.isNone then
    let s := bump Prm.ladleBusyCycles e s
    if (s.eng e).wlStall then bump Prm.ladleWlStallCycles e s else s
  else s

/-- One core cycle: every time base advances (R421), and the engines' cycle counters count. Log entry 1 (DESIGN CHOICE). -/
def coreCycle (s : State) : State := (List.range 32).foldl (fun s e => countCycle e s) (tickTime s)

end Sys2Proof.Machine
end

