-- ==== Sys2Proof/WellFormed.lean ====
section
/-!
DEFINITION. Well-formed commands: every operand lies in the range that the spec gives its field. A measured value that the
spec does not bound is not bounded here.
-/
namespace Sys2Proof
open Sys2Proof.Machine

/-- Fields of Table 2-13, and a payload that fits a window. -/
def Message.wf (m : Message) : Bool :=
  decide (m.major < 256) && decide (m.minor < 256) && decide (m.tag < 2 ^ 32) && decide (m.length < 65536) &&
    decide (m.status < 65536) && decide (m.epoch < 2 ^ 32) && decide (m.payload.length ≤ 4080)

/-- Field widths of format M (Table 9-3). -/
def FmtM.wf (f : FmtM) : Bool :=
  decide (f.a < 4) && decide (f.u < 4) && decide (f.w < 4) && decide (f.xm < 256) && decide (f.ym < 256) && decide (f.rsv < 2)

/-- Field widths of format A (Table 9-3). -/
def FmtA.wf (f : FmtA) : Bool := decide (f.d < 16) && decide (f.a < 16) && decide (f.b < 16) && decide (f.rsv < 512)

/-- Field widths of format I (Table 9-3). -/
def FmtI.wf (f : FmtI) : Bool := decide (f.d < 16) && decide (f.a < 16) && decide (f.imm < 65536)

/-- Field widths of formats LX and LY (Table 9-3). -/
def FmtL.wf (f : FmtL) : Bool :=
  decide (f.reg < 16) && decide (f.i < 4) && decide (f.mode < 4) && decide (f.step < 4) && decide (f.off < 65536)

/-- Field widths of format B (Table 9-3). -/
def FmtB.wf (f : FmtB) : Bool := decide (f.cond < 16) && decide (f.reg < 16) && decide (f.rsv < 4) && decide (f.target < 16384)

/-- Field widths of format S (Table 9-3). -/
def FmtS.wf (f : FmtS) : Bool := decide (f.sreg < 64) && decide (f.reg < 16) && decide (f.io < 4096)

/-- Field widths of HEAD_ID (Table 5-8). -/
def Machine.HeadId.wf (h : HeadId) : Bool :=
  decide (h.vendor < 65536) && decide (h.model < 65536) && decide (h.serial < 2 ^ 64) && decide (h.verMax < 256) &&
    decide (h.transceivers = 8 ∨ h.transceivers = 9) && decide (h.caps < 8) && decide (h.turnaround < 65536) &&
    decide (h.capture < 65536) && decide (h.emission < 65536)

/-- Field widths of HEAD_RF_CAPS (Table 6-3). -/
def Machine.HeadCaps.wf (h : HeadCaps) : Bool :=
  decide (-128 ≤ h.minGain ∧ h.minGain < 128) && decide (-128 ≤ h.maxGain ∧ h.maxGain < 128) && decide (h.gainStep < 256) &&
    decide (-32768 ≤ h.level ∧ h.level < 32768) && decide (-128 ≤ h.maxTx ∧ h.maxTx < 128) && decide (h.maxAtten < 256) &&
    decide (h.trSwitch < 256) && decide (h.lowMhz < 65536) && decide (h.highMhz < 65536)

/-- A buffer's name within its field. -/
def BufPtr.wf : BufPtr → Bool
  | .handle h => decide (h < 2 ^ 18)
  | .index p b => decide (p < 6) && decide (b < 2 ^ 19)
  | .address a => decide (a < 2 ^ 64)

/-- Bytes 4 and 7 of TOLL_GUARANTEE_BROKEN, and a queue number. -/
def Occupant.wf (o : Occupant) : Bool := decide (o.kind < 256) && o.serving.all (fun q => decide (q < 32768)) && decide (o.unit < 256)

/-- The arrival comes from a port of Table 11-4, within the fields of the waybill. -/
def Arrival.wf (a : Arrival) : Bool :=
  validPort a.port && decide (a.srcType < 16) && decide (a.srcInst < 2048) && decide (a.data.length < 65536) &&
    a.tid.all (fun t => decide (t < 8)) && a.directed.all (fun q => decide (q < 32768)) && decide (a.cls < 8) &&
    decide (a.setTid < 8) && decide (a.mark < 65536)

/-- A sector of the device, and a known way for the interval to be aborted. -/
def Interval.wf (x : Interval) : Bool := decide (x.sector < 8) && decide (x.slip < 3)

/-- TID and key ID within their fields. -/
def RxMpdu.wf (x : RxMpdu) : Bool := decide (x.tid < 16) && x.prot.all (fun p => decide (p.1 < 4))

/-- Every MPDU is well-formed. -/
def Ppdu.wf (p : Ppdu) : Bool := p.mpdus.all RxMpdu.wf

/-- Records are 512-bit units. -/
def RoundResult.wf (q : RoundResult) : Bool := q.recs.all fun r => decide (r.log2 < 512)

/-- A channel of the device. -/
def CalResult.wf (x : CalResult) : Bool := decide (x.chan < 128)

/-- A station of the table. -/
def StaFigures.wf (x : StaFigures) : Bool := decide (x.station < 4096)

/-- Alloc-ID and profile index within their fields; the burst does not end before it starts. -/
def Allocation.wf (m : Allocation) : Bool := decide (m.allocId < 16384) && decide (m.profile < 4) && decide (m.start ≤ m.stop)

/-- XGEM port, key index and payload length within their fields. -/
def Xgem.wf (x : Xgem) : Bool := decide (x.port < 65536) && decide (x.key < 4) && decide (x.data.length < 16384)

/-- The five readings and their thresholds. -/
def DdmRead.wf (r : DdmRead) : Bool := decide (r.raw.length = 5) && decide (r.limits.length = 5)

/-- Status 3 or 4 (Table 13-5). -/
def Upset.wf (u : Upset) : Bool := decide (u.status = 3 ∨ u.status = 4)

/-- Code channel, rate and quality within their ranges. -/
def CaravanRx.wf (p : CaravanRx) : Bool := decide (p.code < 5) && decide (p.rate < 4) && decide (p.lqi < 256)

/-- Ladle engine e, or Drover core 0x40 + n (Table 9-14). -/
def engineOk (e : Nat) : Bool := decide (e < 32) || (decide (0x40 ≤ e) && decide (e < 0x5C))

/-- An egress that has a gate list. -/
def egressOk (e : Nat) : Bool := decide (67 ≤ e) && decide (e < 75)

/-- The command's operands are those that the spec allows. -/
def Instr.wf : Instr → Bool
  | .fundamentalReset _ => true
  | .hotReset => true
  | .functionLevelReset => true
  | .hostLinkDown => true
  | .hostLinkUp speed width => Machine.linkRateOk speed && Machine.linkWidthOk width
  | .msixUnmask v => decide (v < 64)
  | .chipReset => true
  | .recastDev => true
  | .post w => decide (w < 8)
  | .arm w => decide (w < 8)
  | .windowRecall w => decide (w < 8)
  | .protoErrClear w => decide (w < 8)
  | .rxqDb n producer => decide (n < 16) && decide (producer < 65536)
  | .txqDb n producer => decide (n < 16) && decide (producer < 65536)
  | .registerWrite off b => decide (off + b.length ≤ 65536)
  | .bootPush b => decide (b.length ≤ 4096)
  | .hello w m => decide (w < 8) && m.wf
  | .bye w m => decide (w < 8) && m.wf
  | .paramGet w m => decide (w < 8) && m.wf
  | .paramSet w m => decide (w < 8) && m.wf
  | .paramCommit w m => decide (w < 8) && m.wf
  | .paramAbort w m => decide (w < 8) && m.wf
  | .tableWrite w m => decide (w < 8) && m.wf
  | .tableRead w m => decide (w < 8) && m.wf
  | .tableCommit w m => decide (w < 8) && m.wf
  | .keyInstall w m _ => decide (w < 8) && m.wf
  | .keyRetire w m => decide (w < 8) && m.wf
  | .storeInfo w m => decide (w < 8) && m.wf
  | .storeCreate w m => decide (w < 8) && m.wf
  | .storeWrite w m => decide (w < 8) && m.wf
  | .storeIngest w m => decide (w < 8) && m.wf
  | .storeSeal w m => decide (w < 8) && m.wf
  | .storeDelete w m => decide (w < 8) && m.wf
  | .storeStat w m => decide (w < 8) && m.wf
  | .storeRead w m => decide (w < 8) && m.wf
  | .storeSpliceTcp w m => decide (w < 8) && m.wf
  | .storeSpliceMcast w m => decide (w < 8) && m.wf
  | .storeCancel w m => decide (w < 8) && m.wf
  | .fwStage w m => decide (w < 8) && m.wf
  | .fwActivate w m => decide (w < 8) && m.wf
  | .patternSave w m => decide (w < 8) && m.wf
  | .patternLoad w m => decide (w < 8) && m.wf
  | .powerRequest w m => decide (w < 8) && m.wf
  | .ladleLoad w m => decide (w < 8) && m.wf
  | .traceRead w m => decide (w < 8) && m.wf
  | .snapshot w m => decide (w < 8) && m.wf
  | .eventBatchTimeout => true
  | .heartbeatTick => true
  | .safePointApply g u => decide (g < 25) && decide (u < 65536)
  | .tablePageSwitch id inst => decide (id < 4294967296) && decide (inst < 65536)
  | .standbyCopyDone id inst => decide (id < 4294967296) && decide (inst < 65536)
  | .versionRetire v => decide (v < 16)
  | .patternFlashWriteDone _ => true
  | .alwaysOnRailsValid => true
  | .porRelease => true
  | .pmicEnableStep => true
  | .pmicPgRise => true
  | .pmicPgTimeout => true
  | .bootPllLock _ _ => true
  | .xspiResetRelease => true
  | .loaderVerify _ => true
  | .firmwareVerify => true
  | .ddrTrainingDone _ _ _ => true
  | .bootReady bad => bad.all (fun i => decide (i < 256))
  | .bootInitTimeout => true
  | .trialStageTimeout => true
  | .trialTimeExpiry => true
  | .fwActivateReset => true
  | .fwFlashWriteDone => true
  | .resetPin _ => true
  | .powerFail _ => true
  | .powerdownSequence => true
  | .pmicPgLoss => true
  | .aonRailLoss => true
  | .thermalTrip _ => true
  | .thermalTripRelease _ => true
  | .lockstepMismatch pair _ => decide (pair < 2)
  | .heartbeatWatchdog => true
  | .aonWatchdog => true
  | .sensorPoll temps rails _ => decide (temps.length = 16) && decide (rails.length = 9)
  | .capStepUp => true
  | .capStepDown => true
  | .logFlashWrite => true
  | .rngHealthFail test => decide (1 ≤ test ∧ test ≤ 4)
  | .rngReseed => true
  | .entryBlockDrain => true
  | .wakeSource b => decide (b = 0 ∨ b = 2 ∨ b = 3)
  | .sleepTimerExpiry => true
  | .wakeStageReady => true
  | .wakeStageTimeout which => decide (which < 256)
  | .wakeRetry => true
  | .faultAdmit u cause => u.valid && decide (1 ≤ cause ∧ cause ≤ 12)
  | .recastResetDone u => u.valid
  | .recastRestoreDone u => u.valid
  | .recastResumeDone u => u.valid
  | .lanePllLock n => decide (n < 20)
  | .lanePllTimeout n => decide (n < 20)
  | .laneCdrLock n => decide (n < 20)
  | .laneAcqTimeout n => decide (n < 20)
  | .laneMarkerRx n raw => decide (n < 20) && raw.all (fun v => decide (v < 1099511627776))
  | .laneTrainTimeout n => decide (n < 20)
  | .laneFaultExpiry n => decide (n < 20)
  | .laneClockLoss n => decide (n < 20)
  | .lanePcsLock n => decide (n < 20)
  | .lanePcsLoss n => decide (n < 20)
  | .lanePolarityRetry n => decide (n < 20)
  | .laneCodewordRx n _ errs _ => decide (n < 20) && errs.all (fun p => decide (p < 5440))
  | .laneWakeTimeout n => decide (n < 20)
  | .eeeTxEntry n => decide (n < 4)
  | .eeeTxWake n => decide (n < 4)
  | .eeeRxLpi p => decide (p < 4)
  | .eeeRxWake p => decide (p < 4)
  | .lpiGateWake n => decide (n < 4)
  | .linkFrameTx offsets blocks lost =>
      decide (offsets.length ≤ 16) && blocks.all (fun b => decide (b.1 < 128)) &&
        lost.all (fun x => decide (x.1 < 16))
  | .linkFrameRx l syncErrs raw nbits _ _ cdc =>
      decide (l < 16) && decide (syncErrs ≤ 64) && decide (192 ≤ nbits) && decide (raw.log2 < nbits) &&
        cdc.all (fun c => decide (c < 128))
  | .linkDefectPersist l defect _ => decide (l < 16) && decide (defect < 2)
  | .linkSecondLatch => true
  | .headId l seq h => decide (l < 16) && decide (seq < 256) && h.wf
  | .ack l typ seq status => decide (l < 16) && decide (typ < 256) && decide (seq < 256) && decide (status < 256)
  | .echo l seq token => decide (l < 16) && decide (seq < 256) && decide (token < 4294967296)
  | .headAlarm l seq t cause det =>
      decide (l < 16) && decide (seq < 256) && decide (t < 9) && decide (cause < 256) && decide (det < 65536)
  | .rxGainApplied l seq t gain =>
      decide (l < 16) && decide (seq < 256) && decide (t < 9) && decide (-32768 ≤ gain) && decide (gain < 32768)
  | .telemetry l temps mv =>
      decide (l < 16) && decide (temps.length = 9) && temps.all (fun x => decide (-128 ≤ x) && decide (x < 128)) &&
        decide (mv < 65536)
  | .headRfCaps l seq c => decide (l < 16) && decide (seq < 256) && c.wf
  | .ccReservedType l typ seq =>
      decide (l < 16) && decide ((7 < typ ∧ typ < 16) ∨ (0x15 < typ ∧ typ < 256) ∨ typ = 0) && decide (seq < 256)
  | .ccRetryTimeout l => decide (l < 16)
  | .echoPeriod l => decide (l < 16)
  | .layoutAckDeadline l => decide (l < 16)
  | .layoutEffect l => decide (l < 16)
  | .spareSwitchEffect l => decide (l < 16)
  | .gainControlTick c _ => decide (c < 128)
  | .gainAckDeadline c typ => decide (c < 128) && decide (typ = 0x10 ∨ typ = 0x12 ∨ typ = 0x13)
  | .gainEffective c typ => decide (c < 128) && decide (typ = 0x10 ∨ typ = 0x12 ∨ typ = 0x13)
  | .achAbsentTimeout c => decide (c < 128)
  | .achFrontendFault c _ => decide (c < 128)
  | .calPeriodExpiry r => decide (r < 3)
  | .calWindowGrant r best => decide (r < 3) && best.all (fun c => decide (c < 128))
  | .calTurn r => decide (r < 3)
  | .calPassEnd r results => decide (r < 3) && results.all CalResult.wf
  | .calDeferTimeout r => decide (r < 3)
  | .feedShort h _ => decide (h < 16)
  | .feedReversed h _ => decide (h < 16)
  | .feedAdcSample h _ _ _ => decide (h < 16)
  | .feedCheckEnd h => decide (h < 16)
  | .feedInrushEnd h _ => decide (h < 16)
  | .feedBackoffEnd h => decide (h < 16)
  | .feedReversedClear h => decide (h < 16)
  | .feedRetryReset h => decide (h < 16)
  | .roundComplete r q => decide (r < 3) && q.wf
  | .setBegin k => decide (k < 8)
  | .weightEntry k => decide (k < 8)
  | .colmap k => decide (k < 8)
  | .setEnd k => decide (k < 8)
  | .confirm k => decide (k < 8)
  | .discard k => decide (k < 8)
  | .setLoadTimeout r => decide (r < 3)
  | .updateLate r basis => decide (r < 3) && decide (basis < 4294967296)
  | .switchPoint r => decide (r < 3)
  | .channelUnusable c => decide (c < 128)
  | .symbolAssay k _ _ _ _ => decide (k < 8)
  | .staReportRefresh r figs _ => decide (r < 3) && figs.all StaFigures.wf
  | .aoaDetection r u v _ sta =>
      decide (r < 3) && decide (-32768 ≤ u) && decide (-32768 ≤ v) && decide (u ≤ 32768) && decide (v ≤ 32768) &&
        sta.all (fun x => decide (x < 4096))
  | .tbtt sec _ o => decide (sec < 8) && o.wf
  | .filsDiscovery sec => decide (sec < 8)
  | .channelAccess r => decide (r < 3)
  | .txInterval r x => decide (r < 3) && x.wf
  | .ppduRx sec p => decide (sec < 8) && p.wf
  | .newPreamble sec _ _ part => decide (sec < 8) && part.all RxMpdu.wf
  | .soundingRoundStart r _ => decide (r < 3)
  | .restrictedSpStart sec i => decide (sec < 8) && decide (i < 32)
  | .jobFetch e => engineOk e
  | .jobDone e status => engineOk e && decide (status < 4294967296)
  | .postCtl e arg v => engineOk e && decide (arg < 4294967296) && decide (v < 4294967296)
  | .wlPush e mask entry =>
      decide (e < 32) && decide (mask < 256) &&
        decide (entry < 13407807929942597099574024998205846127479365820592393377723561443721764030073546976801874298166903427690031858186486050853753882811946569946433649006084096)
  | .dmaGo e v a => engineOk e && decide (v < 4294967296) && decide (a < 18446744073709551616)
  | .dmaStatus e => decide (e < 32)
  | .icuClaim e => decide (e < 32)
  | .icuComplete e v => decide (e < 32) && decide (v < 4294967296)
  | .maskSet e hi v => decide (e < 32) && decide (hi < 2) && decide (v < 4294967296)
  | .maskClr e hi v => decide (e < 32) && decide (hi < 2) && decide (v < 4294967296)
  | .pendSet e hi v => decide (e < 32) && decide (hi < 2) && decide (v < 4294967296)
  | .pendClr e hi v => decide (e < 32) && decide (hi < 2) && decide (v < 4294967296)
  | .roundAck e v => decide (e < 32) && decide (v < 4294967296)
  | .swpAck e v => decide (e < 32) && decide (v < 4294967296)
  | .dbSet e v => decide (e < 32) && decide (v < 4294967296)
  | .dbClr e => decide (e < 32)
  | .secAck e => decide (e < 32)
  | .tmrAck e v => decide (e < 32) && decide (v < 4294967296)
  | .timerCompare t => decide (t < 4)
  | .interruptEntry e _ => decide (e < 32)
  | .jobWatchdog e => decide (e < 32)
  | .engineWake e => decide (e < 32)
  | .kernelInstall k e => decide (k < 64) && decide (e < 32)
  | .leCmac e f => decide (e < 32) && f.wf
  | .leCmacc e f => decide (e < 32) && f.wf
  | .leCmsu e f => decide (e < 32) && f.wf
  | .leCmpy e f => decide (e < 32) && f.wf
  | .leCmpyc e f => decide (e < 32) && f.wf
  | .leQmac e f => decide (e < 32) && f.wf
  | .leQmpy e f => decide (e < 32) && f.wf
  | .leMac e f => decide (e < 32) && f.wf
  | .leMsu e f => decide (e < 32) && f.wf
  | .leMpy e f => decide (e < 32) && f.wf
  | .leFirmv e f => decide (e < 32) && f.wf
  | .leFirmvr e f => decide (e < 32) && f.wf
  | .leFeed e f => decide (e < 32) && f.wf
  | .leAclr e f => decide (e < 32) && f.wf
  | .leAadd e f => decide (e < 32) && f.wf
  | .leAsub e f => decide (e < 32) && f.wf
  | .leAneg e f => decide (e < 32) && f.wf
  | .leAabs e f => decide (e < 32) && f.wf
  | .leAshl e f => decide (e < 32) && f.wf
  | .leAshr e f => decide (e < 32) && f.wf
  | .leAshv e f => decide (e < 32) && f.wf
  | .leArnd e f => decide (e < 32) && f.wf
  | .leAmov e f => decide (e < 32) && f.wf
  | .leAnorm e f => decide (e < 32) && f.wf
  | .leAext e f => decide (e < 32) && f.wf
  | .leAins e f => decide (e < 32) && f.wf
  | .lePack e f => decide (e < 32) && f.wf
  | .leAdd e f => decide (e < 32) && f.wf
  | .leSub e f => decide (e < 32) && f.wf
  | .leAnd e f => decide (e < 32) && f.wf
  | .leOr e f => decide (e < 32) && f.wf
  | .leXor e f => decide (e < 32) && f.wf
  | .leShl e f => decide (e < 32) && f.wf
  | .leShr e f => decide (e < 32) && f.wf
  | .leSar e f => decide (e < 32) && f.wf
  | .leMin e f => decide (e < 32) && f.wf
  | .leMax e f => decide (e < 32) && f.wf
  | .leCmp e f => decide (e < 32) && f.wf
  | .leCls e f => decide (e < 32) && f.wf
  | .leMov e f => decide (e < 32) && f.wf
  | .leAdd16 e f => decide (e < 32) && f.wf
  | .leSub16 e f => decide (e < 32) && f.wf
  | .leConj e f => decide (e < 32) && f.wf
  | .leSwap e f => decide (e < 32) && f.wf
  | .leRcp e f => decide (e < 32) && f.wf
  | .leRsq e f => decide (e < 32) && f.wf
  | .leMovi e f => decide (e < 32) && f.wf
  | .leMovu e f => decide (e < 32) && f.wf
  | .leAddi e f => decide (e < 32) && f.wf
  | .leAndi e f => decide (e < 32) && f.wf
  | .leOri e f => decide (e < 32) && f.wf
  | .leCmpi e f => decide (e < 32) && f.wf
  | .leShli e f => decide (e < 32) && f.wf
  | .leSari e f => decide (e < 32) && f.wf
  | .leLdx e f => decide (e < 32) && f.wf
  | .leStx e f => decide (e < 32) && f.wf
  | .leLdy e f => decide (e < 32) && f.wf
  | .leSty e f => decide (e < 32) && f.wf
  | .leBr e f => decide (e < 32) && f.wf
  | .leCall e f => decide (e < 32) && f.wf
  | .leRet e f => decide (e < 32) && f.wf
  | .leLoop e f => decide (e < 32) && f.wf
  | .leLoopi e f => decide (e < 32) && f.wf
  | .leReti e f => decide (e < 32) && f.wf
  | .leBri e f => decide (e < 32) && f.wf
  | .leCalli e f => decide (e < 32) && f.wf
  | .leNop e f => decide (e < 32) && f.wf
  | .leWait e f => decide (e < 32) && f.wf
  | .leIn e f => decide (e < 32) && f.wf
  | .leOut e f => decide (e < 32) && f.wf
  | .leMfs e f => decide (e < 32) && f.wf
  | .leMts e f => decide (e < 32) && f.wf
  | .leSetm e f => decide (e < 32) && f.wf
  | .leClrm e f => decide (e < 32) && f.wf
  | .leFence e f => decide (e < 32) && f.wf
  | .leBreak e f => decide (e < 32) && f.wf
  | .ponDsFrame errs _ sfc _ _ _ => decide (errs ≤ 64) && decide (sfc < 2251799813685248)
  | .xgemFrameRx x => x.wf
  | .burstProfile _ _ seq i _ => decide (seq < 256) && decide (i < 4)
  | .assignOnuId _ id vendor serial => decide (id < 1024) && decide (vendor < 4294967296) && decide (serial < 4294967296)
  | .rangingTime _ _ seq _ _ => decide (seq < 256)
  | .deactivateOnuId _ => true
  | .disableSerialNumber _ _ sn => sn.all (fun x => decide (x.1 < 4294967296) && decide (x.2 < 4294967296))
  | .requestRegistration _ => true
  | .assignAllocId _ seq allocId _ => decide (seq < 256) && decide (allocId < 16384)
  | .keyControl _ i => decide (1 ≤ i ∧ i ≤ 2)
  | .sleepAllow _ _ => true
  | .unsupportedPloam _ seq => decide (seq < 256)
  | .to1Expiry => true
  | .to2Expiry => true
  | .ponLosChange _ _ => true
  | .bwmapAllocation m place => m.wf && place.all (fun x => decide (x.1 < 3))
  | .usPrefetch i => decide (i < 16)
  | .burstStart _ => true
  | .rogueDetect cause => decide (1 ≤ cause ∧ cause ≤ 3)
  | .txFaultChange _ _ => true
  | .todWaitTimeout => true
  | .autoDwellExpiry => true
  | .psIntervalExpiry which => decide (which < 3)
  | .ddmPoll r => r.all DdmRead.wf
  | .ponSecondLatch => true
  | .packetIngress a => a.wf
  | .poolAlloc reqs => reqs.all (fun x => Machine.validPort x.1)
  | .waybillGive port h dest => Machine.validPort port && decide (h < 262144) && Machine.validPort dest
  | .waybillRelease port ptr => Machine.validPort port && ptr.wf
  | .replication h => decide (h < 262144)
  | .reinject n h => decide (n < 28) && decide (h < 262144)
  | .flowAgeing i => decide (i < 4194304)
  | .droverWatchdog n => decide (n < 28)
  | .enqueue h q => decide (h < 262144) && decide (q < 32768)
  | .dequeueDecision e rx => decide (e < 75) && rx.all (fun x => decide (x.1 < 16))
  | .gateEntryStart e _ o => egressOk e && o.wf
  | .gateListSwitch e => egressOk e
  | .bucketOverflow q e _ o => decide (q < 32768) && decide (e < 75) && o.wf
  | .drrStarvation e q o => decide (e < 75) && decide (q < 32768) && o.wf
  | .queueSampleSweep => true
  | .sprueRunStart n _ u => decide (n < 8) && u.all Upset.wf
  | .sprueRunComplete n err => decide (n < 8) && decide (err = 0 ∨ err = 3 ∨ err = 4)
  | .txPacketFetch n descs _ _ => decide (n < 16) && descs.all (fun d => decide (d.log2 < 256))
  | .ringIrqTimer n => decide (n < 32)
  | .driveLinkUp d => decide (d < 2)
  | .driveInitDone d _ => decide (d < 2)
  | .driveInitTimeout d => decide (d < 2)
  | .driveLinkDown d => decide (d < 2)
  | .nvmeTimeout d opcode => decide (d < 2) && decide (opcode < 256)
  | .spliceSegment _ => true
  | .deleteFinish _ => true
  | .ethFrameRx n _ _ _ => decide (n < 4)
  | .ethFrameTxStart n => decide (n < 4)
  | .ethLinkChange n fault => decide (n < 4) && decide (fault = 0 ∨ fault = 2 ∨ fault = 3)
  | .lldpTx n => decide (n < 4)
  | .lldpTtlExpiry n => decide (n < 4)
  | .ptpTimestamp n _ _ _ => decide (n < 4)
  | .ppsInEdge _ => true
  | .ppsInLoss => true
  | .ppsOutRise => true
  | .ppsOutFall => true
  | .beaconTx _ _ => true
  | .urgentTx _ => true
  | .caravanPacketRx p => p.wf
  | .superframeStart => true
  | .fibreHoldExpiry => true
  | .channelRound => true
  | .rootBurnDone k => decide (k < 2)
  | .gpioEdge g _ => decide (g < 24)
  | .nvmeCompletion d _ _ => decide (d < 2)
  | .driveFatalStatus d => decide (d < 2)
  | .restrictedSpEnd sec i o => decide (sec < 8) && decide (i < 32) && o.wf
  | .fragmentReassemblyTimeout _ => true
  | .jtagTckEdge _ _ _ balls => decide (balls.log2 < 160)
  | .jtagTrstLLow => true
  | .patrolScrub ch _ => decide (ch < 4)

end Sys2Proof
end

