-- ==== Sys2Proof/Machine/Dispatch.lean ====
section
/-!
DEFINITION. The dispatch of a command to its meaning.
-/
namespace Sys2Proof.Machine

/-- What a command does to everything but the queue. -/
def exec (i : Instr) (s : State) : Host.Outcome State Fault Refusal :=
  match i with
  | .fundamentalReset low => Sys2Proof.Machine.execFundamentalReset low s
  | .hotReset => Sys2Proof.Machine.execHotReset s
  | .functionLevelReset => Sys2Proof.Machine.execFunctionLevelReset s
  | .hostLinkDown => Sys2Proof.Machine.execHostLinkDown s
  | .hostLinkUp speed width => Sys2Proof.Machine.execHostLinkUp speed width s
  | .msixUnmask v => Sys2Proof.Machine.execMsixUnmask v s
  | .chipReset => Sys2Proof.Machine.execChipReset s
  | .recastDev => Sys2Proof.Machine.execRecastDev s
  | .post w => Sys2Proof.Machine.execPost w s
  | .arm w => Sys2Proof.Machine.execArm w s
  | .windowRecall w => Sys2Proof.Machine.execRecall w s
  | .protoErrClear w => Sys2Proof.Machine.execProtoErrClear w s
  | .rxqDb n producer => Sys2Proof.Machine.execRxqDb n producer s
  | .txqDb n producer => Sys2Proof.Machine.execTxqDb n producer s
  | .registerWrite off b => Sys2Proof.Machine.execRegisterWrite off b s
  | .bootPush b => Sys2Proof.Machine.execBootPush b s
  | .hello w m => Sys2Proof.Machine.execHello w m s
  | .bye w m => Sys2Proof.Machine.execBye w m s
  | .paramGet w m => Sys2Proof.Machine.execParamGet w m s
  | .paramSet w m => Sys2Proof.Machine.execParamSet w m s
  | .paramCommit w m => Sys2Proof.Machine.execParamCommit w m s
  | .paramAbort w m => Sys2Proof.Machine.execParamAbort w m s
  | .tableWrite w m => Sys2Proof.Machine.execTableWrite w m s
  | .tableRead w m => Sys2Proof.Machine.execTableRead w m s
  | .tableCommit w m => Sys2Proof.Machine.execTableCommit w m s
  | .keyInstall w m flashOk => Sys2Proof.Machine.execKeyInstall w m flashOk s
  | .keyRetire w m => Sys2Proof.Machine.execKeyRetire w m s
  | .storeInfo w m => Sys2Proof.Machine.execStoreInfo w m s
  | .storeCreate w m => Sys2Proof.Machine.execStoreCreate w m s
  | .storeWrite w m => Sys2Proof.Machine.execStoreWrite w m s
  | .storeIngest w m => Sys2Proof.Machine.execStoreIngest w m s
  | .storeSeal w m => Sys2Proof.Machine.execStoreSeal w m s
  | .storeDelete w m => Sys2Proof.Machine.execStoreDelete w m s
  | .storeStat w m => Sys2Proof.Machine.execStoreStat w m s
  | .storeRead w m => Sys2Proof.Machine.execStoreRead w m s
  | .storeSpliceTcp w m => Sys2Proof.Machine.execStoreSpliceTcp w m s
  | .storeSpliceMcast w m => Sys2Proof.Machine.execStoreSpliceMcast w m s
  | .storeCancel w m => Sys2Proof.Machine.execStoreCancel w m s
  | .fwStage w m => Sys2Proof.Machine.execFwStage w m s
  | .fwActivate w m => Sys2Proof.Machine.execFwActivate w m s
  | .patternSave w m => Sys2Proof.Machine.execPatternSave w m s
  | .patternLoad w m => Sys2Proof.Machine.execPatternLoad w m s
  | .powerRequest w m => Sys2Proof.Machine.execPowerRequest w m s
  | .ladleLoad w m => Sys2Proof.Machine.execLadleLoad w m s
  | .traceRead w m => Sys2Proof.Machine.execTraceRead w m s
  | .snapshot w m => Sys2Proof.Machine.execSnapshot w m s
  | .eventBatchTimeout => Sys2Proof.Machine.execEventBatchTimeout s
  | .heartbeatTick => Sys2Proof.Machine.execHeartbeatTick s
  | .safePointApply g u => Sys2Proof.Machine.execSafePointApply g u s
  | .tablePageSwitch id inst => Sys2Proof.Machine.execTablePageSwitch id inst s
  | .standbyCopyDone id inst => Sys2Proof.Machine.execStandbyCopyDone id inst s
  | .versionRetire v => Sys2Proof.Machine.execVersionRetire v s
  | .patternFlashWriteDone good => Sys2Proof.Machine.execPatternFlashWriteDone good s
  | .alwaysOnRailsValid => Sys2Proof.Machine.execAlwaysOnRailsValid s
  | .porRelease => Sys2Proof.Machine.execPorRelease s
  | .pmicEnableStep => Sys2Proof.Machine.execPmicEnableStep s
  | .pmicPgRise => Sys2Proof.Machine.execPmicPgRise s
  | .pmicPgTimeout => Sys2Proof.Machine.execPmicPgTimeout s
  | .bootPllLock otpOk rngOk => Sys2Proof.Machine.execBootPllLock otpOk rngOk s
  | .xspiResetRelease => Sys2Proof.Machine.execXspiResetRelease s
  | .loaderVerify responds => Sys2Proof.Machine.execLoaderVerify responds s
  | .firmwareVerify => Sys2Proof.Machine.execFirmwareVerify s
  | .ddrTrainingDone equal gib rate => Sys2Proof.Machine.execDdrTrainingDone equal gib rate s
  | .bootReady bad => Sys2Proof.Machine.execBootReady bad s
  | .bootInitTimeout => Sys2Proof.Machine.execBootInitTimeout s
  | .trialStageTimeout => Sys2Proof.Machine.execTrialStageTimeout s
  | .trialTimeExpiry => Sys2Proof.Machine.execTrialTimeExpiry s
  | .fwActivateReset => Sys2Proof.Machine.execFwActivateReset s
  | .fwFlashWriteDone => Sys2Proof.Machine.execFwFlashWriteDone s
  | .resetPin low => Sys2Proof.Machine.execResetPin low s
  | .powerFail low => Sys2Proof.Machine.execPowerFail low s
  | .powerdownSequence => Sys2Proof.Machine.execPowerdownSequence s
  | .pmicPgLoss => Sys2Proof.Machine.execPmicPgLoss s
  | .aonRailLoss => Sys2Proof.Machine.execAonRailLoss s
  | .thermalTrip t => Sys2Proof.Machine.execThermalTrip t s
  | .thermalTripRelease t => Sys2Proof.Machine.execThermalTripRelease t s
  | .lockstepMismatch pair ecc => Sys2Proof.Machine.execLockstepMismatch pair ecc s
  | .heartbeatWatchdog => Sys2Proof.Machine.execHeartbeatWatchdog s
  | .aonWatchdog => Sys2Proof.Machine.execAonWatchdog s
  | .sensorPoll temps rails mw => Sys2Proof.Machine.execSensorPoll temps rails mw s
  | .capStepUp => Sys2Proof.Machine.execCapStepUp s
  | .capStepDown => Sys2Proof.Machine.execCapStepDown s
  | .logFlashWrite => Sys2Proof.Machine.execLogFlashWrite s
  | .rngHealthFail test => Sys2Proof.Machine.execRngHealthFail test s
  | .rngReseed => Sys2Proof.Machine.execRngReseed s
  | .entryBlockDrain => Sys2Proof.Machine.execEntryBlockDrain s
  | .wakeSource b => Sys2Proof.Machine.execWakeSource b s
  | .sleepTimerExpiry => Sys2Proof.Machine.execSleepTimerExpiry s
  | .wakeStageReady => Sys2Proof.Machine.execWakeStageReady s
  | .wakeStageTimeout which => Sys2Proof.Machine.execWakeStageTimeout which s
  | .wakeRetry => Sys2Proof.Machine.execWakeRetry s
  | .faultAdmit u cause => Sys2Proof.Machine.execFaultAdmit u cause s
  | .recastResetDone u => Sys2Proof.Machine.execRecastResetDone u s
  | .recastRestoreDone u => Sys2Proof.Machine.execRecastRestoreDone u s
  | .recastResumeDone u => Sys2Proof.Machine.execRecastResumeDone u s
  | .lanePllLock n => Sys2Proof.Machine.execLanePllLock n s
  | .lanePllTimeout n => Sys2Proof.Machine.execLanePllTimeout n s
  | .laneCdrLock n => Sys2Proof.Machine.execLaneCdrLock n s
  | .laneAcqTimeout n => Sys2Proof.Machine.execLaneAcqTimeout n s
  | .laneMarkerRx n raw => Sys2Proof.Machine.execLaneMarkerRx n raw s
  | .laneTrainTimeout n => Sys2Proof.Machine.execLaneTrainTimeout n s
  | .laneFaultExpiry n => Sys2Proof.Machine.execLaneFaultExpiry n s
  | .laneClockLoss n => Sys2Proof.Machine.execLaneClockLoss n s
  | .lanePcsLock n => Sys2Proof.Machine.execLanePcsLock n s
  | .lanePcsLoss n => Sys2Proof.Machine.execLanePcsLoss n s
  | .lanePolarityRetry n => Sys2Proof.Machine.execLanePolarityRetry n s
  | .laneCodewordRx n cw errs loop => Sys2Proof.Machine.execLaneCodewordRx n cw errs loop s
  | .laneWakeTimeout n => Sys2Proof.Machine.execLaneWakeTimeout n s
  | .eeeTxEntry n => Sys2Proof.Machine.execEeeTxEntry n s
  | .eeeTxWake n => Sys2Proof.Machine.execEeeTxWake n s
  | .eeeRxLpi p => Sys2Proof.Machine.execEeeRxLpi p s
  | .eeeRxWake p => Sys2Proof.Machine.execEeeRxWake p s
  | .lpiGateWake n => Sys2Proof.Machine.execLpiGateWake n s
  | .linkFrameTx offsets blocks lost => Sys2Proof.Machine.execLinkFrameTx offsets blocks lost s
  | .linkFrameRx l syncErrs raw nbits bad slip cdc => Sys2Proof.Machine.execLinkFrameRx l syncErrs raw nbits bad slip cdc s
  | .linkDefectPersist l defect declare => Sys2Proof.Machine.execLinkDefectPersist l defect declare s
  | .linkSecondLatch => Sys2Proof.Machine.execLinkSecondLatch s
  | .headId l seq h => Sys2Proof.Machine.execHeadId l seq h s
  | .ack l typ seq status => Sys2Proof.Machine.execAck l typ seq status s
  | .echo l seq token => Sys2Proof.Machine.execEcho l seq token s
  | .headAlarm l seq t cause det => Sys2Proof.Machine.execHeadAlarm l seq t cause det s
  | .rxGainApplied l seq t gain => Sys2Proof.Machine.execRxGainApplied l seq t gain s
  | .telemetry l temps mv => Sys2Proof.Machine.execTelemetry l temps mv s
  | .headRfCaps l seq c => Sys2Proof.Machine.execHeadRfCaps l seq c s
  | .ccReservedType l typ seq => Sys2Proof.Machine.execCcReservedType l typ seq s
  | .ccRetryTimeout l => Sys2Proof.Machine.execCcRetryTimeout l s
  | .echoPeriod l => Sys2Proof.Machine.execEchoPeriod l s
  | .layoutAckDeadline l => Sys2Proof.Machine.execLayoutAckDeadline l s
  | .layoutEffect l => Sys2Proof.Machine.execLayoutEffect l s
  | .spareSwitchEffect l => Sys2Proof.Machine.execSpareSwitchEffect l s
  | .gainControlTick c level => Sys2Proof.Machine.execGainControlTick c level s
  | .gainAckDeadline c typ => Sys2Proof.Machine.execGainAckDeadline c typ s
  | .gainEffective c typ => Sys2Proof.Machine.execGainEffective c typ s
  | .achAbsentTimeout c => Sys2Proof.Machine.execAchAbsentTimeout c s
  | .achFrontendFault c cause => Sys2Proof.Machine.execAchFrontendFault c cause s
  | .calPeriodExpiry r => Sys2Proof.Machine.execCalPeriodExpiry r s
  | .calWindowGrant r best => Sys2Proof.Machine.execCalWindowGrant r best s
  | .calTurn r => Sys2Proof.Machine.execCalTurn r s
  | .calPassEnd r results => Sys2Proof.Machine.execCalPassEnd r results s
  | .calDeferTimeout r => Sys2Proof.Machine.execCalDeferTimeout r s
  | .feedShort h ma => Sys2Proof.Machine.execFeedShort h ma s
  | .feedReversed h mv => Sys2Proof.Machine.execFeedReversed h mv s
  | .feedAdcSample h isns vsns mean => Sys2Proof.Machine.execFeedAdcSample h isns vsns mean s
  | .feedCheckEnd h => Sys2Proof.Machine.execFeedCheckEnd h s
  | .feedInrushEnd h ma => Sys2Proof.Machine.execFeedInrushEnd h ma s
  | .feedBackoffEnd h => Sys2Proof.Machine.execFeedBackoffEnd h s
  | .feedReversedClear h => Sys2Proof.Machine.execFeedReversedClear h s
  | .feedRetryReset h => Sys2Proof.Machine.execFeedRetryReset h s
  | .roundComplete r q => Sys2Proof.Machine.execRoundComplete r q s
  | .setBegin k => Sys2Proof.Machine.execSetBegin k s
  | .weightEntry k => Sys2Proof.Machine.execWeightEntry k s
  | .colmap k => Sys2Proof.Machine.execColmap k s
  | .setEnd k => Sys2Proof.Machine.execSetEnd k s
  | .confirm k => Sys2Proof.Machine.execConfirm k s
  | .discard k => Sys2Proof.Machine.execDiscard k s
  | .setLoadTimeout r => Sys2Proof.Machine.execSetLoadTimeout r s
  | .updateLate r basis => Sys2Proof.Machine.execUpdateLate r basis s
  | .switchPoint r => Sys2Proof.Machine.execSwitchPoint r s
  | .channelUnusable c => Sys2Proof.Machine.execChannelUnusable c s
  | .symbolAssay k rx T wrong residue => Sys2Proof.Machine.execSymbolAssay k rx T wrong residue s
  | .staReportRefresh r figs nulls => Sys2Proof.Machine.execStaReportRefresh r figs nulls s
  | .aoaDetection r u v snr sta => Sys2Proof.Machine.execAoaDetection r u v snr sta s
  | .tbtt sec delayUs o => Sys2Proof.Machine.execTbtt sec delayUs o s
  | .filsDiscovery sec => Sys2Proof.Machine.execFilsDiscovery sec s
  | .channelAccess r => Sys2Proof.Machine.execChannelAccess r s
  | .txInterval r x => Sys2Proof.Machine.execTxInterval r x s
  | .ppduRx sec p => Sys2Proof.Machine.execPpduRx sec p s
  | .newPreamble sec level solicited part => Sys2Proof.Machine.execNewPreamble sec level solicited part s
  | .soundingRoundStart r ltfNs => Sys2Proof.Machine.execSoundingRoundStart r ltfNs s
  | .restrictedSpStart sec i0 => Sys2Proof.Machine.execRestrictedSpStart sec i0 s
  | .jobFetch e => Sys2Proof.Machine.execJobFetch e s
  | .jobDone e status => Sys2Proof.Machine.execJobDone e status s
  | .postCtl e arg v => Sys2Proof.Machine.execPostCtl e arg v s
  | .wlPush e mask entry => Sys2Proof.Machine.execWlPush e mask entry s
  | .dmaGo e v a => Sys2Proof.Machine.execDmaGo e v a s
  | .dmaStatus e => Sys2Proof.Machine.execDmaStatus e s
  | .icuClaim e => Sys2Proof.Machine.execIcuClaim e s
  | .icuComplete e v => Sys2Proof.Machine.execIcuComplete e v s
  | .maskSet e hi v => Sys2Proof.Machine.execMaskSet e hi v s
  | .maskClr e hi v => Sys2Proof.Machine.execMaskClr e hi v s
  | .pendSet e hi v => Sys2Proof.Machine.execPendSet e hi v s
  | .pendClr e hi v => Sys2Proof.Machine.execPendClr e hi v s
  | .roundAck e v => Sys2Proof.Machine.execRoundAck e v s
  | .swpAck e v => Sys2Proof.Machine.execSwpAck e v s
  | .dbSet e v => Sys2Proof.Machine.execDbSet e v s
  | .dbClr e => Sys2Proof.Machine.execDbClr e s
  | .secAck e => Sys2Proof.Machine.execSecAck e s
  | .tmrAck e v => Sys2Proof.Machine.execTmrAck e v s
  | .timerCompare t => Sys2Proof.Machine.execTimerCompare t s
  | .interruptEntry e race => Sys2Proof.Machine.execInterruptEntry e race s
  | .jobWatchdog e => Sys2Proof.Machine.execJobWatchdog e s
  | .engineWake e => Sys2Proof.Machine.execEngineWake e s
  | .kernelInstall k e => Sys2Proof.Machine.execKernelInstall k e s
  | .leCmac e f => Sys2Proof.Machine.execLeCmac e f s
  | .leCmacc e f => Sys2Proof.Machine.execLeCmacc e f s
  | .leCmsu e f => Sys2Proof.Machine.execLeCmsu e f s
  | .leCmpy e f => Sys2Proof.Machine.execLeCmpy e f s
  | .leCmpyc e f => Sys2Proof.Machine.execLeCmpyc e f s
  | .leQmac e f => Sys2Proof.Machine.execLeQmac e f s
  | .leQmpy e f => Sys2Proof.Machine.execLeQmpy e f s
  | .leMac e f => Sys2Proof.Machine.execLeMac e f s
  | .leMsu e f => Sys2Proof.Machine.execLeMsu e f s
  | .leMpy e f => Sys2Proof.Machine.execLeMpy e f s
  | .leFirmv e f => Sys2Proof.Machine.execLeFirmv e f s
  | .leFirmvr e f => Sys2Proof.Machine.execLeFirmvr e f s
  | .leFeed e f => Sys2Proof.Machine.execLeFeed e f s
  | .leAclr e f => Sys2Proof.Machine.execLeAclr e f s
  | .leAadd e f => Sys2Proof.Machine.execLeAadd e f s
  | .leAsub e f => Sys2Proof.Machine.execLeAsub e f s
  | .leAneg e f => Sys2Proof.Machine.execLeAneg e f s
  | .leAabs e f => Sys2Proof.Machine.execLeAabs e f s
  | .leAshl e f => Sys2Proof.Machine.execLeAshl e f s
  | .leAshr e f => Sys2Proof.Machine.execLeAshr e f s
  | .leAshv e f => Sys2Proof.Machine.execLeAshv e f s
  | .leArnd e f => Sys2Proof.Machine.execLeArnd e f s
  | .leAmov e f => Sys2Proof.Machine.execLeAmov e f s
  | .leAnorm e f => Sys2Proof.Machine.execLeAnorm e f s
  | .leAext e f => Sys2Proof.Machine.execLeAext e f s
  | .leAins e f => Sys2Proof.Machine.execLeAins e f s
  | .lePack e f => Sys2Proof.Machine.execLePack e f s
  | .leAdd e f => Sys2Proof.Machine.execLeAdd e f s
  | .leSub e f => Sys2Proof.Machine.execLeSub e f s
  | .leAnd e f => Sys2Proof.Machine.execLeAnd e f s
  | .leOr e f => Sys2Proof.Machine.execLeOr e f s
  | .leXor e f => Sys2Proof.Machine.execLeXor e f s
  | .leShl e f => Sys2Proof.Machine.execLeShl e f s
  | .leShr e f => Sys2Proof.Machine.execLeShr e f s
  | .leSar e f => Sys2Proof.Machine.execLeSar e f s
  | .leMin e f => Sys2Proof.Machine.execLeMin e f s
  | .leMax e f => Sys2Proof.Machine.execLeMax e f s
  | .leCmp e f => Sys2Proof.Machine.execLeCmp e f s
  | .leCls e f => Sys2Proof.Machine.execLeCls e f s
  | .leMov e f => Sys2Proof.Machine.execLeMov e f s
  | .leAdd16 e f => Sys2Proof.Machine.execLeAdd16 e f s
  | .leSub16 e f => Sys2Proof.Machine.execLeSub16 e f s
  | .leConj e f => Sys2Proof.Machine.execLeConj e f s
  | .leSwap e f => Sys2Proof.Machine.execLeSwap e f s
  | .leRcp e f => Sys2Proof.Machine.execLeRcp e f s
  | .leRsq e f => Sys2Proof.Machine.execLeRsq e f s
  | .leMovi e f => Sys2Proof.Machine.execLeMovi e f s
  | .leMovu e f => Sys2Proof.Machine.execLeMovu e f s
  | .leAddi e f => Sys2Proof.Machine.execLeAddi e f s
  | .leAndi e f => Sys2Proof.Machine.execLeAndi e f s
  | .leOri e f => Sys2Proof.Machine.execLeOri e f s
  | .leCmpi e f => Sys2Proof.Machine.execLeCmpi e f s
  | .leShli e f => Sys2Proof.Machine.execLeShli e f s
  | .leSari e f => Sys2Proof.Machine.execLeSari e f s
  | .leLdx e f => Sys2Proof.Machine.execLeLdx e f s
  | .leStx e f => Sys2Proof.Machine.execLeStx e f s
  | .leLdy e f => Sys2Proof.Machine.execLeLdy e f s
  | .leSty e f => Sys2Proof.Machine.execLeSty e f s
  | .leBr e f => Sys2Proof.Machine.execLeBr e f s
  | .leCall e f => Sys2Proof.Machine.execLeCall e f s
  | .leRet e f => Sys2Proof.Machine.execLeRet e f s
  | .leLoop e f => Sys2Proof.Machine.execLeLoop e f s
  | .leLoopi e f => Sys2Proof.Machine.execLeLoopi e f s
  | .leReti e f => Sys2Proof.Machine.execLeReti e f s
  | .leBri e f => Sys2Proof.Machine.execLeBri e f s
  | .leCalli e f => Sys2Proof.Machine.execLeCalli e f s
  | .leNop e f => Sys2Proof.Machine.execLeNop e f s
  | .leWait e f => Sys2Proof.Machine.execLeWait e f s
  | .leIn e f => Sys2Proof.Machine.execLeIn e f s
  | .leOut e f => Sys2Proof.Machine.execLeOut e f s
  | .leMfs e f => Sys2Proof.Machine.execLeMfs e f s
  | .leMts e f => Sys2Proof.Machine.execLeMts e f s
  | .leSetm e f => Sys2Proof.Machine.execLeSetm e f s
  | .leClrm e f => Sys2Proof.Machine.execLeClrm e f s
  | .leFence e f => Sys2Proof.Machine.execLeFence e f s
  | .leBreak e f => Sys2Proof.Machine.execLeBreak e f s
  | .ponDsFrame errs hec sfc corr uncorr hecErr => Sys2Proof.Machine.execPonDsFrame errs hec sfc corr uncorr hecErr s
  | .xgemFrameRx x => Sys2Proof.Machine.execXgemFrameRx x s
  | .burstProfile mic directed seq i0 p => Sys2Proof.Machine.execBurstProfile mic directed seq i0 p s
  | .assignOnuId mic id vendor serial => Sys2Proof.Machine.execAssignOnuId mic id vendor serial s
  | .rangingTime mic directed seq relative v => Sys2Proof.Machine.execRangingTime mic directed seq relative v s
  | .deactivateOnuId mic => Sys2Proof.Machine.execDeactivateOnuId mic s
  | .disableSerialNumber mic disable sn => Sys2Proof.Machine.execDisableSerialNumber mic disable sn s
  | .requestRegistration mic => Sys2Proof.Machine.execRequestRegistration mic s
  | .assignAllocId mic seq allocId assign => Sys2Proof.Machine.execAssignAllocId mic seq allocId assign s
  | .keyControl mic i0 => Sys2Proof.Machine.execKeyControl mic i0 s
  | .sleepAllow mic on => Sys2Proof.Machine.execSleepAllow mic on s
  | .unsupportedPloam mic seq => Sys2Proof.Machine.execUnsupportedPloam mic seq s
  | .to1Expiry => Sys2Proof.Machine.execTo1Expiry s
  | .to2Expiry => Sys2Proof.Machine.execTo2Expiry s
  | .ponLosChange level held => Sys2Proof.Machine.execPonLosChange level held s
  | .bwmapAllocation m place => Sys2Proof.Machine.execBwmapAllocation m place s
  | .usPrefetch i0 => Sys2Proof.Machine.execUsPrefetch i0 s
  | .burstStart late => Sys2Proof.Machine.execBurstStart late s
  | .rogueDetect cause => Sys2Proof.Machine.execRogueDetect cause s
  | .txFaultChange level held => Sys2Proof.Machine.execTxFaultChange level held s
  | .todWaitTimeout => Sys2Proof.Machine.execTodWaitTimeout s
  | .autoDwellExpiry => Sys2Proof.Machine.execAutoDwellExpiry s
  | .psIntervalExpiry which => Sys2Proof.Machine.execPsIntervalExpiry which s
  | .ddmPoll r => Sys2Proof.Machine.execDdmPoll r s
  | .ponSecondLatch => Sys2Proof.Machine.execPonSecondLatch s
  | .packetIngress a => Sys2Proof.Machine.execPacketIngress a s
  | .poolAlloc reqs => Sys2Proof.Machine.execPoolAlloc reqs s
  | .waybillGive port h dest => Sys2Proof.Machine.execWaybillGive port h dest s
  | .waybillRelease port ptr => Sys2Proof.Machine.execWaybillRelease port ptr s
  | .replication h => Sys2Proof.Machine.execReplication h s
  | .reinject n h => Sys2Proof.Machine.execReinject n h s
  | .flowAgeing i0 => Sys2Proof.Machine.execFlowAgeing i0 s
  | .droverWatchdog n => Sys2Proof.Machine.execDroverWatchdog n s
  | .enqueue h q => Sys2Proof.Machine.execEnqueue h q s
  | .dequeueDecision e rx => Sys2Proof.Machine.execDequeueDecision e rx s
  | .gateEntryStart e entry o => Sys2Proof.Machine.execGateEntryStart e entry o s
  | .gateListSwitch e => Sys2Proof.Machine.execGateListSwitch e s
  | .bucketOverflow q e peak o => Sys2Proof.Machine.execBucketOverflow q e peak o s
  | .drrStarvation e q o => Sys2Proof.Machine.execDrrStarvation e q o s
  | .queueSampleSweep => Sys2Proof.Machine.execQueueSampleSweep s
  | .sprueRunStart n host u => Sys2Proof.Machine.execSprueRunStart n host u s
  | .sprueRunComplete n err => Sys2Proof.Machine.execSprueRunComplete n err s
  | .txPacketFetch n descs data err => Sys2Proof.Machine.execTxPacketFetch n descs data err s
  | .ringIrqTimer n => Sys2Proof.Machine.execRingIrqTimer n s
  | .driveLinkUp d => Sys2Proof.Machine.execDriveLinkUp d s
  | .driveInitDone d extents => Sys2Proof.Machine.execDriveInitDone d extents s
  | .driveInitTimeout d => Sys2Proof.Machine.execDriveInitTimeout d s
  | .driveLinkDown d => Sys2Proof.Machine.execDriveLinkDown d s
  | .nvmeTimeout d opcode => Sys2Proof.Machine.execNvmeTimeout d opcode s
  | .spliceSegment cid => Sys2Proof.Machine.execSpliceSegment cid s
  | .deleteFinish cid => Sys2Proof.Machine.execDeleteFinish cid s
  | .ethFrameRx n d fcsOk fifo => Sys2Proof.Machine.execEthFrameRx n d fcsOk fifo s
  | .ethFrameTxStart n => Sys2Proof.Machine.execEthFrameTxStart n s
  | .ethLinkChange n fault => Sys2Proof.Machine.execEthLinkChange n fault s
  | .lldpTx n => Sys2Proof.Machine.execLldpTx n s
  | .lldpTtlExpiry n => Sys2Proof.Machine.execLldpTtlExpiry n s
  | .ptpTimestamp n tx p wait => Sys2Proof.Machine.execPtpTimestamp n tx p wait s
  | .ppsInEdge rising => Sys2Proof.Machine.execPpsInEdge rising s
  | .ppsInLoss => Sys2Proof.Machine.execPpsInLoss s
  | .ppsOutRise => Sys2Proof.Machine.execPpsOutRise s
  | .ppsOutFall => Sys2Proof.Machine.execPpsOutFall s
  | .beaconTx air ready => Sys2Proof.Machine.execBeaconTx air ready s
  | .urgentTx ready => Sys2Proof.Machine.execUrgentTx ready s
  | .caravanPacketRx p => Sys2Proof.Machine.execCaravanPacketRx p s
  | .superframeStart => Sys2Proof.Machine.execSuperframeStart s
  | .fibreHoldExpiry => Sys2Proof.Machine.execFibreHoldExpiry s
  | .channelRound => Sys2Proof.Machine.execChannelRound s
  | .rootBurnDone k => Sys2Proof.Machine.execRootBurnDone k s
  | .gpioEdge g level => Sys2Proof.Machine.execGpioEdge g level s
  | .nvmeCompletion d cid host => Sys2Proof.Machine.execNvmeCompletion d cid host s
  | .driveFatalStatus d => Sys2Proof.Machine.execDriveFatalStatus d s
  | .restrictedSpEnd sec i0 o => Sys2Proof.Machine.execRestrictedSpEnd sec i0 o s
  | .fragmentReassemblyTimeout i0 => Sys2Proof.Machine.execFragmentReassemblyTimeout i0 s
  | .jtagTckEdge rising tms tdi balls => Sys2Proof.Machine.execJtagTckEdge rising tms tdi balls s
  | .jtagTrstLLow => Sys2Proof.Machine.execJtagTrstLLow s
  | .patrolScrub ch symbols => Sys2Proof.Machine.execPatrolScrub ch symbols s

end Sys2Proof.Machine
end

