-- ==== Sys2Proof/Safety.lean ====
section
/-!
DEFINITION. What a run of the block keeps, and the terms in which statements about commands are written.
-/
namespace Sys2Proof.Machine

/-- A command completes: `exec` answers a next state, and that state has a property. -/
def Answers (i : Instr) (s : State) (P : State → Prop) : Prop := ∃ t, exec i s = .next t ∧ P t

/-- `t` differs from `s` at most in what reporting touches: the host port, the mailbox, the event rings, the configuration
store with its counters, and the management block with its log. -/
structure Mail (s t : State) : Prop where
  flash : t.flash = s.flash
  sec : t.sec = s.sec
  time : t.time = s.time
  boot : t.boot = s.boot
  fw : t.fw = s.fw
  recast : t.recast = s.recast
  power : t.power = s.power
  jtag : t.jtag = s.jtag
  gpio : t.gpio = s.gpio
  radio : t.radio = s.radio
  beam : t.beam = s.beam
  pkt : t.pkt = s.pkt
  toll : t.toll = s.toll
  task : t.task = s.task
  dma : t.dma = s.dma
  eth : t.eth = s.eth
  wlan : t.wlan = s.wlan
  pon : t.pon = s.pon
  cvn : t.cvn = s.cvn
  free : t.free = s.free
  pending : t.pending = s.pending

/-- The boot stages of Table 2-5. -/
def stageLegal (n : Nat) : Prop := n ≤ 5 ∨ n = 14 ∨ n = 15

/-- The epoch is a 32-bit number and never 0 (R62); the boot stage is one of Table 2-5; the bytes of the eight windows are
held in their canonical form; and the armed windows are those that are listed as armed (R44). -/
structure State.Inv (s : State) : Prop where
  epoch : 1 ≤ s.mbx.epoch ∧ s.mbx.epoch ≤ 0xFFFFFFFF
  stage : stageLegal s.boot.stage
  windows : Tab.wf s.mbx.win = true ∧ ∀ w, Tab.wf (s.win w).bytes = true
  armed : ∀ w, w ∈ s.mbx.armed ↔ (s.win w).hold = .armed

/-! ### Messages -/

/-- A command message that the host may post in window w: the host owns the window, the session that is open has the message's
version and the opcode (HELLO needs none), and the message passes every check of Table 2-14 up to its length (R48). No window
is armed. -/
structure Sendable (op w : Nat) (m : Message) (s : State) : Prop where
  up : s.hostUp = true
  window : w < 8
  owned : (s.win w).hold = .host
  ready : s.ready = true
  unarmed : s.mbx.armed = []
  session : op = 1 ∨ s.mbx.session = some (m.major, m.minor)
  opcode : op = 1 ∨ opcodeIn s.mbx.session op = true
  epoch : op = 1 ∨ m.epoch = s.mbx.epoch
  tag : m.tag ≠ 0
  fresh : ∀ o ∈ s.mbx.outstanding, o.tag ≠ m.tag ∧ o.cid < s.mbx.nextCid
  status : m.status = 0
  length : m.length = m.payload.length
  fields : m.wf = true
  fits : lengthOk op m.length = true

/-- The message that stands in window w. -/
def State.message (s : State) (w : Nat) : List Byte := readBytes (s.win w).bytes 0 4096

/-- Window w is back with the host and holds the response to a command: its opcode, tag, status and payload (R43, R47). -/
structure Response (op w : Nat) (m : Message) (st : Status) (body : List Byte) (t : State) : Prop where
  owner : (t.win w).hold = .host
  handback : (t.win w).handback = .response
  opcode : fieldAt (t.message w) 2 2 = op
  tag : fieldAt (t.message w) 4 4 = m.tag
  status : fieldAt (t.message w) 10 2 = st.code
  length : fieldAt (t.message w) 8 2 = body.length
  body : ((t.message w).drop 16).take body.length = body

/-! ### Resets -/

/-- The chip has been reset with a cause (R39, Table 17-1): no session, epoch 1, the windows with the host, every parameter at its
master-pattern value, time at 0; flash, OTP, the board's levels and the queue of commands survive. -/
structure Restarted (cause : Nat) (s t : State) : Prop where
  session : t.mbx.session = none
  epoch : t.mbx.epoch = 1
  count : t.boot.count = (s.boot.count + 1) % 65536
  cause : t.boot.cause = cause
  stage : t.boot.stage = 0
  running : t.boot.running = false
  windows : ∀ w, (t.win w).hold = .host
  params : ∀ (p : ParamDef) (i : Nat), t.par p i = p.deflt i
  time : t.now = 0
  power : t.power = {}
  packets : t.pkt.wb = []
  slots : t.sec.slots = []
  flash : t.flash.bank = s.flash.bank ∧ t.flash.loader = s.flash.loader
  otp : t.sec.custRoot = s.sec.custRoot ∧ t.sec.svn = s.sec.svn ∧ t.sec.revoked = s.sec.revoked ∧ t.sec.records = s.sec.records
  board : t.gpio = s.gpio ∧ t.jtag = s.jtag
  pending : t.pending = s.pending

/-! ### Instructions of a Ladle engine -/

/-- Engine e issues an instruction and goes on at the next word, or at its loop start (R263): `exec` answers the state in which
the engine is `y` moved on, with its exposed hazards one instruction nearer to their end, and nothing else has changed. -/
def Issues (i : Instr) (e : Nat) (s : State) (P : Ladle → Prop) : Prop :=
  ∃ y, exec i s = .next (updEng e (fun _ => y.nextWord.age) s) ∧ P y

/-- The same for an instruction that changes only the bank in use. -/
def IssuesBank (i : Instr) (e : Nat) (s : State) (P : Bank → Prop) : Prop :=
  Issues i e s fun y => y = (s.eng e).setBank y.bank ∧ P y.bank

/-- Engine e issues an instruction and goes on at a word. -/
def Jumps (i : Instr) (e : Nat) (s : State) (y : Ladle) (pc : Nat) : Prop :=
  exec i s = .next (updEng e (fun _ => { y.age with pc := pc % 16384 }) s)

/-- Status bits that a result leaves as they were. -/
def Bank.Keeps (a b : Bank) (ns : List Nat) : Prop := ∀ n ∈ ns, b.flag n = a.flag n

/-- General register d takes a 32-bit value with its Z and N; nothing but general registers and ST differs (R261). -/
structure Bank.TakesD (a b : Bank) (d v : Nat) : Prop where
  value : b.dOf d = v % 2 ^ 32
  zero : b.flag St.z = decide (v % 2 ^ 32 = 0)
  negative : b.flag St.n = decide (2 ^ 31 ≤ v % 2 ^ 32)
  others : ∀ k, k ≠ d → b.dOf k = a.dOf k
  rest : b = { a with d := b.d, st := b.st }

/-- What an exact accumulator result leaves: saturated to 32 bits, or wrapped at 40 (R252). -/
def accLeaves (s : Bool) (t : Int) : Int := if s then sat t 32 else signed 40 (twos 40 t)

/-- The exact result saturates, or wraps (R252). -/
def accClamps (s : Bool) (t : Int) : Bool := s && decide (sat t 32 ≠ t)
def accWraps (s : Bool) (t : Int) : Bool := !s && decide (signed 40 (twos 40 t) ≠ t)

/-- Accumulator k takes an exact result with Z and N from its 40 bits, and V or SV sticks (R252, R261). -/
structure Bank.TakesAcc (a b : Bank) (k : Nat) (s : Bool) (t : Int) : Prop where
  value : b.accOf k = accLeaves s t
  zero : b.flag St.z = decide (accLeaves s t = 0)
  negative : b.flag St.n = decide (accLeaves s t < 0)
  saturated : b.flag St.sv = (a.flag St.sv || accClamps s t)
  wrapped : b.flag St.v = (a.flag St.v || accWraps s t)
  flags : a.Keeps b [St.c, St.im, St.rnd, St.ie]
  others : ∀ j, j ≠ k → b.acc.get j = a.acc.get j
  rest : b = { a with acc := b.acc, st := b.st }

/-- Accumulators take the exact results listed; `sv` says that a product has saturated (R252). Z and N stay. -/
structure Bank.Accumulates (a b : Bank) (s : Bool) (l : List (Nat × Int)) (sv : Bool) : Prop where
  values : ∀ p ∈ l, b.accOf p.1 = accLeaves s p.2
  saturated : b.flag St.sv = (a.flag St.sv || sv || l.any fun p => accClamps s p.2)
  wrapped : b.flag St.v = (a.flag St.v || l.any fun p => accWraps s p.2)
  flags : a.Keeps b [St.z, St.n, St.c, St.im, St.rnd, St.ie]
  others : ∀ j, (l.all fun p => p.1 != j) = true → b.acc.get j = a.acc.get j
  rest : b = { a with acc := b.acc, st := b.st, f := b.f, idx := b.idx }

/-- The moves of a format M instruction are legal, load different registers, and their addresses are aligned (R256, R257). -/
def Ladle.canMove (x : Ladle) (f : FmtM) : Bool :=
  match parseMove f.xm, parseMove f.ym with
  | some mx, some my => (mx.all fun m => decide (x.bank.idx.get m.i % 4 = 0)) && (my.all fun m => decide (x.bank.idx.get (4 + m.i) % 4 = 0)) &&
      mx.all fun m => my.all fun n => m.f != n.f
  | _, _ => false

/-- The feed and index registers after the moves of a format M instruction: each loads its word and advances its index. -/
structure Ladle.Moved (x : Ladle) (f : FmtM) (b : Bank) : Prop where
  x_loads : ∀ m ∈ (parseMove f.xm).join, b.f.get m.f = x.word false (x.bank.idx.get m.i) ∧
    b.idx.get m.i = x.advance m.i (x.stepOf m.i m.step) (x.bank.idx.get m.i)
  y_loads : ∀ m ∈ (parseMove f.ym).join, b.f.get m.f = x.word true (x.bank.idx.get (4 + m.i)) ∧
    b.idx.get (4 + m.i) = x.advance (4 + m.i) (x.stepOf (4 + m.i) m.step) (x.bank.idx.get (4 + m.i))
  feeds : ∀ k, ((parseMove f.xm).join.all fun m => m.f != k) = true → ((parseMove f.ym).join.all fun m => m.f != k) = true →
    b.f.get k = x.bank.f.get k
  indexes : ∀ k, ((parseMove f.xm).join.all fun m => m.i != k) = true → ((parseMove f.ym).join.all fun m => 4 + m.i != k) = true →
    b.idx.get k = x.bank.idx.get k

end Sys2Proof.Machine
end

