-- ==== Sys2Proof/Certificates/Slice0/Obligations.lean ====
section
/-!
DEFINITION. Statements about the model.
-/

open Sys2Proof Sys2Proof.Machine

/-- A step takes the command at the front of the queue and is `exec` of it at the state with the queue's rest; on an empty
queue it is one core cycle (the model's choice, log entry 1). -/
def Obligations.StepRunsTheFrontCommand : Prop :=
  (∀ (s : State) (i : Instr) (rest : List Instr), s.pending = i :: rest → step s = exec i (s.withPending rest)) ∧
  ∀ s : State, s.pending = [] → step s = .next (coreCycle s)

/-- Reset: the epoch is 1, no session is open, the host owns every window, boot stands at stage 0x0, MSI-X is disabled with
every vector masked, the TAP is in Test-Logic-Reset with IDCODE selected, no parameter differs from its master-pattern
value, and the flash, the key slots and the queue are empty (the blank flash is the model's choice, log entry 2). -/
def Obligations.ResetHoldsTheStatedValues : Prop :=
  let s := State.reset
  s.mbx.epoch = 1 ∧ s.mbx.session = none ∧ (∀ w, (s.win w).hold = .host ∧ (s.win w).handback = .none ∧ (s.win w).protoErr = false) ∧
  s.boot.stage = 0 ∧ s.boot.count = 0 ∧ s.boot.errCode = 0 ∧
  s.host.msixEnabled = false ∧ s.host.masked = 2 ^ 64 - 1 ∧ s.host.pba = 0 ∧ s.host.speed = 0 ∧ s.host.width = 0 ∧
  s.jtag.tap = .testLogicReset ∧ s.jtag.ir = 1 ∧ s.jtag.tdo = none ∧
  (∀ (p : ParamDef) (i : Nat), s.com p i = p.deflt i ∧ s.par p i = p.deflt i) ∧
  (∀ t, (s.tbase t).val = 0 ∧ (s.tbase t).isSet = false ∧ (s.tbase t).rate = 0) ∧
  (∀ k, (s.sec.slots.get k).usage = 0) ∧ (∀ b, s.flash.bank.get b = none) ∧ s.power.st = .run ∧ s.recast.jobs = [] ∧
  s.pending = []

/-- The invariant holds at reset. -/
def Obligations.InvariantHoldsAtReset : Prop := State.reset.Inv

/-- Every step keeps the invariant: whatever command stands in front, and in a core cycle, the epoch stays a 32-bit number
other than 0, the boot stage stays one of Table 2-5, every window keeps its canonical form, and the windows listed as armed are
those that stand armed. -/
def Obligations.InvariantKeptByEveryStep : Prop := ∀ s t : State, s.Inv → step s = .next t → t.Inv

/-- In a core cycle each of the twelve time bases advances by 0.625 ns scaled by its rate adjustment, in units of 2⁻⁴⁸ ns and
modulo the 80-bit format; its rate and its state do not move, and neither does anything but the time bases and the
configuration store's counters. -/
def Obligations.CoreCycleAdvancesTimeBases : Prop :=
  ∀ s : State, s.pending = [] →
    ∃ t, step s = .next t ∧ t.time.cycles = s.time.cycles + 1 ∧
      (∀ k, k < 12 → (t.tbase k).val = ((s.tbase k).val +
          (5 * 2 ^ 45 + 5 * 2 ^ 45 * (s.tbase k).rate / 1000000000000).toNat) % 2 ^ 112 ∧
        (t.tbase k).rate = (s.tbase k).rate ∧ (t.tbase k).isSet = (s.tbase k).isSet) ∧
      t.host = s.host ∧ t.mbx = s.mbx ∧ t.evt = s.evt ∧ t.flash = s.flash ∧ t.sec = s.sec ∧ t.boot = s.boot ∧ t.fw = s.fw ∧
      t.recast = s.recast ∧ t.power = s.power ∧ t.mgmt = s.mgmt ∧ t.jtag = s.jtag ∧ t.gpio = s.gpio ∧ t.radio = s.radio ∧
      t.beam = s.beam ∧ t.pkt = s.pkt ∧ t.toll = s.toll ∧ t.task = s.task ∧ t.dma = s.dma ∧ t.eth = s.eth ∧ t.wlan = s.wlan ∧
      t.pon = s.pon ∧ t.cvn = s.cvn ∧ t.free = s.free ∧ t.pending = []

/-- A fundamental reset, a hot reset, a function-level reset and a link-down reset the host endpoint only (R34, R560): the
session ends, nothing is armed or outstanding, staging is empty, every window that the device owned is the host's again,
and MSI-X is in its reset state; the link drops except in a function-level reset. Air, fibre, store and time keep running.
Training ends with a rate and a width of Table 2-1, and an unmasked vector sends the one message that its PBA bit held
(R41, R560). Both leave everything but the host port unchanged. -/
def Obligations.EndpointResetsAndTraining : Prop :=
  (∀ s : State, s.Inv →
     let fresh := fun (t : State) =>
       t.mbx.session = none ∧ t.mbx.armed = [] ∧ t.mbx.outstanding = [] ∧ t.cfg.staging = [] ∧
       (∀ w, w < 8 → (t.win w).hold = .host) ∧
       (∀ w c, w < 8 → (s.win w).hold = .command c → (t.win w).handback = .reclaimed) ∧
       t.host.msixEnabled = false ∧ t.host.masked = 2 ^ 64 - 1 ∧ t.host.pba = 0 ∧ t.host.sent = s.host.sent ∧
       t.mbx.epoch = s.mbx.epoch ∧
       t.radio = s.radio ∧ t.beam = s.beam ∧ t.pkt = s.pkt ∧ t.task = s.task ∧ t.eth = s.eth ∧ t.wlan = s.wlan ∧ t.pon = s.pon ∧
       t.cvn = s.cvn ∧ t.time = s.time ∧ t.sec = s.sec ∧ t.boot = s.boot ∧ t.flash = s.flash ∧ t.power = s.power
     let down := fun (t : State) => t.host.linkUp = false ∧ t.host.speed = 0 ∧ t.host.width = 0
     (s.host.perstLow = false → Answers (.fundamentalReset true) s fun t => fresh t ∧ down t ∧ t.host.perstLow = true) ∧
     (s.hostUp = true → Answers .hotReset s fun t => fresh t ∧ down t) ∧
     (s.hostUp = true → Answers .hostLinkDown s fun t => fresh t ∧ down t) ∧
     (s.hostUp = true → Answers .functionLevelReset s fun t => fresh t ∧ t.host.linkUp = true ∧ t.host.speed = s.host.speed)) ∧
  ((∀ (s : State) (speed width : Nat), s.boot.running = true → s.host.perstLow = false → s.host.linkUp = false →
     bit s.power.down 11 = false → speed ∈ [25, 50, 80, 160, 320] → width ∈ [1, 2, 4] →
     Answers (.hostLinkUp speed width) s fun t =>
       t.host.linkUp = true ∧ t.host.speed = speed ∧ t.host.width = width ∧ t = { s with host := t.host } ∧
       t.host.masked = s.host.masked ∧ t.host.pba = s.host.pba) ∧
   (∀ (s : State) (v : Nat), s.hostUp = true → v < 64 →
     Answers (.msixUnmask v) s fun t =>
       bit t.host.masked v = false ∧ bit t.host.pba v = false ∧ t.host.msixEnabled = true ∧
       t.host.sent = (if bit s.host.pba v then s.host.sent ++ [v] else s.host.sent) ∧ t = { s with host := t.host }))

/-- A chip reset ends the session, sets the epoch to 1 and increments boot_count (R39); the cause is the host's, the stage is
0x0, the windows are the host's, no parameter differs from its master-pattern value, and flash, OTP and the persistent log
survive. -/
def Obligations.ChipResetStartsAgain : Prop :=
  ∀ s : State, s.hostUp = true → Answers .chipReset s fun t =>
    t.mbx.session = none ∧ t.mbx.epoch = 1 ∧ t.boot.count = (s.boot.count + 1) % 65536 ∧ t.boot.cause = 2 ∧ t.boot.stage = 0 ∧
    (∀ w, (t.win w).hold = .host) ∧ (∀ (p : ParamDef) (i : Nat), t.par p i = p.deflt i) ∧ t.host.linkUp = false ∧
    t.flash.bank = s.flash.bank ∧ t.flash.loader = s.flash.loader ∧ t.sec.custRoot = s.sec.custRoot ∧ t.sec.svn = s.sec.svn ∧
    t.sec.revoked = s.sec.revoked ∧ t.sec.records = s.sec.records ∧ t.sec.slots = [] ∧ t.mgmt.log = s.mgmt.log ∧
    t.fw.selected = s.fw.selected ∧ t.pending = s.pending

/-- A host request for a device recast in RUN: the epoch advances and skips 0, staging is empty, no command is outstanding,
every window that held one returns RECLAIMED, and the device unit is in RESET with cause 1 (R62, R63, R502). -/
def Obligations.RecastDevReclaimsCommands : Prop :=
  ∀ s : State, s.hostUp = true → s.ready = true → s.recast.held = false → s.recast.jobs = [] → s.power.st = .run →
    s.mbx.armed = [] →
    Answers .recastDev s fun t =>
      t.mbx.epoch = (if s.mbx.epoch = 0xFFFFFFFF then 1 else s.mbx.epoch + 1) ∧ t.cfg.staging = [] ∧ t.mbx.outstanding = [] ∧
      t.recast.lastCause = 1 ∧ (∃ j ∈ t.recast.jobs, j.unit = ⟨2, 0, 0⟩ ∧ j.st = .reset) ∧ t.recasting = true ∧
      (∀ w c, w < 8 → (s.win w).hold = .command c → (t.win w).hold = .host ∧ (t.win w).handback = .reclaimed) ∧
      t.time = s.time ∧ t.boot = s.boot ∧ t.sec = s.sec ∧ t.flash = s.flash

/-- ARM, RECALL, PROTO_ERR_CLEAR and POST on a window that the host may use (R42 to R44): ARM with a session lends the
window, ARM without one returns it CLOSED at once, RECALL takes an armed window back, and a posted BYE ends the session and
comes back as a RESPONSE.
While the device owns window w, POST, ARM and a write into the window are ignored and set proto_err; so is RECALL on a
window that the host owns (R45). The message in the window, its owner and the session stay. -/
def Obligations.WindowDoorbellsHandOver : Prop :=
  (∀ (s : State) (w : Nat), s.hostUp = true → w < 8 → s.ready = true →
     ((s.win w).hold = .host → s.mbx.session.isSome = true → s.mbx.armed = [] → s.mbx.control = [] → s.evt.recs = [] →
       Answers (.arm w) s fun t => (t.win w).hold = .armed ∧ t.mbx.armed = [w] ∧ t.evt = s.evt ∧ (t.win w).seq = (s.win w).seq) ∧
     ((s.win w).hold = .host → s.mbx.session = none →
       Answers (.arm w) s fun t => (t.win w).hold = .host ∧ (t.win w).handback = .closed ∧ (t.win w).seq = ((s.win w).seq + 1) % 256) ∧
     ((s.win w).hold = .armed →
       Answers (.windowRecall w) s fun t =>
         (t.win w).hold = .host ∧ (t.win w).handback = .recalled ∧ (t.win w).seq = ((s.win w).seq + 1) % 256 ∧ w ∉ t.mbx.armed) ∧
     Answers (.protoErrClear w) s (fun t => (t.win w).protoErr = false ∧ (t.win w).hold = (s.win w).hold ∧ t.host = s.host ∧
       t.evt = s.evt ∧ t.cfg = s.cfg) ∧
     (∀ m : Message, Sendable 0x02 w m s → s.message w = messageBytes 0x02 m ++ List.replicate (4080 - m.payload.length) 0 →
       Answers (.post w) s fun t => t.mbx.session = none ∧ Response 0x02 w m .ok [] t ∧ t.cfg.staging = [])) ∧
  (∀ (s : State) (w : Nat), s.hostUp = true → w < 8 →
     let refused := fun (t : State) => (t.win w).protoErr = true ∧ (t.win w).hold = (s.win w).hold ∧
       (t.win w).bytes = (s.win w).bytes ∧ (t.win w).seq = (s.win w).seq ∧ t.mbx.session = s.mbx.session ∧
       t.mbx.armed = s.mbx.armed ∧ t.mbx.outstanding = s.mbx.outstanding ∧ t.evt = s.evt ∧ t.host = s.host ∧
       t.com Prm.hostProtoErr w = (satAdd 32 (s.com Prm.hostProtoErr w).toNat 1 : Nat)
     (s.owns w = true → Answers (.post w) s refused ∧ Answers (.arm w) s refused ∧
       ∀ (off : Nat) (b : List Byte), off < 0x1000 → Answers (.registerWrite (0x1000 * (w + 1) + off) b) s refused) ∧
     ((s.win w).hold = .host → Answers (.windowRecall w) s refused))

/-- A doorbell of an enabled ring sets its producer index, a free-running 16-bit count; that of a ring that is not enabled is
ignored and counts in HOST.ring_db_err (R40).
A write into a window that the host owns changes exactly the bytes written (R35, R45), and an aligned write of RXQ_DB's
register is that doorbell (Table 2-2). -/
def Obligations.DoorbellsAndRegisterWrites : Prop :=
  (∀ (s : State) (n producer : Nat), s.hostUp = true → n < 16 →
     let rings := fun (i : Instr) (k : Nat) =>
       (s.par Prm.dmaRingEnable k = 1 → Answers i s fun t =>
         (t.ring k).prod = producer % 65536 ∧ (t.ring k).cons = (s.ring k).cons ∧ t.cfg = s.cfg ∧ (∀ j, j ≠ k → t.ring j = s.ring j)) ∧
       (s.par Prm.dmaRingEnable k ≠ 1 → Answers i s fun t =>
         t.dma = s.dma ∧ t.com Prm.hostRingDbErr k = (satAdd 32 (s.com Prm.hostRingDbErr k).toNat 1 : Nat))
     rings (.rxqDb n producer) n ∧ rings (.txqDb n producer) (16 + n)) ∧
  ((∀ (s : State) (w off : Nat) (b : List Byte), s.hostUp = true → w < 8 → (s.win w).hold = .host → off + b.length ≤ 4096 → off < 4096 →
     Answers (.registerWrite (0x1000 * (w + 1) + off) b) s fun t =>
       (∀ a, (t.win w).bytes.get a = if off ≤ a ∧ a < off + b.length then b.getD (a - off) 0 else (s.win w).bytes.get a) ∧
       (∀ v, v ≠ w → t.win v = s.win v) ∧ (t.win w).hold = .host ∧ t.cfg = s.cfg ∧ t.evt = s.evt) ∧
   (∀ (s : State) (n v : Nat), s.hostUp = true → n < 16 → v < 2 ^ 32 → s.par Prm.dmaRingEnable n = 1 →
     Answers (.registerWrite (0x100 + 4 * n) (le 4 v)) s fun t => (t.ring n).prod = v % 65536 ∧ t.mbx = s.mbx))

/-- A chunk of a boot push that follows the bytes already received is taken, and the window comes back with status OK in bytes
16 and 17 (R67, Table 2-24).
The batch timer: once the oldest waiting record has waited evt_batch_us, the records of one epoch go out in the first armed
window as a LOG message and leave their rings (R59, R60). -/
def Obligations.PushedChunksAndBatches : Prop :=
  (∀ (s : State) (image total : Nat) (data : List Byte),
     s.hostUp = true → s.boot.source = 1 → s.boot.stage = image → (image = 1 ∨ image = 2) → s.boot.loaderRuns = decide (image = 2) →
     (s.win 0).hold = .host → data ≠ [] → data.length ≤ 4064 → s.boot.push.bytes.length + data.length ≤ total → total ≤ 2 ^ 19 →
     (s.boot.push.bytes = [] ∨ s.boot.push.total = total) →
     Answers (.bootPush (le 4 0x48535550 ++ le 1 image ++ le 1 0 ++ le 2 data.length ++ le 4 s.boot.push.bytes.length ++ le 4 total ++
         le 16 0 ++ data)) s fun t =>
       t.boot.push.bytes = s.boot.push.bytes ++ data ∧ t.boot.push.total = total ∧ fieldAt (t.message 0) 16 2 = 0 ∧
       (t.win 0).hold = .host ∧ (t.win 0).handback = .response ∧ t.boot.stage = image ∧ t.flash = s.flash) ∧
  (∀ (s : State) (w : Nat) (r : EvRec), s.ready = true → w < 8 → (s.win w).hold = .armed → s.mbx.armed = [w] → s.mbx.control = [] →
     s.evt.recs = [r] → s.delivers r.cls = true → r.time / 65536 + s.parN Prm.hostEvtBatchUs 0 * 1000 ≤ s.now →
     Answers .eventBatchTimeout s fun t =>
       t.evt.recs = [] ∧ (t.win w).hold = .host ∧ (t.win w).handback = .event ∧ t.mbx.armed = [] ∧
       fieldAt (t.message w) 2 2 = 0x8004 ∧ fieldAt (t.message w) 12 4 = r.epoch % 2 ^ 32 ∧ fieldAt (t.message w) 16 2 = 1 ∧
       fieldAt (t.message w) 32 2 = r.code % 65536)

/-- HELLO with a range that contains 3.4 opens a session of 3.4 and answers with the version and the capabilities; one whose
range ends below 2.0 leaves no session; BYE ends the session. Each discards the staging sets (R51 to R53, R71). -/
def Obligations.HelloOpensAndByeCloses : Prop :=
  ∀ (s : State) (w : Nat) (m : Message),
    (Sendable 1 w m s → fieldAt m.payload 4 4 = 0 →
      let lo := fieldAt m.payload 0 1 * 256 + fieldAt m.payload 1 1
      let hi := fieldAt m.payload 2 1 * 256 + fieldAt m.payload 3 1
      (lo ≤ 0x304 → 0x304 ≤ hi → Answers (.hello w m) s fun t =>
        t.mbx.session = some (3, 4) ∧ t.cfg.staging = [] ∧ t.mbx.epoch = s.mbx.epoch ∧ Mail s t ∧
        Response 1 w m .ok (le 1 3 ++ le 1 4 ++ le 1 2 ++ le 1 0 ++ le 1 3 ++ le 1 4 ++ le 2 0 ++ le 8 s.capabilities) t) ∧
      (hi < 0x200 → Answers (.hello w m) s fun t =>
        t.mbx.session = none ∧ t.cfg.staging = [] ∧ Mail s t ∧
        Response 1 w m .badVersion (le 4 0x20000 ++ le 1 3 ++ le 1 4 ++ le 2 0 ++ le 8 s.capabilities) t)) ∧
    (Sendable 2 w m s → Answers (.bye w m) s fun t =>
      t.mbx.session = none ∧ t.cfg.staging = [] ∧ t.mbx.epoch = s.mbx.epoch ∧ Mail s t ∧ Response 2 w m .ok [] t)

/-- PARAM_GET answers the committed value of an RW or RC item, and a read RC item then reads 0; PARAM_SET stages a value and
leaves every committed value; PARAM_COMMIT of the HOST group makes the staged evt_batch_us the committed one; PARAM_ABORT
empties the staging sets that it names and no other, answers ZERO where every one of them is already empty, and leaves the
commits that wait (R80). -/
def Obligations.ParameterCommandsReadStageAndCommit : Prop :=
  ∀ (s : State) (w : Nat) (m : Message),
    (∀ (p : ParamDef) (i : Nat), Sendable 0x10 w m s → Prm.find p.id = some p → p.access = .rw ∨ p.access = .rc → paramInst p i = true →
      s.stoppedUnits = [] → m.payload = le 2 1 ++ le 6 0 ++ le 4 p.id ++ le 2 i ++ le 2 0 → p.id < 2 ^ 32 → i < 0xFFFF →
      p.id ≠ Prm.hostLastStatus.id →
      Answers (.paramGet w m) s fun t => Mail s t ∧ t.com p i = (if p.access = .rc then 0 else s.com p i) ∧ t.cfg.staging = s.cfg.staging ∧
        ∃ flags, Response 0x10 w m .ok (le 2 1 ++ le 6 0 ++ le 4 p.id ++ le 2 i ++ le 2 flags ++ le 8 (ParamDef.encode (s.com p i))) t) ∧
    (∀ (p : ParamDef) (i : Nat) (v : Int), Sendable 0x11 w m s → Prm.find p.id = some p → p.access = .rw → paramInst p i = true →
      (v = 0 ∨ p.inRange v = true) → p.decode (ParamDef.encode v) = v → p.id < 2 ^ 32 → i < 0xFFFF → s.cfg.staging.length < 4096 →
      m.payload = le 2 1 ++ le 6 0 ++ le 4 p.id ++ le 2 i ++ le 2 0 ++ le 8 (ParamDef.encode v) →
      Answers (.paramSet w m) s fun t => Mail s t ∧ Response 0x11 w m .ok [] t ∧
        t.cfg.staging = (s.cfg.staging.filter fun e => !(e.id == p.id && e.inst == i)) ++ [⟨p.id, i, v⟩] ∧
        t.cfg.par = (s.setPar Prm.hostLastStatus w 0).cfg.par ∧ t.cfg.old = s.cfg.old) ∧
    (∀ v : Int, Sendable 0x12 w m s → m.payload = [2, 0, 0, 0] → s.stagingOf 2 = [⟨Prm.hostEvtBatchUs.id, 0, v⟩] → 0 ≤ v → v ≤ 10000 →
      s.cfg.commits = [] →
      Answers (.paramCommit w m) s fun t => Mail s t ∧ Response 0x12 w m .ok [] t ∧ t.com Prm.hostEvtBatchUs 0 = v ∧
        t.par Prm.hostEvtBatchUs 0 = (s.cfg.old.get (parKey Prm.hostEvtBatchUs.id 0)).getD v ∧
        t.cfg.staging = s.cfg.staging.filter fun e => decide (e.id / 2 ^ 24 ≠ 2)) ∧
    (∀ g : Nat, Sendable 0x13 w m s → m.payload = le 1 g ++ le 3 0 → (1 ≤ g ∧ g ≤ 24) ∨ g = 0xFF →
      let named := fun (e : Staged) => decide (g = 0xFF ∨ e.id / 2 ^ 24 = g)
      Answers (.paramAbort w m) s fun t => Mail s t ∧ t.cfg.staging = s.cfg.staging.filter (fun e => !named e) ∧
        Response 0x13 w m (if s.cfg.staging.any named then .ok else .zero) [] t ∧ t.cfg.commits = s.cfg.commits)

/-- Tables with two pages (R82 to R85), for five tables of the packet path: TABLE_WRITE changes one entry of the standby page
and nothing of the active one, TABLE_READ returns an entry of the page asked for, and TABLE_COMMIT exchanges the pages. -/
def Obligations.TableCommandsUseTwoPages : Prop :=
  ∀ d ∈ [Tbl.pktItable, Tbl.pktHashKey, Tbl.pktNexthop, Tbl.pktMcast, Tbl.pktDscpMap], ∀ (s : State) (w i : Nat) (m : Message),
    i < d.insts → s.stoppedUnits = [] → (s.tabState d.id i).switching = false → (s.tabState d.id i).copying = false →
    (∀ (k : Nat) (b : List Byte), Sendable 0x20 w m s → k < d.entries i → b.length = d.size →
      m.payload = le 4 d.id ++ le 2 i ++ le 2 0 ++ le 4 k ++ le 2 1 ++ le 2 d.size ++ b →
      Answers (.tableWrite w m) s fun t => Mail s t ∧ Response 0x20 w m .ok [] t ∧ t.standbyEntry d i k = b ∧
        (∀ j, j ≠ k → t.standbyEntry d i j = s.standbyEntry d i j) ∧ t.cfg.active = s.cfg.active) ∧
    (∀ k page : Nat, Sendable 0x21 w m s → k < d.entries i → page < 2 →
      m.payload = le 4 d.id ++ le 2 i ++ le 2 page ++ le 4 k ++ le 2 1 ++ le 2 d.size →
      Answers (.tableRead w m) s fun t => Mail s t ∧ t.cfg.active = s.cfg.active ∧ t.cfg.standby = s.cfg.standby ∧
        Response 0x21 w m .ok (m.payload ++ if page = 1 then s.standbyEntry d i k else s.entry d i k) t) ∧
    (Sendable 0x22 w m s → m.payload = le 4 d.id ++ le 2 i ++ le 10 0 → (s.tabState d.id i).cid = none →
      Answers (.tableCommit w m) s fun t => Mail s t ∧ Response 0x22 w m .ok [] t ∧ (t.tabState d.id i).copying = true ∧
        ∀ k, k < d.entries i → t.entry d i k = s.standbyEntry d i k ∧ t.standbyEntry d i k = s.entry d i k)

/-- KEY_INSTALL of an unwrapped, volatile key fills an empty host slot with a key of its usage, and KEY_RETIRE empties a slot
that nothing names; no other slot changes (R474, R475, Table 16-4). -/
def Obligations.KeyCommandsFillAndEmptySlots : Prop :=
  ∀ (s : State) (w slot : Nat) (m : Message), slot < 3840 →
    (∀ (usage : Nat) (key : List Byte) (flashOk : Bool), Sendable 0x30 w m s → 1 ≤ usage → usage ≤ 8 → key.length = keyLength usage →
      (s.slot slot).usage = 0 → m.payload = le 2 slot ++ le 1 usage ++ le 3 0 ++ le 1 key.length ++ le 1 0 ++ key →
      Answers (.keyInstall w m flashOk) s fun t => Response 0x30 w m .ok [] t ∧ t.slot slot = { usage := usage, key := key } ∧
        (∀ k, k ≠ slot → t.slot k = s.slot k) ∧ t.sec.records = s.sec.records ∧ t.sec.custRoot = s.sec.custRoot ∧ t.boot = s.boot) ∧
    (Sendable 0x31 w m s → (s.slot slot).usage ≠ 0 → s.slotUsers slot = [] → s.flash.held = false → m.payload = le 2 slot ++ le 2 0 →
      Answers (.keyRetire w m) s fun t => Response 0x31 w m .ok [] t ∧ t.slot slot = {} ∧ t.sec.records.get slot = none ∧
        (∀ k, k ≠ slot → t.slot k = s.slot k ∧ t.sec.records.get k = s.sec.records.get k))

/-- FW_STAGE takes the next chunk of an image and answers PENDING; FW_ACTIVATE of a staged image selects the other bank as a
trial and sets the reset 10 ms later (R505, R506); PATTERN_LOAD and LADLE_LOAD take the next chunk of theirs (R94, R284). -/
def Obligations.ImageCommandsTakeChunks : Prop :=
  ∀ (s : State) (w offset total : Nat) (m : Message) (data : List Byte), data ≠ [] → data.length ≤ 4064 → offset + data.length ≤ total →
    (Sendable 0x50 w m s → s.compat = false → s.pendingCount < 64 → s.boot.source ≠ 1 → s.fw.trial = false → s.flash.held = false →
      total ≤ 2 ^ 23 → s.fw.chunks.bytes.length = offset → (offset = 0 ∨ s.fw.chunks.total = total) →
      m.payload = le 4 0 ++ le 4 offset ++ le 4 total ++ le 4 0 ++ data →
      Answers (.fwStage w m) s fun t => Response 0x50 w m .pending [] t ∧ t.fw.work = s.fw.work ++ [{ cid := some s.mbx.nextCid, erase := decide (offset = 0) }] ∧
        t.fw.chunks = { total := total, bytes := s.fw.chunks.bytes ++ data } ∧ (offset = 0 → t.bankImage s.otherBank = []) ∧
        (s.boot.bank ≠ s.otherBank → t.bankImage s.boot.bank = s.bankImage s.boot.bank)) ∧
    (Sendable 0x51 w m s → s.boot.source ≠ 1 → s.flash.held = false → s.fw.staged = true → s.fw.trial = false → m.payload = le 4 0 →
      Answers (.fwActivate w m) s fun t => Response 0x51 w m .ok [] t ∧ t.fw.selected = s.otherBank ∧ t.fw.trial = true ∧
        t.fw.staged = false ∧ t.fw.resetAt = some (s.now + 10000000) ∧ t.flash = s.flash ∧ t.boot = s.boot) ∧
    (Sendable 0x61 w m s → total ≤ 2 ^ 20 → s.cfg.patChunks.bytes.length = offset → (offset = 0 ∨ s.cfg.patChunks.total = total) →
      m.payload = le 4 0 ++ le 4 offset ++ le 4 total ++ le 4 0 ++ data →
      Answers (.patternLoad w m) s fun t => Mail s t ∧ Response 0x61 w m .ok [] t ∧
        t.cfg.patChunks = { total := total, bytes := s.cfg.patChunks.bytes ++ data } ∧ t.cfg.active = s.cfg.active) ∧
    (∀ slot mask : Nat, Sendable 0x80 w m s → slot < 64 → 0 < mask → mask < 2 ^ 32 → s.stoppedUnits = [] → total ≤ 2 ^ 18 →
      s.task.chunks.bytes.length = offset → (offset = 0 ∨ s.task.chunks.total = total) →
      m.payload = le 1 0 ++ le 1 slot ++ le 2 0 ++ le 4 mask ++ le 4 offset ++ le 4 total ++ data →
      Answers (.ladleLoad w m) s fun t => Response 0x80 w m .ok [] t ∧ t.task.chunks = { total := total, bytes := s.task.chunks.bytes ++ data } ∧
        t.task.slot = s.task.slot ∧ t.task.install = s.task.install)

/-- PATTERN_SAVE with an HMAC starts the write of an image of sequence 1 where both copies are blank (R96); POWER_REQUEST from
RUN to STANDBY begins the entry (R510); TRACE_READ returns the one record of the scheduler ring (R280); SNAPSHOT returns the
statistics of the ports that it names, and clears them where it asks (R418). -/
def Obligations.SaveStandbyTraceAndSnapshot : Prop :=
  ∀ (s : State) (w : Nat) (m : Message),
    (Sendable 0x60 w m s → s.compat = false → s.pendingCount < 64 → m.payload = le 4 1 → s.patternKey (s.comN Prm.secPatternKeySlot 0) = true →
      s.patternBusy = false → s.copy 0 = none → s.copy 1 = none → s.savedParams.flatten.length + s.savedTables.flatten.length ≤ 1000000 →
      Answers (.patternSave w m) s fun t => Response 0x60 w m .pending [] t ∧
        t.cfg.patWrite = some { copy := 0, image := s.buildImage 1 true, cid := some s.mbx.nextCid } ∧ t.copy 0 = none ∧ t.copy 1 = none ∧
        t.boot = s.boot ∧ t.cfg.active = s.cfg.active) ∧
    (∀ ms : Nat, Sendable 0x70 w m s → s.compat = false → s.pendingCount < 64 → m.payload = le 4 1 ++ le 4 ms → ms < 2 ^ 32 →
      s.power.st = .run → s.power.cid = none → s.power.retryFrom = none → s.power.down = 0 → s.recasting = false →
      Answers (.powerRequest w m) s fun t => Response 0x70 w m .pending [] t ∧ t.power.st = .entering ∧ t.power.target = .standby ∧
        t.power.cid = some s.mbx.nextCid ∧ t.power.sleepMs = ms ∧ t.power.block = 0 ∧ t.time = s.time ∧ t.radio = s.radio ∧ t.dma = s.dma) ∧
    (∀ (n : Nat) (r : TraceRec), Sendable 0x90 w m s → 1 ≤ n → n ≤ 254 → s.stoppedUnits = [] → s.task.trace = [r] → r.seq < 0xFFFFFFFF →
      m.payload = le 1 1 ++ le 1 0 ++ le 2 n ++ le 4 0xFFFFFFFF →
      Answers (.traceRead w m) s fun t => Mail s t ∧
        Response 0x90 w m .ok (le 2 1 ++ le 2 0 ++ le 4 r.seq ++ le 4 ((r.seq + 1) % 0xFFFFFFFF) ++ le 4 0 ++ schedBytes r) t) ∧
    (∀ mask clear : Nat, Sendable 0xA0 w m s → 1 ≤ mask → mask < 16 → clear < 2 → s.stoppedUnits = [] →
      m.payload = le 1 mask ++ le 1 clear ++ le 6 0 →
      Answers (.snapshot w m) s fun t =>
        Response 0xA0 w m .ok (le 10 (s.tb80 0) ++ le 1 mask ++ le 5 0 ++ (pick 4 fun n => bit mask n).flatMap fun n =>
          (List.range 32).flatMap fun i => le 8 ((s.port n).stats.get i)) t ∧
        (∀ n, n < 4 → (t.port n).stats = if clear = 1 ∧ bit mask n = true then [] else (s.port n).stats))

/-- The store commands (R402 to R407): STORE_INFO reports both drives, STORE_CREATE makes an OPEN object, STORE_INGEST binds a
mark, STORE_STAT reports an object, and STORE_WRITE, STORE_SEAL, STORE_DELETE and STORE_READ answer PENDING and start a job on
the object that they name; the drives, the packet path, the keys and every other job stay as they are. -/
def Obligations.StoreCommandsCreateAndStart : Prop :=
  ∀ (s : State) (w k : Nat) (m : Message), s.stoppedUnits = [] → s.compat = false → s.pendingCount < 64 →
    let p := m.payload
    let others := fun (t : State) => t.dma.drive = s.dma.drive ∧ t.dma.sram = s.dma.sram ∧ t.eth = s.eth ∧ t.pkt = s.pkt ∧ t.sec = s.sec
    let started := fun (op : Nat) (t : State) (j : StoreJob) =>
      Response op w m .pending [] t ∧ t.dma.jobs = s.dma.jobs ++ [{ j with cid := s.mbx.nextCid, key := k, since := s.now }] ∧ others t
    (Sendable 0x40 w m s → Answers (.storeInfo w m) s fun t => t.dma = s.dma ∧
      Response 0x40 w m .ok ([0, 1].flatMap fun d =>
        le 1 (s.drive d).st.code ++ le 3 0 ++ le 4 (s.extentsTotal d) ++ le 4 (s.extentsFree d) ++ le 4 (s.objsOn d).length) t) ∧
    (∀ d max : Nat, Sendable 0x41 w m s → p = le 16 k ++ le 8 max ++ le 1 d ++ le 7 0 → 0 < k → k < 2 ^ 128 → 0 < max → max ≤ 2 ^ 32 →
      s.obj? k = none → d < 2 → s.driveReady d = true → extentsFor max ≤ s.extentsFree d → s.dma.objs.length < 256 →
      Answers (.storeCreate w m) s fun t => Response 0x41 w m .ok [] t ∧ others t ∧ t.dma.jobs = s.dma.jobs ∧
        t.dma.objs = s.dma.objs ++ [{ key := k, drive := d, max := max }]) ∧
    (∀ o : Obj, storeKey p = k → 0 < k → s.obj? k = some o → s.driveReady o.drive = true → (∀ j ∈ s.dma.jobs, j.key ≠ k) →
      (∀ a n : Nat, Sendable 0x42 w m s → o.st = .open_ → 0 < n → n < 2 ^ 32 → a < 2 ^ 64 → o.data.length + n ≤ o.max → o.max ≤ 2 ^ 32 →
        p.drop 16 = le 8 o.data.length ++ le 2 1 ++ le 6 0 ++ le 8 a ++ le 4 n ++ le 4 0 →
        Answers (.storeWrite w m) s fun t => t.dma.objs = s.dma.objs ∧
          started 0x42 t { cid := 0, op := .write, key := 0, off := o.data.length, len := n, segs := [(a, n)] }) ∧
      (∀ mark : Nat, Sendable 0x43 w m s → o.st = .open_ → p.drop 16 = le 2 mark ++ le 6 0 → mark < 2 ^ 16 → s.dma.bind = [] →
        Answers (.storeIngest w m) s fun t => Response 0x43 w m .ok [] t ∧ others t ∧ t.dma.bind = [{ mark := mark, key := k, payload := false }]) ∧
      (Sendable 0x44 w m s → o.st = .open_ → o.data ≠ [] → Answers (.storeSeal w m) s fun t => t.dma.objs = s.dma.objs ∧
        started 0x44 t { cid := 0, op := .seal_, key := 0 }) ∧
      (Sendable 0x45 w m s → o.st = .open_ ∨ o.st = .sealed ∨ o.st = .lost → Answers (.storeDelete w m) s fun t =>
        started 0x45 t { cid := 0, op := .delete, key := 0 } ∧ (t.obj? k).map (·.st) = some .deleting ∧ ∀ b ∈ t.dma.bind, b.key ≠ k) ∧
      (Sendable 0x46 w m s → Answers (.storeStat w m) s fun t => t.dma = s.dma ∧
        Response 0x46 w m .ok (le 1 o.st.code ++ le 1 o.drive ++ le 2 0 ++ le 4 0 ++ le 8 o.data.length ++ le 8 o.max ++ le 8 (o.sealedAt - 1)) t) ∧
      (∀ off len host : Nat, Sendable 0x47 w m s → o.st = .sealed → 0 < len → off + len ≤ o.data.length → o.data.length ≤ 2 ^ 32 → host < 2 ^ 64 →
        p.drop 16 = le 8 off ++ le 8 len ++ le 8 host →
        Answers (.storeRead w m) s fun t => t.dma.objs = s.dma.objs ∧
          started 0x47 t { cid := 0, op := .read, key := 0, off := off, len := len, host := host }))

/-- The splices and STORE_CANCEL (R404, R405, R407): a splice of a range of a sealed object starts with the template and the
pace that it names, and a cancelled READ ends at once. -/
def Obligations.SplicesStartAndCancelEnds : Prop :=
  ∀ (s : State) (w k : Nat) (m : Message) (o : Obj), s.stoppedUnits = [] → s.compat = false → s.pendingCount < 64 →
    let p := m.payload
    (∀ tcp : Bool, Sendable (if tcp then 0x48 else 0x49) w m s → storeKey p = k → 0 < k → s.obj? k = some o → s.driveReady o.drive = true →
      o.st = .sealed → p.length = 56 + fieldAt p 35 1 → (if tcp then 54 else 42) ≤ fieldAt p 35 1 → fieldAt p 35 1 ≤ 128 →
      (if tcp then 64 else 16) ≤ fieldAt p 36 2 → fieldAt p 36 2 ≤ 9000 → fieldAt p 38 2 = 0 → fieldAt p 46 10 = 0 →
      templateOk (bytesAt p 56 (fieldAt p 35 1)) tcp = true →
      (if tcp then fieldAt p 34 1 ≤ 7 ∧ fieldAt p 32 2 < 17408 else fieldAt p 34 1 = 0 ∧ fieldAt p 32 2 < 4096) →
      0 < fieldAt p 24 8 → fieldAt p 16 8 + fieldAt p 24 8 ≤ o.data.length →
      Answers (if tcp then .storeSpliceTcp w m else .storeSpliceMcast w m) s fun t =>
        Response (if tcp then 0x48 else 0x49) w m .pending [] t ∧ t.dma.objs = s.dma.objs ∧ t.pkt = s.pkt ∧
        t.dma.jobs = s.dma.jobs ++ [
          { cid := s.mbx.nextCid
            op := if tcp then .spliceTcp else .spliceMcast
            key := k
            off := fieldAt p 16 8
            len := fieldAt p 24 8
            dest := fieldAt p 32 2
            tid := fieldAt p 34 1
            mss := fieldAt p 36 2
            rate := fieldAt p 40 4
            mark := fieldAt p 44 2
            template := bytesAt p 56 (fieldAt p 35 1)
            since := s.now }]) ∧
    (∀ (c : Outstanding) (j : StoreJob), Sendable 0x4A w m s → p = le 4 c.tag ++ le 4 0 → c.tag < 2 ^ 32 → s.mbx.outstanding = [c] →
      c.pending = true → s.dma.jobs = [j] → j.cid = c.cid → j.op = .read →
      Answers (.storeCancel w m) s fun t => Response 0x4A w m .ok [] t ∧ t.dma.jobs = [] ∧ t.dma.objs = s.dma.objs ∧
        ∃ res, t.mbx.control = s.mbx.control ++ [.complete c.cid c.tag c.opcode 0 res])

/-- A unit of the Ethernet group that reaches its safe point takes the committed values (R77); a page that waits switches at
its safe point (R87), and the copy of the new active page makes the pages equal (R83). -/
def Obligations.SafePointsTakeValuesAndPages : Prop :=
  (∀ (s : State) (n : Nat) (c : Commit), n < 4 → s.cfg.commits = [c] → c.left = [(0x12, n)] → s.cfg.tables = [] →
    Answers (.safePointApply 0x12 n) s fun t => t.cfg.commits = [] ∧ Mail s t ∧
      ∀ p : ParamDef, Prm.find p.id = some p → p.group = 0x12 → p.n = 4 → t.par p n = s.com p n ∧ t.com p n = s.com p n) ∧
  ∀ d ∈ [Tbl.pktItable, Tbl.pktHashKey, Tbl.pktNexthop, Tbl.pktMcast, Tbl.pktDscpMap], ∀ (s : State) (i : Nat), i < d.insts →
    ((s.tabState d.id i).switching = true → s.cfg.commits = [] → s.cfg.old = [] →
      Answers (.tablePageSwitch d.id i) s fun t => (t.tabState d.id i).switching = false ∧ (t.tabState d.id i).copying = true ∧ Mail s t ∧
        ∀ k, k < d.entries i → t.entry d i k = s.standbyEntry d i k ∧ t.standbyEntry d i k = s.entry d i k) ∧
    ((s.tabState d.id i).copying = true →
      Answers (.standbyCopyDone d.id i) s fun t => (t.tabState d.id i).copying = false ∧ t.cfg.active = s.cfg.active ∧ Mail s t ∧
        ∀ k, k < d.entries i → t.standbyEntry d i k = s.entry d i k)

/-- The end of a Pattern write stores the image where it was read back and validates, else the region stays as it was (R94,
R96); the burn of a customer root that has been read back is the root (R472); pair A counts HEARTBEAT (R489). -/
def Obligations.WritesBurnsAndBeatsEnd : Prop :=
  (∀ (s : State) (good : Bool) (x : PatternWrite), s.cfg.patWrite = some x → s.flash.held = false →
    Answers (.patternFlashWriteDone good) s fun t => t.cfg.patWrite = none ∧
      t.flash.pattern.get x.copy = (if good = true ∧ (validate true x.image s).reason = 0 then some x.image else s.flash.pattern.get x.copy) ∧
      (∀ k, k ≠ x.copy → t.flash.pattern.get k = s.flash.pattern.get k) ∧ t.flash.bank = s.flash.bank ∧ t.boot = s.boot) ∧
  (∀ (s : State) (k : Nat), (s.sec.burning.get k).isSome = true →
    Answers (.rootBurnDone k) s fun t => t.sec.custRoot.get k = some (s.standbyEntry Tbl.secCustRoot k 0) ∧ t.sec.burning.get k = none ∧
      (∀ j, j ≠ k → t.sec.custRoot.get j = s.sec.custRoot.get j) ∧ t.sec.slots = s.sec.slots ∧ t.sec.revoked = s.sec.revoked ∧ t.flash = s.flash) ∧
  (∀ s : State, s.mgmtRuns = true → s.mgmt.pairStopped.get 0 = false →
    Answers .heartbeatTick s fun t => t.boot.heartbeat = (s.boot.heartbeat + 1) % 2 ^ 32 ∧ t.boot.beatAt = s.now ∧
      t = { s with boot := t.boot } ∧ t.boot.stage = s.boot.stage ∧ t.boot.count = s.boot.count)

/-- The states of a lane (Table 4-4, R107 to R110, R119): PLL lock or its timeout, clock recovery and its timeout, the TRAIN
timeout, the end of FAULT, loss of the recovered clock, and the wake timeout of a lane that left DEEP. Each changes the one
lane, and no block but the radio.
An Ethernet lane reaches UP with PCS lock, falls back to ALIGN with its loss, and turns its receive sense while auto_polarity
is on (Table 4-4, R110). An Irwick lane in ALIGN reaches TRAIN with its third valid marker in one sense, one in TRAIN reaches UP
with the second marker that echoes its own lane, and one in UP falls back to ALIGN with the fourth miss (R106, R107). -/
def Obligations.LanesFollowTheTableAndTrain : Prop :=
  (∀ (s : State) (n : Nat),
     let kept := fun (t : State) => Mail { s with radio := t.radio } t ∧ ∀ k, k ≠ n → t.lane k = s.lane k
     let starts := n < 20 ∧ s.lanePowered n = true ∧ (s.lane n).st = .down ∧ s.par Prm.laneEnable n = 1 ∧ s.par Prm.lanePower n = 0
     (starts → Answers (.lanePllLock n) s fun t =>
       (t.lane n).st = .acquire ∧ (t.lane n).txInv = false ∧ (t.lane n).rxInv = false ∧ t.cfg = s.cfg ∧ t.evt = s.evt ∧ kept t) ∧
     (starts → Answers (.lanePllTimeout n) s fun t => (t.lane n).st = .fault ∧ kept t) ∧
     ((s.lane n).st = .acquire → Answers (.laneCdrLock n) s fun t => (t.lane n).st = .align ∧ (t.lane n).good = 0 ∧ t.cfg = s.cfg ∧ kept t) ∧
     ((s.lane n).st = .acquire → Answers (.laneAcqTimeout n) s fun t => t.radio = s.radio ∧ t.evt = s.evt ∧
       t.com Prm.laneAcqRetry n = (satAdd Prm.laneAcqRetry.width (s.com Prm.laneAcqRetry n).toNat 1 : Nat) ∧ kept t) ∧
     ((s.lane n).st = .train → Answers (.laneTrainTimeout n) s fun t => (t.lane n).st = .fault ∧ kept t) ∧
     ((s.lane n).st = .fault → Answers (.laneFaultExpiry n) s fun t => (t.lane n).st = .acquire ∧ t.cfg = s.cfg ∧ kept t) ∧
     ((s.lane n).st = .align ∨ (s.lane n).st = .up → Answers (.laneClockLoss n) s fun t => (t.lane n).st = .acquire ∧ kept t) ∧
     ((s.lane n).deepExit = true → Answers (.laneWakeTimeout n) s fun t =>
       (t.lane n).deepExit = false ∧ (t.lane n).st = (s.lane n).st ∧ kept t)) ∧
  (∀ (s : State) (n : Nat),
     let kept := fun (t : State) => Mail { s with radio := t.radio } t ∧ ∀ k, k ≠ n → t.lane k = s.lane k
     (16 ≤ n → (s.lane n).st = .align → Answers (.lanePcsLock n) s fun t => (t.lane n).st = .up ∧ kept t) ∧
     (16 ≤ n → (s.lane n).st = .up → Answers (.lanePcsLoss n) s fun t => (t.lane n).st = .align ∧ kept t) ∧
     (16 ≤ n → (s.lane n).st = .align → s.par Prm.laneAutoPolarity n = 1 → Answers (.lanePolarityRetry n) s fun t =>
       (t.lane n).rxInv = !(s.lane n).rxInv ∧ (t.lane n).st = .align ∧ (t.lane n).txInv = (s.lane n).txInv ∧ kept t) ∧
     (n < 16 → (s.lane n).eqRx = (s.lane n).rxInv →
       (∀ (v echo : Nat) (inverted inv : Bool), v < 2 ^ 40 → readMarker v = some (inverted, echo, inv) →
         ((s.lane n).st = .align → (s.lane n).good = 2 → (s.lane n).sense = inverted → (inverted = false ∨ s.par Prm.laneAutoPolarity n = 0) →
           Answers (.laneMarkerRx n (some v)) s fun t => (t.lane n).st = .train ∧ t.cfg = s.cfg ∧ kept t) ∧
         ((s.lane n).st = .train → (s.lane n).last = some (echo, inv) → echo = n → s.claimed n n = false →
             (inv = false ∨ s.par Prm.laneAutoPolarity n = 0) →
           Answers (.laneMarkerRx n (some v)) s fun t => (t.lane n).st = .up ∧ (t.lane n).txLane = none ∧ (t.lane n).holding = true ∧ kept t)) ∧
       ((s.lane n).st = .up → (s.lane n).miss = 3 → Answers (.laneMarkerRx n none) s fun t => (t.lane n).st = .align ∧ kept t) ∧
       ((s.lane n).st = .up → (s.lane n).miss < 3 → Answers (.laneMarkerRx n none) s fun t =>
         (t.lane n).st = .up ∧ (t.lane n).miss = (s.lane n).miss + 1 ∧ t.cfg = s.cfg ∧ t.evt = s.evt ∧ kept t)))

/-- A codeword of RS(544,514) with up to 15 symbols in error is corrected and counted, one with more is uncorrectable (R104); a
marker, a control word, a precoded sequence and a scrambled frame are read as they were sent (R102, R103, R105, R125, R129). -/
def Obligations.CodesCorrectAndReadBack : Prop :=
  (∀ (s : State) (n cw : Nat) (errs : List Nat), n < 20 → (s.lane n).st = .up → s.laneRs544 n = true → s.parN Prm.laneRxChecker n = 0 →
    let k := (errs.map (· / 10)).eraseDups.length
    let count := fun (t : State) (p : ParamDef) (by_ : Nat) => t.com p n = if by_ = 0 then s.com p n else (satAdd p.width (s.com p n).toNat by_ : Nat)
    Answers (.laneCodewordRx n cw errs false) s fun t =>
      count t Prm.laneFecCorrCw (if 1 ≤ k ∧ k ≤ 15 then 1 else 0) ∧ count t Prm.laneFecCorrSym (if k ≤ 15 then k else 0) ∧
      count t Prm.laneFecUncorrCw (if 15 < k then 1 else 0) ∧ (∀ j, t.lane j = s.lane j) ∧ t.evt = s.evt ∧ Mail { s with radio := t.radio } t) ∧
  (∀ (lane echo rate : Nat) (inv : Bool), lane < 32 → echo < 32 → rate < 4 → readMarker (markerOf lane echo inv rate) = some (false, echo, inv)) ∧
  (∀ w : CtlWord, w.verMax < 4 → w.verActive < 4 → w.fnum < 1024 → w.offset < 512 → w.fmt < 4 → w.srate < 4 → w.slotAlarm < 512 →
    w.ccLen < 8 → w.ccData < 2 ^ 64 → w.mf < 2 ^ 24 → CtlWord.decode w.encode = w ∧ ctlCrcOk w.encode = true) ∧
  (∀ (p : Nat) (l : List Nat), (∀ g ∈ l, g < 4) → unprecode p (precode p l) = l) ∧
  (∀ n v : Nat, scrambled n (scrambled n v) = v)

/-- Frame synchronisation of a link (Table 5-5, R130): HUNT, then PRESYNC with a sync word without error and a correct CRC, SYNC
with the third hit in a row, and HUNT again with the second CRC failure in a row; the persistence times declare and clear LOS
and LOF (R134), and the latch of the second moves the counts (R136).
The device starts a frame of every link: the shared counter steps, 1,000 frames to a multiframe, and each link in use sends
the control word of its state (R128, Table 5-4). -/
def Obligations.LinksSynchroniseAndShareFrames : Prop :=
  (∀ (s : State) (l : Nat), l < 16 →
     (∀ (errs raw nbits : Nat) (bad cdc : List Nat) (slip : Bool), s.linkFed l = true → 192 ≤ nbits →
       let word := scrambled nbits raw / 2 ^ (nbits - 192)
       ((s.link l).st = .hunt → errs = 0 → ctlCrcOk word = true → Answers (.linkFrameRx l errs raw nbits bad slip cdc) s fun t =>
         (t.link l).st = .presync ∧ (t.link l).hits = 1 ∧ (t.link l).fnum = (CtlWord.decode word).fnum ∧ t.evt = s.evt ∧ Mail { s with radio := t.radio } t) ∧
       ((s.link l).st = .presync → (s.link l).hits = 2 → errs ≤ s.parN Prm.linkSyncErrTol l → ctlCrcOk word = true →
         Answers (.linkFrameRx l errs raw nbits bad slip cdc) s fun t =>
           (t.link l).st = .sync ∧ (t.link l).layout = none ∧ (t.link l).version = 0 ∧ (t.link l).headId = none ∧
           (t.link l).defects.testBit 5 = false ∧ Mail { s with radio := t.radio } t) ∧
       ((s.link l).st = .sync → (s.link l).crcFail = 1 → (s.link l).layout = none → (s.link l).early = 3 → ctlCrcOk word = false → slip = false →
         Answers (.linkFrameRx l errs raw nbits bad slip cdc) s fun t => (t.link l).st = .hunt ∧ Mail { s with radio := t.radio } t)) ∧
     (s.laneUp l = false → Answers (.linkDefectPersist l 0 true) s fun t =>
       (t.link l).defects.testBit 0 = true ∧ (t.link l).defects.testBit 1 = false ∧ Mail { s with radio := t.radio } t) ∧
     (s.laneUp l = true → Answers (.linkDefectPersist l 0 false) s fun t => (t.link l).defects.testBit 0 = false) ∧
     (s.laneUp l = true → (s.link l).st ≠ .sync → Answers (.linkDefectPersist l 1 true) s fun t => (t.link l).defects.testBit 1 = true) ∧
     ((s.link l).st = .sync → Answers (.linkDefectPersist l 1 false) s fun t => (t.link l).defects.testBit 1 = false) ∧
     (s.power.tbEntry = none → Answers .linkSecondLatch s fun t =>
       (t.link l).sec = (s.link l).run ∧ (t.link l).run = {} ∧ t.radio.tx.secMark = true ∧ t.time = s.time ∧ t.flash = s.flash)) ∧
  (∀ (s : State) (offsets : List Nat) (blocks : List (Nat × List (List Int))),
     Answers (.linkFrameTx offsets blocks []) s fun t =>
       t.radio.tx.f = (s.radio.tx.f + 1) % 1000 ∧
       t.radio.tx.mf = (if (s.radio.tx.f + 1) % 1000 = 0 then (s.radio.tx.mf + 1) % 2 ^ 24 else s.radio.tx.mf) ∧
       Mail { s with radio := t.radio } t ∧ (∀ n, t.lane n = s.lane n) ∧
       ∀ l, l < 16 → (t.link l).st = (s.link l).st ∧
         (s.parN Prm.linkEnable l ≠ 0 → (CtlWord.decode (t.link l).txWord).fnum = (s.radio.tx.f + 1) % 1000 ∧
           (CtlWord.decode (t.link l).txWord).rdi = decide ((s.link l).st ≠ .sync)) ∧
         (s.parN Prm.linkEnable l = 0 → t.link l = s.link l))

/-- Messages of a head on a link in SYNC (R137 to R141, R146, R157, R158, Table 5-8): each new one but TELEMETRY, ECHO and ACK is
acknowledged with its type and number, and has its effect. -/
def Obligations.HeadMessagesAreAcknowledged : Prop :=
  ∀ (s : State) (l seq : Nat), (s.link l).st = .sync → (s.link l).lastRxSeq ≠ some seq → (s.link l).out = none →
    let ack := fun (typ status : Nat) => CcMsg.mk 0x03 (s.link l).seqNext [BitVec.ofNat 8 typ, BitVec.ofNat 8 seq, BitVec.ofNat 8 status, 0]
    let got := fun (t : State) => (t.link l).st = .sync ∧ (t.link l).lastRxSeq = some seq ∧ Mail { s with radio := t.radio } t
    (∀ (h : HeadId) (y : Layout), s.chooseLayout l h = some y → Answers (.headId l seq h) s fun t => got t ∧ (t.link l).headId = some h ∧
      (t.link l).select = some { layout := y, eff := s.effective } ∧
      (t.link l).sent = (s.link l).sent ++ [ack 0x01 0, CcMsg.mk 0x02 (((s.link l).seqNext + 1) % 256)
        (be 1 y.version ++ be 1 y.fmt ++ be 1 (b2n y.spare) ++ be 1 y.srate ++ be 3 s.effective ++ [0])]) ∧
    (∀ (i cause det : Nat) (h : HeadId) (y : Layout), i < 8 → s.par Prm.linkAutoStandby l = 1 → (s.link l).headId = some h →
      h.caps.testBit 2 = true → (s.link l).layout = some y → y.spare = true → (s.link l).onStandby = none → (s.link l).standby = none →
      Answers (.headAlarm l seq i cause det) s fun t => got t ∧ (t.link l).standby = some { element := i, eff := s.effective }) ∧
    (∀ (i : Nat) (gain : Int), Answers (.rxGainApplied l seq i gain) s fun t => got t ∧ (t.link l).sent = (s.link l).sent ++ [ack 0x11 0] ∧
      ∀ c, c < 128 → t.ach c = if s.mapped c = some (l, i) then { s.ach c with gainNext := some gain, gainAbsent := false } else s.ach c) ∧
    (∀ caps : HeadCaps, Answers (.headRfCaps l seq caps) s fun t => got t ∧ (t.link l).caps = some caps ∧
      ((t.link l).capsOk = true ↔ ∀ r ∈ s.linkRadios l, capsFault caps (s.parN Prm.achTrLeadNs r) (s.centreKhz r) = none)) ∧
    (∀ typ : Nat, Answers (.ccReservedType l typ seq) s fun t => got t ∧ (t.link l).sent = (s.link l).sent ++ [ack typ 2] ∧ t.evt = s.evt) ∧
    (∀ (temps : List Int) (mv : Nat), Answers (.telemetry l temps mv) s fun t =>
      (t.link l).temps = temps ∧ (t.link l).supplyMv = mv ∧ t.radio.ach = s.radio.ach ∧ t.evt = s.evt ∧ Mail { s with radio := t.radio } t) ∧
    (∀ token : Nat, Answers (.echo l seq token) s fun t =>
      (t.link l).sent = (s.link l).sent ++ [CcMsg.mk 0x04 seq (be 4 token)] ∧ t.evt = s.evt ∧ Mail { s with radio := t.radio } t)

/-- The outstanding message of a link (R138): its ACK ends it, a retry timeout sends it again three times and then declares CCF,
and an echo period sends an ECHO. The layout selected by an acknowledged LAYOUT_SELECT takes effect at its multiframe, and one
without an acknowledgement declares VERF (R139, R140); an acknowledged SPARE_SWITCH moves the channel to slot 8 (R146). -/
def Obligations.OutstandingMessagesAndSelections : Prop :=
  ∀ (s : State) (l : Nat), l < 16 →
    let kept := fun (t : State) => (∀ k, k ≠ l → t.link k = s.link k) ∧ Mail { s with radio := t.radio } t
    (∀ (m : CcMsg) (n : Nat), (s.link l).out = some (m, n) → (s.link l).waiting = [] →
      ((s.link l).st = .sync → m.typ = 0x06 → Answers (.ack l 0x06 m.seq 0) s fun t => (t.link l).out = none ∧
        (t.link l).standby = (s.link l).standby.map (fun q => { q with acked := true }) ∧ (t.link l).defects.testBit 4 = false ∧ kept t) ∧
      (n < 3 → Answers (.ccRetryTimeout l) s fun t => (t.link l).out = some (m, n + 1) ∧ (t.link l).sent = (s.link l).sent ++ [m] ∧ t.evt = s.evt ∧ kept t) ∧
      (3 ≤ n → Answers (.ccRetryTimeout l) s fun t => (t.link l).out = none ∧ (t.link l).defects.testBit 4 = true ∧ kept t)) ∧
    (s.parN Prm.linkEchoPeriodMs l ≠ 0 → s.par Prm.linkEnable l ≠ 0 → (s.link l).out = none → Answers (.echoPeriod l) s fun t =>
      (∃ token, (t.link l).out = some (CcMsg.mk 0x04 (s.link l).seqNext (be 4 token), 0)) ∧ t.free = s.free + 1 ∧ ∀ k, k ≠ l → t.link k = s.link k) ∧
    (∀ q : Selection, (s.link l).select = some q →
      (q.acked = false → Answers (.layoutAckDeadline l) s fun t => (t.link l).select = none ∧ (t.link l).layout = none ∧
        (t.link l).version = 0 ∧ (t.link l).defects.testBit 5 = true ∧ kept t) ∧
      (q.acked = true → Answers (.layoutEffect l) s fun t => (t.link l).layout = some q.layout ∧ (t.link l).prev = (s.link l).layout ∧
        (t.link l).select = none ∧ (t.link l).version = q.layout.version ∧ kept t)) ∧
    (∀ (q : Standby) (c : Nat), (s.link l).standby = some q → q.acked = true → s.achAt l q.element = some c → Answers (.spareSwitchEffect l) s fun t =>
      (t.link l).onStandby = some q.element ∧ (t.link l).standby = none ∧ t.mapped c = some (l, 8) ∧ t.source c = s.source c ∧
      (∀ d, d ≠ c → t.mapped d = s.mapped d) ∧ kept t)

/-- Gain and attenuation of a channel (R158, R159), and its states (Table 6-5, R163 to R165): fixed mode sends the committed
gain within the head's range, an acknowledged request takes effect at its multiframe, one without an acknowledgement holds the
channel absent, absent blocks that persist make it ABSENT, and a front-end fault recasts it, in FAULT unless it is OFF. -/
def Obligations.ChannelGainAndStates : Prop :=
  ∀ (s : State) (c : Nat), c < 128 →
    let kept := fun (t : State) => (∀ d, d ≠ c → t.ach d = s.ach d) ∧ Mail { s with radio := t.radio } t
    (∀ (level l i : Nat) (k : HeadCaps), (s.ach c).st ≠ .off → (s.ach c).gain = none → s.parN Prm.achRxGainMode c = 0 →
      s.mapped c = some (l, i) → (s.link l).caps = some k → k.clampGain (s.par Prm.achRxGain c) ≠ (s.ach c).gainNow →
      Answers (.gainControlTick c level) s fun t =>
        (t.ach c).gain = some { value := k.clampGain (s.par Prm.achRxGain c), eff := s.effective } ∧ (t.ach c).gainNow = (s.ach c).gainNow ∧
        t.evt = s.evt ∧ kept t) ∧
    (∀ q : Retune, (s.ach c).gain = some q →
      (q.acked = false → Answers (.gainAckDeadline c 0x10) s fun t => (t.ach c).gainAbsent = true ∧ (t.ach c).gain = none ∧ kept t) ∧
      (q.acked = true → Answers (.gainEffective c 0x10) s fun t => (t.ach c).gainNow = q.value ∧ (t.ach c).gain = none ∧ t.evt = s.evt ∧ kept t)) ∧
    (∀ q : Retune, (s.ach c).atten = some q → q.acked = true → Answers (.gainEffective c 0x12) s fun t =>
      (t.ach c).attenNow = q.value ∧ (t.ach c).atten = none ∧ t.evt = s.evt ∧ kept t) ∧
    ((s.ach c).st = .active → (s.ach c).absentRun = true → Answers (.achAbsentTimeout c) s fun t =>
      (t.ach c).st = .absent ∧ (t.ach c).calibrated = (s.ach c).calibrated ∧ kept t) ∧
    (∀ cause : Nat, s.power.st = .run → s.recast.jobs = [] → s.recast.held = false →
      Answers (.achFrontendFault c cause) s fun t =>
        (t.ach c).st = (if (s.ach c).st = .off then .off else .fault) ∧ (t.ach c).calibrated = false ∧
        (∃ j ∈ t.recast.jobs, j.unit = ⟨0, 6, c⟩) ∧ (∀ d, d ≠ c → t.ach d = s.ach d) ∧ t.dma = s.dma ∧ t.eth = s.eth ∧ t.time = s.time)

/-- Calibration of a radio (R166 to R171, R245): the period makes a full pass due, a granted window opens and begins it, a turn
takes the next channel, the quiet tail ends the pass, and a window that is not granted in time becomes urgent. -/
def Obligations.CalibrationRunsInWindows : Prop :=
  ∀ (s : State) (r : Nat), r < 3 →
    let kept := fun (t : State) => (∀ q, q ≠ r → t.cal q = s.cal q) ∧ Mail { s with radio := t.radio } t
    (s.parN Prm.achCalPeriodS r ≠ 0 → s.parN Prm.achCalMode r = 0 → Answers (.calPeriodExpiry r) s fun t =>
      (t.cal r).fullDue = true ∧ ((t.cal r).requested = true ∨ (t.cal r).window = true) ∧ t.radio.ach = s.radio.ach ∧ t.evt = s.evt ∧ kept t) ∧
    (∀ best : List Nat, (s.cal r).requested = true → (s.cal r).window = false → (s.cal r).pass = none → (s.cal r).fullDue = true →
      s.stopped (macUnit r) = false → (s.wradio r).txop = none → (s.wradio r).round = none → (s.wradio r).sp = none →
      (s.wradio r).txUntil ≤ s.now → s.parN Prm.achCalWindowUs r * 1000 ≤ s.toBreak r →
      Answers (.calWindowGrant r best) s fun t => (t.cal r).window = true ∧ (t.cal r).requested = false ∧ (t.cal r).pass = some true ∧
        (t.cal r).fullDue = false ∧ (∀ c, c ∈ (t.cal r).turns ↔ c < 128 ∧ radioOfAch c = r ∧ ((s.ach c).st = .calibrating ∨ (s.ach c).st = .active)) ∧
        ∀ q, q ≠ r → t.cal q = s.cal q) ∧
    (∀ (c d : Nat) (rest : List Nat), (s.cal r).window = true → (s.cal r).turns = c :: d :: rest → (s.cal r).inWindow + 1 < s.windowTurns r false →
      Answers (.calTurn r) s fun t => (t.cal r).turn = some c ∧ (t.cal r).turns = d :: rest ∧ (t.cal r).done = (s.cal r).done ++ [c] ∧
        (t.cal r).inWindow = (s.cal r).inWindow + 1 ∧ (t.cal r).window = true ∧ t.evt = s.evt ∧ kept t) ∧
    (∀ (c : Nat) (q : CalResult), (s.cal r).window = true → (s.cal r).turns = [] → (s.cal r).pass = some true → (s.cal r).done = [c] →
      (s.cal r).dropped = [] → (s.cal r).fullDue = false → (s.cal r).rejoinDue = false → q.chan = c → s.parN Prm.achCalMinPairs r ≤ q.pairs →
      (s.ach c).st = .calibrating → Answers (.calPassEnd r [q]) s fun t => (t.ach c).st = .active ∧ (t.ach c).calibrated = true ∧
        (t.cal r).pass = none ∧ (t.cal r).window = false ∧ (t.cal r).done = [] ∧ (∀ d, d ≠ c → t.ach d = s.ach d)) ∧
    ((s.cal r).requested = true → (s.cal r).urgent = false → Answers (.calDeferTimeout r) s fun t => (t.cal r).urgent = true ∧
      t.radio.ach = s.radio.ach ∧ kept t)

/-- The states of a feed (Table 6-8, R172 to R174, R515): CHECK, INRUSH, then ON or OPEN by its current; a short counts a trip and backs
off, or locks out at the retry limit; a reversed voltage shuts it off until the voltage clears; each of these three is a wake
source; 60 s in ON clear the retries. -/
def Obligations.FeedsFollowTheTable : Prop :=
  ∀ (s : State) (h : Nat), h < 16 →
    let kept := fun (t : State) => (∀ k, k ≠ h → t.feed k = s.feed k) ∧ Mail { s with radio := t.radio } t
    let woken := fun (t : State) => (∀ k, k ≠ h → t.feed k = s.feed k) ∧ Mail { s with radio := t.radio, power := t.power, boot := t.boot } t ∧
      (s.wakeEnabled 2 = false ∨ s.power.st = .run → t.power = s.power ∧ t.boot = s.boot) ∧
      (s.wakeEnabled 2 = true → s.power.st = .standby ∨ s.power.st = .sleep → s.power.retryFrom = none →
        t.power.st = .waking ∧ t.power.lastCause = 2)
    ((s.feed h).st = .check → Answers (.feedCheckEnd h) s fun t => (t.feed h).st = .inrush ∧ (t.feed h).n = (s.feed h).n ∧ kept t) ∧
    (∀ ma : Nat, (s.feed h).st = .inrush → Answers (.feedInrushEnd h ma) s fun t =>
      (t.feed h).st = (if s.parN Prm.achFeedIminMa h ≤ ma then .on else .opened) ∧ (t.feed h).currentMa = ma ∧ kept t) ∧
    (∀ ma : Nat, (s.feed h).st.enabled = true → s.feedLimit h < ma → Answers (.feedShort h ma) s fun t =>
      (if (s.feed h).n = s.parN Prm.achFeedRetryMax h then (t.feed h).st = .lockout ∧ (t.feed h).n = (s.feed h).n
        else (t.feed h).st = .shortWait ∧ (t.feed h).n = (s.feed h).n + 1) ∧ woken t) ∧
    ((s.feed h).st = .shortWait → Answers (.feedBackoffEnd h) s fun t => (t.feed h).st = .check ∧ (t.feed h).n = (s.feed h).n ∧ kept t) ∧
    (∀ mv : Int, mv < -100 → (s.feed h).st = .check ∨ (s.feed h).st.enabled = true → Answers (.feedReversed h mv) s fun t =>
      (t.feed h).st = .reversed ∧ (t.feed h).voltageMv = (s.feed h).voltageMv ∧ woken t) ∧
    ((s.feed h).st = .reversed → Answers (.feedReversedClear h) s fun t => (t.feed h).st = .check ∧ kept t) ∧
    (∀ (isns mean : Nat) (vsns : Int), (s.feed h).st = .on → mean < s.parN Prm.achFeedIminMa h → Answers (.feedAdcSample h isns vsns mean) s fun t =>
      (t.feed h).st = .opened ∧ (t.feed h).currentMa = min 65535 (isns * s.parN Prm.achFeedIsnsGain h / 1000) ∧
      (t.feed h).voltageMv = vsns * s.par Prm.achFeedVsnsRatio h ∧ kept t) ∧
    ((s.feed h).st = .on → Answers (.feedRetryReset h) s fun t => (t.feed h).n = 0 ∧ (t.feed h).st = .on ∧ t.evt = s.evt ∧ t.cfg = s.cfg ∧ kept t)

/-- What a sector pipeline does with the oldest entry of its weight-load FIFO (Table 7-4, R191, R192, R195 to R197): SET_BEGIN
opens a set in the shadow banks or drops a stale one, WEIGHT and COLMAP fill it, SET_END closes the sector's part or discards
the set on a count mismatch, CONFIRM admits a speculative set, DISCARD withdraws it, and a set left incomplete is discarded. -/
def Obligations.WeightSetsLoadBySector : Prop :=
  (∀ (s : State) (k e : Nat) (rest : List Nat), k < 8 → (s.mould k).fifo = e :: rest →
    let r := radioOfSector k
    let kept := fun (t : State) => (t.mould k).fifo = rest ∧ (t.mould k).bank = (s.mould k).bank ∧ (t.beamOf r).active = (s.beamOf r).active ∧
      (∀ j, j ≠ k → (t.mould j).fifo = (s.mould j).fifo ∧ (t.mould j).bank = (s.mould j).bank) ∧ (∀ q, q ≠ r → t.beamOf q = s.beamOf q) ∧
      Mail { s with beam := t.beam } t
    (wlType e = 2 → e.testBit 491 = false → (s.beamOf r).shadow = none →
      ((s.beamOf r).active = none → Answers (.setBegin k) s fun t => (t.beamOf r).shadow = some
          { id := bits e 507 492
            spec := false
            basis := bits e 490 459
            validUntil := bits e 458 395
            antUsed := bits e 394 331
            users := bits e 330 324
            begun := [k] } ∧ t.evt = s.evt ∧ kept t) ∧
      (∀ a : ActiveSet, (s.beamOf r).active = some a → serialNewer 32 (bits e 490 459) a.basis = false →
        Answers (.setBegin k) s fun t => (t.beamOf r).shadow = none ∧ (t.mould k).dropping = some (bits e 507 492) ∧ kept t)) ∧
    (∀ w : ShadowSet, (s.beamOf r).shadow = some w →
      (wlType e = 1 → (s.mould k).dropping = none → k ∈ w.begun → k ∉ w.ended → bits e 507 504 = w.id % 16 →
        let key := (bits e 503 496 * 64 + bits e 495 490) * 4 + bits e 489 488
        Answers (.weightEntry k) s fun t => (t.mould k).shadow.get key = bits e 479 0 ∧
          (∀ i, i ≠ key → (t.mould k).shadow.get i = (s.mould k).shadow.get i) ∧
          (t.beamOf r).shadow = some { w with counts := w.counts.upd k (· + 1) } ∧ t.evt = s.evt ∧ kept t) ∧
      (wlType e = 3 → (s.mould k).dropping = none → k ∈ w.begun →
        Answers (.colmap k) s fun t => ((t.beamOf r).shadow.map fun v => { v with cols := w.cols }) = some w ∧
          (∀ i, i < 30 → bits e 507 502 + i < 64 →
            ((t.beamOf r).shadow.map fun v => v.cols.get (bits e 507 502 + i)) = some (bits e (479 - 16 * i) (464 - 16 * i))) ∧
          (∀ j, j < bits e 507 502 ∨ bits e 507 502 + 30 ≤ j → ((t.beamOf r).shadow.map fun v => v.cols.get j) = some (w.cols.get j)) ∧
          t.evt = s.evt ∧ kept t) ∧
      (wlType e = 4 → (s.mould k).dropping ≠ some (bits e 507 492) → w.id = bits e 507 492 → k ∈ w.begun → k ∉ w.ended →
        Answers (.setEnd k) s fun t => (t.beamOf r).shadow =
          (if w.counts.get k = bits e 491 472 then some { w with ended := k :: w.ended } else none) ∧ kept t) ∧
      (wlType e = 5 → w.spec = true → w.id = bits e 507 492 → s.setComplete r w = true →
        Answers (.confirm k) s fun t => (t.beamOf r).shadow =
          (if bits e 491 460 = w.basis ∧ bits e 459 444 ≤ s.parN Prm.beamSpecEps r ∧ bits e 459 444 ≠ 65535 then
            some { w with confirmed := k :: w.confirmed, err := some (bits e 459 444) } else none) ∧ kept t) ∧
      (wlType e = 6 → w.id = bits e 507 492 → Answers (.discard k) s fun t => (t.beamOf r).shadow = none ∧
        (∀ j ∈ sectorsOf r, (t.mould j).shadow = []) ∧ kept t))) ∧
  ∀ (s : State) (r : Nat) (w : ShadowSet), r < 3 → (s.beamOf r).shadow = some w → s.setComplete r w = false →
    Answers (.setLoadTimeout r) s fun t => (t.beamOf r).shadow = none ∧ (t.beamOf r).active = (s.beamOf r).active ∧
      (∀ j, (t.mould j).bank = (s.mould j).bank) ∧ (∀ q, q ≠ r → t.beamOf q = s.beamOf q) ∧ Mail { s with beam := t.beam } t

/-- Switch points, rounds and what watches them (R189, R190, R193, R198, R223): a complete set becomes active at the switch point
and the banks swap in, a set that is late is counted, a channel that stops being usable counts and asks for an extra update,
a sounding round starts with its users and its mask, and its results fill the next slot of the estimate store. -/
def Obligations.SwitchPointsAndRounds : Prop :=
  ∀ (s : State) (r : Nat), r < 3 →
    (∀ w : ShadowSet, s.cfg.tables = [] → s.cfg.commits = [] → s.cfg.old = [] → (s.beamOf r).shadow = some w → s.setComplete r w = true →
      w.spec = false → Answers (.switchPoint r) s fun t =>
        (t.beamOf r).active.map (·.id) = some w.id ∧ (t.beamOf r).active.map (·.basis) = some w.basis ∧
        (t.beamOf r).active.map (·.cols) = some w.cols ∧ (t.beamOf r).active.map (·.antUsed) = some w.antUsed ∧
        (t.beamOf r).shadow = none ∧ (∀ k ∈ sectorsOf r, (t.mould k).bank = (s.mould k).shadow ∧ (t.mould k).shadow = []) ∧
        (∀ k, k ∉ sectorsOf r → t.mould k = s.mould k) ∧ t.task.swpLevel.get r = true ∧ (∀ q, q ≠ r → t.beamOf q = s.beamOf q) ∧
        Mail { s with beam := t.beam, task := t.task } t) ∧
    (∀ basis : Nat, (s.beamOf r).active = none → (s.beamOf r).shadow = none → Answers (.updateLate r basis) s fun t =>
      Mail s t ∧ t.beam = s.beam) ∧
    (∀ c : Nat, radioOfAch c = r → c < 128 → (s.ach c).st ≠ .active → (s.beamOf r).shadow = none → Answers (.channelUnusable c) s fun t =>
      (t.beamOf r).extra = (s.beamOf r).extra + 1 ∧ (t.beamOf r).active = (s.beamOf r).active ∧ t.beam.sector = s.beam.sector ∧
      (∀ q, q ≠ r → t.beamOf q = s.beamOf q) ∧ Mail { s with beam := t.beam } t) ∧
    (∀ ns : Nat,
      let u := refreshList r s
      u.radioQuiet r = true → (u.wradio r).txop = none → (u.wradio r).round = none → (u.wradio r).beaconsOnly = false →
      (u.wradio r).roundAt = 0 → u.roundUsers r ≠ [] → Answers (.soundingRoundStart r ns) s fun t =>
        (t.wradio r).roundAt = u.now + 1 ∧
        (t.wradio r).round = some { time := (u.tb80 0 + ns * 65536) % 2 ^ 80, users := u.roundUsers r, mask := u.usableMask r } ∧
        (∀ q, q ≠ r → t.wradio q = u.wradio q) ∧ t.evt = u.evt ∧ Mail { u with wlan := t.wlan } t) ∧
    (∀ (p : RoundPlan) (q : RoundResult), (s.wradio r).round = some p → q.overflow = false → q.busy = false →
      Answers (.roundComplete r q) s fun t => (t.wradio r).round = none ∧ (t.beamOf r).nextRound = ((s.beamOf r).nextRound + 1) % 2 ^ 32 ∧
        (t.beamOf r).newest = some (s.beamOf r).slot ∧
        ((t.beamOf r).est.get (s.beamOf r).slot).complete = true ∧ ((t.beamOf r).est.get (s.beamOf r).slot).round = (s.beamOf r).nextRound ∧
        ((t.beamOf r).est.get (s.beamOf r).slot).time = p.time ∧ ((t.beamOf r).est.get (s.beamOf r).slot).recs = q.recs ∧
        ((t.beamOf r).est.get (s.beamOf r).slot).users.length = p.users.length ∧
        (t.beamOf r).active = (s.beamOf r).active ∧ t.beam.sector = s.beam.sector ∧ t.task.roundLevel.get r = true)

/-- Assay and reports (R201, R202, R206, R207, R209): a checked symbol without a mismatch only advances the sector's LFSR, the
refresh writes the station's entry from the active set and the leakage between two sectors, and a detection counts in its bin. -/
def Obligations.AssayAndReports : Prop :=
  (∀ (s : State) (k T : Nat) (rx : Bool), k < 8 → 2 ≤ T → Answers (.symbolAssay k rx T [] false) s fun t =>
    (if rx = true then (t.mould k).lfsrRx = lfsrDraw 32 (lfsrDraw 32 (s.mould k).lfsrRx) ∧ (t.mould k).lfsrTx = (s.mould k).lfsrTx
      else (t.mould k).lfsrTx = lfsrDraw 32 (lfsrDraw 32 (s.mould k).lfsrTx) ∧ (t.mould k).lfsrRx = (s.mould k).lfsrRx) ∧
    (t.mould k).bank = (s.mould k).bank ∧ (∀ j, j ≠ k → t.mould j = s.mould j) ∧ t = { s with beam := t.beam } ∧ t.beam.radio = s.beam.radio) ∧
  (∀ (s : State) (r c k : Nat) (a : ActiveSet) (f : StaFigures) (leak : Int) (n : Nat), r < 3 → (s.beamOf r).active = some a →
    a.cols = [(c, 32768 + k * 4096 + f.station)] → k < 8 → f.station < 2048 → n < 16 →
    (∀ j, j < 2048 → j ≠ f.station → (s.entryNat Tbl.staReport 0 j).testBit 14 = false) →
    Answers (.staReportRefresh r [f] [(n, leak, 1)]) s fun t =>
      fieldAt (t.entry Tbl.staReport 0 f.station) 0 2 % 32768 = f.station + k * 2048 + 16384 ∧
      fieldAt (t.entry Tbl.staReport 0 f.station) 2 2 = a.id % 65536 ∧ fieldAt (t.entry Tbl.staReport 0 f.station) 4 4 = a.basis % 2 ^ 32 ∧
      fieldAt (t.entry Tbl.staReport 0 f.station) 8 2 = twos 16 f.mean ∧ fieldAt (t.entry Tbl.staReport 0 f.station) 10 2 = twos 16 f.low ∧
      fieldAt (t.entry Tbl.nullReport r n) 0 2 = twos 16 leak ∧ fieldAt (t.entry Tbl.nullReport r n) 4 2 = a.id % 65536 ∧
      (∀ j, j < 2048 → j ≠ f.station → t.entry Tbl.staReport 0 j = s.entry Tbl.staReport 0 j) ∧ Mail s t) ∧
  ∀ (s : State) (r : Nat) (u v snr : Int), r = 1 ∨ r = 2 → s.par Prm.beamAoaEnable r = 1 → 10 ≤ snr → u * u + v * v ≤ 2 ^ 30 →
    let bin := 32 * min 31 ((v + 32768) / 2048).toNat + min 31 ((u + 32768) / 2048).toNat
    Answers (.aoaDetection r u v snr none) s fun t => (t.beamOf r).hits.get bin = (s.beamOf r).hits.get bin + 1 ∧ bin < 1024 ∧
      (∀ b, b ≠ bin → (t.beamOf r).hits.get b = (s.beamOf r).hits.get b) ∧ (∀ q, q ≠ r → t.beamOf q = s.beamOf q) ∧
      t = { s with beam := t.beam } ∧ t.beam.sector = s.beam.sector

/-- What the MAC sends (R219, R220, R237, R239, R241, R242): a TXOP that ends before the next break, an interval with a
station's packets in it, a beacon at each TBTT, and FILS discovery frames between beacons. -/
def Obligations.RadiosSendInTheirIntervals : Prop :=
  (∀ (s : State) (r : Nat), r < 3 →
    let u := refreshList r s
    u.radioQuiet r = true → (u.sched r).list ≠ [] → (u.wradio r).txop = none → (u.wradio r).round = none →
    (u.wradio r).beaconsOnly = false → Answers (.channelAccess r) s fun t =>
      (t.wradio r).txop = some (u.now, u.now + min (u.parN Prm.wlanTxopUs r * 1000) (u.toBreak r)) ∧
      (t.wradio r).ac = ((u.sched r).list.map fun a => acOfQueue a.q).foldl max 0 ∧ (∀ q, q ≠ r → t.wradio q = u.wradio q) ∧
      t.wlan.sta = u.wlan.sta ∧ t.evt = u.evt ∧ Mail { u with wlan := t.wlan } t) ∧
  (∀ (s : State) (r k h q us e start : Nat) (sec : Nat), r < 3 → s.radioQuiet r = true → (s.wradio r).txop = some (start, e) →
    s.now + us * 1000 ≤ e → s.airtimeOk r (s.now + us * 1000) = true → (s.wradio r).round = none → (s.wradio r).beaconsOnly = false →
    sec ∈ s.enabledSectors r → staSector (s.sta k) r = sec → staMode (s.sta k) ≠ 3 → (s.staSt k).unacked = [] → (s.wb h).ring = none →
    (s.sched r).out = [(h, q)] → q / 8 = k → q < 16384 →
    s.canServe r { precoded := false, sector := sec, users := [k], durUs := us } (s.now + us * 1000) k = true →
    Answers (.txInterval r { precoded := false, sector := sec, users := [k], durUs := us }) s fun t =>
      (t.wradio r).txUntil = s.now + us * 1000 ∧ t.wlan.sent.length = s.wlan.sent.length + 1 ∧
      t.wlan.sent.take s.wlan.sent.length = s.wlan.sent ∧
      (t.wlan.sent.getLast?.map fun p => (p.sector, p.tsf, p.mpdus.length)) = some (sec, s.tsf sec, 1) ∧
      (t.wlan.sent.getLast?.map fun p => p.mpdus.map fun m => m.data) = some [(s.wb h).data] ∧
      (t.wlan.sent.getLast?.map fun p => p.mpdus.map fun m => (m.station, m.tid)) = some [(some k, (s.wb h).tid)] ∧
      (s.txKeyOf k = none → t.wlan.txPn = s.wlan.txPn) ∧
      (∀ slot, s.txKeyOf k = some slot → t.wlan.txPn.get slot = s.wlan.txPn.get slot + 1 ∧
        (t.wlan.sent.getLast?.map fun p => p.mpdus.map fun m => m.pn) = some [s.wlan.txPn.get slot + 1]) ∧
      ((t.staSt k).unacked.map fun p => p.handle) = [h] ∧ (∀ j, j ≠ k → t.staSt j = s.staSt j) ∧ (∀ p, p ≠ r → t.wradio p = s.wradio p) ∧
      t.pkt = s.pkt ∧ t.evt = s.evt) ∧
  ∀ (s : State) (sec : Nat), sec < 8 → s.sectorOn sec = true → s.stopped (macUnit (radioOfSector sec)) = false →
    (∀ (us : Nat) (o : Occupant), (s.wsector sec).lastTbtt < s.tsf sec / s.beaconUs sec * s.beaconUs sec →
      (s.wradio (radioOfSector sec)).txop = none → (s.wradio (radioOfSector sec)).switching = false → s.cfg.commits = [] → s.cfg.old = [] →
      s.cfg.tables = [] → (s.wradio (radioOfSector sec)).beaconsOnly = false → (s.wradio (radioOfSector sec)).announce = [] →
      s.quietPlan (radioOfSector sec) = none → us ≤ s.parN Prm.wlanBeaconLateUs 0 →
      Answers (.tbtt sec us o) s fun t => (t.wsector sec).lastTbtt = s.tsf sec / s.beaconUs sec * s.beaconUs sec ∧
        (t.wsector sec).lastAd = s.now ∧ (t.wsector sec).changes = (s.wsector sec).changes ∧
        (t.wsector sec).dtim = (if (s.wsector sec).dtim = 0 then s.parN Prm.wlanDtim sec - 1 else (s.wsector sec).dtim - 1) ∧
        t.wlan.sent = s.wlan.sent ++ [
          { sector := sec
            kind := .beacon
            tsf := s.tsf sec
            info := [(t.wsector sec).dtim, 0, (s.wsector sec).changes] ++ s.timOf sec }] ∧
        (∀ j, j ≠ sec → t.wsector j = s.wsector j) ∧ t.wlan.sta = s.wlan.sta ∧ t.evt = s.evt ∧ Mail { s with wlan := t.wlan } t) ∧
    (radioOfSector sec = 2 → s.parN Prm.wlanFilsTu sec ≠ 0 → (s.wradio 2).txUntil ≤ s.now → s.inQuiet 2 = false →
      (s.wradio 2).beaconsOnly = false → (s.wsector sec).lastAd + s.parN Prm.wlanFilsTu sec * 1024000 ≤ s.now →
      Answers (.filsDiscovery sec) s fun t => (t.wsector sec).lastAd = s.now ∧
        t.wlan.sent = s.wlan.sent ++ [{ sector := sec, kind := .fils, tsf := s.tsf sec }] ∧ (∀ j, j ≠ sec → t.wsector j = s.wsector j) ∧
        t.evt = s.evt ∧ Mail { s with wlan := t.wlan } t)

/-- What a sector receives (R227, R235, R236, R240): a PPDU's acknowledgement ends the MPDUs that it names and its level counts; a
null frame moves the station's power state; a new preamble is taken, taken over a weaker PPDU, or ignored (Table 8-5).
A restricted service period of a sector starts where its schedule covers the instant and ends at its end (R232). -/
def Obligations.SectorsReceiveAndServePeriods : Prop :=
  (∀ (s : State) (sec : Nat), sec < 8 → s.sectorOn sec = true → s.stopped (macUnit (radioOfSector sec)) = false →
     (s.wradio (radioOfSector sec)).txUntil ≤ s.now →
     (∀ (k : Nat) (hs : List Nat) (level : Int), (s.mould sec).rxDrop = false →
       Answers (.ppduRx sec { level := level, acks := [(k, hs)] }) s fun t => (t.wsector sec).rx = none ∧
         (t.staSt k).unacked = (s.staSt k).unacked.filter (fun p => !hs.contains p.handle) ∧
         (t.staSt k).levelSum = (s.staSt k).levelSum + level * 4 ∧ (t.staSt k).levelCount = (s.staSt k).levelCount + 1 ∧
         (t.staSt k).awake = (s.staSt k).awake ∧ (∀ j, j ≠ k → t.staSt j = s.staSt j) ∧ (∀ j, j ≠ sec → t.wsector j = s.wsector j)) ∧
     (∀ (k : Nat) (m : RxMpdu) (level : Int), (s.mould sec).rxDrop = false → m.station = some k → m.kind = .null → m.fcsOk = true →
       m.prot = none → radioOfSector sec ∈ staLinks (s.sta k) → staSector (s.sta k) (radioOfSector sec) = sec →
       Answers (.ppduRx sec { level := level, mpdus := [m] }) s fun t =>
         (t.staSt k).awake = setBit (s.staSt k).awake (radioOfSector sec) (!m.doze) ∧ (t.staSt k).held = decide ((t.staSt k).awake = 0) ∧
         (∀ j, j ≠ k → t.staSt j = s.staSt j)) ∧
     (∀ (level : Int) (sol : Bool), (s.wsector sec).rx = none → Answers (.newPreamble sec level sol []) s fun t =>
       (t.wsector sec).rx = some { solicited := sol, level := level } ∧ t = { s with wlan := t.wlan } ∧
       (∀ j, j ≠ sec → t.wsector j = s.wsector j)) ∧
     (∀ (level : Int) (sol : Bool) (x : Incoming), (s.wsector sec).rx = some x →
       (x.solicited = true → Answers (.newPreamble sec level sol []) s fun t => t.wlan = s.wlan ∧ Mail s t) ∧
       (x.solicited = false → s.par Prm.wlanRestartDb (radioOfSector sec) ≠ 0 → Answers (.newPreamble sec level sol []) s fun t =>
         (t.wsector sec).rx = (if x.level + s.par Prm.wlanRestartDb (radioOfSector sec) ≤ level then some { solicited := sol, level := level }
           else some x) ∧ (∀ j, j ≠ sec → t.wsector j = s.wsector j) ∧ t.wlan.sta = s.wlan.sta ∧ Mail { s with wlan := t.wlan } t))) ∧
  (∀ (s : State) (sec i : Nat), sec < 8 → i < 32 →
     let r := radioOfSector sec
     (∀ n : Nat, s.toSp sec i = some (n, true) → s.sectorOn sec = true → s.stopped (macUnit r) = false → (s.wradio r).sp = none →
       (s.wradio r).txop = none → Answers (.restrictedSpStart sec i) s fun t => (t.wradio r).sp = some
           { sector := sec
             entry := i
             until_ := s.now + ((s.twt sec i).duration * 1000 -
               (s.tbNs (3 + sec) - (s.twt sec i).start * 1000) % ((s.twt sec i).interval * 1000)) } ∧
         (∀ q, q ≠ r → t.wradio q = s.wradio q) ∧ t = { s with wlan := t.wlan } ∧ t.wlan.sent = s.wlan.sent) ∧
     (∀ (p : ServicePeriod) (o : Occupant), (s.wradio r).sp = some p → p.sector = sec → p.entry = i → p.until_ ≤ s.now → s.backlogged r = [] →
       Answers (.restrictedSpEnd sec i o) s fun t => (t.wradio r).sp = none ∧ (∀ q, q ≠ r → t.wradio q = s.wradio q) ∧
         t = { s with wlan := t.wlan }))

/-- Operations on general registers and moves (R253, R254, R261, R262, Table 9-5): each destination takes its result with Z and N,
ADD, SUB and the compares set C, saturation only sets SV, and nothing else of the engine changes.
RCP and RSQ (R261): in the input range the result lies within the relative error 2⁻¹² of the exact value and which one it is
stays free; outside it the result is 0x7FFFFFFF with V set. -/
def Obligations.GeneralRegistersTakeResults : Prop :=
  ((∀ (e : Nat) (s : State) (f : FmtA), s.canIssue e = true → f.rsv = 0 → f.a < 8 →
     let r := (s.eng e).bank
     let x := r.dOf f.a
     let y := r.dOf f.b
     let sx : Int := signed 32 x
     let sy : Int := signed 32 y
     let plain := fun (v : Nat) (b : Bank) => r.TakesD b f.d v ∧ r.Keeps b [St.c, St.v, St.sv, St.im, St.rnd, St.ie]
     let sums := fun (t : Int) (c : Bool) (b : Bank) => r.TakesD b f.d (twos 32 (if f.s then sat t 32 else t)) ∧ b.flag St.c = c ∧
       b.flag St.sv = (r.flag St.sv || (f.s && decide (sat t 32 ≠ t))) ∧ r.Keeps b [St.v, St.im, St.rnd, St.ie]
     let half := fun (t : Int) => if f.s then sat t 16 else signed 16 (twos 16 t)
     let clamp := fun (t : Int) => f.s && decide (sat t 16 ≠ t)
     let halves := fun (h l : Int) (b : Bank) => r.TakesD b f.d (complexWord (half h) (half l)) ∧
       b.flag St.sv = (r.flag St.sv || clamp h || clamp l) ∧ r.Keeps b [St.c, St.v, St.im, St.rnd, St.ie]
     (f.b < 8 → IssuesBank (.leCmp e f) e s fun b => b.flag St.z = decide (twos 32 (sx - sy) = 0) ∧
       b.flag St.n = decide (signed 32 (twos 32 (sx - sy)) < 0) ∧ b.flag St.c = decide (x < y) ∧ b = { r with st := b.st } ∧
       r.Keeps b [St.v, St.sv, St.im, St.rnd, St.ie]) ∧
     (f.d < 8 →
       (f.b < 8 → IssuesBank (.leAdd e f) e s (sums (sx + sy) (decide (2 ^ 32 ≤ x + y))) ∧
         IssuesBank (.leSub e f) e s (sums (sx - sy) (decide (x < y))) ∧ IssuesBank (.leAnd e f) e s (plain (x &&& y)) ∧
         IssuesBank (.leOr e f) e s (plain (x ||| y)) ∧ IssuesBank (.leXor e f) e s (plain (x ^^^ y)) ∧
         IssuesBank (.leShl e f) e s (plain (x * 2 ^ (y % 32))) ∧ IssuesBank (.leShr e f) e s (plain (x / 2 ^ (y % 32))) ∧
         IssuesBank (.leSar e f) e s (plain (twos 32 (sx / 2 ^ (y % 32)))) ∧ IssuesBank (.leMin e f) e s (plain (twos 32 (min sx sy))) ∧
         IssuesBank (.leMax e f) e s (plain (twos 32 (max sx sy))) ∧ IssuesBank (.leAdd16 e f) e s (halves (re x + re y) (im x + im y)) ∧
         IssuesBank (.leSub16 e f) e s (halves (re x - re y) (im x - im y))) ∧
       IssuesBank (.leCls e f) e s (plain (signBits 32 sx)) ∧ IssuesBank (.leSwap e f) e s (plain (x % 65536 * 65536 + x / 65536 % 65536)) ∧
       IssuesBank (.leConj e f) e s (fun b => r.TakesD b f.d (complexWord (re x) (sat (-(im x)) 16)) ∧
         b.flag St.sv = (r.flag St.sv || decide (im x = -32768)) ∧ r.Keeps b [St.c, St.v, St.im, St.rnd, St.ie]))) ∧
   (∀ (e : Nat) (s : State) (f : FmtA), s.canIssue e = true → f.rsv = 0 → f.d < 8 → 12 ≤ f.a → f.a < 16 →
     let r := (s.eng e).bank
     let acc := r.accOf (f.a - 12)
     IssuesBank (.leAnorm e f) e s (fun b => r.TakesD b f.d (signBits 40 acc) ∧ r.Keeps b [St.c, St.v, St.sv, St.im, St.rnd, St.ie]) ∧
     IssuesBank (.leAext e f) e s (fun b => r.TakesD b f.d (twos 32 (sat acc 32)) ∧ b.flag St.sv = (r.flag St.sv || decide (sat acc 32 ≠ acc)) ∧
       r.Keeps b [St.c, St.v, St.im, St.rnd, St.ie]) ∧
     (12 ≤ f.b → f.b < 16 →
       let high := r.round acc / 65536
       let low := r.round (r.accOf (f.b - 12)) / 65536
       IssuesBank (.lePack e f) e s (fun b => r.TakesD b f.d (complexWord (sat high 16) (sat low 16)) ∧
         b.flag St.sv = (r.flag St.sv || decide (sat high 16 ≠ high) || decide (sat low 16 ≠ low)) ∧
         r.Keeps b [St.c, St.v, St.im, St.rnd, St.ie]))) ∧
   (∀ (e : Nat) (s : State) (f : FmtI), s.canIssue e = true → f.a < 8 → f.imm < 65536 →
     let r := (s.eng e).bank
     let x := r.dOf f.a
     let k : Int := signed 16 f.imm
     let plain := fun (v : Nat) (b : Bank) => r.TakesD b f.d v ∧ r.Keeps b [St.c, St.v, St.sv, St.im, St.rnd, St.ie]
     IssuesBank (.leCmpi e f) e s (fun b => b.flag St.z = decide (twos 32 (signed 32 x - k) = 0) ∧
       b.flag St.n = decide (signed 32 (twos 32 (signed 32 x - k)) < 0) ∧ b.flag St.c = decide (x < twos 32 k) ∧ b = { r with st := b.st } ∧
       r.Keeps b [St.v, St.sv, St.im, St.rnd, St.ie]) ∧
     (f.d < 8 → IssuesBank (.leMovi e f) e s (plain (twos 32 k)) ∧
       IssuesBank (.leMovu e f) e s (plain (f.imm * 65536 + r.dOf f.d % 65536)) ∧ IssuesBank (.leAddi e f) e s (plain (x + twos 32 k)) ∧
       IssuesBank (.leAndi e f) e s (plain (x &&& f.imm)) ∧ IssuesBank (.leOri e f) e s (plain (x ||| f.imm)) ∧
       IssuesBank (.leShli e f) e s (plain (x * 2 ^ (f.imm % 32))) ∧
       IssuesBank (.leSari e f) e s (plain (twos 32 (signed 32 x / 2 ^ (f.imm % 32)))))) ∧
   ∀ (e : Nat) (s : State) (f : FmtA), s.canIssue e = true → f.rsv = 0 → f.a < 16 →
     let r := (s.eng e).bank
     let v := (r.code f.a).1
     let acc := r.accOf (f.a - 12)
     (12 ≤ f.a → v = twos 32 (sat acc 32)) ∧
     (f.d < 8 → IssuesBank (.leMov e f) e s fun b => r.TakesD b f.d v ∧
       b.flag St.sv = (r.flag St.sv || (decide (12 ≤ f.a) && decide (sat acc 32 ≠ acc))) ∧ r.Keeps b [St.c, St.v, St.im, St.rnd, St.ie]) ∧
     (8 ≤ f.d → f.d < 12 → IssuesBank (.leMov e f) e s fun b => b.f.get (f.d - 8) = v % 2 ^ 32 ∧
       (∀ k, k ≠ f.d - 8 → b.f.get k = r.f.get k) ∧ b = { r with f := b.f, st := b.st } ∧ r.Keeps b [St.z, St.n, St.c, St.v, St.im, St.rnd, St.ie]) ∧
     (12 ≤ f.d → f.d < 16 → IssuesBank (.leMov e f) e s fun b => b.accOf (f.d - 12) = signed 32 v ∧
       (∀ k, k ≠ f.d - 12 → b.acc.get k = r.acc.get k) ∧ b.flag St.z = decide (v % 2 ^ 32 = 0) ∧ b.flag St.n = decide (2 ^ 31 ≤ v % 2 ^ 32) ∧
       b = { r with acc := b.acc, st := b.st } ∧ r.Keeps b [St.c, St.v, St.im, St.rnd, St.ie])) ∧
  (∀ (e : Nat) (s : State) (f : FmtA), s.canIssue e = true → f.rsv = 0 → f.d < 8 → f.a < 8 →
     let r := (s.eng e).bank
     let x := r.dOf f.a
     (2 ^ 29 ≤ x → x < 2 ^ 31 →
       (Answers (.leRcp e f) s fun t => 2 ^ 60 - 2 ^ 48 < (t.eng e).bank.dOf f.d * x ∧ (t.eng e).bank.dOf f.d * x < 2 ^ 60 + 2 ^ 48 ∧
         (t.eng e).bank.acc = r.acc ∧ (∀ k, k ≠ f.d → (t.eng e).bank.dOf k = r.dOf k) ∧ (∀ j, j ≠ e → t.eng j = s.eng j) ∧
         t = { s with free := t.free, task := { s.task with eng := t.task.eng } }) ∧
       (Answers (.leRsq e f) s fun t => 4095 ^ 2 * 2 ^ 67 < (t.eng e).bank.dOf f.d ^ 2 * x ∧ (t.eng e).bank.dOf f.d ^ 2 * x < 4097 ^ 2 * 2 ^ 67 ∧
         (t.eng e).bank.acc = r.acc ∧ (∀ k, k ≠ f.d → (t.eng e).bank.dOf k = r.dOf k) ∧ (∀ j, j ≠ e → t.eng j = s.eng j) ∧
         t = { s with free := t.free, task := { s.task with eng := t.task.eng } })) ∧
     (x < 2 ^ 29 ∨ 2 ^ 31 ≤ x →
       IssuesBank (.leRcp e f) e s (fun b => r.TakesD b f.d 0x7FFFFFFF ∧ b.flag St.v = true ∧ r.Keeps b [St.c, St.sv, St.im, St.rnd, St.ie]) ∧
       IssuesBank (.leRsq e f) e s (fun b => r.TakesD b f.d 0x7FFFFFFF ∧ b.flag St.v = true ∧ r.Keeps b [St.c, St.sv, St.im, St.rnd, St.ie])))

/-- Operations on accumulators (R252, R254, R261): the exact result is saturated to 32 bits where the instruction's s bit acts,
else wrapped to 40 bits; Z and N come from the 40-bit result, and SV or V sticks. -/
def Obligations.AccumulatorsTakeResults : Prop :=
  ∀ (e : Nat) (s : State) (f : FmtA), s.canIssue e = true → f.rsv = 0 → 12 ≤ f.d → f.d < 16 →
    let r := (s.eng e).bank
    let k := f.d - 12
    IssuesBank (.leAclr e f) e s (r.TakesAcc · k false 0) ∧
    (f.a < 8 → IssuesBank (.leAins e f) e s (r.TakesAcc · k false (signed 32 (r.dOf f.a)))) ∧
    (12 ≤ f.a → f.a < 16 →
      let v := r.accOf (f.a - 12)
      (12 ≤ f.b → f.b < 16 → IssuesBank (.leAadd e f) e s (r.TakesAcc · k f.s (v + r.accOf (f.b - 12))) ∧
        IssuesBank (.leAsub e f) e s (r.TakesAcc · k f.s (v - r.accOf (f.b - 12)))) ∧
      IssuesBank (.leAneg e f) e s (r.TakesAcc · k f.s (-v)) ∧ IssuesBank (.leAabs e f) e s (r.TakesAcc · k f.s (if v < 0 then -v else v)) ∧
      IssuesBank (.leAshl e f) e s (r.TakesAcc · k f.s (v * 2 ^ f.b)) ∧ IssuesBank (.leAshr e f) e s (r.TakesAcc · k false (v / 2 ^ f.b)) ∧
      (f.b < 8 → IssuesBank (.leAshv e f) e s (r.TakesAcc · k f.s
        (if signed 6 (r.dOf f.b) < 0 then v / 2 ^ (-(signed 6 (r.dOf f.b))).toNat else v * 2 ^ (signed 6 (r.dOf f.b)).toNat))) ∧
      IssuesBank (.leArnd e f) e s (r.TakesAcc · k false (r.round v / 65536 * 65536)) ∧
      IssuesBank (.leAmov e f) e s (r.TakesAcc · k false v))

/-- Format M instructions (R252, R257, R259): real and complex products of the feed registers as they stood are accumulated or
replace the accumulators, and the two moves load their feed registers and advance their index registers.
A filter tap (R260) multiplies the words that its moves load, accumulates, and writes the X word one place up the delay line. -/
def Obligations.ProductsAndFilterTaps : Prop :=
  (∀ (e : Nat) (s : State) (f : FmtM), s.canIssue e = true → f.rsv = 0 → f.a < 4 → (s.eng e).canMove f = true →
     let x := s.eng e
     let r := x.bank
     let u := r.f.get f.u
     let w := r.f.get f.w
     let p := fun (a b : Int) => (r.prod a b).1
     let q := fun (a b : Int) => (r.prod a b).2
     let cre := p (re u) (re w) - p (im u) (im w)
     let cim := p (re u) (im w) + p (im u) (re w)
     let any := q (re u) (re w) || q (im u) (im w) || q (re u) (im w) || q (im u) (re w)
     let jre := p (re u) (re w) - p (im u) (-(im w))
     let jim := p (re u) (-(im w)) + p (im u) (re w)
     let jany := q (re u) (re w) || q (im u) (-(im w)) || q (re u) (-(im w)) || q (im u) (re w)
     let does := fun (l : List (Nat × Int)) (sv : Bool) (b : Bank) => r.Accumulates b f.s l sv ∧ x.Moved f b
     (∀ a b : Int, r.prod a b = (if r.flag St.im then (a * b, false) else if a = -32768 ∧ b = -32768 then (0x7FFFFFFF, true) else (2 * a * b, false))) ∧
     IssuesBank (.leFeed e f) e s (does [] false) ∧
     IssuesBank (.leMac e f) e s (does [(f.a, r.accOf f.a + p (re u) (re w))] (q (re u) (re w))) ∧
     IssuesBank (.leMsu e f) e s (does [(f.a, r.accOf f.a - p (re u) (re w))] (q (re u) (re w))) ∧
     IssuesBank (.leMpy e f) e s (does [(f.a, p (re u) (re w))] (q (re u) (re w))) ∧
     (f.a = 0 ∨ f.a = 2 →
       IssuesBank (.leCmac e f) e s (does [(f.a, r.accOf f.a + cre), (f.a + 1, r.accOf (f.a + 1) + cim)] any) ∧
       IssuesBank (.leCmacc e f) e s (does [(f.a, r.accOf f.a + jre), (f.a + 1, r.accOf (f.a + 1) + jim)] jany) ∧
       IssuesBank (.leCmsu e f) e s (does [(f.a, r.accOf f.a - cre), (f.a + 1, r.accOf (f.a + 1) - cim)] any) ∧
       IssuesBank (.leCmpy e f) e s (does [(f.a, cre), (f.a + 1, cim)] any) ∧
       IssuesBank (.leCmpyc e f) e s (does [(f.a, jre), (f.a + 1, jim)] jany)) ∧
     (f.a = 0 →
       IssuesBank (.leQmac e f) e s (does [(0, r.accOf 0 + p (re u) (re w)), (1, r.accOf 1 + p (re u) (im w)), (2, r.accOf 2 + p (im u) (re w)),
         (3, r.accOf 3 + p (im u) (im w))] any) ∧
       IssuesBank (.leQmpy e f) e s (does [(0, p (re u) (re w)), (1, p (re u) (im w)), (2, p (im u) (re w)), (3, p (im u) (im w))] any))) ∧
  (∀ (e : Nat) (s : State) (f : FmtM) (mx my : Move), s.canIssue e = true → f.rsv = 0 → f.a < 4 → (s.eng e).canMove f = true →
     parseMove f.xm = some (some mx) → parseMove f.ym = some (some my) →
     let x := s.eng e
     let r := x.bank
     let ax := r.idx.get mx.i
     let xv := x.word false ax
     let yv := x.word true (r.idx.get (4 + my.i))
     let p := fun (a b : Int) => (r.prod a b).1
     let q := fun (a b : Int) => (r.prod a b).2
     let line := fun (y : Ladle) => y = { x.setBank y.bank with x := y.x } ∧ x.Moved f y.bank ∧
       (∀ j, j < 4 → y.x.byte ((x.advance mx.i 4 ax + j) % 65536) = (le 4 xv).getD j 0) ∧
       ∀ c, (∀ j, j < 4 → c ≠ (x.advance mx.i 4 ax + j) % 65536) → y.x.byte c = x.x.byte c
     (f.a = 0 ∨ f.a = 2 → Issues (.leFirmv e f) e s fun y => line y ∧ r.Accumulates y.bank f.s
       [(f.a, r.accOf f.a + (p (re xv) (re yv) - p (im xv) (im yv))), (f.a + 1, r.accOf (f.a + 1) + (p (re xv) (im yv) + p (im xv) (re yv)))]
       (q (re xv) (re yv) || q (im xv) (im yv) || q (re xv) (im yv) || q (im xv) (re yv))) ∧
     Issues (.leFirmvr e f) e s fun y => line y ∧ r.Accumulates y.bank f.s [(f.a, r.accOf f.a + p (re xv) (re yv))] (q (re xv) (re yv)))

/-- Loads and stores of X and Y memory (R255, R257, R258): a load fills its register from the addressed word or half, a store
writes the register's bytes and no others, and post-modify advances the index register. -/
def Obligations.LoadsAndStores : Prop :=
  ∀ (e : Nat) (s : State) (f : FmtL), s.canIssue e = true → f.mode < 3 → f.reg < 16 → ∀ y : Bool,
    let x := s.eng e
    let r := x.bank
    let j := f.i + (if y then 4 else 0)
    let a := if f.mode = 0 then r.idx.get j else if f.mode = 1 then (r.idx.get j + f.off) % 65536 else f.off % 65536
    let n := if f.half then 2 else 4
    let index := fun (b : Bank) => (∀ k, k ≠ j → b.idx.get k = r.idx.get k) ∧
      b.idx.get j = if f.mode = 0 then x.advance j (x.stepOf j f.step) (r.idx.get j) else r.idx.get j
    a % n = 0 → a < 65536 →
    (let word := x.seenWord y a
      let v := if f.half then twos 32 (signed 16 (word / 2 ^ (8 * (a % 4)) % 65536)) else word
      (f.reg < 8 → IssuesBank (if y then .leLdy e f else .leLdx e f) e s fun b => b.dOf f.reg = v % 2 ^ 32 ∧
        (∀ k, k ≠ f.reg → b.dOf k = r.dOf k) ∧ b = { r with d := b.d, idx := b.idx } ∧ index b) ∧
      (8 ≤ f.reg → f.reg < 12 → IssuesBank (if y then .leLdy e f else .leLdx e f) e s fun b => b.f.get (f.reg - 8) = v % 2 ^ 32 ∧
        (∀ k, k ≠ f.reg - 8 → b.f.get k = r.f.get k) ∧ b = { r with f := b.f, idx := b.idx } ∧ index b) ∧
      (12 ≤ f.reg → IssuesBank (if y then .leLdy e f else .leLdx e f) e s fun b => b.accOf (f.reg - 12) = signed 32 v ∧
        (∀ k, k ≠ f.reg - 12 → b.acc.get k = r.acc.get k) ∧ b = { r with acc := b.acc, idx := b.idx } ∧ index b)) ∧
    let acc := r.accOf (f.reg - 12)
    let high := r.round acc / 65536
    let v := if f.reg < 8 then r.dOf f.reg else if f.reg < 12 then r.f.get (f.reg - 8)
      else if f.half then twos 16 (sat high 16) else twos 32 (sat acc 32)
    let clamps := decide (12 ≤ f.reg) && (if f.half then decide (sat high 16 ≠ high) else decide (sat acc 32 ≠ acc))
    Issues (if y then .leSty e f else .leStx e f) e s fun z => (z.mem y).read a n = le n v ∧
      (∀ c, c < a ∨ a + n ≤ c → (z.mem y).byte c = (x.mem y).byte c) ∧ z.mem (!y) = x.mem (!y) ∧
      z.exposed = x.exposed ++ [{ y := y, addr := a / 4 * 4, old := x.word y (a / 4 * 4), left := 3 }] ∧
      z = { x.setBank z.bank with x := z.x, y := z.y, exposed := z.exposed } ∧ index z.bank ∧
      z.bank.flag St.sv = (r.flag St.sv || clamps) ∧ r.Keeps z.bank [St.z, St.n, St.c, St.v, St.im, St.rnd, St.ie] ∧
      z.bank = { r with idx := z.bank.idx, st := z.bank.st }

/-- Control flow (R262, R263, R271): branches, calls, returns and loops outside a loop's last word; a loop's last word returns to
its start while passes remain; RETI of a completed handler returns to the thread; WAIT sleeps or finds its wake condition. -/
def Obligations.ControlFlowFollowsTheTable : Prop :=
  ∀ (e : Nat) (s : State), s.canIssue e = true →
    let x := s.eng e
    let r := x.bank
    (∀ f : FmtS, Issues (.leNop e f) e s fun y => y = x ∧
      ((r.lpc = 0 ∨ x.pc ≠ r.lpe) → y.nextWord = { x with pc := (x.pc + 1) % 16384 }) ∧
      (1 < r.lpc → x.pc = r.lpe → y.nextWord = { x.setBank { r with lpc := r.lpc - 1 } with pc := r.lps }) ∧
      (r.lpc = 1 → r.lpc2 = 0 → x.pc = r.lpe → y.nextWord.pc = (x.pc + 1) % 16384 ∧ y.nextWord.bank.lpc = 0)) ∧
    (x.atLoopEnd = false →
      let next := x.pc + 1
      (∀ f : FmtB, f.rsv = 0 →
        let take := [true, r.flag St.z, !r.flag St.z, r.flag St.n, !r.flag St.n, !r.flag St.z && !r.flag St.n, r.flag St.z || r.flag St.n,
          r.flag St.v, r.flag St.c].getD f.cond false
        (f.cond ≤ 8 → Jumps (.leBr e f) e s x (if take then f.target else next)) ∧
        (f.cond ≤ 8 → f.reg < 8 → Jumps (.leBri e f) e s x (if take then r.dOf f.reg % 16384 else next)) ∧
        Jumps (.leCall e f) e s (x.setBank { r with lr := next % 16384 }) f.target ∧
        (f.reg < 8 → Jumps (.leCalli e f) e s (x.setBank { r with lr := next % 16384 }) (r.dOf f.reg % 16384)) ∧
        Jumps (.leRet e f) e s x r.lr ∧
        (r.lpc2 = 0 ∨ r.lpc = 0 →
          let enters := fun (n : Nat) => { (if r.lpc = 0 then r else { r with lpc2 := r.lpc, lps2 := r.lps, lpe2 := r.lpe }) with
            lpc := n
            lps := next % 16384
            lpe := f.target % 16384 }
          (f.reg < 8 → Jumps (.leLoop e f) e s (if r.dOf f.reg % 65536 = 0 then x else x.setBank (enters (r.dOf f.reg % 65536)))
            (if r.dOf f.reg % 65536 = 0 then f.target + 1 else next)) ∧
          Jumps (.leLoopi e f) e s (if f.cond * 16 + f.reg = 0 then x else x.setBank (enters (f.cond * 16 + f.reg)))
            (if f.cond * 16 + f.reg = 0 then f.target + 1 else next)) ∧
        (∀ h : Handler, x.stack = [h] → h.completed = true → (∀ i, i < 64 → s.irqTarget i = e → s.irqLevel i = false) →
          x.soft = 0 → Answers (.leReti e f) s fun t => t = updEng e (fun _ => { x.age with stack := [], pc := x.threadPc }) s)) ∧
      (∀ f : FmtS, bits x.pwrm 3 2 ≠ 0 → x.pwrm % 4 ≠ 3 →
        (s.wakes e = false → Answers (.leWait e f) s fun t =>
          t = updEng e (fun _ => { x.age with sleep := [Sleep.idle, .nap, .dormant].getD (x.pwrm % 4) .awake }) s) ∧
        (s.wakes e = true → Answers (.leWait e f) s fun t => (t.eng e).sleep = .awake ∧ (t.eng e).pc = (x.pc + 1) % 16384 ∧
          t = { s with task := { s.task with eng := t.task.eng }, cfg := t.cfg })))

/-- Ports, special registers and mode bits (R262, R265, R272): IN and OUT reach PWRM and nothing at an unassigned address, IN of
JOB_FETCH blocks without a job, MFS and MTS move special registers, SETM and CLRM change ST[7:3] only, FENCE ends exposed stores,
and BREAK halts an unlocked engine or raises the fault exception with cause 8. -/
def Obligations.SystemInstructions : Prop :=
  ∀ (e : Nat) (s : State) (f : FmtS), s.canIssue e = true →
    let x := s.eng e
    let r := x.bank
    (f.reg < 8 →
      (f.io = 0x060 → IssuesBank (.leIn e f) e s fun b => b.dOf f.reg = x.pwrm % 2 ^ 32 ∧ (∀ k, k ≠ f.reg → b.dOf k = r.dOf k) ∧
        b = { r with d := b.d }) ∧
      (0x100 ≤ f.io → IssuesBank (.leIn e f) e s fun b => b.dOf f.reg = 0 ∧ (∀ k, k ≠ f.reg → b.dOf k = r.dOf k) ∧ b = { r with d := b.d }) ∧
      (f.io = 0 → (s.runner e).job = none → (s.runner e).buf = none → s.queuesWithJobs = [] → Answers (.leIn e f) s fun t =>
        (t.runner e).fetch = some (some f.reg) ∧ (t.eng e).pc = x.pc ∧ t.task.waiters = s.task.waiters.filter (· != e) ++ [e] ∧
        t = { s with task := t.task }) ∧
      (f.io = 0x060 → Issues (.leOut e f) e s fun y => y = { x with pwrm := r.dOf f.reg % 16 }) ∧
      (0x100 ≤ f.io → Issues (.leOut e f) e s fun y => y = x) ∧
      (f.sreg ≤ 34 → IssuesBank (.leMfs e f) e s fun b => b.dOf f.reg = x.special e s.time.cycles f.sreg % 2 ^ 32 ∧
        (∀ k, k ≠ f.reg → b.dOf k = r.dOf k) ∧ b = { r with d := b.d }) ∧
      (f.sreg ≤ 34 → Issues (.leMts e f) e s fun y =>
        (f.sreg < 24 ∨ f.sreg = 26 ∨ f.sreg = 29 ∨ f.sreg = 30 → y.special e s.time.cycles f.sreg = r.dOf f.reg % 65536) ∧
        (25 ≤ f.sreg → f.sreg ≤ 28 → f.sreg ≠ 26 → y.special e s.time.cycles f.sreg = r.dOf f.reg % 16384) ∧
        (f.sreg = 31 → y.vbase = r.dOf f.reg % 16384 / 128 * 128) ∧ (f.sreg = 24 → y.bank = { r with st := r.dOf f.reg % 256 }) ∧
        (32 ≤ f.sreg → y = x) ∧ (∀ n, n ≤ 34 → n ≠ f.sreg → y.special e s.time.cycles n = x.special e s.time.cycles n))) ∧
    IssuesBank (.leSetm e f) e s (fun b => (∀ n, n < 8 → b.flag n = (r.flag n || (decide (3 ≤ n) && f.io.testBit n))) ∧ b = { r with st := b.st }) ∧
    IssuesBank (.leClrm e f) e s (fun b => (∀ n, n < 8 → b.flag n = (r.flag n && !(decide (3 ≤ n) && f.io.testBit n))) ∧ b = { r with st := b.st }) ∧
    Issues (.leFence e f) e s (fun y => y = { x with exposed := [] }) ∧
    (s.sec.debugPerms.testBit 0 = true → Answers (.leBreak e f) s fun t => t = updEng e (fun _ => { x.age with debugHalt := true }) s) ∧
    (s.sec.debugPerms.testBit 0 = false → x.stack = [] → Answers (.leBreak e f) s fun t => (t.eng e).faultCause = 8 + x.pc * 2 ^ 16 ∧
      (t.eng e).pc = (x.vbase + 64) % 16384 ∧ ((t.eng e).stack.map fun h => h.source) = [0x40] ∧
      ((t.eng e).threadPc = x.pc % 16384 ∨ (t.eng e).threadPc = (x.pc + 1) % 16384) ∧ (t.eng e).bank0 = x.bank0 ∧ (t.eng e).x = x.x ∧
      (∀ k, k ≠ e → t.eng k = s.eng k))

/-- Jobs (R273 to R278, R281, R285): a fetch returns the head of the queue or waits, JOB_DONE completes the job, POST_CTL posts at
the tail, the watchdog recasts the engine, a wake goes on after the WAIT, and an unload takes the slot off the engine.
Weight pushes and Sprue ports (R265, R389): WL_PUSH with credit puts its entry at the tail of every named FIFO, DMA_GO of the
channel's owner hands its list over, and DMA_STATUS takes the oldest completion. -/
def Obligations.JobsWeightPushesAndLists : Prop :=
  (∀ (s : State) (e : Nat), e < 32 →
     (s.canAct e = true → (s.runner e).job = none →
       (∀ j : Job, (s.runner e).buf = some j → j.kind ≠ 1 → Answers (.jobFetch e) s fun t => (t.runner e).job = some j ∧
         (t.runner e).buf = none ∧ (t.runner e).arg = j.arg ∧ (t.runner e).info = j.queue * 2 ^ 24 + j.kind * 2 ^ 20 + j.seq ∧
         t.task.q = s.task.q ∧ (∀ k, t.eng k = s.eng k) ∧ (∀ k, k ≠ e → t.runner k = s.runner k) ∧ t = { s with task := t.task }) ∧
       ((s.runner e).buf = none → s.queuesWithJobs = [] → Answers (.jobFetch e) s fun t => (t.runner e).fetch = some none ∧
         t.task.waiters = s.task.waiters.filter (· != e) ++ [e] ∧ t.task.q = s.task.q ∧ t.task.eng = s.task.eng ∧ t = { s with task := t.task })) ∧
     (∀ (j : Job) (status : Nat), s.canAct e = true → (s.runner e).job = some j → j.kind ≠ 1 → s.task.waiters = [] →
       Answers (.jobDone e status) s fun t => (t.runner e).job = none ∧ t.task.q = s.task.q ∧ t.task.eng = s.task.eng ∧
         (∀ k, k ≠ e → t.runner k = s.runner k) ∧ Mail { s with task := t.task } t) ∧
     (∀ arg v : Nat, s.canAct e = true → s.mayPost e (v % 256) = true → bits v 19 8 ≠ 0 → s.task.waiters = [] →
       (s.jobq (v % 256)).jobs.length < s.parN Prm.taskQueueDepth (v % 256) →
       Answers (.postCtl e arg v) s fun t => (t.runner e).postStatus = 0 ∧ (t.runner e).postArg = arg % 2 ^ 32 ∧
         (t.jobq (v % 256)).jobs = (s.jobq (v % 256)).jobs ++ [
           { queue := v % 256
             kind := 0
             arg := arg % 2 ^ 32
             cost := bits v 19 8
             barrier := v.testBit 20
             seq := (s.jobq (v % 256)).seq }] ∧ (∀ q, q ≠ v % 256 → t.jobq q = s.jobq q) ∧ t.task.eng = s.task.eng ∧
         Mail { s with task := t.task } t) ∧
     (∀ j : Job, (s.runner e).job = some j → s.parN Prm.ladleJobWatchdogUs e ≠ 0 → (s.runner e).buf = none →
       (s.runner e).since + s.parN Prm.ladleJobWatchdogUs e * 1000 < s.now → s.task.waiters = [] → s.power.st = .run → s.recast.jobs = [] →
       s.recast.held = false → (∀ x ∈ s.pkt.wb, x.2.owner ≠ enginePort e) →
       Answers (.jobWatchdog e) s fun t => (t.runner e).job = none ∧ (t.eng e).halted = true ∧ (t.eng e).stack = [] ∧
         (∃ x ∈ t.recast.jobs, x.unit = ⟨0, 0x0A, e⟩) ∧ (∀ k, k ≠ e → t.runner k = s.runner k) ∧ (∀ k, k ≠ e → t.eng k = s.eng k) ∧
         t.pkt = s.pkt ∧ t.dma = s.dma) ∧
     ((s.eng e).sleep = .idle ∨ (s.eng e).sleep = .nap → s.wakes e = true → Answers (.engineWake e) s fun t =>
       t = updEng e (fun x => { x with sleep := .awake, pc := (x.pc + 1) % 16384 }) s) ∧
     (∀ (k : Nat) (i : Install), s.task.install = [i] → i.slot = k → i.kernel = none → i.left = [e, e + 1] → (s.runner e).job = none →
       Answers (.kernelInstall k e) s fun t => (t.task.install.map fun x => (x.slot, x.left)) = [(k, [e + 1])] ∧ t.task.q = s.task.q ∧
         t.task.slot = s.task.slot ∧ (∀ j, j ≠ e → t.eng j = s.eng j) ∧ Mail { s with task := t.task } t)) ∧
  (∀ (s : State) (e : Nat), e < 32 → s.canAct e = true →
     (∀ mask entry : Nat, entry < 2 ^ 512 → s.wlCredit mask = true → Answers (.wlPush e mask entry) s fun t =>
       (∀ k, k < 8 → (t.mould k).fifo = (s.mould k).fifo ++ (if mask.testBit k then [entry] else [])) ∧
       (∀ k, k < 8 → t.mould k = { s.mould k with fifo := (t.mould k).fifo }) ∧ (t.eng e).wlStall = false ∧
       t.beam.radio = s.beam.radio ∧ (∀ k, k ≠ e → t.eng k = s.eng k) ∧ t = { s with beam := t.beam, task := { s.task with eng := t.task.eng } }) ∧
     (∀ mask entry k : Nat, k < 8 → mask.testBit k = true → 256 ≤ (s.mould k).fifo.length → Answers (.wlPush e mask entry) s fun t =>
       (t.eng e).wlStall = true ∧ t = { s with task := { s.task with eng := t.task.eng } }) ∧
     (∀ (j : Job) (v a : Nat), (s.runner e).job = some j → v < 32 → a < 2 ^ 64 → s.parN Prm.taskQueueSlot j.queue < 64 →
       s.chanOwner (32 * (e / 4) + v) = s.parN Prm.taskQueueSlot j.queue → 2 ≤ (s.kernel (s.parN Prm.taskQueueSlot j.queue)).abi →
       s.par Prm.dmaEngineEnable (e / 4) ≠ 0 → s.dma.chan.get (32 * (e / 4) + v) = none →
       Answers (.dmaGo e v a) s fun t => t.dma.chan.get (32 * (e / 4) + v) = some a ∧
         (∀ c, c ≠ 32 * (e / 4) + v → t.dma.chan.get c = s.dma.chan.get c) ∧ t.dma.ddr = s.dma.ddr ∧ t.dma.sprue = s.dma.sprue ∧
         t = { s with dma := t.dma, task := { s.task with eng := t.task.eng } }) ∧
     (∀ (st k tag : Nat) (rest : List (Nat × Nat × Nat)), (s.sprue (e / 4)).cq = (st, k, tag) :: rest → Answers (.dmaStatus e) s fun t =>
       (t.eng e).lastRead = 2 ^ 31 + st * 2 ^ 27 + k * 2 ^ 22 + tag ∧ (t.sprue (e / 4)).cq = rest ∧
       (∀ n, n ≠ e / 4 → t.sprue n = s.sprue n) ∧ t.dma.chan = s.dma.chan ∧ t = { s with dma := t.dma, task := { s.task with eng := t.task.eng } }))

/-- The interrupt controller (R265, R267 to R270): an eligible source enters its handler from the thread, ICU_CLAIM and
ICU_COMPLETE act on the innermost entry, any other write of ICU_COMPLETE counts and raises the fault exception with cause 5, a
completed source whose level is high is a candidate again and is taken only over the current group (R270), the mask, pending and acknowledge ports act for the writer's own sources, and a timer
raises its level at its compare. -/
def Obligations.InterruptsAreTakenAndAcknowledged : Prop :=
  ∀ (s : State) (e : Nat), e < 32 →
    (∀ i : Nat, s.inService e = true → (s.eng e).debugHalt = false → (s.eng e).sleep = .awake → (s.eng e).stack = [] →
      (s.eng e).bank0.flag St.ie = true → s.candidates e = [i] → (s.runner e).fetch = none →
      Answers (.interruptEntry e false) s fun t => t = updEng e (fun x => { x with
        threadPc := x.pc
        pc := (x.vbase + i) % 16384
        stack := [{ source := i, group := s.irqGroup (s.irqPriority i) }] }) s) ∧
    (∀ t : Nat, t < 4 → (s.task.timer.get t).armed = true → (s.task.timer.get t).lo + (s.task.timer.get t).hi * 2 ^ 32 ≤ s.now →
      Answers (.timerCompare t) s fun u => u.irqLevel (56 + t) = true ∧ (u.task.timer.get t).armed = false ∧
        (∀ k, k ≠ t → u.task.timer.get k = s.task.timer.get k) ∧ u = { s with task := u.task } ∧ u.task.eng = s.task.eng) ∧
    (s.canAct e = true →
      (∀ (h : Handler) (rest : List Handler), (s.eng e).stack = h :: rest → h.source < 0x40 →
        (h.claimed = false → s.irqLevel h.source = true → Answers (.icuClaim e) s fun t => (t.eng e).lastRead = h.source ∧
          (t.eng e).stack = { h with claimed := true } :: rest ∧ (t.eng e).soft.testBit h.source = false ∧
          (∀ i, i ≠ h.source → (t.eng e).soft.testBit i = (s.eng e).soft.testBit i) ∧ (∀ k, k ≠ e → t.eng k = s.eng k) ∧
          t = { s with task := { s.task with eng := t.task.eng } }) ∧
        (h.claimed = true → Answers (.icuComplete e h.source) s fun t =>
          t = updEng e (fun x => { x with stack := { h with completed := true } :: rest }) s)) ∧
      (∀ v : Nat, (∀ h ∈ (s.eng e).stack.head?, h.source = v → h.claimed = false) →
        Answers (.icuComplete e v) s fun t => t = faultEntry e 5 (bump Prm.ladleIrqOoo e s)) ∧
      (∀ (h : Handler) (rest : List Handler), (s.eng e).stack = h :: rest → h.completed = true →
        (h.source < 64 → s.irqTarget h.source = e → s.irqPriority h.source ≠ 0 → s.irqLevel h.source = true →
          (s.eng e).mask.testBit h.source = false → rest.all (fun k => k.source != h.source) = true → h.source ∈ s.candidates e) ∧
        ((s.candidates e).all (fun i => decide (s.irqGroup (s.irqPriority i) ≤ h.group)) = true →
          Answers (.interruptEntry e false) s fun t => t = s)) ∧
      (∀ hi v : Nat, hi < 2 → v < 2 ^ 32 →
        let own := fun (i : Nat) => s.irqTarget i == e && decide (32 * hi ≤ i) && v.testBit (i - 32 * hi)
        let only := fun (t : State) => (∀ k, k ≠ e → t.eng k = s.eng k) ∧ t = { s with task := { s.task with eng := t.task.eng } }
        (Answers (.maskSet e hi v) s fun t => (∀ i, i < 64 → (t.eng e).mask.testBit i = ((s.eng e).mask.testBit i || own i)) ∧
          (t.eng e).soft = (s.eng e).soft ∧ only t) ∧
        (Answers (.maskClr e hi v) s fun t => (∀ i, i < 64 → (t.eng e).mask.testBit i = ((s.eng e).mask.testBit i && !own i)) ∧
          (t.eng e).soft = (s.eng e).soft ∧ only t) ∧
        (Answers (.pendSet e hi v) s fun t => (∀ i, i < 64 → (t.eng e).soft.testBit i = ((s.eng e).soft.testBit i || own i)) ∧
          (t.eng e).mask = (s.eng e).mask ∧ only t) ∧
        (Answers (.pendClr e hi v) s fun t => (∀ i, i < 64 → (t.eng e).soft.testBit i = ((s.eng e).soft.testBit i && !own i)) ∧
          (t.eng e).mask = (s.eng e).mask ∧ only t)) ∧
      (∀ r : Nat, r < 3 →
        (Answers (.roundAck e r) s fun t => t.task.roundLevel.get r = (s.task.roundLevel.get r && s.irqTarget (8 + r) != e) ∧
          (∀ q, q ≠ r → t.task.roundLevel.get q = s.task.roundLevel.get q) ∧ t = { s with task := { s.task with roundLevel := t.task.roundLevel } }) ∧
        (Answers (.swpAck e r) s fun t => t.task.swpLevel.get r = (s.task.swpLevel.get r && s.irqTarget (11 + r) != e) ∧
          (∀ q, q ≠ r → t.task.swpLevel.get q = s.task.swpLevel.get q) ∧ t = { s with task := { s.task with swpLevel := t.task.swpLevel } })) ∧
      (Answers (.secAck e) s fun t => t.task.secLevel = (s.task.secLevel && s.irqTarget 60 != e) ∧
        t = { s with task := { s.task with secLevel := t.task.secLevel } }) ∧
      (∀ n : Nat, n < 4 → Answers (.tmrAck e n) s fun t =>
        (t.task.timer.get n).level = ((s.task.timer.get n).level && s.irqTarget (56 + n) != e) ∧
        (t.task.timer.get n).armed = (s.task.timer.get n).armed ∧ (∀ k, k ≠ n → t.task.timer.get k = s.task.timer.get k) ∧
        t = { s with task := { s.task with timer := t.task.timer } }) ∧
      (∀ v : Nat, v < 32 → Answers (.dbSet e v) s fun t => t = updEng v (fun x => { x with doorbell := true }) s) ∧
      (Answers (.dbClr e) s fun t => t = updEng e (fun x => { x with doorbell := false }) s))

/-- Activation of the PON terminal (Table 10-5, R297 to R299, R303, R307, R313, R320): what each downstream PLOAM message and each
timer does in the states that act on it, and that a message whose MIC fails is counted and discarded. -/
def Obligations.ActivationFollowsPloam : Prop :=
  ∀ s : State, s.ponSynced = true →
    let kept := fun (t : State) => t.pon.sync = s.pon.sync ∧ t.pon.sent = s.pon.sent ∧ t.pon.fifo = s.pon.fifo ∧ Mail { s with pon := t.pon } t
    let acks := fun (seq : Nat) (c : AckCode) (t : State) => t.pon.ploam = s.pon.ploam ++ [.acknowledge seq c]
    let freed := fun (t : State) => t.pon.onuId = 1023 ∧ t.pon.eqd = 0 ∧ t.pon.alloc = [] ∧ t.ponKey 3 = {} ∧ t.ponKey 4 = {}
    (s.pon.st ≠ .off → ∀ (n : Nat) (p : PonProfile) (v : Int) (b : Bool),
      ∀ c ∈ [Instr.burstProfile false b n n p, .assignOnuId false n n n, .rangingTime false b n b v, .deactivateOnuId false,
        .disableSerialNumber false b none, .requestRegistration false, .assignAllocId false n n b, .keyControl false n, .sleepAllow false b,
        .unsupportedPloam false n], Answers c s fun t => t = bump Prm.ponPloamMicErr 0 s) ∧
    (∀ (i seq : Nat) (p : PonProfile), i < 4 →
      (s.pon.st = .o12 → Answers (.burstProfile true false seq i p) s fun t => t.pon.profile.get i = some p ∧
        (∀ j, j ≠ i → t.pon.profile.get j = s.pon.profile.get j) ∧ t.pon.st = .o23 ∧ freed t ∧ t.pon.ploam = s.pon.ploam ∧
        t.pon.serial = (s.par Prm.ponSnSerial 0).toNat ∧ t.pon.sent = s.pon.sent ∧ Mail { s with pon := t.pon, sec := t.sec } t) ∧
      (s.pon.st = .o51 → s.pon.onuId ≠ 1023 → Answers (.burstProfile true true seq i p) s fun t => t.pon.profile.get i = some p ∧
        (∀ j, j ≠ i → t.pon.profile.get j = s.pon.profile.get j) ∧ t.pon.st = .o51 ∧ acks seq .ok t ∧ t.pon.onuId = s.pon.onuId ∧
        t.evt = s.evt ∧ kept t)) ∧
    (∀ id : Nat, s.pon.st = .o23 → id < 1023 → Answers (.assignOnuId true id s.pon.vendor s.pon.serial) s fun t => t.pon.st = .o4 ∧
      t.pon.onuId = id ∧ t.pon.alloc.get 0 = { used := true, allocId := id } ∧ t.pon.profile = s.pon.profile ∧ kept t) ∧
    (∀ v : Nat, s.pon.st = .o4 → Answers (.rangingTime true false 0 false v) s fun t => t.pon.st = .o51 ∧ t.pon.eqdNext = some v ∧
      t.pon.eqd = s.pon.eqd ∧ t.pon.onuId = s.pon.onuId ∧ (t.ponKey 0).usage = 8 ∧ (t.ponKey 1).usage = 8 ∧ (t.ponKey 2).usage = 7 ∧
      Mail { s with pon := t.pon, sec := t.sec } t) ∧
    (∀ (v : Int) (seq : Nat), s.pon.st = .o51 → s.pon.onuId ≠ 1023 → s.pon.eqdNext = none → 0 ≤ s.pon.eqd + v →
      Answers (.rangingTime true true seq true v) s fun t => t.pon.eqdNext = some (s.pon.eqd + v).toNat ∧ t.pon.st = .o51 ∧ acks seq .ok t ∧ kept t) ∧
    (s.pon.st = .o4 ∨ s.pon.st = .o51 → Answers (.deactivateOnuId true) s fun t => t.pon.st = .o23 ∧ freed t ∧
      t.pon.profile = s.pon.profile ∧ Mail { s with pon := t.pon, sec := t.sec } t) ∧
    (s.pon.st ≠ .off → s.pon.st ≠ .o7 → Answers (.disableSerialNumber true true none) s fun t => t.pon.st = .o7 ∧ t.fw.ponO7 = true ∧
      t.pon.profile = s.pon.profile ∧ Mail { s with pon := t.pon, fw := { s.fw with ponO7 := true } } t) ∧
    (s.pon.st = .o7 → s.pon.profile = [] → Answers (.disableSerialNumber true false none) s fun t => t.pon.st = .o12 ∧ freed t ∧
      Mail { s with pon := t.pon, sec := t.sec, fw := { s.fw with ponO7 := false } } t) ∧
    (s.pon.st ≠ .off → s.pon.onuId ≠ 1023 →
      (Answers (.requestRegistration true) s fun t => t.pon.ploam = s.pon.ploam ++ [.registration s.pon.regId] ∧ t.pon.st = s.pon.st ∧ kept t) ∧
      (∀ seq : Nat, Answers (.unsupportedPloam true seq) s fun t => acks seq .unknownMessage t ∧ t.pon.st = s.pon.st ∧ kept t) ∧
      (∀ seq i id : Nat, 0 < i → i < 64 → (∀ j, 0 < j → j < i → (s.pon.alloc.get j).used = true) → (s.pon.alloc.get i).used = false →
        (∀ j, j < 64 → (s.pon.alloc.get j).used = true → (s.pon.alloc.get j).allocId ≠ id) →
        Answers (.assignAllocId true seq id true) s fun t => t.pon.alloc.get i = { used := true, allocId := id } ∧ acks seq .ok t ∧
          (∀ j, j ≠ i → t.pon.alloc.get j = s.pon.alloc.get j) ∧ kept t) ∧
      (∀ seq i : Nat, 0 < i → i < 64 → (s.pon.alloc.get i).used = true →
        (∀ j, j < i → (s.pon.alloc.get j).used = true → (s.pon.alloc.get j).allocId ≠ (s.pon.alloc.get i).allocId) →
        Answers (.assignAllocId true seq (s.pon.alloc.get i).allocId false) s fun t => (t.pon.alloc.get i).used = false ∧ acks seq .ok t ∧
          (∀ j, j ≠ i → t.pon.alloc.get j = s.pon.alloc.get j) ∧ kept t) ∧
      (∀ i : Nat, i = 1 ∨ i = 2 → s.sec.rngFailed = false → Answers (.keyControl true i) s fun t => (t.ponKey (2 + i)).usage = 1 ∧
        (t.ponKey (2 + i)).key.length = 16 ∧
        t.pon.ploam = s.pon.ploam ++ [.keyReport i (Config.kekSeal (s.ponKey 2).key (t.ponKey (2 + i)).key)] ∧
        (∀ n, n ≠ 2 + i → t.ponKey n = s.ponKey n) ∧ Mail { s with pon := t.pon, sec := t.sec, free := t.free } t)) ∧
    (s.pon.st ≠ .off → s.par Prm.ponPsEnable 0 = 1 → s.pon.watch = .activeHeld → s.pon.watchAt + s.parN Prm.ponPsIholdMs 0 * 1000000 ≤ s.now →
      Answers (.sleepAllow true true) s fun t => t.pon.allow = true ∧ t.pon.watch = .activeFree ∧ t.pon.st = s.pon.st ∧ kept t) ∧
    (s.pon.st = .o4 → Answers .to1Expiry s fun t => t.pon.st = .o23 ∧ freed t ∧ Mail { s with pon := t.pon, sec := t.sec } t) ∧
    (s.pon.st = .o6 → Answers .to2Expiry s fun t => t.pon.st = .o11 ∧ freed t ∧ Mail { s with pon := t.pon, sec := t.sec } t)

/-- Downstream sync, defects and supervision of the PON terminal (Tables 10-4, 10-9 and 10-10, R289, R293, R301, R306, R319 to
R323): what a downstream frame, a change of the LOS or the transmit fault pin, a rogue detection, the time-of-day wait, the AUTO
dwell, the power-saving intervals, a poll of the optical module and the latch of the second do. -/
def Obligations.PonSyncAndSupervision : Prop :=
  ∀ s : State,
    let kept := fun (t : State) => Mail { s with pon := t.pon } t
    (∀ sfc corr uncorr he : Nat, s.par Prm.ponMode 0 ≠ 0 → s.ponLos = false → s.stopped ⟨1, 0x0B, 0⟩ = false →
      (s.pon.sync = .hunt → Answers (.ponDsFrame 0 true sfc corr uncorr he) s fun t => t.pon.sync = .presync ∧ t.pon.sfc = sfc ∧
        t.pon.st = s.pon.st ∧ t.evt = s.evt ∧ kept t) ∧
      (∀ errs : Nat, s.pon.sync = .sync → errs ≤ s.parN Prm.ponPsyncErrTol 0 → sfc = (s.pon.sfc + 1) % 2 ^ 51 → s.cfg.commits = [] →
        s.cfg.old = [] → s.cfg.tables = [] → s.par Prm.ponPsEnable 0 = 0 → s.pon.tod = none →
        Answers (.ponDsFrame errs true sfc corr uncorr he) s fun t => t.pon.sync = .sync ∧ t.pon.sfc = sfc ∧ t.pon.frameAt = s.now ∧
          t.pon.eqd = s.pon.eqdNext.getD s.pon.eqd ∧ t.pon.eqdNext = none ∧ t.pon.run.corrBits = s.pon.run.corrBits + corr ∧
          t.pon.run.rxBits = s.pon.run.rxBits + s.ponFrameBits ∧ t.pon.st = s.pon.st ∧ t.pon.watch = .activeHeld ∧ kept t) ∧
      (∀ errs : Nat, s.pon.sync = .resync → s.parN Prm.ponPsyncErrTol 0 < errs → s.parN Prm.ponSyncM1 0 ≤ s.pon.bad + 1 → s.pon.st = .o51 →
        Answers (.ponDsFrame errs true sfc corr uncorr he) s fun t =>
        t.pon.sync = .hunt ∧ t.pon.st = .o6 ∧ t.pon.onuId = s.pon.onuId ∧ t.pon.alloc = s.pon.alloc ∧ t.pon.sfc = s.pon.sfc ∧
        t.pon.defects.testBit 1 = true ∧ kept t)) ∧
    (∀ level : Bool, Answers (.ponLosChange level true) s fun t => t.pon.losPin = level ∧
      t.pon.defects.testBit 0 = (level != (s.parN Prm.ponPinPolarity 0).testBit 0) ∧
      t.pon.sync = (if level != (s.parN Prm.ponPinPolarity 0).testBit 0 then .hunt else s.pon.sync) ∧ t.pon.profile = s.pon.profile ∧
      Mail { s with pon := t.pon, sec := t.sec } t) ∧
    (∀ level : Bool, s.ponBen = true → (level != (s.parN Prm.ponPinPolarity 0).testBit 1) = true → Answers (.txFaultChange level false) s fun t =>
      t.pon.faultPin = level ∧ t.pon.defects.testBit 5 = true ∧ t.ponBen = false ∧ t.ponTxOff = true ∧ t.pon.st = s.pon.st ∧ kept t) ∧
    (∀ level : Bool, (level != (s.parN Prm.ponPinPolarity 0).testBit 1) = false → Answers (.txFaultChange level true) s fun t =>
      t.pon.defects.testBit 5 = false ∧ t.pon.st = s.pon.st ∧ t.pon.benUntil = s.pon.benUntil ∧ kept t) ∧
    (∀ cause : Nat, s.pon.defects.testBit 6 = false → cause = 1 ∨ cause = 2 → Answers (.rogueDetect cause) s fun t =>
      t.pon.defects.testBit 6 = true ∧ t.ponTxOff = true ∧ t.ponBen = false ∧ t.pon.st = s.pon.st ∧ kept t) ∧
    (∀ x : Nat × Nat × Nat, s.pon.tod = some x → Answers .todWaitTimeout s fun t => t.pon.tod = none ∧ t.pon.st = s.pon.st ∧ kept t) ∧
    (s.par Prm.ponMode 0 = 4 → s.pon.locked = false → s.pon.sync = .hunt →
      Answers .autoDwellExpiry s fun t => t.pon.tuned = (if s.pon.tuned = 1 ∧ ponCapable 3 = true then 3
          else if s.pon.tuned ≠ 1 ∧ ponCapable 1 = true then 1 else s.pon.tuned) ∧ t.pon.sync = .hunt ∧ t.pon.st = s.pon.st ∧
        t.evt = s.evt ∧ kept t) ∧
    (s.par Prm.ponPsEnable 0 = 1 → s.pon.st = .o51 → s.ponStimulus = false →
      (s.pon.watch = .activeHeld → s.pon.allow = true → Answers (.psIntervalExpiry 0) s fun t => t.pon.watch = .activeFree ∧
        t.pon.ploam = s.pon.ploam ∧ kept t) ∧
      (s.pon.watch = .activeFree → Answers (.psIntervalExpiry 1) s fun t => t.pon.watch = .lowPower ∧
        t.pon.ploam = s.pon.ploam ++ [.sleepRequest true] ∧ kept t) ∧
      (s.pon.watch = .lowPower → Answers (.psIntervalExpiry 2) s fun t => t.pon.watch = .aware ∧ t.pon.ploam = s.pon.ploam ∧ kept t)) ∧
    (∀ d : DdmRead, s.par Prm.ponDdmPeriodMs 0 ≠ 0 → d.cal = none → d.limits = [] → Answers (.ddmPoll (some d)) s fun t =>
      t.pon.ddm.fails = 0 ∧ (∀ i, i < 5 → t.pon.ddm.vals.get i = some (d.raw.getD i 0 % 65536)) ∧ t.pon.st = s.pon.st ∧ t.evt = s.evt ∧ kept t) ∧
    (s.par Prm.ponDdmPeriodMs 0 ≠ 0 → s.pon.ddm.fails = 2 → Answers (.ddmPoll none) s fun t => t.pon.ddm.fails = 3 ∧
      (∀ i, t.pon.ddm.vals.get i = none) ∧ t.pon.st = s.pon.st ∧ kept t) ∧
    (s.power.tbEntry = none → Answers .ponSecondLatch s fun t => t.pon.sec = s.pon.run ∧ t.pon.run = {} ∧
      (∀ i, (s.pon.alloc.get i).used = true → (t.pon.alloc.get i).sec = (s.pon.alloc.get i).run ∧ (t.pon.alloc.get i).run = 0 ∧
        (t.pon.alloc.get i).allocId = (s.pon.alloc.get i).allocId) ∧ t.pon.st = s.pon.st ∧ kept t)

/-- The PON data path (R295, R302 to R305, R311): a whole SDU is parsed, a fragment is kept, a grant of a held Alloc-ID schedules a
burst and is reported, a prefetch asks for its payload, and a burst goes out with what waits in its allocations. -/
def Obligations.PonDataMoves : Prop :=
  ∀ s : State,
    (∀ x : Xgem, s.ponSynced = true → s.stopped ⟨1, 0x0B, 0⟩ = false → x.idle = false → x.uncorr = false → x.full = false → x.key = 0 →
      (s.pon.sdu.get x.port).bad = false →
      (s.xgemDown x.port = none → x.last = true → Answers (.xgemFrameRx x) s fun t => t.pon.sdu.get x.port = {} ∧
        (∀ p, p ≠ x.port → t.pon.sdu.get p = s.pon.sdu.get p) ∧ t.pkt = s.pkt ∧ Mail { s with pon := t.pon } t) ∧
      (∀ i : Nat, s.xgemDown x.port = some i → bits (s.entryNat Tbl.ponXgem 0 i) 27 26 = 0 → x.last = false →
        (s.pon.sdu.get x.port).open_ = true → (s.pon.sdu.get x.port).data.length + x.data.length ≤ 16384 →
        Answers (.xgemFrameRx x) s fun t => t.pon.sdu.get x.port = { open_ := true, data := (s.pon.sdu.get x.port).data ++ x.data } ∧
          (∀ p, p ≠ x.port → t.pon.sdu.get p = s.pon.sdu.get p) ∧ t.pkt = s.pkt ∧ t.evt = s.evt ∧ Mail { s with pon := t.pon } t)) ∧
    (∀ (m : Allocation) (i : Nat) (p : PonProfile), s.ponSynced = true → m.serial = false → m.wake = false → m.ploamu = false → m.dbru = false →
      m.chained = false → s.allocIndex m.allocId = some i → s.pon.st = .o51 → s.pon.watch = .activeHeld → s.pon.profile.get m.profile = some p →
      s.pon.bursts = [] → s.wlan.grants.get i = [] → Answers (.bwmapAllocation m []) s fun t =>
        t.pon.bursts = [
          { us := s.pon.frameAt + 35000 + s.pon.eqd
            start := m.start
            stop := m.stop
            profile := m.profile
            ploamu := false
            slots := [{ index := i, payload := m.size, dbru := false }] }] ∧
        (t.pon.alloc.get i).run = satAdd 32 (s.pon.alloc.get i).run 1 ∧
        t.wlan.grants.get i = [(s.pon.frameAt + 35000 + s.pon.eqd + m.start / 1000, m.size)] ∧ t.pon.st = s.pon.st ∧
        Mail { s with pon := t.pon, wlan := t.wlan, cvn := t.cvn } t) ∧
    (∀ (i : Nat) (b : PonBurst) (x : PonSlot), s.pon.bursts = [b] → b.slots = [x] → x.index = i → x.wanted = none →
      Answers (.usPrefetch i) s fun t => t.pon.bursts = [{ b with slots := [{ x with wanted := some x.payload }] }] ∧
        t = { s with pon := t.pon } ∧ t.pon.fifo = s.pon.fifo) ∧
    (∀ (b : PonBurst) (rest : List PonBurst) (p : PonProfile) (x : PonSlot) (u : PonSdu), s.pon.bursts = b :: rest →
      s.pon.profile.get b.profile = some p → s.ponTxOff = false → s.pon.watch = .activeHeld → s.stopped ⟨1, 0x0B, 0⟩ = false →
      b.serial = false → b.ploamu = false → b.slots = [x] → x.dbru = false → s.pon.fifo.get x.index = [u] → u.secure = false →
      12 ≤ x.payload → x.payload - 8 < u.left.length → s.ponFault = false → Answers (.burstStart []) s fun t =>
        t.pon.bursts = rest ∧ t.pon.sent.length = s.pon.sent.length + 1 ∧ t.pon.sent.take s.pon.sent.length = s.pon.sent ∧
        (t.pon.sent.getLast?.map fun o => o.onuId) = some s.pon.onuId ∧
        (t.pon.sent.getLast?.map fun o => o.allocs) = some [(x.index, none, [{ port := u.port, key := 0, last := false, data := u.left.take (x.payload - 8) }])] ∧
        t.pon.fifo.get x.index = [{ u with left := u.left.drop (x.payload - 8) }] ∧
        t.pon.benUntil = b.us + b.stop / 1000 + s.parN Prm.ponBenLagNs 0 ∧ t.pkt = s.pkt ∧ t.evt = s.evt ∧
        Mail { s with pon := t.pon, cvn := t.cvn } t)

/-- Packets enter and leave the store (R328, R331 to R335, R338, R350): what an arrival, an allocation, a GIVE and a RELEASE do, in
the forms that succeed and in those that are refused or find nothing free. Which free waybill and buffer an allocation returns is
open. -/
def Obligations.PacketsEnterAndLeaveTheStore : Prop :=
  ∀ s : State,
    let kept := fun (t : State) => Mail { s with pkt := t.pkt, free := t.free } t
    let fits := fun (port n p : Nat) => s.poolFor n = some p ∧ s.mayTake port p = true ∧ s.pkt.wb.length < waybills
    (∀ (a : Arrival), a.port < 10 → a.cls ≤ 2 → s.par Prm.pktEnable 0 ≠ 0 → s.stopped packetPath = false → a.data ≠ [] →
      a.data.length ≤ 65535 →
      (∀ p q : Nat, fits a.port (s.parN Prm.poolHeadroom 0 + a.data.length) p → a.directed = some q → assignedQueue q = true →
        s.parN Prm.tollPolicer q = 0xFFFF → (s.tq q).depth + s.counted q a.data.length ≤ s.parN Prm.tollQmaxBytes q →
        Answers (.packetIngress a) s fun t =>
          (∃ h, (s.wb h).used = false ∧ (t.tq q).pkts = (s.tq q).pkts ++ [{ handle := h, len := s.counted q (t.wb h).length, at_ := s.now }] ∧
            (t.wb h).used = true ∧ (t.wb h).owner = 11 ∧ (t.wb h).queue = q ∧ (t.wb h).pool = p ∧ (t.wb h).whole = a.data.length ∧
            (t.wb h).srcType = portSource a.port ∧ (t.wb h).srcInst = a.srcInst ∧ (t.wb h).offset = s.parN Prm.poolHeadroom 0 ∧
            (t.wb h).data = a.data.take (t.wb h).length ∧ ∀ k, k ≠ h → t.wb k = s.wb k) ∧
          (∀ k, k ≠ q → (t.tq k).pkts = (s.tq k).pkts) ∧ t.com Prm.pktRxPkts a.port = satAdd Prm.pktRxPkts.width (s.com Prm.pktRxPkts a.port).toNat 1 ∧
          Mail { s with pkt := t.pkt, toll := t.toll, free := t.free } t) ∧
      (∀ p : Nat, fits a.port (s.parN Prm.poolHeadroom 0 + a.data.length) p → a.directed = none → a.ring = none → s.pkt.tcam = [] →
        (∀ c, c < 3 → s.parN Prm.pktMissAction c % 4 = 0) → s.parN Prm.pktCsumCheck 0 ≠ 2 → (parsePacket a.data (s.parN Prm.pktVxlanPort 0)).conflict = false →
        Answers (.packetIngress a) s fun t => (∀ k, t.wb k = s.wb k) ∧ (t.pool p).used = (s.pool p).used ∧
          t.com Prm.pktRxPkts a.port = satAdd Prm.pktRxPkts.width (s.com Prm.pktRxPkts a.port).toNat 1 ∧
          Mail { s with pkt := t.pkt, eth := t.eth, free := t.free } t) ∧
      (s.poolFor (s.parN Prm.poolHeadroom 0 + a.data.length) = none → Answers (.packetIngress a) s fun t =>
        t = bump Prm.pktTooLong 0 (bump Prm.pktRxPkts a.port s))) ∧
    (∀ port n : Nat, validPort port = true → (∀ k, k < 6 → (s.pool k).carried = []) →
      (∀ p : Nat, n ≠ 0 → fits port n p → Answers (.poolAlloc [(port, n)]) s fun t =>
        (∃ h, (s.wb h).used = false ∧ t.pkt.answers = [(port, .handle h)] ∧ (t.wb h).used = true ∧ (t.wb h).owner = port ∧
          (t.wb h).pool = p ∧ (t.wb h).buffer < s.parN Prm.poolCount p ∧ (t.wb h).buffer ∉ (s.pool p).used ∧ (t.wb h).buffer ∈ (t.pool p).used ∧
          ∀ k, k ≠ h → t.wb k = s.wb k) ∧ kept t) ∧
      (∀ p : Nat, n ≠ 0 → s.poolFor n = some p → s.mayTake port p = false → Answers (.poolAlloc [(port, n)]) s fun t =>
        t.pkt.answers = [(port, .empty)] ∧ t.pkt.wb = s.pkt.wb ∧ t.com Prm.poolEmpty p = satAdd Prm.poolEmpty.width (s.com Prm.poolEmpty p).toNat 1 ∧
        kept t) ∧
      (n ≠ 0 → s.poolFor n = none → Answers (.poolAlloc [(port, n)]) s fun t => t.pkt.answers = [(port, .tooLong)] ∧ t.pkt.wb = s.pkt.wb ∧ kept t) ∧
      (Answers (.poolAlloc [(port, 0)]) s fun t => t.pkt.answers = [(port, .zero)] ∧ t.pkt.wb = s.pkt.wb ∧ kept t)) ∧
    (∀ port h dest : Nat, validPort port = true → h < waybills → (s.wb h).pool < 6 →
      (validPort dest = true → (s.wb h).used = true → (s.wb h).owner = port → Answers (.waybillGive port h dest) s fun t =>
        t = updWb h (fun w => { w with owner := dest }) s) ∧
      (validPort dest = true → (s.wb h).used = false ∨ (s.wb h).owner ≠ port → Answers (.waybillGive port h dest) s fun t =>
        t.com Prm.poolBadFree (s.wb h).pool = satAdd Prm.poolBadFree.width (s.com Prm.poolBadFree (s.wb h).pool).toNat 1 ∧ Mail s t) ∧
      ((s.wb h).used = true → (s.wb h).owner = port → (s.wb h).ring = none → Answers (.waybillRelease port (.handle h)) s fun t =>
        (t.wb h).used = false ∧ (∀ k, k ≠ h → t.wb k = s.wb k) ∧ (t.pool (s.wb h).pool).used = (s.pool (s.wb h).pool).used.erase (s.wb h).buffer ∧
        Mail { s with pkt := t.pkt, eth := t.eth } t) ∧
      ((s.wb h).used = false ∨ (s.wb h).owner ≠ port → Answers (.waybillRelease port (.handle h)) s fun t =>
        t.com Prm.poolBadFree (s.wb h).pool = satAdd Prm.poolBadFree.width (s.com Prm.poolBadFree (s.wb h).pool).toNat 1 ∧ Mail s t) ∧
      (∀ p b : Nat, p < 6 → b < s.parN Prm.poolCount p → s.bufferOwner p b = some h → exec (.waybillRelease port (.index p b)) s =
        exec (.waybillRelease port (.handle h)) s)) ∧
    (∀ port h : Nat, validPort port = true → waybills ≤ h →
      (Answers (.waybillRelease port (.handle h)) s fun t =>
        t.com Prm.poolBadPtr 0 = satAdd Prm.poolBadPtr.width (s.com Prm.poolBadPtr 0).toNat 1 ∧ Mail s t) ∧
      (∀ a : Nat, s.addrBuffer a = none → Answers (.waybillRelease port (.address a)) s fun t =>
        t.com Prm.poolBadPtr 0 = satAdd Prm.poolBadPtr.width (s.com Prm.poolBadPtr 0).toNat 1 ∧ Mail s t))

/-- The packet path around the classifier (R328, R347, R353, R357, R359, R360): replication leaves a copy in each member's queue,
a re-injected packet is classified again, flow entries age, a rule version goes when its last waybill has left, a partial datagram
is discarded after 2 s, and a core that overruns its watchdog recasts. -/
def Obligations.PacketPathMaintenance : Prop :=
  ∀ s : State,
    (∀ h g : Nat, (s.wb h).used = true → (s.wb h).group = some g → (s.wb h).ring = none →
      ((s.groupMembers g).filter (fun q => !s.isSource (s.wb h).srcType (s.wb h).srcInst (q % 2 ^ 15)) = [] → Answers (.replication h) s fun t =>
        (t.wb h).used = false ∧ (∀ k, k ≠ h → t.wb k = s.wb k) ∧ t.toll = s.toll ∧ Mail { s with pkt := t.pkt, eth := t.eth } t) ∧
      (∀ q p : Nat, (s.groupMembers g).filter (fun q => !s.isSource (s.wb h).srcType (s.wb h).srcInst (q % 2 ^ 15)) = [q] → 16384 ≤ q →
        q < 16896 → (s.wb h).srcType ≠ 4 → (s.wb h).ecc = false → (s.wb h).data ≠ [] →
        s.poolFor (s.parN Prm.poolHeadroom 0 + (s.wb h).data.length) = some p → s.mayTake 10 p = true → s.pkt.wb.length < waybills →
        s.parN Prm.tollPolicer q = 0xFFFF → (s.tq q).depth + s.counted q (s.wb h).data.length ≤ s.parN Prm.tollQmaxBytes q →
        Answers (.replication h) s fun t => (t.wb h).used = false ∧
          (∃ c, (s.wb c).used = false ∧ (t.tq q).pkts = (s.tq q).pkts ++ [{ handle := c, len := s.counted q (s.wb h).data.length, at_ := s.now }] ∧
            (t.wb c).data = (s.wb h).data ∧ (t.wb c).srcType = 6 ∧ (t.wb c).mark = (s.wb h).mark ∧ ∀ k, k ≠ h → k ≠ c → t.wb k = s.wb k) ∧
          (∀ k, k ≠ q → (t.tq k).pkts = (s.tq k).pkts) ∧
          Mail { s with pkt := t.pkt, toll := t.toll, eth := t.eth, free := t.free } t)) ∧
    (∀ n h : Nat, n ≤ 27 → h < waybills →
      ((s.wb h).used = true → (s.wb h).owner = 32 + n → (s.wb h).ring = none → s.pkt.tcam = [] → s.parN Prm.pktCsumCheck 0 ≠ 2 →
        (parsePacket (s.wb h).data (s.parN Prm.pktVxlanPort 0)).conflict = false →
        (∀ c, c < 3 → s.parN Prm.pktMissAction c % 4 = 0) → Answers (.reinject n h) s fun t =>
          (t.wb h).used = false ∧ (∀ k, k ≠ h → t.wb k = s.wb k) ∧ Mail { s with pkt := t.pkt, eth := t.eth } t) ∧
      ((s.wb h).used = false ∨ (s.wb h).owner ≠ 32 + n → (s.wb h).pool < 6 → Answers (.reinject n h) s fun t =>
        t.com Prm.poolBadFree (s.wb h).pool = satAdd Prm.poolBadFree.width (s.com Prm.poolBadFree (s.wb h).pool).toNat 1 ∧ Mail s t)) ∧
    (∀ i : Nat, flowValid (s.flowAt i) = true → bit (fieldAt (s.flowAt i) 43 1) 1 = false → s.parN Prm.pktFlowAgeS 0 ≠ 0 →
      let others := fun (t : State) => (∀ k, k ≠ i → t.flowAt k = s.flowAt k) ∧ t = { s with pkt := { s.pkt with flow := t.pkt.flow, flowAt := t.pkt.flowAt } }
      (bit (fieldAt (s.flowAt i) 43 1) 2 = true → (s.flowAt i).length = 64 → Answers (.flowAgeing i) s fun t =>
        (∀ k, k ≠ 43 → (t.flowAt i).getD k 0 = (s.flowAt i).getD k 0) ∧ bit (fieldAt (t.flowAt i) 43 1) 2 = false ∧
        bit (fieldAt (t.flowAt i) 43 1) 0 = bit (fieldAt (s.flowAt i) 43 1) 0 ∧ t.pkt.flowAt.get i = s.now ∧ others t) ∧
      (bit (fieldAt (s.flowAt i) 43 1) 2 = false → s.pkt.flowAt.get i + s.parN Prm.pktFlowAgeS 0 * 1000000000 ≤ s.now →
        Answers (.flowAgeing i) s fun t => flowValid (t.flowAt i) = false ∧ others t) ∧
      (bit (fieldAt (s.flowAt i) 43 1) 2 = false → s.now < s.pkt.flowAt.get i + s.parN Prm.pktFlowAgeS 0 * 1000000000 →
        Answers (.flowAgeing i) s fun t => t = s)) ∧
    (∀ i : Nat, bit (fieldAt (s.flowAt i) 43 1) 1 = true → Answers (.flowAgeing i) s fun t => t = s) ∧
    (∀ v : Nat, Answers (.versionRetire v) s fun t => (∀ o ∈ t.pkt.old, o.1 ≠ v ∧ o ∈ s.pkt.old) ∧ (∀ o ∈ s.pkt.old, o.1 ≠ v → o ∈ t.pkt.old) ∧
      t = { s with pkt := { s.pkt with old := t.pkt.old } }) ∧
    (∀ i : Nat, (s.pkt.frag.get i).frags ≠ [] →
      ((s.pkt.frag.get i).since + 2000000000 ≤ s.now → (∀ h ∈ (s.pkt.frag.get i).frags, (s.wb h).ring = none) →
        Answers (.fragmentReassemblyTimeout i) s fun t => (t.pkt.frag.get i).frags = [] ∧ (∀ h ∈ (s.pkt.frag.get i).frags, (t.wb h).used = false) ∧
          (∀ h, h ∉ (s.pkt.frag.get i).frags → t.wb h = s.wb h) ∧ (∀ k, k ≠ i → t.pkt.frag.get k = s.pkt.frag.get k) ∧
          Mail { s with pkt := t.pkt, eth := t.eth } t) ∧
      (s.now < (s.pkt.frag.get i).since + 2000000000 → Answers (.fragmentReassemblyTimeout i) s fun t => t = s)) ∧
    (∀ (n : Nat) (j : Job), n ≤ 27 → (s.runner (64 + n)).job = some j → s.parN Prm.pktDcWatchdogUs 0 ≠ 0 → (s.runner (64 + n)).buf = none →
      s.stopped (engineUnit (64 + n)) = false → (s.runner (64 + n)).since + s.parN Prm.pktDcWatchdogUs 0 * 1000 < s.now → s.task.waiters = [] →
      s.power.st = .run → s.recast.jobs = [] → s.recast.held = false → Tab.wf s.pkt.wb = true →
      (∀ h, (s.wb h).owner = 32 + n → (s.wb h).ring = none) →
      Answers (.droverWatchdog n) s fun t => (t.runner (64 + n)).job = none ∧ (∃ x ∈ t.recast.jobs, x.unit = ⟨0, 0x0C, 64 + n⟩) ∧
        (∀ h, (t.wb h).used = true → (t.wb h).owner ≠ 32 + n) ∧ (∀ h, (s.wb h).owner ≠ 32 + n → t.wb h = s.wb h) ∧
        (∀ k, k ≠ 64 + n → t.runner k = s.runner k) ∧ t.task.q = s.task.q ∧ t.toll = s.toll ∧ t.dma = s.dma)

/-- Tollgate's queues (R365, R366, R368, R370, R371): a packet that fits joins the tail of its queue, one that does not is released
and counted, and a decision sends the head packet of the only backlogged queue when its quantum covers it. -/
def Obligations.QueuesTakeAndGivePackets : Prop :=
  ∀ s : State,
    (∀ h q : Nat, (s.wb h).used = true → (s.wb h).ring = none → (s.toll.q.any fun x => x.2.pkts.any fun p => p.handle == h) = false →
      let n := s.counted q (s.wb h).length
      let gone := fun (t : State) => (t.wb h).used = false ∧ (∀ k, k ≠ h → t.wb k = s.wb k) ∧ t.toll.sched = s.toll.sched ∧
        (∀ k, (t.tq k).pkts = (s.tq k).pkts) ∧ Mail { s with pkt := t.pkt, toll := t.toll, eth := t.eth } t
      (assignedQueue q = true → s.parN Prm.tollPolicer q = 0xFFFF → (s.tq q).depth + n ≤ s.parN Prm.tollQmaxBytes q → Answers (.enqueue h q) s fun t =>
        (t.tq q).pkts = (s.tq q).pkts ++ [{ handle := h, len := n, at_ := s.now }] ∧ t.wb h = { s.wb h with color := 3, queue := q, owner := 11 } ∧
        (∀ k, k ≠ q → (t.tq k).pkts = (s.tq k).pkts) ∧ (∀ k, k ≠ h → t.wb k = s.wb k) ∧ t.evt = s.evt ∧
        Mail { s with pkt := t.pkt, toll := t.toll } t) ∧
      (assignedQueue q = true → s.parN Prm.tollPolicer q = 0xFFFF → s.parN Prm.tollQmaxBytes q < (s.tq q).depth + n → Answers (.enqueue h q) s fun t =>
        gone t ∧ t.com Prm.tollDropTail q = satAdd Prm.tollDropTail.width (s.com Prm.tollDropTail q).toNat 1) ∧
      (∀ i : Nat, assignedQueue q = true → i = s.parN Prm.tollPolicer q → i ≠ 0xFFFF → (policerEntry (s.entry Tbl.tollPolicer 0 i)).redDrop = true →
        (policerEntry (s.entry Tbl.tollPolicer 0 i)).pbs * byteUnit < n * byteUnit +
          ((s.toll.policer.get i).pDebt - (policerEntry (s.entry Tbl.tollPolicer 0 i)).pir * (s.now - (s.toll.policer.get i).filled)) →
        Answers (.enqueue h q) s fun t => gone t ∧ t.com Prm.tollDropColor q = satAdd Prm.tollDropColor.width (s.com Prm.tollDropColor q).toNat 1) ∧
      (assignedQueue q = false → q < queues → Answers (.enqueue h q) s fun t =>
        gone t ∧ t.toll = s.toll ∧ t.com Prm.tollUnassigned 0 = satAdd Prm.tollUnassigned.width (s.com Prm.tollUnassigned 0).toNat 1)) ∧
    (∀ (e q : Nat) (p : QPkt) (rest : List QPkt) (rx : List (Nat × List (Nat × Nat))), s.stopped packetPath = false → s.egressOpen e = true →
      s.backlogged e = [q] → (s.sched e).list = [] → (s.tq q).pkts = p :: rest → (s.tq q).heldOff = false → s.gateIsOpen e q = true →
      s.gateProtects e q = false → s.cOn q = false → s.pOn q = false → p.len ≤ s.parN Prm.tollQuantum q → s.guardAllows e q p.len = true →
      let sent := fun (t : State) => (t.tq q).pkts = rest ∧ (∀ k, k ≠ q → (t.tq k).pkts = (s.tq k).pkts) ∧
        t.com Prm.tollDequeued q = satAdd Prm.tollDequeued.width (s.com Prm.tollDequeued q).toNat p.len ∧
        (t.sched e).list.map (fun a => (a.q, a.deficit)) = (if rest = [] then [] else [(q, s.parN Prm.tollQuantum q - p.len)]) ∧
        (∀ k, k ≠ e → t.sched k = s.sched k)
      (e < 3 → (s.wradio e).sp = none → Answers (.dequeueDecision e rx) s fun t => sent t ∧ (t.sched e).out = (s.sched e).out ++ [(p.handle, q)] ∧
        Mail { s with toll := t.toll } t) ∧
      (67 ≤ e → e ≤ 70 → Answers (.dequeueDecision e rx) s fun t => sent t ∧ (t.sched e).out = [(p.handle, q)] ∧ Mail { s with toll := t.toll } t) ∧
      (e = 74 → (s.wb p.handle).used = true → (s.wb p.handle).ring = none → Answers (.dequeueDecision e rx) s fun t => sent t ∧
        t.pkt.mgmtRx = s.pkt.mgmtRx ++ [(s.wb p.handle).data] ∧ (t.wb p.handle).used = false ∧ (∀ k, k ≠ p.handle → t.wb k = s.wb k) ∧
        Mail { s with toll := t.toll, pkt := t.pkt, eth := t.eth } t)) ∧
    (∀ (e : Nat) (rx : List (Nat × List (Nat × Nat))), s.stopped packetPath = true ∨ s.egressOpen e = false → Answers (.dequeueDecision e rx) s fun t => t = s)

/-- Gates and broken guarantees (R373, R374, R376 to R378): an entry of a gate list sets the gate states, a committed list takes
effect where a cycle of both begins, an overflow and a starvation are marked once, and a sweep takes a sample of every backlogged
queue. -/
def Obligations.GatesGuaranteesAndSamples : Prop :=
  ∀ s : State,
    let kept := fun (t : State) => (∀ q, (t.tq q).pkts = (s.tq q).pkts) ∧ t.toll.policer = s.toll.policer ∧ Mail { s with toll := t.toll } t
    (∀ (e i pos start : Nat) (o : Occupant), 67 ≤ e → e ≤ 74 → s.gatePos (gateHead (s.entry Tbl.tollGate e 0)) (gateCycle (s.gateList e)) = some pos →
      gateAtPos pos 1 0 (s.gateList e) = some (i, start) →
      (Answers (.gateEntryStart e i o) s fun t =>
        (t.sched e).gateEntry = i ∧ (t.sched e).gateOpen = ((s.gateList e).getD (i - 1) default).1 ∧
        (t.sched e).gateProtect = ((s.gateList e).getD (i - 1) default).2.1 ∧
        (t.sched e).gateAt + (pos - start) = s.tbNs (gateHead (s.entry Tbl.tollGate e 0)).tb ∧ (t.sched e).out = (s.sched e).out ∧
        (∀ k, k ≠ e → t.sched k = s.sched k) ∧ kept t) ∧
      (∀ j, j ≠ i → Answers (.gateEntryStart e j o) s fun t => t = s)) ∧
    (∀ e : Nat, 67 ≤ e → e ≤ 74 → (s.tabState Tbl.tollGate.id e).switching = true → (gateHead (s.entry Tbl.tollGate e 0)).count = 0 →
      ((gateHead (s.standbyEntry Tbl.tollGate e 0)).count = 0 → Answers (.gateListSwitch e) s fun t => (t.sched e).gateEntry = 0 ∧
        (t.sched e).gateOpen = 0xFF ∧ (t.sched e).gateProtect = 0 ∧ (t.tabState Tbl.tollGate.id e).switching = false ∧
        (∀ k, k ≠ e → t.sched k = s.sched k) ∧ kept t) ∧
      (0 < (gateHead (s.standbyEntry Tbl.tollGate e 0)).count → s.gatePos (gateHead (s.standbyEntry Tbl.tollGate e 0))
          (gateCycle ((List.range (gateHead (s.standbyEntry Tbl.tollGate e 0)).count).map fun i => gateEntry (s.standbyEntry Tbl.tollGate e (i + 1)))) = some 0 →
        Answers (.gateListSwitch e) s fun t => (t.sched e).gateEntry = 1 ∧
          (t.sched e).gateOpen = (gateEntry (s.standbyEntry Tbl.tollGate e 1)).1 ∧
          (t.sched e).gateProtect = (gateEntry (s.standbyEntry Tbl.tollGate e 1)).2.1 ∧
          (t.sched e).gateAt = s.tbNs (gateHead (s.standbyEntry Tbl.tollGate e 0)).tb ∧ (t.tabState Tbl.tollGate.id e).switching = false ∧
          (∀ k, k ≠ e → t.sched k = s.sched k) ∧ kept t)) ∧
    (∀ (q e : Nat) (o : Occupant), (s.schedsOf q).contains e = true → (s.tq q).pkts ≠ [] →
      (s.cOn q = true → (s.tq q).cDebt ≤ s.parN Prm.tollCirKbps q * (s.now - (s.tq q).filled) → (s.tq q).cEpisode = false →
        Answers (.bucketOverflow q e false o) s fun t => (t.tq q).cEpisode = true ∧ (t.tq q).cDebt = 0 ∧ (t.tq q).pEpisode = (s.tq q).pEpisode ∧
          (∀ k, k ≠ q → t.tq k = s.tq k) ∧ t.toll.sched = s.toll.sched ∧ kept t) ∧
      (s.pOn q = true → (s.tq q).pDebt ≤ s.parN Prm.tollPirKbps q * (s.now - (s.tq q).filled) → (s.tq q).pEpisode = false →
        Answers (.bucketOverflow q e true o) s fun t => (t.tq q).pEpisode = true ∧ (t.tq q).pDebt = 0 ∧ (t.tq q).cEpisode = (s.tq q).cEpisode ∧
          (∀ k, k ≠ q → t.tq k = s.tq k) ∧ t.toll.sched = s.toll.sched ∧ kept t) ∧
      (s.cOn q = true → o = {} → (gated e = false ∨ s.gateIsOpen e q = true) → (s.tq q).cDebt ≤ s.parN Prm.tollCirKbps q * (s.now - (s.tq q).filled) →
        (s.tq q).cEpisode = false → Answers (.bucketOverflow q e false o) s fun t =>
          t.com Prm.tollCirLost q = satAdd Prm.tollCirLost.width (s.com Prm.tollCirLost q).toNat 1 ∧ t.evt = s.evt)) ∧
    (∀ (q e : Nat) (o : Occupant) (a : Active), s.backlogged e = [q] → (s.sched e).list = [a] → a.q = q → a.turn = none → (s.tq q).heldOff = false →
      s.gateIsOpen e q = true → s.gateProtects e q = false → s.cOn q = false → s.pOn q = false →
      a.last + s.parN Prm.tollStarveUs e * 1000 ≤ s.now → Answers (.drrStarvation e q o) s fun t => (t.sched e).list = [{ a with last := s.now }] ∧
        (∀ k, k ≠ e → t.sched k = s.sched k) ∧ kept t) ∧
    (s.parN Prm.tollSampleUs 0 ≠ 0 → Answers .queueSampleSweep s fun t => t.toll.sweep = (s.toll.sweep + 1) % 2 ^ 32 ∧
      (∀ q, (s.tq q).pkts ≠ [] → t.toll.sample.get q = ((s.tq q).depth % 2 ^ 32, (s.tq q).pkts.length, s.headAge q)) ∧
      t.toll.q = s.toll.q ∧ t.toll.sched = s.toll.sched ∧ t.evt = s.evt ∧ kept t) ∧
    (s.parN Prm.tollSampleUs 0 = 0 → Answers .queueSampleSweep s fun t => t = s)

/-- Sprue engines and host rings (R384 to R389, R395 to R397): an idle engine runs the list of its ready channel and a run ends with
a completion; a packet of a transmit ring is fetched, sent on and written back; and the timer of a ring signals its vector. -/
def Obligations.ListsAndRingsMoveData : Prop :=
  ∀ s : State,
    (∀ (n k a : Nat) (host : List Byte) (u : Option Upset), n < 8 → s.par Prm.dmaEngineEnable n ≠ 0 → (s.sprue n).running = none →
      s.readyChans n = [k] → s.dma.chan.get (32 * n + k) = some a →
      let kept := fun (t : State) => t.dma.chan = s.dma.chan ∧ (∀ i, i ≠ n → t.sprue i = s.sprue i) ∧ (t.sprue n).cq = (s.sprue n).cq ∧
        (t.sprue n).last = k ∧ Mail { s with dma := t.dma } t
      (a % 32 ≠ 0 → Answers (.sprueRunStart n host u) s fun t =>
        (t.sprue n).running = some { chan := k, status := 7, tag := 0, bytes := 0, entry := 0 } ∧ t.dma.ddr = s.dma.ddr ∧ kept t) ∧
      (∀ e src dst len : Nat, a % 32 = 0 → a + 32 ≤ s.boot.ddrBytes → s.par Prm.dmaChanMode (32 * n + k) ≠ 1 → e = leNat (Memory.read s.dma.ddr a 32) →
        src = bits e 63 0 → dst = bits e 127 64 → len = bits e 159 128 → bit e 160 = true → bit e 161 = false →
        (0 < len → len ≤ 16777216 → src + len ≤ s.boot.ddrBytes → dst + len ≤ s.boot.ddrBytes → s.boot.ddrBytes < 2 ^ 60 → u = none →
          Answers (.sprueRunStart n host u) s fun t =>
            (t.sprue n).running = some { chan := k, status := 0, tag := bits e 223 192, bytes := len, entry := 0 } ∧
            t.dma.ddr = Memory.write s.dma.ddr dst (Memory.read s.dma.ddr src len) ∧ t.dma.sram = s.dma.sram ∧
            t.dma.hostOut = s.dma.hostOut ∧ kept t) ∧
        (len = 0 → Answers (.sprueRunStart n host u) s fun t =>
          (t.sprue n).running = some { chan := k, status := 1, tag := bits e 223 192, bytes := 0, entry := 0 } ∧ t.dma.ddr = s.dma.ddr ∧ kept t) ∧
        (16777216 < len → Answers (.sprueRunStart n host u) s fun t =>
          (t.sprue n).running = some { chan := k, status := 7, tag := bits e 223 192, bytes := 0, entry := 0 } ∧ t.dma.ddr = s.dma.ddr ∧ kept t))) ∧
    (∀ (n err st : Nat) (r : RunEnd), n < 8 → (s.sprue n).running = some r → r.chan < 32 →
      st = (if r.status = 0 ∧ (err = 3 ∨ err = 4) then err else r.status) →
      let c := 32 * n + r.chan
      let ended := fun (t : State) => (t.sprue n).running = none ∧ t.dma.chan.get c = none ∧ (∀ i, i ≠ c → t.dma.chan.get i = s.dma.chan.get i) ∧
        t.com Prm.dmaRuns c = satAdd Prm.dmaRuns.width (s.com Prm.dmaRuns c).toNat 1 ∧
        t.com Prm.dmaBytes c = satAdd Prm.dmaBytes.width (s.com Prm.dmaBytes c).toNat r.bytes ∧
        t.com Prm.dmaErrors c = (if 2 ≤ st then ((satAdd Prm.dmaErrors.width (s.com Prm.dmaErrors c).toNat 1 : Nat) : Int) else s.com Prm.dmaErrors c) ∧
        t.dma.ddr = s.dma.ddr ∧ (∀ i, i ≠ n → t.sprue i = s.sprue i) ∧ Mail { s with dma := t.dma } t
      (s.chanOwner c < 64 → (s.sprue n).cq.length < 64 → Answers (.sprueRunComplete n err) s fun t => ended t ∧
        (t.sprue n).cq = (s.sprue n).cq ++ [(st, r.chan, r.tag % 65536)] ∧ t.dma.fwDone = s.dma.fwDone) ∧
      (s.chanOwner c < 64 → 64 ≤ (s.sprue n).cq.length → Answers (.sprueRunComplete n err) s fun t => ended t ∧
        (t.sprue n).cq = (s.sprue n).cq ∧ t.com Prm.dmaCqLost n = satAdd Prm.dmaCqLost.width (s.com Prm.dmaCqLost n).toNat 1) ∧
      (64 ≤ s.chanOwner c → Answers (.sprueRunComplete n err) s fun t => ended t ∧ (t.sprue n).cq = (s.sprue n).cq ∧
        t.dma.fwDone = s.dma.fwDone ++ [(c, st, r.tag)])) ∧
    (∀ (n e total : Nat) (descs : List Nat) (data : List Byte) (err : Bool), 16 ≤ n → n < 32 → s.ringOn n = true → oneDescPacket descs = true →
      (s.ring n).taken + descs.length ≤ s.posted n → (s.ring n).wait = [] → total = (descs.map fun d => bits d 79 64).sum → e = descs.getLastD 0 →
      let wrote := fun (st : Nat) (t : State) => (t.ring n).cons = ((s.ring n).cons + descs.length) % 65536 ∧ (t.ring n).wait = [] ∧
        (t.ring n).taken = (s.ring n).taken ∧ (t.ring n).prod = (s.ring n).prod ∧ (∀ i, i ≠ n → t.ring i = s.ring i) ∧
        t.dma.hostOut = s.dma.hostOut ++
          (List.range descs.length).map (fun i => (s.descAddr n ((s.ring n).cons + i) % 2 ^ 64, le 32 (st + 2 ^ 255)))
      (total = 0 → Answers (.txPacketFetch n descs data err) s fun t => wrote 1 t ∧ t.pkt = s.pkt ∧ Mail { s with dma := t.dma } t) ∧
      (0 < total → err = true ∨ bits e 82 81 = 3 ∨ 16 < descs.length ∨ 65535 < total → Answers (.txPacketFetch n descs data err) s fun t => wrote 4 t ∧
        t.com Prm.dmaRingTxErr n = satAdd Prm.dmaRingTxErr.width (s.com Prm.dmaRingTxErr n).toNat 1 ∧ Mail { s with dma := t.dma } t) ∧
      (∀ p q : Nat, 0 < total → total ≤ 65535 → err = false → descs.length ≤ 16 → bits e 82 81 = 2 → q = bits e 97 83 → q < queues →
        bit e 101 = false → s.par Prm.pktEnable 0 ≠ 0 → s.stopped packetPath = false → s.poolFor (s.parN Prm.poolHeadroom 0 + total) = some p →
        s.mayTake 8 p = true → s.pkt.wb.length < waybills → assignedQueue q = true → s.parN Prm.tollPolicer q = 0xFFFF →
        (s.tq q).depth + s.counted q total ≤ s.parN Prm.tollQmaxBytes q → Answers (.txPacketFetch n descs data err) s fun t => wrote 0 t ∧
          (∃ h, (s.wb h).used = false ∧ (t.tq q).pkts = (s.tq q).pkts ++ [{ handle := h, len := s.counted q (t.wb h).length, at_ := s.now }] ∧
            (t.wb h).srcType = 3 ∧ (t.wb h).srcInst = n ∧ (t.wb h).whole = total ∧ (t.wb h).tid = bits e 100 98 ∧
            (t.wb h).data = (bytesAt data 0 total).take (t.wb h).length) ∧ (∀ k, k ≠ q → (t.tq k).pkts = (s.tq k).pkts) ∧
          Mail { s with pkt := t.pkt, toll := t.toll, dma := t.dma, free := t.free } t)) ∧
    (∀ n : Nat, n < 32 → s.parN Prm.dmaRingIrqUs n ≠ 0 → (s.ring n).unsignalled ≠ 0 →
      ((s.ring n).since + s.parN Prm.dmaRingIrqUs n * 1000 ≤ s.now → Answers (.ringIrqTimer n) s fun t =>
        t = sendVector (16 + n) (updRing n (fun r => { r with unsignalled := 0, since := 0 }) s)) ∧
      (s.now < (s.ring n).since + s.parN Prm.dmaRingIrqUs n * 1000 → Answers (.ringIrqTimer n) s fun t => t = s))

/-- Drives and store commands (R400 to R407, Tables 13-9 and 13-14): how a drive changes state, what a completed drive command does
to its object and its store command, a multicast segment, and the end of a DELETE. -/
def Obligations.DrivesRunStoreCommands : Prop :=
  ∀ s : State,
    (∀ d : Nat, d < 2 →
      let kept := fun (t : State) => (∀ i, i ≠ d → t.drive i = s.drive i) ∧ t.dma.ring = s.dma.ring ∧ t.dma.ddr = s.dma.ddr ∧ Mail { s with dma := t.dma } t
      let failed := fun (t : State) => (t.drive d).st = .failed ∧ (∀ o ∈ t.dma.objs, o.drive = d → o.st = .lost) ∧
        (∀ o ∈ s.dma.objs, o.drive ≠ d → o ∈ t.dma.objs) ∧ kept t
      ((s.drive d).st = .absent → Answers (.driveLinkUp d) s fun t => t.drive d = { s.drive d with st := .init, link := true, initAt := s.now } ∧
        t.dma.objs = s.dma.objs ∧ kept t) ∧
      ((s.drive d).st ≠ .absent → Answers (.driveLinkUp d) s fun t => t = updDrive d (fun x => { x with link := true }) s) ∧
      (∀ n : Nat, (s.drive d).st = .init → s.stopped storeUnit = false → Answers (.driveInitDone d n) s fun t => (t.drive d).st = .ready ∧
        (t.drive d).extents = n ∧ (t.drive d).media = (s.drive d).media ∧ (∀ o ∈ s.dma.objs, o.drive ≠ d → o ∈ t.dma.objs) ∧
        t.dma.objs.length = (s.dma.objs.filter fun o => o.drive != d).length + (s.drive d).media.length ∧ t.dma.jobs = s.dma.jobs ∧ kept t) ∧
      ((s.drive d).st = .init → (s.drive d).initAt + 10000000000 ≤ s.now → Answers (.driveInitTimeout d) s failed) ∧
      ((s.drive d).st = .init → s.now < (s.drive d).initAt + 10000000000 → Answers (.driveInitTimeout d) s fun t => t = s) ∧
      ((s.drive d).st = .ready ∨ (s.drive d).st = .init → (Answers (.driveLinkDown d) s fun t => failed t ∧ (t.drive d).link = false) ∧
        Answers (.driveFatalStatus d) s failed) ∧
      ((s.drive d).st = .absent → Answers (.driveLinkDown d) s fun t => t = updDrive d (fun x => { x with link := false }) s) ∧
      (∀ op : Nat, (s.drive d).st = .ready →
        ((s.drive d).timeouts = [] → Answers (.nvmeTimeout d op) s fun t => t.drive d = { s.drive d with timeouts := [s.now] } ∧
          t.com Prm.storeResets d = satAdd Prm.storeResets.width (s.com Prm.storeResets d).toNat 1 ∧ t.dma.objs = s.dma.objs ∧
          t.dma.jobs = s.dma.jobs ∧ kept t) ∧
        (∀ x ∈ (s.drive d).timeouts, s.now < x + 60000000000 → Answers (.nvmeTimeout d op) s failed))) ∧
    (∀ (d cid : Nat) (host : List Byte) (j : StoreJob) (o : Obj), d < 2 → s.storeJob? cid = some j → s.obj? j.key = some o → o.drive = d → s.driveReady d = true →
      let kept := fun (t : State) => (∀ k, k ≠ j.key → t.obj? k = s.obj? k) ∧ (∀ c, c ≠ cid → t.storeJob? c = s.storeJob? c) ∧
        t.dma.ring = s.dma.ring ∧ t.dma.ddr = s.dma.ddr ∧ Mail { s with dma := t.dma } t
      (∀ a len : Nat, ∀ rest : List (Nat × Nat), j.op = .write → j.segs = (a, len) :: rest →
        ((s.dma.jobs.find? fun x => x.key == j.key && x.op == .write).map (·.cid)) = some cid → Answers (.nvmeCompletion d cid host) s fun t =>
          t.obj? j.key = some { o with data := o.data ++ bytesAt host 0 len } ∧
          t.storeJob? cid = (if rest = [] then none else some { j with segs := rest, done := j.done + len }) ∧
          t.com Prm.storeWriteBytes d = satAdd Prm.storeWriteBytes.width (s.com Prm.storeWriteBytes d).toNat len ∧ kept t) ∧
      (∀ k : Nat, j.op = .read → k = min (s.parN Prm.storeReadKib 0 * 1024) (j.len - j.done) → Answers (.nvmeCompletion d cid host) s fun t =>
        t.dma.hostOut = s.dma.hostOut ++ [((j.host + j.done) % 2 ^ 64, bytesAt o.data (j.off + j.done) k)] ∧
        t.storeJob? cid = (if j.len ≤ j.done + k then none else some { j with done := j.done + k }) ∧ t.dma.objs = s.dma.objs ∧ kept t) ∧
      (∀ k : Nat, j.splice = true → k = min (s.parN Prm.storeReadKib 0 * 1024) (j.len - j.fetched) → Answers (.nvmeCompletion d cid host) s fun t =>
        t.storeJob? cid = some { j with fetched := j.fetched + k } ∧ t.dma.objs = s.dma.objs ∧ t.dma.hostOut = s.dma.hostOut ∧ kept t) ∧
      (j.op = .seal_ → (s.dma.jobs.any fun x => x.key == j.key && x.op == .write) = false → s.ingestWaits o = false → o.data ≠ [] →
        Answers (.nvmeCompletion d cid host) s fun t => t.obj? j.key = some { o with st := .sealed, sealedAt := s.tbNs 2 + 1 } ∧
          t.storeJob? cid = none ∧ (t.drive d).media = (s.drive d).media ++ [{ o with st := .sealed, sealedAt := s.tbNs 2 + 1 }] ∧
          (∀ b ∈ t.dma.bind, b.key ≠ j.key) ∧ kept t) ∧
      (j.op = .delete → Answers (.nvmeCompletion d cid host) s fun t => t.storeJob? cid = some { j with flushed := true } ∧
        (∀ m ∈ (t.drive d).media, m.key ≠ j.key) ∧ t.dma.objs = s.dma.objs ∧ kept t) ∧
      (∀ p size : Nat, j.op = .spliceMcast → size = min j.mss (j.len - j.done) → s.par Prm.pktEnable 0 ≠ 0 → s.stopped packetPath = false →
        j.done + size ≤ j.fetched → j.rate = 0 →
        let body := splicePacket false j.template (bytesAt o.data (j.off + j.done) size) j.pkts j.done (decide (j.len ≤ j.done + size))
        s.poolFor (s.parN Prm.poolHeadroom 0 + body.length) = some p → body ≠ [] →
        (s.mayTake 9 p = true → s.pkt.wb.length < waybills → Answers (.spliceSegment cid) s fun t =>
          (∃ h, (s.wb h).used = false ∧ (t.wb h).used = true ∧ (t.wb h).owner = 10 ∧ (t.wb h).group = some j.dest ∧ (t.wb h).data = body ∧
            (t.wb h).srcType = 4 ∧ (t.wb h).mark = j.mark ∧ ∀ k, k ≠ h → t.wb k = s.wb k) ∧
          t.storeJob? cid = (if j.len ≤ j.done + size then none
            else some { j with done := j.done + size, pkts := j.pkts + 1, sentBytes := j.sentBytes + body.length }) ∧
          t.dma.objs = s.dma.objs ∧ Mail { s with dma := t.dma, pkt := t.pkt, free := t.free } t) ∧
        (s.mayTake 9 p = false → Answers (.spliceSegment cid) s fun t => t.dma = s.dma ∧ t.pkt = s.pkt ∧
          t.com Prm.storeBufWait 0 = satAdd Prm.storeBufWait.width (s.com Prm.storeBufWait 0).toNat 1))) ∧
    (∀ (cid : Nat) (j : StoreJob), s.storeJob? cid = some j → j.op = .delete →
      (j.flushed = true → s.readers j.key = 0 → Answers (.deleteFinish cid) s fun t => t.obj? j.key = none ∧ t.storeJob? cid = none ∧
        (∀ k, k ≠ j.key → t.obj? k = s.obj? k) ∧ (∀ c, c ≠ cid → t.storeJob? c = s.storeJob? c) ∧ t.dma.drive = s.dma.drive ∧
        Mail { s with dma := t.dma } t) ∧
      (j.flushed = false ∨ 0 < s.readers j.key → Answers (.deleteFinish cid) s fun t => t = s))

/-- The Ethernet ports (R412 to R414, R416, R418): which frames a port takes in and how it counts the rest, what a frame that leaves
the transmit FIFO does, the link state, and LLDP. MACsec is off at the port. -/
def Obligations.EthernetPortsMoveFrames : Prop :=
  ∀ (s : State) (n : Nat), n < 4 → (s.macsec n).cipher = 0 →
    let p := s.port n
    let kept := fun (t : State) => (∀ i, i ≠ n → t.port i = s.port i) ∧ Mail { s with eth := t.eth } t
    let counts := fun (l : List (Nat × Nat)) (t : State) => ∀ i, (t.port n).stats.get i = (match l.find? fun x => x.1 == i with
      | some x => satAdd 64 (p.stats.get i) x.2
      | none => p.stats.get i)
    (s.ethLink n = 1 →
      (∀ (d : List Byte), s.par Prm.ethEnable n ≠ 0 →
        (∀ b : Bool, Answers (.ethFrameRx n d false b) s fun t => counts [(5, 1)] t ∧ kept t) ∧
        (∀ b : Bool, d.length < 60 → Answers (.ethFrameRx n d true b) s fun t => counts [(6, 1)] t ∧ kept t) ∧
        (60 ≤ d.length →
          (∀ b : Bool, s.parN Prm.ethMaxFrame n < d.length + 4 → Answers (.ethFrameRx n d true b) s fun t => counts [(7, 1)] t ∧ kept t) ∧
          (d.length + 4 ≤ s.parN Prm.ethMaxFrame n →
            (∀ b : Bool, beAt d 12 2 = 0x8808 → Answers (.ethFrameRx n d true b) s fun t => counts [(8, 1)] t ∧ kept t) ∧
            (∀ b : Bool, beAt d 12 2 ≠ 0x8808 → s.par Prm.ethFilter n = 1 → castOf d = 0 → beAt d 0 6 ≠ s.parN Prm.ethMacAddr n →
              Answers (.ethFrameRx n d true b) s fun t => counts [(9, 1)] t ∧ kept t) ∧
            (beAt d 12 2 ≠ 0x8808 → beAt d 12 2 ≠ 0x88E5 → s.par Prm.ethFilter n ≠ 1 ∨ castOf d ≠ 0 ∨ beAt d 0 6 = s.parN Prm.ethMacAddr n →
              (Answers (.ethFrameRx n d true true) s fun t => counts [(10, 1)] t ∧ kept t) ∧
              (∀ q a : Nat, s.par Prm.ethLpiMode n ≠ 1 → ptpKind d = none → s.par Prm.pktEnable 0 ≠ 0 → s.stopped packetPath = false →
                d.length ≤ 65535 → s.poolFor (s.parN Prm.poolHeadroom 0 + d.length) = some a → s.mayTake (4 + n) a = true →
                s.pkt.wb.length < waybills → s.pkt.tcam = [] → (∀ c, c < 3 → s.parN Prm.pktMissAction c = 2 + 4 * q) → 16384 ≤ q → q < 16896 →
                s.parN Prm.pktCsumCheck 0 ≠ 2 → (parsePacket d (s.parN Prm.pktVxlanPort 0)).conflict = false →
                s.parN Prm.tollPolicer q = 0xFFFF → (s.tq q).depth + s.counted q d.length ≤ s.parN Prm.tollQmaxBytes q →
                Answers (.ethFrameRx n d true false) s fun t =>
                  counts [(0, d.length + 4), (1, 1), (2 + castOf d, 1), (11 + sizeBin (d.length + 4), 1)] t ∧
                  (∃ h, (s.wb h).used = false ∧ (t.tq q).pkts = (s.tq q).pkts ++ [{ handle := h, len := s.counted q (t.wb h).length, at_ := s.now }] ∧
                    (t.wb h).srcType = 2 ∧ (t.wb h).srcInst = n ∧ (t.wb h).whole = d.length ∧ (t.wb h).data = d.take (t.wb h).length ∧
                    (t.wb h).version = s.pkt.version ∧ (t.wb h).tcamHit = false ∧ ∀ k, k ≠ h → t.wb k = s.wb k) ∧
                  (∀ k, k ≠ q → (t.tq k).pkts = (s.tq k).pkts) ∧
                  Mail { s with eth := t.eth, pkt := t.pkt, toll := t.toll, free := t.free } t))))) ∧
      (∀ (h q : Nat) (rest : List (Nat × Nat)), p.lpi = false → p.readyAt ≤ s.now → (s.sched (67 + n)).out = (h, q) :: rest → (s.wb h).used = true →
        (s.wb h).ring = none → s.ptpEvent n (s.wb h).data = false → Answers (.ethFrameTxStart n) s fun t =>
          (t.port n).sent = p.sent ++ [wireFrame (s.wb h).data] ∧ (t.port n).idleAt = s.now ∧ (t.port n).tw = p.tw ∧
          counts [(18, (wireFrame (s.wb h).data).length), (19, 1), (20 + castOf (s.wb h).data, 1)] t ∧
          (t.sched (67 + n)).out = rest ∧ (t.wb h).used = false ∧ (∀ k, k ≠ h → t.wb k = s.wb k) ∧ t.toll.q = s.toll.q ∧
          Mail { s with eth := t.eth, pkt := t.pkt, toll := t.toll } t) ∧
      (s.par Prm.ethLpiMode n = 1 → p.lldpAt = 0 ∨ p.lldpAt + s.parN Prm.ethLldpIntervalS n * 1000000000 ≤ s.now + 1 → Answers (.lldpTx n) s fun t =>
        (t.port n).sent = p.sent ++ [wireFrame (s.lldpdu n)] ∧ (t.port n).lldpAt = s.now + 1 ∧ (t.port n).lldp = p.lldp ∧ kept t)) ∧
    ((s.lane (16 + n)).st = .up → (Answers (.ethLinkChange n 0) s fun t => (t.port n).fault = 0 ∧ (t.port n).link = 1 ∧
        (t.port n).stats = p.stats ∧ t.toll = s.toll ∧ t.pkt = s.pkt ∧ kept t) ∧
      (∀ fault : Nat, fault = 2 ∨ fault = 3 → p.fault = 0 → (s.sched (67 + n)).out = [] → Answers (.ethLinkChange n fault) s fun t =>
        (t.port n).fault = fault ∧ (t.port n).link = fault ∧ counts [(26 + fault, 1)] t ∧ (∀ i, t.sched i = s.sched i) ∧ t.toll.q = s.toll.q ∧ t.pkt = s.pkt ∧
        Mail { s with eth := t.eth, toll := t.toll } t)) ∧
    (∀ x : Nat × Nat, (s.lane (16 + n)).st ≠ .up → (s.sched (67 + n)).out = [x] → (s.wb x.1).used = true → (s.wb x.1).ring = none →
      Answers (.ethLinkChange n p.fault) s fun t => p.fault = 0 ∨ p.fault = 2 ∨ p.fault = 3 →
        (t.sched (67 + n)).out = [] ∧ (t.wb x.1).used = false ∧ (t.port n).stats.get 23 = satAdd 64 (p.stats.get 23) 1 ∧ (t.port n).link = 0) ∧
    (∀ v : Lldp, p.lldp = some v → v.until_ ≤ s.now → Answers (.lldpTtlExpiry n) s fun t => (t.port n).lldp = none ∧
      (s.par Prm.ethLpiMode n = 1 → (t.port n).tw = 0) ∧ (t.port n).stats = p.stats ∧ (t.port n).sent = p.sent ∧ kept t)

/-- Low-power idle and PTP stamps (Table 4-2, R120, R415, R417, R426): an idle port enters low-power idle and leaves it when a queue
or a gate needs it, the receive direction is followed, and DC27 stamps the oldest marked frame.
Pulse per second (R430 to R432): an accepted edge of PPS_IN is timed and may steer TB2 within its limits, one out of tolerance is
counted, the loss of the input is noted once, and PPS_OUT rises at a second of its time base for its width. -/
def Obligations.PortsIdleStampAndPulse : Prop :=
  (∀ (s : State) (n : Nat), n < 4 →
     let p := s.port n
     let kept := fun (t : State) => (∀ i, i ≠ n → t.port i = s.port i) ∧ Mail { s with eth := t.eth } t
     let alone := fun (t : State) => (∀ k, k ≠ 16 + n → t.lane k = s.lane k) ∧ t.radio.link = s.radio.link ∧
       Mail { s with eth := t.eth, radio := t.radio, toll := t.toll } t
     let awake := fun (t : State) => (t.port n).lpi = false ∧ (t.port n).readyAt = max s.now (p.lpiAt + 1000) + p.tw * 1000 ∧
       (t.port n).stats.get 25 = satAdd 64 (p.stats.get 25) ((s.now - p.lpiAt) / 1000) ∧ t.lane (16 + n) = { s.lane (16 + n) with txQuiet := false } ∧
       (∀ q, (t.tq q).pkts = (s.tq q).pkts) ∧ alone t
     (s.backlogged (67 + n) = [] →
       (s.ethLink n = 1 → p.lpi = false →
         ((s.sched (67 + n)).out = [] → 0 < p.tw → p.idleAt + s.parN Prm.ethLpiIdleUs n * 1000 ≤ s.now → Answers (.eeeTxEntry n) s fun t =>
           (t.port n).lpi = true ∧ (t.port n).lpiAt = s.now ∧ (t.port n).stats.get 24 = satAdd 64 (p.stats.get 24) 1 ∧
           t.lane (16 + n) = { s.lane (16 + n) with txQuiet := true } ∧ alone t) ∧
         ((s.sched (67 + n)).out ≠ [] → Answers (.eeeTxEntry n) s fun t => t = updPort n (fun p => { p with idleAt := s.now }) s)) ∧
       (Answers (.eeeTxWake n) s fun t => t = s)) ∧
     (∀ q : Nat, p.lpi = true → s.par Prm.ethEnable n = 1 → s.backlogged (67 + n) = [q] → (s.tq q).heldOff = false → s.gateIsOpen (67 + n) q = true →
       s.gateProtects (67 + n) q = false → s.cOn q = false → s.pOn q = false → Answers (.eeeTxWake n) s awake) ∧
     (p.lpi = true → (s.sched (67 + n)).gateEntry = 0 → (gateHead (s.entry Tbl.tollGate (67 + n) 0)).count ≠ 0 →
       (gateEntry (s.entry Tbl.tollGate (67 + n) 1)).2.1 ≠ 0 →
       (gateHead (s.entry Tbl.tollGate (67 + n) 0)).base ≤ s.tbNs (gateHead (s.entry Tbl.tollGate (67 + n) 0)).tb + p.tw * 1000 →
       Answers (.lpiGateWake n) s awake) ∧
     ((s.lane (16 + n)).st = .up → p.rxLpi = false → Answers (.eeeRxLpi n) s fun t => (t.port n).rxLpi = true ∧ (t.port n).rxLpiAt = s.now ∧
       (t.port n).stats.get 26 = satAdd 64 (p.stats.get 26) 1 ∧ t.lane (16 + n) = { s.lane (16 + n) with rxQuiet := true } ∧ t.toll = s.toll ∧ alone t) ∧
     (p.rxLpi = true → Answers (.eeeRxWake n) s fun t => (t.port n).rxLpi = false ∧
       (t.port n).stats.get 27 = satAdd 64 (p.stats.get 27) ((s.now - p.rxLpiAt) / 1000) ∧ t.lane (16 + n) = { s.lane (16 + n) with rxQuiet := false } ∧
       t.toll = s.toll ∧ alone t) ∧
     (∀ (m : PtpMark) (rest : List PtpMark) (words wait : Nat), s.stopped timekeeper = false → (s.runner 91).held = false →
       let tb := s.parN Prm.ethPtpTb n
       (p.rxMarks = m :: rest → ∀ h : Nat, m.handle = some h → (s.wb h).used = true → Answers (.ptpTimestamp n false words wait) s fun t =>
         t.wb h = { s.wb h with ts := twos 80 ((s.tb80 tb : Int) - (s.ptpLatency n).1 * 65536 - wait * 40960 - s.laneWords n words -
           s.par Prm.ethPtpRxCompNs n * 65536) / 65536 } ∧ (t.port n).rxMarks = rest ∧ (∀ k, k ≠ h → t.wb k = s.wb k) ∧
         (t.port n).stats.get 30 = satAdd 64 (p.stats.get 30) 1 ∧ (∀ i, i ≠ n → t.port i = s.port i) ∧ Mail { s with eth := t.eth, pkt := t.pkt } t) ∧
       (p.txMarks = m :: rest → m.ring = none → Answers (.ptpTimestamp n true words wait) s fun t => (t.port n).txMarks = rest ∧
         (t.port n).stats.get 31 = satAdd 64 (p.stats.get 31) 1 ∧ kept t) ∧
       (p.txMarks = m :: rest → ∀ r id : Nat, m.ring = some (r, id) → Answers (.ptpTimestamp n true words wait) s fun t =>
         t = txOutcome r id 0 (twos 80 ((s.tb80 tb : Int) + (s.ptpLatency n).2 * 65536 - wait * 40960 + s.laneWords n words +
           s.par Prm.ethPtpTxCompNs n * 65536)) tb (countStat n 31 1 (updPort n (fun x => { x with txMarks := rest }) s))))) ∧
  (∀ s : State,
     let edge := ((s.now : Int) - s.par Prm.timePpsInCompNs 0).toNat
     (∀ rising : Bool, decide (s.par Prm.timePpsInEdge 0 = 0) = rising → s.par Prm.timePpsInEnable 0 ≠ 0 →
       (s.time.ppsSeen = true → s.time.ppsLost = false →
         (s.parN Prm.timePpsInTolNs 0 : Int) < ((edge : Int) - s.time.ppsLast - 1000000000).natAbs → Answers (.ppsInEdge rising) s fun t =>
           t = bump Prm.timePpsInRejected 0 s) ∧
       (s.time.ppsSeen = false ∨ s.time.ppsLost = true ∨
         ((edge : Int) - s.time.ppsLast - 1000000000).natAbs ≤ (s.parN Prm.timePpsInTolNs 0 : Int) → Answers (.ppsInEdge rising) s fun t =>
           t.time.ppsLast = edge ∧ t.time.ppsSeen = true ∧ t.time.ppsLost = false ∧
           (t.time.ppsPhase - ((s.tbNs 2 : Int) - s.par Prm.timePpsInCompNs 0)) % 1000000000 = 0 ∧ -500000000 ≤ t.time.ppsPhase ∧ t.time.ppsPhase < 500000000 ∧
           (∀ k, (t.tbase k).val = (s.tbase k).val) ∧
           (s.par Prm.timeTb2Source 0 ≠ 3 → (∀ k, t.tbase k = s.tbase k) ∧ t.free = s.free) ∧
           (s.par Prm.timeTb2Source 0 = 3 → -500000000 ≤ (t.tbase 2).rate ∧ (t.tbase 2).rate ≤ 500000000 ∧
             ∀ k, k < 8 → (t.tbase (3 + k)).rate = (t.tbase 2).rate) ∧
           Mail { s with time := t.time, free := t.free } t)) ∧
     (∀ rising : Bool, decide (s.par Prm.timePpsInEdge 0 = 0) ≠ rising ∨ s.par Prm.timePpsInEnable 0 = 0 → Answers (.ppsInEdge rising) s fun t => t = s) ∧
     (s.par Prm.timeTb2Source 0 = 3 → s.par Prm.timePpsInEnable 0 = 1 → s.time.ppsLost = false →
       (s.time.ppsLast + 2000000000 ≤ s.now → Answers .ppsInLoss s fun t => t.time = { s.time with ppsLost := true } ∧ Mail { s with time := t.time } t) ∧
       (s.now < s.time.ppsLast + 2000000000 → Answers .ppsInLoss s fun t => t = s)) ∧
     (s.par Prm.timePpsOutEnable 0 = 1 → s.time.ppsOut = false → s.tbState (s.parN Prm.timePpsOutTb 0) ≠ 1 → s.ppsDue = true →
       Answers .ppsOutRise s fun t => t = { s with time := { s.time with ppsOut := true, ppsRose := s.now } }) ∧
     (s.time.ppsOut = true →
       (s.time.ppsRose + s.parN Prm.timePpsOutWidthUs 0 * 1000 ≤ s.now → Answers .ppsOutFall s fun t =>
         t = { s with time := { s.time with ppsOut := false } }) ∧
       (s.now < s.time.ppsRose + s.parN Prm.timePpsOutWidthUs 0 * 1000 → Answers .ppsOutFall s fun t => t = s)))

/-- The Caravan fabric (R442 to R446, R449, R452, R453, R456, R460): members send beacons and urgent packets within the duty limit,
received packets are checked and tell of their sender, and superframes, the fibre alarm and channel rounds change the membership,
the alarms and the channels. The receiver noise of a superframe and the slots of an alarm are open. -/
def Obligations.CaravanMembersTalk : Prop :=
  ∀ s : State, s.stopped cvnUnit = false →
    let c := s.cvn
    let kept := fun (t : State) => Mail { s with cvn := t.cvn } t
    let pass := fun (len : Nat) => (cvnRegion (s.parN Prm.cvnRegion 0)).any
      (fun x => decide (s.hourUs + airUs (s.parN Prm.cvnRate 0) len ≤ 3600000 * x.2.2)) = true
    (c.st = .claim ∨ c.st = .member → ∀ air : Nat,
      ((∀ k, k ≤ (cvnRate (s.parN Prm.cvnRate 0)).2.2.2 → pass k) → Answers (.beaconTx air true) s fun t =>
        t.cvn.sent.length = c.sent.length + 1 ∧ t.cvn.sent.take c.sent.length = c.sent ∧
        (t.cvn.sent.getLast?.map fun p => (p.sf, p.slot, p.code, p.payload.take 12)) =
          some (s.cvnSf, slotOf s.ownId s.cvnSf, s.ownId % 4, s.cvnCore 1) ∧
        t.cvn.claims = (if c.st = .claim then c.claims + 1 else c.claims) ∧ t.cvn.st = c.st ∧ t.cvn.id = c.id ∧ t.cvn.parent = c.parent ∧
        (t.cvn.air.getLast?.map (·.at_)) = some s.now ∧ t.com Prm.cvnTxPackets 0 = satAdd Prm.cvnTxPackets.width (s.com Prm.cvnTxPackets 0).toNat 1 ∧
        kept t) ∧
      (Answers (.beaconTx air false) s fun t => t.cvn.sent = c.sent ∧ t.cvn.air = c.air ∧ t.cvn.st = c.st ∧ kept t)) ∧
    (c.st = .off ∨ c.st = .listen ∨ c.st = .mute → ∀ (air : Nat) (b : Bool), Answers (.beaconTx air b) s fun t => t = s) ∧
    (∀ (slot : Nat) (f : Fibre) (rest : List (Nat × Fibre)), c.urgent = (slot, f) :: rest →
      (c.st = .member → pass (s.sealed (s.cvnCore 2 ++ f.bytes)).length → Answers (.urgentTx true) s fun t => t.cvn.urgent = rest ∧
        t.cvn.sent = c.sent ++ [{ sf := s.cvnSf, slot := slot % 512, code := 4, payload := s.sealed (s.cvnCore 2 ++ f.bytes) }] ∧ t.cvn.nbr = c.nbr ∧ kept t) ∧
      (c.st ≠ .member → ∀ b : Bool, Answers (.urgentTx b) s fun t => t = { s with cvn := { c with urgent := rest } })) ∧
    (c.st ≠ .off → ∀ p : CaravanRx, p.above = none →
      (p.headerOk = false → Answers (.caravanPacketRx p) s fun t => t = bump Prm.cvnRxHdrErr 0 s) ∧
      (p.headerOk = true → p.crcOk = false → Answers (.caravanPacketRx p) s fun t => t = bump Prm.cvnRxCrcErr 0 s) ∧
      (p.headerOk = true → p.crcOk = true → p.full = true → Answers (.caravanPacketRx p) s fun t => t.cvn = c ∧
        t.com Prm.cvnRxDrop 0 = satAdd Prm.cvnRxDrop.width (s.com Prm.cvnRxDrop 0).toNat 1 ∧ Mail s t) ∧
      (p.headerOk = true → p.crcOk = true → p.full = false →
        let core := beNat (p.payload.take 12)
        let m := bits core 91 81
        (bits core 80 65 ≠ s.parN Prm.cvnVenueId 0 ∨ p.payload.length < 12 → Answers (.caravanPacketRx p) s fun t => t = bump Prm.cvnRxPackets 0 s) ∧
        (p.payload.length = 12 → bits core 80 65 = s.parN Prm.cvnVenueId 0 → bits core 93 92 = 1 → bits core 95 94 ≠ 0 → s.isRoot = true →
          Answers (.caravanPacketRx p) s fun t => (t.nbr m).used = true ∧ (t.nbr m).trusted = false ∧
            (t.nbr m).version = min (s.parN Prm.cvnMaxVersion 0) (bits core 95 94) ∧ (t.nbr m).tag = bits core 64 49 ∧ (t.nbr m).lastSf = bits core 48 17 ∧
            (t.nbr m).hops = bits core 16 13 ∧ (t.nbr m).lqi = p.lqi ∧ (t.nbr m).level = p.level - s.par Prm.cvnXcvrRxGainDb 0 ∧
            (t.nbr m).claim = bit core 12 ∧ (t.nbr m).fibreOk = bit core 11 ∧ (∀ k, k ≠ m → t.nbr k = s.nbr k) ∧ t.cvn.hops = 0 ∧ t.cvn.st = c.st ∧
            t.cvn.sent = c.sent ∧ kept t))) ∧
    (c.st = .off ∨ s.cvnSf = c.sf → Answers .superframeStart s fun t => t = s) ∧
    (s.cvnSf ≠ c.sf → c.plan = none →
      let begun := fun (t : State) => t.cvn.sf = s.cvnSf ∧ t.cvn.carried = 0 ∧ t.cvn.granted = 0 ∧ t.cvn.sent = c.sent ∧
        (∀ e ∈ t.cvn.nbr, e ∈ c.nbr ∧ s.cvnSf ≤ e.2.lastSf + 16) ∧ (∀ e ∈ c.nbr, s.cvnSf ≤ e.2.lastSf + 16 → e ∈ t.cvn.nbr) ∧
        Mail { s with cvn := t.cvn, free := t.free } t
      (c.st = .listen → c.whole = false → Answers .superframeStart s fun t => begun t ∧ t.cvn.st = .listen ∧ t.cvn.whole = (s.tbase 2).isSet) ∧
      (c.st = .claim → Answers .superframeStart s fun t => begun t ∧ t.cvn.id = c.id ∧
        t.cvn.st = (if 2 ≤ c.claims ∧ c.claimEnd < s.cvnSf then .member else .claim)) ∧
      (c.st = .mute → Answers .superframeStart s fun t => begun t ∧ t.cvn.st = (if c.muteFrom + 16 ≤ s.cvnSf then .listen else .mute) ∧
        t.cvn.id = (if c.muteFrom + 16 ≤ s.cvnSf then none else c.id)) ∧
      (c.st = .member → Answers .superframeStart s fun t => begun t ∧ t.cvn.st = .member ∧ t.cvn.id = c.id)) ∧
    (c.st ≠ .off → ∀ up : Bool, up = (s.pon.st == .o51) → up ≠ c.fibreOk →
      (c.st ≠ .member → Answers .fibreHoldExpiry s fun t => t = { s with cvn := { c with fibreOk := up, fibreSeq := (c.fibreSeq + 1) % 512 } }) ∧
      (c.st = .member → s.sec.rngFailed = false → Answers .fibreHoldExpiry s fun t => t.cvn.fibreOk = up ∧
        t.cvn.fibreOut = c.fibreOut ++ [{ origin := s.ownId, lost := !up, hops := s.parN Prm.cvnFibreTtl 0, seq := (c.fibreSeq + 1) % 512 }] ∧
        t.cvn.urgent.length = c.urgent.length + 3 ∧ t.cvn.urgent.take c.urgent.length = c.urgent ∧
        (∀ x ∈ t.cvn.urgent.drop c.urgent.length, s.cvnSlot < x.1 ∧ x.1 ≤ s.cvnSlot + 8 ∧ x.2.lost = (!up) ∧ x.1 % 512 ≠ slotOf s.ownId (x.1 / 512)) ∧
        Mail { s with cvn := t.cvn, sec := t.sec, free := t.free } t)) ∧
    (∀ up : Bool, up = (s.pon.st == .o51) → up = c.fibreOk → Answers .fibreHoldExpiry s fun t => t = s) ∧
    (c.st ≠ .member ∨ fieldAt s.venuePlan 0 2 = 0 → Answers .channelRound s fun t => t = s) ∧
    (∀ r : Nat, r < 3 → c.st = .member → fieldAt s.venuePlan 0 2 ≠ 0 → (pick 3 fun r => bit (fieldAt s.venuePlan 6 1) r) = [r] →
      s.par Prm.cvnPlanApply r ≠ 1 →
      let others := fun (t : State) => (∀ k, k ≠ r → t.cvn.cur.get k = c.cur.get k ∧ t.cvn.prop.get k = c.prop.get k) ∧ t.cvn.nbr = c.nbr ∧ kept t
      (c.prop.get r ≠ 0 → Answers .channelRound s fun t => t.cvn.cur.get r = c.prop.get r ∧ t.cvn.prop.get r = 0 ∧ others t) ∧
      (c.prop.get r = 0 → c.cur.get r = 0 → c.nbr = [] → fieldAt s.venuePlan (18 + 10 * r) 1 ≠ 0 → Answers .channelRound s fun t =>
        t.cvn.prop.get r = 1 ∧ t.cvn.cur.get r = 0 ∧ others t))

/-- Power-up and boot (Tables 19-3, 17-9 and 2-5, R38, R67, R468, R508, R533, R542, R553): each step of the sequencer, the ROM, the
loader and firmware initialisation, and the halts with their codes. -/
def Obligations.PowerUpRunsInSteps : Prop :=
  ∀ s : State,
    let only := fun (t : State) => Mail { s with boot := t.boot } t
    let halts := fun (code : Nat) (t : State) => t.boot.stage = 15 ∧ t.boot.errCode = code ∧ t.boot.errStage = s.boot.stage ∧ only t
    (Answers .alwaysOnRailsValid s fun t => t = { s with boot := { s.boot with railsValid := true } }) ∧
    (s.boot.railsValid = true → s.boot.released = false → Answers .porRelease s fun t =>
      t = { s with boot := { s.boot with released := true, enables := 1 } }) ∧
    (s.boot.railsValid = false ∨ s.boot.released = true → Answers .porRelease s fun t => t = s) ∧
    (s.mayRise = true →
      (s.boot.enables < 15 → Answers .pmicEnableStep s fun t => t = { s with boot := { s.boot with enables := 2 * s.boot.enables + 1 } }) ∧
      (s.boot.enables = 15 → s.power.st ≠ .waking → Answers .pmicPgRise s fun t =>
        t = { s with boot := { s.boot with pmicPg := true, pllStarted := true } }) ∧
      (s.boot.pmicPg = false → s.boot.enables ≠ 0 → Answers .pmicPgTimeout s fun t => halts 0x0202 t ∧ t.boot.enables = 0) ∧
      (s.boot.pmicPg = true → Answers .pmicPgTimeout s fun t => t = s) ∧
      (s.boot.pllStarted = true → s.boot.running = false → s.sec.rngHalt = false →
        (Answers (.bootPllLock true true) s fun t => t.boot.stage = 1 ∧ t.boot.running = true ∧ t.boot.source = b2n (s.gpio.get 0).level ∧
          t.boot.enables = s.boot.enables ∧ only t) ∧
        (∀ b : Bool, Answers (.bootPllLock false b) s fun t => t.boot.stage = 15 ∧ t.boot.errCode = 0x0105 ∧ only t) ∧
        (Answers (.bootPllLock true false) s fun t => t.boot.stage = 15 ∧ t.boot.errCode = 0x0106 ∧ Mail { s with boot := t.boot, sec := t.sec } t))) ∧
    (s.mayRise = false → Answers .pmicEnableStep s fun t => t = s) ∧
    (s.boot.running = true → Answers .xspiResetRelease s fun t => t = { s with boot := { s.boot with xspiReleased := true } }) ∧
    (s.boot.stage = 1 → s.boot.source = 0 → s.boot.loaderRuns = false → s.boot.xspiReleased = true →
      (Answers (.loaderVerify false) s fun t => halts 0x0201 t) ∧
      (Answers (.loaderVerify true) s fun t => t.boot.loaderRuns = [s.flash.loader.get 0, s.flash.loader.get 1].any s.fwAccepts ∧
        t.boot.stage = (if [s.flash.loader.get 0, s.flash.loader.get 1].any s.fwAccepts then 1 else 15) ∧ only t)) ∧
    (s.boot.stage = 1 → s.boot.loaderRuns = true → ∀ gib rate : Nat,
      (Answers (.ddrTrainingDone false gib rate) s fun t => halts 0x0206 t) ∧
      (Answers (.ddrTrainingDone true gib 0) s fun t => halts 0x0203 t) ∧
      (gib = 8 ∨ gib = 16 ∨ gib = 24 ∨ gib = 32 → rate ∈ ddrRates → Answers (.ddrTrainingDone true gib rate) s fun t => t.boot.stage = 2 ∧
        t.boot.ddrBytes = gib * 2 ^ 30 ∧ t.boot.ddrRate = rate ∧ only t)) ∧
    (s.boot.stage = 2 → s.boot.source = 0 → s.fw.selected < 2 → Answers .firmwareVerify s fun t =>
      t.boot.stage = (if s.fwAccepts (s.bankImage s.fw.selected) ∨ s.fwAccepts (s.bankImage (1 - s.fw.selected)) then 3 else 15) ∧
      (s.fwAccepts (s.bankImage s.fw.selected) = true → t.boot.bank = s.fw.selected ∧ t.boot.fallback = false ∧ t.boot.initAt = s.now) ∧
      (s.fwAccepts (s.bankImage s.fw.selected) = false → s.fwAccepts (s.bankImage (1 - s.fw.selected)) = true →
        t.boot.bank = 1 - s.fw.selected ∧ t.boot.fallback = true) ∧ t.flash = s.flash ∧ Mail { s with boot := t.boot, sec := t.sec } t) ∧
    (s.boot.stage = 3 →
      (∀ bad : List Nat,
        (s.fw.rollback ≠ 0 → Answers (.bootReady bad) s fun t => t.boot.stage = 14 ∧ t.fw.rollback = 0 ∧ t.flash.bank = s.flash.bank) ∧
        (s.fw.rollback = 0 → Answers (.bootReady bad) s fun t => t.boot.stage = (if s.boot.fallback then 14 else 5) ∧ t.flash.bank = s.flash.bank ∧
          t.boot.bank = s.boot.bank ∧ t.boot.count = s.boot.count)) ∧
      (s.boot.initAt + 30000000000 ≤ s.now → Answers .bootInitTimeout s fun t => halts 0x0204 t) ∧
      (s.now < s.boot.initAt + 30000000000 → Answers .bootInitTimeout s fun t => t = s))

/-- What resets the chip or takes its supplies away (R39, R490, R491, R496, R497, R505 to R507, R528, R544), and what survives: the
reset pin, the supply monitor, the thermal trip, lockstep and watchdogs, firmware trials and their activation. -/
def Obligations.ResetsAndSupplyLosses : Prop :=
  ∀ s : State,
    let logged := fun (e : EvDef) (t : State) => (t.mgmt.log.getLast?.map fun r => r.ev.code) = some e.code
    let sameLog := fun (t : State) => t.mgmt.log = s.mgmt.log
    let backOut := fun (why : Nat) (t : State) => Restarted 4 s t ∧ t.fw.trial = false ∧ t.fw.selected = 1 - s.fw.selected ∧ t.fw.rollback = why ∧
      t.fw.staged = false ∧ sameLog t
    (s.boot.resetLow = false → s.boot.released = true → Answers (.resetPin true) s fun t => Restarted 1 s t ∧ t.boot.resetLow = true ∧ sameLog t) ∧
    (∀ low : Bool, low = false ∨ s.boot.resetLow = true ∨ s.boot.released = false → Answers (.resetPin low) s fun t =>
      t = { s with boot := { s.boot with resetLow := low } }) ∧
    (s.boot.pwrfailLow = false → s.boot.powerDown = false → s.boot.released = true → Answers (.powerFail true) s fun t =>
      t.boot = { s.boot with pwrfailLow := true, powerDown := true, failAt := s.now } ∧ t.flash = { s.flash with held := true } ∧
      t.pon = { s.pon with dyingGasp := true } ∧ (s.mgmtRuns = true → logged Ev.mgmtPowerLoss t) ∧ (s.mgmtRuns = false → sameLog t) ∧
      Mail { s with boot := t.boot, flash := t.flash, pon := t.pon } t) ∧
    (s.boot.pwrfailLow = true → Answers (.powerFail true) s fun t => t = s) ∧
    (s.boot.off = true → Answers (.powerFail false) s fun t =>
      t = { s with boot := { s.boot with pwrfailLow := false, powerDown := false, off := false, enables := 1 }, flash := { s.flash with held := false } }) ∧
    (s.boot.off = false → Answers (.powerFail false) s fun t => t = { s with boot := { s.boot with pwrfailLow := false } }) ∧
    (s.boot.powerDown = true → s.boot.off = false →
      (s.boot.failAt + 3000000 ≤ s.now → Answers .powerdownSequence s fun t => Restarted 0 s t ∧ t.boot.pmicPg = false ∧ sameLog t ∧
        t.boot.off = s.boot.pwrfailLow ∧ t.flash.held = s.boot.pwrfailLow ∧ t.boot.enables = (if s.boot.pwrfailLow then 0 else 1)) ∧
      (s.now < s.boot.failAt + 3000000 → Answers .powerdownSequence s fun t => t = s)) ∧
    (s.boot.pmicPg = true → s.boot.enables = 15 →
      (s.power.st = .run → s.boot.powerDown = false → s.boot.released = true → Answers .pmicPgLoss s fun t => t.boot.pmicPg = false ∧
        t.boot.powerDown = true ∧ t.boot.failAt = s.now ∧ t.flash.held = true ∧ t.pon.dyingGasp = true ∧
        Mail { s with boot := t.boot, flash := t.flash, pon := t.pon } t) ∧
      (s.power.st = .sleep ∨ s.power.st = .waking → Answers .pmicPgLoss s fun t => t = { s with boot := { s.boot with pmicPg := false } })) ∧
    (Answers .aonRailLoss s fun t => t.mbx.session = none ∧ t.mbx.epoch = 1 ∧ t.boot.released = false ∧ t.boot.railsValid = false ∧
      t.boot.enables = 0 ∧ t.boot.stage = 0 ∧ t.boot.count = 0 ∧ t.flash.bank = s.flash.bank ∧ t.sec.custRoot = s.sec.custRoot ∧
      t.sec.records = s.sec.records ∧ t.fw.selected = s.fw.selected ∧ t.fw.resets = s.fw.resets ∧ t.gpio = s.gpio ∧ sameLog t ∧ t.pending = s.pending) ∧
    (∀ c : Int,
      (s.boot.released = true → s.boot.tripped = false → s.trip ≤ c → Answers (.thermalTrip c) s fun t => Restarted 5 s t ∧ t.boot.tripped = true ∧
        t.boot.enables = 0 ∧ t.boot.pmicPg = false ∧ sameLog t) ∧
      (c < s.trip → Answers (.thermalTrip c) s fun t => t = s) ∧
      (s.boot.tripped = true → c ≤ s.trip - 150 → Answers (.thermalTripRelease c) s fun t =>
        t = { s with boot := { s.boot with tripped := false, enables := 1 } }) ∧
      (s.trip - 150 < c → Answers (.thermalTripRelease c) s fun t => t = s)) ∧
    (∀ (pair : Nat) (ecc : Bool), pair < 2 →
      (s.boot.stage = 5 ∨ s.boot.stage = 14 → s.fw.trial = false → Answers (.lockstepMismatch pair ecc) s fun t => Restarted 3 s t ∧
        t.fw.lockstep = satAdd 32 s.fw.lockstep 1 ∧ logged Ev.mgmtLockstep t ∧ t.fw.selected = s.fw.selected) ∧
      (1 ≤ s.boot.stage → s.boot.stage < 5 → Answers (.lockstepMismatch pair ecc) s fun t => t.boot.stage = 15 ∧ t.boot.errCode = 0x0205 ∧
        t.fw.lockstep = satAdd 32 s.fw.lockstep 1 ∧ t.mgmt.pairStopped.get pair = true ∧ logged Ev.mgmtLockstep t ∧
        Mail { s with boot := t.boot, fw := t.fw } t)) ∧
    (s.mgmtRuns = true →
      (s.fw.trial = false → (s.boot.beatAt + 8000000 ≤ s.now → Answers .heartbeatWatchdog s fun t => Restarted 3 s t ∧ logged Ev.mgmtWatchdog t) ∧
        Answers .aonWatchdog s fun t => Restarted 3 s t ∧ logged Ev.mgmtWatchdog t) ∧
      (s.now < s.boot.beatAt + 8000000 → Answers .heartbeatWatchdog s fun t => t = s) ∧
      (s.fw.trial = true → s.fw.selected < 2 → Answers .aonWatchdog s fun t => t.boot.cause = 4 ∧ t.boot.count = (s.boot.count + 2) % 65536 ∧
        t.fw.trial = false ∧ t.fw.selected = 1 - s.fw.selected ∧ t.fw.rollback = 2)) ∧
    (s.fw.trial = true → s.fw.resetAt = none →
      (s.boot.stage ≠ 5 → 30000000000 ≤ s.now → Answers .trialStageTimeout s (backOut 1)) ∧
      (s.boot.stage = 5 ∨ s.now < 30000000000 → Answers .trialStageTimeout s fun t => t = s) ∧
      (s.parN Prm.mgmtFwTrialS 0 * 1000000000 ≤ s.now → Answers .trialTimeExpiry s (backOut 4)) ∧
      (s.now < s.parN Prm.mgmtFwTrialS 0 * 1000000000 → Answers .trialTimeExpiry s fun t => t = s)) ∧
    (∀ a : Nat, s.fw.resetAt = some a →
      (a ≤ s.now → Answers .fwActivateReset s fun t => Restarted 4 s t ∧ t.fw.trial = s.fw.trial ∧ t.fw.selected = s.fw.selected ∧ sameLog t) ∧
      (s.now < a → Answers .fwActivateReset s fun t => t = s)) ∧
    (∀ (k : FwWork) (rest : List FwWork), s.fw.work = k :: rest →
      (k.op ≠ 1 → k.erase = false → Answers .fwFlashWriteDone s fun t => t.fw = { s.fw with work := rest } ∧ Mail { s with fw := t.fw } t) ∧
      (k.op ≠ 1 → k.erase = true → Answers .fwFlashWriteDone s fun t => t.fw.work = rest ∧ t.fw.chunks = s.fw.chunks ∧ t.fw.staged = false ∧
        t.flash.bank.get s.otherBank = none ∧ (∀ b, b ≠ s.otherBank → t.flash.bank.get b = s.flash.bank.get b) ∧
        Mail { s with fw := t.fw, flash := t.flash } t) ∧
      (k.op = 1 → k.erase = false → Answers .fwFlashWriteDone s fun t => t.fw.work = rest ∧ t.fw.chunks = s.fw.chunks ∧
        t.fw.staged = (s.fwAccepts k.img || s.fw.staged) ∧
        t.flash.bank.get s.otherBank = (if s.fwAccepts k.img then some k.img else none) ∧
        (∀ b, b ≠ s.otherBank → t.flash.bank.get b = s.flash.bank.get b) ∧ Mail { s with fw := t.fw, flash := t.flash } t))

/-- The management complex at work (R480, R493 to R495, R498, R554): a poll of the sensors, the steps of the power cap, the writer of
the persistent log, the random number generator's failure and reseed, and the patrol scrubber. -/
def Obligations.ManagementWatches : Prop :=
  ∀ s : State,
    (∀ (temps : List Int) (rails : List Nat) (mw : Nat), s.mgmtRuns = true → temps.length = 16 → rails.length = 9 →
      Answers (.sensorPoll temps rails mw) s fun t =>
        (∀ i, i < 16 → t.mgmt.temp.get i = temps.getD i 0) ∧ (∀ i, i < 9 → t.mgmt.rail.get i = rails.getD i 0) ∧
        t.mgmt.powerMw = min mw 65535 ∧ t.mgmt.tempMax ∈ temps ∧ (∀ x ∈ temps, x ≤ t.mgmt.tempMax) ∧
        t.mgmt.warm = decide (s.warnAt ≤ t.mgmt.tempMax) ∧ t.mgmt.hotSince = (if s.capAt ≤ t.mgmt.tempMax then some (s.mgmt.hotSince.getD s.now) else none) ∧
        t.mgmt.coolSince = (if t.mgmt.tempMax < s.releaseAt then some (s.mgmt.coolSince.getD s.now) else none) ∧ t.mgmt.capStep = s.mgmt.capStep ∧
        (∀ i, i < 9 → t.mgmt.railAlarm.get i = (if (match railEnable i with | some e => bit s.boot.enables e | none => true) then railAlarm i (rails.getD i 0) else 0)) ∧
        (s.wakeEnabled 3 = false ∨ s.power.st = .run → t.power = s.power) ∧
        (s.wakeEnabled 3 = true → s.power.st = .standby ∨ s.power.st = .sleep → s.power.retryFrom = none → s.mgmt.warm = false →
          s.warnAt ≤ t.mgmt.tempMax → t.power.st = .waking ∧ t.power.lastCause = 3) ∧
        Mail { s with boot := t.boot, power := t.power } t) ∧
    (s.mgmtRuns = false → ∀ (temps : List Int) (rails : List Nat) (mw : Nat), Answers (.sensorPoll temps rails mw) s fun t => t = s) ∧
    (s.task.waiters = [] →
      (∀ a : Nat, s.mgmt.hotSince = some a → a + 100000000 ≤ s.now → s.mgmt.capStep < 3 → s.mgmt.capAt = 0 ∨ s.mgmt.capAt + 1000000000 ≤ s.now + 1 →
        Answers .capStepUp s fun t => t.mgmt.capStep = s.mgmt.capStep + 1 ∧ t.mgmt.capAt = s.now + 1 ∧ t.mgmt.hotSince = s.mgmt.hotSince ∧ Mail s t) ∧
      (∀ a : Nat, s.mgmt.coolSince = some a → a + 10000000000 ≤ s.now → 0 < s.mgmt.capStep → Answers .capStepDown s fun t =>
        t.mgmt.capStep = s.mgmt.capStep - 1 ∧ t.mgmt.coolSince = some s.now ∧ t.mgmt.capAt = s.mgmt.capAt ∧ Mail s t)) ∧
    (s.mgmt.hotSince = none → Answers .capStepUp s fun t => t = s) ∧
    (s.mgmt.capStep = 0 → Answers .capStepDown s fun t => t = s) ∧
    (∀ r : EvRec, s.flash.held = false → (s.mgmt.logQueue.find? fun r => r.cls == .fatal).or s.mgmt.logQueue.head? = some r →
      Answers .logFlashWrite s fun t => (t.mgmt.log.getLast?.map fun x => (x.seq, x.ev)) = some (s.mgmt.logSeq, r) ∧
        t.mgmt.logQueue = s.mgmt.logQueue.erase r ∧ t.mgmt.logSeq = (s.mgmt.logSeq + 1) % 0xFFFFFFFF ∧
        t.mgmt.log.length + t.mgmt.logDropped = s.mgmt.log.length + s.mgmt.logDropped + 1 ∧ t = { s with mgmt := t.mgmt }) ∧
    (s.flash.held = true → Answers .logFlashWrite s fun t => t = s) ∧
    (∀ test : Nat, 1 ≤ test → test ≤ 4 → 3 ≤ s.boot.stage → s.boot.stage ≠ 15 → s.power.st = .run → s.recast.jobs = [] → s.recast.held = false →
      Answers (.rngHealthFail test) s fun t => t.sec.rngFailed = true ∧ t.sec.rngFailAt = s.now + 1 ∧
        t.sec.rngHalt = (s.sec.rngHalt || decide (s.sec.rngFailAt ≠ 0 ∧ s.now + 1 - s.sec.rngFailAt < 60000000000)) ∧ t.recast.lastCause = 7 ∧
        (∃ j ∈ t.recast.jobs, j.unit = ⟨2, 0, 0⟩ ∧ j.st = .reset) ∧ t.mbx.epoch = (if s.mbx.epoch = 0xFFFFFFFF then 1 else s.mbx.epoch + 1) ∧
        t.sec.slots = s.sec.slots ∧ t.boot = s.boot ∧ t.flash = s.flash) ∧
    (2 ^ 20 ≤ s.sec.rngRequests → Answers .rngReseed s fun t => t = { s with sec := { s.sec with rngRequests := s.sec.rngRequests - 2 ^ 20 } }) ∧
    (s.sec.rngRequests < 2 ^ 20 → Answers .rngReseed s fun t => t = s) ∧
    (∀ ch n : Nat, ch < 4 → 2 ≤ s.boot.stage → s.boot.stage ≠ 15 → s.power.memOff = false →
      (Answers (.patrolScrub ch 0) s fun t => t = s) ∧ (Answers (.patrolScrub ch 1) s fun t => t = bump Prm.faultDdrEccCorr ch s) ∧
      (2 ≤ n → Answers (.patrolScrub ch n) s fun t => t = bump Prm.faultDdrEccUncorr ch s))

/-- Power states (R509 to R517, Tables 17-10 to 17-13): the block that is asked agrees or refuses, the sequencer takes its steps, a wake
source starts an attempt, and the stages of a wake are run, fail and are tried again. -/
def Obligations.PowerStatesAreEnteredAndLeft : Prop :=
  ∀ s : State,
    let p := s.power
    (p.st = .entering → p.steps = [] →
      (s.blockBusy p.block = true → s.now < p.askedAt + s.parN Prm.pwrDrainMs 0 * 1000000 → Answers .entryBlockDrain s fun t => t = s) ∧
      (s.blockBusy p.block = true → p.block < 12 → p.askedAt + s.parN Prm.pwrDrainMs 0 * 1000000 ≤ s.now → p.origin ≠ .entering →
        Answers .entryBlockDrain s fun t => t.power.st = p.origin ∧ t.power.down = p.origin.blocks ∧ t.power.lastRefuser = p.block ∧ t.power.cid = none ∧
          t.com Prm.pwrRefusals p.block = satAdd Prm.pwrRefusals.width (s.com Prm.pwrRefusals p.block).toNat 1 ∧ Mail { s with power := t.power } t) ∧
      (∀ n : Nat, s.blockBusy p.block = false → n = p.nextBlock (p.block + 1) → n < 11 →
        (Answers .entryBlockDrain s fun t => t.power = { p with down := setBit p.down p.block true, block := n, askedAt := s.now } ∧ t.boot = s.boot ∧
          t.sec = s.sec ∧ t.radio = s.radio) ∧
        (p.block = 10 → Answers .entryBlockDrain s fun t => t.pkt.wb = []) ∧
        (p.block = 0 → Answers .entryBlockDrain s fun t => ∀ r, r < 3 → (t.wradio r).txop = none)) ∧
      (s.blockBusy p.block = false → p.block < 12 → p.nextBlock (p.block + 1) = 12 → s.task.waiters = [] → Answers .entryBlockDrain s fun t =>
        t.power.st = .entering ∧ t.power.steps = (if p.target = .sleep then [1, 2, 3] else [2]) ∧ t.power.down = setBit p.down p.block true ∧
        (∀ e, e < 32 → (t.eng e).sleep = .dormant))) ∧
    (p.st = .entering → p.arrived = none →
      (p.steps = [1, 2, 3] → Answers .entryBlockDrain s fun t => t = { s with power := { p with memOff := true, steps := [2, 3] } }) ∧
      (p.steps = [2] → p.target = .standby → Answers .entryBlockDrain s fun t => t.power.st = .standby ∧ t.power.pllOff = true ∧ t.power.tbEntry = none ∧
        t.power.cid = none ∧ t.power.steps = [] ∧ Mail { s with power := t.power } t) ∧
      (p.steps = [3] → p.target = .sleep → Answers .entryBlockDrain s fun t => t.power.st = .sleep ∧ t.power.railsOff = true ∧ t.boot.enables = 0 ∧
        t.boot.pmicPg = false ∧ (∀ g, 10 ≤ g → g < 24 → (t.gpio.get g).level = false) ∧ Mail { s with power := t.power, boot := t.boot, gpio := t.gpio } t)) ∧
    (∀ b : Nat, s.wakeHolds b = true → s.wakeEnabled b = true →
      (p.st = .standby ∨ p.st = .sleep → p.retryFrom = none → Answers (.wakeSource b) s fun t => t.power.st = .waking ∧ t.power.attempt = 1 ∧
        t.power.lastCause = b ∧ t.power.stage = p.nextStage 0 ∧ t.power.stageAt = s.now ∧ t.power.down.testBit 3 = p.down.testBit 3 ∧
        t.boot.enables = (if p.nextStage 0 = 0 then 15 else s.boot.enables) ∧ Mail { s with power := t.power, boot := t.boot } t) ∧
      (p.st = .entering → p.steps ≠ [] → p.arrived = none → Answers (.wakeSource b) s fun t =>
        t = bump Prm.pwrEntryAborts 0 { s with power := { p with arrived := some b } })) ∧
    (∀ b : Nat, s.wakeEnabled b = false → Answers (.wakeSource b) s fun t => t = s) ∧
    (p.st = .standby ∨ p.st = .sleep → p.sleepMs ≠ 0 →
      (p.asleepAt + p.sleepMs * 1000000 ≤ s.now → s.wakeEnabled 1 = true → p.retryFrom = none → Answers .sleepTimerExpiry s fun t =>
        t.power.st = .waking ∧ t.power.lastCause = 1 ∧ t.power.sleepMs = 0 ∧ t.power.attempt = 1 ∧ Mail { s with power := t.power, boot := t.boot } t) ∧
      (s.now < p.asleepAt + p.sleepMs * 1000000 → Answers .sleepTimerExpiry s fun t => t = s)) ∧
    (p.st = .waking →
      (p.stage = 0 → (Answers .wakeStageReady s fun t => t.power.railsOff = false ∧ t.boot.pmicPg = true ∧ t.power.stage = p.nextStage 1 ∧
          t.power.stageAt = s.now ∧ t.power.st = .waking ∧ Mail { s with power := t.power, boot := t.boot } t) ∧
        exec .pmicPgRise s = exec .wakeStageReady s) ∧
      (p.stage = 1 → Answers .wakeStageReady s fun t => t.power.pllOff = false ∧ t.power.tbEntry = none ∧ t.power.stage = p.nextStage 2 ∧
        t.power.st = .waking ∧ Mail { s with power := t.power, time := t.time, free := t.free } t) ∧
      (p.stage = 2 → Answers .wakeStageReady s fun t => t.power.memOff = false ∧ t.power.stage = 3 ∧ t.power.stageAt = s.now ∧ t.power.st = .waking ∧
        Mail { s with power := t.power } t) ∧
      (3 ≤ p.stage → s.task.waiters = [] → s.recast.queue = [] → Answers .wakeStageReady s fun t => t.power.st = .run ∧ t.power.down = 0 ∧
        t.power.memOff = false ∧ t.power.pllOff = false ∧ t.power.railsOff = false ∧ t.power.cid = none ∧ t.flash = s.flash) ∧
      (s.now < p.stageAt + s.stageLimit p.stage → ∀ w : Nat, Answers (.wakeStageTimeout w) s fun t => t = s) ∧
      (p.stageAt + s.stageLimit p.stage ≤ s.now → p.stage < 4 → p.target = .standby ∨ p.target = .sleep → s.recast.queue = [] → ∀ w : Nat,
        Answers (.wakeStageTimeout w) s fun t => t.power.st = p.target ∧ t.power.pllOff = true ∧ t.power.asleepAt = s.now ∧
          t.com Prm.pwrWakeFail p.stage = satAdd Prm.pwrWakeFail.width (s.com Prm.pwrWakeFail p.stage).toNat 1 ∧
          t.power.retryFrom = (if p.attempt < 4 then some s.now else p.retryFrom) ∧ t.power.attempt = p.attempt)) ∧
    (∀ a : Nat, p.retryFrom = some a →
      (a + s.parN Prm.pwrRetryMs 0 * 1000000 ≤ s.now → p.st ≠ .waking → Answers .wakeRetry s fun t => t.power.st = .waking ∧
        t.power.attempt = p.attempt + 1 ∧ t.power.retryFrom = none ∧ t.power.stage = p.nextStage 0 ∧ Mail { s with power := t.power, boot := t.boot } t) ∧
      (s.now < a + s.parN Prm.pwrRetryMs 0 * 1000000 → Answers .wakeRetry s fun t => t = s))

/-- Recasts (R62, R63, R501 to R504, Tables 17-5 to 17-7): a fault of the unit that its cause reaches is absorbed, queued or starts a
recast, and a recast goes from RESET through RESTORE and RESUME to its end, or stops HELD. -/
def Obligations.RecastsRunTheirStates : Prop :=
  ∀ s : State,
    let busy := fun (u : RUnit) (st : RState) (t : State) => (t.recast.jobs.any fun j => j.unit == u && j.st == st) = true
    (∀ (u : RUnit) (c : Nat), s.booted = true → u.valid = true → 1 ≤ c → c ≤ 12 → s.unitOff u = false → s.power.st ≠ .entering →
      let v := u.reach c
      (s.recastHolds v = true → Answers (.faultAdmit u c) s fun t => t = bump Prm.faultAbsorbed 0 s) ∧
      (v.scope = 1 → s.recastHolds v = false → s.power.st = .run → (∀ q ∈ s.recast.queue, q.1 ≠ v) →
        s.recastsWithin v (s.parN Prm.faultEscalateWindowS 0) < s.parN Prm.faultEscalateN 0 →
        (s.recast.jobs = [] → Answers (.faultAdmit u c) s fun t => t.recast.jobs = [{ unit := v, cause := c, st := .reset, full := true }] ∧
          t.recast.lastCause = c ∧ t.recast.history = s.recast.history ++ [(v, s.now)] ∧
          t.mbx.epoch = (if s.mbx.epoch = 0xFFFFFFFF then 1 else s.mbx.epoch + 1) ∧ t.cfg.staging = [] ∧ t.mbx.outstanding = [] ∧
          Mail { s with recast := t.recast, pkt := t.pkt } t) ∧
        ((s.recast.jobs.any fun j => decide (0 < j.unit.scope)) = true → s.recast.queue.length < 32 → Answers (.faultAdmit u c) s fun t =>
          t = { s with recast := { s.recast with queue := s.recast.queue ++ [(v, c)] } })) ∧
      (v = ⟨0, 0x14, 0⟩ → s.recastHolds v = false → s.power.st = .run → Answers (.faultAdmit u c) s fun t => busy v .reset t ∧
        t.recast.lastCause = c ∧ t.mbx.epoch = s.mbx.epoch ∧ Mail { s with recast := t.recast } t)) ∧
    (∀ u : RUnit, s.booted = false → ∀ c : Nat, Answers (.faultAdmit u c) s fun t => t = s) ∧
    (∀ (u : RUnit) (j : RecastJob), s.recastIn u .reset = some j →
      (u.scope ≤ 1 → Answers (.recastResetDone u) s fun t => busy u .restore t ∧ t.recast.queue = s.recast.queue ∧ t.recast.history = s.recast.history ∧
        t.mbx.epoch = s.mbx.epoch ∧ t.boot = s.boot ∧ t.flash = s.flash) ∧
      (u = ⟨1, 0x0C, 0⟩ → Answers (.recastResetDone u) s fun t => t.pkt.wb = [] ∧ t.pkt.frag = [] ∧ t.pkt.flow = s.pkt.flow ∧
        t.pkt.tcam = s.pkt.tcam ∧ (∀ q, (t.tq q).pkts = [])) ∧
      (u = ⟨2, 0, 0⟩ → j.full = true → Answers (.recastResetDone u) s fun t => busy u .restore t ∧ t.pkt.wb = [] ∧ t.boot = s.boot ∧ t.flash = s.flash) ∧
      (u = ⟨2, 0, 0⟩ → j.full = false → s.trialRuns = false → Answers (.recastResetDone u) s fun t => t.recast.held = true ∧
        (t.recast.jobs.any fun j => j.unit == u) = false ∧ t.recasting = true ∧ t.boot = s.boot)) ∧
    (∀ u : RUnit, s.recastIn u .reset = none → Answers (.recastResetDone u) s fun t => t = s) ∧
    (∀ (u : RUnit) (j : RecastJob), s.recastIn u .restore = some j →
      (Answers (.recastRestoreDone u) s fun t => busy u .resume t ∧ t.pkt = s.pkt ∧ t.mbx = s.mbx ∧ Mail { s with recast := t.recast, task := t.task } t) ∧
      (u = ⟨1, 0x0B, 0⟩ → Answers (.recastRestoreDone u) s fun t => t.task = s.task)) ∧
    (∀ u : RUnit, s.recastIn u .restore = none → Answers (.recastRestoreDone u) s fun t => t = s) ∧
    (∀ (u : RUnit) (j : RecastJob), s.recastIn u .resume = some j → s.task.waiters = [] →
      (u.scope = 1 → s.recast.queue = [] → Answers (.recastResumeDone u) s fun t =>
        t = { s with recast := { s.recast with jobs := s.recast.jobs.filter fun j => j.unit != u } }) ∧
      (u.scope = 1 → ∀ (v : RUnit) (c : Nat), s.recast.queue = [(v, c)] → s.recast.held = false → v.scope = 1 → s.power.st = .run →
        s.recastsWithin v (s.parN Prm.faultEscalateWindowS 0) < s.parN Prm.faultEscalateN 0 →
        (s.recast.jobs.filter fun j => j.unit != u) = [] → Answers (.recastResumeDone u) s fun t => busy v .reset t ∧ t.recast.queue = [] ∧
          t.mbx.epoch = (if s.mbx.epoch = 0xFFFFFFFF then 1 else s.mbx.epoch + 1))) ∧
    (∀ u : RUnit, s.recastIn u .resume = none → Answers (.recastResumeDone u) s fun t => t = s)

/-- GPIO and the test access port (R535 to R537, Table 18-7): an edge moves a ball that the device does not drive, the TAP follows TMS and
shifts on TCK, and TRST_L resets it. -/
def Obligations.PinsAndTestPort : Prop :=
  ∀ s : State,
    let j := s.jtag
    (∀ (g : Nat) (level : Bool), g < 24 → s.gpioDead g = false →
      (s.gpioDrive g = none → Answers (.gpioEdge g level) s fun t => (t.gpio.get g).level = level ∧ (∀ k, k ≠ g → t.gpio.get k = s.gpio.get k) ∧
        (s.gpioLevel g = level ∨ bit (s.parN Prm.devGpioEvent g) (if level then 0 else 1) = false → t.evt = s.evt) ∧ Mail { s with gpio := t.gpio } t) ∧
      (s.gpioDrive g ≠ none → Answers (.gpioEdge g level) s fun t => t = s)) ∧
    (s.boot.railsValid = true →
      (j.tck = false → ∀ (tms tdi : Bool) (balls : Nat), Answers (.jtagTckEdge true tms tdi balls) s fun t => t.jtag.tap = j.tap.next tms ∧
        t.jtag.tck = true ∧ t.jtag.ir = (if j.tap.next tms = .testLogicReset then 1 else j.ir) ∧ t.jtag.tdo = j.tdo ∧ t.jtag.boundary = j.boundary ∧
        (j.tap = .shiftIr → t.jtag.irShift = j.irShift / 2 + b2n tdi * 32) ∧
        (j.tap = .captureDr → j.ir = 1 → t.jtag.drShift = 0x17180C4B) ∧
        (j.tap = .shiftDr → j.ir = 1 → t.jtag.drShift = j.drShift / 2 + b2n tdi * 2 ^ 31) ∧
        (j.tap = .captureDr → j.ir = 2 → t.jtag.drShift = balls % 2 ^ 160) ∧
        (j.tap = .shiftDr → j.ir = 63 → t.jtag.drShift = j.drShift / 2 + b2n tdi) ∧ t = { s with jtag := t.jtag }) ∧
      (j.tck = true → ∀ (tms tdi : Bool) (balls : Nat),
        (j.tap = .updateIr → Answers (.jtagTckEdge false tms tdi balls) s fun t => t = { s with jtag := { j with tck := false, ir := j.irShift % 64, tdo := none } }) ∧
        (j.tap = .shiftIr → Answers (.jtagTckEdge false tms tdi balls) s fun t => t = { s with jtag := { j with tck := false, tdo := some (bit j.irShift 0) } }) ∧
        (j.tap = .shiftDr → s.sec.debugPerms = 0 → Answers (.jtagTckEdge false tms tdi balls) s fun t =>
          t = { s with jtag := { j with tck := false, tdo := some (bit j.drShift 0) } }) ∧
        (j.tap = .updateDr → j.ir = 0 → Answers (.jtagTckEdge false tms tdi balls) s fun t =>
          t = { s with jtag := { j with tck := false, boundary := j.drShift, tdo := none } }) ∧
        (j.tap = .runTestIdle → Answers (.jtagTckEdge false tms tdi balls) s fun t => t = { s with jtag := { j with tck := false, tdo := none } }))) ∧
    (∀ (r tms tdi : Bool) (balls : Nat), s.boot.railsValid = false ∨ j.tck = r → Answers (.jtagTckEdge r tms tdi balls) s fun t => t = s) ∧
    (Answers .jtagTrstLLow s fun t => t = { s with jtag := { j with tap := .testLogicReset, ir := 1, tdo := none } })
end

