-- ==== Sys2Proof/Laws/Tab.lean ====
section
/-!
SUPPORT. Sparse tables: a read after a write, and the canonical form that every table operation keeps.
-/
namespace Sys2Proof

variable {α : Type}

@[simp] theorem Tab.get_nil [Inhabited α] (a : Nat) : Tab.get ([] : Tab α) a = default := rfl

theorem Tab.get_insert [Inhabited α] (t : Tab α) (a b : Nat) (x : α) :
    Tab.get (Tab.insert t a x) b = if a = b then x else Tab.get t b := by
  induction t with
  | nil => rfl
  | cons e t ih =>
    obtain ⟨k, v⟩ := e
    unfold Tab.insert
    split
    · rfl
    · split
      · rename_i h2; subst h2; simp only [Tab.get]; split_ifs <;> rfl
      · simp only [Tab.get, ih]; grind

theorem Tab.get_filter_of_neg [Inhabited α] (p : Nat → Bool) (a : Nat) (h : p a = false) (t : Tab α) :
    Tab.get (t.filter fun e => p e.1) a = default := by
  induction t with
  | nil => rfl
  | cons e t ih =>
    obtain ⟨k, v⟩ := e
    simp only [List.filter_cons]
    split_ifs with hk
    · simp only [Tab.get, ih]; grind
    · exact ih

theorem Tab.get_filter_of_pos [Inhabited α] (p : Nat → Bool) (a : Nat) (h : p a = true) (t : Tab α) :
    Tab.get (t.filter fun e => p e.1) a = Tab.get t a := by
  induction t with
  | nil => rfl
  | cons e t ih =>
    obtain ⟨k, v⟩ := e
    simp only [List.filter_cons]
    split_ifs with hk
    · simp only [Tab.get, ih]
    · simp only [Tab.get, ih]; grind

theorem Tab.get_erase [Inhabited α] (t : Tab α) (a b : Nat) :
    Tab.get (Tab.erase t a) b = if a = b then default else Tab.get t b := by
  by_cases h : a = b
  · subst h; rw [if_pos rfl]; exact Tab.get_filter_of_neg (fun k => k != a) a (by simp) t
  · rw [if_neg h]; exact Tab.get_filter_of_pos (fun k => k != a) b (by simp [Ne.symm h]) t

theorem Tab.get_put [Inhabited α] [DecidableEq α] (t : Tab α) (a b : Nat) (x : α) :
    Tab.get (Tab.put t a x) b = if a = b then x else Tab.get t b := by
  unfold Tab.put
  split_ifs with h hab hab
  · subst hab; rw [Tab.get_erase, if_pos rfl, h]
  · rw [Tab.get_erase, if_neg hab]
  · rw [Tab.get_insert, if_pos hab]
  · rw [Tab.get_insert, if_neg hab]

@[simp] theorem Tab.get_put_same [Inhabited α] [DecidableEq α] (t : Tab α) (a : Nat) (x : α) :
    Tab.get (Tab.put t a x) a = x := by simp [Tab.get_put]

@[simp] theorem Tab.get_upd_same [Inhabited α] [DecidableEq α] (t : Tab α) (a : Nat) (f : α → α) :
    Tab.get (Tab.upd t a f) a = f (Tab.get t a) := by simp [Tab.upd]

theorem Tab.get_upd [Inhabited α] [DecidableEq α] (t : Tab α) (a b : Nat) (f : α → α) :
    Tab.get (Tab.upd t a f) b = if a = b then f (Tab.get t b) else Tab.get t b := by
  unfold Tab.upd; rw [Tab.get_put]; split_ifs with h
  · rw [h]
  · rfl

theorem Tab.get_put_ne [Inhabited α] [DecidableEq α] (t : Tab α) (a b : Nat) (x : α) (h : a ≠ b) :
    Tab.get (Tab.put t a x) b = Tab.get t b := by simp [Tab.get_put, h]

theorem Tab.get_upd_ne [Inhabited α] [DecidableEq α] (t : Tab α) (a b : Nat) (f : α → α) (h : a ≠ b) :
    Tab.get (Tab.upd t a f) b = Tab.get t b := by simp [Tab.get_upd, h]

/-! ### The canonical form -/

theorem Tab.rising_mono (t : Tab α) (b c : Nat) (h : b ≤ c) (ht : Tab.rising c t = true) : Tab.rising b t = true := by
  cases t with
  | nil => rfl
  | cons e t => simp only [Tab.rising, Bool.and_eq_true, decide_eq_true_eq] at ht ⊢; exact ⟨le_trans h ht.1, ht.2⟩

theorem Tab.rising_filter (p : Nat × α → Bool) (t : Tab α) (b : Nat) (ht : Tab.rising b t = true) :
    Tab.rising b (t.filter p) = true := by
  induction t generalizing b with
  | nil => rfl
  | cons e t ih =>
    simp only [Tab.rising, Bool.and_eq_true, decide_eq_true_eq] at ht
    simp only [List.filter_cons]
    split_ifs
    · simp only [Tab.rising, Bool.and_eq_true, decide_eq_true_eq]; exact ⟨ht.1, ih _ ht.2⟩
    · exact ih b (Tab.rising_mono t b (e.1 + 1) (by omega) ht.2)

theorem Tab.rising_insert (t : Tab α) (a : Nat) (x : α) (b : Nat) (hb : b ≤ a) (ht : Tab.rising b t = true) :
    Tab.rising b (Tab.insert t a x) = true := by
  induction t generalizing b with
  | nil => simp [Tab.insert, Tab.rising, hb]
  | cons e t ih =>
    obtain ⟨k, v⟩ := e
    simp only [Tab.rising, Bool.and_eq_true, decide_eq_true_eq] at ht
    simp only [Tab.insert]
    split_ifs with h1 h2
    · simp only [Tab.rising, Bool.and_eq_true, decide_eq_true_eq]; exact ⟨hb, h1, ht.2⟩
    · subst h2; simp only [Tab.rising, Bool.and_eq_true, decide_eq_true_eq]; exact ⟨hb, ht.2⟩
    · simp only [Tab.rising, Bool.and_eq_true, decide_eq_true_eq]
      exact ⟨ht.1, ih (k + 1) (by omega) ht.2⟩

theorem Tab.rising_map {β : Type} (f : Nat × α → β) (t : Tab α) (b : Nat) (ht : Tab.rising b t = true) :
    Tab.rising b (t.map fun e => (e.1, f e)) = true := by
  induction t generalizing b with
  | nil => rfl
  | cons e t ih =>
    simp only [Tab.rising, Bool.and_eq_true, decide_eq_true_eq] at ht
    simp only [List.map_cons, Tab.rising, Bool.and_eq_true, decide_eq_true_eq]
    exact ⟨ht.1, ih _ ht.2⟩

theorem Tab.mem_insert (t : Tab α) (a : Nat) (x : α) (e : Nat × α) (h : e ∈ Tab.insert t a x) : e = (a, x) ∨ e ∈ t := by
  induction t with
  | nil => simpa [Tab.insert] using h
  | cons d t ih =>
    obtain ⟨k, v⟩ := d
    simp only [Tab.insert] at h
    split_ifs at h <;> simp only [List.mem_cons] at h ⊢ <;> tauto

section
variable [Inhabited α] [DecidableEq α]

theorem Tab.wf_nil : Tab.wf ([] : Tab α) = true := rfl

theorem Tab.wf_filter (p : Nat × α → Bool) (t : Tab α) (h : Tab.wf t = true) : Tab.wf (t.filter p) = true := by
  simp only [Tab.wf, Bool.and_eq_true, List.all_eq_true] at h ⊢
  exact ⟨Tab.rising_filter p t 0 h.1, fun e he => h.2 e (List.mem_filter.mp he).1⟩

/-- A write keeps the canonical form. -/
theorem Tab.wf_put (t : Tab α) (a : Nat) (x : α) (h : Tab.wf t = true) : Tab.wf (Tab.put t a x) = true := by
  unfold Tab.put
  split_ifs with hx
  · exact Tab.wf_filter _ t h
  · simp only [Tab.wf, Bool.and_eq_true, List.all_eq_true] at h ⊢
    refine ⟨Tab.rising_insert t a x 0 (Nat.zero_le _) h.1, fun e he => ?_⟩
    rcases Tab.mem_insert t a x e he with rfl | he
    · simpa using hx
    · exact h.2 e he

/-- A change of one value keeps the canonical form. -/
theorem Tab.wf_upd (t : Tab α) (a : Nat) (f : α → α) (h : Tab.wf t = true) : Tab.wf (Tab.upd t a f) = true :=
  Tab.wf_put t a _ h

theorem Tab.wf_erase (t : Tab α) (a : Nat) (h : Tab.wf t = true) : Tab.wf (Tab.erase t a) = true := Tab.wf_filter _ t h

theorem Tab.wf_clearRange (t : Tab α) (lo hi : Nat) (h : Tab.wf t = true) : Tab.wf (Tab.clearRange t lo hi) = true :=
  Tab.wf_filter _ t h

/-- A change of every value keeps the canonical form. -/
theorem Tab.wf_mapV (f : α → α) (t : Tab α) (h : Tab.wf t = true) : Tab.wf (Tab.mapV f t) = true := by
  simp only [Tab.wf, Bool.and_eq_true, List.all_eq_true, Tab.mapV] at h ⊢
  refine ⟨Tab.rising_filter _ _ 0 (Tab.rising_map (fun e => f e.2) t 0 h.1), fun e he => ?_⟩
  exact (List.mem_filter.mp he).2

end

/-! ### Byte strings -/

@[simp] theorem length_le (k v : Nat) : (le k v).length = k := by
  induction k generalizing v with
  | zero => rfl
  | succ k ih => simp [le, ih]

/-- A little-endian number reads back, up to its width. -/
theorem leNat_le (k v : Nat) : leNat (le k v) = v % 256 ^ k := by
  induction k generalizing v with
  | zero => simp [le, leNat, Nat.mod_one]
  | succ k ih =>
    have h : 256 ^ (k + 1) = 256 * 256 ^ k := by rw [pow_succ, Nat.mul_comm]
    simp only [le, leNat, ih, BitVec.toNat_ofNat]
    rw [h, Nat.mod_mul (x := v) (a := 256) (b := 256 ^ k)]

end Sys2Proof
end

