-- ==== Sys2Proof/Laws/State.lean ====
section
/-!
SUPPORT. What each named update of the state leaves unchanged, field by field, and what its own part reads afterwards.
-/
namespace Sys2Proof.Machine

section
variable (n : Nat) (f : Lane → Lane) (s : State)
@[simp] theorem updLane_host : (updLane n f s).host = s.host := rfl
@[simp] theorem updLane_mbx : (updLane n f s).mbx = s.mbx := rfl
@[simp] theorem updLane_evt : (updLane n f s).evt = s.evt := rfl
@[simp] theorem updLane_cfg : (updLane n f s).cfg = s.cfg := rfl
@[simp] theorem updLane_flash : (updLane n f s).flash = s.flash := rfl
@[simp] theorem updLane_sec : (updLane n f s).sec = s.sec := rfl
@[simp] theorem updLane_time : (updLane n f s).time = s.time := rfl
@[simp] theorem updLane_boot : (updLane n f s).boot = s.boot := rfl
@[simp] theorem updLane_fw : (updLane n f s).fw = s.fw := rfl
@[simp] theorem updLane_recast : (updLane n f s).recast = s.recast := rfl
@[simp] theorem updLane_power : (updLane n f s).power = s.power := rfl
@[simp] theorem updLane_mgmt : (updLane n f s).mgmt = s.mgmt := rfl
@[simp] theorem updLane_jtag : (updLane n f s).jtag = s.jtag := rfl
@[simp] theorem updLane_gpio : (updLane n f s).gpio = s.gpio := rfl
@[simp] theorem updLane_beam : (updLane n f s).beam = s.beam := rfl
@[simp] theorem updLane_pkt : (updLane n f s).pkt = s.pkt := rfl
@[simp] theorem updLane_toll : (updLane n f s).toll = s.toll := rfl
@[simp] theorem updLane_task : (updLane n f s).task = s.task := rfl
@[simp] theorem updLane_dma : (updLane n f s).dma = s.dma := rfl
@[simp] theorem updLane_eth : (updLane n f s).eth = s.eth := rfl
@[simp] theorem updLane_wlan : (updLane n f s).wlan = s.wlan := rfl
@[simp] theorem updLane_pon : (updLane n f s).pon = s.pon := rfl
@[simp] theorem updLane_cvn : (updLane n f s).cvn = s.cvn := rfl
@[simp] theorem updLane_free : (updLane n f s).free = s.free := rfl
@[simp] theorem updLane_pending : (updLane n f s).pending = s.pending := rfl
end

section
variable (l : Nat) (f : Link → Link) (s : State)
@[simp] theorem updLink_host : (updLink l f s).host = s.host := rfl
@[simp] theorem updLink_mbx : (updLink l f s).mbx = s.mbx := rfl
@[simp] theorem updLink_evt : (updLink l f s).evt = s.evt := rfl
@[simp] theorem updLink_cfg : (updLink l f s).cfg = s.cfg := rfl
@[simp] theorem updLink_flash : (updLink l f s).flash = s.flash := rfl
@[simp] theorem updLink_sec : (updLink l f s).sec = s.sec := rfl
@[simp] theorem updLink_time : (updLink l f s).time = s.time := rfl
@[simp] theorem updLink_boot : (updLink l f s).boot = s.boot := rfl
@[simp] theorem updLink_fw : (updLink l f s).fw = s.fw := rfl
@[simp] theorem updLink_recast : (updLink l f s).recast = s.recast := rfl
@[simp] theorem updLink_power : (updLink l f s).power = s.power := rfl
@[simp] theorem updLink_mgmt : (updLink l f s).mgmt = s.mgmt := rfl
@[simp] theorem updLink_jtag : (updLink l f s).jtag = s.jtag := rfl
@[simp] theorem updLink_gpio : (updLink l f s).gpio = s.gpio := rfl
@[simp] theorem updLink_beam : (updLink l f s).beam = s.beam := rfl
@[simp] theorem updLink_pkt : (updLink l f s).pkt = s.pkt := rfl
@[simp] theorem updLink_toll : (updLink l f s).toll = s.toll := rfl
@[simp] theorem updLink_task : (updLink l f s).task = s.task := rfl
@[simp] theorem updLink_dma : (updLink l f s).dma = s.dma := rfl
@[simp] theorem updLink_eth : (updLink l f s).eth = s.eth := rfl
@[simp] theorem updLink_wlan : (updLink l f s).wlan = s.wlan := rfl
@[simp] theorem updLink_pon : (updLink l f s).pon = s.pon := rfl
@[simp] theorem updLink_cvn : (updLink l f s).cvn = s.cvn := rfl
@[simp] theorem updLink_free : (updLink l f s).free = s.free := rfl
@[simp] theorem updLink_pending : (updLink l f s).pending = s.pending := rfl
end

section
variable (c : Nat) (f : Ach → Ach) (s : State)
@[simp] theorem updAch_host : (updAch c f s).host = s.host := rfl
@[simp] theorem updAch_mbx : (updAch c f s).mbx = s.mbx := rfl
@[simp] theorem updAch_evt : (updAch c f s).evt = s.evt := rfl
@[simp] theorem updAch_cfg : (updAch c f s).cfg = s.cfg := rfl
@[simp] theorem updAch_flash : (updAch c f s).flash = s.flash := rfl
@[simp] theorem updAch_sec : (updAch c f s).sec = s.sec := rfl
@[simp] theorem updAch_time : (updAch c f s).time = s.time := rfl
@[simp] theorem updAch_boot : (updAch c f s).boot = s.boot := rfl
@[simp] theorem updAch_fw : (updAch c f s).fw = s.fw := rfl
@[simp] theorem updAch_recast : (updAch c f s).recast = s.recast := rfl
@[simp] theorem updAch_power : (updAch c f s).power = s.power := rfl
@[simp] theorem updAch_mgmt : (updAch c f s).mgmt = s.mgmt := rfl
@[simp] theorem updAch_jtag : (updAch c f s).jtag = s.jtag := rfl
@[simp] theorem updAch_gpio : (updAch c f s).gpio = s.gpio := rfl
@[simp] theorem updAch_beam : (updAch c f s).beam = s.beam := rfl
@[simp] theorem updAch_pkt : (updAch c f s).pkt = s.pkt := rfl
@[simp] theorem updAch_toll : (updAch c f s).toll = s.toll := rfl
@[simp] theorem updAch_task : (updAch c f s).task = s.task := rfl
@[simp] theorem updAch_dma : (updAch c f s).dma = s.dma := rfl
@[simp] theorem updAch_eth : (updAch c f s).eth = s.eth := rfl
@[simp] theorem updAch_wlan : (updAch c f s).wlan = s.wlan := rfl
@[simp] theorem updAch_pon : (updAch c f s).pon = s.pon := rfl
@[simp] theorem updAch_cvn : (updAch c f s).cvn = s.cvn := rfl
@[simp] theorem updAch_free : (updAch c f s).free = s.free := rfl
@[simp] theorem updAch_pending : (updAch c f s).pending = s.pending := rfl
end

section
variable (r : Nat) (f : Cal → Cal) (s : State)
@[simp] theorem updCal_host : (updCal r f s).host = s.host := rfl
@[simp] theorem updCal_mbx : (updCal r f s).mbx = s.mbx := rfl
@[simp] theorem updCal_evt : (updCal r f s).evt = s.evt := rfl
@[simp] theorem updCal_cfg : (updCal r f s).cfg = s.cfg := rfl
@[simp] theorem updCal_flash : (updCal r f s).flash = s.flash := rfl
@[simp] theorem updCal_sec : (updCal r f s).sec = s.sec := rfl
@[simp] theorem updCal_time : (updCal r f s).time = s.time := rfl
@[simp] theorem updCal_boot : (updCal r f s).boot = s.boot := rfl
@[simp] theorem updCal_fw : (updCal r f s).fw = s.fw := rfl
@[simp] theorem updCal_recast : (updCal r f s).recast = s.recast := rfl
@[simp] theorem updCal_power : (updCal r f s).power = s.power := rfl
@[simp] theorem updCal_mgmt : (updCal r f s).mgmt = s.mgmt := rfl
@[simp] theorem updCal_jtag : (updCal r f s).jtag = s.jtag := rfl
@[simp] theorem updCal_gpio : (updCal r f s).gpio = s.gpio := rfl
@[simp] theorem updCal_beam : (updCal r f s).beam = s.beam := rfl
@[simp] theorem updCal_pkt : (updCal r f s).pkt = s.pkt := rfl
@[simp] theorem updCal_toll : (updCal r f s).toll = s.toll := rfl
@[simp] theorem updCal_task : (updCal r f s).task = s.task := rfl
@[simp] theorem updCal_dma : (updCal r f s).dma = s.dma := rfl
@[simp] theorem updCal_eth : (updCal r f s).eth = s.eth := rfl
@[simp] theorem updCal_wlan : (updCal r f s).wlan = s.wlan := rfl
@[simp] theorem updCal_pon : (updCal r f s).pon = s.pon := rfl
@[simp] theorem updCal_cvn : (updCal r f s).cvn = s.cvn := rfl
@[simp] theorem updCal_free : (updCal r f s).free = s.free := rfl
@[simp] theorem updCal_pending : (updCal r f s).pending = s.pending := rfl
end

section
variable (h : Nat) (f : Feed → Feed) (s : State)
@[simp] theorem updFeed_host : (updFeed h f s).host = s.host := rfl
@[simp] theorem updFeed_mbx : (updFeed h f s).mbx = s.mbx := rfl
@[simp] theorem updFeed_evt : (updFeed h f s).evt = s.evt := rfl
@[simp] theorem updFeed_cfg : (updFeed h f s).cfg = s.cfg := rfl
@[simp] theorem updFeed_flash : (updFeed h f s).flash = s.flash := rfl
@[simp] theorem updFeed_sec : (updFeed h f s).sec = s.sec := rfl
@[simp] theorem updFeed_time : (updFeed h f s).time = s.time := rfl
@[simp] theorem updFeed_boot : (updFeed h f s).boot = s.boot := rfl
@[simp] theorem updFeed_fw : (updFeed h f s).fw = s.fw := rfl
@[simp] theorem updFeed_recast : (updFeed h f s).recast = s.recast := rfl
@[simp] theorem updFeed_power : (updFeed h f s).power = s.power := rfl
@[simp] theorem updFeed_mgmt : (updFeed h f s).mgmt = s.mgmt := rfl
@[simp] theorem updFeed_jtag : (updFeed h f s).jtag = s.jtag := rfl
@[simp] theorem updFeed_gpio : (updFeed h f s).gpio = s.gpio := rfl
@[simp] theorem updFeed_beam : (updFeed h f s).beam = s.beam := rfl
@[simp] theorem updFeed_pkt : (updFeed h f s).pkt = s.pkt := rfl
@[simp] theorem updFeed_toll : (updFeed h f s).toll = s.toll := rfl
@[simp] theorem updFeed_task : (updFeed h f s).task = s.task := rfl
@[simp] theorem updFeed_dma : (updFeed h f s).dma = s.dma := rfl
@[simp] theorem updFeed_eth : (updFeed h f s).eth = s.eth := rfl
@[simp] theorem updFeed_wlan : (updFeed h f s).wlan = s.wlan := rfl
@[simp] theorem updFeed_pon : (updFeed h f s).pon = s.pon := rfl
@[simp] theorem updFeed_cvn : (updFeed h f s).cvn = s.cvn := rfl
@[simp] theorem updFeed_free : (updFeed h f s).free = s.free := rfl
@[simp] theorem updFeed_pending : (updFeed h f s).pending = s.pending := rfl
end

section
variable (r : Nat) (f : WRadio → WRadio) (s : State)
@[simp] theorem updWradio_host : (updWradio r f s).host = s.host := rfl
@[simp] theorem updWradio_mbx : (updWradio r f s).mbx = s.mbx := rfl
@[simp] theorem updWradio_evt : (updWradio r f s).evt = s.evt := rfl
@[simp] theorem updWradio_cfg : (updWradio r f s).cfg = s.cfg := rfl
@[simp] theorem updWradio_flash : (updWradio r f s).flash = s.flash := rfl
@[simp] theorem updWradio_sec : (updWradio r f s).sec = s.sec := rfl
@[simp] theorem updWradio_time : (updWradio r f s).time = s.time := rfl
@[simp] theorem updWradio_boot : (updWradio r f s).boot = s.boot := rfl
@[simp] theorem updWradio_fw : (updWradio r f s).fw = s.fw := rfl
@[simp] theorem updWradio_recast : (updWradio r f s).recast = s.recast := rfl
@[simp] theorem updWradio_power : (updWradio r f s).power = s.power := rfl
@[simp] theorem updWradio_mgmt : (updWradio r f s).mgmt = s.mgmt := rfl
@[simp] theorem updWradio_jtag : (updWradio r f s).jtag = s.jtag := rfl
@[simp] theorem updWradio_gpio : (updWradio r f s).gpio = s.gpio := rfl
@[simp] theorem updWradio_radio : (updWradio r f s).radio = s.radio := rfl
@[simp] theorem updWradio_beam : (updWradio r f s).beam = s.beam := rfl
@[simp] theorem updWradio_pkt : (updWradio r f s).pkt = s.pkt := rfl
@[simp] theorem updWradio_toll : (updWradio r f s).toll = s.toll := rfl
@[simp] theorem updWradio_task : (updWradio r f s).task = s.task := rfl
@[simp] theorem updWradio_dma : (updWradio r f s).dma = s.dma := rfl
@[simp] theorem updWradio_eth : (updWradio r f s).eth = s.eth := rfl
@[simp] theorem updWradio_pon : (updWradio r f s).pon = s.pon := rfl
@[simp] theorem updWradio_cvn : (updWradio r f s).cvn = s.cvn := rfl
@[simp] theorem updWradio_free : (updWradio r f s).free = s.free := rfl
@[simp] theorem updWradio_pending : (updWradio r f s).pending = s.pending := rfl
end

section
variable (k : Nat) (f : WSector → WSector) (s : State)
@[simp] theorem updWsector_host : (updWsector k f s).host = s.host := rfl
@[simp] theorem updWsector_mbx : (updWsector k f s).mbx = s.mbx := rfl
@[simp] theorem updWsector_evt : (updWsector k f s).evt = s.evt := rfl
@[simp] theorem updWsector_cfg : (updWsector k f s).cfg = s.cfg := rfl
@[simp] theorem updWsector_flash : (updWsector k f s).flash = s.flash := rfl
@[simp] theorem updWsector_sec : (updWsector k f s).sec = s.sec := rfl
@[simp] theorem updWsector_time : (updWsector k f s).time = s.time := rfl
@[simp] theorem updWsector_boot : (updWsector k f s).boot = s.boot := rfl
@[simp] theorem updWsector_fw : (updWsector k f s).fw = s.fw := rfl
@[simp] theorem updWsector_recast : (updWsector k f s).recast = s.recast := rfl
@[simp] theorem updWsector_power : (updWsector k f s).power = s.power := rfl
@[simp] theorem updWsector_mgmt : (updWsector k f s).mgmt = s.mgmt := rfl
@[simp] theorem updWsector_jtag : (updWsector k f s).jtag = s.jtag := rfl
@[simp] theorem updWsector_gpio : (updWsector k f s).gpio = s.gpio := rfl
@[simp] theorem updWsector_radio : (updWsector k f s).radio = s.radio := rfl
@[simp] theorem updWsector_beam : (updWsector k f s).beam = s.beam := rfl
@[simp] theorem updWsector_pkt : (updWsector k f s).pkt = s.pkt := rfl
@[simp] theorem updWsector_toll : (updWsector k f s).toll = s.toll := rfl
@[simp] theorem updWsector_task : (updWsector k f s).task = s.task := rfl
@[simp] theorem updWsector_dma : (updWsector k f s).dma = s.dma := rfl
@[simp] theorem updWsector_eth : (updWsector k f s).eth = s.eth := rfl
@[simp] theorem updWsector_pon : (updWsector k f s).pon = s.pon := rfl
@[simp] theorem updWsector_cvn : (updWsector k f s).cvn = s.cvn := rfl
@[simp] theorem updWsector_free : (updWsector k f s).free = s.free := rfl
@[simp] theorem updWsector_pending : (updWsector k f s).pending = s.pending := rfl
end

section
variable (k : Nat) (f : StaSt → StaSt) (s : State)
@[simp] theorem updSta_host : (updSta k f s).host = s.host := rfl
@[simp] theorem updSta_mbx : (updSta k f s).mbx = s.mbx := rfl
@[simp] theorem updSta_evt : (updSta k f s).evt = s.evt := rfl
@[simp] theorem updSta_cfg : (updSta k f s).cfg = s.cfg := rfl
@[simp] theorem updSta_flash : (updSta k f s).flash = s.flash := rfl
@[simp] theorem updSta_sec : (updSta k f s).sec = s.sec := rfl
@[simp] theorem updSta_time : (updSta k f s).time = s.time := rfl
@[simp] theorem updSta_boot : (updSta k f s).boot = s.boot := rfl
@[simp] theorem updSta_fw : (updSta k f s).fw = s.fw := rfl
@[simp] theorem updSta_recast : (updSta k f s).recast = s.recast := rfl
@[simp] theorem updSta_power : (updSta k f s).power = s.power := rfl
@[simp] theorem updSta_mgmt : (updSta k f s).mgmt = s.mgmt := rfl
@[simp] theorem updSta_jtag : (updSta k f s).jtag = s.jtag := rfl
@[simp] theorem updSta_gpio : (updSta k f s).gpio = s.gpio := rfl
@[simp] theorem updSta_radio : (updSta k f s).radio = s.radio := rfl
@[simp] theorem updSta_beam : (updSta k f s).beam = s.beam := rfl
@[simp] theorem updSta_pkt : (updSta k f s).pkt = s.pkt := rfl
@[simp] theorem updSta_toll : (updSta k f s).toll = s.toll := rfl
@[simp] theorem updSta_task : (updSta k f s).task = s.task := rfl
@[simp] theorem updSta_dma : (updSta k f s).dma = s.dma := rfl
@[simp] theorem updSta_eth : (updSta k f s).eth = s.eth := rfl
@[simp] theorem updSta_pon : (updSta k f s).pon = s.pon := rfl
@[simp] theorem updSta_cvn : (updSta k f s).cvn = s.cvn := rfl
@[simp] theorem updSta_free : (updSta k f s).free = s.free := rfl
@[simp] theorem updSta_pending : (updSta k f s).pending = s.pending := rfl
end

section
variable (r : Nat) (f : Beam → Beam) (s : State)
@[simp] theorem updBeam_host : (updBeam r f s).host = s.host := rfl
@[simp] theorem updBeam_mbx : (updBeam r f s).mbx = s.mbx := rfl
@[simp] theorem updBeam_evt : (updBeam r f s).evt = s.evt := rfl
@[simp] theorem updBeam_cfg : (updBeam r f s).cfg = s.cfg := rfl
@[simp] theorem updBeam_flash : (updBeam r f s).flash = s.flash := rfl
@[simp] theorem updBeam_sec : (updBeam r f s).sec = s.sec := rfl
@[simp] theorem updBeam_time : (updBeam r f s).time = s.time := rfl
@[simp] theorem updBeam_boot : (updBeam r f s).boot = s.boot := rfl
@[simp] theorem updBeam_fw : (updBeam r f s).fw = s.fw := rfl
@[simp] theorem updBeam_recast : (updBeam r f s).recast = s.recast := rfl
@[simp] theorem updBeam_power : (updBeam r f s).power = s.power := rfl
@[simp] theorem updBeam_mgmt : (updBeam r f s).mgmt = s.mgmt := rfl
@[simp] theorem updBeam_jtag : (updBeam r f s).jtag = s.jtag := rfl
@[simp] theorem updBeam_gpio : (updBeam r f s).gpio = s.gpio := rfl
@[simp] theorem updBeam_radio : (updBeam r f s).radio = s.radio := rfl
@[simp] theorem updBeam_pkt : (updBeam r f s).pkt = s.pkt := rfl
@[simp] theorem updBeam_toll : (updBeam r f s).toll = s.toll := rfl
@[simp] theorem updBeam_task : (updBeam r f s).task = s.task := rfl
@[simp] theorem updBeam_dma : (updBeam r f s).dma = s.dma := rfl
@[simp] theorem updBeam_eth : (updBeam r f s).eth = s.eth := rfl
@[simp] theorem updBeam_wlan : (updBeam r f s).wlan = s.wlan := rfl
@[simp] theorem updBeam_pon : (updBeam r f s).pon = s.pon := rfl
@[simp] theorem updBeam_cvn : (updBeam r f s).cvn = s.cvn := rfl
@[simp] theorem updBeam_free : (updBeam r f s).free = s.free := rfl
@[simp] theorem updBeam_pending : (updBeam r f s).pending = s.pending := rfl
end

section
variable (k : Nat) (f : Mould → Mould) (s : State)
@[simp] theorem updMould_host : (updMould k f s).host = s.host := rfl
@[simp] theorem updMould_mbx : (updMould k f s).mbx = s.mbx := rfl
@[simp] theorem updMould_evt : (updMould k f s).evt = s.evt := rfl
@[simp] theorem updMould_cfg : (updMould k f s).cfg = s.cfg := rfl
@[simp] theorem updMould_flash : (updMould k f s).flash = s.flash := rfl
@[simp] theorem updMould_sec : (updMould k f s).sec = s.sec := rfl
@[simp] theorem updMould_time : (updMould k f s).time = s.time := rfl
@[simp] theorem updMould_boot : (updMould k f s).boot = s.boot := rfl
@[simp] theorem updMould_fw : (updMould k f s).fw = s.fw := rfl
@[simp] theorem updMould_recast : (updMould k f s).recast = s.recast := rfl
@[simp] theorem updMould_power : (updMould k f s).power = s.power := rfl
@[simp] theorem updMould_mgmt : (updMould k f s).mgmt = s.mgmt := rfl
@[simp] theorem updMould_jtag : (updMould k f s).jtag = s.jtag := rfl
@[simp] theorem updMould_gpio : (updMould k f s).gpio = s.gpio := rfl
@[simp] theorem updMould_radio : (updMould k f s).radio = s.radio := rfl
@[simp] theorem updMould_pkt : (updMould k f s).pkt = s.pkt := rfl
@[simp] theorem updMould_toll : (updMould k f s).toll = s.toll := rfl
@[simp] theorem updMould_task : (updMould k f s).task = s.task := rfl
@[simp] theorem updMould_dma : (updMould k f s).dma = s.dma := rfl
@[simp] theorem updMould_eth : (updMould k f s).eth = s.eth := rfl
@[simp] theorem updMould_wlan : (updMould k f s).wlan = s.wlan := rfl
@[simp] theorem updMould_pon : (updMould k f s).pon = s.pon := rfl
@[simp] theorem updMould_cvn : (updMould k f s).cvn = s.cvn := rfl
@[simp] theorem updMould_free : (updMould k f s).free = s.free := rfl
@[simp] theorem updMould_pending : (updMould k f s).pending = s.pending := rfl
end

section
variable (f : Boot → Boot) (s : State)
@[simp] theorem updBoot_host : (updBoot f s).host = s.host := rfl
@[simp] theorem updBoot_mbx : (updBoot f s).mbx = s.mbx := rfl
@[simp] theorem updBoot_evt : (updBoot f s).evt = s.evt := rfl
@[simp] theorem updBoot_cfg : (updBoot f s).cfg = s.cfg := rfl
@[simp] theorem updBoot_flash : (updBoot f s).flash = s.flash := rfl
@[simp] theorem updBoot_sec : (updBoot f s).sec = s.sec := rfl
@[simp] theorem updBoot_time : (updBoot f s).time = s.time := rfl
@[simp] theorem updBoot_fw : (updBoot f s).fw = s.fw := rfl
@[simp] theorem updBoot_recast : (updBoot f s).recast = s.recast := rfl
@[simp] theorem updBoot_power : (updBoot f s).power = s.power := rfl
@[simp] theorem updBoot_mgmt : (updBoot f s).mgmt = s.mgmt := rfl
@[simp] theorem updBoot_jtag : (updBoot f s).jtag = s.jtag := rfl
@[simp] theorem updBoot_gpio : (updBoot f s).gpio = s.gpio := rfl
@[simp] theorem updBoot_radio : (updBoot f s).radio = s.radio := rfl
@[simp] theorem updBoot_beam : (updBoot f s).beam = s.beam := rfl
@[simp] theorem updBoot_pkt : (updBoot f s).pkt = s.pkt := rfl
@[simp] theorem updBoot_toll : (updBoot f s).toll = s.toll := rfl
@[simp] theorem updBoot_task : (updBoot f s).task = s.task := rfl
@[simp] theorem updBoot_dma : (updBoot f s).dma = s.dma := rfl
@[simp] theorem updBoot_eth : (updBoot f s).eth = s.eth := rfl
@[simp] theorem updBoot_wlan : (updBoot f s).wlan = s.wlan := rfl
@[simp] theorem updBoot_pon : (updBoot f s).pon = s.pon := rfl
@[simp] theorem updBoot_cvn : (updBoot f s).cvn = s.cvn := rfl
@[simp] theorem updBoot_free : (updBoot f s).free = s.free := rfl
@[simp] theorem updBoot_pending : (updBoot f s).pending = s.pending := rfl
end

section
variable (f : Caravan → Caravan) (s : State)
@[simp] theorem updCvn_host : (updCvn f s).host = s.host := rfl
@[simp] theorem updCvn_mbx : (updCvn f s).mbx = s.mbx := rfl
@[simp] theorem updCvn_evt : (updCvn f s).evt = s.evt := rfl
@[simp] theorem updCvn_cfg : (updCvn f s).cfg = s.cfg := rfl
@[simp] theorem updCvn_flash : (updCvn f s).flash = s.flash := rfl
@[simp] theorem updCvn_sec : (updCvn f s).sec = s.sec := rfl
@[simp] theorem updCvn_time : (updCvn f s).time = s.time := rfl
@[simp] theorem updCvn_boot : (updCvn f s).boot = s.boot := rfl
@[simp] theorem updCvn_fw : (updCvn f s).fw = s.fw := rfl
@[simp] theorem updCvn_recast : (updCvn f s).recast = s.recast := rfl
@[simp] theorem updCvn_power : (updCvn f s).power = s.power := rfl
@[simp] theorem updCvn_mgmt : (updCvn f s).mgmt = s.mgmt := rfl
@[simp] theorem updCvn_jtag : (updCvn f s).jtag = s.jtag := rfl
@[simp] theorem updCvn_gpio : (updCvn f s).gpio = s.gpio := rfl
@[simp] theorem updCvn_radio : (updCvn f s).radio = s.radio := rfl
@[simp] theorem updCvn_beam : (updCvn f s).beam = s.beam := rfl
@[simp] theorem updCvn_pkt : (updCvn f s).pkt = s.pkt := rfl
@[simp] theorem updCvn_toll : (updCvn f s).toll = s.toll := rfl
@[simp] theorem updCvn_task : (updCvn f s).task = s.task := rfl
@[simp] theorem updCvn_dma : (updCvn f s).dma = s.dma := rfl
@[simp] theorem updCvn_eth : (updCvn f s).eth = s.eth := rfl
@[simp] theorem updCvn_wlan : (updCvn f s).wlan = s.wlan := rfl
@[simp] theorem updCvn_pon : (updCvn f s).pon = s.pon := rfl
@[simp] theorem updCvn_free : (updCvn f s).free = s.free := rfl
@[simp] theorem updCvn_pending : (updCvn f s).pending = s.pending := rfl
end

section
variable (n : Nat) (f : EthPort → EthPort) (s : State)
@[simp] theorem updPort_host : (updPort n f s).host = s.host := rfl
@[simp] theorem updPort_mbx : (updPort n f s).mbx = s.mbx := rfl
@[simp] theorem updPort_evt : (updPort n f s).evt = s.evt := rfl
@[simp] theorem updPort_cfg : (updPort n f s).cfg = s.cfg := rfl
@[simp] theorem updPort_flash : (updPort n f s).flash = s.flash := rfl
@[simp] theorem updPort_sec : (updPort n f s).sec = s.sec := rfl
@[simp] theorem updPort_time : (updPort n f s).time = s.time := rfl
@[simp] theorem updPort_boot : (updPort n f s).boot = s.boot := rfl
@[simp] theorem updPort_fw : (updPort n f s).fw = s.fw := rfl
@[simp] theorem updPort_recast : (updPort n f s).recast = s.recast := rfl
@[simp] theorem updPort_power : (updPort n f s).power = s.power := rfl
@[simp] theorem updPort_mgmt : (updPort n f s).mgmt = s.mgmt := rfl
@[simp] theorem updPort_jtag : (updPort n f s).jtag = s.jtag := rfl
@[simp] theorem updPort_gpio : (updPort n f s).gpio = s.gpio := rfl
@[simp] theorem updPort_radio : (updPort n f s).radio = s.radio := rfl
@[simp] theorem updPort_beam : (updPort n f s).beam = s.beam := rfl
@[simp] theorem updPort_pkt : (updPort n f s).pkt = s.pkt := rfl
@[simp] theorem updPort_toll : (updPort n f s).toll = s.toll := rfl
@[simp] theorem updPort_task : (updPort n f s).task = s.task := rfl
@[simp] theorem updPort_dma : (updPort n f s).dma = s.dma := rfl
@[simp] theorem updPort_wlan : (updPort n f s).wlan = s.wlan := rfl
@[simp] theorem updPort_pon : (updPort n f s).pon = s.pon := rfl
@[simp] theorem updPort_cvn : (updPort n f s).cvn = s.cvn := rfl
@[simp] theorem updPort_free : (updPort n f s).free = s.free := rfl
@[simp] theorem updPort_pending : (updPort n f s).pending = s.pending := rfl
end

section
variable (id inst : Nat) (f : TabState → TabState) (s : State)
@[simp] theorem updTabState_host : (updTabState id inst f s).host = s.host := rfl
@[simp] theorem updTabState_mbx : (updTabState id inst f s).mbx = s.mbx := rfl
@[simp] theorem updTabState_evt : (updTabState id inst f s).evt = s.evt := rfl
@[simp] theorem updTabState_flash : (updTabState id inst f s).flash = s.flash := rfl
@[simp] theorem updTabState_sec : (updTabState id inst f s).sec = s.sec := rfl
@[simp] theorem updTabState_time : (updTabState id inst f s).time = s.time := rfl
@[simp] theorem updTabState_boot : (updTabState id inst f s).boot = s.boot := rfl
@[simp] theorem updTabState_fw : (updTabState id inst f s).fw = s.fw := rfl
@[simp] theorem updTabState_recast : (updTabState id inst f s).recast = s.recast := rfl
@[simp] theorem updTabState_power : (updTabState id inst f s).power = s.power := rfl
@[simp] theorem updTabState_mgmt : (updTabState id inst f s).mgmt = s.mgmt := rfl
@[simp] theorem updTabState_jtag : (updTabState id inst f s).jtag = s.jtag := rfl
@[simp] theorem updTabState_gpio : (updTabState id inst f s).gpio = s.gpio := rfl
@[simp] theorem updTabState_radio : (updTabState id inst f s).radio = s.radio := rfl
@[simp] theorem updTabState_beam : (updTabState id inst f s).beam = s.beam := rfl
@[simp] theorem updTabState_pkt : (updTabState id inst f s).pkt = s.pkt := rfl
@[simp] theorem updTabState_toll : (updTabState id inst f s).toll = s.toll := rfl
@[simp] theorem updTabState_task : (updTabState id inst f s).task = s.task := rfl
@[simp] theorem updTabState_dma : (updTabState id inst f s).dma = s.dma := rfl
@[simp] theorem updTabState_eth : (updTabState id inst f s).eth = s.eth := rfl
@[simp] theorem updTabState_wlan : (updTabState id inst f s).wlan = s.wlan := rfl
@[simp] theorem updTabState_pon : (updTabState id inst f s).pon = s.pon := rfl
@[simp] theorem updTabState_cvn : (updTabState id inst f s).cvn = s.cvn := rfl
@[simp] theorem updTabState_free : (updTabState id inst f s).free = s.free := rfl
@[simp] theorem updTabState_pending : (updTabState id inst f s).pending = s.pending := rfl
end

section
variable (q : Nat) (f : JobQ → JobQ) (s : State)
@[simp] theorem updJobq_host : (updJobq q f s).host = s.host := rfl
@[simp] theorem updJobq_mbx : (updJobq q f s).mbx = s.mbx := rfl
@[simp] theorem updJobq_evt : (updJobq q f s).evt = s.evt := rfl
@[simp] theorem updJobq_cfg : (updJobq q f s).cfg = s.cfg := rfl
@[simp] theorem updJobq_flash : (updJobq q f s).flash = s.flash := rfl
@[simp] theorem updJobq_sec : (updJobq q f s).sec = s.sec := rfl
@[simp] theorem updJobq_time : (updJobq q f s).time = s.time := rfl
@[simp] theorem updJobq_boot : (updJobq q f s).boot = s.boot := rfl
@[simp] theorem updJobq_fw : (updJobq q f s).fw = s.fw := rfl
@[simp] theorem updJobq_recast : (updJobq q f s).recast = s.recast := rfl
@[simp] theorem updJobq_power : (updJobq q f s).power = s.power := rfl
@[simp] theorem updJobq_mgmt : (updJobq q f s).mgmt = s.mgmt := rfl
@[simp] theorem updJobq_jtag : (updJobq q f s).jtag = s.jtag := rfl
@[simp] theorem updJobq_gpio : (updJobq q f s).gpio = s.gpio := rfl
@[simp] theorem updJobq_radio : (updJobq q f s).radio = s.radio := rfl
@[simp] theorem updJobq_beam : (updJobq q f s).beam = s.beam := rfl
@[simp] theorem updJobq_pkt : (updJobq q f s).pkt = s.pkt := rfl
@[simp] theorem updJobq_toll : (updJobq q f s).toll = s.toll := rfl
@[simp] theorem updJobq_dma : (updJobq q f s).dma = s.dma := rfl
@[simp] theorem updJobq_eth : (updJobq q f s).eth = s.eth := rfl
@[simp] theorem updJobq_wlan : (updJobq q f s).wlan = s.wlan := rfl
@[simp] theorem updJobq_pon : (updJobq q f s).pon = s.pon := rfl
@[simp] theorem updJobq_cvn : (updJobq q f s).cvn = s.cvn := rfl
@[simp] theorem updJobq_free : (updJobq q f s).free = s.free := rfl
@[simp] theorem updJobq_pending : (updJobq q f s).pending = s.pending := rfl
end

section
variable (e : Nat) (f : Runner → Runner) (s : State)
@[simp] theorem updRunner_host : (updRunner e f s).host = s.host := rfl
@[simp] theorem updRunner_mbx : (updRunner e f s).mbx = s.mbx := rfl
@[simp] theorem updRunner_evt : (updRunner e f s).evt = s.evt := rfl
@[simp] theorem updRunner_cfg : (updRunner e f s).cfg = s.cfg := rfl
@[simp] theorem updRunner_flash : (updRunner e f s).flash = s.flash := rfl
@[simp] theorem updRunner_sec : (updRunner e f s).sec = s.sec := rfl
@[simp] theorem updRunner_time : (updRunner e f s).time = s.time := rfl
@[simp] theorem updRunner_boot : (updRunner e f s).boot = s.boot := rfl
@[simp] theorem updRunner_fw : (updRunner e f s).fw = s.fw := rfl
@[simp] theorem updRunner_recast : (updRunner e f s).recast = s.recast := rfl
@[simp] theorem updRunner_power : (updRunner e f s).power = s.power := rfl
@[simp] theorem updRunner_mgmt : (updRunner e f s).mgmt = s.mgmt := rfl
@[simp] theorem updRunner_jtag : (updRunner e f s).jtag = s.jtag := rfl
@[simp] theorem updRunner_gpio : (updRunner e f s).gpio = s.gpio := rfl
@[simp] theorem updRunner_radio : (updRunner e f s).radio = s.radio := rfl
@[simp] theorem updRunner_beam : (updRunner e f s).beam = s.beam := rfl
@[simp] theorem updRunner_pkt : (updRunner e f s).pkt = s.pkt := rfl
@[simp] theorem updRunner_toll : (updRunner e f s).toll = s.toll := rfl
@[simp] theorem updRunner_dma : (updRunner e f s).dma = s.dma := rfl
@[simp] theorem updRunner_eth : (updRunner e f s).eth = s.eth := rfl
@[simp] theorem updRunner_wlan : (updRunner e f s).wlan = s.wlan := rfl
@[simp] theorem updRunner_pon : (updRunner e f s).pon = s.pon := rfl
@[simp] theorem updRunner_cvn : (updRunner e f s).cvn = s.cvn := rfl
@[simp] theorem updRunner_free : (updRunner e f s).free = s.free := rfl
@[simp] theorem updRunner_pending : (updRunner e f s).pending = s.pending := rfl
end

section
variable (e : Nat) (f : Ladle → Ladle) (s : State)
@[simp] theorem updEng_host : (updEng e f s).host = s.host := rfl
@[simp] theorem updEng_mbx : (updEng e f s).mbx = s.mbx := rfl
@[simp] theorem updEng_evt : (updEng e f s).evt = s.evt := rfl
@[simp] theorem updEng_cfg : (updEng e f s).cfg = s.cfg := rfl
@[simp] theorem updEng_flash : (updEng e f s).flash = s.flash := rfl
@[simp] theorem updEng_sec : (updEng e f s).sec = s.sec := rfl
@[simp] theorem updEng_time : (updEng e f s).time = s.time := rfl
@[simp] theorem updEng_boot : (updEng e f s).boot = s.boot := rfl
@[simp] theorem updEng_fw : (updEng e f s).fw = s.fw := rfl
@[simp] theorem updEng_recast : (updEng e f s).recast = s.recast := rfl
@[simp] theorem updEng_power : (updEng e f s).power = s.power := rfl
@[simp] theorem updEng_mgmt : (updEng e f s).mgmt = s.mgmt := rfl
@[simp] theorem updEng_jtag : (updEng e f s).jtag = s.jtag := rfl
@[simp] theorem updEng_gpio : (updEng e f s).gpio = s.gpio := rfl
@[simp] theorem updEng_radio : (updEng e f s).radio = s.radio := rfl
@[simp] theorem updEng_beam : (updEng e f s).beam = s.beam := rfl
@[simp] theorem updEng_pkt : (updEng e f s).pkt = s.pkt := rfl
@[simp] theorem updEng_toll : (updEng e f s).toll = s.toll := rfl
@[simp] theorem updEng_dma : (updEng e f s).dma = s.dma := rfl
@[simp] theorem updEng_eth : (updEng e f s).eth = s.eth := rfl
@[simp] theorem updEng_wlan : (updEng e f s).wlan = s.wlan := rfl
@[simp] theorem updEng_pon : (updEng e f s).pon = s.pon := rfl
@[simp] theorem updEng_cvn : (updEng e f s).cvn = s.cvn := rfl
@[simp] theorem updEng_free : (updEng e f s).free = s.free := rfl
@[simp] theorem updEng_pending : (updEng e f s).pending = s.pending := rfl
end

section
variable (k : Nat) (f : Kernel → Kernel) (s : State)
@[simp] theorem updKernel_host : (updKernel k f s).host = s.host := rfl
@[simp] theorem updKernel_mbx : (updKernel k f s).mbx = s.mbx := rfl
@[simp] theorem updKernel_evt : (updKernel k f s).evt = s.evt := rfl
@[simp] theorem updKernel_cfg : (updKernel k f s).cfg = s.cfg := rfl
@[simp] theorem updKernel_flash : (updKernel k f s).flash = s.flash := rfl
@[simp] theorem updKernel_sec : (updKernel k f s).sec = s.sec := rfl
@[simp] theorem updKernel_time : (updKernel k f s).time = s.time := rfl
@[simp] theorem updKernel_boot : (updKernel k f s).boot = s.boot := rfl
@[simp] theorem updKernel_fw : (updKernel k f s).fw = s.fw := rfl
@[simp] theorem updKernel_recast : (updKernel k f s).recast = s.recast := rfl
@[simp] theorem updKernel_power : (updKernel k f s).power = s.power := rfl
@[simp] theorem updKernel_mgmt : (updKernel k f s).mgmt = s.mgmt := rfl
@[simp] theorem updKernel_jtag : (updKernel k f s).jtag = s.jtag := rfl
@[simp] theorem updKernel_gpio : (updKernel k f s).gpio = s.gpio := rfl
@[simp] theorem updKernel_radio : (updKernel k f s).radio = s.radio := rfl
@[simp] theorem updKernel_beam : (updKernel k f s).beam = s.beam := rfl
@[simp] theorem updKernel_pkt : (updKernel k f s).pkt = s.pkt := rfl
@[simp] theorem updKernel_toll : (updKernel k f s).toll = s.toll := rfl
@[simp] theorem updKernel_dma : (updKernel k f s).dma = s.dma := rfl
@[simp] theorem updKernel_eth : (updKernel k f s).eth = s.eth := rfl
@[simp] theorem updKernel_wlan : (updKernel k f s).wlan = s.wlan := rfl
@[simp] theorem updKernel_pon : (updKernel k f s).pon = s.pon := rfl
@[simp] theorem updKernel_cvn : (updKernel k f s).cvn = s.cvn := rfl
@[simp] theorem updKernel_free : (updKernel k f s).free = s.free := rfl
@[simp] theorem updKernel_pending : (updKernel k f s).pending = s.pending := rfl
end

section
variable (s : State) (p : ParamDef) (i : Nat) (v : Int)
@[simp] theorem State.setPar_host : (s.setPar p i v).host = s.host := rfl
@[simp] theorem State.setPar_mbx : (s.setPar p i v).mbx = s.mbx := rfl
@[simp] theorem State.setPar_evt : (s.setPar p i v).evt = s.evt := rfl
@[simp] theorem State.setPar_flash : (s.setPar p i v).flash = s.flash := rfl
@[simp] theorem State.setPar_sec : (s.setPar p i v).sec = s.sec := rfl
@[simp] theorem State.setPar_time : (s.setPar p i v).time = s.time := rfl
@[simp] theorem State.setPar_boot : (s.setPar p i v).boot = s.boot := rfl
@[simp] theorem State.setPar_fw : (s.setPar p i v).fw = s.fw := rfl
@[simp] theorem State.setPar_recast : (s.setPar p i v).recast = s.recast := rfl
@[simp] theorem State.setPar_power : (s.setPar p i v).power = s.power := rfl
@[simp] theorem State.setPar_mgmt : (s.setPar p i v).mgmt = s.mgmt := rfl
@[simp] theorem State.setPar_jtag : (s.setPar p i v).jtag = s.jtag := rfl
@[simp] theorem State.setPar_gpio : (s.setPar p i v).gpio = s.gpio := rfl
@[simp] theorem State.setPar_radio : (s.setPar p i v).radio = s.radio := rfl
@[simp] theorem State.setPar_beam : (s.setPar p i v).beam = s.beam := rfl
@[simp] theorem State.setPar_pkt : (s.setPar p i v).pkt = s.pkt := rfl
@[simp] theorem State.setPar_toll : (s.setPar p i v).toll = s.toll := rfl
@[simp] theorem State.setPar_task : (s.setPar p i v).task = s.task := rfl
@[simp] theorem State.setPar_dma : (s.setPar p i v).dma = s.dma := rfl
@[simp] theorem State.setPar_eth : (s.setPar p i v).eth = s.eth := rfl
@[simp] theorem State.setPar_wlan : (s.setPar p i v).wlan = s.wlan := rfl
@[simp] theorem State.setPar_pon : (s.setPar p i v).pon = s.pon := rfl
@[simp] theorem State.setPar_cvn : (s.setPar p i v).cvn = s.cvn := rfl
@[simp] theorem State.setPar_free : (s.setPar p i v).free = s.free := rfl
@[simp] theorem State.setPar_pending : (s.setPar p i v).pending = s.pending := rfl
end

section
variable (s : State) (w : Nat) (x : Window)
@[simp] theorem State.setWin_host : (s.setWin w x).host = s.host := rfl
@[simp] theorem State.setWin_evt : (s.setWin w x).evt = s.evt := rfl
@[simp] theorem State.setWin_cfg : (s.setWin w x).cfg = s.cfg := rfl
@[simp] theorem State.setWin_flash : (s.setWin w x).flash = s.flash := rfl
@[simp] theorem State.setWin_sec : (s.setWin w x).sec = s.sec := rfl
@[simp] theorem State.setWin_time : (s.setWin w x).time = s.time := rfl
@[simp] theorem State.setWin_boot : (s.setWin w x).boot = s.boot := rfl
@[simp] theorem State.setWin_fw : (s.setWin w x).fw = s.fw := rfl
@[simp] theorem State.setWin_recast : (s.setWin w x).recast = s.recast := rfl
@[simp] theorem State.setWin_power : (s.setWin w x).power = s.power := rfl
@[simp] theorem State.setWin_mgmt : (s.setWin w x).mgmt = s.mgmt := rfl
@[simp] theorem State.setWin_jtag : (s.setWin w x).jtag = s.jtag := rfl
@[simp] theorem State.setWin_gpio : (s.setWin w x).gpio = s.gpio := rfl
@[simp] theorem State.setWin_radio : (s.setWin w x).radio = s.radio := rfl
@[simp] theorem State.setWin_beam : (s.setWin w x).beam = s.beam := rfl
@[simp] theorem State.setWin_pkt : (s.setWin w x).pkt = s.pkt := rfl
@[simp] theorem State.setWin_toll : (s.setWin w x).toll = s.toll := rfl
@[simp] theorem State.setWin_task : (s.setWin w x).task = s.task := rfl
@[simp] theorem State.setWin_dma : (s.setWin w x).dma = s.dma := rfl
@[simp] theorem State.setWin_eth : (s.setWin w x).eth = s.eth := rfl
@[simp] theorem State.setWin_wlan : (s.setWin w x).wlan = s.wlan := rfl
@[simp] theorem State.setWin_pon : (s.setWin w x).pon = s.pon := rfl
@[simp] theorem State.setWin_cvn : (s.setWin w x).cvn = s.cvn := rfl
@[simp] theorem State.setWin_free : (s.setWin w x).free = s.free := rfl
@[simp] theorem State.setWin_pending : (s.setWin w x).pending = s.pending := rfl
end

section
variable (f : Jtag → Jtag) (s : State)
@[simp] theorem updJtag_host : (updJtag f s).host = s.host := rfl
@[simp] theorem updJtag_mbx : (updJtag f s).mbx = s.mbx := rfl
@[simp] theorem updJtag_evt : (updJtag f s).evt = s.evt := rfl
@[simp] theorem updJtag_cfg : (updJtag f s).cfg = s.cfg := rfl
@[simp] theorem updJtag_flash : (updJtag f s).flash = s.flash := rfl
@[simp] theorem updJtag_sec : (updJtag f s).sec = s.sec := rfl
@[simp] theorem updJtag_time : (updJtag f s).time = s.time := rfl
@[simp] theorem updJtag_boot : (updJtag f s).boot = s.boot := rfl
@[simp] theorem updJtag_fw : (updJtag f s).fw = s.fw := rfl
@[simp] theorem updJtag_recast : (updJtag f s).recast = s.recast := rfl
@[simp] theorem updJtag_power : (updJtag f s).power = s.power := rfl
@[simp] theorem updJtag_mgmt : (updJtag f s).mgmt = s.mgmt := rfl
@[simp] theorem updJtag_gpio : (updJtag f s).gpio = s.gpio := rfl
@[simp] theorem updJtag_radio : (updJtag f s).radio = s.radio := rfl
@[simp] theorem updJtag_beam : (updJtag f s).beam = s.beam := rfl
@[simp] theorem updJtag_pkt : (updJtag f s).pkt = s.pkt := rfl
@[simp] theorem updJtag_toll : (updJtag f s).toll = s.toll := rfl
@[simp] theorem updJtag_task : (updJtag f s).task = s.task := rfl
@[simp] theorem updJtag_dma : (updJtag f s).dma = s.dma := rfl
@[simp] theorem updJtag_eth : (updJtag f s).eth = s.eth := rfl
@[simp] theorem updJtag_wlan : (updJtag f s).wlan = s.wlan := rfl
@[simp] theorem updJtag_pon : (updJtag f s).pon = s.pon := rfl
@[simp] theorem updJtag_cvn : (updJtag f s).cvn = s.cvn := rfl
@[simp] theorem updJtag_free : (updJtag f s).free = s.free := rfl
@[simp] theorem updJtag_pending : (updJtag f s).pending = s.pending := rfl
end

section
variable (f : Pon → Pon) (s : State)
@[simp] theorem updPon_host : (updPon f s).host = s.host := rfl
@[simp] theorem updPon_mbx : (updPon f s).mbx = s.mbx := rfl
@[simp] theorem updPon_evt : (updPon f s).evt = s.evt := rfl
@[simp] theorem updPon_cfg : (updPon f s).cfg = s.cfg := rfl
@[simp] theorem updPon_flash : (updPon f s).flash = s.flash := rfl
@[simp] theorem updPon_sec : (updPon f s).sec = s.sec := rfl
@[simp] theorem updPon_time : (updPon f s).time = s.time := rfl
@[simp] theorem updPon_boot : (updPon f s).boot = s.boot := rfl
@[simp] theorem updPon_fw : (updPon f s).fw = s.fw := rfl
@[simp] theorem updPon_recast : (updPon f s).recast = s.recast := rfl
@[simp] theorem updPon_power : (updPon f s).power = s.power := rfl
@[simp] theorem updPon_mgmt : (updPon f s).mgmt = s.mgmt := rfl
@[simp] theorem updPon_jtag : (updPon f s).jtag = s.jtag := rfl
@[simp] theorem updPon_gpio : (updPon f s).gpio = s.gpio := rfl
@[simp] theorem updPon_radio : (updPon f s).radio = s.radio := rfl
@[simp] theorem updPon_beam : (updPon f s).beam = s.beam := rfl
@[simp] theorem updPon_pkt : (updPon f s).pkt = s.pkt := rfl
@[simp] theorem updPon_toll : (updPon f s).toll = s.toll := rfl
@[simp] theorem updPon_task : (updPon f s).task = s.task := rfl
@[simp] theorem updPon_dma : (updPon f s).dma = s.dma := rfl
@[simp] theorem updPon_eth : (updPon f s).eth = s.eth := rfl
@[simp] theorem updPon_wlan : (updPon f s).wlan = s.wlan := rfl
@[simp] theorem updPon_cvn : (updPon f s).cvn = s.cvn := rfl
@[simp] theorem updPon_free : (updPon f s).free = s.free := rfl
@[simp] theorem updPon_pending : (updPon f s).pending = s.pending := rfl
end

section
variable (n : Nat) (k : KeySlot) (s : State)
@[simp] theorem setPonKey_host : (setPonKey n k s).host = s.host := rfl
@[simp] theorem setPonKey_mbx : (setPonKey n k s).mbx = s.mbx := rfl
@[simp] theorem setPonKey_evt : (setPonKey n k s).evt = s.evt := rfl
@[simp] theorem setPonKey_cfg : (setPonKey n k s).cfg = s.cfg := rfl
@[simp] theorem setPonKey_flash : (setPonKey n k s).flash = s.flash := rfl
@[simp] theorem setPonKey_time : (setPonKey n k s).time = s.time := rfl
@[simp] theorem setPonKey_boot : (setPonKey n k s).boot = s.boot := rfl
@[simp] theorem setPonKey_fw : (setPonKey n k s).fw = s.fw := rfl
@[simp] theorem setPonKey_recast : (setPonKey n k s).recast = s.recast := rfl
@[simp] theorem setPonKey_power : (setPonKey n k s).power = s.power := rfl
@[simp] theorem setPonKey_mgmt : (setPonKey n k s).mgmt = s.mgmt := rfl
@[simp] theorem setPonKey_jtag : (setPonKey n k s).jtag = s.jtag := rfl
@[simp] theorem setPonKey_gpio : (setPonKey n k s).gpio = s.gpio := rfl
@[simp] theorem setPonKey_radio : (setPonKey n k s).radio = s.radio := rfl
@[simp] theorem setPonKey_beam : (setPonKey n k s).beam = s.beam := rfl
@[simp] theorem setPonKey_pkt : (setPonKey n k s).pkt = s.pkt := rfl
@[simp] theorem setPonKey_toll : (setPonKey n k s).toll = s.toll := rfl
@[simp] theorem setPonKey_task : (setPonKey n k s).task = s.task := rfl
@[simp] theorem setPonKey_dma : (setPonKey n k s).dma = s.dma := rfl
@[simp] theorem setPonKey_eth : (setPonKey n k s).eth = s.eth := rfl
@[simp] theorem setPonKey_wlan : (setPonKey n k s).wlan = s.wlan := rfl
@[simp] theorem setPonKey_pon : (setPonKey n k s).pon = s.pon := rfl
@[simp] theorem setPonKey_cvn : (setPonKey n k s).cvn = s.cvn := rfl
@[simp] theorem setPonKey_free : (setPonKey n k s).free = s.free := rfl
@[simp] theorem setPonKey_pending : (setPonKey n k s).pending = s.pending := rfl
end

section
variable (h : Nat) (f : Waybill → Waybill) (s : State)
@[simp] theorem updWb_host : (updWb h f s).host = s.host := rfl
@[simp] theorem updWb_mbx : (updWb h f s).mbx = s.mbx := rfl
@[simp] theorem updWb_evt : (updWb h f s).evt = s.evt := rfl
@[simp] theorem updWb_cfg : (updWb h f s).cfg = s.cfg := rfl
@[simp] theorem updWb_flash : (updWb h f s).flash = s.flash := rfl
@[simp] theorem updWb_sec : (updWb h f s).sec = s.sec := rfl
@[simp] theorem updWb_time : (updWb h f s).time = s.time := rfl
@[simp] theorem updWb_boot : (updWb h f s).boot = s.boot := rfl
@[simp] theorem updWb_fw : (updWb h f s).fw = s.fw := rfl
@[simp] theorem updWb_recast : (updWb h f s).recast = s.recast := rfl
@[simp] theorem updWb_power : (updWb h f s).power = s.power := rfl
@[simp] theorem updWb_mgmt : (updWb h f s).mgmt = s.mgmt := rfl
@[simp] theorem updWb_jtag : (updWb h f s).jtag = s.jtag := rfl
@[simp] theorem updWb_gpio : (updWb h f s).gpio = s.gpio := rfl
@[simp] theorem updWb_radio : (updWb h f s).radio = s.radio := rfl
@[simp] theorem updWb_beam : (updWb h f s).beam = s.beam := rfl
@[simp] theorem updWb_toll : (updWb h f s).toll = s.toll := rfl
@[simp] theorem updWb_task : (updWb h f s).task = s.task := rfl
@[simp] theorem updWb_dma : (updWb h f s).dma = s.dma := rfl
@[simp] theorem updWb_eth : (updWb h f s).eth = s.eth := rfl
@[simp] theorem updWb_wlan : (updWb h f s).wlan = s.wlan := rfl
@[simp] theorem updWb_pon : (updWb h f s).pon = s.pon := rfl
@[simp] theorem updWb_cvn : (updWb h f s).cvn = s.cvn := rfl
@[simp] theorem updWb_free : (updWb h f s).free = s.free := rfl
@[simp] theorem updWb_pending : (updWb h f s).pending = s.pending := rfl
end

section
variable (p : Nat) (f : Pool → Pool) (s : State)
@[simp] theorem updPool_host : (updPool p f s).host = s.host := rfl
@[simp] theorem updPool_mbx : (updPool p f s).mbx = s.mbx := rfl
@[simp] theorem updPool_evt : (updPool p f s).evt = s.evt := rfl
@[simp] theorem updPool_cfg : (updPool p f s).cfg = s.cfg := rfl
@[simp] theorem updPool_flash : (updPool p f s).flash = s.flash := rfl
@[simp] theorem updPool_sec : (updPool p f s).sec = s.sec := rfl
@[simp] theorem updPool_time : (updPool p f s).time = s.time := rfl
@[simp] theorem updPool_boot : (updPool p f s).boot = s.boot := rfl
@[simp] theorem updPool_fw : (updPool p f s).fw = s.fw := rfl
@[simp] theorem updPool_recast : (updPool p f s).recast = s.recast := rfl
@[simp] theorem updPool_power : (updPool p f s).power = s.power := rfl
@[simp] theorem updPool_mgmt : (updPool p f s).mgmt = s.mgmt := rfl
@[simp] theorem updPool_jtag : (updPool p f s).jtag = s.jtag := rfl
@[simp] theorem updPool_gpio : (updPool p f s).gpio = s.gpio := rfl
@[simp] theorem updPool_radio : (updPool p f s).radio = s.radio := rfl
@[simp] theorem updPool_beam : (updPool p f s).beam = s.beam := rfl
@[simp] theorem updPool_toll : (updPool p f s).toll = s.toll := rfl
@[simp] theorem updPool_task : (updPool p f s).task = s.task := rfl
@[simp] theorem updPool_dma : (updPool p f s).dma = s.dma := rfl
@[simp] theorem updPool_eth : (updPool p f s).eth = s.eth := rfl
@[simp] theorem updPool_wlan : (updPool p f s).wlan = s.wlan := rfl
@[simp] theorem updPool_pon : (updPool p f s).pon = s.pon := rfl
@[simp] theorem updPool_cvn : (updPool p f s).cvn = s.cvn := rfl
@[simp] theorem updPool_free : (updPool p f s).free = s.free := rfl
@[simp] theorem updPool_pending : (updPool p f s).pending = s.pending := rfl
end

section
variable (n : Nat) (f : Ring → Ring) (s : State)
@[simp] theorem updRing_host : (updRing n f s).host = s.host := rfl
@[simp] theorem updRing_mbx : (updRing n f s).mbx = s.mbx := rfl
@[simp] theorem updRing_evt : (updRing n f s).evt = s.evt := rfl
@[simp] theorem updRing_cfg : (updRing n f s).cfg = s.cfg := rfl
@[simp] theorem updRing_flash : (updRing n f s).flash = s.flash := rfl
@[simp] theorem updRing_sec : (updRing n f s).sec = s.sec := rfl
@[simp] theorem updRing_time : (updRing n f s).time = s.time := rfl
@[simp] theorem updRing_boot : (updRing n f s).boot = s.boot := rfl
@[simp] theorem updRing_fw : (updRing n f s).fw = s.fw := rfl
@[simp] theorem updRing_recast : (updRing n f s).recast = s.recast := rfl
@[simp] theorem updRing_power : (updRing n f s).power = s.power := rfl
@[simp] theorem updRing_mgmt : (updRing n f s).mgmt = s.mgmt := rfl
@[simp] theorem updRing_jtag : (updRing n f s).jtag = s.jtag := rfl
@[simp] theorem updRing_gpio : (updRing n f s).gpio = s.gpio := rfl
@[simp] theorem updRing_radio : (updRing n f s).radio = s.radio := rfl
@[simp] theorem updRing_beam : (updRing n f s).beam = s.beam := rfl
@[simp] theorem updRing_pkt : (updRing n f s).pkt = s.pkt := rfl
@[simp] theorem updRing_toll : (updRing n f s).toll = s.toll := rfl
@[simp] theorem updRing_task : (updRing n f s).task = s.task := rfl
@[simp] theorem updRing_eth : (updRing n f s).eth = s.eth := rfl
@[simp] theorem updRing_wlan : (updRing n f s).wlan = s.wlan := rfl
@[simp] theorem updRing_pon : (updRing n f s).pon = s.pon := rfl
@[simp] theorem updRing_cvn : (updRing n f s).cvn = s.cvn := rfl
@[simp] theorem updRing_free : (updRing n f s).free = s.free := rfl
@[simp] theorem updRing_pending : (updRing n f s).pending = s.pending := rfl
end

section
variable (k : Nat) (r : Option KeySlot) (s : State)
@[simp] theorem setRecord_host : (setRecord k r s).host = s.host := rfl
@[simp] theorem setRecord_mbx : (setRecord k r s).mbx = s.mbx := rfl
@[simp] theorem setRecord_evt : (setRecord k r s).evt = s.evt := rfl
@[simp] theorem setRecord_cfg : (setRecord k r s).cfg = s.cfg := rfl
@[simp] theorem setRecord_flash : (setRecord k r s).flash = s.flash := rfl
@[simp] theorem setRecord_time : (setRecord k r s).time = s.time := rfl
@[simp] theorem setRecord_boot : (setRecord k r s).boot = s.boot := rfl
@[simp] theorem setRecord_fw : (setRecord k r s).fw = s.fw := rfl
@[simp] theorem setRecord_recast : (setRecord k r s).recast = s.recast := rfl
@[simp] theorem setRecord_power : (setRecord k r s).power = s.power := rfl
@[simp] theorem setRecord_mgmt : (setRecord k r s).mgmt = s.mgmt := rfl
@[simp] theorem setRecord_jtag : (setRecord k r s).jtag = s.jtag := rfl
@[simp] theorem setRecord_gpio : (setRecord k r s).gpio = s.gpio := rfl
@[simp] theorem setRecord_radio : (setRecord k r s).radio = s.radio := rfl
@[simp] theorem setRecord_beam : (setRecord k r s).beam = s.beam := rfl
@[simp] theorem setRecord_pkt : (setRecord k r s).pkt = s.pkt := rfl
@[simp] theorem setRecord_toll : (setRecord k r s).toll = s.toll := rfl
@[simp] theorem setRecord_task : (setRecord k r s).task = s.task := rfl
@[simp] theorem setRecord_dma : (setRecord k r s).dma = s.dma := rfl
@[simp] theorem setRecord_eth : (setRecord k r s).eth = s.eth := rfl
@[simp] theorem setRecord_wlan : (setRecord k r s).wlan = s.wlan := rfl
@[simp] theorem setRecord_pon : (setRecord k r s).pon = s.pon := rfl
@[simp] theorem setRecord_cvn : (setRecord k r s).cvn = s.cvn := rfl
@[simp] theorem setRecord_free : (setRecord k r s).free = s.free := rfl
@[simp] theorem setRecord_pending : (setRecord k r s).pending = s.pending := rfl
end

section
variable (n : Nat) (f : Sprue → Sprue) (s : State)
@[simp] theorem updSprue_host : (updSprue n f s).host = s.host := rfl
@[simp] theorem updSprue_mbx : (updSprue n f s).mbx = s.mbx := rfl
@[simp] theorem updSprue_evt : (updSprue n f s).evt = s.evt := rfl
@[simp] theorem updSprue_cfg : (updSprue n f s).cfg = s.cfg := rfl
@[simp] theorem updSprue_flash : (updSprue n f s).flash = s.flash := rfl
@[simp] theorem updSprue_sec : (updSprue n f s).sec = s.sec := rfl
@[simp] theorem updSprue_time : (updSprue n f s).time = s.time := rfl
@[simp] theorem updSprue_boot : (updSprue n f s).boot = s.boot := rfl
@[simp] theorem updSprue_fw : (updSprue n f s).fw = s.fw := rfl
@[simp] theorem updSprue_recast : (updSprue n f s).recast = s.recast := rfl
@[simp] theorem updSprue_power : (updSprue n f s).power = s.power := rfl
@[simp] theorem updSprue_mgmt : (updSprue n f s).mgmt = s.mgmt := rfl
@[simp] theorem updSprue_jtag : (updSprue n f s).jtag = s.jtag := rfl
@[simp] theorem updSprue_gpio : (updSprue n f s).gpio = s.gpio := rfl
@[simp] theorem updSprue_radio : (updSprue n f s).radio = s.radio := rfl
@[simp] theorem updSprue_beam : (updSprue n f s).beam = s.beam := rfl
@[simp] theorem updSprue_pkt : (updSprue n f s).pkt = s.pkt := rfl
@[simp] theorem updSprue_toll : (updSprue n f s).toll = s.toll := rfl
@[simp] theorem updSprue_task : (updSprue n f s).task = s.task := rfl
@[simp] theorem updSprue_eth : (updSprue n f s).eth = s.eth := rfl
@[simp] theorem updSprue_wlan : (updSprue n f s).wlan = s.wlan := rfl
@[simp] theorem updSprue_pon : (updSprue n f s).pon = s.pon := rfl
@[simp] theorem updSprue_cvn : (updSprue n f s).cvn = s.cvn := rfl
@[simp] theorem updSprue_free : (updSprue n f s).free = s.free := rfl
@[simp] theorem updSprue_pending : (updSprue n f s).pending = s.pending := rfl
end

section
variable (c : Nat) (l : Option Nat) (s : State)
@[simp] theorem setChan_host : (setChan c l s).host = s.host := rfl
@[simp] theorem setChan_mbx : (setChan c l s).mbx = s.mbx := rfl
@[simp] theorem setChan_evt : (setChan c l s).evt = s.evt := rfl
@[simp] theorem setChan_cfg : (setChan c l s).cfg = s.cfg := rfl
@[simp] theorem setChan_flash : (setChan c l s).flash = s.flash := rfl
@[simp] theorem setChan_sec : (setChan c l s).sec = s.sec := rfl
@[simp] theorem setChan_time : (setChan c l s).time = s.time := rfl
@[simp] theorem setChan_boot : (setChan c l s).boot = s.boot := rfl
@[simp] theorem setChan_fw : (setChan c l s).fw = s.fw := rfl
@[simp] theorem setChan_recast : (setChan c l s).recast = s.recast := rfl
@[simp] theorem setChan_power : (setChan c l s).power = s.power := rfl
@[simp] theorem setChan_mgmt : (setChan c l s).mgmt = s.mgmt := rfl
@[simp] theorem setChan_jtag : (setChan c l s).jtag = s.jtag := rfl
@[simp] theorem setChan_gpio : (setChan c l s).gpio = s.gpio := rfl
@[simp] theorem setChan_radio : (setChan c l s).radio = s.radio := rfl
@[simp] theorem setChan_beam : (setChan c l s).beam = s.beam := rfl
@[simp] theorem setChan_pkt : (setChan c l s).pkt = s.pkt := rfl
@[simp] theorem setChan_toll : (setChan c l s).toll = s.toll := rfl
@[simp] theorem setChan_task : (setChan c l s).task = s.task := rfl
@[simp] theorem setChan_eth : (setChan c l s).eth = s.eth := rfl
@[simp] theorem setChan_wlan : (setChan c l s).wlan = s.wlan := rfl
@[simp] theorem setChan_pon : (setChan c l s).pon = s.pon := rfl
@[simp] theorem setChan_cvn : (setChan c l s).cvn = s.cvn := rfl
@[simp] theorem setChan_free : (setChan c l s).free = s.free := rfl
@[simp] theorem setChan_pending : (setChan c l s).pending = s.pending := rfl
end

section
variable (d : Nat) (f : Drive → Drive) (s : State)
@[simp] theorem updDrive_host : (updDrive d f s).host = s.host := rfl
@[simp] theorem updDrive_mbx : (updDrive d f s).mbx = s.mbx := rfl
@[simp] theorem updDrive_evt : (updDrive d f s).evt = s.evt := rfl
@[simp] theorem updDrive_cfg : (updDrive d f s).cfg = s.cfg := rfl
@[simp] theorem updDrive_flash : (updDrive d f s).flash = s.flash := rfl
@[simp] theorem updDrive_sec : (updDrive d f s).sec = s.sec := rfl
@[simp] theorem updDrive_time : (updDrive d f s).time = s.time := rfl
@[simp] theorem updDrive_boot : (updDrive d f s).boot = s.boot := rfl
@[simp] theorem updDrive_fw : (updDrive d f s).fw = s.fw := rfl
@[simp] theorem updDrive_recast : (updDrive d f s).recast = s.recast := rfl
@[simp] theorem updDrive_power : (updDrive d f s).power = s.power := rfl
@[simp] theorem updDrive_mgmt : (updDrive d f s).mgmt = s.mgmt := rfl
@[simp] theorem updDrive_jtag : (updDrive d f s).jtag = s.jtag := rfl
@[simp] theorem updDrive_gpio : (updDrive d f s).gpio = s.gpio := rfl
@[simp] theorem updDrive_radio : (updDrive d f s).radio = s.radio := rfl
@[simp] theorem updDrive_beam : (updDrive d f s).beam = s.beam := rfl
@[simp] theorem updDrive_pkt : (updDrive d f s).pkt = s.pkt := rfl
@[simp] theorem updDrive_toll : (updDrive d f s).toll = s.toll := rfl
@[simp] theorem updDrive_task : (updDrive d f s).task = s.task := rfl
@[simp] theorem updDrive_eth : (updDrive d f s).eth = s.eth := rfl
@[simp] theorem updDrive_wlan : (updDrive d f s).wlan = s.wlan := rfl
@[simp] theorem updDrive_pon : (updDrive d f s).pon = s.pon := rfl
@[simp] theorem updDrive_cvn : (updDrive d f s).cvn = s.cvn := rfl
@[simp] theorem updDrive_free : (updDrive d f s).free = s.free := rfl
@[simp] theorem updDrive_pending : (updDrive d f s).pending = s.pending := rfl
end

section
variable (k : Nat) (f : Obj → Obj) (s : State)
@[simp] theorem updObj_host : (updObj k f s).host = s.host := rfl
@[simp] theorem updObj_mbx : (updObj k f s).mbx = s.mbx := rfl
@[simp] theorem updObj_evt : (updObj k f s).evt = s.evt := rfl
@[simp] theorem updObj_cfg : (updObj k f s).cfg = s.cfg := rfl
@[simp] theorem updObj_flash : (updObj k f s).flash = s.flash := rfl
@[simp] theorem updObj_sec : (updObj k f s).sec = s.sec := rfl
@[simp] theorem updObj_time : (updObj k f s).time = s.time := rfl
@[simp] theorem updObj_boot : (updObj k f s).boot = s.boot := rfl
@[simp] theorem updObj_fw : (updObj k f s).fw = s.fw := rfl
@[simp] theorem updObj_recast : (updObj k f s).recast = s.recast := rfl
@[simp] theorem updObj_power : (updObj k f s).power = s.power := rfl
@[simp] theorem updObj_mgmt : (updObj k f s).mgmt = s.mgmt := rfl
@[simp] theorem updObj_jtag : (updObj k f s).jtag = s.jtag := rfl
@[simp] theorem updObj_gpio : (updObj k f s).gpio = s.gpio := rfl
@[simp] theorem updObj_radio : (updObj k f s).radio = s.radio := rfl
@[simp] theorem updObj_beam : (updObj k f s).beam = s.beam := rfl
@[simp] theorem updObj_pkt : (updObj k f s).pkt = s.pkt := rfl
@[simp] theorem updObj_toll : (updObj k f s).toll = s.toll := rfl
@[simp] theorem updObj_task : (updObj k f s).task = s.task := rfl
@[simp] theorem updObj_eth : (updObj k f s).eth = s.eth := rfl
@[simp] theorem updObj_wlan : (updObj k f s).wlan = s.wlan := rfl
@[simp] theorem updObj_pon : (updObj k f s).pon = s.pon := rfl
@[simp] theorem updObj_cvn : (updObj k f s).cvn = s.cvn := rfl
@[simp] theorem updObj_free : (updObj k f s).free = s.free := rfl
@[simp] theorem updObj_pending : (updObj k f s).pending = s.pending := rfl
end

section
variable (cid : Nat) (f : StoreJob → StoreJob) (s : State)
@[simp] theorem updStoreJob_host : (updStoreJob cid f s).host = s.host := rfl
@[simp] theorem updStoreJob_mbx : (updStoreJob cid f s).mbx = s.mbx := rfl
@[simp] theorem updStoreJob_evt : (updStoreJob cid f s).evt = s.evt := rfl
@[simp] theorem updStoreJob_cfg : (updStoreJob cid f s).cfg = s.cfg := rfl
@[simp] theorem updStoreJob_flash : (updStoreJob cid f s).flash = s.flash := rfl
@[simp] theorem updStoreJob_sec : (updStoreJob cid f s).sec = s.sec := rfl
@[simp] theorem updStoreJob_time : (updStoreJob cid f s).time = s.time := rfl
@[simp] theorem updStoreJob_boot : (updStoreJob cid f s).boot = s.boot := rfl
@[simp] theorem updStoreJob_fw : (updStoreJob cid f s).fw = s.fw := rfl
@[simp] theorem updStoreJob_recast : (updStoreJob cid f s).recast = s.recast := rfl
@[simp] theorem updStoreJob_power : (updStoreJob cid f s).power = s.power := rfl
@[simp] theorem updStoreJob_mgmt : (updStoreJob cid f s).mgmt = s.mgmt := rfl
@[simp] theorem updStoreJob_jtag : (updStoreJob cid f s).jtag = s.jtag := rfl
@[simp] theorem updStoreJob_gpio : (updStoreJob cid f s).gpio = s.gpio := rfl
@[simp] theorem updStoreJob_radio : (updStoreJob cid f s).radio = s.radio := rfl
@[simp] theorem updStoreJob_beam : (updStoreJob cid f s).beam = s.beam := rfl
@[simp] theorem updStoreJob_pkt : (updStoreJob cid f s).pkt = s.pkt := rfl
@[simp] theorem updStoreJob_toll : (updStoreJob cid f s).toll = s.toll := rfl
@[simp] theorem updStoreJob_task : (updStoreJob cid f s).task = s.task := rfl
@[simp] theorem updStoreJob_eth : (updStoreJob cid f s).eth = s.eth := rfl
@[simp] theorem updStoreJob_wlan : (updStoreJob cid f s).wlan = s.wlan := rfl
@[simp] theorem updStoreJob_pon : (updStoreJob cid f s).pon = s.pon := rfl
@[simp] theorem updStoreJob_cvn : (updStoreJob cid f s).cvn = s.cvn := rfl
@[simp] theorem updStoreJob_free : (updStoreJob cid f s).free = s.free := rfl
@[simp] theorem updStoreJob_pending : (updStoreJob cid f s).pending = s.pending := rfl
end

section
variable (t : TableDef) (i k : Nat) (b : List Byte) (s : State)
@[simp] theorem setActive_host : (setActive t i k b s).host = s.host := rfl
@[simp] theorem setActive_mbx : (setActive t i k b s).mbx = s.mbx := rfl
@[simp] theorem setActive_evt : (setActive t i k b s).evt = s.evt := rfl
@[simp] theorem setActive_flash : (setActive t i k b s).flash = s.flash := rfl
@[simp] theorem setActive_sec : (setActive t i k b s).sec = s.sec := rfl
@[simp] theorem setActive_time : (setActive t i k b s).time = s.time := rfl
@[simp] theorem setActive_boot : (setActive t i k b s).boot = s.boot := rfl
@[simp] theorem setActive_fw : (setActive t i k b s).fw = s.fw := rfl
@[simp] theorem setActive_recast : (setActive t i k b s).recast = s.recast := rfl
@[simp] theorem setActive_power : (setActive t i k b s).power = s.power := rfl
@[simp] theorem setActive_mgmt : (setActive t i k b s).mgmt = s.mgmt := rfl
@[simp] theorem setActive_jtag : (setActive t i k b s).jtag = s.jtag := rfl
@[simp] theorem setActive_gpio : (setActive t i k b s).gpio = s.gpio := rfl
@[simp] theorem setActive_radio : (setActive t i k b s).radio = s.radio := rfl
@[simp] theorem setActive_beam : (setActive t i k b s).beam = s.beam := rfl
@[simp] theorem setActive_pkt : (setActive t i k b s).pkt = s.pkt := rfl
@[simp] theorem setActive_toll : (setActive t i k b s).toll = s.toll := rfl
@[simp] theorem setActive_task : (setActive t i k b s).task = s.task := rfl
@[simp] theorem setActive_dma : (setActive t i k b s).dma = s.dma := rfl
@[simp] theorem setActive_eth : (setActive t i k b s).eth = s.eth := rfl
@[simp] theorem setActive_wlan : (setActive t i k b s).wlan = s.wlan := rfl
@[simp] theorem setActive_pon : (setActive t i k b s).pon = s.pon := rfl
@[simp] theorem setActive_cvn : (setActive t i k b s).cvn = s.cvn := rfl
@[simp] theorem setActive_free : (setActive t i k b s).free = s.free := rfl
@[simp] theorem setActive_pending : (setActive t i k b s).pending = s.pending := rfl
end

section
variable (t : TableDef) (i k : Nat) (b : List Byte) (s : State)
@[simp] theorem setStandby_host : (setStandby t i k b s).host = s.host := rfl
@[simp] theorem setStandby_mbx : (setStandby t i k b s).mbx = s.mbx := rfl
@[simp] theorem setStandby_evt : (setStandby t i k b s).evt = s.evt := rfl
@[simp] theorem setStandby_flash : (setStandby t i k b s).flash = s.flash := rfl
@[simp] theorem setStandby_sec : (setStandby t i k b s).sec = s.sec := rfl
@[simp] theorem setStandby_time : (setStandby t i k b s).time = s.time := rfl
@[simp] theorem setStandby_boot : (setStandby t i k b s).boot = s.boot := rfl
@[simp] theorem setStandby_fw : (setStandby t i k b s).fw = s.fw := rfl
@[simp] theorem setStandby_recast : (setStandby t i k b s).recast = s.recast := rfl
@[simp] theorem setStandby_power : (setStandby t i k b s).power = s.power := rfl
@[simp] theorem setStandby_mgmt : (setStandby t i k b s).mgmt = s.mgmt := rfl
@[simp] theorem setStandby_jtag : (setStandby t i k b s).jtag = s.jtag := rfl
@[simp] theorem setStandby_gpio : (setStandby t i k b s).gpio = s.gpio := rfl
@[simp] theorem setStandby_radio : (setStandby t i k b s).radio = s.radio := rfl
@[simp] theorem setStandby_beam : (setStandby t i k b s).beam = s.beam := rfl
@[simp] theorem setStandby_pkt : (setStandby t i k b s).pkt = s.pkt := rfl
@[simp] theorem setStandby_toll : (setStandby t i k b s).toll = s.toll := rfl
@[simp] theorem setStandby_task : (setStandby t i k b s).task = s.task := rfl
@[simp] theorem setStandby_dma : (setStandby t i k b s).dma = s.dma := rfl
@[simp] theorem setStandby_eth : (setStandby t i k b s).eth = s.eth := rfl
@[simp] theorem setStandby_wlan : (setStandby t i k b s).wlan = s.wlan := rfl
@[simp] theorem setStandby_pon : (setStandby t i k b s).pon = s.pon := rfl
@[simp] theorem setStandby_cvn : (setStandby t i k b s).cvn = s.cvn := rfl
@[simp] theorem setStandby_free : (setStandby t i k b s).free = s.free := rfl
@[simp] theorem setStandby_pending : (setStandby t i k b s).pending = s.pending := rfl
end

section
variable (t : Nat) (f : TimeBase → TimeBase) (s : State)
@[simp] theorem updTb_host : (updTb t f s).host = s.host := rfl
@[simp] theorem updTb_mbx : (updTb t f s).mbx = s.mbx := rfl
@[simp] theorem updTb_evt : (updTb t f s).evt = s.evt := rfl
@[simp] theorem updTb_cfg : (updTb t f s).cfg = s.cfg := rfl
@[simp] theorem updTb_flash : (updTb t f s).flash = s.flash := rfl
@[simp] theorem updTb_sec : (updTb t f s).sec = s.sec := rfl
@[simp] theorem updTb_boot : (updTb t f s).boot = s.boot := rfl
@[simp] theorem updTb_fw : (updTb t f s).fw = s.fw := rfl
@[simp] theorem updTb_recast : (updTb t f s).recast = s.recast := rfl
@[simp] theorem updTb_power : (updTb t f s).power = s.power := rfl
@[simp] theorem updTb_mgmt : (updTb t f s).mgmt = s.mgmt := rfl
@[simp] theorem updTb_jtag : (updTb t f s).jtag = s.jtag := rfl
@[simp] theorem updTb_gpio : (updTb t f s).gpio = s.gpio := rfl
@[simp] theorem updTb_radio : (updTb t f s).radio = s.radio := rfl
@[simp] theorem updTb_beam : (updTb t f s).beam = s.beam := rfl
@[simp] theorem updTb_pkt : (updTb t f s).pkt = s.pkt := rfl
@[simp] theorem updTb_toll : (updTb t f s).toll = s.toll := rfl
@[simp] theorem updTb_task : (updTb t f s).task = s.task := rfl
@[simp] theorem updTb_dma : (updTb t f s).dma = s.dma := rfl
@[simp] theorem updTb_eth : (updTb t f s).eth = s.eth := rfl
@[simp] theorem updTb_wlan : (updTb t f s).wlan = s.wlan := rfl
@[simp] theorem updTb_pon : (updTb t f s).pon = s.pon := rfl
@[simp] theorem updTb_cvn : (updTb t f s).cvn = s.cvn := rfl
@[simp] theorem updTb_free : (updTb t f s).free = s.free := rfl
@[simp] theorem updTb_pending : (updTb t f s).pending = s.pending := rfl
end

section
variable (q : Nat) (f : TollQ → TollQ) (s : State)
@[simp] theorem updTq_host : (updTq q f s).host = s.host := rfl
@[simp] theorem updTq_mbx : (updTq q f s).mbx = s.mbx := rfl
@[simp] theorem updTq_evt : (updTq q f s).evt = s.evt := rfl
@[simp] theorem updTq_cfg : (updTq q f s).cfg = s.cfg := rfl
@[simp] theorem updTq_flash : (updTq q f s).flash = s.flash := rfl
@[simp] theorem updTq_sec : (updTq q f s).sec = s.sec := rfl
@[simp] theorem updTq_time : (updTq q f s).time = s.time := rfl
@[simp] theorem updTq_boot : (updTq q f s).boot = s.boot := rfl
@[simp] theorem updTq_fw : (updTq q f s).fw = s.fw := rfl
@[simp] theorem updTq_recast : (updTq q f s).recast = s.recast := rfl
@[simp] theorem updTq_power : (updTq q f s).power = s.power := rfl
@[simp] theorem updTq_mgmt : (updTq q f s).mgmt = s.mgmt := rfl
@[simp] theorem updTq_jtag : (updTq q f s).jtag = s.jtag := rfl
@[simp] theorem updTq_gpio : (updTq q f s).gpio = s.gpio := rfl
@[simp] theorem updTq_radio : (updTq q f s).radio = s.radio := rfl
@[simp] theorem updTq_beam : (updTq q f s).beam = s.beam := rfl
@[simp] theorem updTq_pkt : (updTq q f s).pkt = s.pkt := rfl
@[simp] theorem updTq_task : (updTq q f s).task = s.task := rfl
@[simp] theorem updTq_dma : (updTq q f s).dma = s.dma := rfl
@[simp] theorem updTq_eth : (updTq q f s).eth = s.eth := rfl
@[simp] theorem updTq_wlan : (updTq q f s).wlan = s.wlan := rfl
@[simp] theorem updTq_pon : (updTq q f s).pon = s.pon := rfl
@[simp] theorem updTq_cvn : (updTq q f s).cvn = s.cvn := rfl
@[simp] theorem updTq_free : (updTq q f s).free = s.free := rfl
@[simp] theorem updTq_pending : (updTq q f s).pending = s.pending := rfl
end

section
variable (e : Nat) (f : Sched → Sched) (s : State)
@[simp] theorem updSched_host : (updSched e f s).host = s.host := rfl
@[simp] theorem updSched_mbx : (updSched e f s).mbx = s.mbx := rfl
@[simp] theorem updSched_evt : (updSched e f s).evt = s.evt := rfl
@[simp] theorem updSched_cfg : (updSched e f s).cfg = s.cfg := rfl
@[simp] theorem updSched_flash : (updSched e f s).flash = s.flash := rfl
@[simp] theorem updSched_sec : (updSched e f s).sec = s.sec := rfl
@[simp] theorem updSched_time : (updSched e f s).time = s.time := rfl
@[simp] theorem updSched_boot : (updSched e f s).boot = s.boot := rfl
@[simp] theorem updSched_fw : (updSched e f s).fw = s.fw := rfl
@[simp] theorem updSched_recast : (updSched e f s).recast = s.recast := rfl
@[simp] theorem updSched_power : (updSched e f s).power = s.power := rfl
@[simp] theorem updSched_mgmt : (updSched e f s).mgmt = s.mgmt := rfl
@[simp] theorem updSched_jtag : (updSched e f s).jtag = s.jtag := rfl
@[simp] theorem updSched_gpio : (updSched e f s).gpio = s.gpio := rfl
@[simp] theorem updSched_radio : (updSched e f s).radio = s.radio := rfl
@[simp] theorem updSched_beam : (updSched e f s).beam = s.beam := rfl
@[simp] theorem updSched_pkt : (updSched e f s).pkt = s.pkt := rfl
@[simp] theorem updSched_task : (updSched e f s).task = s.task := rfl
@[simp] theorem updSched_dma : (updSched e f s).dma = s.dma := rfl
@[simp] theorem updSched_eth : (updSched e f s).eth = s.eth := rfl
@[simp] theorem updSched_wlan : (updSched e f s).wlan = s.wlan := rfl
@[simp] theorem updSched_pon : (updSched e f s).pon = s.pon := rfl
@[simp] theorem updSched_cvn : (updSched e f s).cvn = s.cvn := rfl
@[simp] theorem updSched_free : (updSched e f s).free = s.free := rfl
@[simp] theorem updSched_pending : (updSched e f s).pending = s.pending := rfl
end

section
variable (s : State) (l : List Instr)
@[simp] theorem State.withPending_host : (s.withPending l).host = s.host := rfl
@[simp] theorem State.withPending_mbx : (s.withPending l).mbx = s.mbx := rfl
@[simp] theorem State.withPending_evt : (s.withPending l).evt = s.evt := rfl
@[simp] theorem State.withPending_cfg : (s.withPending l).cfg = s.cfg := rfl
@[simp] theorem State.withPending_flash : (s.withPending l).flash = s.flash := rfl
@[simp] theorem State.withPending_sec : (s.withPending l).sec = s.sec := rfl
@[simp] theorem State.withPending_time : (s.withPending l).time = s.time := rfl
@[simp] theorem State.withPending_boot : (s.withPending l).boot = s.boot := rfl
@[simp] theorem State.withPending_fw : (s.withPending l).fw = s.fw := rfl
@[simp] theorem State.withPending_recast : (s.withPending l).recast = s.recast := rfl
@[simp] theorem State.withPending_power : (s.withPending l).power = s.power := rfl
@[simp] theorem State.withPending_mgmt : (s.withPending l).mgmt = s.mgmt := rfl
@[simp] theorem State.withPending_jtag : (s.withPending l).jtag = s.jtag := rfl
@[simp] theorem State.withPending_gpio : (s.withPending l).gpio = s.gpio := rfl
@[simp] theorem State.withPending_radio : (s.withPending l).radio = s.radio := rfl
@[simp] theorem State.withPending_beam : (s.withPending l).beam = s.beam := rfl
@[simp] theorem State.withPending_pkt : (s.withPending l).pkt = s.pkt := rfl
@[simp] theorem State.withPending_toll : (s.withPending l).toll = s.toll := rfl
@[simp] theorem State.withPending_task : (s.withPending l).task = s.task := rfl
@[simp] theorem State.withPending_dma : (s.withPending l).dma = s.dma := rfl
@[simp] theorem State.withPending_eth : (s.withPending l).eth = s.eth := rfl
@[simp] theorem State.withPending_wlan : (s.withPending l).wlan = s.wlan := rfl
@[simp] theorem State.withPending_pon : (s.withPending l).pon = s.pon := rfl
@[simp] theorem State.withPending_cvn : (s.withPending l).cvn = s.cvn := rfl
@[simp] theorem State.withPending_free : (s.withPending l).free = s.free := rfl
end

theorem updLane_lane (n k : Nat) (f : Lane → Lane) (s : State) :
    (updLane n f s).lane k = if n = k then f (s.lane k) else s.lane k := Tab.get_upd _ _ _ _
@[simp] theorem updLane_lane_same (n : Nat) (f : Lane → Lane) (s : State) : (updLane n f s).lane n = f (s.lane n) := Tab.get_upd_same _ _ _
theorem updLane_lane_ne (n k : Nat) (f : Lane → Lane) (s : State) (h : n ≠ k) : (updLane n f s).lane k = s.lane k := Tab.get_upd_ne _ _ _ _ h

theorem updLink_link (n k : Nat) (f : Link → Link) (s : State) :
    (updLink n f s).link k = if n = k then f (s.link k) else s.link k := Tab.get_upd _ _ _ _
@[simp] theorem updLink_link_same (n : Nat) (f : Link → Link) (s : State) : (updLink n f s).link n = f (s.link n) := Tab.get_upd_same _ _ _
theorem updLink_link_ne (n k : Nat) (f : Link → Link) (s : State) (h : n ≠ k) : (updLink n f s).link k = s.link k := Tab.get_upd_ne _ _ _ _ h

theorem updAch_ach (n k : Nat) (f : Ach → Ach) (s : State) :
    (updAch n f s).ach k = if n = k then f (s.ach k) else s.ach k := Tab.get_upd _ _ _ _
@[simp] theorem updAch_ach_same (n : Nat) (f : Ach → Ach) (s : State) : (updAch n f s).ach n = f (s.ach n) := Tab.get_upd_same _ _ _
theorem updAch_ach_ne (n k : Nat) (f : Ach → Ach) (s : State) (h : n ≠ k) : (updAch n f s).ach k = s.ach k := Tab.get_upd_ne _ _ _ _ h

theorem updCal_cal (n k : Nat) (f : Cal → Cal) (s : State) :
    (updCal n f s).cal k = if n = k then f (s.cal k) else s.cal k := Tab.get_upd _ _ _ _
@[simp] theorem updCal_cal_same (n : Nat) (f : Cal → Cal) (s : State) : (updCal n f s).cal n = f (s.cal n) := Tab.get_upd_same _ _ _
theorem updCal_cal_ne (n k : Nat) (f : Cal → Cal) (s : State) (h : n ≠ k) : (updCal n f s).cal k = s.cal k := Tab.get_upd_ne _ _ _ _ h

theorem updFeed_feed (n k : Nat) (f : Feed → Feed) (s : State) :
    (updFeed n f s).feed k = if n = k then f (s.feed k) else s.feed k := Tab.get_upd _ _ _ _
@[simp] theorem updFeed_feed_same (n : Nat) (f : Feed → Feed) (s : State) : (updFeed n f s).feed n = f (s.feed n) := Tab.get_upd_same _ _ _
theorem updFeed_feed_ne (n k : Nat) (f : Feed → Feed) (s : State) (h : n ≠ k) : (updFeed n f s).feed k = s.feed k := Tab.get_upd_ne _ _ _ _ h

theorem updWradio_wradio (n k : Nat) (f : WRadio → WRadio) (s : State) :
    (updWradio n f s).wradio k = if n = k then f (s.wradio k) else s.wradio k := Tab.get_upd _ _ _ _
@[simp] theorem updWradio_wradio_same (n : Nat) (f : WRadio → WRadio) (s : State) : (updWradio n f s).wradio n = f (s.wradio n) := Tab.get_upd_same _ _ _
theorem updWradio_wradio_ne (n k : Nat) (f : WRadio → WRadio) (s : State) (h : n ≠ k) : (updWradio n f s).wradio k = s.wradio k := Tab.get_upd_ne _ _ _ _ h

theorem updWsector_wsector (n k : Nat) (f : WSector → WSector) (s : State) :
    (updWsector n f s).wsector k = if n = k then f (s.wsector k) else s.wsector k := Tab.get_upd _ _ _ _
@[simp] theorem updWsector_wsector_same (n : Nat) (f : WSector → WSector) (s : State) : (updWsector n f s).wsector n = f (s.wsector n) := Tab.get_upd_same _ _ _
theorem updWsector_wsector_ne (n k : Nat) (f : WSector → WSector) (s : State) (h : n ≠ k) : (updWsector n f s).wsector k = s.wsector k := Tab.get_upd_ne _ _ _ _ h

theorem updSta_staSt (n k : Nat) (f : StaSt → StaSt) (s : State) :
    (updSta n f s).staSt k = if n = k then f (s.staSt k) else s.staSt k := Tab.get_upd _ _ _ _
@[simp] theorem updSta_staSt_same (n : Nat) (f : StaSt → StaSt) (s : State) : (updSta n f s).staSt n = f (s.staSt n) := Tab.get_upd_same _ _ _
theorem updSta_staSt_ne (n k : Nat) (f : StaSt → StaSt) (s : State) (h : n ≠ k) : (updSta n f s).staSt k = s.staSt k := Tab.get_upd_ne _ _ _ _ h

theorem updBeam_beamOf (n k : Nat) (f : Beam → Beam) (s : State) :
    (updBeam n f s).beamOf k = if n = k then f (s.beamOf k) else s.beamOf k := Tab.get_upd _ _ _ _
@[simp] theorem updBeam_beamOf_same (n : Nat) (f : Beam → Beam) (s : State) : (updBeam n f s).beamOf n = f (s.beamOf n) := Tab.get_upd_same _ _ _
theorem updBeam_beamOf_ne (n k : Nat) (f : Beam → Beam) (s : State) (h : n ≠ k) : (updBeam n f s).beamOf k = s.beamOf k := Tab.get_upd_ne _ _ _ _ h

theorem updMould_mould (n k : Nat) (f : Mould → Mould) (s : State) :
    (updMould n f s).mould k = if n = k then f (s.mould k) else s.mould k := Tab.get_upd _ _ _ _
@[simp] theorem updMould_mould_same (n : Nat) (f : Mould → Mould) (s : State) : (updMould n f s).mould n = f (s.mould n) := Tab.get_upd_same _ _ _
theorem updMould_mould_ne (n k : Nat) (f : Mould → Mould) (s : State) (h : n ≠ k) : (updMould n f s).mould k = s.mould k := Tab.get_upd_ne _ _ _ _ h

theorem updPort_port (n k : Nat) (f : EthPort → EthPort) (s : State) :
    (updPort n f s).port k = if n = k then f (s.port k) else s.port k := Tab.get_upd _ _ _ _
@[simp] theorem updPort_port_same (n : Nat) (f : EthPort → EthPort) (s : State) : (updPort n f s).port n = f (s.port n) := Tab.get_upd_same _ _ _
theorem updPort_port_ne (n k : Nat) (f : EthPort → EthPort) (s : State) (h : n ≠ k) : (updPort n f s).port k = s.port k := Tab.get_upd_ne _ _ _ _ h

theorem updJobq_jobq (n k : Nat) (f : JobQ → JobQ) (s : State) :
    (updJobq n f s).jobq k = if n = k then f (s.jobq k) else s.jobq k := Tab.get_upd _ _ _ _
@[simp] theorem updJobq_jobq_same (n : Nat) (f : JobQ → JobQ) (s : State) : (updJobq n f s).jobq n = f (s.jobq n) := Tab.get_upd_same _ _ _
theorem updJobq_jobq_ne (n k : Nat) (f : JobQ → JobQ) (s : State) (h : n ≠ k) : (updJobq n f s).jobq k = s.jobq k := Tab.get_upd_ne _ _ _ _ h

theorem updRunner_runner (n k : Nat) (f : Runner → Runner) (s : State) :
    (updRunner n f s).runner k = if n = k then f (s.runner k) else s.runner k := Tab.get_upd _ _ _ _
@[simp] theorem updRunner_runner_same (n : Nat) (f : Runner → Runner) (s : State) : (updRunner n f s).runner n = f (s.runner n) := Tab.get_upd_same _ _ _
theorem updRunner_runner_ne (n k : Nat) (f : Runner → Runner) (s : State) (h : n ≠ k) : (updRunner n f s).runner k = s.runner k := Tab.get_upd_ne _ _ _ _ h

theorem updEng_eng (n k : Nat) (f : Ladle → Ladle) (s : State) :
    (updEng n f s).eng k = if n = k then f (s.eng k) else s.eng k := Tab.get_upd _ _ _ _
@[simp] theorem updEng_eng_same (n : Nat) (f : Ladle → Ladle) (s : State) : (updEng n f s).eng n = f (s.eng n) := Tab.get_upd_same _ _ _
theorem updEng_eng_ne (n k : Nat) (f : Ladle → Ladle) (s : State) (h : n ≠ k) : (updEng n f s).eng k = s.eng k := Tab.get_upd_ne _ _ _ _ h

theorem updKernel_kernel (n k : Nat) (f : Kernel → Kernel) (s : State) :
    (updKernel n f s).kernel k = if n = k then f (s.kernel k) else s.kernel k := Tab.get_upd _ _ _ _
@[simp] theorem updKernel_kernel_same (n : Nat) (f : Kernel → Kernel) (s : State) : (updKernel n f s).kernel n = f (s.kernel n) := Tab.get_upd_same _ _ _
theorem updKernel_kernel_ne (n k : Nat) (f : Kernel → Kernel) (s : State) (h : n ≠ k) : (updKernel n f s).kernel k = s.kernel k := Tab.get_upd_ne _ _ _ _ h

theorem updWb_wb (n k : Nat) (f : Waybill → Waybill) (s : State) :
    (updWb n f s).wb k = if n = k then f (s.wb k) else s.wb k := Tab.get_upd _ _ _ _
@[simp] theorem updWb_wb_same (n : Nat) (f : Waybill → Waybill) (s : State) : (updWb n f s).wb n = f (s.wb n) := Tab.get_upd_same _ _ _
theorem updWb_wb_ne (n k : Nat) (f : Waybill → Waybill) (s : State) (h : n ≠ k) : (updWb n f s).wb k = s.wb k := Tab.get_upd_ne _ _ _ _ h

theorem updPool_pool (n k : Nat) (f : Pool → Pool) (s : State) :
    (updPool n f s).pool k = if n = k then f (s.pool k) else s.pool k := Tab.get_upd _ _ _ _
@[simp] theorem updPool_pool_same (n : Nat) (f : Pool → Pool) (s : State) : (updPool n f s).pool n = f (s.pool n) := Tab.get_upd_same _ _ _
theorem updPool_pool_ne (n k : Nat) (f : Pool → Pool) (s : State) (h : n ≠ k) : (updPool n f s).pool k = s.pool k := Tab.get_upd_ne _ _ _ _ h

theorem updRing_ring (n k : Nat) (f : Ring → Ring) (s : State) :
    (updRing n f s).ring k = if n = k then f (s.ring k) else s.ring k := Tab.get_upd _ _ _ _
@[simp] theorem updRing_ring_same (n : Nat) (f : Ring → Ring) (s : State) : (updRing n f s).ring n = f (s.ring n) := Tab.get_upd_same _ _ _
theorem updRing_ring_ne (n k : Nat) (f : Ring → Ring) (s : State) (h : n ≠ k) : (updRing n f s).ring k = s.ring k := Tab.get_upd_ne _ _ _ _ h

theorem updSprue_sprue (n k : Nat) (f : Sprue → Sprue) (s : State) :
    (updSprue n f s).sprue k = if n = k then f (s.sprue k) else s.sprue k := Tab.get_upd _ _ _ _
@[simp] theorem updSprue_sprue_same (n : Nat) (f : Sprue → Sprue) (s : State) : (updSprue n f s).sprue n = f (s.sprue n) := Tab.get_upd_same _ _ _
theorem updSprue_sprue_ne (n k : Nat) (f : Sprue → Sprue) (s : State) (h : n ≠ k) : (updSprue n f s).sprue k = s.sprue k := Tab.get_upd_ne _ _ _ _ h

theorem updDrive_drive (n k : Nat) (f : Drive → Drive) (s : State) :
    (updDrive n f s).drive k = if n = k then f (s.drive k) else s.drive k := Tab.get_upd _ _ _ _
@[simp] theorem updDrive_drive_same (n : Nat) (f : Drive → Drive) (s : State) : (updDrive n f s).drive n = f (s.drive n) := Tab.get_upd_same _ _ _
theorem updDrive_drive_ne (n k : Nat) (f : Drive → Drive) (s : State) (h : n ≠ k) : (updDrive n f s).drive k = s.drive k := Tab.get_upd_ne _ _ _ _ h

theorem updTb_tbase (n k : Nat) (f : TimeBase → TimeBase) (s : State) :
    (updTb n f s).tbase k = if n = k then f (s.tbase k) else s.tbase k := Tab.get_upd _ _ _ _
@[simp] theorem updTb_tbase_same (n : Nat) (f : TimeBase → TimeBase) (s : State) : (updTb n f s).tbase n = f (s.tbase n) := Tab.get_upd_same _ _ _
theorem updTb_tbase_ne (n k : Nat) (f : TimeBase → TimeBase) (s : State) (h : n ≠ k) : (updTb n f s).tbase k = s.tbase k := Tab.get_upd_ne _ _ _ _ h

theorem updTq_tq (n k : Nat) (f : TollQ → TollQ) (s : State) :
    (updTq n f s).tq k = if n = k then f (s.tq k) else s.tq k := Tab.get_upd _ _ _ _
@[simp] theorem updTq_tq_same (n : Nat) (f : TollQ → TollQ) (s : State) : (updTq n f s).tq n = f (s.tq n) := Tab.get_upd_same _ _ _
theorem updTq_tq_ne (n k : Nat) (f : TollQ → TollQ) (s : State) (h : n ≠ k) : (updTq n f s).tq k = s.tq k := Tab.get_upd_ne _ _ _ _ h

theorem updSched_sched (n k : Nat) (f : Sched → Sched) (s : State) :
    (updSched n f s).sched k = if n = k then f (s.sched k) else s.sched k := Tab.get_upd _ _ _ _
@[simp] theorem updSched_sched_same (n : Nat) (f : Sched → Sched) (s : State) : (updSched n f s).sched n = f (s.sched n) := Tab.get_upd_same _ _ _
theorem updSched_sched_ne (n k : Nat) (f : Sched → Sched) (s : State) (h : n ≠ k) : (updSched n f s).sched k = s.sched k := Tab.get_upd_ne _ _ _ _ h

@[simp] theorem updLane_link (n k : Nat) (f : Lane → Lane) (s : State) : (updLane n f s).link k = s.link k := rfl
@[simp] theorem updLane_ach (n k : Nat) (f : Lane → Lane) (s : State) : (updLane n f s).ach k = s.ach k := rfl
@[simp] theorem updLane_cal (n k : Nat) (f : Lane → Lane) (s : State) : (updLane n f s).cal k = s.cal k := rfl
@[simp] theorem updLane_feed (n k : Nat) (f : Lane → Lane) (s : State) : (updLane n f s).feed k = s.feed k := rfl
@[simp] theorem updLink_lane (n k : Nat) (f : Link → Link) (s : State) : (updLink n f s).lane k = s.lane k := rfl
@[simp] theorem updLink_ach (n k : Nat) (f : Link → Link) (s : State) : (updLink n f s).ach k = s.ach k := rfl
@[simp] theorem updLink_cal (n k : Nat) (f : Link → Link) (s : State) : (updLink n f s).cal k = s.cal k := rfl
@[simp] theorem updLink_feed (n k : Nat) (f : Link → Link) (s : State) : (updLink n f s).feed k = s.feed k := rfl
@[simp] theorem updAch_lane (n k : Nat) (f : Ach → Ach) (s : State) : (updAch n f s).lane k = s.lane k := rfl
@[simp] theorem updAch_link (n k : Nat) (f : Ach → Ach) (s : State) : (updAch n f s).link k = s.link k := rfl
@[simp] theorem updAch_cal (n k : Nat) (f : Ach → Ach) (s : State) : (updAch n f s).cal k = s.cal k := rfl
@[simp] theorem updAch_feed (n k : Nat) (f : Ach → Ach) (s : State) : (updAch n f s).feed k = s.feed k := rfl
@[simp] theorem updCal_lane (n k : Nat) (f : Cal → Cal) (s : State) : (updCal n f s).lane k = s.lane k := rfl
@[simp] theorem updCal_link (n k : Nat) (f : Cal → Cal) (s : State) : (updCal n f s).link k = s.link k := rfl
@[simp] theorem updCal_ach (n k : Nat) (f : Cal → Cal) (s : State) : (updCal n f s).ach k = s.ach k := rfl
@[simp] theorem updCal_feed (n k : Nat) (f : Cal → Cal) (s : State) : (updCal n f s).feed k = s.feed k := rfl
@[simp] theorem updFeed_lane (n k : Nat) (f : Feed → Feed) (s : State) : (updFeed n f s).lane k = s.lane k := rfl
@[simp] theorem updFeed_link (n k : Nat) (f : Feed → Feed) (s : State) : (updFeed n f s).link k = s.link k := rfl
@[simp] theorem updFeed_ach (n k : Nat) (f : Feed → Feed) (s : State) : (updFeed n f s).ach k = s.ach k := rfl
@[simp] theorem updFeed_cal (n k : Nat) (f : Feed → Feed) (s : State) : (updFeed n f s).cal k = s.cal k := rfl
@[simp] theorem updWradio_wsector (n k : Nat) (f : WRadio → WRadio) (s : State) : (updWradio n f s).wsector k = s.wsector k := rfl
@[simp] theorem updWradio_staSt (n k : Nat) (f : WRadio → WRadio) (s : State) : (updWradio n f s).staSt k = s.staSt k := rfl
@[simp] theorem updWsector_wradio (n k : Nat) (f : WSector → WSector) (s : State) : (updWsector n f s).wradio k = s.wradio k := rfl
@[simp] theorem updWsector_staSt (n k : Nat) (f : WSector → WSector) (s : State) : (updWsector n f s).staSt k = s.staSt k := rfl
@[simp] theorem updSta_wradio (n k : Nat) (f : StaSt → StaSt) (s : State) : (updSta n f s).wradio k = s.wradio k := rfl
@[simp] theorem updSta_wsector (n k : Nat) (f : StaSt → StaSt) (s : State) : (updSta n f s).wsector k = s.wsector k := rfl
@[simp] theorem updBeam_mould (n k : Nat) (f : Beam → Beam) (s : State) : (updBeam n f s).mould k = s.mould k := rfl
@[simp] theorem updMould_beamOf (n k : Nat) (f : Mould → Mould) (s : State) : (updMould n f s).beamOf k = s.beamOf k := rfl
@[simp] theorem updJobq_runner (n k : Nat) (f : JobQ → JobQ) (s : State) : (updJobq n f s).runner k = s.runner k := rfl
@[simp] theorem updJobq_eng (n k : Nat) (f : JobQ → JobQ) (s : State) : (updJobq n f s).eng k = s.eng k := rfl
@[simp] theorem updJobq_kernel (n k : Nat) (f : JobQ → JobQ) (s : State) : (updJobq n f s).kernel k = s.kernel k := rfl
@[simp] theorem updRunner_jobq (n k : Nat) (f : Runner → Runner) (s : State) : (updRunner n f s).jobq k = s.jobq k := rfl
@[simp] theorem updRunner_eng (n k : Nat) (f : Runner → Runner) (s : State) : (updRunner n f s).eng k = s.eng k := rfl
@[simp] theorem updRunner_kernel (n k : Nat) (f : Runner → Runner) (s : State) : (updRunner n f s).kernel k = s.kernel k := rfl
@[simp] theorem updEng_jobq (n k : Nat) (f : Ladle → Ladle) (s : State) : (updEng n f s).jobq k = s.jobq k := rfl
@[simp] theorem updEng_runner (n k : Nat) (f : Ladle → Ladle) (s : State) : (updEng n f s).runner k = s.runner k := rfl
@[simp] theorem updEng_kernel (n k : Nat) (f : Ladle → Ladle) (s : State) : (updEng n f s).kernel k = s.kernel k := rfl
@[simp] theorem updKernel_jobq (n k : Nat) (f : Kernel → Kernel) (s : State) : (updKernel n f s).jobq k = s.jobq k := rfl
@[simp] theorem updKernel_runner (n k : Nat) (f : Kernel → Kernel) (s : State) : (updKernel n f s).runner k = s.runner k := rfl
@[simp] theorem updKernel_eng (n k : Nat) (f : Kernel → Kernel) (s : State) : (updKernel n f s).eng k = s.eng k := rfl
@[simp] theorem updWb_pool (n k : Nat) (f : Waybill → Waybill) (s : State) : (updWb n f s).pool k = s.pool k := rfl
@[simp] theorem updPool_wb (n k : Nat) (f : Pool → Pool) (s : State) : (updPool n f s).wb k = s.wb k := rfl
@[simp] theorem updRing_sprue (n k : Nat) (f : Ring → Ring) (s : State) : (updRing n f s).sprue k = s.sprue k := rfl
@[simp] theorem updRing_drive (n k : Nat) (f : Ring → Ring) (s : State) : (updRing n f s).drive k = s.drive k := rfl
@[simp] theorem updSprue_ring (n k : Nat) (f : Sprue → Sprue) (s : State) : (updSprue n f s).ring k = s.ring k := rfl
@[simp] theorem updSprue_drive (n k : Nat) (f : Sprue → Sprue) (s : State) : (updSprue n f s).drive k = s.drive k := rfl
@[simp] theorem updDrive_ring (n k : Nat) (f : Drive → Drive) (s : State) : (updDrive n f s).ring k = s.ring k := rfl
@[simp] theorem updDrive_sprue (n k : Nat) (f : Drive → Drive) (s : State) : (updDrive n f s).sprue k = s.sprue k := rfl
@[simp] theorem updTq_sched (n k : Nat) (f : TollQ → TollQ) (s : State) : (updTq n f s).sched k = s.sched k := rfl
@[simp] theorem updSched_tq (n k : Nat) (f : Sched → Sched) (s : State) : (updSched n f s).tq k = s.tq k := rfl

end Sys2Proof.Machine
end

