-- ==== Sys2Proof/Laws/Ops.lean ====
section
/-!
SUPPORT. What the shared operations can do: those that report, count or answer touch the host port, the mailbox, the events,
the configuration store and the management block, and nothing else.
-/
namespace Sys2Proof.Machine


theorem Mail.refl (s : State) : Mail s s := by constructor <;> rfl

theorem Mail.trans {a b c : State} (h : Mail a b) (k : Mail b c) : Mail a c := by
  constructor
  · exact k.flash.trans h.flash
  · exact k.sec.trans h.sec
  · exact k.time.trans h.time
  · exact k.boot.trans h.boot
  · exact k.fw.trans h.fw
  · exact k.recast.trans h.recast
  · exact k.power.trans h.power
  · exact k.jtag.trans h.jtag
  · exact k.gpio.trans h.gpio
  · exact k.radio.trans h.radio
  · exact k.beam.trans h.beam
  · exact k.pkt.trans h.pkt
  · exact k.toll.trans h.toll
  · exact k.task.trans h.task
  · exact k.dma.trans h.dma
  · exact k.eth.trans h.eth
  · exact k.wlan.trans h.wlan
  · exact k.pon.trans h.pon
  · exact k.cvn.trans h.cvn
  · exact k.free.trans h.free
  · exact k.pending.trans h.pending

theorem Mail.ite {s a b : State} {p : Prop} [Decidable p] (h : Mail s a) (k : Mail s b) : Mail s (if p then a else b) := by
  split
  · exact h
  · exact k

theorem Mail.foldl {α : Type} {s : State} (f : State → α → State) (h : ∀ s x, Mail s (f s x)) (l : List α) :
    Mail s (l.foldl f s) := by
  induction l generalizing s with
  | nil => exact Mail.refl s
  | cons x l ih => exact (h s x).trans ih

/-! ### Mail of each operation -/

theorem setPar_mail (s : State) (p : ParamDef) (i : Nat) (v : Int) : Mail s (s.setPar p i v) := by constructor <;> rfl

theorem bumpBy_mail (p : ParamDef) (i k : Nat) (s : State) : Mail s (bumpBy p i k s) := setPar_mail s p i _

theorem bump_mail (p : ParamDef) (i : Nat) (s : State) : Mail s (bump p i s) := bumpBy_mail p i 1 s

theorem sendVector_mail (v : Nat) (s : State) : Mail s (sendVector v s) := by
  unfold sendVector
  split
  · split <;> constructor <;> rfl
  · exact Mail.refl s

theorem uartLine_mail (a b c d : Nat) (s : State) : Mail s (uartLine a b c d s) := by constructor <;> rfl

theorem setWin_mail (s : State) (w : Nat) (x : Window) : Mail s (s.setWin w x) := by constructor <;> rfl

theorem handBack_mail (w : Nat) (r : HandBack) (s : State) : Mail s (handBack w r s) := by
  unfold handBack
  refine Mail.trans ?_ (sendVector_mail w _)
  constructor <;> rfl

theorem protoError_mail (w : Nat) (s : State) : Mail s (protoError w s) := (setWin_mail s w _).trans (bump_mail _ _ _)

theorem putMessage_mail (w : Nat) (b : List Byte) (s : State) : Mail s (putMessage w b s) := setWin_mail s w _

theorem respond_mail (o : Outstanding) (st : Status) (b : List Byte) (s : State) : Mail s (respond o st b s) :=
  (putMessage_mail _ _ s).trans ((setPar_mail _ _ _ _).trans (handBack_mail _ _ _))

theorem ringInsert_mail (r : EvRec) (s : State) : Mail s (ringInsert r s) := by
  unfold ringInsert
  dsimp only
  split
  · exact Mail.trans (b := { s with evt := { s.evt with recs := foldStorm r s.evt.recs } }) (by constructor <;> rfl) (bump_mail _ _ _)
  · split
    · constructor <;> rfl
    · split
      · exact bump_mail _ _ _
      · exact Mail.trans (by constructor <;> rfl) (bump_mail _ _ _)

theorem logInsert_mail (r : EvRec) (s : State) : Mail s (logInsert r s) := by
  unfold logInsert
  dsimp only
  split
  · exact Mail.refl s
  · split
    · constructor <;> rfl
    · split
      · constructor <;> rfl
      · exact Mail.trans (b := logRefill s) (by constructor <;> rfl) (bump_mail _ _ _)

theorem deliverMessage_mail (w op tag st ep : Nat) (b : List Byte) (s : State) : Mail s (deliverMessage w op tag st ep b s) := by
  unfold deliverMessage
  exact (putMessage_mail _ _ s).trans (handBack_mail _ _ _)

theorem deliverOne_mail (s t : State) (h : deliverOne s = some t) : Mail s t := by
  unfold deliverOne at h
  split at h
  · cases h
  · split at h
    · simp only [Option.some.injEq] at h
      subst h
      exact Mail.trans (by constructor <;> rfl) (deliverMessage_mail _ _ _ _ _ _ _)
    · split at h
      · simp only [Option.some.injEq] at h
        subst h
        exact Mail.trans (by constructor <;> rfl) (deliverMessage_mail _ _ _ _ _ _ _)
      · cases h

theorem deliver_mail (n : Nat) (s : State) : Mail s (deliver n s) := by
  induction n generalizing s with
  | zero => exact Mail.refl s
  | succ n ih =>
    unfold deliver
    split
    · exact (deliverOne_mail s _ ‹_›).trans (ih _)
    · exact Mail.refl s

theorem pump_mail (s : State) : Mail s (pump s) := deliver_mail 8 s

theorem raise_mail (e : EvDef) (i d : Nat) (s : State) : Mail s (raise e i d s) := by
  unfold raise
  dsimp only
  refine Mail.trans ?_ (pump_mail _)
  split
  · exact ((ringInsert_mail _ s).trans (logInsert_mail _ _)).trans (uartLine_mail _ _ _ _ _)
  · exact (ringInsert_mail _ s).trans (logInsert_mail _ _)

theorem fifoSlip_mail (p : ParamDef) (e : EvDef) (i k : Nat) (s : State) : Mail s (fifoSlip p e i k s) := by
  unfold fifoSlip
  refine Mail.trans (bumpBy_mail p i k s) ?_
  dsimp only
  split
  · exact Mail.refl _
  · exact Mail.trans (by constructor <;> rfl) (raise_mail _ _ _ _)

theorem warnOnce_mail (p : ParamDef) (i : Nat) (e : EvDef) (n d : Nat) (s : State) : Mail s (warnOnce p i e n d s) := by
  unfold warnOnce
  dsimp only
  split
  · exact Mail.refl _
  · exact Mail.trans (by constructor <;> rfl) (raise_mail _ _ _ _)

theorem queueControl_mail (c : Ctl) (s : State) : Mail s (queueControl c s) := by
  unfold queueControl
  dsimp only
  split
  · constructor <;> rfl
  · split <;> constructor <;> rfl

theorem reportVersion_mail (a b c d : Nat) (s : State) : Mail s (reportVersion a b c d s) := by
  unfold reportVersion
  split
  · exact Mail.refl s
  · exact (queueControl_mail _ s).trans (pump_mail _)

theorem finish_mail (cid : Nat) (st : Status) (b : List Byte) (s : State) : Mail s (finish cid st b s) := by
  unfold finish
  split
  · exact Mail.refl s
  · split
    · exact (queueControl_mail _ s).trans (pump_mail _)
    · exact Mail.trans (Mail.trans (by constructor <;> rfl) (respond_mail _ _ _ _)) (pump_mail _)

theorem finishOpt_mail (cid : Option Nat) (st : Status) (b : List Byte) (s : State) : Mail s (finish? cid st b s) := by
  unfold finish?
  split
  · exact Mail.refl s
  · exact finish_mail _ _ _ s

/-! ### Field by field -/

section
variable (e : EvDef) (i d : Nat) (s : State)
@[simp] theorem raise_flash : (raise e i d s).flash = s.flash := (raise_mail e i d s).flash
@[simp] theorem raise_sec : (raise e i d s).sec = s.sec := (raise_mail e i d s).sec
@[simp] theorem raise_time : (raise e i d s).time = s.time := (raise_mail e i d s).time
@[simp] theorem raise_boot : (raise e i d s).boot = s.boot := (raise_mail e i d s).boot
@[simp] theorem raise_fw : (raise e i d s).fw = s.fw := (raise_mail e i d s).fw
@[simp] theorem raise_recast : (raise e i d s).recast = s.recast := (raise_mail e i d s).recast
@[simp] theorem raise_power : (raise e i d s).power = s.power := (raise_mail e i d s).power
@[simp] theorem raise_jtag : (raise e i d s).jtag = s.jtag := (raise_mail e i d s).jtag
@[simp] theorem raise_gpio : (raise e i d s).gpio = s.gpio := (raise_mail e i d s).gpio
@[simp] theorem raise_radio : (raise e i d s).radio = s.radio := (raise_mail e i d s).radio
@[simp] theorem raise_beam : (raise e i d s).beam = s.beam := (raise_mail e i d s).beam
@[simp] theorem raise_pkt : (raise e i d s).pkt = s.pkt := (raise_mail e i d s).pkt
@[simp] theorem raise_toll : (raise e i d s).toll = s.toll := (raise_mail e i d s).toll
@[simp] theorem raise_task : (raise e i d s).task = s.task := (raise_mail e i d s).task
@[simp] theorem raise_dma : (raise e i d s).dma = s.dma := (raise_mail e i d s).dma
@[simp] theorem raise_eth : (raise e i d s).eth = s.eth := (raise_mail e i d s).eth
@[simp] theorem raise_wlan : (raise e i d s).wlan = s.wlan := (raise_mail e i d s).wlan
@[simp] theorem raise_pon : (raise e i d s).pon = s.pon := (raise_mail e i d s).pon
@[simp] theorem raise_cvn : (raise e i d s).cvn = s.cvn := (raise_mail e i d s).cvn
@[simp] theorem raise_free : (raise e i d s).free = s.free := (raise_mail e i d s).free
@[simp] theorem raise_pending : (raise e i d s).pending = s.pending := (raise_mail e i d s).pending
end

section
variable (s : State)
@[simp] theorem pump_flash : (pump s).flash = s.flash := (pump_mail s).flash
@[simp] theorem pump_sec : (pump s).sec = s.sec := (pump_mail s).sec
@[simp] theorem pump_time : (pump s).time = s.time := (pump_mail s).time
@[simp] theorem pump_boot : (pump s).boot = s.boot := (pump_mail s).boot
@[simp] theorem pump_fw : (pump s).fw = s.fw := (pump_mail s).fw
@[simp] theorem pump_recast : (pump s).recast = s.recast := (pump_mail s).recast
@[simp] theorem pump_power : (pump s).power = s.power := (pump_mail s).power
@[simp] theorem pump_jtag : (pump s).jtag = s.jtag := (pump_mail s).jtag
@[simp] theorem pump_gpio : (pump s).gpio = s.gpio := (pump_mail s).gpio
@[simp] theorem pump_radio : (pump s).radio = s.radio := (pump_mail s).radio
@[simp] theorem pump_beam : (pump s).beam = s.beam := (pump_mail s).beam
@[simp] theorem pump_pkt : (pump s).pkt = s.pkt := (pump_mail s).pkt
@[simp] theorem pump_toll : (pump s).toll = s.toll := (pump_mail s).toll
@[simp] theorem pump_task : (pump s).task = s.task := (pump_mail s).task
@[simp] theorem pump_dma : (pump s).dma = s.dma := (pump_mail s).dma
@[simp] theorem pump_eth : (pump s).eth = s.eth := (pump_mail s).eth
@[simp] theorem pump_wlan : (pump s).wlan = s.wlan := (pump_mail s).wlan
@[simp] theorem pump_pon : (pump s).pon = s.pon := (pump_mail s).pon
@[simp] theorem pump_cvn : (pump s).cvn = s.cvn := (pump_mail s).cvn
@[simp] theorem pump_free : (pump s).free = s.free := (pump_mail s).free
@[simp] theorem pump_pending : (pump s).pending = s.pending := (pump_mail s).pending
end

section
variable (p : ParamDef) (i k : Nat) (s : State)
@[simp] theorem bumpBy_flash : (bumpBy p i k s).flash = s.flash := (bumpBy_mail p i k s).flash
@[simp] theorem bumpBy_sec : (bumpBy p i k s).sec = s.sec := (bumpBy_mail p i k s).sec
@[simp] theorem bumpBy_time : (bumpBy p i k s).time = s.time := (bumpBy_mail p i k s).time
@[simp] theorem bumpBy_boot : (bumpBy p i k s).boot = s.boot := (bumpBy_mail p i k s).boot
@[simp] theorem bumpBy_fw : (bumpBy p i k s).fw = s.fw := (bumpBy_mail p i k s).fw
@[simp] theorem bumpBy_recast : (bumpBy p i k s).recast = s.recast := (bumpBy_mail p i k s).recast
@[simp] theorem bumpBy_power : (bumpBy p i k s).power = s.power := (bumpBy_mail p i k s).power
@[simp] theorem bumpBy_jtag : (bumpBy p i k s).jtag = s.jtag := (bumpBy_mail p i k s).jtag
@[simp] theorem bumpBy_gpio : (bumpBy p i k s).gpio = s.gpio := (bumpBy_mail p i k s).gpio
@[simp] theorem bumpBy_radio : (bumpBy p i k s).radio = s.radio := (bumpBy_mail p i k s).radio
@[simp] theorem bumpBy_beam : (bumpBy p i k s).beam = s.beam := (bumpBy_mail p i k s).beam
@[simp] theorem bumpBy_pkt : (bumpBy p i k s).pkt = s.pkt := (bumpBy_mail p i k s).pkt
@[simp] theorem bumpBy_toll : (bumpBy p i k s).toll = s.toll := (bumpBy_mail p i k s).toll
@[simp] theorem bumpBy_task : (bumpBy p i k s).task = s.task := (bumpBy_mail p i k s).task
@[simp] theorem bumpBy_dma : (bumpBy p i k s).dma = s.dma := (bumpBy_mail p i k s).dma
@[simp] theorem bumpBy_eth : (bumpBy p i k s).eth = s.eth := (bumpBy_mail p i k s).eth
@[simp] theorem bumpBy_wlan : (bumpBy p i k s).wlan = s.wlan := (bumpBy_mail p i k s).wlan
@[simp] theorem bumpBy_pon : (bumpBy p i k s).pon = s.pon := (bumpBy_mail p i k s).pon
@[simp] theorem bumpBy_cvn : (bumpBy p i k s).cvn = s.cvn := (bumpBy_mail p i k s).cvn
@[simp] theorem bumpBy_free : (bumpBy p i k s).free = s.free := (bumpBy_mail p i k s).free
@[simp] theorem bumpBy_pending : (bumpBy p i k s).pending = s.pending := (bumpBy_mail p i k s).pending
end

section
variable (p : ParamDef) (i : Nat) (s : State)
@[simp] theorem bump_flash : (bump p i s).flash = s.flash := (bump_mail p i s).flash
@[simp] theorem bump_sec : (bump p i s).sec = s.sec := (bump_mail p i s).sec
@[simp] theorem bump_time : (bump p i s).time = s.time := (bump_mail p i s).time
@[simp] theorem bump_boot : (bump p i s).boot = s.boot := (bump_mail p i s).boot
@[simp] theorem bump_fw : (bump p i s).fw = s.fw := (bump_mail p i s).fw
@[simp] theorem bump_recast : (bump p i s).recast = s.recast := (bump_mail p i s).recast
@[simp] theorem bump_power : (bump p i s).power = s.power := (bump_mail p i s).power
@[simp] theorem bump_jtag : (bump p i s).jtag = s.jtag := (bump_mail p i s).jtag
@[simp] theorem bump_gpio : (bump p i s).gpio = s.gpio := (bump_mail p i s).gpio
@[simp] theorem bump_radio : (bump p i s).radio = s.radio := (bump_mail p i s).radio
@[simp] theorem bump_beam : (bump p i s).beam = s.beam := (bump_mail p i s).beam
@[simp] theorem bump_pkt : (bump p i s).pkt = s.pkt := (bump_mail p i s).pkt
@[simp] theorem bump_toll : (bump p i s).toll = s.toll := (bump_mail p i s).toll
@[simp] theorem bump_task : (bump p i s).task = s.task := (bump_mail p i s).task
@[simp] theorem bump_dma : (bump p i s).dma = s.dma := (bump_mail p i s).dma
@[simp] theorem bump_eth : (bump p i s).eth = s.eth := (bump_mail p i s).eth
@[simp] theorem bump_wlan : (bump p i s).wlan = s.wlan := (bump_mail p i s).wlan
@[simp] theorem bump_pon : (bump p i s).pon = s.pon := (bump_mail p i s).pon
@[simp] theorem bump_cvn : (bump p i s).cvn = s.cvn := (bump_mail p i s).cvn
@[simp] theorem bump_free : (bump p i s).free = s.free := (bump_mail p i s).free
@[simp] theorem bump_pending : (bump p i s).pending = s.pending := (bump_mail p i s).pending
end

section
variable (v : Nat) (s : State)
@[simp] theorem sendVector_flash : (sendVector v s).flash = s.flash := (sendVector_mail v s).flash
@[simp] theorem sendVector_sec : (sendVector v s).sec = s.sec := (sendVector_mail v s).sec
@[simp] theorem sendVector_time : (sendVector v s).time = s.time := (sendVector_mail v s).time
@[simp] theorem sendVector_boot : (sendVector v s).boot = s.boot := (sendVector_mail v s).boot
@[simp] theorem sendVector_fw : (sendVector v s).fw = s.fw := (sendVector_mail v s).fw
@[simp] theorem sendVector_recast : (sendVector v s).recast = s.recast := (sendVector_mail v s).recast
@[simp] theorem sendVector_power : (sendVector v s).power = s.power := (sendVector_mail v s).power
@[simp] theorem sendVector_jtag : (sendVector v s).jtag = s.jtag := (sendVector_mail v s).jtag
@[simp] theorem sendVector_gpio : (sendVector v s).gpio = s.gpio := (sendVector_mail v s).gpio
@[simp] theorem sendVector_radio : (sendVector v s).radio = s.radio := (sendVector_mail v s).radio
@[simp] theorem sendVector_beam : (sendVector v s).beam = s.beam := (sendVector_mail v s).beam
@[simp] theorem sendVector_pkt : (sendVector v s).pkt = s.pkt := (sendVector_mail v s).pkt
@[simp] theorem sendVector_toll : (sendVector v s).toll = s.toll := (sendVector_mail v s).toll
@[simp] theorem sendVector_task : (sendVector v s).task = s.task := (sendVector_mail v s).task
@[simp] theorem sendVector_dma : (sendVector v s).dma = s.dma := (sendVector_mail v s).dma
@[simp] theorem sendVector_eth : (sendVector v s).eth = s.eth := (sendVector_mail v s).eth
@[simp] theorem sendVector_wlan : (sendVector v s).wlan = s.wlan := (sendVector_mail v s).wlan
@[simp] theorem sendVector_pon : (sendVector v s).pon = s.pon := (sendVector_mail v s).pon
@[simp] theorem sendVector_cvn : (sendVector v s).cvn = s.cvn := (sendVector_mail v s).cvn
@[simp] theorem sendVector_free : (sendVector v s).free = s.free := (sendVector_mail v s).free
@[simp] theorem sendVector_pending : (sendVector v s).pending = s.pending := (sendVector_mail v s).pending
end

section
variable (w : Nat) (r : HandBack) (s : State)
@[simp] theorem handBack_flash : (handBack w r s).flash = s.flash := (handBack_mail w r s).flash
@[simp] theorem handBack_sec : (handBack w r s).sec = s.sec := (handBack_mail w r s).sec
@[simp] theorem handBack_time : (handBack w r s).time = s.time := (handBack_mail w r s).time
@[simp] theorem handBack_boot : (handBack w r s).boot = s.boot := (handBack_mail w r s).boot
@[simp] theorem handBack_fw : (handBack w r s).fw = s.fw := (handBack_mail w r s).fw
@[simp] theorem handBack_recast : (handBack w r s).recast = s.recast := (handBack_mail w r s).recast
@[simp] theorem handBack_power : (handBack w r s).power = s.power := (handBack_mail w r s).power
@[simp] theorem handBack_jtag : (handBack w r s).jtag = s.jtag := (handBack_mail w r s).jtag
@[simp] theorem handBack_gpio : (handBack w r s).gpio = s.gpio := (handBack_mail w r s).gpio
@[simp] theorem handBack_radio : (handBack w r s).radio = s.radio := (handBack_mail w r s).radio
@[simp] theorem handBack_beam : (handBack w r s).beam = s.beam := (handBack_mail w r s).beam
@[simp] theorem handBack_pkt : (handBack w r s).pkt = s.pkt := (handBack_mail w r s).pkt
@[simp] theorem handBack_toll : (handBack w r s).toll = s.toll := (handBack_mail w r s).toll
@[simp] theorem handBack_task : (handBack w r s).task = s.task := (handBack_mail w r s).task
@[simp] theorem handBack_dma : (handBack w r s).dma = s.dma := (handBack_mail w r s).dma
@[simp] theorem handBack_eth : (handBack w r s).eth = s.eth := (handBack_mail w r s).eth
@[simp] theorem handBack_wlan : (handBack w r s).wlan = s.wlan := (handBack_mail w r s).wlan
@[simp] theorem handBack_pon : (handBack w r s).pon = s.pon := (handBack_mail w r s).pon
@[simp] theorem handBack_cvn : (handBack w r s).cvn = s.cvn := (handBack_mail w r s).cvn
@[simp] theorem handBack_free : (handBack w r s).free = s.free := (handBack_mail w r s).free
@[simp] theorem handBack_pending : (handBack w r s).pending = s.pending := (handBack_mail w r s).pending
end

section
variable (w : Nat) (s : State)
@[simp] theorem protoError_flash : (protoError w s).flash = s.flash := (protoError_mail w s).flash
@[simp] theorem protoError_sec : (protoError w s).sec = s.sec := (protoError_mail w s).sec
@[simp] theorem protoError_time : (protoError w s).time = s.time := (protoError_mail w s).time
@[simp] theorem protoError_boot : (protoError w s).boot = s.boot := (protoError_mail w s).boot
@[simp] theorem protoError_fw : (protoError w s).fw = s.fw := (protoError_mail w s).fw
@[simp] theorem protoError_recast : (protoError w s).recast = s.recast := (protoError_mail w s).recast
@[simp] theorem protoError_power : (protoError w s).power = s.power := (protoError_mail w s).power
@[simp] theorem protoError_jtag : (protoError w s).jtag = s.jtag := (protoError_mail w s).jtag
@[simp] theorem protoError_gpio : (protoError w s).gpio = s.gpio := (protoError_mail w s).gpio
@[simp] theorem protoError_radio : (protoError w s).radio = s.radio := (protoError_mail w s).radio
@[simp] theorem protoError_beam : (protoError w s).beam = s.beam := (protoError_mail w s).beam
@[simp] theorem protoError_pkt : (protoError w s).pkt = s.pkt := (protoError_mail w s).pkt
@[simp] theorem protoError_toll : (protoError w s).toll = s.toll := (protoError_mail w s).toll
@[simp] theorem protoError_task : (protoError w s).task = s.task := (protoError_mail w s).task
@[simp] theorem protoError_dma : (protoError w s).dma = s.dma := (protoError_mail w s).dma
@[simp] theorem protoError_eth : (protoError w s).eth = s.eth := (protoError_mail w s).eth
@[simp] theorem protoError_wlan : (protoError w s).wlan = s.wlan := (protoError_mail w s).wlan
@[simp] theorem protoError_pon : (protoError w s).pon = s.pon := (protoError_mail w s).pon
@[simp] theorem protoError_cvn : (protoError w s).cvn = s.cvn := (protoError_mail w s).cvn
@[simp] theorem protoError_free : (protoError w s).free = s.free := (protoError_mail w s).free
@[simp] theorem protoError_pending : (protoError w s).pending = s.pending := (protoError_mail w s).pending
end

section
variable (o : Outstanding) (st : Status) (b : List Byte) (s : State)
@[simp] theorem respond_flash : (respond o st b s).flash = s.flash := (respond_mail o st b s).flash
@[simp] theorem respond_sec : (respond o st b s).sec = s.sec := (respond_mail o st b s).sec
@[simp] theorem respond_time : (respond o st b s).time = s.time := (respond_mail o st b s).time
@[simp] theorem respond_boot : (respond o st b s).boot = s.boot := (respond_mail o st b s).boot
@[simp] theorem respond_fw : (respond o st b s).fw = s.fw := (respond_mail o st b s).fw
@[simp] theorem respond_recast : (respond o st b s).recast = s.recast := (respond_mail o st b s).recast
@[simp] theorem respond_power : (respond o st b s).power = s.power := (respond_mail o st b s).power
@[simp] theorem respond_jtag : (respond o st b s).jtag = s.jtag := (respond_mail o st b s).jtag
@[simp] theorem respond_gpio : (respond o st b s).gpio = s.gpio := (respond_mail o st b s).gpio
@[simp] theorem respond_radio : (respond o st b s).radio = s.radio := (respond_mail o st b s).radio
@[simp] theorem respond_beam : (respond o st b s).beam = s.beam := (respond_mail o st b s).beam
@[simp] theorem respond_pkt : (respond o st b s).pkt = s.pkt := (respond_mail o st b s).pkt
@[simp] theorem respond_toll : (respond o st b s).toll = s.toll := (respond_mail o st b s).toll
@[simp] theorem respond_task : (respond o st b s).task = s.task := (respond_mail o st b s).task
@[simp] theorem respond_dma : (respond o st b s).dma = s.dma := (respond_mail o st b s).dma
@[simp] theorem respond_eth : (respond o st b s).eth = s.eth := (respond_mail o st b s).eth
@[simp] theorem respond_wlan : (respond o st b s).wlan = s.wlan := (respond_mail o st b s).wlan
@[simp] theorem respond_pon : (respond o st b s).pon = s.pon := (respond_mail o st b s).pon
@[simp] theorem respond_cvn : (respond o st b s).cvn = s.cvn := (respond_mail o st b s).cvn
@[simp] theorem respond_free : (respond o st b s).free = s.free := (respond_mail o st b s).free
@[simp] theorem respond_pending : (respond o st b s).pending = s.pending := (respond_mail o st b s).pending
end

section
variable (p : ParamDef) (e : EvDef) (i k : Nat) (s : State)
@[simp] theorem fifoSlip_flash : (fifoSlip p e i k s).flash = s.flash := (fifoSlip_mail p e i k s).flash
@[simp] theorem fifoSlip_sec : (fifoSlip p e i k s).sec = s.sec := (fifoSlip_mail p e i k s).sec
@[simp] theorem fifoSlip_time : (fifoSlip p e i k s).time = s.time := (fifoSlip_mail p e i k s).time
@[simp] theorem fifoSlip_boot : (fifoSlip p e i k s).boot = s.boot := (fifoSlip_mail p e i k s).boot
@[simp] theorem fifoSlip_fw : (fifoSlip p e i k s).fw = s.fw := (fifoSlip_mail p e i k s).fw
@[simp] theorem fifoSlip_recast : (fifoSlip p e i k s).recast = s.recast := (fifoSlip_mail p e i k s).recast
@[simp] theorem fifoSlip_power : (fifoSlip p e i k s).power = s.power := (fifoSlip_mail p e i k s).power
@[simp] theorem fifoSlip_jtag : (fifoSlip p e i k s).jtag = s.jtag := (fifoSlip_mail p e i k s).jtag
@[simp] theorem fifoSlip_gpio : (fifoSlip p e i k s).gpio = s.gpio := (fifoSlip_mail p e i k s).gpio
@[simp] theorem fifoSlip_radio : (fifoSlip p e i k s).radio = s.radio := (fifoSlip_mail p e i k s).radio
@[simp] theorem fifoSlip_beam : (fifoSlip p e i k s).beam = s.beam := (fifoSlip_mail p e i k s).beam
@[simp] theorem fifoSlip_pkt : (fifoSlip p e i k s).pkt = s.pkt := (fifoSlip_mail p e i k s).pkt
@[simp] theorem fifoSlip_toll : (fifoSlip p e i k s).toll = s.toll := (fifoSlip_mail p e i k s).toll
@[simp] theorem fifoSlip_task : (fifoSlip p e i k s).task = s.task := (fifoSlip_mail p e i k s).task
@[simp] theorem fifoSlip_dma : (fifoSlip p e i k s).dma = s.dma := (fifoSlip_mail p e i k s).dma
@[simp] theorem fifoSlip_eth : (fifoSlip p e i k s).eth = s.eth := (fifoSlip_mail p e i k s).eth
@[simp] theorem fifoSlip_wlan : (fifoSlip p e i k s).wlan = s.wlan := (fifoSlip_mail p e i k s).wlan
@[simp] theorem fifoSlip_pon : (fifoSlip p e i k s).pon = s.pon := (fifoSlip_mail p e i k s).pon
@[simp] theorem fifoSlip_cvn : (fifoSlip p e i k s).cvn = s.cvn := (fifoSlip_mail p e i k s).cvn
@[simp] theorem fifoSlip_free : (fifoSlip p e i k s).free = s.free := (fifoSlip_mail p e i k s).free
@[simp] theorem fifoSlip_pending : (fifoSlip p e i k s).pending = s.pending := (fifoSlip_mail p e i k s).pending
end

section
variable (p : ParamDef) (i : Nat) (e : EvDef) (n d : Nat) (s : State)
@[simp] theorem warnOnce_flash : (warnOnce p i e n d s).flash = s.flash := (warnOnce_mail p i e n d s).flash
@[simp] theorem warnOnce_sec : (warnOnce p i e n d s).sec = s.sec := (warnOnce_mail p i e n d s).sec
@[simp] theorem warnOnce_time : (warnOnce p i e n d s).time = s.time := (warnOnce_mail p i e n d s).time
@[simp] theorem warnOnce_boot : (warnOnce p i e n d s).boot = s.boot := (warnOnce_mail p i e n d s).boot
@[simp] theorem warnOnce_fw : (warnOnce p i e n d s).fw = s.fw := (warnOnce_mail p i e n d s).fw
@[simp] theorem warnOnce_recast : (warnOnce p i e n d s).recast = s.recast := (warnOnce_mail p i e n d s).recast
@[simp] theorem warnOnce_power : (warnOnce p i e n d s).power = s.power := (warnOnce_mail p i e n d s).power
@[simp] theorem warnOnce_jtag : (warnOnce p i e n d s).jtag = s.jtag := (warnOnce_mail p i e n d s).jtag
@[simp] theorem warnOnce_gpio : (warnOnce p i e n d s).gpio = s.gpio := (warnOnce_mail p i e n d s).gpio
@[simp] theorem warnOnce_radio : (warnOnce p i e n d s).radio = s.radio := (warnOnce_mail p i e n d s).radio
@[simp] theorem warnOnce_beam : (warnOnce p i e n d s).beam = s.beam := (warnOnce_mail p i e n d s).beam
@[simp] theorem warnOnce_pkt : (warnOnce p i e n d s).pkt = s.pkt := (warnOnce_mail p i e n d s).pkt
@[simp] theorem warnOnce_toll : (warnOnce p i e n d s).toll = s.toll := (warnOnce_mail p i e n d s).toll
@[simp] theorem warnOnce_task : (warnOnce p i e n d s).task = s.task := (warnOnce_mail p i e n d s).task
@[simp] theorem warnOnce_dma : (warnOnce p i e n d s).dma = s.dma := (warnOnce_mail p i e n d s).dma
@[simp] theorem warnOnce_eth : (warnOnce p i e n d s).eth = s.eth := (warnOnce_mail p i e n d s).eth
@[simp] theorem warnOnce_wlan : (warnOnce p i e n d s).wlan = s.wlan := (warnOnce_mail p i e n d s).wlan
@[simp] theorem warnOnce_pon : (warnOnce p i e n d s).pon = s.pon := (warnOnce_mail p i e n d s).pon
@[simp] theorem warnOnce_cvn : (warnOnce p i e n d s).cvn = s.cvn := (warnOnce_mail p i e n d s).cvn
@[simp] theorem warnOnce_free : (warnOnce p i e n d s).free = s.free := (warnOnce_mail p i e n d s).free
@[simp] theorem warnOnce_pending : (warnOnce p i e n d s).pending = s.pending := (warnOnce_mail p i e n d s).pending
end

section
variable (c : Ctl) (s : State)
@[simp] theorem queueControl_flash : (queueControl c s).flash = s.flash := (queueControl_mail c s).flash
@[simp] theorem queueControl_sec : (queueControl c s).sec = s.sec := (queueControl_mail c s).sec
@[simp] theorem queueControl_time : (queueControl c s).time = s.time := (queueControl_mail c s).time
@[simp] theorem queueControl_boot : (queueControl c s).boot = s.boot := (queueControl_mail c s).boot
@[simp] theorem queueControl_fw : (queueControl c s).fw = s.fw := (queueControl_mail c s).fw
@[simp] theorem queueControl_recast : (queueControl c s).recast = s.recast := (queueControl_mail c s).recast
@[simp] theorem queueControl_power : (queueControl c s).power = s.power := (queueControl_mail c s).power
@[simp] theorem queueControl_jtag : (queueControl c s).jtag = s.jtag := (queueControl_mail c s).jtag
@[simp] theorem queueControl_gpio : (queueControl c s).gpio = s.gpio := (queueControl_mail c s).gpio
@[simp] theorem queueControl_radio : (queueControl c s).radio = s.radio := (queueControl_mail c s).radio
@[simp] theorem queueControl_beam : (queueControl c s).beam = s.beam := (queueControl_mail c s).beam
@[simp] theorem queueControl_pkt : (queueControl c s).pkt = s.pkt := (queueControl_mail c s).pkt
@[simp] theorem queueControl_toll : (queueControl c s).toll = s.toll := (queueControl_mail c s).toll
@[simp] theorem queueControl_task : (queueControl c s).task = s.task := (queueControl_mail c s).task
@[simp] theorem queueControl_dma : (queueControl c s).dma = s.dma := (queueControl_mail c s).dma
@[simp] theorem queueControl_eth : (queueControl c s).eth = s.eth := (queueControl_mail c s).eth
@[simp] theorem queueControl_wlan : (queueControl c s).wlan = s.wlan := (queueControl_mail c s).wlan
@[simp] theorem queueControl_pon : (queueControl c s).pon = s.pon := (queueControl_mail c s).pon
@[simp] theorem queueControl_cvn : (queueControl c s).cvn = s.cvn := (queueControl_mail c s).cvn
@[simp] theorem queueControl_free : (queueControl c s).free = s.free := (queueControl_mail c s).free
@[simp] theorem queueControl_pending : (queueControl c s).pending = s.pending := (queueControl_mail c s).pending
end

section
variable (a b c d : Nat) (s : State)
@[simp] theorem reportVersion_flash : (reportVersion a b c d s).flash = s.flash := (reportVersion_mail a b c d s).flash
@[simp] theorem reportVersion_sec : (reportVersion a b c d s).sec = s.sec := (reportVersion_mail a b c d s).sec
@[simp] theorem reportVersion_time : (reportVersion a b c d s).time = s.time := (reportVersion_mail a b c d s).time
@[simp] theorem reportVersion_boot : (reportVersion a b c d s).boot = s.boot := (reportVersion_mail a b c d s).boot
@[simp] theorem reportVersion_fw : (reportVersion a b c d s).fw = s.fw := (reportVersion_mail a b c d s).fw
@[simp] theorem reportVersion_recast : (reportVersion a b c d s).recast = s.recast := (reportVersion_mail a b c d s).recast
@[simp] theorem reportVersion_power : (reportVersion a b c d s).power = s.power := (reportVersion_mail a b c d s).power
@[simp] theorem reportVersion_jtag : (reportVersion a b c d s).jtag = s.jtag := (reportVersion_mail a b c d s).jtag
@[simp] theorem reportVersion_gpio : (reportVersion a b c d s).gpio = s.gpio := (reportVersion_mail a b c d s).gpio
@[simp] theorem reportVersion_radio : (reportVersion a b c d s).radio = s.radio := (reportVersion_mail a b c d s).radio
@[simp] theorem reportVersion_beam : (reportVersion a b c d s).beam = s.beam := (reportVersion_mail a b c d s).beam
@[simp] theorem reportVersion_pkt : (reportVersion a b c d s).pkt = s.pkt := (reportVersion_mail a b c d s).pkt
@[simp] theorem reportVersion_toll : (reportVersion a b c d s).toll = s.toll := (reportVersion_mail a b c d s).toll
@[simp] theorem reportVersion_task : (reportVersion a b c d s).task = s.task := (reportVersion_mail a b c d s).task
@[simp] theorem reportVersion_dma : (reportVersion a b c d s).dma = s.dma := (reportVersion_mail a b c d s).dma
@[simp] theorem reportVersion_eth : (reportVersion a b c d s).eth = s.eth := (reportVersion_mail a b c d s).eth
@[simp] theorem reportVersion_wlan : (reportVersion a b c d s).wlan = s.wlan := (reportVersion_mail a b c d s).wlan
@[simp] theorem reportVersion_pon : (reportVersion a b c d s).pon = s.pon := (reportVersion_mail a b c d s).pon
@[simp] theorem reportVersion_cvn : (reportVersion a b c d s).cvn = s.cvn := (reportVersion_mail a b c d s).cvn
@[simp] theorem reportVersion_free : (reportVersion a b c d s).free = s.free := (reportVersion_mail a b c d s).free
@[simp] theorem reportVersion_pending : (reportVersion a b c d s).pending = s.pending := (reportVersion_mail a b c d s).pending
end

section
variable (c : Nat) (st : Status) (b : List Byte) (s : State)
@[simp] theorem finish_flash : (finish c st b s).flash = s.flash := (finish_mail c st b s).flash
@[simp] theorem finish_sec : (finish c st b s).sec = s.sec := (finish_mail c st b s).sec
@[simp] theorem finish_time : (finish c st b s).time = s.time := (finish_mail c st b s).time
@[simp] theorem finish_boot : (finish c st b s).boot = s.boot := (finish_mail c st b s).boot
@[simp] theorem finish_fw : (finish c st b s).fw = s.fw := (finish_mail c st b s).fw
@[simp] theorem finish_recast : (finish c st b s).recast = s.recast := (finish_mail c st b s).recast
@[simp] theorem finish_power : (finish c st b s).power = s.power := (finish_mail c st b s).power
@[simp] theorem finish_jtag : (finish c st b s).jtag = s.jtag := (finish_mail c st b s).jtag
@[simp] theorem finish_gpio : (finish c st b s).gpio = s.gpio := (finish_mail c st b s).gpio
@[simp] theorem finish_radio : (finish c st b s).radio = s.radio := (finish_mail c st b s).radio
@[simp] theorem finish_beam : (finish c st b s).beam = s.beam := (finish_mail c st b s).beam
@[simp] theorem finish_pkt : (finish c st b s).pkt = s.pkt := (finish_mail c st b s).pkt
@[simp] theorem finish_toll : (finish c st b s).toll = s.toll := (finish_mail c st b s).toll
@[simp] theorem finish_task : (finish c st b s).task = s.task := (finish_mail c st b s).task
@[simp] theorem finish_dma : (finish c st b s).dma = s.dma := (finish_mail c st b s).dma
@[simp] theorem finish_eth : (finish c st b s).eth = s.eth := (finish_mail c st b s).eth
@[simp] theorem finish_wlan : (finish c st b s).wlan = s.wlan := (finish_mail c st b s).wlan
@[simp] theorem finish_pon : (finish c st b s).pon = s.pon := (finish_mail c st b s).pon
@[simp] theorem finish_cvn : (finish c st b s).cvn = s.cvn := (finish_mail c st b s).cvn
@[simp] theorem finish_free : (finish c st b s).free = s.free := (finish_mail c st b s).free
@[simp] theorem finish_pending : (finish c st b s).pending = s.pending := (finish_mail c st b s).pending
end

section
variable (c : Option Nat) (st : Status) (b : List Byte) (s : State)
@[simp] theorem finishOpt_flash : (finish? c st b s).flash = s.flash := (finishOpt_mail c st b s).flash
@[simp] theorem finishOpt_sec : (finish? c st b s).sec = s.sec := (finishOpt_mail c st b s).sec
@[simp] theorem finishOpt_time : (finish? c st b s).time = s.time := (finishOpt_mail c st b s).time
@[simp] theorem finishOpt_boot : (finish? c st b s).boot = s.boot := (finishOpt_mail c st b s).boot
@[simp] theorem finishOpt_fw : (finish? c st b s).fw = s.fw := (finishOpt_mail c st b s).fw
@[simp] theorem finishOpt_recast : (finish? c st b s).recast = s.recast := (finishOpt_mail c st b s).recast
@[simp] theorem finishOpt_power : (finish? c st b s).power = s.power := (finishOpt_mail c st b s).power
@[simp] theorem finishOpt_jtag : (finish? c st b s).jtag = s.jtag := (finishOpt_mail c st b s).jtag
@[simp] theorem finishOpt_gpio : (finish? c st b s).gpio = s.gpio := (finishOpt_mail c st b s).gpio
@[simp] theorem finishOpt_radio : (finish? c st b s).radio = s.radio := (finishOpt_mail c st b s).radio
@[simp] theorem finishOpt_beam : (finish? c st b s).beam = s.beam := (finishOpt_mail c st b s).beam
@[simp] theorem finishOpt_pkt : (finish? c st b s).pkt = s.pkt := (finishOpt_mail c st b s).pkt
@[simp] theorem finishOpt_toll : (finish? c st b s).toll = s.toll := (finishOpt_mail c st b s).toll
@[simp] theorem finishOpt_task : (finish? c st b s).task = s.task := (finishOpt_mail c st b s).task
@[simp] theorem finishOpt_dma : (finish? c st b s).dma = s.dma := (finishOpt_mail c st b s).dma
@[simp] theorem finishOpt_eth : (finish? c st b s).eth = s.eth := (finishOpt_mail c st b s).eth
@[simp] theorem finishOpt_wlan : (finish? c st b s).wlan = s.wlan := (finishOpt_mail c st b s).wlan
@[simp] theorem finishOpt_pon : (finish? c st b s).pon = s.pon := (finishOpt_mail c st b s).pon
@[simp] theorem finishOpt_cvn : (finish? c st b s).cvn = s.cvn := (finishOpt_mail c st b s).cvn
@[simp] theorem finishOpt_free : (finish? c st b s).free = s.free := (finishOpt_mail c st b s).free
@[simp] theorem finishOpt_pending : (finish? c st b s).pending = s.pending := (finishOpt_mail c st b s).pending
end

/-! ### Time and free values -/

@[simp] theorem raise_now (e : EvDef) (i d : Nat) (s : State) : (raise e i d s).now = s.now := by simp [State.now, State.tbNs]

@[simp] theorem bump_now (p : ParamDef) (i : Nat) (s : State) : (bump p i s).now = s.now := rfl

/-- A counter reads one more afterwards, up to its width (R28). -/
theorem com_setPar (s : State) (p : ParamDef) (i : Nat) (v : Int) : (s.setPar p i v).com p i = v := by
  unfold State.com State.setPar parPut
  simp only [Tab.get_put_same]
  split
  · rename_i h; simp [h]
  · rfl

theorem com_setPar_ne (s : State) (p q : ParamDef) (i j : Nat) (v : Int) (h : parKey p.id i ≠ parKey q.id j) :
    (s.setPar p i v).com q j = s.com q j := by
  unfold State.com State.setPar parPut
  simp only [Tab.get_put_ne _ _ _ _ h]

theorem com_bump (p : ParamDef) (i : Nat) (s : State) :
    (bump p i s).com p i = (satAdd p.width (s.com p i).toNat 1 : Nat) := com_setPar s p i _

/-- A free value stays below its bound, and only the counter of free values moves. -/
theorem drawBelow_lt (m : Nat) (s : State) (h : 0 < m) : (drawBelow m s).1 < m := Nat.mod_lt _ h

theorem drawBelow_state (m : Nat) (s : State) : (drawBelow m s).2 = { s with free := s.free + 1 } := rfl

/-- Delivery stops when no armed window is left. -/
theorem deliver_unarmed (n : Nat) (s : State) (h : s.mbx.armed = []) : deliver n s = s := by
  cases n with
  | zero => rfl
  | succ n => simp [deliver, deliverOne, h]

theorem pump_unarmed (s : State) (h : s.mbx.armed = []) : pump s = s := deliver_unarmed 8 s h

end Sys2Proof.Machine
end

