-- ==== Sys2Proof/Laws/Mailbox.lean ====
section
/-!
SUPPORT. The mailbox: what handing a window back, answering and refusing do to the windows, and how a message reads back.
-/
namespace Sys2Proof.Machine

section
variable (w : Nat) (r : HandBack) (s : State)

@[simp] theorem sendVector_mbx (v : Nat) : (sendVector v s).mbx = s.mbx := by
  unfold sendVector
  split
  · split <;> rfl
  · rfl
@[simp] theorem sendVector_cfg (v : Nat) : (sendVector v s).cfg = s.cfg := by
  unfold sendVector
  split
  · split <;> rfl
  · rfl
@[simp] theorem sendVector_evt (v : Nat) : (sendVector v s).evt = s.evt := by
  unfold sendVector
  split
  · split <;> rfl
  · rfl
@[simp] theorem sendVector_mgmt (v : Nat) : (sendVector v s).mgmt = s.mgmt := by
  unfold sendVector
  split
  · split <;> rfl
  · rfl
/-- With MSI-X disabled no vector is sent or held. -/
theorem sendVector_disabled (v : Nat) (h : s.host.msixEnabled = false) : sendVector v s = s := by simp [sendVector, h]

@[simp] theorem sendVector_win (v u : Nat) : (sendVector v s).win u = s.win u := by simp [State.win]

@[simp] theorem bump_mbx (p : ParamDef) (i : Nat) : (bump p i s).mbx = s.mbx := rfl
@[simp] theorem bump_evt (p : ParamDef) (i : Nat) : (bump p i s).evt = s.evt := rfl
@[simp] theorem bump_host (p : ParamDef) (i : Nat) : (bump p i s).host = s.host := rfl
@[simp] theorem bump_mgmt (p : ParamDef) (i : Nat) : (bump p i s).mgmt = s.mgmt := rfl

theorem handBack_mbx : (handBack w r s).mbx = { s.mbx with
    armed := s.mbx.armed.filter (· != w)
    win := s.mbx.win.put w { s.win w with hold := .host, handback := r, seq := ((s.win w).seq + 1) % 256 } } := by
  simp [handBack, State.setWin, State.win]

@[simp] theorem handBack_cfg : (handBack w r s).cfg = s.cfg := by simp [handBack, State.setWin]
@[simp] theorem handBack_evt : (handBack w r s).evt = s.evt := by simp [handBack, State.setWin]
@[simp] theorem handBack_mgmt : (handBack w r s).mgmt = s.mgmt := by simp [handBack, State.setWin]

/-- What handing a window back does to each window (R41, R42). -/
theorem handBack_win (v : Nat) : (handBack w r s).win v =
    if w = v then { s.win w with hold := .host, handback := r, seq := ((s.win w).seq + 1) % 256 } else s.win v := by
  simp only [State.win, handBack_mbx, Tab.get_put]

theorem setWin_win (x : Window) (v : Nat) : (s.setWin w x).win v = if w = v then x else s.win v := by
  simp only [State.win, State.setWin, Tab.get_put]

@[simp] theorem setWin_win_same (x : Window) : (s.setWin w x).win w = x := by simp [setWin_win]

theorem putMessage_win (b : List Byte) (v : Nat) : (putMessage w b s).win v =
    if w = v then { s.win w with bytes := writeBytes (s.win w).bytes 0 b } else s.win v := by
  simp only [putMessage, setWin_win]

end

/-! ### Byte memories -/

theorem get_writeBytes (m : Tab Byte) (o : Nat) (b : List Byte) (a : Nat) :
    (writeBytes m o b).get a = if o ≤ a ∧ a < o + b.length then b.getD (a - o) 0 else m.get a := by
  induction b generalizing m o with
  | nil => simp [writeBytes]
  | cons x t ih =>
    simp only [writeBytes, ih, List.length_cons, Tab.get_put]
    by_cases h : o = a
    · subst h; simp
    · by_cases h1 : o + 1 ≤ a ∧ a < o + 1 + t.length
      · have h2 : o ≤ a ∧ a < o + (t.length + 1) := by omega
        rw [if_pos h1, if_pos h2]
        obtain ⟨k, rfl⟩ : ∃ k, a = o + 1 + k := ⟨a - (o + 1), by omega⟩
        simp [show o + 1 + k - (o + 1) = k by omega, show o + 1 + k - o = k + 1 by omega]
      · have h2 : ¬(o ≤ a ∧ a < o + (t.length + 1)) := by omega
        rw [if_neg h1, if_neg h2, if_neg h]

theorem readBytes_length (m : Tab Byte) (o k : Nat) : (readBytes m o k).length = k := by simp [readBytes]

/-- A string written at 0 stands at the front of what reads back. -/
theorem readBytes_writeBytes (m : Tab Byte) (b : List Byte) (k : Nat) (h : b.length ≤ k) :
    readBytes (writeBytes m 0 b) 0 k = b ++ readBytes m b.length (k - b.length) := by
  apply List.ext_getElem
  · simp [readBytes]; omega
  · intro i h1 h2
    simp only [readBytes, List.getElem_map, List.getElem_range, get_writeBytes, Nat.zero_add, List.getElem_append]
    by_cases hi : i < b.length
    · simp [hi]
    · simp [hi, show b.length + (i - b.length) = i by omega]

theorem writeBytes_wf (m : Tab Byte) (o : Nat) (b : List Byte) (h : Tab.wf m = true) : Tab.wf (writeBytes m o b) = true := by
  induction b generalizing m o with
  | nil => exact h
  | cons x t ih => exact ih _ _ (Tab.wf_put m o x h)

/-! ### Fields of a message -/

theorem bytesAt_append_left (a b : List Byte) (o k : Nat) (h : o + k ≤ a.length) : bytesAt (a ++ b) o k = bytesAt a o k := by
  have : (a ++ b).drop o = a.drop o ++ b := List.drop_append_of_le_length (by omega)
  simp only [bytesAt, this]
  rw [List.take_append_of_le_length (by simp; omega)]

theorem fieldAt_append_left (a b : List Byte) (o k : Nat) (h : o + k ≤ a.length) : fieldAt (a ++ b) o k = fieldAt a o k := by
  simp only [fieldAt, bytesAt_append_left a b o k h]

theorem bytesAt_append_right (a b : List Byte) (o k : Nat) (h : a.length ≤ o) : bytesAt (a ++ b) o k = bytesAt b (o - a.length) k := by
  have : (a ++ b).drop o = b.drop (o - a.length) := by
    rw [List.drop_append, List.drop_eq_nil_of_le h, List.nil_append]
  simp only [bytesAt, this]

theorem fieldAt_append_right (a b : List Byte) (o k : Nat) (h : a.length ≤ o) : fieldAt (a ++ b) o k = fieldAt b (o - a.length) k := by
  simp only [fieldAt, bytesAt_append_right a b o k h]

theorem bytesAt_all (a : List Byte) : bytesAt a 0 a.length = a := by simp [bytesAt]

/-- The first field of a string that begins with it. -/
theorem fieldAt_le (k v : Nat) (b : List Byte) : fieldAt (le k v ++ b) 0 k = v % 256 ^ k := by
  have h := fieldAt_append_left (le k v) b 0 k (by simp)
  have e := bytesAt_all (le k v)
  rw [length_le] at e
  rw [h, fieldAt, e, leNat_le]

/-- A field behind one that is skipped. -/
theorem fieldAt_skip (n v : Nat) (b : List Byte) (o k : Nat) (h : n ≤ o) : fieldAt (le n v ++ b) o k = fieldAt b (o - n) k := by
  rw [fieldAt_append_right _ _ _ _ (by simpa using h), length_le]

theorem fieldAt_le_self (k v : Nat) : fieldAt (le k v) 0 k = v % 256 ^ k := by
  have := fieldAt_le k v []
  simpa using this

@[simp] theorem header_length (ma mi op tag len st ep : Nat) : (header ma mi op tag len st ep).length = 16 := by simp [header]

section
variable (ma mi op tag len st ep : Nat) (b : List Byte)

theorem header_major : fieldAt (header ma mi op tag len st ep ++ b) 0 1 = ma % 256 := by
  simp only [header, List.append_assoc, fieldAt_le]; rfl
theorem header_minor : fieldAt (header ma mi op tag len st ep ++ b) 1 1 = mi % 256 := by
  simp only [header, List.append_assoc]
  rw [fieldAt_append_right _ _ _ _ (by simp)]; simp only [length_le]; exact fieldAt_le _ _ _
theorem header_opcode : fieldAt (header ma mi op tag len st ep ++ b) 2 2 = op % 65536 := by
  simp only [header, List.append_assoc]
  iterate 2 rw [fieldAt_append_right _ _ _ _ (by simp)]
  simp only [length_le]; exact fieldAt_le _ _ _
theorem header_tag : fieldAt (header ma mi op tag len st ep ++ b) 4 4 = tag % 2 ^ 32 := by
  simp only [header, List.append_assoc]
  iterate 3 rw [fieldAt_append_right _ _ _ _ (by simp)]
  simp only [length_le]; exact fieldAt_le _ _ _
theorem header_len : fieldAt (header ma mi op tag len st ep ++ b) 8 2 = len % 65536 := by
  simp only [header, List.append_assoc]
  iterate 4 rw [fieldAt_append_right _ _ _ _ (by simp)]
  simp only [length_le]; exact fieldAt_le _ _ _
theorem header_status : fieldAt (header ma mi op tag len st ep ++ b) 10 2 = st % 65536 := by
  simp only [header, List.append_assoc]
  iterate 5 rw [fieldAt_append_right _ _ _ _ (by simp)]
  simp only [length_le]; exact fieldAt_le _ _ _
theorem header_epoch : fieldAt (header ma mi op tag len st ep ++ b) 12 4 = ep % 2 ^ 32 := by
  simp only [header, List.append_assoc]
  iterate 6 rw [fieldAt_append_right _ _ _ _ (by simp)]
  simp only [length_le]; exact fieldAt_le _ _ _

end

end Sys2Proof.Machine
end

