-- ==== Sys2Proof/Laws/Command.lean ====
section
/-!
SUPPORT. What a command in a window does: it is processed in the state in which it stands, and its response comes back.
-/
namespace Sys2Proof.Machine

/-- The command that a posted message becomes (R48). -/
def postedCommand (op w : Nat) (m : Message) (s : State) : Outstanding :=
  { cid := s.mbx.nextCid, tag := m.tag, opcode := op, window := w, ver := s.version }

/-- The state in which a posted message is processed: it stands in its window, and its command is outstanding. -/
def postedState (op w : Nat) (m : Message) (s : State) : State :=
  let s' := writeWindow w 0 (messageBytes op m) s
  State.setWin { s' with mbx := { s'.mbx with nextCid := s.mbx.nextCid + 1, outstanding := s.mbx.outstanding ++ [postedCommand op w m s] } } w
    { s'.win w with hold := .command s.mbx.nextCid }

theorem sendMessage_runs (op w : Nat) (m : Message) (s : State) (h : Sendable op w m s) (hop : op < 65536) :
    sendMessage w op m s =
      pump (concludeCommand (postedCommand op w m s) (runOpcode op s.mbx.nextCid m.payload (postedState op w m s)) (postedState op w m s)) := by
  have hw : m.major < 256 ∧ m.minor < 256 ∧ m.tag < 2 ^ 32 ∧ m.length < 65536 ∧ m.status < 65536 ∧ m.epoch < 2 ^ 32 ∧ m.payload.length ≤ 4080 := by
    have := h.fields; simp [Message.wf] at this; omega
  obtain ⟨w1, w2, w3, w4, w5, w6, w7⟩ := hw
  have own : s.owns w = false := by simp [State.owns, h.owned]
  have len : (messageBytes op m).length = 16 + m.payload.length := by simp [messageBytes]
  set s' := writeWindow w 0 (messageBytes op m) s with hs'
  have e1 : s' = s.setWin w { s.win w with bytes := writeBytes (s.win w).bytes 0 (messageBytes op m) } := by
    rw [hs']; simp only [writeWindow, own, Bool.false_eq_true, if_false]
    rw [List.take_of_length_le (by omega)]
  have hwin : s'.win w = { s.win w with bytes := writeBytes (s.win w).bytes 0 (messageBytes op m) } := by
    rw [e1, setWin_win, if_pos rfl]
  have hmbx : s'.mbx = { s.mbx with win := s'.mbx.win } := by rw [e1]; rfl
  have k1 : s'.mbx.session = s.mbx.session := by rw [hmbx]
  have k2 : s'.mbx.epoch = s.mbx.epoch := by rw [hmbx]
  have k3 : s'.mbx.nextCid = s.mbx.nextCid := by rw [hmbx]
  have k4 : s'.mbx.outstanding = s.mbx.outstanding := by rw [hmbx]
  clear hmbx
  have hboot : s'.boot = s.boot := by rw [e1]; rfl
  have own' : s'.owns w = false := by simp [State.owns, hwin, h.owned]
  have push' : s'.pushServed = false := by
    have := h.ready
    simp only [State.ready, Bool.or_eq_true, decide_eq_true_eq] at this
    simp only [State.pushServed, hboot]
    rcases this with k | k <;> simp [k]
  have rdy : s'.ready = true := by rw [← h.ready]; simp [State.ready, hboot]
  have e2 : sendMessage w op m s = runCommand w s' := by
    simp only [sendMessage, h.up, h.window, decide_true, Bool.and_self, if_true, ← hs', postWindow, own', push', rdy]
    simp
  rw [e2]
  have hb : readBytes (s'.win w).bytes 0 4096 = messageBytes op m ++ readBytes (s.win w).bytes (16 + m.payload.length) (4096 - (16 + m.payload.length)) := by
    rw [hwin]
    have := readBytes_writeBytes (s.win w).bytes (messageBytes op m) 4096 (by omega)
    rw [len] at this
    simpa using this
  set rest := readBytes (s.win w).bytes (16 + m.payload.length) (4096 - (16 + m.payload.length))
  have hh : cmdHead (messageBytes op m ++ rest) =
      { major := m.major, minor := m.minor, op := op, tag := m.tag, len := m.payload.length, status := 0, epoch := m.epoch } := by
    simp only [cmdHead, messageBytes, List.append_assoc, header_major, header_minor, header_opcode, header_tag, header_len,
      header_status, header_epoch, CmdHead.mk.injEq]
    rw [h.status, h.length]
    refine ⟨?_, ?_, ?_, ?_, ?_, ?_, ?_⟩ <;> omega
  have hp : ((messageBytes op m ++ rest).drop 16).take m.payload.length = m.payload := by
    simp [messageBytes, List.append_assoc, header_length]
  have hc : checkCommand (cmdHead (messageBytes op m ++ rest)) s' = none := by
    rw [hh]
    have a1 : ¬ (4080 < m.payload.length ∨ (0 : Nat) ≠ 0) := by omega
    have a2 : (s.mbx.outstanding.any fun o => o.tag == m.tag) = false := by
      rw [List.any_eq_false]; intro o ho; have := (h.fresh o ho).1; simpa using this
    have a3 : lengthOk op m.payload.length = true := by rw [← h.length]; exact h.fits
    have a4 : s'.compat = s.compat := by simp only [State.compat, k1]
    simp only [checkCommand, k1, k2, k4, a1, a2, a3, a4, if_false, h.tag, Bool.not_true, Bool.false_eq_true]
    by_cases o1 : op = 1
    · simp [o1]
    · have b1 := h.session.resolve_left o1
      have b2 := h.opcode.resolve_left o1
      have b3 := h.epoch.resolve_left o1
      simp [o1, b1, b3]
      rw [b1] at b2; exact b2
  have ver : s'.version = s.version := by simp only [State.version, k1]
  have st : runCommand w s' = pump (concludeCommand (postedCommand op w m s)
      (runOpcode op s.mbx.nextCid m.payload (postedState op w m s)) (postedState op w m s)) := by
    have hpost : postedState op w m s = State.setWin { s' with mbx := { s'.mbx with
        nextCid := s.mbx.nextCid + 1, outstanding := s.mbx.outstanding ++ [postedCommand op w m s] } } w
        { s'.win w with hold := .command s.mbx.nextCid } := rfl
    clear hs' e1 hwin
    clear_value rest
    clear_value s'
    have hr : ∀ (b : List Byte), readBytes (s'.win w).bytes 0 4096 = b → checkCommand (cmdHead b) s' = none →
        cmdHead b = { major := m.major, minor := m.minor, op := op, tag := m.tag, len := m.payload.length, status := 0, epoch := m.epoch } →
        (b.drop 16).take m.payload.length = m.payload →
        runCommand w s' = pump (concludeCommand (postedCommand op w m s)
          (runOpcode op s.mbx.nextCid m.payload (postedState op w m s)) (postedState op w m s)) := by
      intro b b1 b2 b3 b4
      unfold runCommand
      rw [b1]
      dsimp only
      rw [b2]
      dsimp only
      rw [b3]
      dsimp only
      rw [b4, ver, k3, k4, hpost]
      rfl
    exact hr _ hb hc hh hp
  exact st

/-- What a final or PENDING response leaves in its window. -/
theorem respond_response (o : Outstanding) (m : Message) (st : Status) (b : List Byte) (s : State) (hop : o.opcode < 65536)
    (ht : o.tag = m.tag) (htag : m.tag < 2 ^ 32) (hb : b.length ≤ 4080) (hv : o.ver.1 ≠ 2 ∨ st.code ≤ 7) :
    Response o.opcode o.window m st b (respond o st b s) := by
  have hr : reported o.ver st = st.code := by
    simp only [reported]; rw [if_neg]; omega
  have hc : st.code < 65536 := by cases st <;> decide
  have hm : ∃ rest, (respond o st b s).message o.window =
      header o.ver.1 o.ver.2 o.opcode o.tag b.length st.code s.mbx.epoch ++ (b ++ rest) := by
    refine ⟨?_, ?_⟩
    rotate_left
    · simp only [State.message, respond, handBack_win, if_pos, hr]
      simp only [State.win, State.setPar, putMessage, State.setWin, Tab.get_put, if_pos]
      rw [readBytes_writeBytes _ _ _ (by simp; omega), List.append_assoc]
  obtain ⟨rest, hm⟩ := hm
  have hw : (respond o st b s).win o.window = { (respond o st b s).win o.window with hold := .host, handback := .response } := by
    simp only [respond, handBack_win, if_pos]
  refine ⟨by rw [hw], by rw [hw], ?_, ?_, ?_, ?_, ?_⟩
  · rw [hm, header_opcode]; omega
  · rw [hm, header_tag, ht]; omega
  · rw [hm, header_status]; omega
  · rw [hm, header_len]; omega
  · rw [hm]; simp [header_length]

section
variable (op w : Nat) (m : Message) (s : State)

/-- What processing a posted message starts from: only the mailbox differs. -/
theorem postedState_eq (h : (s.win w).hold = .host) : postedState op w m s = { s with mbx := (postedState op w m s).mbx } := by
  have own : s.owns w = false := by simp [State.owns, h]
  simp only [postedState, writeWindow, own]; rfl

theorem postedState_mbx (h : (s.win w).hold = .host) : (postedState op w m s).mbx = { s.mbx with
    win := (postedState op w m s).mbx.win, nextCid := s.mbx.nextCid + 1, outstanding := s.mbx.outstanding ++ [postedCommand op w m s] } := by
  have own : s.owns w = false := by simp [State.owns, h]
  simp only [postedState, writeWindow, own]; rfl

theorem postedState_command (h : Sendable op w m s) : (postedState op w m s).command? s.mbx.nextCid = some (postedCommand op w m s) := by
  have e := postedState_mbx op w m s h.owned
  simp only [State.command?]
  rw [e]
  simp only [List.find?_append]
  have : s.mbx.outstanding.find? (fun o => o.cid == s.mbx.nextCid) = none := by
    rw [List.find?_eq_none]; intro o ho; have := (h.fresh o ho).2; simp; omega
  simp [this, postedCommand]
end

/-- A command that ends at once: its response, and the state that its processing left. -/
theorem sendMessage_ends (op w : Nat) (m : Message) (s : State) (r : Reply) (h : Sendable op w m s) (hop : op < 65536)
    (hr : runOpcode op s.mbx.nextCid m.payload (postedState op w m s) = r) (hst : r.st ≠ .pending)
    (hf : r.s.command? s.mbx.nextCid = some (postedCommand op w m s)) (ha : r.s.mbx.armed = []) (haf : r.after = id)
    (hb : r.body.length ≤ 4080) (hv : (r.ver.getD s.version).1 ≠ 2 ∨ r.st.code ≤ 7) :
    sendMessage w op m s = answer { postedCommand op w m s with ver := r.ver.getD s.version } r.st r.body r.s ∧
      Response op w m r.st r.body (sendMessage w op m s) := by
  have e : sendMessage w op m s = answer { postedCommand op w m s with ver := r.ver.getD s.version } r.st r.body r.s := by
    rw [sendMessage_runs op w m s h hop, hr]
    have hc : concludeCommand (postedCommand op w m s) r (postedState op w m s) =
        answer { postedCommand op w m s with ver := r.ver.getD s.version } r.st r.body r.s := by
      simp only [concludeCommand, hst, if_false, haf]
      have : (postedCommand op w m s).cid = s.mbx.nextCid := rfl
      rw [this, hf]; rfl
    rw [hc]
    apply pump_unarmed
    simp [answer, respond, handBack_mbx, State.setPar, putMessage, State.setWin, ha]
  have hw : m.tag < 2 ^ 32 := by have := h.fields; simp [Message.wf] at this; omega
  refine ⟨e, ?_⟩
  rw [e]
  exact respond_response { postedCommand op w m s with ver := r.ver.getD s.version } m _ _ _ hop rfl hw hb hv


/-- A command that goes on after its response: PENDING, and its command is marked as pending. -/
theorem sendMessage_pends (op w : Nat) (m : Message) (s : State) (r : Reply) (h : Sendable op w m s) (hop : op < 65536)
    (hr : runOpcode op s.mbx.nextCid m.payload (postedState op w m s) = r) (hst : r.st = .pending) (hh : r.hold = false)
    (hc : s.compat = false) (hn : s.pendingCount < 64) (haf : r.after = id) (ha : r.s.mbx.armed = [])
    (hb : r.body.length ≤ 4080) :
    sendMessage w op m s = respond (postedCommand op w m s) .pending r.body { r.s with mbx := { r.s.mbx with
        outstanding := r.s.mbx.outstanding.map fun x => if x.cid = s.mbx.nextCid then { x with pending := true } else x } } ∧
      Response op w m .pending r.body (sendMessage w op m s) := by
  have hm : (postedState op w m s).mbx = { s.mbx with
      win := (postedState op w m s).mbx.win, nextCid := s.mbx.nextCid + 1, outstanding := s.mbx.outstanding ++ [postedCommand op w m s] } := by
    have own : s.owns w = false := by simp [State.owns, h.owned]
    simp only [postedState, writeWindow, own]; rfl
  have c1 : (postedState op w m s).compat = false := by
    simp only [State.compat] at hc ⊢; rw [hm]; exact hc
  have c2 : (postedState op w m s).pendingCount = s.pendingCount := by
    simp only [State.pendingCount]; rw [hm]; simp [postedCommand]
  have hver : s.version.1 ≠ 2 := by
    simp only [State.compat] at hc
    simp only [State.version]
    split at hc
    · simp at hc
    · rename_i hne
      intro hv
      rcases hs : s.mbx.session with _ | ⟨a, b⟩
      · rw [hs] at hv; simp at hv
      · rw [hs] at hv; simp at hv; subst hv; exact hne _ hs
  have e : sendMessage w op m s = respond (postedCommand op w m s) .pending r.body { r.s with mbx := { r.s.mbx with
        outstanding := r.s.mbx.outstanding.map fun x => if x.cid = s.mbx.nextCid then { x with pending := true } else x } } := by
    rw [sendMessage_runs op w m s h hop, hr]
    have : concludeCommand (postedCommand op w m s) r (postedState op w m s) =
        respond (postedCommand op w m s) .pending r.body { r.s with mbx := { r.s.mbx with
        outstanding := r.s.mbx.outstanding.map fun x => if x.cid = s.mbx.nextCid then { x with pending := true } else x } } := by
      simp only [concludeCommand, hst, if_true, c1, hh, c2]
      rw [if_neg (by simp), if_neg (by omega), haf]
      rfl
    rw [this]
    apply pump_unarmed
    simp [respond, handBack_mbx, State.setPar, putMessage, State.setWin, ha]
  have hw : m.tag < 2 ^ 32 := by have := h.fields; simp [Message.wf] at this; omega
  refine ⟨e, ?_⟩
  rw [e]
  exact respond_response (postedCommand op w m s) m .pending _ _ hop rfl hw hb (Or.inl hver)

section
variable (o : Outstanding) (st : Status) (b : List Byte) (s : State)
theorem answer_mail : Mail s (answer o st b s) := by
  refine Mail.trans ?_ (respond_mail o st b _)
  constructor <;> rfl
@[simp] theorem answer_session : (answer o st b s).mbx.session = s.mbx.session := by simp [answer, respond, handBack_mbx, putMessage, State.setWin, State.setPar]
@[simp] theorem answer_epoch : (answer o st b s).mbx.epoch = s.mbx.epoch := by simp [answer, respond, handBack_mbx, putMessage, State.setWin, State.setPar]
@[simp] theorem answer_evt : (answer o st b s).evt = s.evt := by
  simp only [answer, respond, handBack]
  simp only [sendVector]; split <;> (try split) <;> rfl
@[simp] theorem answer_cfg : (answer o st b s).cfg = (s.setPar Prm.hostLastStatus o.window st.code).cfg := by
  simp only [answer, respond, handBack]
  simp only [sendVector]; split <;> (try split) <;> rfl
end
end Sys2Proof.Machine
end

