-- ==== Sys2Proof/Laws/Memory.lean ====
section
/-!
SUPPORT. Every memory operation keeps the canonical form, and a byte reads as it was last written.
-/
namespace Sys2Proof.Machine

theorem Memory.write_wf (b : List Byte) (m : Memory) (a : Nat) (h : Memory.wf m = true) : Memory.wf (Memory.write m a b) = true := by
  induction b generalizing m a with
  | nil => exact h
  | cons x t ih => exact ih _ _ (Tab.wf_put m a x h)

theorem Memory.get_write (b : List Byte) (m : Memory) (a c : Nat) :
    Tab.get (Memory.write m a b) c = if a ≤ c ∧ c < a + b.length then b.getD (c - a) 0 else Tab.get (α := Byte) m c := by
  induction b generalizing m a with
  | nil => simp [Memory.write]
  | cons x t ih =>
    simp only [Memory.write, ih, List.length_cons]
    rcases Nat.lt_trichotomy a c with h | h | h
    · obtain ⟨d, rfl⟩ : ∃ d, c = a + 1 + d := ⟨c - a - 1, by omega⟩
      have e : a + 1 + d - a = d + 1 := by omega
      have n : Tab.get (α := Byte) (Tab.put m a x) (a + 1 + d) = Tab.get (α := Byte) m (a + 1 + d) :=
        Tab.get_put_ne m a _ x (by omega)
      simp only [n, e, List.getD_cons_succ, Nat.add_sub_cancel_left]
      congr 1
      simp only [eq_iff_iff]
      omega
    · subst h
      have n : Tab.get (α := Byte) (Tab.put m a x) a = x := Tab.get_put_same m a x
      simp [n]
    · have n : Tab.get (α := Byte) (Tab.put m a x) c = Tab.get (α := Byte) m c := Tab.get_put_ne m a c x (by omega)
      simp only [n]
      rw [if_neg (by omega), if_neg (by omega)]

theorem Memory.read_length (m : Memory) (a k : Nat) : (Memory.read m a k).length = k := by simp [Memory.read]

theorem reset_sram_wf : Memory.wf State.reset.dma.sram = true := rfl

theorem reset_ddr_wf : Memory.wf State.reset.dma.ddr = true := rfl

end Sys2Proof.Machine
end

