-- ==== Sys2Proof/Laws/PerInstr.lean ====
section
/-!
SUPPORT. The per-instruction family Operands: every command of the table has operands that are well-formed, so that no check of
WellFormed.lean shuts a command out.
-/
namespace Sys2Proof.Laws.Operands
open Sys2Proof Sys2Proof.Machine
set_option linter.unusedVariables false

/-- Some command of the same row is well-formed. -/
def Statement (i : Instr) : Prop := ∃ j : Instr, j.wf = true ∧ j.ctorIdx = i.ctorIdx

theorem fundamentalReset (low : Bool) :
    Statement (.fundamentalReset low) := ⟨.fundamentalReset false, rfl, rfl⟩
theorem hotReset : Statement .hotReset := ⟨.hotReset, rfl, rfl⟩
theorem functionLevelReset : Statement .functionLevelReset := ⟨.functionLevelReset, rfl, rfl⟩
theorem hostLinkDown : Statement .hostLinkDown := ⟨.hostLinkDown, rfl, rfl⟩
theorem hostLinkUp (speed : Nat) (width : Nat) :
    Statement (.hostLinkUp speed width) := ⟨.hostLinkUp 80 1, rfl, rfl⟩
theorem msixUnmask (v : Nat) :
    Statement (.msixUnmask v) := ⟨.msixUnmask 0, rfl, rfl⟩
theorem chipReset : Statement .chipReset := ⟨.chipReset, rfl, rfl⟩
theorem recastDev : Statement .recastDev := ⟨.recastDev, rfl, rfl⟩
theorem post (w : Nat) :
    Statement (.post w) := ⟨.post 0, rfl, rfl⟩
theorem arm (w : Nat) :
    Statement (.arm w) := ⟨.arm 0, rfl, rfl⟩
theorem windowRecall (w : Nat) :
    Statement (.windowRecall w) := ⟨.windowRecall 0, rfl, rfl⟩
theorem protoErrClear (w : Nat) :
    Statement (.protoErrClear w) := ⟨.protoErrClear 0, rfl, rfl⟩
theorem rxqDb (n : Nat) (producer : Nat) :
    Statement (.rxqDb n producer) := ⟨.rxqDb 0 0, rfl, rfl⟩
theorem txqDb (n : Nat) (producer : Nat) :
    Statement (.txqDb n producer) := ⟨.txqDb 0 0, rfl, rfl⟩
theorem registerWrite (off : Nat) (b : List Byte) :
    Statement (.registerWrite off b) := ⟨.registerWrite 0 [], rfl, rfl⟩
theorem bootPush (b : List Byte) :
    Statement (.bootPush b) := ⟨.bootPush [], rfl, rfl⟩
theorem hello (w : Nat) (m : Message) :
    Statement (.hello w m) := ⟨.hello 0 default, rfl, rfl⟩
theorem bye (w : Nat) (m : Message) :
    Statement (.bye w m) := ⟨.bye 0 default, rfl, rfl⟩
theorem paramGet (w : Nat) (m : Message) :
    Statement (.paramGet w m) := ⟨.paramGet 0 default, rfl, rfl⟩
theorem paramSet (w : Nat) (m : Message) :
    Statement (.paramSet w m) := ⟨.paramSet 0 default, rfl, rfl⟩
theorem paramCommit (w : Nat) (m : Message) :
    Statement (.paramCommit w m) := ⟨.paramCommit 0 default, rfl, rfl⟩
theorem paramAbort (w : Nat) (m : Message) :
    Statement (.paramAbort w m) := ⟨.paramAbort 0 default, rfl, rfl⟩
theorem tableWrite (w : Nat) (m : Message) :
    Statement (.tableWrite w m) := ⟨.tableWrite 0 default, rfl, rfl⟩
theorem tableRead (w : Nat) (m : Message) :
    Statement (.tableRead w m) := ⟨.tableRead 0 default, rfl, rfl⟩
theorem tableCommit (w : Nat) (m : Message) :
    Statement (.tableCommit w m) := ⟨.tableCommit 0 default, rfl, rfl⟩
theorem keyInstall (w : Nat) (m : Message) (flashOk : Bool) :
    Statement (.keyInstall w m flashOk) := ⟨.keyInstall 0 default false, rfl, rfl⟩
theorem keyRetire (w : Nat) (m : Message) :
    Statement (.keyRetire w m) := ⟨.keyRetire 0 default, rfl, rfl⟩
theorem storeInfo (w : Nat) (m : Message) :
    Statement (.storeInfo w m) := ⟨.storeInfo 0 default, rfl, rfl⟩
theorem storeCreate (w : Nat) (m : Message) :
    Statement (.storeCreate w m) := ⟨.storeCreate 0 default, rfl, rfl⟩
theorem storeWrite (w : Nat) (m : Message) :
    Statement (.storeWrite w m) := ⟨.storeWrite 0 default, rfl, rfl⟩
theorem storeIngest (w : Nat) (m : Message) :
    Statement (.storeIngest w m) := ⟨.storeIngest 0 default, rfl, rfl⟩
theorem storeSeal (w : Nat) (m : Message) :
    Statement (.storeSeal w m) := ⟨.storeSeal 0 default, rfl, rfl⟩
theorem storeDelete (w : Nat) (m : Message) :
    Statement (.storeDelete w m) := ⟨.storeDelete 0 default, rfl, rfl⟩
theorem storeStat (w : Nat) (m : Message) :
    Statement (.storeStat w m) := ⟨.storeStat 0 default, rfl, rfl⟩
theorem storeRead (w : Nat) (m : Message) :
    Statement (.storeRead w m) := ⟨.storeRead 0 default, rfl, rfl⟩
theorem storeSpliceTcp (w : Nat) (m : Message) :
    Statement (.storeSpliceTcp w m) := ⟨.storeSpliceTcp 0 default, rfl, rfl⟩
theorem storeSpliceMcast (w : Nat) (m : Message) :
    Statement (.storeSpliceMcast w m) := ⟨.storeSpliceMcast 0 default, rfl, rfl⟩
theorem storeCancel (w : Nat) (m : Message) :
    Statement (.storeCancel w m) := ⟨.storeCancel 0 default, rfl, rfl⟩
theorem fwStage (w : Nat) (m : Message) :
    Statement (.fwStage w m) := ⟨.fwStage 0 default, rfl, rfl⟩
theorem fwActivate (w : Nat) (m : Message) :
    Statement (.fwActivate w m) := ⟨.fwActivate 0 default, rfl, rfl⟩
theorem patternSave (w : Nat) (m : Message) :
    Statement (.patternSave w m) := ⟨.patternSave 0 default, rfl, rfl⟩
theorem patternLoad (w : Nat) (m : Message) :
    Statement (.patternLoad w m) := ⟨.patternLoad 0 default, rfl, rfl⟩
theorem powerRequest (w : Nat) (m : Message) :
    Statement (.powerRequest w m) := ⟨.powerRequest 0 default, rfl, rfl⟩
theorem ladleLoad (w : Nat) (m : Message) :
    Statement (.ladleLoad w m) := ⟨.ladleLoad 0 default, rfl, rfl⟩
theorem traceRead (w : Nat) (m : Message) :
    Statement (.traceRead w m) := ⟨.traceRead 0 default, rfl, rfl⟩
theorem snapshot (w : Nat) (m : Message) :
    Statement (.snapshot w m) := ⟨.snapshot 0 default, rfl, rfl⟩
theorem eventBatchTimeout : Statement .eventBatchTimeout := ⟨.eventBatchTimeout, rfl, rfl⟩
theorem heartbeatTick : Statement .heartbeatTick := ⟨.heartbeatTick, rfl, rfl⟩
theorem safePointApply (g : Nat) (u : Nat) :
    Statement (.safePointApply g u) := ⟨.safePointApply 0 0, rfl, rfl⟩
theorem tablePageSwitch (id : Nat) (inst : Nat) :
    Statement (.tablePageSwitch id inst) := ⟨.tablePageSwitch 0 0, rfl, rfl⟩
theorem standbyCopyDone (id : Nat) (inst : Nat) :
    Statement (.standbyCopyDone id inst) := ⟨.standbyCopyDone 0 0, rfl, rfl⟩
theorem versionRetire (v : Nat) :
    Statement (.versionRetire v) := ⟨.versionRetire 0, rfl, rfl⟩
theorem patternFlashWriteDone (good : Bool) :
    Statement (.patternFlashWriteDone good) := ⟨.patternFlashWriteDone false, rfl, rfl⟩
theorem alwaysOnRailsValid : Statement .alwaysOnRailsValid := ⟨.alwaysOnRailsValid, rfl, rfl⟩
theorem porRelease : Statement .porRelease := ⟨.porRelease, rfl, rfl⟩
theorem pmicEnableStep : Statement .pmicEnableStep := ⟨.pmicEnableStep, rfl, rfl⟩
theorem pmicPgRise : Statement .pmicPgRise := ⟨.pmicPgRise, rfl, rfl⟩
theorem pmicPgTimeout : Statement .pmicPgTimeout := ⟨.pmicPgTimeout, rfl, rfl⟩
theorem bootPllLock (otpOk : Bool) (rngOk : Bool) :
    Statement (.bootPllLock otpOk rngOk) := ⟨.bootPllLock false false, rfl, rfl⟩
theorem xspiResetRelease : Statement .xspiResetRelease := ⟨.xspiResetRelease, rfl, rfl⟩
theorem loaderVerify (responds : Bool) :
    Statement (.loaderVerify responds) := ⟨.loaderVerify false, rfl, rfl⟩
theorem firmwareVerify : Statement .firmwareVerify := ⟨.firmwareVerify, rfl, rfl⟩
theorem ddrTrainingDone (equal : Bool) (gib : Nat) (rate : Nat) :
    Statement (.ddrTrainingDone equal gib rate) := ⟨.ddrTrainingDone false 0 0, rfl, rfl⟩
theorem bootReady (bad : List Nat) :
    Statement (.bootReady bad) := ⟨.bootReady [], rfl, rfl⟩
theorem bootInitTimeout : Statement .bootInitTimeout := ⟨.bootInitTimeout, rfl, rfl⟩
theorem trialStageTimeout : Statement .trialStageTimeout := ⟨.trialStageTimeout, rfl, rfl⟩
theorem trialTimeExpiry : Statement .trialTimeExpiry := ⟨.trialTimeExpiry, rfl, rfl⟩
theorem fwActivateReset : Statement .fwActivateReset := ⟨.fwActivateReset, rfl, rfl⟩
theorem fwFlashWriteDone : Statement .fwFlashWriteDone := ⟨.fwFlashWriteDone, rfl, rfl⟩
theorem resetPin (low : Bool) :
    Statement (.resetPin low) := ⟨.resetPin false, rfl, rfl⟩
theorem powerFail (low : Bool) :
    Statement (.powerFail low) := ⟨.powerFail false, rfl, rfl⟩
theorem powerdownSequence : Statement .powerdownSequence := ⟨.powerdownSequence, rfl, rfl⟩
theorem pmicPgLoss : Statement .pmicPgLoss := ⟨.pmicPgLoss, rfl, rfl⟩
theorem aonRailLoss : Statement .aonRailLoss := ⟨.aonRailLoss, rfl, rfl⟩
theorem thermalTrip (t : Int) :
    Statement (.thermalTrip t) := ⟨.thermalTrip 0, rfl, rfl⟩
theorem thermalTripRelease (t : Int) :
    Statement (.thermalTripRelease t) := ⟨.thermalTripRelease 0, rfl, rfl⟩
theorem lockstepMismatch (pair : Nat) (ecc : Bool) :
    Statement (.lockstepMismatch pair ecc) := ⟨.lockstepMismatch 0 false, rfl, rfl⟩
theorem heartbeatWatchdog : Statement .heartbeatWatchdog := ⟨.heartbeatWatchdog, rfl, rfl⟩
theorem aonWatchdog : Statement .aonWatchdog := ⟨.aonWatchdog, rfl, rfl⟩
theorem sensorPoll (temps : List Int) (rails : List Nat) (mw : Nat) :
    Statement (.sensorPoll temps rails mw) := ⟨.sensorPoll (List.replicate 16 25) (List.replicate 9 0) 0, rfl, rfl⟩
theorem capStepUp : Statement .capStepUp := ⟨.capStepUp, rfl, rfl⟩
theorem capStepDown : Statement .capStepDown := ⟨.capStepDown, rfl, rfl⟩
theorem logFlashWrite : Statement .logFlashWrite := ⟨.logFlashWrite, rfl, rfl⟩
theorem rngHealthFail (test : Nat) :
    Statement (.rngHealthFail test) := ⟨.rngHealthFail 1, rfl, rfl⟩
theorem rngReseed : Statement .rngReseed := ⟨.rngReseed, rfl, rfl⟩
theorem entryBlockDrain : Statement .entryBlockDrain := ⟨.entryBlockDrain, rfl, rfl⟩
theorem wakeSource (b : Nat) :
    Statement (.wakeSource b) := ⟨.wakeSource 0, rfl, rfl⟩
theorem sleepTimerExpiry : Statement .sleepTimerExpiry := ⟨.sleepTimerExpiry, rfl, rfl⟩
theorem wakeStageReady : Statement .wakeStageReady := ⟨.wakeStageReady, rfl, rfl⟩
theorem wakeStageTimeout (which : Nat) :
    Statement (.wakeStageTimeout which) := ⟨.wakeStageTimeout 0, rfl, rfl⟩
theorem wakeRetry : Statement .wakeRetry := ⟨.wakeRetry, rfl, rfl⟩
theorem faultAdmit (u : RUnit) (cause : Nat) :
    Statement (.faultAdmit u cause) := ⟨.faultAdmit ⟨1, 0x0B, 0⟩ 1, rfl, rfl⟩
theorem recastResetDone (u : RUnit) :
    Statement (.recastResetDone u) := ⟨.recastResetDone ⟨1, 0x0B, 0⟩, rfl, rfl⟩
theorem recastRestoreDone (u : RUnit) :
    Statement (.recastRestoreDone u) := ⟨.recastRestoreDone ⟨1, 0x0B, 0⟩, rfl, rfl⟩
theorem recastResumeDone (u : RUnit) :
    Statement (.recastResumeDone u) := ⟨.recastResumeDone ⟨1, 0x0B, 0⟩, rfl, rfl⟩
theorem lanePllLock (n : Nat) :
    Statement (.lanePllLock n) := ⟨.lanePllLock 0, rfl, rfl⟩
theorem lanePllTimeout (n : Nat) :
    Statement (.lanePllTimeout n) := ⟨.lanePllTimeout 0, rfl, rfl⟩
theorem laneCdrLock (n : Nat) :
    Statement (.laneCdrLock n) := ⟨.laneCdrLock 0, rfl, rfl⟩
theorem laneAcqTimeout (n : Nat) :
    Statement (.laneAcqTimeout n) := ⟨.laneAcqTimeout 0, rfl, rfl⟩
theorem laneMarkerRx (n : Nat) (raw : Option Nat) :
    Statement (.laneMarkerRx n raw) := ⟨.laneMarkerRx 0 none, rfl, rfl⟩
theorem laneTrainTimeout (n : Nat) :
    Statement (.laneTrainTimeout n) := ⟨.laneTrainTimeout 0, rfl, rfl⟩
theorem laneFaultExpiry (n : Nat) :
    Statement (.laneFaultExpiry n) := ⟨.laneFaultExpiry 0, rfl, rfl⟩
theorem laneClockLoss (n : Nat) :
    Statement (.laneClockLoss n) := ⟨.laneClockLoss 0, rfl, rfl⟩
theorem lanePcsLock (n : Nat) :
    Statement (.lanePcsLock n) := ⟨.lanePcsLock 0, rfl, rfl⟩
theorem lanePcsLoss (n : Nat) :
    Statement (.lanePcsLoss n) := ⟨.lanePcsLoss 0, rfl, rfl⟩
theorem lanePolarityRetry (n : Nat) :
    Statement (.lanePolarityRetry n) := ⟨.lanePolarityRetry 0, rfl, rfl⟩
theorem laneCodewordRx (n : Nat) (cw : Nat) (errs : List Nat) (loop : Bool) :
    Statement (.laneCodewordRx n cw errs loop) := ⟨.laneCodewordRx 0 0 [] false, rfl, rfl⟩
theorem laneWakeTimeout (n : Nat) :
    Statement (.laneWakeTimeout n) := ⟨.laneWakeTimeout 0, rfl, rfl⟩
theorem eeeTxEntry (n : Nat) :
    Statement (.eeeTxEntry n) := ⟨.eeeTxEntry 0, rfl, rfl⟩
theorem eeeTxWake (n : Nat) :
    Statement (.eeeTxWake n) := ⟨.eeeTxWake 0, rfl, rfl⟩
theorem eeeRxLpi (p : Nat) :
    Statement (.eeeRxLpi p) := ⟨.eeeRxLpi 0, rfl, rfl⟩
theorem eeeRxWake (p : Nat) :
    Statement (.eeeRxWake p) := ⟨.eeeRxWake 0, rfl, rfl⟩
theorem lpiGateWake (n : Nat) :
    Statement (.lpiGateWake n) := ⟨.lpiGateWake 0, rfl, rfl⟩
theorem linkFrameTx (offsets : List Nat) (blocks : List (Nat × List (List Int))) (lost : List (Nat × Nat)) :
    Statement (.linkFrameTx offsets blocks lost) := ⟨.linkFrameTx [] [] [], rfl, rfl⟩
theorem linkFrameRx (l : Nat) (syncErrs : Nat) (raw : Nat) (nbits : Nat) (bad : List Nat) (slip : Bool) (cdc : List Nat) :
    Statement (.linkFrameRx l syncErrs raw nbits bad slip cdc) := ⟨.linkFrameRx 0 0 1 192 [] false [], rfl, rfl⟩
theorem linkDefectPersist (l : Nat) (defect : Nat) (declare : Bool) :
    Statement (.linkDefectPersist l defect declare) := ⟨.linkDefectPersist 0 0 false, rfl, rfl⟩
theorem linkSecondLatch : Statement .linkSecondLatch := ⟨.linkSecondLatch, rfl, rfl⟩
theorem headId (l : Nat) (seq : Nat) (h : HeadId) :
    Statement (.headId l seq h) := ⟨.headId 0 0 { (default : HeadId) with transceivers := 8 }, rfl, rfl⟩
theorem ack (l : Nat) (typ : Nat) (seq : Nat) (status : Nat) :
    Statement (.ack l typ seq status) := ⟨.ack 0 0 0 0, rfl, rfl⟩
theorem echo (l : Nat) (seq : Nat) (token : Nat) :
    Statement (.echo l seq token) := ⟨.echo 0 0 0, rfl, rfl⟩
theorem headAlarm (l : Nat) (seq : Nat) (t : Nat) (cause : Nat) (det : Nat) :
    Statement (.headAlarm l seq t cause det) := ⟨.headAlarm 0 0 0 0 0, rfl, rfl⟩
theorem rxGainApplied (l : Nat) (seq : Nat) (t : Nat) (gain : Int) :
    Statement (.rxGainApplied l seq t gain) := ⟨.rxGainApplied 0 0 0 0, rfl, rfl⟩
theorem telemetry (l : Nat) (temps : List Int) (mv : Nat) :
    Statement (.telemetry l temps mv) := ⟨.telemetry 0 (List.replicate 9 0) 0, rfl, rfl⟩
theorem headRfCaps (l : Nat) (seq : Nat) (c : HeadCaps) :
    Statement (.headRfCaps l seq c) := ⟨.headRfCaps 0 0 default, rfl, rfl⟩
theorem ccReservedType (l : Nat) (typ : Nat) (seq : Nat) :
    Statement (.ccReservedType l typ seq) := ⟨.ccReservedType 0 0 0, rfl, rfl⟩
theorem ccRetryTimeout (l : Nat) :
    Statement (.ccRetryTimeout l) := ⟨.ccRetryTimeout 0, rfl, rfl⟩
theorem echoPeriod (l : Nat) :
    Statement (.echoPeriod l) := ⟨.echoPeriod 0, rfl, rfl⟩
theorem layoutAckDeadline (l : Nat) :
    Statement (.layoutAckDeadline l) := ⟨.layoutAckDeadline 0, rfl, rfl⟩
theorem layoutEffect (l : Nat) :
    Statement (.layoutEffect l) := ⟨.layoutEffect 0, rfl, rfl⟩
theorem spareSwitchEffect (l : Nat) :
    Statement (.spareSwitchEffect l) := ⟨.spareSwitchEffect 0, rfl, rfl⟩
theorem gainControlTick (c : Nat) (level : Nat) :
    Statement (.gainControlTick c level) := ⟨.gainControlTick 0 0, rfl, rfl⟩
theorem gainAckDeadline (c : Nat) (typ : Nat) :
    Statement (.gainAckDeadline c typ) := ⟨.gainAckDeadline 0 0x10, rfl, rfl⟩
theorem gainEffective (c : Nat) (typ : Nat) :
    Statement (.gainEffective c typ) := ⟨.gainEffective 0 0x10, rfl, rfl⟩
theorem achAbsentTimeout (c : Nat) :
    Statement (.achAbsentTimeout c) := ⟨.achAbsentTimeout 0, rfl, rfl⟩
theorem achFrontendFault (c : Nat) (cause : Nat) :
    Statement (.achFrontendFault c cause) := ⟨.achFrontendFault 0 0, rfl, rfl⟩
theorem calPeriodExpiry (r : Nat) :
    Statement (.calPeriodExpiry r) := ⟨.calPeriodExpiry 0, rfl, rfl⟩
theorem calWindowGrant (r : Nat) (best : List Nat) :
    Statement (.calWindowGrant r best) := ⟨.calWindowGrant 0 [], rfl, rfl⟩
theorem calTurn (r : Nat) :
    Statement (.calTurn r) := ⟨.calTurn 0, rfl, rfl⟩
theorem calPassEnd (r : Nat) (results : List CalResult) :
    Statement (.calPassEnd r results) := ⟨.calPassEnd 0 [], rfl, rfl⟩
theorem calDeferTimeout (r : Nat) :
    Statement (.calDeferTimeout r) := ⟨.calDeferTimeout 0, rfl, rfl⟩
theorem feedShort (h : Nat) (ma : Nat) :
    Statement (.feedShort h ma) := ⟨.feedShort 0 0, rfl, rfl⟩
theorem feedReversed (h : Nat) (mv : Int) :
    Statement (.feedReversed h mv) := ⟨.feedReversed 0 0, rfl, rfl⟩
theorem feedAdcSample (h : Nat) (isns : Nat) (vsns : Int) (mean : Nat) :
    Statement (.feedAdcSample h isns vsns mean) := ⟨.feedAdcSample 0 0 0 0, rfl, rfl⟩
theorem feedCheckEnd (h : Nat) :
    Statement (.feedCheckEnd h) := ⟨.feedCheckEnd 0, rfl, rfl⟩
theorem feedInrushEnd (h : Nat) (ma : Nat) :
    Statement (.feedInrushEnd h ma) := ⟨.feedInrushEnd 0 0, rfl, rfl⟩
theorem feedBackoffEnd (h : Nat) :
    Statement (.feedBackoffEnd h) := ⟨.feedBackoffEnd 0, rfl, rfl⟩
theorem feedReversedClear (h : Nat) :
    Statement (.feedReversedClear h) := ⟨.feedReversedClear 0, rfl, rfl⟩
theorem feedRetryReset (h : Nat) :
    Statement (.feedRetryReset h) := ⟨.feedRetryReset 0, rfl, rfl⟩
theorem roundComplete (r : Nat) (q : RoundResult) :
    Statement (.roundComplete r q) := ⟨.roundComplete 0 default, rfl, rfl⟩
theorem setBegin (k : Nat) :
    Statement (.setBegin k) := ⟨.setBegin 0, rfl, rfl⟩
theorem weightEntry (k : Nat) :
    Statement (.weightEntry k) := ⟨.weightEntry 0, rfl, rfl⟩
theorem colmap (k : Nat) :
    Statement (.colmap k) := ⟨.colmap 0, rfl, rfl⟩
theorem setEnd (k : Nat) :
    Statement (.setEnd k) := ⟨.setEnd 0, rfl, rfl⟩
theorem confirm (k : Nat) :
    Statement (.confirm k) := ⟨.confirm 0, rfl, rfl⟩
theorem discard (k : Nat) :
    Statement (.discard k) := ⟨.discard 0, rfl, rfl⟩
theorem setLoadTimeout (r : Nat) :
    Statement (.setLoadTimeout r) := ⟨.setLoadTimeout 0, rfl, rfl⟩
theorem updateLate (r : Nat) (basis : Nat) :
    Statement (.updateLate r basis) := ⟨.updateLate 0 0, rfl, rfl⟩
theorem switchPoint (r : Nat) :
    Statement (.switchPoint r) := ⟨.switchPoint 0, rfl, rfl⟩
theorem channelUnusable (c : Nat) :
    Statement (.channelUnusable c) := ⟨.channelUnusable 0, rfl, rfl⟩
theorem symbolAssay (k : Nat) (rx : Bool) (T : Nat) (wrong : List Nat) (residue : Bool) :
    Statement (.symbolAssay k rx T wrong residue) := ⟨.symbolAssay 0 false 0 [] false, rfl, rfl⟩
theorem staReportRefresh (r : Nat) (figs : List StaFigures) (nulls : List (Nat × Int × Nat)) :
    Statement (.staReportRefresh r figs nulls) := ⟨.staReportRefresh 0 [] [], rfl, rfl⟩
theorem aoaDetection (r : Nat) (u : Int) (v : Int) (snr : Int) (sta : Option Nat) :
    Statement (.aoaDetection r u v snr sta) := ⟨.aoaDetection 0 0 0 0 none, rfl, rfl⟩
theorem tbtt (sec : Nat) (delayUs : Nat) (o : Occupant) :
    Statement (.tbtt sec delayUs o) := ⟨.tbtt 0 0 default, rfl, rfl⟩
theorem filsDiscovery (sec : Nat) :
    Statement (.filsDiscovery sec) := ⟨.filsDiscovery 0, rfl, rfl⟩
theorem channelAccess (r : Nat) :
    Statement (.channelAccess r) := ⟨.channelAccess 0, rfl, rfl⟩
theorem txInterval (r : Nat) (x : Interval) :
    Statement (.txInterval r x) := ⟨.txInterval 0 default, rfl, rfl⟩
theorem ppduRx (sec : Nat) (p : Ppdu) :
    Statement (.ppduRx sec p) := ⟨.ppduRx 0 default, rfl, rfl⟩
theorem newPreamble (sec : Nat) (level : Int) (solicited : Bool) (part : List RxMpdu) :
    Statement (.newPreamble sec level solicited part) := ⟨.newPreamble 0 0 false [], rfl, rfl⟩
theorem soundingRoundStart (r : Nat) (ltfNs : Nat) :
    Statement (.soundingRoundStart r ltfNs) := ⟨.soundingRoundStart 0 0, rfl, rfl⟩
theorem restrictedSpStart (sec : Nat) (i : Nat) :
    Statement (.restrictedSpStart sec i) := ⟨.restrictedSpStart 0 0, rfl, rfl⟩
theorem jobFetch (e : Nat) :
    Statement (.jobFetch e) := ⟨.jobFetch 0, rfl, rfl⟩
theorem jobDone (e : Nat) (status : Nat) :
    Statement (.jobDone e status) := ⟨.jobDone 0 0, rfl, rfl⟩
theorem postCtl (e : Nat) (arg : Nat) (v : Nat) :
    Statement (.postCtl e arg v) := ⟨.postCtl 0 0 0, rfl, rfl⟩
theorem wlPush (e : Nat) (mask : Nat) (entry : Nat) :
    Statement (.wlPush e mask entry) := ⟨.wlPush 0 0 0, rfl, rfl⟩
theorem dmaGo (e : Nat) (v : Nat) (a : Nat) :
    Statement (.dmaGo e v a) := ⟨.dmaGo 0 0 0, rfl, rfl⟩
theorem dmaStatus (e : Nat) :
    Statement (.dmaStatus e) := ⟨.dmaStatus 0, rfl, rfl⟩
theorem icuClaim (e : Nat) :
    Statement (.icuClaim e) := ⟨.icuClaim 0, rfl, rfl⟩
theorem icuComplete (e : Nat) (v : Nat) :
    Statement (.icuComplete e v) := ⟨.icuComplete 0 0, rfl, rfl⟩
theorem maskSet (e : Nat) (hi : Nat) (v : Nat) :
    Statement (.maskSet e hi v) := ⟨.maskSet 0 0 0, rfl, rfl⟩
theorem maskClr (e : Nat) (hi : Nat) (v : Nat) :
    Statement (.maskClr e hi v) := ⟨.maskClr 0 0 0, rfl, rfl⟩
theorem pendSet (e : Nat) (hi : Nat) (v : Nat) :
    Statement (.pendSet e hi v) := ⟨.pendSet 0 0 0, rfl, rfl⟩
theorem pendClr (e : Nat) (hi : Nat) (v : Nat) :
    Statement (.pendClr e hi v) := ⟨.pendClr 0 0 0, rfl, rfl⟩
theorem roundAck (e : Nat) (v : Nat) :
    Statement (.roundAck e v) := ⟨.roundAck 0 0, rfl, rfl⟩
theorem swpAck (e : Nat) (v : Nat) :
    Statement (.swpAck e v) := ⟨.swpAck 0 0, rfl, rfl⟩
theorem dbSet (e : Nat) (v : Nat) :
    Statement (.dbSet e v) := ⟨.dbSet 0 0, rfl, rfl⟩
theorem dbClr (e : Nat) :
    Statement (.dbClr e) := ⟨.dbClr 0, rfl, rfl⟩
theorem secAck (e : Nat) :
    Statement (.secAck e) := ⟨.secAck 0, rfl, rfl⟩
theorem tmrAck (e : Nat) (v : Nat) :
    Statement (.tmrAck e v) := ⟨.tmrAck 0 0, rfl, rfl⟩
theorem timerCompare (t : Nat) :
    Statement (.timerCompare t) := ⟨.timerCompare 0, rfl, rfl⟩
theorem interruptEntry (e : Nat) (race : Bool) :
    Statement (.interruptEntry e race) := ⟨.interruptEntry 0 false, rfl, rfl⟩
theorem jobWatchdog (e : Nat) :
    Statement (.jobWatchdog e) := ⟨.jobWatchdog 0, rfl, rfl⟩
theorem engineWake (e : Nat) :
    Statement (.engineWake e) := ⟨.engineWake 0, rfl, rfl⟩
theorem kernelInstall (k : Nat) (e : Nat) :
    Statement (.kernelInstall k e) := ⟨.kernelInstall 0 0, rfl, rfl⟩
theorem leCmac (e : Nat) (f : FmtM) :
    Statement (.leCmac e f) := ⟨.leCmac 0 default, rfl, rfl⟩
theorem leCmacc (e : Nat) (f : FmtM) :
    Statement (.leCmacc e f) := ⟨.leCmacc 0 default, rfl, rfl⟩
theorem leCmsu (e : Nat) (f : FmtM) :
    Statement (.leCmsu e f) := ⟨.leCmsu 0 default, rfl, rfl⟩
theorem leCmpy (e : Nat) (f : FmtM) :
    Statement (.leCmpy e f) := ⟨.leCmpy 0 default, rfl, rfl⟩
theorem leCmpyc (e : Nat) (f : FmtM) :
    Statement (.leCmpyc e f) := ⟨.leCmpyc 0 default, rfl, rfl⟩
theorem leQmac (e : Nat) (f : FmtM) :
    Statement (.leQmac e f) := ⟨.leQmac 0 default, rfl, rfl⟩
theorem leQmpy (e : Nat) (f : FmtM) :
    Statement (.leQmpy e f) := ⟨.leQmpy 0 default, rfl, rfl⟩
theorem leMac (e : Nat) (f : FmtM) :
    Statement (.leMac e f) := ⟨.leMac 0 default, rfl, rfl⟩
theorem leMsu (e : Nat) (f : FmtM) :
    Statement (.leMsu e f) := ⟨.leMsu 0 default, rfl, rfl⟩
theorem leMpy (e : Nat) (f : FmtM) :
    Statement (.leMpy e f) := ⟨.leMpy 0 default, rfl, rfl⟩
theorem leFirmv (e : Nat) (f : FmtM) :
    Statement (.leFirmv e f) := ⟨.leFirmv 0 default, rfl, rfl⟩
theorem leFirmvr (e : Nat) (f : FmtM) :
    Statement (.leFirmvr e f) := ⟨.leFirmvr 0 default, rfl, rfl⟩
theorem leFeed (e : Nat) (f : FmtM) :
    Statement (.leFeed e f) := ⟨.leFeed 0 default, rfl, rfl⟩
theorem leAclr (e : Nat) (f : FmtA) :
    Statement (.leAclr e f) := ⟨.leAclr 0 default, rfl, rfl⟩
theorem leAadd (e : Nat) (f : FmtA) :
    Statement (.leAadd e f) := ⟨.leAadd 0 default, rfl, rfl⟩
theorem leAsub (e : Nat) (f : FmtA) :
    Statement (.leAsub e f) := ⟨.leAsub 0 default, rfl, rfl⟩
theorem leAneg (e : Nat) (f : FmtA) :
    Statement (.leAneg e f) := ⟨.leAneg 0 default, rfl, rfl⟩
theorem leAabs (e : Nat) (f : FmtA) :
    Statement (.leAabs e f) := ⟨.leAabs 0 default, rfl, rfl⟩
theorem leAshl (e : Nat) (f : FmtA) :
    Statement (.leAshl e f) := ⟨.leAshl 0 default, rfl, rfl⟩
theorem leAshr (e : Nat) (f : FmtA) :
    Statement (.leAshr e f) := ⟨.leAshr 0 default, rfl, rfl⟩
theorem leAshv (e : Nat) (f : FmtA) :
    Statement (.leAshv e f) := ⟨.leAshv 0 default, rfl, rfl⟩
theorem leArnd (e : Nat) (f : FmtA) :
    Statement (.leArnd e f) := ⟨.leArnd 0 default, rfl, rfl⟩
theorem leAmov (e : Nat) (f : FmtA) :
    Statement (.leAmov e f) := ⟨.leAmov 0 default, rfl, rfl⟩
theorem leAnorm (e : Nat) (f : FmtA) :
    Statement (.leAnorm e f) := ⟨.leAnorm 0 default, rfl, rfl⟩
theorem leAext (e : Nat) (f : FmtA) :
    Statement (.leAext e f) := ⟨.leAext 0 default, rfl, rfl⟩
theorem leAins (e : Nat) (f : FmtA) :
    Statement (.leAins e f) := ⟨.leAins 0 default, rfl, rfl⟩
theorem lePack (e : Nat) (f : FmtA) :
    Statement (.lePack e f) := ⟨.lePack 0 default, rfl, rfl⟩
theorem leAdd (e : Nat) (f : FmtA) :
    Statement (.leAdd e f) := ⟨.leAdd 0 default, rfl, rfl⟩
theorem leSub (e : Nat) (f : FmtA) :
    Statement (.leSub e f) := ⟨.leSub 0 default, rfl, rfl⟩
theorem leAnd (e : Nat) (f : FmtA) :
    Statement (.leAnd e f) := ⟨.leAnd 0 default, rfl, rfl⟩
theorem leOr (e : Nat) (f : FmtA) :
    Statement (.leOr e f) := ⟨.leOr 0 default, rfl, rfl⟩
theorem leXor (e : Nat) (f : FmtA) :
    Statement (.leXor e f) := ⟨.leXor 0 default, rfl, rfl⟩
theorem leShl (e : Nat) (f : FmtA) :
    Statement (.leShl e f) := ⟨.leShl 0 default, rfl, rfl⟩
theorem leShr (e : Nat) (f : FmtA) :
    Statement (.leShr e f) := ⟨.leShr 0 default, rfl, rfl⟩
theorem leSar (e : Nat) (f : FmtA) :
    Statement (.leSar e f) := ⟨.leSar 0 default, rfl, rfl⟩
theorem leMin (e : Nat) (f : FmtA) :
    Statement (.leMin e f) := ⟨.leMin 0 default, rfl, rfl⟩
theorem leMax (e : Nat) (f : FmtA) :
    Statement (.leMax e f) := ⟨.leMax 0 default, rfl, rfl⟩
theorem leCmp (e : Nat) (f : FmtA) :
    Statement (.leCmp e f) := ⟨.leCmp 0 default, rfl, rfl⟩
theorem leCls (e : Nat) (f : FmtA) :
    Statement (.leCls e f) := ⟨.leCls 0 default, rfl, rfl⟩
theorem leMov (e : Nat) (f : FmtA) :
    Statement (.leMov e f) := ⟨.leMov 0 default, rfl, rfl⟩
theorem leAdd16 (e : Nat) (f : FmtA) :
    Statement (.leAdd16 e f) := ⟨.leAdd16 0 default, rfl, rfl⟩
theorem leSub16 (e : Nat) (f : FmtA) :
    Statement (.leSub16 e f) := ⟨.leSub16 0 default, rfl, rfl⟩
theorem leConj (e : Nat) (f : FmtA) :
    Statement (.leConj e f) := ⟨.leConj 0 default, rfl, rfl⟩
theorem leSwap (e : Nat) (f : FmtA) :
    Statement (.leSwap e f) := ⟨.leSwap 0 default, rfl, rfl⟩
theorem leRcp (e : Nat) (f : FmtA) :
    Statement (.leRcp e f) := ⟨.leRcp 0 default, rfl, rfl⟩
theorem leRsq (e : Nat) (f : FmtA) :
    Statement (.leRsq e f) := ⟨.leRsq 0 default, rfl, rfl⟩
theorem leMovi (e : Nat) (f : FmtI) :
    Statement (.leMovi e f) := ⟨.leMovi 0 default, rfl, rfl⟩
theorem leMovu (e : Nat) (f : FmtI) :
    Statement (.leMovu e f) := ⟨.leMovu 0 default, rfl, rfl⟩
theorem leAddi (e : Nat) (f : FmtI) :
    Statement (.leAddi e f) := ⟨.leAddi 0 default, rfl, rfl⟩
theorem leAndi (e : Nat) (f : FmtI) :
    Statement (.leAndi e f) := ⟨.leAndi 0 default, rfl, rfl⟩
theorem leOri (e : Nat) (f : FmtI) :
    Statement (.leOri e f) := ⟨.leOri 0 default, rfl, rfl⟩
theorem leCmpi (e : Nat) (f : FmtI) :
    Statement (.leCmpi e f) := ⟨.leCmpi 0 default, rfl, rfl⟩
theorem leShli (e : Nat) (f : FmtI) :
    Statement (.leShli e f) := ⟨.leShli 0 default, rfl, rfl⟩
theorem leSari (e : Nat) (f : FmtI) :
    Statement (.leSari e f) := ⟨.leSari 0 default, rfl, rfl⟩
theorem leLdx (e : Nat) (f : FmtL) :
    Statement (.leLdx e f) := ⟨.leLdx 0 default, rfl, rfl⟩
theorem leStx (e : Nat) (f : FmtL) :
    Statement (.leStx e f) := ⟨.leStx 0 default, rfl, rfl⟩
theorem leLdy (e : Nat) (f : FmtL) :
    Statement (.leLdy e f) := ⟨.leLdy 0 default, rfl, rfl⟩
theorem leSty (e : Nat) (f : FmtL) :
    Statement (.leSty e f) := ⟨.leSty 0 default, rfl, rfl⟩
theorem leBr (e : Nat) (f : FmtB) :
    Statement (.leBr e f) := ⟨.leBr 0 default, rfl, rfl⟩
theorem leCall (e : Nat) (f : FmtB) :
    Statement (.leCall e f) := ⟨.leCall 0 default, rfl, rfl⟩
theorem leRet (e : Nat) (f : FmtB) :
    Statement (.leRet e f) := ⟨.leRet 0 default, rfl, rfl⟩
theorem leLoop (e : Nat) (f : FmtB) :
    Statement (.leLoop e f) := ⟨.leLoop 0 default, rfl, rfl⟩
theorem leLoopi (e : Nat) (f : FmtB) :
    Statement (.leLoopi e f) := ⟨.leLoopi 0 default, rfl, rfl⟩
theorem leReti (e : Nat) (f : FmtB) :
    Statement (.leReti e f) := ⟨.leReti 0 default, rfl, rfl⟩
theorem leBri (e : Nat) (f : FmtB) :
    Statement (.leBri e f) := ⟨.leBri 0 default, rfl, rfl⟩
theorem leCalli (e : Nat) (f : FmtB) :
    Statement (.leCalli e f) := ⟨.leCalli 0 default, rfl, rfl⟩
theorem leNop (e : Nat) (f : FmtS) :
    Statement (.leNop e f) := ⟨.leNop 0 default, rfl, rfl⟩
theorem leWait (e : Nat) (f : FmtS) :
    Statement (.leWait e f) := ⟨.leWait 0 default, rfl, rfl⟩
theorem leIn (e : Nat) (f : FmtS) :
    Statement (.leIn e f) := ⟨.leIn 0 default, rfl, rfl⟩
theorem leOut (e : Nat) (f : FmtS) :
    Statement (.leOut e f) := ⟨.leOut 0 default, rfl, rfl⟩
theorem leMfs (e : Nat) (f : FmtS) :
    Statement (.leMfs e f) := ⟨.leMfs 0 default, rfl, rfl⟩
theorem leMts (e : Nat) (f : FmtS) :
    Statement (.leMts e f) := ⟨.leMts 0 default, rfl, rfl⟩
theorem leSetm (e : Nat) (f : FmtS) :
    Statement (.leSetm e f) := ⟨.leSetm 0 default, rfl, rfl⟩
theorem leClrm (e : Nat) (f : FmtS) :
    Statement (.leClrm e f) := ⟨.leClrm 0 default, rfl, rfl⟩
theorem leFence (e : Nat) (f : FmtS) :
    Statement (.leFence e f) := ⟨.leFence 0 default, rfl, rfl⟩
theorem leBreak (e : Nat) (f : FmtS) :
    Statement (.leBreak e f) := ⟨.leBreak 0 default, rfl, rfl⟩
theorem ponDsFrame (errs : Nat) (hec : Bool) (sfc : Nat) (corr : Nat) (uncorr : Nat) (hecErr : Nat) :
    Statement (.ponDsFrame errs hec sfc corr uncorr hecErr) := ⟨.ponDsFrame 0 false 0 0 0 0, rfl, rfl⟩
theorem xgemFrameRx (x : Xgem) :
    Statement (.xgemFrameRx x) := ⟨.xgemFrameRx default, rfl, rfl⟩
theorem burstProfile (mic : Bool) (directed : Bool) (seq : Nat) (i : Nat) (p : PonProfile) :
    Statement (.burstProfile mic directed seq i p) := ⟨.burstProfile false false 0 0 default, rfl, rfl⟩
theorem assignOnuId (mic : Bool) (id : Nat) (vendor : Nat) (serial : Nat) :
    Statement (.assignOnuId mic id vendor serial) := ⟨.assignOnuId false 0 0 0, rfl, rfl⟩
theorem rangingTime (mic : Bool) (directed : Bool) (seq : Nat) (relative : Bool) (v : Int) :
    Statement (.rangingTime mic directed seq relative v) := ⟨.rangingTime false false 0 false 0, rfl, rfl⟩
theorem deactivateOnuId (mic : Bool) :
    Statement (.deactivateOnuId mic) := ⟨.deactivateOnuId false, rfl, rfl⟩
theorem disableSerialNumber (mic : Bool) (disable : Bool) (sn : Option (Nat × Nat)) :
    Statement (.disableSerialNumber mic disable sn) := ⟨.disableSerialNumber false false none, rfl, rfl⟩
theorem requestRegistration (mic : Bool) :
    Statement (.requestRegistration mic) := ⟨.requestRegistration false, rfl, rfl⟩
theorem assignAllocId (mic : Bool) (seq : Nat) (allocId : Nat) (assign : Bool) :
    Statement (.assignAllocId mic seq allocId assign) := ⟨.assignAllocId false 0 0 false, rfl, rfl⟩
theorem keyControl (mic : Bool) (i : Nat) :
    Statement (.keyControl mic i) := ⟨.keyControl false 1, rfl, rfl⟩
theorem sleepAllow (mic : Bool) (on : Bool) :
    Statement (.sleepAllow mic on) := ⟨.sleepAllow false false, rfl, rfl⟩
theorem unsupportedPloam (mic : Bool) (seq : Nat) :
    Statement (.unsupportedPloam mic seq) := ⟨.unsupportedPloam false 0, rfl, rfl⟩
theorem to1Expiry : Statement .to1Expiry := ⟨.to1Expiry, rfl, rfl⟩
theorem to2Expiry : Statement .to2Expiry := ⟨.to2Expiry, rfl, rfl⟩
theorem ponLosChange (level : Bool) (held : Bool) :
    Statement (.ponLosChange level held) := ⟨.ponLosChange false false, rfl, rfl⟩
theorem bwmapAllocation (m : Allocation) (place : List (Nat × Nat)) :
    Statement (.bwmapAllocation m place) := ⟨.bwmapAllocation default [], rfl, rfl⟩
theorem usPrefetch (i : Nat) :
    Statement (.usPrefetch i) := ⟨.usPrefetch 0, rfl, rfl⟩
theorem burstStart (late : List Nat) :
    Statement (.burstStart late) := ⟨.burstStart [], rfl, rfl⟩
theorem rogueDetect (cause : Nat) :
    Statement (.rogueDetect cause) := ⟨.rogueDetect 1, rfl, rfl⟩
theorem txFaultChange (level : Bool) (held : Bool) :
    Statement (.txFaultChange level held) := ⟨.txFaultChange false false, rfl, rfl⟩
theorem todWaitTimeout : Statement .todWaitTimeout := ⟨.todWaitTimeout, rfl, rfl⟩
theorem autoDwellExpiry : Statement .autoDwellExpiry := ⟨.autoDwellExpiry, rfl, rfl⟩
theorem psIntervalExpiry (which : Nat) :
    Statement (.psIntervalExpiry which) := ⟨.psIntervalExpiry 0, rfl, rfl⟩
theorem ddmPoll (r : Option DdmRead) :
    Statement (.ddmPoll r) := ⟨.ddmPoll none, rfl, rfl⟩
theorem ponSecondLatch : Statement .ponSecondLatch := ⟨.ponSecondLatch, rfl, rfl⟩
theorem packetIngress (a : Arrival) :
    Statement (.packetIngress a) := ⟨.packetIngress default, rfl, rfl⟩
theorem poolAlloc (reqs : List (Nat × Nat)) :
    Statement (.poolAlloc reqs) := ⟨.poolAlloc [], rfl, rfl⟩
theorem waybillGive (port : Nat) (h : Nat) (dest : Nat) :
    Statement (.waybillGive port h dest) := ⟨.waybillGive 0 0 0, rfl, rfl⟩
theorem waybillRelease (port : Nat) (ptr : BufPtr) :
    Statement (.waybillRelease port ptr) := ⟨.waybillRelease 0 default, rfl, rfl⟩
theorem replication (h : Nat) :
    Statement (.replication h) := ⟨.replication 0, rfl, rfl⟩
theorem reinject (n : Nat) (h : Nat) :
    Statement (.reinject n h) := ⟨.reinject 0 0, rfl, rfl⟩
theorem flowAgeing (i : Nat) :
    Statement (.flowAgeing i) := ⟨.flowAgeing 0, rfl, rfl⟩
theorem droverWatchdog (n : Nat) :
    Statement (.droverWatchdog n) := ⟨.droverWatchdog 0, rfl, rfl⟩
theorem enqueue (h : Nat) (q : Nat) :
    Statement (.enqueue h q) := ⟨.enqueue 0 0, rfl, rfl⟩
theorem dequeueDecision (e : Nat) (rx : List (Nat × List (Nat × Nat))) :
    Statement (.dequeueDecision e rx) := ⟨.dequeueDecision 0 [], rfl, rfl⟩
theorem gateEntryStart (e : Nat) (entry : Nat) (o : Occupant) :
    Statement (.gateEntryStart e entry o) := ⟨.gateEntryStart 67 0 default, rfl, rfl⟩
theorem gateListSwitch (e : Nat) :
    Statement (.gateListSwitch e) := ⟨.gateListSwitch 67, rfl, rfl⟩
theorem bucketOverflow (q : Nat) (e : Nat) (peak : Bool) (o : Occupant) :
    Statement (.bucketOverflow q e peak o) := ⟨.bucketOverflow 0 0 false default, rfl, rfl⟩
theorem drrStarvation (e : Nat) (q : Nat) (o : Occupant) :
    Statement (.drrStarvation e q o) := ⟨.drrStarvation 0 0 default, rfl, rfl⟩
theorem queueSampleSweep : Statement .queueSampleSweep := ⟨.queueSampleSweep, rfl, rfl⟩
theorem sprueRunStart (n : Nat) (host : List Byte) (u : Option Upset) :
    Statement (.sprueRunStart n host u) := ⟨.sprueRunStart 0 [] none, rfl, rfl⟩
theorem sprueRunComplete (n : Nat) (err : Nat) :
    Statement (.sprueRunComplete n err) := ⟨.sprueRunComplete 0 0, rfl, rfl⟩
theorem txPacketFetch (n : Nat) (descs : List Nat) (data : List Byte) (err : Bool) :
    Statement (.txPacketFetch n descs data err) := ⟨.txPacketFetch 0 [] [] false, rfl, rfl⟩
theorem ringIrqTimer (n : Nat) :
    Statement (.ringIrqTimer n) := ⟨.ringIrqTimer 0, rfl, rfl⟩
theorem driveLinkUp (d : Nat) :
    Statement (.driveLinkUp d) := ⟨.driveLinkUp 0, rfl, rfl⟩
theorem driveInitDone (d : Nat) (extents : Nat) :
    Statement (.driveInitDone d extents) := ⟨.driveInitDone 0 0, rfl, rfl⟩
theorem driveInitTimeout (d : Nat) :
    Statement (.driveInitTimeout d) := ⟨.driveInitTimeout 0, rfl, rfl⟩
theorem driveLinkDown (d : Nat) :
    Statement (.driveLinkDown d) := ⟨.driveLinkDown 0, rfl, rfl⟩
theorem nvmeTimeout (d : Nat) (opcode : Nat) :
    Statement (.nvmeTimeout d opcode) := ⟨.nvmeTimeout 0 0, rfl, rfl⟩
theorem spliceSegment (cid : Nat) :
    Statement (.spliceSegment cid) := ⟨.spliceSegment 0, rfl, rfl⟩
theorem deleteFinish (cid : Nat) :
    Statement (.deleteFinish cid) := ⟨.deleteFinish 0, rfl, rfl⟩
theorem ethFrameRx (n : Nat) (d : List Byte) (fcsOk : Bool) (fifo : Bool) :
    Statement (.ethFrameRx n d fcsOk fifo) := ⟨.ethFrameRx 0 [] false false, rfl, rfl⟩
theorem ethFrameTxStart (n : Nat) :
    Statement (.ethFrameTxStart n) := ⟨.ethFrameTxStart 0, rfl, rfl⟩
theorem ethLinkChange (n : Nat) (fault : Nat) :
    Statement (.ethLinkChange n fault) := ⟨.ethLinkChange 0 0, rfl, rfl⟩
theorem lldpTx (n : Nat) :
    Statement (.lldpTx n) := ⟨.lldpTx 0, rfl, rfl⟩
theorem lldpTtlExpiry (n : Nat) :
    Statement (.lldpTtlExpiry n) := ⟨.lldpTtlExpiry 0, rfl, rfl⟩
theorem ptpTimestamp (n : Nat) (tx : Bool) (p : Nat) (wait : Nat) :
    Statement (.ptpTimestamp n tx p wait) := ⟨.ptpTimestamp 0 false 0 0, rfl, rfl⟩
theorem ppsInEdge (rising : Bool) :
    Statement (.ppsInEdge rising) := ⟨.ppsInEdge false, rfl, rfl⟩
theorem ppsInLoss : Statement .ppsInLoss := ⟨.ppsInLoss, rfl, rfl⟩
theorem ppsOutRise : Statement .ppsOutRise := ⟨.ppsOutRise, rfl, rfl⟩
theorem ppsOutFall : Statement .ppsOutFall := ⟨.ppsOutFall, rfl, rfl⟩
theorem beaconTx (air : Nat) (ready : Bool) :
    Statement (.beaconTx air ready) := ⟨.beaconTx 0 false, rfl, rfl⟩
theorem urgentTx (ready : Bool) :
    Statement (.urgentTx ready) := ⟨.urgentTx false, rfl, rfl⟩
theorem caravanPacketRx (p : CaravanRx) :
    Statement (.caravanPacketRx p) := ⟨.caravanPacketRx default, rfl, rfl⟩
theorem superframeStart : Statement .superframeStart := ⟨.superframeStart, rfl, rfl⟩
theorem fibreHoldExpiry : Statement .fibreHoldExpiry := ⟨.fibreHoldExpiry, rfl, rfl⟩
theorem channelRound : Statement .channelRound := ⟨.channelRound, rfl, rfl⟩
theorem rootBurnDone (k : Nat) :
    Statement (.rootBurnDone k) := ⟨.rootBurnDone 0, rfl, rfl⟩
theorem gpioEdge (g : Nat) (level : Bool) :
    Statement (.gpioEdge g level) := ⟨.gpioEdge 0 false, rfl, rfl⟩
theorem nvmeCompletion (d : Nat) (cid : Nat) (host : List Byte) :
    Statement (.nvmeCompletion d cid host) := ⟨.nvmeCompletion 0 0 [], rfl, rfl⟩
theorem driveFatalStatus (d : Nat) :
    Statement (.driveFatalStatus d) := ⟨.driveFatalStatus 0, rfl, rfl⟩
theorem restrictedSpEnd (sec : Nat) (i : Nat) (o : Occupant) :
    Statement (.restrictedSpEnd sec i o) := ⟨.restrictedSpEnd 0 0 default, rfl, rfl⟩
theorem fragmentReassemblyTimeout (i : Nat) :
    Statement (.fragmentReassemblyTimeout i) := ⟨.fragmentReassemblyTimeout 0, rfl, rfl⟩
theorem jtagTckEdge (rising : Bool) (tms : Bool) (tdi : Bool) (balls : Nat) :
    Statement (.jtagTckEdge rising tms tdi balls) := ⟨.jtagTckEdge false false false 0, rfl, rfl⟩
theorem jtagTrstLLow : Statement .jtagTrstLLow := ⟨.jtagTrstLLow, rfl, rfl⟩
theorem patrolScrub (ch : Nat) (symbols : Nat) :
    Statement (.patrolScrub ch symbols) := ⟨.patrolScrub 0 0, rfl, rfl⟩

end Sys2Proof.Laws.Operands
end

