-- ==== Sys2Proof/Laws/Total.lean ====
section
/-!
SUPPORT. No command faults or is refused: exec answers a next state for each of them in each state.
-/
namespace Sys2Proof.Machine

theorem issue_next (e : Nat) (long : Bool) (k : Ladle → Issue) (s : State) : ∃ t, issue e long k s = .next t := ⟨_, rfl⟩

theorem estimate_next (e : Nat) (f : FmtA) (r : Nat → Nat × Nat) (s : State) : ∃ t, estimate e f r s = .next t := by
  simp only [estimate]
  split
  · exact issue_next _ _ _ _
  · exact issue_next _ _ _ _

theorem exec_next (i : Instr) (s : State) : ∃ t, exec i s = .next t := by
  cases i
  case leRcp e f => exact estimate_next e f rcpRange s
  case leRsq e f => exact estimate_next e f rsqRange s
  all_goals exact ⟨_, rfl⟩

theorem step_next (s : State) : ∃ t, step s = .next t := by
  unfold step
  split
  · exact ⟨_, rfl⟩
  · exact exec_next _ _

end Sys2Proof.Machine
end

