-- ==== Sys2Proof/Tests/Slice0.lean ====
section
/-!
SUPPORT. Tests: terms that WellFormed.lean refuses, values that the spec writes out, and for every statement of
Obligations.lean with hypotheses a state and operands for each of its clauses that meet them together.
-/
namespace Sys2Proof.Tests
open Sys2Proof Sys2Proof.Machine
set_option linter.unusedVariables false
set_option Elab.async false

/-! ### Ill-formed terms, one for each check of WellFormed.lean, which the check refuses -/

theorem test_illformed_message_fields : (Instr.hello 0 { (default : Message) with major := 256 }).wf = false := by decide
theorem test_illformed_message_payload : (Instr.bye 0 { (default : Message) with payload := List.replicate 4081 0 }).wf = false := by
  decide +kernel
theorem test_illformed_window : (Instr.post 8).wf = false := by decide
theorem test_illformed_vector : (Instr.msixUnmask 64).wf = false := by decide
theorem test_illformed_ring : (Instr.txqDb 16 0).wf = false := by decide
theorem test_illformed_register_write : (Instr.registerWrite 65535 [1, 2]).wf = false := by decide
theorem test_illformed_boot_push : (Instr.bootPush (List.replicate 4097 0)).wf = false := by decide +kernel
theorem test_illformed_link_rate : (Instr.hostLinkUp 81 4).wf = false := by decide
theorem test_illformed_link_width : (Instr.hostLinkUp 80 3).wf = false := by decide
theorem test_illformed_group : (Instr.safePointApply 25 0).wf = false := by decide
theorem test_illformed_version : (Instr.versionRetire 16).wf = false := by decide
theorem test_illformed_sensors : (Instr.sensorPoll [25] [] 0).wf = false := by decide
theorem test_illformed_wake : (Instr.wakeSource 1).wf = false := by decide
theorem test_illformed_health_test : (Instr.rngHealthFail 5).wf = false := by decide
theorem test_illformed_cause : (Instr.faultAdmit ⟨1, 0x0B, 0⟩ 13).wf = false := by decide
theorem test_illformed_unit : (Instr.recastResetDone ⟨3, 0, 0⟩).wf = false := by decide
theorem test_illformed_lane : (Instr.lanePllLock 20).wf = false := by decide
theorem test_illformed_link : (Instr.ccRetryTimeout 16).wf = false := by decide
theorem test_illformed_channel : (Instr.achAbsentTimeout 128).wf = false := by decide
theorem test_illformed_feed : (Instr.feedCheckEnd 16).wf = false := by decide
theorem test_illformed_radio : (Instr.channelAccess 3).wf = false := by decide
theorem test_illformed_sector : (Instr.filsDiscovery 8).wf = false := by decide
theorem test_illformed_head_id : (Instr.headId 0 0 { (default : HeadId) with transceivers := 7 }).wf = false := by decide
theorem test_illformed_head_caps : (Instr.headRfCaps 0 0 { (default : HeadCaps) with maxGain := 128 }).wf = false := by decide
theorem test_illformed_telemetry : (Instr.telemetry 0 [] 0).wf = false := by decide
theorem test_illformed_cc_type : (Instr.ccReservedType 0 0x10 0).wf = false := by decide
theorem test_illformed_gain_type : (Instr.gainEffective 0 0x11).wf = false := by decide
theorem test_illformed_interval : (Instr.txInterval 0 { (default : Interval) with sector := 8 }).wf = false := by decide
theorem test_illformed_mpdu : (Instr.ppduRx 0 { (default : Ppdu) with mpdus := [{ (default : RxMpdu) with tid := 16 }] }).wf = false := by decide
theorem test_illformed_round : (Instr.roundComplete 0 { (default : RoundResult) with recs := [2 ^ 512] }).wf = false := by decide +kernel
theorem test_illformed_calibration : (Instr.calPassEnd 0 [{ (default : CalResult) with chan := 128 }]).wf = false := by decide
theorem test_illformed_station : (Instr.staReportRefresh 0 [{ (default : StaFigures) with station := 4096 }] []).wf = false := by decide
theorem test_illformed_engine : (Instr.jobFetch 0x5C).wf = false := by decide
theorem test_illformed_weight_entry : (Instr.wlPush 0 0 (2 ^ 512)).wf = false := by decide +kernel
theorem test_illformed_format_m : (Instr.leCmac 0 { (default : FmtM) with a := 4 }).wf = false := by decide
theorem test_illformed_format_a : (Instr.leAdd 0 { (default : FmtA) with d := 16 }).wf = false := by decide
theorem test_illformed_format_i : (Instr.leMovi 0 { (default : FmtI) with imm := 65536 }).wf = false := by decide
theorem test_illformed_format_l : (Instr.leLdx 0 { (default : FmtL) with mode := 4 }).wf = false := by decide
theorem test_illformed_format_b : (Instr.leBr 0 { (default : FmtB) with target := 16384 }).wf = false := by decide
theorem test_illformed_format_s : (Instr.leIn 0 { (default : FmtS) with io := 4096 }).wf = false := by decide
theorem test_illformed_sfc : (Instr.ponDsFrame 0 false (2 ^ 51) 0 0 0).wf = false := by decide
theorem test_illformed_xgem : (Instr.xgemFrameRx { (default : Xgem) with key := 4 }).wf = false := by decide
theorem test_illformed_allocation : (Instr.bwmapAllocation { (default : Allocation) with start := 1, stop := 0 } []).wf = false := by decide
theorem test_illformed_key_index : (Instr.keyControl 0 3).wf = false := by decide
theorem test_illformed_ddm : (Instr.ddmPoll (some { (default : DdmRead) with raw := [] })).wf = false := by decide
theorem test_illformed_arrival : (Instr.packetIngress { (default : Arrival) with cls := 8 }).wf = false := by decide
theorem test_illformed_port : (Instr.waybillGive 255 0 0).wf = false := by decide
theorem test_illformed_buffer : (Instr.waybillRelease 33 (.index 6 0)).wf = false := by decide
theorem test_illformed_handle : (Instr.enqueue 262144 0).wf = false := by decide
theorem test_illformed_egress : (Instr.gateListSwitch 66).wf = false := by decide
theorem test_illformed_occupant : (Instr.drrStarvation 0 0 { (default : Occupant) with kind := 256 }).wf = false := by decide
theorem test_illformed_upset : (Instr.sprueRunStart 0 [] (some { (default : Upset) with status := 2 })).wf = false := by decide
theorem test_illformed_run_status : (Instr.sprueRunComplete 0 1).wf = false := by decide
theorem test_illformed_drive : (Instr.driveLinkUp 2).wf = false := by decide
theorem test_illformed_eth_port : (Instr.lldpTx 4).wf = false := by decide
theorem test_illformed_caravan : (Instr.caravanPacketRx { (default : CaravanRx) with code := 5 }).wf = false := by decide
theorem test_illformed_pin : (Instr.gpioEdge 24 true).wf = false := by decide
theorem test_illformed_boundary : (Instr.jtagTckEdge true true true (2 ^ 160)).wf = false := by decide +kernel

/-! ### States of the tests -/

/-- A booted device: stage 0x5, the link up, no session. -/
def Wit.up : State :=
  { State.reset with boot := { State.reset.boot with stage := 5, running := true }, host := { State.reset.host with linkUp := true, speed := 320, width := 4, perstLow := false } }

/-- The same with a session of 3.4. -/
def Wit.ses : State := { Wit.up with mbx := { Wit.up.mbx with session := some (3, 4) } }

/-- A message of a 3.4 session with a payload. -/
def Wit.msg (p : List Byte) : Message :=
  { major := 3, minor := 4, tag := 7, length := p.length, status := 0, epoch := 1, payload := p }

/-! ### Endpoint and windows -/

/-- A session with window 3 armed. -/
def Wit.armed : State :=
  let s : State := { Wit.ses with mbx := { Wit.ses.mbx with armed := [3] } }
  s.setWin 3 { hold := .armed }

/-- Window 2 holds a command. -/
def Wit.held : State :=
  let s : State := { Wit.ses with mbx := { Wit.ses.mbx with
    outstanding := [{ cid := 0, tag := 3, opcode := 0x70, window := 2 }], nextCid := 1 } }
  s.setWin 2 { hold := .command 0 }

/-- A BYE stands in window 3. -/
def Wit.bye : State := Wit.ses.setWin 3 { bytes := writeBytes [] 0 (messageBytes 2 (Wit.msg [])) }

/-- The boot ROM waits for a loader. -/
def Wit.rom : State := { Wit.up with boot := { Wit.up.boot with stage := 1, source := 1 } }

/-- A WARN record has waited, and window 3 is armed. -/
def Wit.batch : State :=
  let r : EvRec := { code := 0x0203, cls := .warn, group := 2, inst := 0, time := 0, last := 0, detail := 0, epoch := 1 }
  { Wit.armed with
    evt := { Wit.armed.evt with recs := [r] }
    time := { Wit.armed.time with tb := Tab.put [] 0 { val := 600000 * 2 ^ 48, isSet := false, rate := 0 } } }

/-! ### Mailbox -/

/-- A session with a staged evt_batch_us. -/
def Wit.staged : State := { Wit.ses with cfg := { Wit.ses.cfg with staging := [⟨Prm.hostEvtBatchUs.id, 0, 100⟩, ⟨0x01004000, 0, 1⟩] } }

/-- A session, with the state of one table instance. -/
def Wit.table (id : Nat) (st : TabState) : State :=
  { Wit.ses with cfg := { Wit.ses.cfg with tables := Tab.put [] (insKey id 0) st, standby := [(tabKey id 0 3, some [9, 9])] } }

/-- A session with key slot 5 filled, which the Pattern names. -/
def Wit.keyed : State :=
  ({ Wit.ses with sec := { Wit.ses.sec with slots := Tab.put [] 5 { usage := 6, key := List.replicate 32 1, persistent := true } } } : State).setPar Prm.secPatternKeySlot 0 5

/-- A session with a store of one drive and one object. -/
def Wit.store (st : ObjSt) : State :=
  let s : State := { Wit.ses with dma := { Wit.ses.dma with
    drive := Tab.put [] 0 { st := .ready, extents := 100000 }
    objs := [{ key := 77, drive := 0, max := 4096, st := st, data := List.replicate 100 5 }] } }
  s.setPar Prm.storeEnable 0 1

/-- A READ of that object is outstanding. -/
def Wit.reading : State :=
  let s := Wit.store .sealed
  { s with
    mbx := { s.mbx with outstanding := [{ cid := 0, tag := 3, opcode := 0x47, window := 1, pending := true }], nextCid := 1 }
    dma := { s.dma with jobs := [{ cid := 0, op := .read, key := 77, len := 50 }] } }

/-- Headers of a splice: Ethernet, IPv4, and TCP or UDP. -/
def Wit.template (tcp : Bool) : List Byte :=
  List.replicate 12 1 ++ [8, 0, 0x45] ++ List.replicate 8 0 ++ [if tcp then 6 else 17] ++ List.replicate 10 0 ++
    (if tcp then List.replicate 12 0 ++ [0x50] ++ List.replicate 7 0 else List.replicate 8 0)

/-- The payload of a splice of bytes 10 to 59 of the object. -/
def Wit.splice (tcp : Bool) : List Byte :=
  le 16 77 ++ le 8 10 ++ le 8 50 ++ le 2 300 ++ le 1 0 ++ le 1 (Wit.template tcp).length ++ le 2 100 ++ le 2 0 ++ le 4 0 ++ le 2 6 ++ le 10 0 ++
    Wit.template tcp

/-! ### Lanes, links, channels and feeds -/

/-- Lane n in a state. -/
def Wit.lane (n : Nat) (k : Lane) : State := ({ Wit.ses with radio := { Wit.ses.radio with lane := Tab.put [] n k } } : State).setPar Prm.laneEnable n 1

/-- Link 2 in a state, with its lane UP. -/
def Wit.link (k : Link) : State :=
  let s := (Wit.lane 2 { st := .up }).setPar Prm.linkEnable 2 1
  { s with radio := { s.radio with link := Tab.put [] 2 k } }

/-- Channel 5 in a state. -/
def Wit.ach (a : Ach) : State := { Wit.ses with radio := { Wit.ses.radio with ach := Tab.put [] 5 a } }

/-- Radio 0 with a calibration. -/
def Wit.cal (k : Cal) : State := { Wit.ses with radio := { Wit.ses.radio with cal := Tab.put [] 0 k } }

/-- Feed 3 in a state. -/
def Wit.feed (f : Feed) : State := { Wit.ses with radio := { Wit.ses.radio with feed := Tab.put [] 3 f } }

/-- A received frame whose control word is right. -/
def Wit.frame : Nat := scrambled 192 (CtlWord.encode { fnum := 12, mf := 3 })

/-- A radio head's capabilities. -/
def Wit.caps : HeadCaps := { minGain := 0, maxGain := 40, gainStep := 8, level := 0, maxTx := 20, maxAtten := 30, trSwitch := 1, lowMhz := 2000, highMhz := 7200 }

/-- A radio head. -/
def Wit.head : HeadId := { vendor := 1, model := 1, serial := 1, verMax := 2, transceivers := 9, caps := 7, turnaround := 0, capture := 0, emission := 0 }

/-! ### The Crucible -/

/-- Sector 6 (radio 2) with one weight-load entry, and a set in the shadow banks of its radio. -/
def Wit.mould (e : Nat) (b : Beam) : State :=
  { Wit.ses with beam := { radio := Tab.put [] 2 b, sector := Tab.put [] 6 { fifo := [e, 1] } } }

/-- A set that sector 6 has begun. -/
def Wit.set : ShadowSet := { id := 0x2A31, spec := false, basis := 1001, validUntil := 0, antUsed := 3, users := 2, begun := [6] }

/-- Radio 2 with sector 6 in service, a channel and a wireless radio. -/
def Wit.air (r : WRadio) : State :=
  let s : State := { Wit.ses with wlan := { Wit.ses.wlan with radio := Tab.put [] 2 r }, radio := { Wit.ses.radio with ach := Tab.put [] 70 { st := .active } } }
  s.setPar Prm.beamEnable 6 1

/-- An entry of the station table: a link on radio 2 in sector 6. -/
def Wit.staLinks : Nat := 2 ^ 63 + 77 + 2 ^ (64 * 3) * (5 + 6 * 2 ^ 48 + 2 ^ 51 + 6 * 2 ^ 52) + 2 ^ 256 * 0 + 2 ^ 286 * 0 + (2 ^ 24 - 1) * 2 ^ 296

/-- Station 9 is awake on radio 2. -/
def Wit.sounding : State :=
  let s := Wit.air {}
  setActive Tbl.staEntry 9 0 (le 64 Wit.staLinks) { s with wlan := { s.wlan with sta := Tab.put [] 9 { awake := 4, buffered := 100 } } }

/-- The same set with every sector's part. -/
def Wit.whole : ShadowSet := { Wit.set with ended := sectorsOf 2 }

/-- Radio 2 with that set loaded. -/
def Wit.loaded : State :=
  { Wit.ses with beam := { radio := Tab.put [] 2 { shadow := some Wit.whole }, sector := Tab.put [] 6 { shadow := [(4, 5)] } } }

/-! ### The wireless MAC -/

/-- Radio 2 with station 9 awake on it in sector 6, and sector 6's TSF past its first beacon interval. -/
def Wit.wlan (r : WRadio) (x : WSector) (st : StaSt) : State :=
  let s := Wit.air r
  setActive Tbl.staEntry 9 0 (le 64 Wit.staLinks)
    { s with
      wlan := { s.wlan with sta := Tab.put [] 9 st, sector := Tab.put [] 6 x }
      time := { s.time with tb := Tab.put (Tab.put [] 0 { val := 30000000 * 2 ^ 48, isSet := false, rate := 0 }) 9 { val := 150000000 * 2 ^ 48, isSet := true, rate := 0 } } }

/-- A packet waits in queue 72, for station 9. -/
def Wit.queued : State :=
  let s := Wit.wlan {} {} { awake := 4 }
  { s with toll := { s.toll with q := Tab.put [] 72 { pkts := [{ handle := 100, len := 60, at_ := 0 }] } } }

/-- A packet for station 9 has been dequeued, and a TXOP of radio 2 runs. -/
def Wit.interval : State :=
  let s := Wit.wlan { txop := some (30000000, 40000000) } {} { awake := 4 }
  { s with
    toll := { s.toll with sched := Tab.put [] 2 { out := [(100, 74)] } }
    pkt := { s.pkt with wb := Tab.put [] 100 { used := true, tid := 2, data := [1, 2, 3] } } }

/-- Schedule 3 of sector 6 is a restricted one whose period runs. -/
def Wit.period : State := setActive Tbl.wlanTwt 6 3 (le 8 140000 ++ le 4 100000 ++ le 2 20000 ++ le 1 0 ++ le 1 3) (Wit.wlan {} {} {})

/-! ### Ladle engines -/

/-- Engine 3 in service, in a state. -/
def Wit.engine (x : Ladle) : State :=
  let s : State := { Wit.ses with task := { Wit.ses.task with eng := Tab.put [] 3 x } }
  s.setPar Prm.ladleEnable 3 1

/-- Registers, accumulators and feed registers of bank 0. -/
def Wit.bank : Bank :=
  { d := [(0, 5), (1, 0xFFFFFFF0), (2, 0x80007FFF), (3, 2 ^ 30 + 12345)], acc := [(0, 12345), (1, 2 ^ 39 - 1), (2, 2 ^ 40 - 70000)]
    f := [(0, 0x80008000), (1, 0x12348765), (2, 0x80000003)], idx := [(0, 16), (4, 32)] }

/-- Engine 3 as the scheduler sees it. -/
def Wit.runner (r : Runner) : State :=
  let s := Wit.engine {}
  { s with task := { s.task with run := Tab.put [] 3 r } }

/-- Engine 3 runs a job of kernel slot 2, which owns channel 5 of its Sprue engine. -/
def Wit.kernel : State :=
  let s := Wit.runner { job := some { queue := 20, kind := 0, arg := 1, cost := 1 } }
  let s := (s.setPar Prm.taskQueueSlot 20 2).setPar Prm.dmaChanOwner 5 2
  { s with task := { s.task with slot := Tab.put [] 2 { abi := 2, engines := 8, posts := [21] } } }

/-- The watchdog of engine 3 is past its limit. -/
def Wit.stuck : State :=
  let s := (Wit.runner { job := some { queue := 20, kind := 0, arg := 1, cost := 1 } }).setPar Prm.ladleJobWatchdogUs 3 1000
  { s with time := { s.time with tb := Tab.put [] 0 { val := 30000000 * 2 ^ 48, isSet := false, rate := 0 } } }

/-! ### The PON terminal -/

/-- A terminal in sync, in a state. -/
def Wit.pon (x : Pon) : State := ({ Wit.ses with pon := { x with sync := .sync } } : State).setPar Prm.ponMode 0 2

/-- A terminal in another sync state, automatic mode or another parameter apart. -/
def Wit.rx (x : Pon) (p : ParamDef) (v : Int) : State := (({ Wit.ses with pon := x } : State).setPar Prm.ponMode 0 2).setPar p 0 v

/-- A burst profile. -/
def Wit.profile : PonProfile := { psbuBits := 512, preamble := 1, delimiter := 2, fec := true, fast := false }

/-- An operating terminal with ONU-ID 5 and Alloc-IDs 5 and 300. -/
def Wit.onu : Pon :=
  { st := .o51, onuId := 5, eqd := 1000, profile := [(1, some Wit.profile)]
    alloc := [(0, { used := true, allocId := 5 }), (1, { used := true, allocId := 300, run := 7 })] }

/-- The same with XGEM port 900 as entry 3. -/
def Wit.xgem (x : Pon) : State := setActive Tbl.ponXgem 0 3 (le 8 (900 + 2 ^ 16 + 2 ^ 17)) (Wit.pon x)

/-! ### Packets and queues -/

/-- The packet path with its pools, waybills, rules and tables as given. -/
def Wit.path (p : Pkt) (t : Toll) : State := ({ Wit.ses with pkt := p, toll := t } : State).setPar Prm.pktEnable 0 1

/-- Waybill 100 of 60 bytes in pool 0, owned by a port. -/
def Wit.bill (port : Nat) : Waybill := { used := true, pool := 0, buffer := 4, owner := port, data := List.replicate 60 7 }

/-- The same in the store. -/
def Wit.stored (port : Nat) (t : Toll) : State := Wit.path { wb := [(100, Wit.bill port)], pool := [(0, { used := [2, 4] })] } t

/-- Waybill 100 waits alone in a queue. -/
def Wit.waits (q : Nat) : Toll := { q := [(q, { pkts := [{ handle := 100, len := 80, at_ := 0 }] })] }

/-- A later time of TB0, in ns. -/
def Wit.at_ (ns : Nat) (s : State) : State := { s with time := { s.time with tb := Tab.put [] 0 { val := ns * 2 ^ 48, isSet := false, rate := 0 } } }

/-! ### Lists, rings and drives -/

/-- Sprue engine 2 holds a list at address 64 on channel 5: one entry, `len` bytes from 256 to 512, tag 9. -/
def Wit.list (len : Nat) : State :=
  let e : List Byte := le 8 256 ++ le 8 512 ++ le 4 len ++ le 4 1 ++ le 4 9 ++ le 4 0
  { Wit.ses with
    boot := { Wit.ses.boot with ddrBytes := 2 ^ 32 }
    dma := { Wit.ses.dma with chan := Tab.put [] 69 (some 64), ddr := Memory.write (Memory.write [] 64 e) 256 [1, 2, 3, 4] } }

/-- The same engine has run it, for a status. -/
def Wit.ran (st : Nat) (cq : List (Nat × Nat × Nat)) : State :=
  { Wit.ses with dma := { Wit.ses.dma with
      chan := Tab.put [] 69 (some 64), sprue := Tab.put [] 2 { running := some { chan := 5, status := st, tag := 9, bytes := 4, entry := 0 }, cq := cq } } }

/-- Transmit ring 17 runs with three posted descriptors. -/
def Wit.ring : State :=
  ({ Wit.ses with dma := { Wit.ses.dma with ring := Tab.put [] 17 { prod := 3 } } } : State).setPar Prm.dmaRingEnable 17 1

/-- A descriptor of a packet of 64 bytes for queue 16400, TID 3, alone in its packet. -/
def Wit.desc : Nat := 64 * 2 ^ 64 + 2 ^ 80 + 2 * 2 ^ 81 + 16400 * 2 ^ 83 + 3 * 2 ^ 98

/-- Drive 0 in a state, with object 77 on its media and in the index. -/
def Wit.driven (x : Drive) : State :=
  let o : Obj := { key := 77, drive := 0, max := 4096, st := .sealed, sealedAt := 1, data := [1, 2] }
  { Wit.ses with dma := { Wit.ses.dma with drive := Tab.put [] 0 { x with media := [o] }, objs := [o, { o with key := 78, drive := 1 }] } }

/-- A store command works on object 77 of drive 0. -/
def Wit.working (st : ObjSt) (j : StoreJob) : State := let s := Wit.store st; { s with dma := { s.dma with jobs := [{ j with cid := 4, key := 77 }] } }

/-! ### Ethernet and time -/

/-- Port 1, its lane up, in a state. -/
def Wit.eth (x : EthPort) (p : Pkt) (t : Toll) : State :=
  let s := Wit.path p t
  { s with
    radio := { s.radio with lane := Tab.put [] 17 { st := .up } }
    eth := { s.eth with port := Tab.put [] 1 x } }

/-- A frame of 60 bytes and more, to a multicast address. -/
def Wit.frameTo (n : Nat) : List Byte := beBytes 6 0x010203040506 ++ beBytes 6 7 ++ beBytes 2 0x1234 ++ List.replicate n 3

/-- A second of TB0 and TB2 with the input seen. -/
def Wit.pps (lost : Bool) (ns : Nat) : State :=
  let s := (Wit.ses.setPar Prm.timePpsInEnable 0 1).setPar Prm.timeTb2Source 0 3
  { s with
    time := { s.time with
      ppsSeen := true
      ppsLost := lost
      ppsLast := 5
      tb := Tab.put (Tab.put [] 0 { val := ns * 2 ^ 48 }) 2 { val := 7 * 2 ^ 48, isSet := true } } }

/-- Port 1 with a MAC address that it still has in force. -/
def Wit.mac (s : State) : State := { s with cfg := { s.cfg with old := [(parKey Prm.ethMacAddr.id 1, some 7)] } }

/-! ### The venue fabric -/

/-- A member of the fabric in a state, TB2 SET and at a time in ns. -/
def Wit.cvn (x : Caravan) (ns : Nat) : State :=
  let s := (Wit.ses.setPar Prm.cvnRegion 0 1).setPar Prm.cvnEnable 0 1
  { s with cvn := x, time := { s.time with tb := Tab.put [] 2 { val := ns * 2 ^ 48, isSet := true } } }

/-- A beacon of member 9 in superframe 1. -/
def Wit.beacon : List Byte := be 12 (3 * 2 ^ 94 + 2 ^ 92 + 9 * 2 ^ 81 + 77 * 2 ^ 49 + 2 ^ 17 + 2 * 2 ^ 13 + 2 ^ 11)

/-- A venue plan that governs radio 1. -/
def Wit.plan (x : Caravan) : State :=
  setActive Tbl.cvnPlan 0 0 (le 2 5 ++ le 4 0 ++ le 1 2 ++ le 1 0 ++ le 20 0 ++ le 1 2 ++ le 1 0 ++ le 8 (36 + 40 * 256)) (Wit.cvn x 5000000000)

/-! ### Boot, resets, power and recasts -/

/-- A boot record in place of that of a device in stage 0. -/
def Wit.boot (b : Boot) : State := { State.reset with boot := b }

/-- The device in a power state. -/
def Wit.power (p : Power) : State := { Wit.ses with power := p }

/-- The device with recasts. -/
def Wit.recast (r : Recast) : State := { Wit.ses with recast := r }

/-- Sixteen temperatures, the sixth the highest, and nine rails, the second too high. -/
def Wit.temps : List Int := [300, 310, 320, 330, 340, 1010, 350, 300, 300, 300, 300, 300, 300, 300, 300, 300]
def Wit.rails : List Nat := [750, 950, 1200, 850, 875, 500, 1800, 1800, 750]

/-- Wit.reading is one of the states that the invariant of Safety.lean admits. -/
theorem wit_inv : Wit.reading.Inv where
  epoch := by decide +kernel
  stage := Or.inl (by decide +kernel)
  windows := ⟨by decide +kernel, fun _ => rfl⟩
  armed := fun w => ⟨fun h => (by cases h), fun h => (by cases h)⟩

/-- Wit.stored with pools of no buffers: no address names one. -/
def Wit.noPools : State :=
  (List.range 6).foldl (fun s p => s.setPar Prm.poolCount p 0) (Wit.stored 33 {})

theorem wit_noBuffer : Wit.noPools.addrBuffer 1 = none := by
  have h : ∀ p, p ∈ List.range 6 → Wit.noPools.parN Prm.poolCount p = 0 := by decide +kernel
  have g : (List.range 6).find? (fun p => decide (Config.poolBase p ≤ 1) &&
      decide (1 < Config.poolBase p + Wit.noPools.parN Prm.poolCount p * Wit.noPools.parN Prm.poolSize p)) = none := by
    rw [List.find?_eq_none]
    intro p hp
    simp only [h p hp, Bool.and_eq_true, decide_eq_true_eq]
    omega
  simp only [State.addrBuffer, g, Option.bind_none]

/-- Nothing names key slot 5 of Wit.keyed. -/
theorem wit_noUsers : (Wit.keyed.setPar Prm.secPatternKeySlot 0 0xFFFF).slotUsers 5 = [] := by
  have a : ∀ i, (Wit.keyed.setPar Prm.secPatternKeySlot 0 0xFFFF).entry Tbl.staEntry i 0 = Tbl.staEntry.default 0 0 := fun _ => rfl
  have b : ∀ i, (Wit.keyed.setPar Prm.secPatternKeySlot 0 0xFFFF).standbyEntry Tbl.staEntry i 0 = Tbl.staEntry.default 0 0 :=
    fun _ => rfl
  have c : (staSlots (Tbl.staEntry.default 0 0)).contains 5 = false := by decide +kernel
  simp only [State.slotUsers, List.append_eq_nil_iff, List.flatMap_eq_nil_iff, a, b, c, Bool.or_false]
  exact ⟨⟨by decide +kernel, fun _ _ => if_neg Bool.false_ne_true⟩, by decide +kernel⟩

/-- No buffer of this state lies in a ring. -/
theorem wit_noRings (h : Nat) :
    (({(Wit.at_ 30000000 (Wit.stored 33 {})).setPar Prm.pktDcWatchdogUs 0 1000 with
        task := {Wit.ses.task with run := [(65, {job := some {queue := 1, kind := 1, arg := 100, cost := 1}})]}} : State).wb h).owner = 33 →
      (({(Wit.at_ 30000000 (Wit.stored 33 {})).setPar Prm.pktDcWatchdogUs 0 1000 with
        task := {Wit.ses.task with run := [(65, {job := some {queue := 1, kind := 1, arg := 100, cost := 1}})]}} : State).wb h).ring = none := by
  intro _
  show (Tab.get [(100, Wit.bill 33)] h).ring = none
  simp only [Tab.get]
  split <;> rfl

/-- Bit 14 of an entry of BEAM.sta_report that holds its default is 0. -/
theorem wit_notNulled (j : Nat) (h : j < 2048) : (leNat (Tbl.staReport.default 0 j)).testBit 14 = false := by
  have e : Tbl.staReport.default 0 j = BitVec.ofNat 8 j :: BitVec.ofNat 8 (j / 256) :: (Tbl.staReport.default 0 j).drop 2 := rfl
  rw [e, Nat.testBit_eq_decide_div_mod_eq]
  simp only [leNat, BitVec.toNat_ofNat, decide_eq_false_iff_not]
  omega

/-! ### Values that the spec writes out -/

/-- Table 15-10. -/
theorem test_caravan_slots : [slotOf 1116 86, slotOf 1117 86, slotOf 1118 86, slotOf 1119 86] = [279, 365, 451, 25] ∧
    [slotOf 1116 89, slotOf 1117 89, slotOf 1118 89, slotOf 1119 89] = [279, 368, 457, 34] := by decide

/-- The join of chapter 15: the sync word of member 1,460 ends 2.920994 s into each superframe. -/
theorem test_caravan_sync_end : syncEnd 0 365 3 = 2920994000 := by decide

/-- Table 7-12. -/
theorem test_beam_costs : [beamCost 64 64, beamCost 36 48, beamCost 8 16] = [443050, 103680, 1813] := by decide

/-- The record that chapter 3 writes out byte by byte. -/
theorem test_pattern_record : paramRec Prm.hostEvtBatchUs 0 2000 =
    [1, 0, 0, 0, 0x10, 0, 0, 0, 0, 0x40, 0, 2, 0, 0, 1, 0, 0xD0, 7, 0, 0, 0, 0, 0, 0] := by decide +kernel

/-- The fields of the group key rotation of chapter 16. -/
theorem test_group_key_fields : gtkField 0xFFFF0257 = true ∧ gtkField 0x02580257 = true ∧ gtkField 0x10258FFFF = true := by decide +kernel

/-- Table 2-13: the header of the PARAM_GET of Table 2-23, step 13. -/
theorem test_message_header : header 3 4 0x10 0x105 8 0 7 = [3, 4, 0x10, 0, 5, 1, 0, 0, 8, 0, 0, 0, 7, 0, 0, 0] := by decide

/-- The state that a command answers. -/
def Wit.after (o : Host.Outcome State Fault Refusal) : State :=
  match o with
  | .next t => t
  | _ => State.reset

/-- R39: the session ends, the epoch is 1, and boot_count has counted. -/
theorem test_chip_reset : (Wit.after (exec .chipReset Wit.ses)).mbx.session = none ∧
    (Wit.after (exec .chipReset Wit.ses)).mbx.epoch = 1 ∧ (Wit.after (exec .chipReset Wit.ses)).boot.count = 1 := by decide +kernel

/-- R45: a POST of a window that the device holds leaves it alone and is a protocol error. -/
theorem test_post_of_armed_window : ((Wit.after (exec (.post 3) Wit.armed)).win 3).hold = .armed ∧
    ((Wit.after (exec (.post 3) Wit.armed)).win 3).protoErr = true := by decide +kernel

/-! ### The hypotheses of each clause of a statement can be met -/

theorem witness_InvariantKeptByEveryStep : ∃ s t : State, s.Inv ∧ step s = .next t := ⟨Wit.reading, _, wit_inv, rfl⟩

theorem witness_StepRunsTheFrontCommand :
    ∃ (s : State) (i : Instr) (rest : List Instr), s.pending = i :: rest :=
  ⟨({Wit.ses with pending := [.hotReset]}), .hotReset, [], by decide +kernel⟩

theorem witness_CoreCycleAdvancesTimeBases :
    ∃ (s : State), s.pending = [] :=
  ⟨Wit.ses, by decide +kernel⟩

theorem witness_EndpointResetsAndTraining :
    (∃ (s : State), s.Inv ∧ s.host.perstLow = false) ∧
    (∃ (s : State), s.Inv ∧ s.hostUp = true) ∧
    (∃ (s : State) (speed : Nat) (width : Nat), s.boot.running = true ∧ s.host.perstLow = false ∧ s.host.linkUp = false ∧ bit s.power.down 11 = false ∧ speed ∈ [25, 50, 80, 160, 320] ∧ width ∈ [1, 2, 4]) ∧
    (∃ (s : State) (v : Nat), s.hostUp = true ∧ v < 64) :=
  ⟨⟨Wit.reading, wit_inv, by decide +kernel⟩,
   ⟨Wit.reading, wit_inv, by decide +kernel⟩,
   ⟨({Wit.up with host := {Wit.up.host with linkUp := false}}), 80, 2, by decide +kernel⟩,
   ⟨({Wit.up with host := {Wit.up.host with pba := 8}}), 3, by decide +kernel⟩⟩

theorem witness_ChipResetStartsAgain :
    ∃ (s : State), s.hostUp = true :=
  ⟨Wit.reading, by decide +kernel⟩

theorem witness_RecastDevReclaimsCommands :
    ∃ (s : State), s.hostUp = true ∧ s.ready = true ∧ s.recast.held = false ∧ s.recast.jobs = [] ∧ s.power.st = PState.run ∧ s.mbx.armed = [] :=
  ⟨Wit.reading, by decide +kernel⟩

set_option maxRecDepth 20000 in
theorem witness_WindowDoorbellsHandOver :
    (∃ (s : State) (w : Nat), s.hostUp = true ∧ w < 8 ∧ s.ready = true ∧ (s.win w).hold = Hold.host ∧ s.mbx.session.isSome = true ∧ s.mbx.armed = [] ∧ s.mbx.control = [] ∧ s.evt.recs = []) ∧
    (∃ (s : State) (w : Nat), s.hostUp = true ∧ w < 8 ∧ s.ready = true ∧ (s.win w).hold = Hold.host ∧ s.mbx.session = none) ∧
    (∃ (s : State) (w : Nat), s.hostUp = true ∧ w < 8 ∧ s.ready = true ∧ (s.win w).hold = Hold.armed) ∧
    (∃ (s : State) (w : Nat), s.hostUp = true ∧ w < 8 ∧ s.ready = true) ∧
    (∃ (s : State) (w : Nat) (m : Message), s.hostUp = true ∧ w < 8 ∧ s.ready = true ∧ Sendable 2 w m s ∧ s.message w = messageBytes 2 m ++ List.replicate (4080 - m.payload.length) 0) ∧
    (∃ (s : State) (w : Nat), s.hostUp = true ∧ w < 8 ∧ s.owns w = true) ∧
    (∃ (s : State) (w : Nat) (off : Nat), s.hostUp = true ∧ w < 8 ∧ s.owns w = true ∧ off < 4096) ∧
    (∃ (s : State) (w : Nat), s.hostUp = true ∧ w < 8 ∧ (s.win w).hold = Hold.host) :=
  ⟨⟨Wit.ses, 3, by decide +kernel⟩,
   ⟨Wit.up, 3, by decide +kernel⟩,
   ⟨Wit.armed, 3, by decide +kernel⟩,
   ⟨Wit.armed, 3, by decide +kernel⟩,
   ⟨Wit.bye, 3, (Wit.msg []), by decide +kernel, by decide +kernel, by decide +kernel, ⟨by decide +kernel, by decide +kernel, by decide +kernel, by decide +kernel, by decide +kernel, by decide +kernel, by decide +kernel, by decide +kernel, by decide +kernel, by decide +kernel, by decide +kernel, by decide +kernel, by decide +kernel, by decide +kernel⟩, by decide +kernel⟩,
   ⟨Wit.armed, 3, by decide +kernel⟩,
   ⟨Wit.armed, 3, 5, by decide +kernel⟩,
   ⟨Wit.armed, 2, by decide +kernel⟩⟩

theorem witness_DoorbellsAndRegisterWrites :
    (∃ (s : State) (n : Nat), s.hostUp = true ∧ n < 16 ∧ s.par Prm.dmaRingEnable n = 1) ∧
    (∃ (s : State) (n : Nat), s.hostUp = true ∧ n < 16 ∧ s.par Prm.dmaRingEnable (16 + n) = 1) ∧
    (∃ (s : State) (w : Nat) (off : Nat) (b : List Byte), s.hostUp = true ∧ w < 8 ∧ (s.win w).hold = Hold.host ∧ off + b.length ≤ 4096 ∧ off < 4096) ∧
    (∃ (s : State) (n : Nat) (v : Nat), s.hostUp = true ∧ n < 16 ∧ v < 2 ^ 32 ∧ s.par Prm.dmaRingEnable n = 1) :=
  ⟨⟨(Wit.up.setPar Prm.dmaRingEnable 5 1), 5, by decide +kernel⟩,
   ⟨(Wit.up.setPar Prm.dmaRingEnable 21 1), 5, by decide +kernel⟩,
   ⟨Wit.ses, 3, 4090, [1,2,3,4,5,6], by decide +kernel⟩,
   ⟨(Wit.up.setPar Prm.dmaRingEnable 5 1), 5, 70000, by decide +kernel⟩⟩

theorem witness_PushedChunksAndBatches :
    (∃ (s : State) (image : Nat) (total : Nat) (data : List Byte), s.hostUp = true ∧ s.boot.source = 1 ∧ s.boot.stage = image ∧ (image = 1 ∨ image = 2) ∧ s.boot.loaderRuns = decide (image = 2) ∧ (s.win 0).hold = Hold.host ∧ data ≠ [] ∧ data.length ≤ 4064 ∧ s.boot.push.bytes.length + data.length ≤ total ∧ total ≤ 2 ^ 19 ∧ (s.boot.push.bytes = [] ∨ s.boot.push.total = total)) ∧
    (∃ (s : State) (w : Nat) (r : EvRec), s.ready = true ∧ w < 8 ∧ (s.win w).hold = Hold.armed ∧ s.mbx.armed = [w] ∧ s.mbx.control = [] ∧ s.evt.recs = [r] ∧ s.delivers r.cls = true ∧ r.time / 65536 + s.parN Prm.hostEvtBatchUs 0 * 1000 ≤ s.now) :=
  ⟨⟨Wit.rom, 1, 9, [1,2,3], by decide +kernel⟩,
   ⟨Wit.batch, 3, (Wit.batch.evt.recs.headD default), by decide +kernel⟩⟩

theorem witness_HelloOpensAndByeCloses :
    (∃ (s : State) (w : Nat) (m : Message), Sendable 1 w m s ∧ fieldAt m.payload 4 4 = 0 ∧ fieldAt m.payload 0 1 * 256 + fieldAt m.payload 1 1 ≤ 772 ∧ 772 ≤ fieldAt m.payload 2 1 * 256 + fieldAt m.payload 3 1) ∧
    (∃ (s : State) (w : Nat) (m : Message), Sendable 1 w m s ∧ fieldAt m.payload 4 4 = 0 ∧ fieldAt m.payload 2 1 * 256 + fieldAt m.payload 3 1 < 512) ∧
    (∃ (s : State) (w : Nat) (m : Message), Sendable 2 w m s) :=
  ⟨⟨Wit.up, 0, (Wit.msg [3,0,3,4,0,0,0,0]), ⟨by decide +kernel, by decide +kernel, by decide +kernel, by decide +kernel, by decide +kernel, by decide +kernel, by decide +kernel, by decide +kernel, by decide +kernel, by decide +kernel, by decide +kernel, by decide +kernel, by decide +kernel, by decide +kernel⟩, by decide +kernel, by decide +kernel, by decide +kernel⟩,
   ⟨Wit.ses, 0, (Wit.msg [1,0,1,4,0,0,0,0]), ⟨by decide +kernel, by decide +kernel, by decide +kernel, by decide +kernel, by decide +kernel, by decide +kernel, by decide +kernel, by decide +kernel, by decide +kernel, by decide +kernel, by decide +kernel, by decide +kernel, by decide +kernel, by decide +kernel⟩, by decide +kernel, by decide +kernel⟩,
   ⟨Wit.ses, 0, (Wit.msg []), ⟨by decide +kernel, by decide +kernel, by decide +kernel, by decide +kernel, by decide +kernel, by decide +kernel, by decide +kernel, by decide +kernel, by decide +kernel, by decide +kernel, by decide +kernel, by decide +kernel, by decide +kernel, by decide +kernel⟩⟩⟩

theorem witness_ParameterCommandsReadStageAndCommit :
    (∃ (s : State) (w : Nat) (m : Message) (p : ParamDef) (i : Nat), Sendable 16 w m s ∧ Prm.find p.id = some p ∧ (p.access = Access.rw ∨ p.access = Access.rc) ∧ paramInst p i = true ∧ s.stoppedUnits = [] ∧ m.payload = le 2 1 ++ le 6 0 ++ le 4 p.id ++ le 2 i ++ le 2 0 ∧ p.id < 2 ^ 32 ∧ i < 65535 ∧ p.id ≠ Prm.hostLastStatus.id) ∧
    (∃ (s : State) (w : Nat) (m : Message) (p : ParamDef) (i : Nat) (v : Int), Sendable 17 w m s ∧ Prm.find p.id = some p ∧ p.access = Access.rw ∧ paramInst p i = true ∧ (v = 0 ∨ p.inRange v = true) ∧ p.decode (ParamDef.encode v) = v ∧ p.id < 2 ^ 32 ∧ i < 65535 ∧ s.cfg.staging.length < 4096 ∧ m.payload = le 2 1 ++ le 6 0 ++ le 4 p.id ++ le 2 i ++ le 2 0 ++ le 8 (ParamDef.encode v)) ∧
    (∃ (s : State) (w : Nat) (m : Message) (v : Int), Sendable 18 w m s ∧ m.payload = [2, 0, 0, 0] ∧ s.stagingOf 2 = [{ id := Prm.hostEvtBatchUs.id, inst := 0, value := v }] ∧ 0 ≤ v ∧ v ≤ 10000 ∧ s.cfg.commits = []) ∧
    (∃ (s : State) (w : Nat) (m : Message) (g : Nat), Sendable 19 w m s ∧ m.payload = le 1 g ++ le 3 0 ∧ (1 ≤ g ∧ g ≤ 24 ∨ g = 255)) :=
  ⟨⟨Wit.ses, 0, (Wit.msg (le 2 1 ++ le 6 0 ++ le 4 Prm.hostEvtBatchUs.id ++ le 2 0 ++ le 2 0)), Prm.hostEvtBatchUs, 0, ⟨by decide +kernel, by decide +kernel, by decide +kernel, by decide +kernel, by decide +kernel, by decide +kernel, by decide +kernel, by decide +kernel, by decide +kernel, by decide +kernel, by decide +kernel, by decide +kernel, by decide +kernel, by decide +kernel⟩, rfl, by decide +kernel, by decide +kernel, by decide +kernel, by decide +kernel, by decide +kernel, by decide +kernel, by decide +kernel⟩,
   ⟨Wit.ses, 0, (Wit.msg (le 2 1 ++ le 6 0 ++ le 4 Prm.hostEvtBatchUs.id ++ le 2 0 ++ le 2 0 ++ le 8 300)), Prm.hostEvtBatchUs, 0, 300, ⟨by decide +kernel, by decide +kernel, by decide +kernel, by decide +kernel, by decide +kernel, by decide +kernel, by decide +kernel, by decide +kernel, by decide +kernel, by decide +kernel, by decide +kernel, by decide +kernel, by decide +kernel, by decide +kernel⟩, rfl, by decide +kernel, by decide +kernel, by decide +kernel, by decide +kernel, by decide +kernel, by decide +kernel, by decide +kernel, by decide +kernel⟩,
   ⟨Wit.staged, 0, (Wit.msg [2,0,0,0]), 100, ⟨by decide +kernel, by decide +kernel, by decide +kernel, by decide +kernel, by decide +kernel, by decide +kernel, by decide +kernel, by decide +kernel, by decide +kernel, by decide +kernel, by decide +kernel, by decide +kernel, by decide +kernel, by decide +kernel⟩, by decide +kernel, by decide +kernel, by decide +kernel, by decide +kernel, by decide +kernel⟩,
   ⟨Wit.staged, 0, (Wit.msg [1,0,0,0]), 1, ⟨by decide +kernel, by decide +kernel, by decide +kernel, by decide +kernel, by decide +kernel, by decide +kernel, by decide +kernel, by decide +kernel, by decide +kernel, by decide +kernel, by decide +kernel, by decide +kernel, by decide +kernel, by decide +kernel⟩, by decide +kernel, by decide +kernel⟩⟩

theorem witness_TableCommandsUseTwoPages :
    (∃ (d : TableDef) (s : State) (w : Nat) (i : Nat) (m : Message) (k : Nat) (b : List Byte), d ∈ [Tbl.pktItable, Tbl.pktHashKey, Tbl.pktNexthop, Tbl.pktMcast, Tbl.pktDscpMap] ∧ i < d.insts ∧ s.stoppedUnits = [] ∧ (s.tabState d.id i).switching = false ∧ (s.tabState d.id i).copying = false ∧ Sendable 32 w m s ∧ k < d.entries i ∧ b.length = d.size ∧ m.payload = le 4 d.id ++ le 2 i ++ le 2 0 ++ le 4 k ++ le 2 1 ++ le 2 d.size ++ b) ∧
    (∃ (d : TableDef) (s : State) (w : Nat) (i : Nat) (m : Message) (k : Nat) (page : Nat), d ∈ [Tbl.pktItable, Tbl.pktHashKey, Tbl.pktNexthop, Tbl.pktMcast, Tbl.pktDscpMap] ∧ i < d.insts ∧ s.stoppedUnits = [] ∧ (s.tabState d.id i).switching = false ∧ (s.tabState d.id i).copying = false ∧ Sendable 33 w m s ∧ k < d.entries i ∧ page < 2 ∧ m.payload = le 4 d.id ++ le 2 i ++ le 2 page ++ le 4 k ++ le 2 1 ++ le 2 d.size) ∧
    (∃ (d : TableDef) (s : State) (w : Nat) (i : Nat) (m : Message), d ∈ [Tbl.pktItable, Tbl.pktHashKey, Tbl.pktNexthop, Tbl.pktMcast, Tbl.pktDscpMap] ∧ i < d.insts ∧ s.stoppedUnits = [] ∧ (s.tabState d.id i).switching = false ∧ (s.tabState d.id i).copying = false ∧ Sendable 34 w m s ∧ m.payload = le 4 d.id ++ le 2 i ++ le 10 0 ∧ (s.tabState d.id i).cid = none) :=
  ⟨⟨Tbl.pktMcast, Wit.ses, 0, 2, (Wit.msg (le 4 Tbl.pktMcast.id ++ le 2 2 ++ le 2 0 ++ le 4 5 ++ le 2 1 ++ le 2 2 ++ [7,8])), 5, [7,8], by simp, by decide +kernel, by decide +kernel, by decide +kernel, by decide +kernel, ⟨by decide +kernel, by decide +kernel, by decide +kernel, by decide +kernel, by decide +kernel, by decide +kernel, by decide +kernel, by decide +kernel, by decide +kernel, by decide +kernel, by decide +kernel, by decide +kernel, by decide +kernel, by decide +kernel⟩, by decide +kernel, by decide +kernel, by decide +kernel⟩,
   ⟨Tbl.pktMcast, (Wit.table Tbl.pktMcast.id {}), 0, 0, (Wit.msg (le 4 Tbl.pktMcast.id ++ le 2 0 ++ le 2 1 ++ le 4 3 ++ le 2 1 ++ le 2 2)), 3, 1, by simp, by decide +kernel, by decide +kernel, by decide +kernel, by decide +kernel, ⟨by decide +kernel, by decide +kernel, by decide +kernel, by decide +kernel, by decide +kernel, by decide +kernel, by decide +kernel, by decide +kernel, by decide +kernel, by decide +kernel, by decide +kernel, by decide +kernel, by decide +kernel, by decide +kernel⟩, by decide +kernel, by decide +kernel, by decide +kernel⟩,
   ⟨Tbl.pktMcast, (Wit.table Tbl.pktMcast.id {}), 0, 0, (Wit.msg (le 4 Tbl.pktMcast.id ++ le 2 0 ++ le 10 0)), by simp, by decide +kernel, by decide +kernel, by decide +kernel, by decide +kernel, ⟨by decide +kernel, by decide +kernel, by decide +kernel, by decide +kernel, by decide +kernel, by decide +kernel, by decide +kernel, by decide +kernel, by decide +kernel, by decide +kernel, by decide +kernel, by decide +kernel, by decide +kernel, by decide +kernel⟩, by decide +kernel, by decide +kernel⟩⟩

theorem witness_KeyCommandsFillAndEmptySlots :
    (∃ (s : State) (w : Nat) (slot : Nat) (m : Message) (usage : Nat) (key : List Byte), slot < 3840 ∧ Sendable 48 w m s ∧ 1 ≤ usage ∧ usage ≤ 8 ∧ key.length = keyLength usage ∧ (s.slot slot).usage = 0 ∧ m.payload = le 2 slot ++ le 1 usage ++ le 3 0 ++ le 1 key.length ++ le 1 0 ++ key) ∧
    (∃ (s : State) (w : Nat) (slot : Nat) (m : Message), slot < 3840 ∧ Sendable 49 w m s ∧ (s.slot slot).usage ≠ 0 ∧ s.slotUsers slot = [] ∧ s.flash.held = false ∧ m.payload = le 2 slot ++ le 2 0) :=
  ⟨⟨Wit.ses, 0, 9, (Wit.msg (le 2 9 ++ le 1 1 ++ le 3 0 ++ le 1 16 ++ le 1 0 ++ List.replicate 16 3)), 1, (List.replicate 16 3), by decide +kernel, ⟨by decide +kernel, by decide +kernel, by decide +kernel, by decide +kernel, by decide +kernel, by decide +kernel, by decide +kernel, by decide +kernel, by decide +kernel, by decide +kernel, by decide +kernel, by decide +kernel, by decide +kernel, by decide +kernel⟩, by decide +kernel, by decide +kernel, by decide +kernel, by decide +kernel, by decide +kernel⟩,
   ⟨(Wit.keyed.setPar Prm.secPatternKeySlot 0 0xFFFF), 0, 5, (Wit.msg (le 2 5 ++ le 2 0)), by decide +kernel, ⟨by decide +kernel, by decide +kernel, by decide +kernel, by decide +kernel, by decide +kernel, by decide +kernel, by decide +kernel, by decide +kernel, by decide +kernel, by decide +kernel, by decide +kernel, by decide +kernel, by decide +kernel, by decide +kernel⟩, by decide +kernel, wit_noUsers, by decide +kernel, by decide +kernel⟩⟩

theorem witness_ImageCommandsTakeChunks :
    (∃ (s : State) (w : Nat) (offset : Nat) (total : Nat) (m : Message) (data : List Byte), data ≠ [] ∧ data.length ≤ 4064 ∧ offset + data.length ≤ total ∧ Sendable 80 w m s ∧ s.compat = false ∧ s.pendingCount < 64 ∧ s.boot.source ≠ 1 ∧ s.fw.trial = false ∧ s.flash.held = false ∧ total ≤ 2 ^ 23 ∧ s.fw.chunks.bytes.length = offset ∧ (offset = 0 ∨ s.fw.chunks.total = total) ∧ m.payload = le 4 0 ++ le 4 offset ++ le 4 total ++ le 4 0 ++ data) ∧
    (∃ (s : State) (w : Nat) (offset : Nat) (total : Nat) (m : Message) (data : List Byte), data ≠ [] ∧ data.length ≤ 4064 ∧ offset + data.length ≤ total ∧ Sendable 81 w m s ∧ s.boot.source ≠ 1 ∧ s.flash.held = false ∧ s.fw.staged = true ∧ s.fw.trial = false ∧ m.payload = le 4 0) ∧
    (∃ (s : State) (w : Nat) (offset : Nat) (total : Nat) (m : Message) (data : List Byte), data ≠ [] ∧ data.length ≤ 4064 ∧ offset + data.length ≤ total ∧ Sendable 97 w m s ∧ total ≤ 2 ^ 20 ∧ s.cfg.patChunks.bytes.length = offset ∧ (offset = 0 ∨ s.cfg.patChunks.total = total) ∧ m.payload = le 4 0 ++ le 4 offset ++ le 4 total ++ le 4 0 ++ data) ∧
    (∃ (s : State) (w : Nat) (offset : Nat) (total : Nat) (m : Message) (data : List Byte) (slot : Nat) (mask : Nat), data ≠ [] ∧ data.length ≤ 4064 ∧ offset + data.length ≤ total ∧ Sendable 128 w m s ∧ slot < 64 ∧ 0 < mask ∧ mask < 2 ^ 32 ∧ s.stoppedUnits = [] ∧ total ≤ 2 ^ 18 ∧ s.task.chunks.bytes.length = offset ∧ (offset = 0 ∨ s.task.chunks.total = total) ∧ m.payload = le 1 0 ++ le 1 slot ++ le 2 0 ++ le 4 mask ++ le 4 offset ++ le 4 total ++ data) :=
  ⟨⟨Wit.ses, 0, 0, 9, (Wit.msg (le 4 0 ++ le 4 0 ++ le 4 9 ++ le 4 0 ++ [1,2])), [1,2], by decide +kernel, by decide +kernel, by decide +kernel, ⟨by decide +kernel, by decide +kernel, by decide +kernel, by decide +kernel, by decide +kernel, by decide +kernel, by decide +kernel, by decide +kernel, by decide +kernel, by decide +kernel, by decide +kernel, by decide +kernel, by decide +kernel, by decide +kernel⟩, by decide +kernel, by decide +kernel, by decide +kernel, by decide +kernel, by decide +kernel, by decide +kernel, by decide +kernel, by decide +kernel, by decide +kernel⟩,
   ⟨({Wit.ses with fw := {Wit.ses.fw with staged := true}}), 0, 0, 9, (Wit.msg (le 4 0)), [1,2], by decide +kernel, by decide +kernel, by decide +kernel, ⟨by decide +kernel, by decide +kernel, by decide +kernel, by decide +kernel, by decide +kernel, by decide +kernel, by decide +kernel, by decide +kernel, by decide +kernel, by decide +kernel, by decide +kernel, by decide +kernel, by decide +kernel, by decide +kernel⟩, by decide +kernel, by decide +kernel, by decide +kernel, by decide +kernel, by decide +kernel⟩,
   ⟨Wit.ses, 0, 0, 9, (Wit.msg (le 4 0 ++ le 4 0 ++ le 4 9 ++ le 4 0 ++ [1,2])), [1,2], by decide +kernel, by decide +kernel, by decide +kernel, ⟨by decide +kernel, by decide +kernel, by decide +kernel, by decide +kernel, by decide +kernel, by decide +kernel, by decide +kernel, by decide +kernel, by decide +kernel, by decide +kernel, by decide +kernel, by decide +kernel, by decide +kernel, by decide +kernel⟩, by decide +kernel, by decide +kernel, by decide +kernel, by decide +kernel⟩,
   ⟨Wit.ses, 0, 0, 9, (Wit.msg (le 1 0 ++ le 1 3 ++ le 2 0 ++ le 4 5 ++ le 4 0 ++ le 4 9 ++ [1,2])), [1,2], 3, 5, by decide +kernel, by decide +kernel, by decide +kernel, ⟨by decide +kernel, by decide +kernel, by decide +kernel, by decide +kernel, by decide +kernel, by decide +kernel, by decide +kernel, by decide +kernel, by decide +kernel, by decide +kernel, by decide +kernel, by decide +kernel, by decide +kernel, by decide +kernel⟩, by decide +kernel, by decide +kernel, by decide +kernel, by decide +kernel, by decide +kernel, by decide +kernel, by decide +kernel, by decide +kernel⟩⟩

theorem witness_SaveStandbyTraceAndSnapshot :
    (∃ (s : State) (w : Nat) (m : Message), Sendable 96 w m s ∧ s.compat = false ∧ s.pendingCount < 64 ∧ m.payload = le 4 1 ∧ s.patternKey (s.comN Prm.secPatternKeySlot 0) = true ∧ s.patternBusy = false ∧ s.copy 0 = none ∧ s.copy 1 = none ∧ s.savedParams.flatten.length + s.savedTables.flatten.length ≤ 1000000) ∧
    (∃ (s : State) (w : Nat) (m : Message) (ms : Nat), Sendable 112 w m s ∧ s.compat = false ∧ s.pendingCount < 64 ∧ m.payload = le 4 1 ++ le 4 ms ∧ ms < 2 ^ 32 ∧ s.power.st = PState.run ∧ s.power.cid = none ∧ s.power.retryFrom = none ∧ s.power.down = 0 ∧ s.recasting = false) ∧
    (∃ (s : State) (w : Nat) (m : Message) (n : Nat) (r : TraceRec), Sendable 144 w m s ∧ 1 ≤ n ∧ n ≤ 254 ∧ s.stoppedUnits = [] ∧ s.task.trace = [r] ∧ r.seq < 4294967295 ∧ m.payload = le 1 1 ++ le 1 0 ++ le 2 n ++ le 4 4294967295) ∧
    (∃ (s : State) (w : Nat) (m : Message) (mask : Nat) (clear : Nat), Sendable 160 w m s ∧ 1 ≤ mask ∧ mask < 16 ∧ clear < 2 ∧ s.stoppedUnits = [] ∧ m.payload = le 1 mask ++ le 1 clear ++ le 6 0) :=
  ⟨⟨Wit.keyed, 0, (Wit.msg (le 4 1)), ⟨by decide +kernel, by decide +kernel, by decide +kernel, by decide +kernel, by decide +kernel, by decide +kernel, by decide +kernel, by decide +kernel, by decide +kernel, by decide +kernel, by decide +kernel, by decide +kernel, by decide +kernel, by decide +kernel⟩, by decide +kernel, by decide +kernel, by decide +kernel, by decide +kernel, by decide +kernel, by decide +kernel, by decide +kernel, by decide +kernel⟩,
   ⟨Wit.ses, 0, (Wit.msg (le 4 1 ++ le 4 5)), 5, ⟨by decide +kernel, by decide +kernel, by decide +kernel, by decide +kernel, by decide +kernel, by decide +kernel, by decide +kernel, by decide +kernel, by decide +kernel, by decide +kernel, by decide +kernel, by decide +kernel, by decide +kernel, by decide +kernel⟩, by decide +kernel, by decide +kernel, by decide +kernel, by decide +kernel, by decide +kernel, by decide +kernel, by decide +kernel, by decide +kernel, by decide +kernel⟩,
   ⟨({Wit.ses with task := {Wit.ses.task with trace := [⟨1,2,3,4,5,6,7⟩]}}), 0, (Wit.msg (le 1 1 ++ le 1 0 ++ le 2 9 ++ le 4 0xFFFFFFFF)), 9, ⟨1,2,3,4,5,6,7⟩, ⟨by decide +kernel, by decide +kernel, by decide +kernel, by decide +kernel, by decide +kernel, by decide +kernel, by decide +kernel, by decide +kernel, by decide +kernel, by decide +kernel, by decide +kernel, by decide +kernel, by decide +kernel, by decide +kernel⟩, by decide +kernel, by decide +kernel, by decide +kernel, by decide +kernel, by decide +kernel, by decide +kernel⟩,
   ⟨({Wit.ses with eth := {Wit.ses.eth with port := Tab.put [] 1 {stats := [(1,3)]}}}), 0, (Wit.msg (le 1 3 ++ le 1 1 ++ le 6 0)), 3, 1, ⟨by decide +kernel, by decide +kernel, by decide +kernel, by decide +kernel, by decide +kernel, by decide +kernel, by decide +kernel, by decide +kernel, by decide +kernel, by decide +kernel, by decide +kernel, by decide +kernel, by decide +kernel, by decide +kernel⟩, by decide +kernel, by decide +kernel, by decide +kernel, by decide +kernel, by decide +kernel⟩⟩

theorem witness_StoreCommandsCreateAndStart :
    (∃ (s : State) (w : Nat) (m : Message), s.stoppedUnits = [] ∧ s.compat = false ∧ s.pendingCount < 64 ∧ Sendable 64 w m s) ∧
    (∃ (s : State) (w : Nat) (k : Nat) (m : Message) (d : Nat) (max : Nat), s.stoppedUnits = [] ∧ s.compat = false ∧ s.pendingCount < 64 ∧ Sendable 65 w m s ∧ m.payload = le 16 k ++ le 8 max ++ le 1 d ++ le 7 0 ∧ 0 < k ∧ k < 2 ^ 128 ∧ 0 < max ∧ max ≤ 2 ^ 32 ∧ s.obj? k = none ∧ d < 2 ∧ s.driveReady d = true ∧ extentsFor max ≤ s.extentsFree d ∧ s.dma.objs.length < 256) ∧
    (∃ (s : State) (w : Nat) (k : Nat) (m : Message) (o : Obj) (a : Nat) (n : Nat), s.stoppedUnits = [] ∧ s.compat = false ∧ s.pendingCount < 64 ∧ storeKey m.payload = k ∧ 0 < k ∧ s.obj? k = some o ∧ s.driveReady o.drive = true ∧ (∀ (j : StoreJob), j ∈ s.dma.jobs → j.key ≠ k) ∧ Sendable 66 w m s ∧ o.st = ObjSt.open_ ∧ 0 < n ∧ n < 2 ^ 32 ∧ a < 2 ^ 64 ∧ o.data.length + n ≤ o.max ∧ o.max ≤ 2 ^ 32 ∧ List.drop 16 m.payload = le 8 o.data.length ++ le 2 1 ++ le 6 0 ++ le 8 a ++ le 4 n ++ le 4 0) ∧
    (∃ (s : State) (w : Nat) (k : Nat) (m : Message) (o : Obj) (mark : Nat), s.stoppedUnits = [] ∧ s.compat = false ∧ s.pendingCount < 64 ∧ storeKey m.payload = k ∧ 0 < k ∧ s.obj? k = some o ∧ s.driveReady o.drive = true ∧ (∀ (j : StoreJob), j ∈ s.dma.jobs → j.key ≠ k) ∧ Sendable 67 w m s ∧ o.st = ObjSt.open_ ∧ List.drop 16 m.payload = le 2 mark ++ le 6 0 ∧ mark < 2 ^ 16 ∧ s.dma.bind = []) ∧
    (∃ (s : State) (w : Nat) (k : Nat) (m : Message) (o : Obj), s.stoppedUnits = [] ∧ s.compat = false ∧ s.pendingCount < 64 ∧ storeKey m.payload = k ∧ 0 < k ∧ s.obj? k = some o ∧ s.driveReady o.drive = true ∧ (∀ (j : StoreJob), j ∈ s.dma.jobs → j.key ≠ k) ∧ Sendable 68 w m s ∧ o.st = ObjSt.open_ ∧ o.data ≠ []) ∧
    (∃ (s : State) (w : Nat) (k : Nat) (m : Message) (o : Obj), s.stoppedUnits = [] ∧ s.compat = false ∧ s.pendingCount < 64 ∧ storeKey m.payload = k ∧ 0 < k ∧ s.obj? k = some o ∧ s.driveReady o.drive = true ∧ (∀ (j : StoreJob), j ∈ s.dma.jobs → j.key ≠ k) ∧ Sendable 69 w m s ∧ (o.st = ObjSt.open_ ∨ o.st = ObjSt.sealed ∨ o.st = ObjSt.lost)) ∧
    (∃ (s : State) (w : Nat) (k : Nat) (m : Message) (o : Obj), s.stoppedUnits = [] ∧ s.compat = false ∧ s.pendingCount < 64 ∧ storeKey m.payload = k ∧ 0 < k ∧ s.obj? k = some o ∧ s.driveReady o.drive = true ∧ (∀ (j : StoreJob), j ∈ s.dma.jobs → j.key ≠ k) ∧ Sendable 70 w m s) ∧
    (∃ (s : State) (w : Nat) (k : Nat) (m : Message) (o : Obj) (off : Nat) (len : Nat) (host : Nat), s.stoppedUnits = [] ∧ s.compat = false ∧ s.pendingCount < 64 ∧ storeKey m.payload = k ∧ 0 < k ∧ s.obj? k = some o ∧ s.driveReady o.drive = true ∧ (∀ (j : StoreJob), j ∈ s.dma.jobs → j.key ≠ k) ∧ Sendable 71 w m s ∧ o.st = ObjSt.sealed ∧ 0 < len ∧ off + len ≤ o.data.length ∧ o.data.length ≤ 2 ^ 32 ∧ host < 2 ^ 64 ∧ List.drop 16 m.payload = le 8 off ++ le 8 len ++ le 8 host) :=
  ⟨⟨(Wit.store .open_), 0, (Wit.msg []), by decide +kernel, by decide +kernel, by decide +kernel, ⟨by decide +kernel, by decide +kernel, by decide +kernel, by decide +kernel, by decide +kernel, by decide +kernel, by decide +kernel, by decide +kernel, by decide +kernel, by decide +kernel, by decide +kernel, by decide +kernel, by decide +kernel, by decide +kernel⟩⟩,
   ⟨(Wit.store .open_), 0, 78, (Wit.msg (le 16 78 ++ le 8 5000 ++ le 1 0 ++ le 7 0)), 0, 5000, by decide +kernel, by decide +kernel, by decide +kernel, ⟨by decide +kernel, by decide +kernel, by decide +kernel, by decide +kernel, by decide +kernel, by decide +kernel, by decide +kernel, by decide +kernel, by decide +kernel, by decide +kernel, by decide +kernel, by decide +kernel, by decide +kernel, by decide +kernel⟩, by decide +kernel, by decide +kernel, by decide +kernel, by decide +kernel, by decide +kernel, by decide +kernel, by decide +kernel, by decide +kernel, by decide +kernel, by decide +kernel⟩,
   ⟨(Wit.store .open_), 0, 77, (Wit.msg (le 16 77 ++ le 8 100 ++ le 2 1 ++ le 6 0 ++ le 8 0x4000 ++ le 4 20 ++ le 4 0)), ((Wit.store .open_).dma.objs.headD default), 0x4000, 20, by decide +kernel, by decide +kernel, by decide +kernel, by decide +kernel, by decide +kernel, by decide +kernel, by decide +kernel, by decide +kernel, ⟨by decide +kernel, by decide +kernel, by decide +kernel, by decide +kernel, by decide +kernel, by decide +kernel, by decide +kernel, by decide +kernel, by decide +kernel, by decide +kernel, by decide +kernel, by decide +kernel, by decide +kernel, by decide +kernel⟩, by decide +kernel, by decide +kernel, by decide +kernel, by decide +kernel, by decide +kernel, by decide +kernel, by decide +kernel⟩,
   ⟨(Wit.store .open_), 0, 77, (Wit.msg (le 16 77 ++ le 2 6 ++ le 6 0)), ((Wit.store .open_).dma.objs.headD default), 6, by decide +kernel, by decide +kernel, by decide +kernel, by decide +kernel, by decide +kernel, by decide +kernel, by decide +kernel, by decide +kernel, ⟨by decide +kernel, by decide +kernel, by decide +kernel, by decide +kernel, by decide +kernel, by decide +kernel, by decide +kernel, by decide +kernel, by decide +kernel, by decide +kernel, by decide +kernel, by decide +kernel, by decide +kernel, by decide +kernel⟩, by decide +kernel, by decide +kernel, by decide +kernel, by decide +kernel⟩,
   ⟨(Wit.store .open_), 0, 77, (Wit.msg (le 16 77)), ((Wit.store .open_).dma.objs.headD default), by decide +kernel, by decide +kernel, by decide +kernel, by decide +kernel, by decide +kernel, by decide +kernel, by decide +kernel, by decide +kernel, ⟨by decide +kernel, by decide +kernel, by decide +kernel, by decide +kernel, by decide +kernel, by decide +kernel, by decide +kernel, by decide +kernel, by decide +kernel, by decide +kernel, by decide +kernel, by decide +kernel, by decide +kernel, by decide +kernel⟩, by decide +kernel, by decide +kernel⟩,
   ⟨(Wit.store .open_), 0, 77, (Wit.msg (le 16 77)), ((Wit.store .open_).dma.objs.headD default), by decide +kernel, by decide +kernel, by decide +kernel, by decide +kernel, by decide +kernel, by decide +kernel, by decide +kernel, by decide +kernel, ⟨by decide +kernel, by decide +kernel, by decide +kernel, by decide +kernel, by decide +kernel, by decide +kernel, by decide +kernel, by decide +kernel, by decide +kernel, by decide +kernel, by decide +kernel, by decide +kernel, by decide +kernel, by decide +kernel⟩, by decide +kernel⟩,
   ⟨(Wit.store .lost), 0, 77, (Wit.msg (le 16 77)), ((Wit.store .lost).dma.objs.headD default), by decide +kernel, by decide +kernel, by decide +kernel, by decide +kernel, by decide +kernel, by decide +kernel, by decide +kernel, by decide +kernel, ⟨by decide +kernel, by decide +kernel, by decide +kernel, by decide +kernel, by decide +kernel, by decide +kernel, by decide +kernel, by decide +kernel, by decide +kernel, by decide +kernel, by decide +kernel, by decide +kernel, by decide +kernel, by decide +kernel⟩⟩,
   ⟨(Wit.store .sealed), 0, 77, (Wit.msg (le 16 77 ++ le 8 10 ++ le 8 20 ++ le 8 0x1000)), ((Wit.store .sealed).dma.objs.headD default), 10, 20, 0x1000, by decide +kernel, by decide +kernel, by decide +kernel, by decide +kernel, by decide +kernel, by decide +kernel, by decide +kernel, by decide +kernel, ⟨by decide +kernel, by decide +kernel, by decide +kernel, by decide +kernel, by decide +kernel, by decide +kernel, by decide +kernel, by decide +kernel, by decide +kernel, by decide +kernel, by decide +kernel, by decide +kernel, by decide +kernel, by decide +kernel⟩, by decide +kernel, by decide +kernel, by decide +kernel, by decide +kernel, by decide +kernel, by decide +kernel⟩⟩

theorem witness_SplicesStartAndCancelEnds :
    (∃ (s : State) (w : Nat) (m : Message) (c : Outstanding) (j : StoreJob), s.stoppedUnits = [] ∧ s.compat = false ∧ s.pendingCount < 64 ∧ Sendable 74 w m s ∧ m.payload = le 4 c.tag ++ le 4 0 ∧ c.tag < 2 ^ 32 ∧ s.mbx.outstanding = [c] ∧ c.pending = true ∧ s.dma.jobs = [j] ∧ j.cid = c.cid ∧ j.op = StoreOp.read) ∧
    (∃ (s : State) (w : Nat) (k : Nat) (m : Message) (o : Obj) (tcp : Bool), s.stoppedUnits = [] ∧ s.compat = false ∧ s.pendingCount < 64 ∧ Sendable (if tcp = true then 72 else 73) w m s ∧ storeKey m.payload = k ∧ 0 < k ∧ s.obj? k = some o ∧ s.driveReady o.drive = true ∧ o.st = ObjSt.sealed ∧ m.payload.length = 56 + fieldAt m.payload 35 1 ∧ (if tcp = true then 54 else 42) ≤ fieldAt m.payload 35 1 ∧ fieldAt m.payload 35 1 ≤ 128 ∧ (if tcp = true then 64 else 16) ≤ fieldAt m.payload 36 2 ∧ fieldAt m.payload 36 2 ≤ 9000 ∧ fieldAt m.payload 38 2 = 0 ∧ fieldAt m.payload 46 10 = 0 ∧ templateOk (bytesAt m.payload 56 (fieldAt m.payload 35 1)) tcp = true ∧ (if tcp = true then fieldAt m.payload 34 1 ≤ 7 ∧ fieldAt m.payload 32 2 < 17408 else fieldAt m.payload 34 1 = 0 ∧ fieldAt m.payload 32 2 < 4096) ∧ 0 < fieldAt m.payload 24 8 ∧ fieldAt m.payload 16 8 + fieldAt m.payload 24 8 ≤ o.data.length) :=
  ⟨⟨Wit.reading, 0, (Wit.msg (le 4 3 ++ le 4 0)), (Wit.reading.mbx.outstanding.headD default), (Wit.reading.dma.jobs.headD default), by decide +kernel, by decide +kernel, by decide +kernel, ⟨by decide +kernel, by decide +kernel, by decide +kernel, by decide +kernel, by decide +kernel, by decide +kernel, by decide +kernel, by decide +kernel, by decide +kernel, by decide +kernel, by decide +kernel, by decide +kernel, by decide +kernel, by decide +kernel⟩, by decide +kernel, by decide +kernel, by decide +kernel, by decide +kernel, by decide +kernel, by decide +kernel, by decide +kernel⟩,
   ⟨(Wit.store .sealed), 0, 77, (Wit.msg (Wit.splice true)), ((Wit.store .sealed).dma.objs.headD default), true, by decide +kernel, by decide +kernel, by decide +kernel, ⟨by decide +kernel, by decide +kernel, by decide +kernel, by decide +kernel, by decide +kernel, by decide +kernel, by decide +kernel, by decide +kernel, by decide +kernel, by decide +kernel, by decide +kernel, by decide +kernel, by decide +kernel, by decide +kernel⟩, by decide +kernel, by decide +kernel, by decide +kernel, by decide +kernel, by decide +kernel, by decide +kernel, by decide +kernel, by decide +kernel, by decide +kernel, by decide +kernel, by decide +kernel, by decide +kernel, by decide +kernel, by decide +kernel, by decide +kernel, by decide +kernel⟩⟩

theorem witness_SafePointsTakeValuesAndPages :
    (∃ (s : State) (n : Nat) (c : Commit), n < 4 ∧ s.cfg.commits = [c] ∧ c.left = [(18, n)] ∧ s.cfg.tables = []) ∧
    (∃ (d : TableDef) (s : State) (i : Nat), d ∈ [Tbl.pktItable, Tbl.pktHashKey, Tbl.pktNexthop, Tbl.pktMcast, Tbl.pktDscpMap] ∧ i < d.insts ∧ (s.tabState d.id i).switching = true ∧ s.cfg.commits = [] ∧ s.cfg.old = []) ∧
    (∃ (d : TableDef) (s : State) (i : Nat), d ∈ [Tbl.pktItable, Tbl.pktHashKey, Tbl.pktNexthop, Tbl.pktMcast, Tbl.pktDscpMap] ∧ i < d.insts ∧ (s.tabState d.id i).copying = true) :=
  ⟨⟨({Wit.ses with cfg := {Wit.ses.cfg with commits := [{group := 0x12, cid := none, total := 1, left := [(0x12,1)], start := 0, image := none}], old := [(parKey Prm.ethMaxFrame.id 1, some 900)]}}), 1, {group := 0x12, cid := none, total := 1, left := [(0x12,1)], start := 0, image := none}, by decide +kernel⟩,
   ⟨Tbl.pktMcast, (Wit.table Tbl.pktMcast.id {switching := true}), 0, by simp, by decide +kernel, by decide +kernel, by decide +kernel, by decide +kernel⟩,
   ⟨Tbl.pktMcast, (Wit.table Tbl.pktMcast.id {copying := true}), 0, by simp, by decide +kernel, by decide +kernel⟩⟩

theorem witness_WritesBurnsAndBeatsEnd :
    (∃ (s : State) (x : PatternWrite), s.cfg.patWrite = some x ∧ s.flash.held = false) ∧
    (∃ (s : State) (k : Nat), (s.sec.burning.get k).isSome = true) ∧
    (∃ (s : State), s.mgmtRuns = true ∧ s.mgmt.pairStopped.get 0 = false) :=
  ⟨⟨({Wit.ses with cfg := {Wit.ses.cfg with patWrite := some {copy := 1, image := [1], cid := none}}}), {copy := 1, image := [1], cid := none}, by decide +kernel⟩,
   ⟨({Wit.ses with sec := {Wit.ses.sec with burning := Tab.put [] 1 (some 3)}}), 1, by decide +kernel⟩,
   ⟨Wit.ses, by decide +kernel⟩⟩

theorem witness_LanesFollowTheTableAndTrain :
    (∃ (s : State) (n : Nat), (n < 20 ∧ s.lanePowered n = true ∧ (s.lane n).st = LaneSt.down ∧ s.par Prm.laneEnable n = 1 ∧ s.par Prm.lanePower n = 0)) ∧
    (∃ (s : State) (n : Nat), (s.lane n).st = LaneSt.acquire) ∧
    (∃ (s : State) (n : Nat), (s.lane n).st = LaneSt.train) ∧
    (∃ (s : State) (n : Nat), (s.lane n).st = LaneSt.fault) ∧
    (∃ (s : State) (n : Nat), ((s.lane n).st = LaneSt.align ∨ (s.lane n).st = LaneSt.up)) ∧
    (∃ (s : State) (n : Nat), (s.lane n).deepExit = true) ∧
    (∃ (s : State) (n : Nat), 16 ≤ n ∧ (s.lane n).st = LaneSt.align) ∧
    (∃ (s : State) (n : Nat), 16 ≤ n ∧ (s.lane n).st = LaneSt.up) ∧
    (∃ (s : State) (n : Nat), 16 ≤ n ∧ (s.lane n).st = LaneSt.align ∧ s.par Prm.laneAutoPolarity n = 1) ∧
    (∃ (s : State) (n : Nat) (v : Nat) (echo : Nat) (inverted : Bool) (inv : Bool), n < 16 ∧ (s.lane n).eqRx = (s.lane n).rxInv ∧ v < 2 ^ 40 ∧ readMarker v = some (inverted, echo, inv) ∧ (s.lane n).st = LaneSt.align ∧ (s.lane n).good = 2 ∧ (s.lane n).sense = inverted ∧ (inverted = false ∨ s.par Prm.laneAutoPolarity n = 0)) ∧
    (∃ (s : State) (n : Nat) (v : Nat) (echo : Nat) (inverted : Bool) (inv : Bool), n < 16 ∧ (s.lane n).eqRx = (s.lane n).rxInv ∧ v < 2 ^ 40 ∧ readMarker v = some (inverted, echo, inv) ∧ (s.lane n).st = LaneSt.train ∧ (s.lane n).last = some (echo, inv) ∧ echo = n ∧ s.claimed n n = false ∧ (inv = false ∨ s.par Prm.laneAutoPolarity n = 0)) ∧
    (∃ (s : State) (n : Nat), n < 16 ∧ (s.lane n).eqRx = (s.lane n).rxInv ∧ (s.lane n).st = LaneSt.up ∧ (s.lane n).miss = 3) ∧
    (∃ (s : State) (n : Nat), n < 16 ∧ (s.lane n).eqRx = (s.lane n).rxInv ∧ (s.lane n).st = LaneSt.up ∧ (s.lane n).miss < 3) :=
  ⟨⟨(Wit.lane 3 {}), 3, by decide +kernel⟩,
   ⟨(Wit.lane 3 {st := .acquire}), 3, by decide +kernel⟩,
   ⟨(Wit.lane 3 {st := .train}), 3, by decide +kernel⟩,
   ⟨(Wit.lane 3 {st := .fault}), 3, by decide +kernel⟩,
   ⟨(Wit.lane 3 {st := .up}), 3, by decide +kernel⟩,
   ⟨(Wit.lane 3 {st := .train, deepExit := true}), 3, by decide +kernel⟩,
   ⟨(Wit.lane 17 {st := .align}), 17, by decide +kernel⟩,
   ⟨(Wit.lane 17 {st := .up}), 17, by decide +kernel⟩,
   ⟨((Wit.lane 17 {st := .align}).setPar Prm.laneAutoPolarity 17 1), 17, by decide +kernel⟩,
   ⟨(Wit.lane 3 {st := .align, good := 2}), 3, (markerOf 3 3 false 0), 3, false, false, by decide +kernel⟩,
   ⟨(Wit.lane 3 {st := .train, last := some (3, false)}), 3, (markerOf 3 3 false 0), 3, false, false, by decide +kernel⟩,
   ⟨(Wit.lane 3 {st := .up, miss := 3}), 3, by decide +kernel⟩,
   ⟨(Wit.lane 3 {st := .up, miss := 1}), 3, by decide +kernel⟩⟩

theorem witness_CodesCorrectAndReadBack :
    (∃ (s : State) (n : Nat), n < 20 ∧ (s.lane n).st = LaneSt.up ∧ s.laneRs544 n = true ∧ s.parN Prm.laneRxChecker n = 0) ∧
    (∃ (lane : Nat) (echo : Nat) (rate : Nat), lane < 32 ∧ echo < 32 ∧ rate < 4) ∧
    (∃ (w : CtlWord), w.verMax < 4 ∧ w.verActive < 4 ∧ w.fnum < 1024 ∧ w.offset < 512 ∧ w.fmt < 4 ∧ w.srate < 4 ∧ w.slotAlarm < 512 ∧ w.ccLen < 8 ∧ w.ccData < 2 ^ 64 ∧ w.mf < 2 ^ 24) ∧
    (∃ (l : List Nat), (∀ (g : Nat), g ∈ l → g < 4)) :=
  ⟨⟨(Wit.lane 3 {st := .up}), 3, by decide +kernel⟩,
   ⟨3, 17, 2, by decide +kernel⟩,
   ⟨{verMax := 3, verActive := 2, fnum := 999, offset := 511, fmt := 3, srate := 2, slotAlarm := 300, ccLen := 7, ccData := 12345678901234567890, mf := 0xFFFFFF, rdi := true, ccStart := true}, by decide +kernel⟩,
   ⟨[0,1,2,3,3], by decide +kernel⟩⟩

theorem witness_LinksSynchroniseAndShareFrames :
    (∃ (s : State) (l : Nat) (errs : Nat) (raw : Nat) (nbits : Nat), l < 16 ∧ s.linkFed l = true ∧ 192 ≤ nbits ∧ (s.link l).st = SyncSt.hunt ∧ errs = 0 ∧ ctlCrcOk (scrambled nbits raw / 2 ^ (nbits - 192)) = true) ∧
    (∃ (s : State) (l : Nat) (errs : Nat) (raw : Nat) (nbits : Nat), l < 16 ∧ s.linkFed l = true ∧ 192 ≤ nbits ∧ (s.link l).st = SyncSt.presync ∧ (s.link l).hits = 2 ∧ errs ≤ s.parN Prm.linkSyncErrTol l ∧ ctlCrcOk (scrambled nbits raw / 2 ^ (nbits - 192)) = true) ∧
    (∃ (s : State) (l : Nat) (raw : Nat) (nbits : Nat) (slip : Bool), l < 16 ∧ s.linkFed l = true ∧ 192 ≤ nbits ∧ (s.link l).st = SyncSt.sync ∧ (s.link l).crcFail = 1 ∧ (s.link l).layout = none ∧ (s.link l).early = 3 ∧ ctlCrcOk (scrambled nbits raw / 2 ^ (nbits - 192)) = false ∧ slip = false) ∧
    (∃ (s : State) (l : Nat), l < 16 ∧ s.laneUp l = false) ∧
    (∃ (s : State) (l : Nat), l < 16 ∧ s.laneUp l = true) ∧
    (∃ (s : State) (l : Nat), l < 16 ∧ s.laneUp l = true ∧ (s.link l).st ≠ SyncSt.sync) ∧
    (∃ (s : State) (l : Nat), l < 16 ∧ (s.link l).st = SyncSt.sync) ∧
    (∃ (s : State) (l : Nat), l < 16 ∧ s.power.tbEntry = none) :=
  ⟨⟨(Wit.link {}), 2, 0, Wit.frame, 192, by decide +kernel⟩,
   ⟨(Wit.link {st := .presync, hits := 2, defects := 63}), 2, 0, Wit.frame, 192, by decide +kernel⟩,
   ⟨(Wit.link {st := .sync, crcFail := 1}), 2, (Wit.frame+1), 192, false, by decide +kernel⟩,
   ⟨Wit.ses, 2, by decide +kernel⟩,
   ⟨(Wit.link {defects := 63}), 2, by decide +kernel⟩,
   ⟨(Wit.link {}), 2, by decide +kernel⟩,
   ⟨(Wit.link {st := .sync, defects := 63}), 2, by decide +kernel⟩,
   ⟨(Wit.link {st := .sync, run := {errored := 30}}), 2, by decide +kernel⟩⟩

theorem witness_HeadMessagesAreAcknowledged :
    (∃ (s : State) (l : Nat) (seq : Nat) (h : HeadId) (y : Layout), (s.link l).st = SyncSt.sync ∧ (s.link l).lastRxSeq ≠ some seq ∧ (s.link l).out = none ∧ s.chooseLayout l h = some y) ∧
    (∃ (s : State) (l : Nat) (seq : Nat) (i : Nat) (h : HeadId) (y : Layout), (s.link l).st = SyncSt.sync ∧ (s.link l).lastRxSeq ≠ some seq ∧ (s.link l).out = none ∧ i < 8 ∧ s.par Prm.linkAutoStandby l = 1 ∧ (s.link l).headId = some h ∧ h.caps.testBit 2 = true ∧ (s.link l).layout = some y ∧ y.spare = true ∧ (s.link l).onStandby = none ∧ (s.link l).standby = none) ∧
    (∃ (s : State) (l : Nat) (seq : Nat), (s.link l).st = SyncSt.sync ∧ (s.link l).lastRxSeq ≠ some seq ∧ (s.link l).out = none) :=
  ⟨⟨(Wit.link {st := .sync}), 2, 9, Wit.head, {version := 2, fmt := 0, spare := false, srate := 1}, by decide +kernel⟩,
   ⟨((Wit.link {st := .sync, headId := some Wit.head, layout := some {version := 2, spare := true}}).setPar Prm.linkAutoStandby 2 1), 2, 9, 3, Wit.head, {version := 2, spare := true}, by decide +kernel⟩,
   ⟨(Wit.link {st := .sync}), 2, 9, by decide +kernel⟩⟩

theorem witness_OutstandingMessagesAndSelections :
    (∃ (s : State) (l : Nat) (m : CcMsg) (n : Nat), l < 16 ∧ (s.link l).out = some (m, n) ∧ (s.link l).waiting = [] ∧ (s.link l).st = SyncSt.sync ∧ m.typ = 6) ∧
    (∃ (s : State) (l : Nat) (m : CcMsg) (n : Nat), l < 16 ∧ (s.link l).out = some (m, n) ∧ (s.link l).waiting = [] ∧ n < 3) ∧
    (∃ (s : State) (l : Nat) (m : CcMsg) (n : Nat), l < 16 ∧ (s.link l).out = some (m, n) ∧ (s.link l).waiting = [] ∧ 3 ≤ n) ∧
    (∃ (s : State) (l : Nat), l < 16 ∧ s.parN Prm.linkEchoPeriodMs l ≠ 0 ∧ s.par Prm.linkEnable l ≠ 0 ∧ (s.link l).out = none) ∧
    (∃ (s : State) (l : Nat) (q : Selection), l < 16 ∧ (s.link l).select = some q ∧ q.acked = false) ∧
    (∃ (s : State) (l : Nat) (q : Selection), l < 16 ∧ (s.link l).select = some q ∧ q.acked = true) ∧
    (∃ (s : State) (l : Nat) (q : Standby) (c : Nat), l < 16 ∧ (s.link l).standby = some q ∧ q.acked = true ∧ s.achAt l q.element = some c) :=
  ⟨⟨(Wit.link {st := .sync, out := some (⟨6,4,[]⟩, 1), defects := 16, standby := some {element := 1, eff := 3}}), 2, ⟨6,4,[]⟩, 1, by decide +kernel⟩,
   ⟨(Wit.link {st := .sync, out := some (⟨6,4,[]⟩, 1), defects := 16}), 2, ⟨6,4,[]⟩, 1, by decide +kernel⟩,
   ⟨(Wit.link {st := .sync, out := some (⟨6,4,[]⟩, 3)}), 2, ⟨6,4,[]⟩, 3, by decide +kernel⟩,
   ⟨((Wit.link {st := .sync}).setPar Prm.linkEchoPeriodMs 2 100), 2, by decide +kernel⟩,
   ⟨(Wit.link {st := .sync, select := some {layout := {}, eff := 3}}), 2, {layout := {}, eff := 3}, by decide +kernel⟩,
   ⟨(Wit.link {st := .sync, select := some {layout := {}, eff := 3, acked := true}}), 2, {layout := {}, eff := 3, acked := true}, by decide +kernel⟩,
   ⟨(Wit.link {st := .sync, standby := some {element := 1, eff := 3, acked := true}}), 2, {element := 1, eff := 3, acked := true}, 17, by decide +kernel⟩⟩

theorem witness_ChannelGainAndStates :
    (∃ (s : State) (c : Nat) (l : Nat) (i : Nat) (k : HeadCaps), c < 128 ∧ (s.ach c).st ≠ AchSt.off ∧ (s.ach c).gain = none ∧ s.parN Prm.achRxGainMode c = 0 ∧ s.mapped c = some (l, i) ∧ (s.link l).caps = some k ∧ k.clampGain (s.par Prm.achRxGain c) ≠ (s.ach c).gainNow) ∧
    (∃ (s : State) (c : Nat) (q : Retune), c < 128 ∧ (s.ach c).gain = some q ∧ q.acked = false) ∧
    (∃ (s : State) (c : Nat) (q : Retune), c < 128 ∧ (s.ach c).gain = some q ∧ q.acked = true) ∧
    (∃ (s : State) (c : Nat) (q : Retune), c < 128 ∧ (s.ach c).atten = some q ∧ q.acked = true) ∧
    (∃ (s : State) (c : Nat), c < 128 ∧ (s.ach c).st = AchSt.active ∧ (s.ach c).absentRun = true) ∧
    (∃ (s : State) (c : Nat), c < 128 ∧ s.power.st = PState.run ∧ s.recast.jobs = [] ∧ s.recast.held = false) :=
  ⟨⟨({(Wit.ach {st := .active}) with radio := {(Wit.ach {st := .active}).radio with link := Tab.put [] 0 {caps := some Wit.caps}}}.setPar Prm.achRxGainMode 5 0), 5, 0, 5, Wit.caps, by decide +kernel⟩,
   ⟨(Wit.ach {gain := some {value := 32, eff := 3}}), 5, {value := 32, eff := 3}, by decide +kernel⟩,
   ⟨(Wit.ach {gain := some {value := 32, eff := 3, acked := true}}), 5, {value := 32, eff := 3, acked := true}, by decide +kernel⟩,
   ⟨(Wit.ach {atten := some {value := 32, eff := 3, acked := true}}), 5, {value := 32, eff := 3, acked := true}, by decide +kernel⟩,
   ⟨(Wit.ach {st := .active, absentRun := true}), 5, by decide +kernel⟩,
   ⟨(Wit.ach {st := .active, calibrated := true}), 5, by decide +kernel⟩⟩

theorem witness_CalibrationRunsInWindows :
    (∃ (s : State) (r : Nat), r < 3 ∧ s.parN Prm.achCalPeriodS r ≠ 0 ∧ s.parN Prm.achCalMode r = 0) ∧
    (∃ (s : State) (r : Nat), r < 3 ∧ (s.cal r).requested = true ∧ (s.cal r).window = false ∧ (s.cal r).pass = none ∧ (s.cal r).fullDue = true ∧ s.stopped (macUnit r) = false ∧ (s.wradio r).txop = none ∧ (s.wradio r).round = none ∧ (s.wradio r).sp = none ∧ (s.wradio r).txUntil ≤ s.now ∧ s.parN Prm.achCalWindowUs r * 1000 ≤ s.toBreak r) ∧
    (∃ (s : State) (r : Nat) (c : Nat) (d : Nat) (rest : List Nat), r < 3 ∧ (s.cal r).window = true ∧ (s.cal r).turns = c :: d :: rest ∧ (s.cal r).inWindow + 1 < s.windowTurns r false) ∧
    (∃ (s : State) (r : Nat) (c : Nat) (q : CalResult), r < 3 ∧ (s.cal r).window = true ∧ (s.cal r).turns = [] ∧ (s.cal r).pass = some true ∧ (s.cal r).done = [c] ∧ (s.cal r).dropped = [] ∧ (s.cal r).fullDue = false ∧ (s.cal r).rejoinDue = false ∧ q.chan = c ∧ s.parN Prm.achCalMinPairs r ≤ q.pairs ∧ (s.ach c).st = AchSt.calibrating) ∧
    (∃ (s : State) (r : Nat), r < 3 ∧ (s.cal r).requested = true ∧ (s.cal r).urgent = false) :=
  ⟨⟨(Wit.ses.setPar Prm.achCalPeriodS 0 60), 0, by decide +kernel⟩,
   ⟨(Wit.cal {requested := true, fullDue := true}), 0, by decide +kernel⟩,
   ⟨(Wit.cal {window := true, turns := [1,2,3]}), 0, 1, 2, [3], by decide +kernel⟩,
   ⟨({(Wit.cal {window := true, pass := some true, done := [5]}) with radio := {(Wit.cal {window := true, pass := some true, done := [5]}).radio with ach := Tab.put [] 5 {st := .calibrating}}}), 0, 5, {chan := 5, pairs := 1000, coef := [1,2]}, by decide +kernel⟩,
   ⟨(Wit.cal {requested := true}), 0, by decide +kernel⟩⟩

theorem witness_FeedsFollowTheTable :
    (∃ (s : State) (h : Nat), h < 16 ∧ (s.feed h).st = FeedSt.check) ∧
    (∃ (s : State) (h : Nat), h < 16 ∧ (s.feed h).st = FeedSt.inrush) ∧
    (∃ (s : State) (h : Nat) (ma : Nat), h < 16 ∧ (s.feed h).st.enabled = true ∧ s.feedLimit h < ma) ∧
    (∃ (s : State) (h : Nat), h < 16 ∧ (s.feed h).st = FeedSt.shortWait) ∧
    (∃ (s : State) (h : Nat) (mv : Int), h < 16 ∧ mv < -100 ∧ ((s.feed h).st = FeedSt.check ∨ (s.feed h).st.enabled = true)) ∧
    (∃ (s : State) (h : Nat), h < 16 ∧ (s.feed h).st = FeedSt.reversed) ∧
    (∃ (s : State) (h : Nat) (mean : Nat), h < 16 ∧ (s.feed h).st = FeedSt.on ∧ mean < s.parN Prm.achFeedIminMa h) ∧
    (∃ (s : State) (h : Nat), h < 16 ∧ (s.feed h).st = FeedSt.on) :=
  ⟨⟨(Wit.feed {st := .check}), 3, by decide +kernel⟩,
   ⟨(Wit.feed {st := .inrush}), 3, by decide +kernel⟩,
   ⟨(Wit.feed {st := .on}), 3, 60000, by decide +kernel⟩,
   ⟨(Wit.feed {st := .shortWait, n := 2}), 3, by decide +kernel⟩,
   ⟨(Wit.feed {st := .on}), 3, (-500), by decide +kernel⟩,
   ⟨(Wit.feed {st := .reversed}), 3, by decide +kernel⟩,
   ⟨(Wit.feed {st := .on}), 3, 0, by decide +kernel⟩,
   ⟨(Wit.feed {st := .on, n := 3}), 3, by decide +kernel⟩⟩

theorem witness_WeightSetsLoadBySector :
    (∃ (s : State) (k : Nat) (e : Nat) (rest : List Nat), k < 8 ∧ (s.mould k).fifo = e :: rest ∧ wlType e = 2 ∧ e.testBit 491 = false ∧ (s.beamOf (radioOfSector k)).shadow = none ∧ (s.beamOf (radioOfSector k)).active = none) ∧
    (∃ (s : State) (k : Nat) (e : Nat) (rest : List Nat) (a : ActiveSet), k < 8 ∧ (s.mould k).fifo = e :: rest ∧ wlType e = 2 ∧ e.testBit 491 = false ∧ (s.beamOf (radioOfSector k)).shadow = none ∧ (s.beamOf (radioOfSector k)).active = some a ∧ serialNewer 32 (bits e 490 459) a.basis = false) ∧
    (∃ (s : State) (k : Nat) (e : Nat) (rest : List Nat) (w : ShadowSet), k < 8 ∧ (s.mould k).fifo = e :: rest ∧ (s.beamOf (radioOfSector k)).shadow = some w ∧ wlType e = 1 ∧ (s.mould k).dropping = none ∧ k ∈ w.begun ∧ ¬k ∈ w.ended ∧ bits e 507 504 = w.id % 16) ∧
    (∃ (s : State) (k : Nat) (e : Nat) (rest : List Nat) (w : ShadowSet), k < 8 ∧ (s.mould k).fifo = e :: rest ∧ (s.beamOf (radioOfSector k)).shadow = some w ∧ wlType e = 3 ∧ (s.mould k).dropping = none ∧ k ∈ w.begun) ∧
    (∃ (s : State) (k : Nat) (e : Nat) (rest : List Nat) (w : ShadowSet), k < 8 ∧ (s.mould k).fifo = e :: rest ∧ (s.beamOf (radioOfSector k)).shadow = some w ∧ wlType e = 4 ∧ (s.mould k).dropping ≠ some (bits e 507 492) ∧ w.id = bits e 507 492 ∧ k ∈ w.begun ∧ ¬k ∈ w.ended) ∧
    (∃ (s : State) (k : Nat) (e : Nat) (rest : List Nat) (w : ShadowSet), k < 8 ∧ (s.mould k).fifo = e :: rest ∧ (s.beamOf (radioOfSector k)).shadow = some w ∧ wlType e = 5 ∧ w.spec = true ∧ w.id = bits e 507 492 ∧ s.setComplete (radioOfSector k) w = true) ∧
    (∃ (s : State) (k : Nat) (e : Nat) (rest : List Nat) (w : ShadowSet), k < 8 ∧ (s.mould k).fifo = e :: rest ∧ (s.beamOf (radioOfSector k)).shadow = some w ∧ wlType e = 6 ∧ w.id = bits e 507 492) ∧
    (∃ (s : State) (r : Nat) (w : ShadowSet), r < 3 ∧ (s.beamOf r).shadow = some w ∧ s.setComplete r w = false) :=
  ⟨⟨(Wit.mould (2*2^508 + 77*2^492 + 1001*2^459) {}), 6, (2*2^508 + 77*2^492 + 1001*2^459), [1], by decide +kernel⟩,
   ⟨(Wit.mould (2*2^508 + 77*2^492 + 1001*2^459) {active := some {id := 3, basis := 1001, time := 0, antUsed := 0, cols := []}}), 6, (2*2^508 + 77*2^492 + 1001*2^459), [1], {id := 3, basis := 1001, time := 0, antUsed := 0, cols := []}, by decide +kernel⟩,
   ⟨(Wit.mould (1*2^508 + 1*2^504 + 3*2^496 + 12345) {shadow := some Wit.set}), 6, (1*2^508 + 1*2^504 + 3*2^496 + 12345), [1], Wit.set, by decide +kernel⟩,
   ⟨(Wit.mould (3*2^508 + 50*2^502 + 32779*2^464+7) {shadow := some Wit.set}), 6, (3*2^508 + 50*2^502+ 32779*2^464+7), [1], Wit.set, by decide +kernel⟩,
   ⟨(Wit.mould (4*2^508 + 0x2A31*2^492) {shadow := some Wit.set}), 6, (4*2^508 + 0x2A31*2^492), [1], Wit.set, by decide +kernel⟩,
   ⟨(Wit.mould (5*2^508 + 0x2A31*2^492 + 1001*2^460 + 5*2^444) {shadow := some {Wit.set with spec := true, ended := sectorsOf 2}}), 6, (5*2^508 + 0x2A31*2^492 + 1001*2^460 + 5*2^444), [1], {Wit.set with spec := true, ended := sectorsOf 2}, by decide +kernel⟩,
   ⟨(Wit.mould (6*2^508 + 0x2A31*2^492) {shadow := some Wit.set}), 6, (6*2^508 + 0x2A31*2^492), [1], Wit.set, by decide +kernel⟩,
   ⟨((Wit.mould 0 {shadow := some Wit.set}).setPar Prm.beamEnable 6 1), 2, Wit.set, by decide +kernel⟩⟩

theorem witness_SwitchPointsAndRounds :
    (∃ (s : State) (r : Nat) (w : ShadowSet), r < 3 ∧ s.cfg.tables = [] ∧ s.cfg.commits = [] ∧ s.cfg.old = [] ∧ (s.beamOf r).shadow = some w ∧ s.setComplete r w = true ∧ w.spec = false) ∧
    (∃ (s : State) (r : Nat), r < 3 ∧ (s.beamOf r).active = none ∧ (s.beamOf r).shadow = none) ∧
    (∃ (s : State) (r : Nat) (c : Nat), r < 3 ∧ radioOfAch c = r ∧ c < 128 ∧ (s.ach c).st ≠ AchSt.active ∧ (s.beamOf r).shadow = none) ∧
    (∃ (s : State) (r : Nat), r < 3 ∧ (refreshList r s).radioQuiet r = true ∧ ((refreshList r s).wradio r).txop = none ∧ ((refreshList r s).wradio r).round = none ∧ ((refreshList r s).wradio r).beaconsOnly = false ∧ ((refreshList r s).wradio r).roundAt = 0 ∧ (refreshList r s).roundUsers r ≠ []) ∧
    (∃ (s : State) (r : Nat) (p : RoundPlan) (q : RoundResult), r < 3 ∧ (s.wradio r).round = some p ∧ q.overflow = false ∧ q.busy = false) :=
  ⟨⟨Wit.loaded, 2, Wit.whole, by decide +kernel⟩,
   ⟨Wit.ses, 2, by decide +kernel⟩,
   ⟨(Wit.ach {st := .absent}), 0, 5, by decide +kernel⟩,
   ⟨Wit.sounding, 2, by decide +kernel⟩,
   ⟨(Wit.air {round := some {time := 5, users := [(9,6)], mask := 3}}), 2, {time := 5, users := [(9,6)], mask := 3}, {users := [(true,1,2)], recs := [5]}, by decide +kernel⟩⟩

theorem witness_AssayAndReports :
    (∃ (k : Nat) (T : Nat), k < 8 ∧ 2 ≤ T) ∧
    (∃ (s : State) (r : Nat) (c : Nat) (k : Nat) (a : ActiveSet) (f : StaFigures) (n : Nat), r < 3 ∧ (s.beamOf r).active = some a ∧ a.cols = [(c, 32768 + k * 4096 + f.station)] ∧ k < 8 ∧ f.station < 2048 ∧ n < 16 ∧ (∀ (j : Nat), j < 2048 → j ≠ f.station → (s.entryNat Tbl.staReport 0 j).testBit 14 = false)) ∧
    (∃ (s : State) (r : Nat) (u : Int) (v : Int) (snr : Int), (r = 1 ∨ r = 2) ∧ s.par Prm.beamAoaEnable r = 1 ∧ 10 ≤ snr ∧ u * u + v * v ≤ 2 ^ 30) :=
  ⟨⟨6, 980, by decide +kernel⟩,
   ⟨(Wit.mould 0 {active := some {id := 3, basis := 1001, time := 55, antUsed := 0, cols := [(4, 32768 + 6*4096 + 9)]}}), 2, 4, 6, {id := 3, basis := 1001, time := 55, antUsed := 0, cols := [(4, 32768 + 6*4096 + 9)]}, ⟨9, 80, 40, -5, -6, none⟩, 3, by decide +kernel, by decide +kernel, by decide +kernel, by decide +kernel, by decide +kernel, by decide +kernel, fun j h _ => wit_notNulled j h⟩,
   ⟨(Wit.ses.setPar Prm.beamAoaEnable 2 1), 2, 32768, 0, 12, by decide +kernel⟩⟩

theorem witness_RadiosSendInTheirIntervals :
    (∃ (s : State) (r : Nat), r < 3 ∧ (refreshList r s).radioQuiet r = true ∧ ((refreshList r s).sched r).list ≠ [] ∧ ((refreshList r s).wradio r).txop = none ∧ ((refreshList r s).wradio r).round = none ∧ ((refreshList r s).wradio r).beaconsOnly = false) ∧
    (∃ (s : State) (r : Nat) (k : Nat) (h : Nat) (q : Nat) (us : Nat) (e : Nat) (start : Nat) (sec : Nat), r < 3 ∧ s.radioQuiet r = true ∧ (s.wradio r).txop = some (start, e) ∧ s.now + us * 1000 ≤ e ∧ s.airtimeOk r (s.now + us * 1000) = true ∧ (s.wradio r).round = none ∧ (s.wradio r).beaconsOnly = false ∧ sec ∈ s.enabledSectors r ∧ staSector (s.sta k) r = sec ∧ staMode (s.sta k) ≠ 3 ∧ (s.staSt k).unacked = [] ∧ (s.wb h).ring = none ∧ (s.sched r).out = [(h, q)] ∧ q / 8 = k ∧ q < 16384 ∧ s.canServe r { precoded := false, sector := sec, users := [k], durUs := us } (s.now + us * 1000) k = true) ∧
    (∃ (s : State) (sec : Nat) (us : Nat), sec < 8 ∧ s.sectorOn sec = true ∧ s.stopped (macUnit (radioOfSector sec)) = false ∧ (s.wsector sec).lastTbtt < s.tsf sec / s.beaconUs sec * s.beaconUs sec ∧ (s.wradio (radioOfSector sec)).txop = none ∧ (s.wradio (radioOfSector sec)).switching = false ∧ s.cfg.commits = [] ∧ s.cfg.old = [] ∧ s.cfg.tables = [] ∧ (s.wradio (radioOfSector sec)).beaconsOnly = false ∧ (s.wradio (radioOfSector sec)).announce = [] ∧ s.quietPlan (radioOfSector sec) = none ∧ us ≤ s.parN Prm.wlanBeaconLateUs 0) ∧
    (∃ (s : State) (sec : Nat), sec < 8 ∧ s.sectorOn sec = true ∧ s.stopped (macUnit (radioOfSector sec)) = false ∧ radioOfSector sec = 2 ∧ s.parN Prm.wlanFilsTu sec ≠ 0 ∧ (s.wradio 2).txUntil ≤ s.now ∧ s.inQuiet 2 = false ∧ (s.wradio 2).beaconsOnly = false ∧ (s.wsector sec).lastAd + s.parN Prm.wlanFilsTu sec * 1024000 ≤ s.now) :=
  ⟨⟨Wit.queued, 2, by decide +kernel⟩,
   ⟨Wit.interval, 2, 9, 100, 74, 1000, 40000000, 30000000, 6, by decide +kernel⟩,
   ⟨(Wit.wlan {} {} {}), 6, 0, by decide +kernel⟩,
   ⟨((Wit.wlan {} {} {}).setPar Prm.beamEnable 6 1), 6, by decide +kernel⟩⟩

theorem witness_SectorsReceiveAndServePeriods :
    (∃ (s : State) (sec : Nat), sec < 8 ∧ s.sectorOn sec = true ∧ s.stopped (macUnit (radioOfSector sec)) = false ∧ (s.wradio (radioOfSector sec)).txUntil ≤ s.now ∧ (s.mould sec).rxDrop = false) ∧
    (∃ (s : State) (sec : Nat) (k : Nat) (m : RxMpdu), sec < 8 ∧ s.sectorOn sec = true ∧ s.stopped (macUnit (radioOfSector sec)) = false ∧ (s.wradio (radioOfSector sec)).txUntil ≤ s.now ∧ (s.mould sec).rxDrop = false ∧ m.station = some k ∧ m.kind = RxKind.null ∧ m.fcsOk = true ∧ m.prot = none ∧ radioOfSector sec ∈ staLinks (s.sta k) ∧ staSector (s.sta k) (radioOfSector sec) = sec) ∧
    (∃ (s : State) (sec : Nat), sec < 8 ∧ s.sectorOn sec = true ∧ s.stopped (macUnit (radioOfSector sec)) = false ∧ (s.wradio (radioOfSector sec)).txUntil ≤ s.now ∧ (s.wsector sec).rx = none) ∧
    (∃ (s : State) (sec : Nat) (x : Incoming), sec < 8 ∧ s.sectorOn sec = true ∧ s.stopped (macUnit (radioOfSector sec)) = false ∧ (s.wradio (radioOfSector sec)).txUntil ≤ s.now ∧ (s.wsector sec).rx = some x ∧ x.solicited = true) ∧
    (∃ (s : State) (sec : Nat) (x : Incoming), sec < 8 ∧ s.sectorOn sec = true ∧ s.stopped (macUnit (radioOfSector sec)) = false ∧ (s.wradio (radioOfSector sec)).txUntil ≤ s.now ∧ (s.wsector sec).rx = some x ∧ x.solicited = false ∧ s.par Prm.wlanRestartDb (radioOfSector sec) ≠ 0) ∧
    (∃ (s : State) (sec : Nat) (i : Nat) (n : Nat), sec < 8 ∧ i < 32 ∧ s.toSp sec i = some (n, true) ∧ s.sectorOn sec = true ∧ s.stopped (macUnit (radioOfSector sec)) = false ∧ (s.wradio (radioOfSector sec)).sp = none ∧ (s.wradio (radioOfSector sec)).txop = none) ∧
    (∃ (s : State) (sec : Nat) (i : Nat) (p : ServicePeriod), sec < 8 ∧ i < 32 ∧ (s.wradio (radioOfSector sec)).sp = some p ∧ p.sector = sec ∧ p.entry = i ∧ p.until_ ≤ s.now ∧ s.backlogged (radioOfSector sec) = []) :=
  ⟨⟨(Wit.wlan {} {} {unacked := [{handle := 100, tid := 2}, {handle := 101, tid := 2}]}), 6, by decide +kernel⟩,
   ⟨(Wit.wlan {} {} {awake := 4}), 6, 9, {station := some 9, kind := .null, doze := true}, by decide +kernel⟩,
   ⟨(Wit.wlan {} {} {}), 6, by decide +kernel⟩,
   ⟨(Wit.wlan {} {rx := some {solicited := true, level := -70}} {}), 6, {solicited := true, level := -70}, by decide +kernel⟩,
   ⟨(Wit.wlan {} {rx := some {solicited := false, level := -70}} {}), 6, {solicited := false, level := -70}, by decide +kernel⟩,
   ⟨Wit.period, 6, 3, 90000000, by decide +kernel⟩,
   ⟨(Wit.wlan {sp := some {sector := 6, entry := 3, until_ := 0}} {} {}), 6, 3, {sector := 6, entry := 3, until_ := 0}, by decide +kernel⟩⟩

theorem witness_GeneralRegistersTakeResults :
    (∃ (e : Nat) (s : State) (f : FmtA), s.canIssue e = true ∧ f.rsv = 0 ∧ f.a < 8 ∧ f.b < 8) ∧
    (∃ (e : Nat) (s : State) (f : FmtA), s.canIssue e = true ∧ f.rsv = 0 ∧ f.a < 8 ∧ f.d < 8 ∧ f.b < 8) ∧
    (∃ (e : Nat) (s : State) (f : FmtA), s.canIssue e = true ∧ f.rsv = 0 ∧ f.a < 8 ∧ f.d < 8) ∧
    (∃ (e : Nat) (s : State) (f : FmtA), s.canIssue e = true ∧ f.rsv = 0 ∧ f.d < 8 ∧ 12 ≤ f.a ∧ f.a < 16) ∧
    (∃ (e : Nat) (s : State) (f : FmtA), s.canIssue e = true ∧ f.rsv = 0 ∧ f.d < 8 ∧ 12 ≤ f.a ∧ f.a < 16 ∧ 12 ≤ f.b ∧ f.b < 16) ∧
    (∃ (e : Nat) (s : State) (f : FmtI), s.canIssue e = true ∧ f.a < 8 ∧ f.imm < 65536) ∧
    (∃ (e : Nat) (s : State) (f : FmtI), s.canIssue e = true ∧ f.a < 8 ∧ f.imm < 65536 ∧ f.d < 8) ∧
    (∃ (e : Nat) (s : State) (f : FmtA), s.canIssue e = true ∧ f.rsv = 0 ∧ f.a < 16 ∧ f.d < 8) ∧
    (∃ (e : Nat) (s : State) (f : FmtA), s.canIssue e = true ∧ f.rsv = 0 ∧ f.a < 16 ∧ 8 ≤ f.d ∧ f.d < 12) ∧
    (∃ (e : Nat) (s : State) (f : FmtA), s.canIssue e = true ∧ f.rsv = 0 ∧ f.a < 16 ∧ 12 ≤ f.d ∧ f.d < 16) ∧
    (∃ (e : Nat) (s : State) (f : FmtA), s.canIssue e = true ∧ f.rsv = 0 ∧ f.a < 16 ∧ 12 ≤ f.a) ∧
    (∃ (e : Nat) (s : State) (f : FmtA), s.canIssue e = true ∧ f.rsv = 0 ∧ f.d < 8 ∧ f.a < 8 ∧ 2 ^ 29 ≤ (s.eng e).bank.dOf f.a ∧ (s.eng e).bank.dOf f.a < 2 ^ 31) ∧
    (∃ (e : Nat) (s : State) (f : FmtA), s.canIssue e = true ∧ f.rsv = 0 ∧ f.d < 8 ∧ f.a < 8 ∧ ((s.eng e).bank.dOf f.a < 2 ^ 29 ∨ 2 ^ 31 ≤ (s.eng e).bank.dOf f.a)) :=
  ⟨⟨3, (Wit.engine {pc := 7, bank0 := Wit.bank}), {s:=false,d:=4,a:=0,b:=1}, by decide +kernel⟩,
   ⟨3, (Wit.engine {pc := 7, bank0 := Wit.bank}), {s:=false,d:=4,a:=0,b:=1}, by decide +kernel⟩,
   ⟨3, (Wit.engine {pc := 7, bank0 := Wit.bank}), {s:=false,d:=4,a:=0,b:=1}, by decide +kernel⟩,
   ⟨3, (Wit.engine {pc := 7, bank0 := Wit.bank}), {s:=false,d:=4,a:=13,b:=14}, by decide +kernel⟩,
   ⟨3, (Wit.engine {pc := 7, bank0 := Wit.bank}), {s:=false,d:=4,a:=13,b:=14}, by decide +kernel⟩,
   ⟨3, (Wit.engine {pc := 7, bank0 := Wit.bank}), ⟨4,1,5⟩, by decide +kernel⟩,
   ⟨3, (Wit.engine {pc := 7, bank0 := Wit.bank}), ⟨4,1,5⟩, by decide +kernel⟩,
   ⟨3, (Wit.engine {pc := 7, bank0 := Wit.bank}), {s:=false,d:=4,a:=1,b:=0}, by decide +kernel⟩,
   ⟨3, (Wit.engine {pc := 7, bank0 := Wit.bank}), {s:=false,d:=10,a:=1,b:=0}, by decide +kernel⟩,
   ⟨3, (Wit.engine {pc := 7, bank0 := Wit.bank}), {s:=false,d:=15,a:=1,b:=0}, by decide +kernel⟩,
   ⟨3, (Wit.engine {pc := 7, bank0 := Wit.bank}), {s:=false,d:=4,a:=13,b:=0}, by decide +kernel⟩,
   ⟨3, (Wit.engine {pc := 7, bank0 := Wit.bank}), {s:=false,d:=4,a:=3,b:=0}, by decide +kernel⟩,
   ⟨3, (Wit.engine {pc := 7, bank0 := Wit.bank}), {s:=false,d:=4,a:=0,b:=0}, by decide +kernel⟩⟩

theorem witness_AccumulatorsTakeResults :
    (∃ (e : Nat) (s : State) (f : FmtA), s.canIssue e = true ∧ f.rsv = 0 ∧ 12 ≤ f.d ∧ f.d < 16) ∧
    (∃ (e : Nat) (s : State) (f : FmtA), s.canIssue e = true ∧ f.rsv = 0 ∧ 12 ≤ f.d ∧ f.d < 16 ∧ 12 ≤ f.a ∧ f.a < 16 ∧ 12 ≤ f.b ∧ f.b < 16) ∧
    (∃ (e : Nat) (s : State) (f : FmtA), s.canIssue e = true ∧ f.rsv = 0 ∧ 12 ≤ f.d ∧ f.d < 16 ∧ 12 ≤ f.a ∧ f.a < 16) ∧
    (∃ (e : Nat) (s : State) (f : FmtA), s.canIssue e = true ∧ f.rsv = 0 ∧ 12 ≤ f.d ∧ f.d < 16 ∧ f.a < 8) ∧
    (∃ (e : Nat) (s : State) (f : FmtA), s.canIssue e = true ∧ f.rsv = 0 ∧ 12 ≤ f.d ∧ f.d < 16 ∧ 12 ≤ f.a ∧ f.a < 16 ∧ f.b < 8) :=
  ⟨⟨3, (Wit.engine {pc := 7, bank0 := Wit.bank}), {s:=false,d:=15,a:=13,b:=14}, by decide +kernel⟩,
   ⟨3, (Wit.engine {pc := 7, bank0 := Wit.bank}), {s:=false,d:=15,a:=13,b:=14}, by decide +kernel⟩,
   ⟨3, (Wit.engine {pc := 7, bank0 := Wit.bank}), {s:=false,d:=15,a:=13,b:=3}, by decide +kernel⟩,
   ⟨3, (Wit.engine {pc := 7, bank0 := Wit.bank}), {s:=false,d:=15,a:=2,b:=14}, by decide +kernel⟩,
   ⟨3, (Wit.engine {pc := 7, bank0 := Wit.bank}), {s:=false,d:=15,a:=13,b:=3}, by decide +kernel⟩⟩

theorem witness_ProductsAndFilterTaps :
    (∃ (e : Nat) (s : State) (f : FmtM), s.canIssue e = true ∧ f.rsv = 0 ∧ f.a < 4 ∧ (s.eng e).canMove f = true) ∧
    (∃ (e : Nat) (s : State) (f : FmtM), s.canIssue e = true ∧ f.rsv = 0 ∧ f.a < 4 ∧ (s.eng e).canMove f = true ∧ (f.a = 0 ∨ f.a = 2)) ∧
    (∃ (e : Nat) (s : State) (f : FmtM), s.canIssue e = true ∧ f.rsv = 0 ∧ f.a < 4 ∧ (s.eng e).canMove f = true ∧ f.a = 0) ∧
    (∃ (e : Nat) (s : State) (f : FmtM) (mx : Move) (my : Move), s.canIssue e = true ∧ f.rsv = 0 ∧ f.a < 4 ∧ (s.eng e).canMove f = true ∧ parseMove f.xm = some (some mx) ∧ parseMove f.ym = some (some my) ∧ (f.a = 0 ∨ f.a = 2)) ∧
    (∃ (e : Nat) (s : State) (f : FmtM) (mx : Move) (my : Move), s.canIssue e = true ∧ f.rsv = 0 ∧ f.a < 4 ∧ (s.eng e).canMove f = true ∧ parseMove f.xm = some (some mx) ∧ parseMove f.ym = some (some my)) :=
  ⟨⟨3, (Wit.engine {pc := 7, bank0 := Wit.bank, x := {cells := [(16, some 5), (17, some 9)]}, y := {cells := [(32, some 7)]}, mod := [(0, 65532), (8, 16)]}), {s:=false,a:=0,u:=0,w:=1,xm:=0x80,ym:=0xA4}, by decide +kernel⟩,
   ⟨3, (Wit.engine {pc := 7, bank0 := Wit.bank, x := {cells := [(16, some 5), (17, some 9)]}, y := {cells := [(32, some 7)]}, mod := [(0, 65532), (8, 16)]}), {s:=false,a:=0,u:=0,w:=1,xm:=0x80,ym:=0xA4}, by decide +kernel⟩,
   ⟨3, (Wit.engine {pc := 7, bank0 := Wit.bank, x := {cells := [(16, some 5), (17, some 9)]}, y := {cells := [(32, some 7)]}, mod := [(0, 65532), (8, 16)]}), {s:=false,a:=0,u:=0,w:=1,xm:=0x80,ym:=0xA4}, by decide +kernel⟩,
   ⟨3, (Wit.engine {pc := 7, bank0 := Wit.bank, x := {cells := [(16, some 5), (17, some 9)]}, y := {cells := [(32, some 7)]}, mod := [(0, 65532), (8, 16)]}), {s:=false,a:=0,u:=0,w:=1,xm:=0x80,ym:=0xA4}, {f:=0,i:=0,step:=0}, {f:=1,i:=0,step:=2}, by decide +kernel⟩,
   ⟨3, (Wit.engine {pc := 7, bank0 := Wit.bank, x := {cells := [(16, some 5), (17, some 9)]}, y := {cells := [(32, some 7)]}, mod := [(0, 65532), (8, 16)]}), {s:=true,a:=1,u:=0,w:=1,xm:=0x84,ym:=0xA2}, {f:=0,i:=0,step:=2}, {f:=1,i:=0,step:=1}, by decide +kernel⟩⟩

theorem witness_LoadsAndStores :
    (∃ (e : Nat) (s : State) (f : FmtL) (y : Bool), s.canIssue e = true ∧ f.mode < 3 ∧ f.reg < 16 ∧ ((if f.mode = 0 then (s.eng e).bank.idx.get (f.i + if y = true then 4 else 0) else if f.mode = 1 then ((s.eng e).bank.idx.get (f.i + if y = true then 4 else 0) + f.off) % 65536 else f.off % 65536) % if f.half = true then 2 else 4) = 0 ∧ (if f.mode = 0 then (s.eng e).bank.idx.get (f.i + if y = true then 4 else 0) else if f.mode = 1 then ((s.eng e).bank.idx.get (f.i + if y = true then 4 else 0) + f.off) % 65536 else f.off % 65536) < 65536 ∧ f.reg < 8) ∧
    (∃ (e : Nat) (s : State) (f : FmtL) (y : Bool), s.canIssue e = true ∧ f.mode < 3 ∧ f.reg < 16 ∧ ((if f.mode = 0 then (s.eng e).bank.idx.get (f.i + if y = true then 4 else 0) else if f.mode = 1 then ((s.eng e).bank.idx.get (f.i + if y = true then 4 else 0) + f.off) % 65536 else f.off % 65536) % if f.half = true then 2 else 4) = 0 ∧ (if f.mode = 0 then (s.eng e).bank.idx.get (f.i + if y = true then 4 else 0) else if f.mode = 1 then ((s.eng e).bank.idx.get (f.i + if y = true then 4 else 0) + f.off) % 65536 else f.off % 65536) < 65536) ∧
    (∃ (e : Nat) (s : State) (f : FmtL) (y : Bool), s.canIssue e = true ∧ f.mode < 3 ∧ f.reg < 16 ∧ ((if f.mode = 0 then (s.eng e).bank.idx.get (f.i + if y = true then 4 else 0) else if f.mode = 1 then ((s.eng e).bank.idx.get (f.i + if y = true then 4 else 0) + f.off) % 65536 else f.off % 65536) % if f.half = true then 2 else 4) = 0 ∧ (if f.mode = 0 then (s.eng e).bank.idx.get (f.i + if y = true then 4 else 0) else if f.mode = 1 then ((s.eng e).bank.idx.get (f.i + if y = true then 4 else 0) + f.off) % 65536 else f.off % 65536) < 65536 ∧ 8 ≤ f.reg ∧ f.reg < 12) ∧
    (∃ (e : Nat) (s : State) (f : FmtL) (y : Bool), s.canIssue e = true ∧ f.mode < 3 ∧ f.reg < 16 ∧ ((if f.mode = 0 then (s.eng e).bank.idx.get (f.i + if y = true then 4 else 0) else if f.mode = 1 then ((s.eng e).bank.idx.get (f.i + if y = true then 4 else 0) + f.off) % 65536 else f.off % 65536) % if f.half = true then 2 else 4) = 0 ∧ (if f.mode = 0 then (s.eng e).bank.idx.get (f.i + if y = true then 4 else 0) else if f.mode = 1 then ((s.eng e).bank.idx.get (f.i + if y = true then 4 else 0) + f.off) % 65536 else f.off % 65536) < 65536 ∧ 12 ≤ f.reg) :=
  ⟨⟨3, (Wit.engine {pc := 7, bank0 := Wit.bank, x := {cells := [(16, some 5), (17, some 9)]}, y := {cells := [(32, some 7)]}, mod := [(0, 65532), (8, 16)]}), {half:=true,reg:=2,i:=0,mode:=0,step:=1,off:=0}, false, by decide +kernel⟩,
   ⟨3, (Wit.engine {pc := 7, bank0 := Wit.bank, x := {cells := [(16, some 5), (17, some 9)]}, y := {cells := [(32, some 7)]}, mod := [(0, 65532), (8, 16)]}), {half:=true,reg:=2,i:=0,mode:=0,step:=1,off:=0}, false, by decide +kernel⟩,
   ⟨3, (Wit.engine {pc := 7, bank0 := Wit.bank, x := {cells := [(16, some 5), (17, some 9)]}, y := {cells := [(32, some 7)]}, mod := [(0, 65532), (8, 16)]}), {half:=true,reg:=9,i:=0,mode:=0,step:=1,off:=0}, false, by decide +kernel⟩,
   ⟨3, (Wit.engine {pc := 7, bank0 := Wit.bank, x := {cells := [(16, some 5), (17, some 9)]}, y := {cells := [(32, some 7)]}, mod := [(0, 65532), (8, 16)]}), {half:=true,reg:=13,i:=0,mode:=0,step:=1,off:=0}, false, by decide +kernel⟩⟩

theorem witness_ControlFlowFollowsTheTable :
    (∃ (e : Nat) (s : State), s.canIssue e = true) ∧
    (∃ (e : Nat) (s : State) (f : FmtB), s.canIssue e = true ∧ (s.eng e).atLoopEnd = false ∧ f.rsv = 0 ∧ f.cond ≤ 8) ∧
    (∃ (e : Nat) (s : State) (f : FmtB), s.canIssue e = true ∧ (s.eng e).atLoopEnd = false ∧ f.rsv = 0 ∧ f.cond ≤ 8 ∧ f.reg < 8) ∧
    (∃ (e : Nat) (s : State) (f : FmtB), s.canIssue e = true ∧ (s.eng e).atLoopEnd = false ∧ f.rsv = 0) ∧
    (∃ (e : Nat) (s : State) (f : FmtB), s.canIssue e = true ∧ (s.eng e).atLoopEnd = false ∧ f.rsv = 0 ∧ f.reg < 8) ∧
    (∃ (e : Nat) (s : State) (f : FmtB), s.canIssue e = true ∧ (s.eng e).atLoopEnd = false ∧ f.rsv = 0 ∧ ((s.eng e).bank.lpc2 = 0 ∨ (s.eng e).bank.lpc = 0) ∧ f.reg < 8) ∧
    (∃ (e : Nat) (s : State) (f : FmtB), s.canIssue e = true ∧ (s.eng e).atLoopEnd = false ∧ f.rsv = 0 ∧ ((s.eng e).bank.lpc2 = 0 ∨ (s.eng e).bank.lpc = 0)) ∧
    (∃ (e : Nat) (s : State) (f : FmtB) (h : Handler), s.canIssue e = true ∧ (s.eng e).atLoopEnd = false ∧ f.rsv = 0 ∧ (s.eng e).stack = [h] ∧ h.completed = true ∧ (∀ (i : Nat), i < 64 → s.irqTarget i = e → s.irqLevel i = false) ∧ (s.eng e).soft = 0) ∧
    (∃ (e : Nat) (s : State), s.canIssue e = true ∧ (s.eng e).atLoopEnd = false ∧ bits (s.eng e).pwrm 3 2 ≠ 0 ∧ (s.eng e).pwrm % 4 ≠ 3 ∧ s.wakes e = false) ∧
    (∃ (e : Nat) (s : State), s.canIssue e = true ∧ (s.eng e).atLoopEnd = false ∧ bits (s.eng e).pwrm 3 2 ≠ 0 ∧ (s.eng e).pwrm % 4 ≠ 3 ∧ s.wakes e = true) :=
  ⟨⟨3, (Wit.engine {pc := 7, bank0 := Wit.bank, x := {cells := [(16, some 5), (17, some 9)]}, y := {cells := [(32, some 7)]}, mod := [(0, 65532), (8, 16)]}), by decide +kernel⟩,
   ⟨3, (Wit.engine {pc := 7, bank0 := Wit.bank, x := {cells := [(16, some 5), (17, some 9)]}, y := {cells := [(32, some 7)]}, mod := [(0, 65532), (8, 16)]}), {cond:=0,reg:=1,target:=99}, by decide +kernel⟩,
   ⟨3, (Wit.engine {pc := 7, bank0 := Wit.bank, x := {cells := [(16, some 5), (17, some 9)]}, y := {cells := [(32, some 7)]}, mod := [(0, 65532), (8, 16)]}), {cond:=0,reg:=1,target:=99}, by decide +kernel⟩,
   ⟨3, (Wit.engine {pc := 7, bank0 := Wit.bank, x := {cells := [(16, some 5), (17, some 9)]}, y := {cells := [(32, some 7)]}, mod := [(0, 65532), (8, 16)]}), {cond:=0,reg:=1,target:=99}, by decide +kernel⟩,
   ⟨3, (Wit.engine {pc := 7, bank0 := Wit.bank, x := {cells := [(16, some 5), (17, some 9)]}, y := {cells := [(32, some 7)]}, mod := [(0, 65532), (8, 16)]}), {cond:=0,reg:=1,target:=99}, by decide +kernel⟩,
   ⟨3, (Wit.engine {pc := 7, bank0 := Wit.bank, x := {cells := [(16, some 5), (17, some 9)]}, y := {cells := [(32, some 7)]}, mod := [(0, 65532), (8, 16)]}), {cond:=0,reg:=1,target:=99}, by decide +kernel⟩,
   ⟨3, (Wit.engine {pc := 7, bank0 := Wit.bank, x := {cells := [(16, some 5), (17, some 9)]}, y := {cells := [(32, some 7)]}, mod := [(0, 65532), (8, 16)]}), {cond:=0,reg:=1,target:=99}, by decide +kernel⟩,
   ⟨3, (Wit.engine {pc := 7, threadPc := 55, stack := [{source := 60, claimed := true, completed := true}]}), {cond:=0,reg:=0,target:=0}, {source := 60, claimed := true, completed := true}, by decide +kernel⟩,
   ⟨3, (Wit.engine {pc := 7}), by decide +kernel⟩,
   ⟨3, (Wit.engine {pc := 7, soft := 2^19, pwrm := 9, bank0 := {st := 128}}), by decide +kernel⟩⟩

theorem witness_SystemInstructions :
    (∃ (e : Nat) (s : State) (f : FmtS), s.canIssue e = true ∧ f.reg < 8 ∧ f.io = 96) ∧
    (∃ (e : Nat) (s : State) (f : FmtS), s.canIssue e = true ∧ f.reg < 8 ∧ 256 ≤ f.io) ∧
    (∃ (e : Nat) (s : State) (f : FmtS), s.canIssue e = true ∧ f.reg < 8 ∧ f.io = 0 ∧ (s.runner e).job = none ∧ (s.runner e).buf = none ∧ s.queuesWithJobs = []) ∧
    (∃ (e : Nat) (s : State) (f : FmtS), s.canIssue e = true ∧ f.reg < 8 ∧ f.sreg ≤ 34) ∧
    (∃ (e : Nat) (s : State), s.canIssue e = true) ∧
    (∃ (e : Nat) (s : State), s.canIssue e = true ∧ s.sec.debugPerms.testBit 0 = true) ∧
    (∃ (e : Nat) (s : State), s.canIssue e = true ∧ s.sec.debugPerms.testBit 0 = false ∧ (s.eng e).stack = []) :=
  ⟨⟨3, (Wit.engine {pc := 7, bank0 := Wit.bank, x := {cells := [(16, some 5), (17, some 9)]}, y := {cells := [(32, some 7)]}, mod := [(0, 65532), (8, 16)]}), {reg:=3,io:=0x60}, by decide +kernel⟩,
   ⟨3, (Wit.engine {pc := 7, bank0 := Wit.bank, x := {cells := [(16, some 5), (17, some 9)]}, y := {cells := [(32, some 7)]}, mod := [(0, 65532), (8, 16)]}), {reg:=3,io:=0x160}, by decide +kernel⟩,
   ⟨3, (Wit.engine {pc := 7, bank0 := Wit.bank, x := {cells := [(16, some 5), (17, some 9)]}, y := {cells := [(32, some 7)]}, mod := [(0, 65532), (8, 16)]}), {reg:=3,io:=0}, by decide +kernel⟩,
   ⟨3, (Wit.engine {pc := 7, bank0 := Wit.bank, x := {cells := [(16, some 5), (17, some 9)]}, y := {cells := [(32, some 7)]}, mod := [(0, 65532), (8, 16)]}), {reg:=3,sreg:=0}, by decide +kernel⟩,
   ⟨3, (Wit.engine {pc := 7, bank0 := Wit.bank, x := {cells := [(16, some 5), (17, some 9)]}, y := {cells := [(32, some 7)]}, mod := [(0, 65532), (8, 16)]}), by decide +kernel⟩,
   ⟨3, ({Wit.engine {pc := 7} with sec := {Wit.ses.sec with debugPerms := 1}}), by decide +kernel⟩,
   ⟨3, (Wit.engine {pc := 7, bank0 := Wit.bank, x := {cells := [(16, some 5), (17, some 9)]}, y := {cells := [(32, some 7)]}, mod := [(0, 65532), (8, 16)]}), by decide +kernel⟩⟩

theorem witness_JobsWeightPushesAndLists :
    (∃ (s : State) (e : Nat) (j : Job), e < 32 ∧ s.canAct e = true ∧ (s.runner e).job = none ∧ (s.runner e).buf = some j ∧ j.kind ≠ 1) ∧
    (∃ (s : State) (e : Nat), e < 32 ∧ s.canAct e = true ∧ (s.runner e).job = none ∧ (s.runner e).buf = none ∧ s.queuesWithJobs = []) ∧
    (∃ (s : State) (e : Nat) (j : Job), e < 32 ∧ s.canAct e = true ∧ (s.runner e).job = some j ∧ j.kind ≠ 1 ∧ s.task.waiters = []) ∧
    (∃ (s : State) (e : Nat) (v : Nat), e < 32 ∧ s.canAct e = true ∧ s.mayPost e (v % 256) = true ∧ bits v 19 8 ≠ 0 ∧ s.task.waiters = [] ∧ (s.jobq (v % 256)).jobs.length < s.parN Prm.taskQueueDepth (v % 256)) ∧
    (∃ (s : State) (e : Nat) (j : Job), e < 32 ∧ (s.runner e).job = some j ∧ s.parN Prm.ladleJobWatchdogUs e ≠ 0 ∧ (s.runner e).buf = none ∧ (s.runner e).since + s.parN Prm.ladleJobWatchdogUs e * 1000 < s.now ∧ s.task.waiters = [] ∧ s.power.st = PState.run ∧ s.recast.jobs = [] ∧ s.recast.held = false ∧ (∀ (x : Nat × Waybill), x ∈ s.pkt.wb → x.snd.owner ≠ enginePort e)) ∧
    (∃ (s : State) (e : Nat), e < 32 ∧ ((s.eng e).sleep = Sleep.idle ∨ (s.eng e).sleep = Sleep.nap) ∧ s.wakes e = true) ∧
    (∃ (s : State) (e : Nat) (k : Nat) (i : Install), e < 32 ∧ s.task.install = [i] ∧ i.slot = k ∧ i.kernel = none ∧ i.left = [e, e + 1] ∧ (s.runner e).job = none) ∧
    (∃ (s : State) (e : Nat) (mask : Nat) (entry : Nat), e < 32 ∧ s.canAct e = true ∧ entry < 2 ^ 512 ∧ s.wlCredit mask = true) ∧
    (∃ (s : State) (e : Nat) (mask : Nat) (k : Nat), e < 32 ∧ s.canAct e = true ∧ k < 8 ∧ mask.testBit k = true ∧ 256 ≤ (s.mould k).fifo.length) ∧
    (∃ (s : State) (e : Nat) (j : Job) (v : Nat) (a : Nat), e < 32 ∧ s.canAct e = true ∧ (s.runner e).job = some j ∧ v < 32 ∧ a < 2 ^ 64 ∧ s.parN Prm.taskQueueSlot j.queue < 64 ∧ s.chanOwner (32 * (e / 4) + v) = s.parN Prm.taskQueueSlot j.queue ∧ 2 ≤ (s.kernel (s.parN Prm.taskQueueSlot j.queue)).abi ∧ s.par Prm.dmaEngineEnable (e / 4) ≠ 0 ∧ s.dma.chan.get (32 * (e / 4) + v) = none) ∧
    (∃ (s : State) (e : Nat) (st : Nat) (k : Nat) (tag : Nat) (rest : List (Nat × Nat × Nat)), e < 32 ∧ s.canAct e = true ∧ (s.sprue (e / 4)).cq = (st, k, tag) :: rest) :=
  ⟨⟨(Wit.runner {buf := some {queue := 20, kind := 0, arg := 1, cost := 1}}), 3, {queue := 20, kind := 0, arg := 1, cost := 1}, by decide +kernel⟩,
   ⟨(Wit.runner {}), 3, by decide +kernel⟩,
   ⟨(Wit.runner {job := some {queue := 20, kind := 0, arg := 1, cost := 1}}), 3, {queue := 20, kind := 0, arg := 1, cost := 1}, by decide +kernel, by decide +kernel, by decide +kernel, by decide +kernel, rfl⟩,
   ⟨Wit.kernel, 3, (21 + 4*256), by decide +kernel, by decide +kernel, by decide +kernel, by decide +kernel, rfl, by decide +kernel⟩,
   ⟨Wit.stuck, 3, {queue := 20, kind := 0, arg := 1, cost := 1}, by decide +kernel, by decide +kernel, by decide +kernel, by decide +kernel, by decide +kernel, rfl, by decide +kernel, by decide +kernel, by decide +kernel, by decide +kernel⟩,
   ⟨(Wit.engine {sleep := .nap, soft := 2^19, pwrm := 9, bank0 := {st := 128}}), 3, by decide +kernel⟩,
   ⟨{(Wit.runner {}) with task := {(Wit.runner {}).task with install := [⟨4, some 3, none, 24, [3,4]⟩]}}, 3, 4, ⟨4, some 3, none, 24, [3,4]⟩, by decide +kernel⟩,
   ⟨(Wit.engine {}), 3, 65, (2^500 + 77*2^32 + 5), by decide +kernel⟩,
   ⟨{(Wit.engine {}) with beam := {sector := [(6, {fifo := List.replicate 256 1})]}}, 3, 65, 6, by decide +kernel⟩,
   ⟨Wit.kernel, 3, {queue := 20, kind := 0, arg := 1, cost := 1}, 5, (2^40 + 64), by decide +kernel⟩,
   ⟨{(Wit.engine {}) with dma := {Wit.ses.dma with sprue := [(0, {cq := [(1,5,77),(2,3,4)]})]}}, 3, 1, 5, 77, [(2,3,4)], by decide +kernel⟩⟩

theorem witness_InterruptsAreTakenAndAcknowledged :
    (∃ (s : State) (e : Nat) (i : Nat), e < 32 ∧ s.inService e = true ∧ (s.eng e).debugHalt = false ∧ (s.eng e).sleep = Sleep.awake ∧ (s.eng e).stack = [] ∧ (s.eng e).bank0.flag St.ie = true ∧ s.candidates e = [i] ∧ (s.runner e).fetch = none) ∧
    (∃ (s : State) (e : Nat) (t : Nat), e < 32 ∧ t < 4 ∧ (s.task.timer.get t).armed = true ∧ (s.task.timer.get t).lo + (s.task.timer.get t).hi * 2 ^ 32 ≤ s.now) ∧
    (∃ (s : State) (e : Nat) (h : Handler) (rest : List Handler), e < 32 ∧ s.canAct e = true ∧ (s.eng e).stack = h :: rest ∧ h.source < 64 ∧ h.claimed = false ∧ s.irqLevel h.source = true) ∧
    (∃ (s : State) (e : Nat) (h : Handler) (rest : List Handler), e < 32 ∧ s.canAct e = true ∧ (s.eng e).stack = h :: rest ∧ h.source < 64 ∧ h.claimed = true) ∧
    (∃ (s : State) (e : Nat) (v : Nat), e < 32 ∧ s.canAct e = true ∧ (∀ (h : Handler), h ∈ (s.eng e).stack.head? → h.source = v → h.claimed = false)) ∧
    (∃ (s : State) (e : Nat) (h : Handler) (rest : List Handler), e < 32 ∧ s.canAct e = true ∧ (s.eng e).stack = h :: rest ∧ h.completed = true ∧ h.source < 64 ∧ s.irqTarget h.source = e ∧ s.irqPriority h.source ≠ 0 ∧ s.irqLevel h.source = true ∧ (s.eng e).mask.testBit h.source = false ∧ (rest.all fun k => k.source != h.source) = true) ∧
    (∃ (s : State) (e : Nat) (h : Handler) (rest : List Handler), e < 32 ∧ s.canAct e = true ∧ (s.eng e).stack = h :: rest ∧ h.completed = true ∧ ((s.candidates e).all fun i => decide (s.irqGroup (s.irqPriority i) ≤ h.group)) = true) ∧
    (∃ (s : State) (e : Nat) (hi : Nat) (v : Nat), e < 32 ∧ s.canAct e = true ∧ hi < 2 ∧ v < 2 ^ 32) ∧
    (∃ (s : State) (e : Nat) (r : Nat), e < 32 ∧ s.canAct e = true ∧ r < 3) ∧
    (∃ (s : State) (e : Nat), e < 32 ∧ s.canAct e = true) ∧
    (∃ (s : State) (e : Nat) (n : Nat), e < 32 ∧ s.canAct e = true ∧ n < 4) ∧
    (∃ (s : State) (e : Nat) (v : Nat), e < 32 ∧ s.canAct e = true ∧ v < 32) :=
  ⟨⟨(Wit.engine {pc := 7, vbase := 128, soft := 2^19, bank0 := {st := 128}}), 3, 19, by decide +kernel⟩,
   ⟨{Wit.ses with task := {Wit.ses.task with timer := [(2,{lo := 0, armed := true})]}}, 3, 2, by decide +kernel⟩,
   ⟨(Wit.engine {doorbell := true, soft := 2^19 + 2^20, stack := [{source := 19}]}), 3, {source := 19}, [], by decide +kernel⟩,
   ⟨(Wit.engine {stack := [{source := 19, claimed := true}]}), 3, {source := 19, claimed := true}, [], by decide +kernel⟩,
   ⟨(Wit.engine {stack := [{source := 19, claimed := true}]}), 3, 20, by decide +kernel⟩,
   ⟨(Wit.engine {doorbell := true, stack := [{source := 19, claimed := true, completed := true}]}), 3, {source := 19, claimed := true, completed := true}, [], by decide +kernel⟩,
   ⟨(Wit.engine {doorbell := true, stack := [{source := 19, claimed := true, completed := true, group := 255}]}), 3, {source := 19, claimed := true, completed := true, group := 255}, [], by decide +kernel⟩,
   ⟨(Wit.engine {mask := 2^19+5, soft := 2^19+3}), 3, 0, (2^19+2^20), by decide +kernel⟩,
   ⟨{(Wit.engine {}) with task := {(Wit.engine {}).task with roundLevel := [(1,true)], swpLevel := [(1,true)]}}, 3, 1, by decide +kernel⟩,
   ⟨{(Wit.engine {}) with task := {(Wit.engine {}).task with secLevel := true}}, 3, by decide +kernel⟩,
   ⟨{(Wit.engine {}) with task := {(Wit.engine {}).task with timer := [(1,{level := true})]}}, 3, 1, by decide +kernel⟩,
   ⟨(Wit.engine {}), 3, 9, by decide +kernel⟩⟩

theorem witness_ActivationFollowsPloam :
    (∃ (s : State) (n : Nat) (p : PonProfile) (v : Int) (b : Bool) (c : Instr), s.ponSynced = true ∧ s.pon.st ≠ OnuSt.off ∧ c ∈ [Instr.burstProfile false b n n p, Instr.assignOnuId false n n n, Instr.rangingTime false b n b v, Instr.deactivateOnuId false, Instr.disableSerialNumber false b none, Instr.requestRegistration false, Instr.assignAllocId false n n b, Instr.keyControl false n, Instr.sleepAllow false b, Instr.unsupportedPloam false n]) ∧
    (∃ (s : State) (i : Nat), s.ponSynced = true ∧ i < 4 ∧ s.pon.st = OnuSt.o12) ∧
    (∃ (s : State) (i : Nat), s.ponSynced = true ∧ i < 4 ∧ s.pon.st = OnuSt.o51 ∧ s.pon.onuId ≠ 1023) ∧
    (∃ (s : State) (id : Nat), s.ponSynced = true ∧ s.pon.st = OnuSt.o23 ∧ id < 1023) ∧
    (∃ (s : State), s.ponSynced = true ∧ s.pon.st = OnuSt.o4) ∧
    (∃ (s : State) (v : Int), s.ponSynced = true ∧ s.pon.st = OnuSt.o51 ∧ s.pon.onuId ≠ 1023 ∧ s.pon.eqdNext = none ∧ 0 ≤ (↑s.pon.eqd : Int) + v) ∧
    (∃ (s : State), s.ponSynced = true ∧ (s.pon.st = OnuSt.o4 ∨ s.pon.st = OnuSt.o51)) ∧
    (∃ (s : State), s.ponSynced = true ∧ s.pon.st ≠ OnuSt.off ∧ s.pon.st ≠ OnuSt.o7) ∧
    (∃ (s : State), s.ponSynced = true ∧ s.pon.st = OnuSt.o7 ∧ s.pon.profile = []) ∧
    (∃ (s : State), s.ponSynced = true ∧ s.pon.st ≠ OnuSt.off ∧ s.pon.onuId ≠ 1023) ∧
    (∃ (s : State) (i : Nat) (id : Nat), s.ponSynced = true ∧ s.pon.st ≠ OnuSt.off ∧ s.pon.onuId ≠ 1023 ∧ 0 < i ∧ i < 64 ∧ (∀ (j : Nat), 0 < j → j < i → (s.pon.alloc.get j).used = true) ∧ (s.pon.alloc.get i).used = false ∧ (∀ (j : Nat), j < 64 → (s.pon.alloc.get j).used = true → (s.pon.alloc.get j).allocId ≠ id)) ∧
    (∃ (s : State) (i : Nat), s.ponSynced = true ∧ s.pon.st ≠ OnuSt.off ∧ s.pon.onuId ≠ 1023 ∧ 0 < i ∧ i < 64 ∧ (s.pon.alloc.get i).used = true ∧ (∀ (j : Nat), j < i → (s.pon.alloc.get j).used = true → (s.pon.alloc.get j).allocId ≠ (s.pon.alloc.get i).allocId)) ∧
    (∃ (s : State) (i : Nat), s.ponSynced = true ∧ s.pon.st ≠ OnuSt.off ∧ s.pon.onuId ≠ 1023 ∧ (i = 1 ∨ i = 2) ∧ s.sec.rngFailed = false) ∧
    (∃ (s : State), s.ponSynced = true ∧ s.pon.st ≠ OnuSt.off ∧ s.par Prm.ponPsEnable 0 = 1 ∧ s.pon.watch = WatchSt.activeHeld ∧ s.pon.watchAt + s.parN Prm.ponPsIholdMs 0 * 1000000 ≤ s.now) ∧
    (∃ (s : State), s.ponSynced = true ∧ s.pon.st = OnuSt.o6) :=
  ⟨⟨(Wit.pon Wit.onu), 3, Wit.profile, 7, true, (Instr.burstProfile false true 3 3 Wit.profile), by decide +kernel⟩,
   ⟨(Wit.pon {st := .o12}), 1, by decide +kernel⟩,
   ⟨(Wit.pon Wit.onu), 2, by decide +kernel⟩,
   ⟨(Wit.pon {st := .o23, vendor := 3, serial := 4}), 77, by decide +kernel⟩,
   ⟨(Wit.pon {st := .o4, onuId := 5}), by decide +kernel⟩,
   ⟨(Wit.pon Wit.onu), (-34), by decide +kernel⟩,
   ⟨(Wit.pon Wit.onu), by decide +kernel⟩,
   ⟨(Wit.pon Wit.onu), by decide +kernel⟩,
   ⟨{(Wit.pon {st := .o7}) with fw := {Wit.ses.fw with ponO7 := true}}, by decide +kernel⟩,
   ⟨(Wit.pon Wit.onu), by decide +kernel⟩,
   ⟨(Wit.pon Wit.onu), 2, 444, by decide +kernel, by decide +kernel, by decide +kernel, by decide +kernel, by decide +kernel, (by intro j h1 h2; have h : j = 1 := (by omega); subst h; rfl), by decide +kernel, by intro j hj; revert j; decide +kernel⟩,
   ⟨(Wit.pon Wit.onu), 1, by decide +kernel, by decide +kernel, by decide +kernel, by decide +kernel, by decide +kernel, by decide +kernel, by intro j hj; revert j; decide +kernel⟩,
   ⟨(Wit.pon Wit.onu), 1, by decide +kernel⟩,
   ⟨((Wit.pon Wit.onu).setPar Prm.ponPsEnable 0 1 |>.setPar Prm.ponPsIholdMs 0 0), by decide +kernel⟩,
   ⟨(Wit.pon {Wit.onu with st := .o6}), by decide +kernel⟩⟩

theorem witness_PonSyncAndSupervision :
    (∃ (s : State), s.par Prm.ponMode 0 ≠ 0 ∧ s.ponLos = false ∧ s.stopped { scope := 1, group := 11, inst := 0 } = false ∧ s.pon.sync = PonSync.hunt) ∧
    (∃ (s : State) (sfc : Nat) (errs : Nat), s.par Prm.ponMode 0 ≠ 0 ∧ s.ponLos = false ∧ s.stopped { scope := 1, group := 11, inst := 0 } = false ∧ s.pon.sync = PonSync.sync ∧ errs ≤ s.parN Prm.ponPsyncErrTol 0 ∧ sfc = (s.pon.sfc + 1) % 2 ^ 51 ∧ s.cfg.commits = [] ∧ s.cfg.old = [] ∧ s.cfg.tables = [] ∧ s.par Prm.ponPsEnable 0 = 0 ∧ s.pon.tod = none) ∧
    (∃ (s : State) (errs : Nat), s.par Prm.ponMode 0 ≠ 0 ∧ s.ponLos = false ∧ s.stopped { scope := 1, group := 11, inst := 0 } = false ∧ s.pon.sync = PonSync.resync ∧ s.parN Prm.ponPsyncErrTol 0 < errs ∧ s.parN Prm.ponSyncM1 0 ≤ s.pon.bad + 1 ∧ s.pon.st = OnuSt.o51) ∧
    (∃ (s : State) (level : Bool), s.ponBen = true ∧ (level != (s.parN Prm.ponPinPolarity 0).testBit 1) = true) ∧
    (∃ (s : State) (level : Bool), (level != (s.parN Prm.ponPinPolarity 0).testBit 1) = false) ∧
    (∃ (s : State) (cause : Nat), s.pon.defects.testBit 6 = false ∧ (cause = 1 ∨ cause = 2)) ∧
    (∃ (s : State) (x : Nat × Nat × Nat), s.pon.tod = some x) ∧
    (∃ (s : State), s.par Prm.ponMode 0 = 4 ∧ s.pon.locked = false ∧ s.pon.sync = PonSync.hunt) ∧
    (∃ (s : State), s.par Prm.ponPsEnable 0 = 1 ∧ s.pon.st = OnuSt.o51 ∧ s.ponStimulus = false ∧ s.pon.watch = WatchSt.activeHeld ∧ s.pon.allow = true) ∧
    (∃ (s : State), s.par Prm.ponPsEnable 0 = 1 ∧ s.pon.st = OnuSt.o51 ∧ s.ponStimulus = false ∧ s.pon.watch = WatchSt.activeFree) ∧
    (∃ (s : State), s.par Prm.ponPsEnable 0 = 1 ∧ s.pon.st = OnuSt.o51 ∧ s.ponStimulus = false ∧ s.pon.watch = WatchSt.lowPower) ∧
    (∃ (s : State) (d : DdmRead), s.par Prm.ponDdmPeriodMs 0 ≠ 0 ∧ d.cal = none ∧ d.limits = []) ∧
    (∃ (s : State), s.par Prm.ponDdmPeriodMs 0 ≠ 0 ∧ s.pon.ddm.fails = 2) ∧
    (∃ (s : State), s.power.tbEntry = none) :=
  ⟨⟨(Wit.rx {} Prm.ponMode 2), by decide +kernel⟩,
   ⟨(Wit.pon {Wit.onu with eqdNext := some 50}), 1, 1, by decide +kernel⟩,
   ⟨(Wit.rx {Wit.onu with sync := .resync, bad := 2} Prm.ponSyncM1 3), 33, by decide +kernel⟩,
   ⟨(Wit.pon {Wit.onu with benUntil := 10000}), true, by decide +kernel⟩,
   ⟨(Wit.pon {Wit.onu with defects := 32}), false, by decide +kernel⟩,
   ⟨(Wit.pon Wit.onu), 1, by decide +kernel⟩,
   ⟨(Wit.pon {Wit.onu with tod := some (1,2,3)}), (1,2,3), by decide +kernel⟩,
   ⟨(Wit.rx {Wit.onu with sync := .hunt} Prm.ponMode 4), by decide +kernel⟩,
   ⟨(Wit.rx {Wit.onu with watch := .activeHeld, allow := true} Prm.ponPsEnable 1), by decide +kernel⟩,
   ⟨(Wit.rx {Wit.onu with watch := .activeFree, allow := true} Prm.ponPsEnable 1), by decide +kernel⟩,
   ⟨(Wit.rx {Wit.onu with watch := .lowPower, allow := true} Prm.ponPsEnable 1), by decide +kernel⟩,
   ⟨((Wit.pon Wit.onu).setPar Prm.ponDdmPeriodMs 0 1000), {raw := [1,2,3,4,70000], limits := []}, by decide +kernel⟩,
   ⟨((Wit.pon {Wit.onu with ddm := {fails := 2, vals := [(1,some 4)]}}).setPar Prm.ponDdmPeriodMs 0 1000), by decide +kernel⟩,
   ⟨(Wit.pon {Wit.onu with run := {keyErr := 3}}), by decide +kernel⟩⟩

theorem witness_PonDataMoves :
    (∃ (s : State) (x : Xgem), s.ponSynced = true ∧ s.stopped { scope := 1, group := 11, inst := 0 } = false ∧ x.idle = false ∧ x.uncorr = false ∧ x.full = false ∧ x.key = 0 ∧ (s.pon.sdu.get x.port).bad = false ∧ s.xgemDown x.port = none ∧ x.last = true) ∧
    (∃ (s : State) (x : Xgem) (i : Nat), s.ponSynced = true ∧ s.stopped { scope := 1, group := 11, inst := 0 } = false ∧ x.idle = false ∧ x.uncorr = false ∧ x.full = false ∧ x.key = 0 ∧ (s.pon.sdu.get x.port).bad = false ∧ s.xgemDown x.port = some i ∧ bits (s.entryNat Tbl.ponXgem 0 i) 27 26 = 0 ∧ x.last = false ∧ (s.pon.sdu.get x.port).open_ = true ∧ (s.pon.sdu.get x.port).data.length + x.data.length ≤ 16384) ∧
    (∃ (s : State) (m : Allocation) (i : Nat) (p : PonProfile), s.ponSynced = true ∧ m.serial = false ∧ m.wake = false ∧ m.ploamu = false ∧ m.dbru = false ∧ m.chained = false ∧ s.allocIndex m.allocId = some i ∧ s.pon.st = OnuSt.o51 ∧ s.pon.watch = WatchSt.activeHeld ∧ s.pon.profile.get m.profile = some p ∧ s.pon.bursts = [] ∧ s.wlan.grants.get i = []) ∧
    (∃ (s : State) (i : Nat) (b : PonBurst) (x : PonSlot), s.pon.bursts = [b] ∧ b.slots = [x] ∧ x.index = i ∧ x.wanted = none) ∧
    (∃ (s : State) (b : PonBurst) (rest : List PonBurst) (p : PonProfile) (x : PonSlot) (u : PonSdu), s.pon.bursts = b :: rest ∧ s.pon.profile.get b.profile = some p ∧ s.ponTxOff = false ∧ s.pon.watch = WatchSt.activeHeld ∧ s.stopped { scope := 1, group := 11, inst := 0 } = false ∧ b.serial = false ∧ b.ploamu = false ∧ b.slots = [x] ∧ x.dbru = false ∧ s.pon.fifo.get x.index = [u] ∧ u.secure = false ∧ 12 ≤ x.payload ∧ x.payload - 8 < u.left.length ∧ s.ponFault = false) :=
  ⟨⟨(Wit.xgem Wit.onu), {port := 901}, by decide +kernel⟩,
   ⟨(Wit.xgem {Wit.onu with sdu := [(900,{open_ := true, data := [1]})]}), {port := 900, data := [2,3], last := false}, 3, by decide +kernel⟩,
   ⟨(Wit.pon Wit.onu), {allocId := 300, start := 5000, stop := 9000, size := 100, profile := 1}, 1, Wit.profile, by decide +kernel⟩,
   ⟨(Wit.pon {Wit.onu with bursts := [{us := 5, start := 1000, stop := 2000, profile := 1, ploamu := false, slots := [{index := 1, payload := 20, dbru := false}]}]}), 1, {us := 5, start := 1000, stop := 2000, profile := 1, ploamu := false, slots := [{index := 1, payload := 20, dbru := false}]}, {index := 1, payload := 20, dbru := false}, by decide +kernel⟩,
   ⟨(Wit.pon {Wit.onu with bursts := [{us := 5, start := 1000, stop := 2000, profile := 1, ploamu := false, slots := [{index := 1, payload := 20, dbru := false}]}], fifo := [(1,[{handle := 100, left := List.replicate 30 5, port := 900, secure := false}])]}), {us := 5, start := 1000, stop := 2000, profile := 1, ploamu := false, slots := [{index := 1, payload := 20, dbru := false}]}, [], Wit.profile, {index := 1, payload := 20, dbru := false}, {handle := 100, left := List.replicate 30 5, port := 900, secure := false}, by decide +kernel⟩⟩

theorem witness_PacketsEnterAndLeaveTheStore :
    (∃ (s : State) (a : Arrival) (p : Nat) (q : Nat), a.port < 10 ∧ a.cls ≤ 2 ∧ s.par Prm.pktEnable 0 ≠ 0 ∧ s.stopped packetPath = false ∧ a.data ≠ [] ∧ a.data.length ≤ 65535 ∧ ((fun port n p => s.poolFor n = some p ∧ s.mayTake port p = true ∧ List.length s.pkt.wb < waybills) a.port (s.parN Prm.poolHeadroom 0 + a.data.length) p) ∧ a.directed = some q ∧ assignedQueue q = true ∧ s.parN Prm.tollPolicer q = 65535 ∧ (s.tq q).depth + s.counted q a.data.length ≤ s.parN Prm.tollQmaxBytes q) ∧
    (∃ (s : State) (a : Arrival) (p : Nat), a.port < 10 ∧ a.cls ≤ 2 ∧ s.par Prm.pktEnable 0 ≠ 0 ∧ s.stopped packetPath = false ∧ a.data ≠ [] ∧ a.data.length ≤ 65535 ∧ ((fun port n p => s.poolFor n = some p ∧ s.mayTake port p = true ∧ List.length s.pkt.wb < waybills) a.port (s.parN Prm.poolHeadroom 0 + a.data.length) p) ∧ a.directed = none ∧ a.ring = none ∧ s.pkt.tcam = [] ∧ (∀ (c : Nat), c < 3 → s.parN Prm.pktMissAction c % 4 = 0) ∧ s.parN Prm.pktCsumCheck 0 ≠ 2 ∧ (parsePacket a.data (s.parN Prm.pktVxlanPort 0)).conflict = false) ∧
    (∃ (s : State) (a : Arrival), a.port < 10 ∧ a.cls ≤ 2 ∧ s.par Prm.pktEnable 0 ≠ 0 ∧ s.stopped packetPath = false ∧ a.data ≠ [] ∧ a.data.length ≤ 65535 ∧ s.poolFor (s.parN Prm.poolHeadroom 0 + a.data.length) = none) ∧
    (∃ (s : State) (port : Nat) (n : Nat) (p : Nat), validPort port = true ∧ (∀ (k : Nat), k < 6 → (s.pool k).carried = []) ∧ n ≠ 0 ∧ ((fun port n p => s.poolFor n = some p ∧ s.mayTake port p = true ∧ List.length s.pkt.wb < waybills) port n p)) ∧
    (∃ (s : State) (port : Nat) (n : Nat) (p : Nat), validPort port = true ∧ (∀ (k : Nat), k < 6 → (s.pool k).carried = []) ∧ n ≠ 0 ∧ s.poolFor n = some p ∧ s.mayTake port p = false) ∧
    (∃ (s : State) (port : Nat) (n : Nat), validPort port = true ∧ (∀ (k : Nat), k < 6 → (s.pool k).carried = []) ∧ n ≠ 0 ∧ s.poolFor n = none) ∧
    (∃ (s : State) (port : Nat), validPort port = true ∧ (∀ (k : Nat), k < 6 → (s.pool k).carried = [])) ∧
    (∃ (s : State) (port : Nat) (h : Nat) (dest : Nat), validPort port = true ∧ h < waybills ∧ (s.wb h).pool < 6 ∧ validPort dest = true ∧ (s.wb h).used = true ∧ (s.wb h).owner = port) ∧
    (∃ (s : State) (port : Nat) (h : Nat) (dest : Nat), validPort port = true ∧ h < waybills ∧ (s.wb h).pool < 6 ∧ validPort dest = true ∧ ((s.wb h).used = false ∨ (s.wb h).owner ≠ port)) ∧
    (∃ (s : State) (port : Nat) (h : Nat), validPort port = true ∧ h < waybills ∧ (s.wb h).pool < 6 ∧ (s.wb h).used = true ∧ (s.wb h).owner = port ∧ (s.wb h).ring = none) ∧
    (∃ (s : State) (port : Nat) (h : Nat), validPort port = true ∧ h < waybills ∧ (s.wb h).pool < 6 ∧ ((s.wb h).used = false ∨ (s.wb h).owner ≠ port)) ∧
    (∃ (s : State) (port : Nat) (h : Nat) (p : Nat) (b : Nat), validPort port = true ∧ h < waybills ∧ (s.wb h).pool < 6 ∧ p < 6 ∧ b < s.parN Prm.poolCount p ∧ s.bufferOwner p b = some h) ∧
    (∃ (port : Nat) (h : Nat), validPort port = true ∧ waybills ≤ h) ∧
    (∃ (s : State) (port : Nat) (h : Nat) (a : Nat), validPort port = true ∧ waybills ≤ h ∧ s.addrBuffer a = none) :=
  ⟨⟨(Wit.path {} {}), {port := 0, srcType := 0, srcInst := 3, data := List.replicate 64 9, directed := some 16400}, 0, 16400, by decide +kernel⟩,
   ⟨((Wit.path {} {}).setPar Prm.pktMissAction 0 0 |>.setPar Prm.pktMissAction 1 0 |>.setPar Prm.pktMissAction 2 0), {port := 0, srcType := 0, srcInst := 3, data := List.replicate 64 9}, 0, by decide +kernel⟩,
   ⟨(Wit.path {} {} |>.setPar Prm.poolCount 5 0), {port := 0, srcType := 0, srcInst := 3, data := List.replicate 13000 9}, by decide +kernel⟩,
   ⟨(Wit.path {} {}), 64, 100, 0, by decide +kernel⟩,
   ⟨(Wit.path {} {} |>.setPar Prm.poolReserve 0 32768), 3, 100, 0, by decide +kernel⟩,
   ⟨(Wit.path {} {}), 64, 70000, by decide +kernel⟩,
   ⟨(Wit.path {} {}), 64, by decide +kernel⟩,
   ⟨(Wit.stored 33 {}), 33, 100, 12, by decide +kernel⟩,
   ⟨(Wit.stored 34 {}), 33, 100, 12, by decide +kernel⟩,
   ⟨(Wit.stored 33 {}), 33, 100, by decide +kernel⟩,
   ⟨(Wit.stored 34 {}), 33, 100, by decide +kernel⟩,
   ⟨(Wit.stored 33 {}), 33, 100, 0, 4, by decide +kernel⟩,
   ⟨33, 262144, by decide +kernel⟩,
   ⟨Wit.noPools, 33, 262144, 1, by decide +kernel, by decide +kernel, wit_noBuffer⟩⟩

theorem witness_PacketPathMaintenance :
    (∃ (s : State) (h : Nat) (g : Nat), (s.wb h).used = true ∧ (s.wb h).group = some g ∧ (s.wb h).ring = none ∧ List.filter (fun q => !s.isSource (s.wb h).srcType (s.wb h).srcInst (q % 2 ^ 15)) (s.groupMembers g) = []) ∧
    (∃ (s : State) (h : Nat) (g : Nat) (q : Nat) (p : Nat), (s.wb h).used = true ∧ (s.wb h).group = some g ∧ (s.wb h).ring = none ∧ List.filter (fun q => !s.isSource (s.wb h).srcType (s.wb h).srcInst (q % 2 ^ 15)) (s.groupMembers g) = [q] ∧ 16384 ≤ q ∧ q < 16896 ∧ (s.wb h).srcType ≠ 4 ∧ (s.wb h).ecc = false ∧ (s.wb h).data ≠ [] ∧ s.poolFor (s.parN Prm.poolHeadroom 0 + (s.wb h).data.length) = some p ∧ s.mayTake 10 p = true ∧ List.length s.pkt.wb < waybills ∧ s.parN Prm.tollPolicer q = 65535 ∧ (s.tq q).depth + s.counted q (s.wb h).data.length ≤ s.parN Prm.tollQmaxBytes q) ∧
    (∃ (s : State) (n : Nat) (h : Nat), n ≤ 27 ∧ h < waybills ∧ (s.wb h).used = true ∧ (s.wb h).owner = 32 + n ∧ (s.wb h).ring = none ∧ s.pkt.tcam = [] ∧ s.parN Prm.pktCsumCheck 0 ≠ 2 ∧ (parsePacket (s.wb h).data (s.parN Prm.pktVxlanPort 0)).conflict = false ∧ (∀ (c : Nat), c < 3 → s.parN Prm.pktMissAction c % 4 = 0)) ∧
    (∃ (s : State) (n : Nat) (h : Nat), n ≤ 27 ∧ h < waybills ∧ ((s.wb h).used = false ∨ (s.wb h).owner ≠ 32 + n) ∧ (s.wb h).pool < 6) ∧
    (∃ (s : State) (i : Nat), flowValid (s.flowAt i) = true ∧ bit (fieldAt (s.flowAt i) 43 1) 1 = false ∧ s.parN Prm.pktFlowAgeS 0 ≠ 0 ∧ bit (fieldAt (s.flowAt i) 43 1) 2 = true ∧ (s.flowAt i).length = 64) ∧
    (∃ (s : State) (i : Nat), flowValid (s.flowAt i) = true ∧ bit (fieldAt (s.flowAt i) 43 1) 1 = false ∧ s.parN Prm.pktFlowAgeS 0 ≠ 0 ∧ bit (fieldAt (s.flowAt i) 43 1) 2 = false ∧ s.pkt.flowAt.get i + s.parN Prm.pktFlowAgeS 0 * 1000000000 ≤ s.now) ∧
    (∃ (s : State) (i : Nat), flowValid (s.flowAt i) = true ∧ bit (fieldAt (s.flowAt i) 43 1) 1 = false ∧ s.parN Prm.pktFlowAgeS 0 ≠ 0 ∧ bit (fieldAt (s.flowAt i) 43 1) 2 = false ∧ s.now < s.pkt.flowAt.get i + s.parN Prm.pktFlowAgeS 0 * 1000000000) ∧
    (∃ (s : State) (i : Nat), bit (fieldAt (s.flowAt i) 43 1) 1 = true) ∧
    (∃ (s : State) (i : Nat), (s.pkt.frag.get i).frags ≠ [] ∧ (s.pkt.frag.get i).since + 2000000000 ≤ s.now ∧ (∀ (h : Nat), h ∈ (s.pkt.frag.get i).frags → (s.wb h).ring = none)) ∧
    (∃ (s : State) (i : Nat), (s.pkt.frag.get i).frags ≠ [] ∧ s.now < (s.pkt.frag.get i).since + 2000000000) ∧
    (∃ (s : State) (n : Nat) (j : Job), n ≤ 27 ∧ (s.runner (64 + n)).job = some j ∧ s.parN Prm.pktDcWatchdogUs 0 ≠ 0 ∧ (s.runner (64 + n)).buf = none ∧ s.stopped (engineUnit (64 + n)) = false ∧ (s.runner (64 + n)).since + s.parN Prm.pktDcWatchdogUs 0 * 1000 < s.now ∧ s.task.waiters = [] ∧ s.power.st = PState.run ∧ s.recast.jobs = [] ∧ s.recast.held = false ∧ s.pkt.wb.wf = true ∧ (∀ (h : Nat), (s.wb h).owner = 32 + n → (s.wb h).ring = none)) :=
  ⟨⟨(Wit.path {wb := [(100, {Wit.bill 10 with group := some 5})]} {}), 100, 5, by decide +kernel⟩,
   ⟨(setActive Tbl.pktMcast 5 3 (le 2 16400) (Wit.path {wb := [(100, {Wit.bill 10 with group := some 5})]} {})), 100, 5, 16400, 0, by decide +kernel⟩,
   ⟨(Wit.stored 33 {} |>.setPar Prm.pktMissAction 0 0 |>.setPar Prm.pktMissAction 1 0 |>.setPar Prm.pktMissAction 2 0), 1, 100, by decide +kernel⟩,
   ⟨(Wit.stored 35 {}), 1, 100, by decide +kernel⟩,
   ⟨(Wit.at_ 5 (Wit.path {flow := [(9, le 43 1 ++ le 21 5)]} {})), 9, by decide +kernel⟩,
   ⟨(Wit.at_ 3000000000000 (Wit.path {flow := [(9, le 43 1 ++ le 21 1)]} {})), 9, by decide +kernel⟩,
   ⟨(Wit.at_ 5 (Wit.path {flow := [(9, le 43 1 ++ le 21 1)]} {})), 9, by decide +kernel⟩,
   ⟨(Wit.at_ 5 (Wit.path {flow := [(9, le 43 1 ++ le 21 3)]} {})), 9, by decide +kernel⟩,
   ⟨(Wit.at_ 2000000000 (Wit.path {wb := [(100, Wit.bill 33)], frag := [(2, {frags := [100], since := 0})]} {})), 2, by decide +kernel⟩,
   ⟨(Wit.at_ 1999999999 (Wit.path {wb := [(100, Wit.bill 33)], frag := [(2, {frags := [100], since := 0})]} {})), 2, by decide +kernel⟩,
   ⟨{(Wit.at_ 30000000 (Wit.stored 33 {})).setPar Prm.pktDcWatchdogUs 0 1000 with task := {Wit.ses.task with run := [(65, {job := some {queue := 1, kind := 1, arg := 100, cost := 1}})]}}, 1, {queue := 1, kind := 1, arg := 100, cost := 1}, by decide +kernel, by decide +kernel, by decide +kernel, by decide +kernel, by decide +kernel, by decide +kernel, rfl, by decide +kernel, by decide +kernel, by decide +kernel, by decide +kernel, wit_noRings⟩⟩

theorem witness_QueuesTakeAndGivePackets :
    (∃ (s : State) (h : Nat) (q : Nat), (s.wb h).used = true ∧ (s.wb h).ring = none ∧ (List.any s.toll.q fun x => x.snd.pkts.any fun p => p.handle == h) = false ∧ assignedQueue q = true ∧ s.parN Prm.tollPolicer q = 65535 ∧ (s.tq q).depth + s.counted q (s.wb h).length ≤ s.parN Prm.tollQmaxBytes q) ∧
    (∃ (s : State) (h : Nat) (q : Nat), (s.wb h).used = true ∧ (s.wb h).ring = none ∧ (List.any s.toll.q fun x => x.snd.pkts.any fun p => p.handle == h) = false ∧ assignedQueue q = true ∧ s.parN Prm.tollPolicer q = 65535 ∧ s.parN Prm.tollQmaxBytes q < (s.tq q).depth + s.counted q (s.wb h).length) ∧
    (∃ (s : State) (h : Nat) (q : Nat) (i : Nat), (s.wb h).used = true ∧ (s.wb h).ring = none ∧ (List.any s.toll.q fun x => x.snd.pkts.any fun p => p.handle == h) = false ∧ assignedQueue q = true ∧ i = s.parN Prm.tollPolicer q ∧ i ≠ 65535 ∧ (policerEntry (s.entry Tbl.tollPolicer 0 i)).redDrop = true ∧ (policerEntry (s.entry Tbl.tollPolicer 0 i)).pbs * byteUnit < s.counted q (s.wb h).length * byteUnit + ((s.toll.policer.get i).pDebt - (policerEntry (s.entry Tbl.tollPolicer 0 i)).pir * (s.now - (s.toll.policer.get i).filled))) ∧
    (∃ (s : State) (h : Nat) (q : Nat), (s.wb h).used = true ∧ (s.wb h).ring = none ∧ (List.any s.toll.q fun x => x.snd.pkts.any fun p => p.handle == h) = false ∧ assignedQueue q = false ∧ q < queues) ∧
    (∃ (s : State) (e : Nat) (q : Nat) (p : QPkt) (rest : List QPkt), s.stopped packetPath = false ∧ s.egressOpen e = true ∧ s.backlogged e = [q] ∧ (s.sched e).list = [] ∧ (s.tq q).pkts = p :: rest ∧ (s.tq q).heldOff = false ∧ s.gateIsOpen e q = true ∧ s.gateProtects e q = false ∧ s.cOn q = false ∧ s.pOn q = false ∧ p.len ≤ s.parN Prm.tollQuantum q ∧ s.guardAllows e q p.len = true ∧ e < 3 ∧ (s.wradio e).sp = none) ∧
    (∃ (s : State) (e : Nat) (q : Nat) (p : QPkt) (rest : List QPkt), s.stopped packetPath = false ∧ s.egressOpen e = true ∧ s.backlogged e = [q] ∧ (s.sched e).list = [] ∧ (s.tq q).pkts = p :: rest ∧ (s.tq q).heldOff = false ∧ s.gateIsOpen e q = true ∧ s.gateProtects e q = false ∧ s.cOn q = false ∧ s.pOn q = false ∧ p.len ≤ s.parN Prm.tollQuantum q ∧ s.guardAllows e q p.len = true ∧ e = 74 ∧ (s.wb p.handle).used = true ∧ (s.wb p.handle).ring = none) ∧
    (∃ (s : State) (e : Nat), (s.stopped packetPath = true ∨ s.egressOpen e = false)) ∧
    (∃ (s : State) (e : Nat) (q : Nat) (p : QPkt) (rest : List QPkt), s.stopped packetPath = false ∧ s.egressOpen e = true ∧ s.backlogged e = [q] ∧ (s.sched e).list = [] ∧ (s.tq q).pkts = p :: rest ∧ (s.tq q).heldOff = false ∧ s.gateIsOpen e q = true ∧ s.gateProtects e q = false ∧ s.cOn q = false ∧ s.pOn q = false ∧ p.len ≤ s.parN Prm.tollQuantum q ∧ s.guardAllows e q p.len = true ∧ 67 ≤ e ∧ e ≤ 70) :=
  ⟨⟨(Wit.stored 10 {}), 100, 16400, by decide +kernel⟩,
   ⟨(Wit.stored 10 {} |>.setPar Prm.tollQmaxBytes 16400 20), 100, 16400, by decide +kernel⟩,
   ⟨(setActive Tbl.tollPolicer 0 7 (le 16 (2^112 + 2^113 + 1 + 2^32)) (Wit.stored 10 {}) |>.setPar Prm.tollPolicer 16400 7), 100, 16400, 7, by decide +kernel⟩,
   ⟨(Wit.stored 10 {}), 100, 17000, by decide +kernel⟩,
   ⟨(Wit.queued), 2, 72, {handle := 100, len := 60, at_ := 0}, [], by decide +kernel⟩,
   ⟨(Wit.stored 11 (Wit.waits 16979)), 74, 16979, {handle := 100, len := 80, at_ := 0}, [], by decide +kernel⟩,
   ⟨(Wit.stored 11 (Wit.waits 16979)), 68, by decide +kernel⟩,
   ⟨(let s := Wit.stored 11 (Wit.waits 16904); {s with radio := { s.radio with lane := Tab.put [] 17 { st := .up } }}), 68, 16904, {handle := 100, len := 80, at_ := 0}, [], by decide +kernel⟩⟩

theorem witness_GatesGuaranteesAndSamples :
    (∃ (s : State) (e : Nat) (i : Nat) (pos : Nat) (start : Nat), 67 ≤ e ∧ e ≤ 74 ∧ s.gatePos (gateHead (s.entry Tbl.tollGate e 0)) (gateCycle (s.gateList e)) = some pos ∧ gateAtPos pos 1 0 (s.gateList e) = some (i, start)) ∧
    (∃ (s : State) (e : Nat) (i : Nat) (pos : Nat) (start : Nat) (j : Nat), 67 ≤ e ∧ e ≤ 74 ∧ s.gatePos (gateHead (s.entry Tbl.tollGate e 0)) (gateCycle (s.gateList e)) = some pos ∧ gateAtPos pos 1 0 (s.gateList e) = some (i, start) ∧ j ≠ i) ∧
    (∃ (s : State) (e : Nat), 67 ≤ e ∧ e ≤ 74 ∧ (s.tabState Tbl.tollGate.id e).switching = true ∧ (gateHead (s.entry Tbl.tollGate e 0)).count = 0 ∧ (gateHead (s.standbyEntry Tbl.tollGate e 0)).count = 0) ∧
    (∃ (s : State) (e : Nat), 67 ≤ e ∧ e ≤ 74 ∧ (s.tabState Tbl.tollGate.id e).switching = true ∧ (gateHead (s.entry Tbl.tollGate e 0)).count = 0 ∧ 0 < (gateHead (s.standbyEntry Tbl.tollGate e 0)).count ∧ s.gatePos (gateHead (s.standbyEntry Tbl.tollGate e 0)) (gateCycle (List.map (fun i => gateEntry (s.standbyEntry Tbl.tollGate e (i + 1))) (List.range (gateHead (s.standbyEntry Tbl.tollGate e 0)).count))) = some 0) ∧
    (∃ (s : State) (q : Nat) (e : Nat), (s.schedsOf q).contains e = true ∧ (s.tq q).pkts ≠ [] ∧ s.cOn q = true ∧ (s.tq q).cDebt ≤ s.parN Prm.tollCirKbps q * (s.now - (s.tq q).filled) ∧ (s.tq q).cEpisode = false) ∧
    (∃ (s : State) (q : Nat) (e : Nat), (s.schedsOf q).contains e = true ∧ (s.tq q).pkts ≠ [] ∧ s.pOn q = true ∧ (s.tq q).pDebt ≤ s.parN Prm.tollPirKbps q * (s.now - (s.tq q).filled) ∧ (s.tq q).pEpisode = false) ∧
    (∃ (s : State) (q : Nat) (e : Nat) (o : Occupant), (s.schedsOf q).contains e = true ∧ (s.tq q).pkts ≠ [] ∧ s.cOn q = true ∧ o = { } ∧ (gated e = false ∨ s.gateIsOpen e q = true) ∧ (s.tq q).cDebt ≤ s.parN Prm.tollCirKbps q * (s.now - (s.tq q).filled) ∧ (s.tq q).cEpisode = false) ∧
    (∃ (s : State) (q : Nat) (e : Nat) (a : Active), s.backlogged e = [q] ∧ (s.sched e).list = [a] ∧ a.q = q ∧ a.turn = none ∧ (s.tq q).heldOff = false ∧ s.gateIsOpen e q = true ∧ s.gateProtects e q = false ∧ s.cOn q = false ∧ s.pOn q = false ∧ a.last + s.parN Prm.tollStarveUs e * 1000 ≤ s.now) ∧
    (∃ (s : State), s.parN Prm.tollSampleUs 0 ≠ 0) ∧
    (∃ (s : State), s.parN Prm.tollSampleUs 0 = 0) :=
  ⟨⟨(setActive Tbl.tollGate 68 0 (le 16 (2^72*2)) (setActive Tbl.tollGate 68 1 (le 16 (0xF + 0x1*256 + 2^32*100)) (setActive Tbl.tollGate 68 2 (le 16 (0xF0 + 2^32*50)) (Wit.at_ 120 (Wit.stored 11 (Wit.waits 16900)))))), 68, 2, 120, 100, by decide +kernel⟩,
   ⟨(setActive Tbl.tollGate 68 0 (le 16 (2^72*2)) (setActive Tbl.tollGate 68 1 (le 16 (0xF + 0x1*256 + 2^32*100)) (setActive Tbl.tollGate 68 2 (le 16 (0xF0 + 2^32*50)) (Wit.at_ 120 (Wit.stored 11 (Wit.waits 16900)))))), 68, 2, 120, 100, 1, by decide +kernel⟩,
   ⟨(updTabState Tbl.tollGate.id 68 (fun x => {x with switching := true}) (Wit.stored 11 (Wit.waits 16900))), 68, by decide +kernel⟩,
   ⟨(let s := updTabState Tbl.tollGate.id 68 (fun x => {x with switching := true}) (Wit.at_ 300 (Wit.stored 11 (Wit.waits 16900))); {s with cfg := {s.cfg with standby := [(tabKey Tbl.tollGate.id 68 0, some (le 16 (2^72*2))), (tabKey Tbl.tollGate.id 68 1, some (le 16 (0xF + 0x1*256 + 2^32*100))), (tabKey Tbl.tollGate.id 68 2, some (le 16 (0xF0 + 2^32*50)))]}}), 68, by decide +kernel⟩,
   ⟨(Wit.at_ 300 (Wit.stored 11 (Wit.waits 16900)) |>.setPar Prm.tollCirKbps 16900 1000 |>.setPar Prm.tollPirKbps 16900 2000), 16900, 67, by decide +kernel⟩,
   ⟨(Wit.at_ 300 (Wit.stored 11 (Wit.waits 16900)) |>.setPar Prm.tollCirKbps 16900 1000 |>.setPar Prm.tollPirKbps 16900 2000), 16900, 67, by decide +kernel⟩,
   ⟨(Wit.at_ 300 (Wit.stored 11 (Wit.waits 16900)) |>.setPar Prm.tollCirKbps 16900 1000 |>.setPar Prm.tollPirKbps 16900 2000), 16900, 67, {}, by decide +kernel⟩,
   ⟨(Wit.at_ 300000000 (Wit.stored 11 {Wit.waits 16900 with sched := [(67,{list := [{q := 16900, deficit := 7}]})]})), 16900, 67, {q := 16900, deficit := 7}, by decide +kernel⟩,
   ⟨(Wit.at_ 300 (Wit.stored 11 (Wit.waits 16900)) |>.setPar Prm.tollSampleUs 0 100), by decide +kernel⟩,
   ⟨(Wit.stored 11 (Wit.waits 16900)|>.setPar Prm.tollSampleUs 0 0), by decide +kernel⟩⟩

theorem witness_ListsAndRingsMoveData :
    (∃ (s : State) (n : Nat) (k : Nat) (a : Nat), n < 8 ∧ s.par Prm.dmaEngineEnable n ≠ 0 ∧ (s.sprue n).running = none ∧ s.readyChans n = [k] ∧ s.dma.chan.get (32 * n + k) = some a ∧ a % 32 ≠ 0) ∧
    (∃ (s : State) (n : Nat) (k : Nat) (a : Nat) (u : Option Upset) (e : Nat) (src : Nat) (dst : Nat) (len : Nat), n < 8 ∧ s.par Prm.dmaEngineEnable n ≠ 0 ∧ (s.sprue n).running = none ∧ s.readyChans n = [k] ∧ s.dma.chan.get (32 * n + k) = some a ∧ a % 32 = 0 ∧ a + 32 ≤ s.boot.ddrBytes ∧ s.par Prm.dmaChanMode (32 * n + k) ≠ 1 ∧ e = leNat (s.dma.ddr.read a 32) ∧ src = bits e 63 0 ∧ dst = bits e 127 64 ∧ len = bits e 159 128 ∧ bit e 160 = true ∧ bit e 161 = false ∧ 0 < len ∧ len ≤ 16777216 ∧ src + len ≤ s.boot.ddrBytes ∧ dst + len ≤ s.boot.ddrBytes ∧ s.boot.ddrBytes < 2 ^ 60 ∧ u = none) ∧
    (∃ (s : State) (n : Nat) (k : Nat) (a : Nat) (e : Nat) (src : Nat) (dst : Nat) (len : Nat), n < 8 ∧ s.par Prm.dmaEngineEnable n ≠ 0 ∧ (s.sprue n).running = none ∧ s.readyChans n = [k] ∧ s.dma.chan.get (32 * n + k) = some a ∧ a % 32 = 0 ∧ a + 32 ≤ s.boot.ddrBytes ∧ s.par Prm.dmaChanMode (32 * n + k) ≠ 1 ∧ e = leNat (s.dma.ddr.read a 32) ∧ src = bits e 63 0 ∧ dst = bits e 127 64 ∧ len = bits e 159 128 ∧ bit e 160 = true ∧ bit e 161 = false ∧ len = 0) ∧
    (∃ (s : State) (n : Nat) (k : Nat) (a : Nat) (e : Nat) (src : Nat) (dst : Nat) (len : Nat), n < 8 ∧ s.par Prm.dmaEngineEnable n ≠ 0 ∧ (s.sprue n).running = none ∧ s.readyChans n = [k] ∧ s.dma.chan.get (32 * n + k) = some a ∧ a % 32 = 0 ∧ a + 32 ≤ s.boot.ddrBytes ∧ s.par Prm.dmaChanMode (32 * n + k) ≠ 1 ∧ e = leNat (s.dma.ddr.read a 32) ∧ src = bits e 63 0 ∧ dst = bits e 127 64 ∧ len = bits e 159 128 ∧ bit e 160 = true ∧ bit e 161 = false ∧ 16777216 < len) ∧
    (∃ (s : State) (n : Nat) (err : Nat) (st : Nat) (r : RunEnd), n < 8 ∧ (s.sprue n).running = some r ∧ r.chan < 32 ∧ (st = if r.status = 0 ∧ (err = 3 ∨ err = 4) then err else r.status) ∧ s.chanOwner (32 * n + r.chan) < 64 ∧ (s.sprue n).cq.length < 64) ∧
    (∃ (s : State) (n : Nat) (err : Nat) (st : Nat) (r : RunEnd), n < 8 ∧ (s.sprue n).running = some r ∧ r.chan < 32 ∧ (st = if r.status = 0 ∧ (err = 3 ∨ err = 4) then err else r.status) ∧ s.chanOwner (32 * n + r.chan) < 64 ∧ 64 ≤ (s.sprue n).cq.length) ∧
    (∃ (s : State) (n : Nat) (err : Nat) (st : Nat) (r : RunEnd), n < 8 ∧ (s.sprue n).running = some r ∧ r.chan < 32 ∧ (st = if r.status = 0 ∧ (err = 3 ∨ err = 4) then err else r.status) ∧ 64 ≤ s.chanOwner (32 * n + r.chan)) ∧
    (∃ (s : State) (n : Nat) (e : Nat) (total : Nat) (descs : List Nat), 16 ≤ n ∧ n < 32 ∧ s.ringOn n = true ∧ oneDescPacket descs = true ∧ (s.ring n).taken + descs.length ≤ s.posted n ∧ (s.ring n).wait = [] ∧ total = (List.map (fun d => bits d 79 64) descs).sum ∧ e = descs.getLastD 0 ∧ total = 0) ∧
    (∃ (s : State) (n : Nat) (e : Nat) (total : Nat) (descs : List Nat) (err : Bool), 16 ≤ n ∧ n < 32 ∧ s.ringOn n = true ∧ oneDescPacket descs = true ∧ (s.ring n).taken + descs.length ≤ s.posted n ∧ (s.ring n).wait = [] ∧ total = (List.map (fun d => bits d 79 64) descs).sum ∧ e = descs.getLastD 0 ∧ 0 < total ∧ (err = true ∨ bits e 82 81 = 3 ∨ 16 < descs.length ∨ 65535 < total)) ∧
    (∃ (s : State) (n : Nat) (e : Nat) (total : Nat) (descs : List Nat) (err : Bool) (p : Nat) (q : Nat), 16 ≤ n ∧ n < 32 ∧ s.ringOn n = true ∧ oneDescPacket descs = true ∧ (s.ring n).taken + descs.length ≤ s.posted n ∧ (s.ring n).wait = [] ∧ total = (List.map (fun d => bits d 79 64) descs).sum ∧ e = descs.getLastD 0 ∧ 0 < total ∧ total ≤ 65535 ∧ err = false ∧ descs.length ≤ 16 ∧ bits e 82 81 = 2 ∧ q = bits e 97 83 ∧ q < queues ∧ bit e 101 = false ∧ s.par Prm.pktEnable 0 ≠ 0 ∧ s.stopped packetPath = false ∧ s.poolFor (s.parN Prm.poolHeadroom 0 + total) = some p ∧ s.mayTake 8 p = true ∧ List.length s.pkt.wb < waybills ∧ assignedQueue q = true ∧ s.parN Prm.tollPolicer q = 65535 ∧ (s.tq q).depth + s.counted q total ≤ s.parN Prm.tollQmaxBytes q) ∧
    (∃ (s : State) (n : Nat), n < 32 ∧ s.parN Prm.dmaRingIrqUs n ≠ 0 ∧ (s.ring n).unsignalled ≠ 0 ∧ (s.ring n).since + s.parN Prm.dmaRingIrqUs n * 1000 ≤ s.now) ∧
    (∃ (s : State) (n : Nat), n < 32 ∧ s.parN Prm.dmaRingIrqUs n ≠ 0 ∧ (s.ring n).unsignalled ≠ 0 ∧ s.now < (s.ring n).since + s.parN Prm.dmaRingIrqUs n * 1000) :=
  ⟨⟨(let s := Wit.list 4; {s with dma := {s.dma with chan := [(69, some 65)]}}), 2, 5, 65, by decide +kernel⟩,
   ⟨(Wit.list 4), 2, 5, 64, none, (leNat (Memory.read (Wit.list 4).dma.ddr 64 32)), 256, 512, 4, by decide +kernel⟩,
   ⟨(Wit.list 0), 2, 5, 64, (leNat (Memory.read (Wit.list 0).dma.ddr 64 32)), 256, 512, 0, by decide +kernel⟩,
   ⟨(Wit.list 16777217), 2, 5, 64, (leNat (Memory.read (Wit.list 16777217).dma.ddr 64 32)), 256, 512, 16777217, by decide +kernel⟩,
   ⟨(Wit.ran 0 [] |>.setPar Prm.dmaChanOwner 69 3), 2, 3, 3, {chan := 5, status := 0, tag := 9, bytes := 4, entry := 0}, by decide +kernel⟩,
   ⟨(Wit.ran 0 (List.replicate 64 (0,0,0)) |>.setPar Prm.dmaChanOwner 69 3), 2, 0, 0, {chan := 5, status := 0, tag := 9, bytes := 4, entry := 0}, by decide +kernel⟩,
   ⟨(Wit.ran 2 [] |>.setPar Prm.dmaChanOwner 69 254), 2, 0, 2, {chan := 5, status := 2, tag := 9, bytes := 4, entry := 0}, by decide +kernel⟩,
   ⟨(Wit.ring), 17, (2^80), 0, [2^80], by decide +kernel⟩,
   ⟨(Wit.ring), 17, Wit.desc, 64, [Wit.desc], true, by decide +kernel⟩,
   ⟨(Wit.ring), 17, Wit.desc, 64, [Wit.desc], false, 0, 16400, by decide +kernel⟩,
   ⟨(let s := Wit.at_ 20000 Wit.ring; {s with dma := {s.dma with ring := [(17, {prod := 3, unsignalled := 1})]}}), 17, by decide +kernel⟩,
   ⟨(let s := Wit.at_ 19999 Wit.ring; {s with dma := {s.dma with ring := [(17, {prod := 3, unsignalled := 1})]}}), 17, by decide +kernel⟩⟩

theorem witness_DrivesRunStoreCommands :
    (∃ (s : State) (d : Nat), d < 2 ∧ (s.drive d).st = DriveSt.absent) ∧
    (∃ (s : State) (d : Nat), d < 2 ∧ (s.drive d).st ≠ DriveSt.absent) ∧
    (∃ (s : State) (d : Nat), d < 2 ∧ (s.drive d).st = DriveSt.init ∧ s.stopped storeUnit = false) ∧
    (∃ (s : State) (d : Nat), d < 2 ∧ (s.drive d).st = DriveSt.init ∧ (s.drive d).initAt + 10000000000 ≤ s.now) ∧
    (∃ (s : State) (d : Nat), d < 2 ∧ (s.drive d).st = DriveSt.init ∧ s.now < (s.drive d).initAt + 10000000000) ∧
    (∃ (s : State) (d : Nat), d < 2 ∧ ((s.drive d).st = DriveSt.ready ∨ (s.drive d).st = DriveSt.init)) ∧
    (∃ (s : State) (d : Nat), d < 2 ∧ (s.drive d).st = DriveSt.ready ∧ (s.drive d).timeouts = []) ∧
    (∃ (s : State) (d : Nat) (x : Nat), d < 2 ∧ (s.drive d).st = DriveSt.ready ∧ x ∈ (s.drive d).timeouts ∧ s.now < x + 60000000000) ∧
    (∃ (s : State) (d : Nat) (cid : Nat) (j : StoreJob) (o : Obj) (a : Nat) (len : Nat) (rest : List (Nat × Nat)), d < 2 ∧ s.storeJob? cid = some j ∧ s.obj? j.key = some o ∧ o.drive = d ∧ s.driveReady d = true ∧ j.op = StoreOp.write ∧ j.segs = (a, len) :: rest ∧ Option.map (fun x => x.cid) (List.find? (fun x => x.key == j.key && x.op == StoreOp.write) s.dma.jobs) = some cid) ∧
    (∃ (s : State) (d : Nat) (cid : Nat) (j : StoreJob) (o : Obj) (k : Nat), d < 2 ∧ s.storeJob? cid = some j ∧ s.obj? j.key = some o ∧ o.drive = d ∧ s.driveReady d = true ∧ j.op = StoreOp.read ∧ k = min (s.parN Prm.storeReadKib 0 * 1024) (j.len - j.done)) ∧
    (∃ (s : State) (d : Nat) (cid : Nat) (j : StoreJob) (o : Obj) (k : Nat), d < 2 ∧ s.storeJob? cid = some j ∧ s.obj? j.key = some o ∧ o.drive = d ∧ s.driveReady d = true ∧ j.splice = true ∧ k = min (s.parN Prm.storeReadKib 0 * 1024) (j.len - j.fetched)) ∧
    (∃ (s : State) (d : Nat) (cid : Nat) (j : StoreJob) (o : Obj), d < 2 ∧ s.storeJob? cid = some j ∧ s.obj? j.key = some o ∧ o.drive = d ∧ s.driveReady d = true ∧ j.op = StoreOp.seal_ ∧ (s.dma.jobs.any fun x => x.key == j.key && x.op == StoreOp.write) = false ∧ s.ingestWaits o = false ∧ o.data ≠ []) ∧
    (∃ (s : State) (d : Nat) (cid : Nat) (j : StoreJob) (o : Obj), d < 2 ∧ s.storeJob? cid = some j ∧ s.obj? j.key = some o ∧ o.drive = d ∧ s.driveReady d = true ∧ j.op = StoreOp.delete) ∧
    (∃ (s : State) (d : Nat) (cid : Nat) (j : StoreJob) (o : Obj) (p : Nat) (size : Nat), d < 2 ∧ s.storeJob? cid = some j ∧ s.obj? j.key = some o ∧ o.drive = d ∧ s.driveReady d = true ∧ j.op = StoreOp.spliceMcast ∧ size = min j.mss (j.len - j.done) ∧ s.par Prm.pktEnable 0 ≠ 0 ∧ s.stopped packetPath = false ∧ j.done + size ≤ j.fetched ∧ j.rate = 0 ∧ s.poolFor (s.parN Prm.poolHeadroom 0 + (splicePacket false j.template (bytesAt o.data (j.off + j.done) size) j.pkts j.done (decide (j.len ≤ j.done + size))).length) = some p ∧ splicePacket false j.template (bytesAt o.data (j.off + j.done) size) j.pkts j.done (decide (j.len ≤ j.done + size)) ≠ [] ∧ s.mayTake 9 p = true ∧ List.length s.pkt.wb < waybills) ∧
    (∃ (s : State) (d : Nat) (cid : Nat) (j : StoreJob) (o : Obj) (p : Nat) (size : Nat), d < 2 ∧ s.storeJob? cid = some j ∧ s.obj? j.key = some o ∧ o.drive = d ∧ s.driveReady d = true ∧ j.op = StoreOp.spliceMcast ∧ size = min j.mss (j.len - j.done) ∧ s.par Prm.pktEnable 0 ≠ 0 ∧ s.stopped packetPath = false ∧ j.done + size ≤ j.fetched ∧ j.rate = 0 ∧ s.poolFor (s.parN Prm.poolHeadroom 0 + (splicePacket false j.template (bytesAt o.data (j.off + j.done) size) j.pkts j.done (decide (j.len ≤ j.done + size))).length) = some p ∧ splicePacket false j.template (bytesAt o.data (j.off + j.done) size) j.pkts j.done (decide (j.len ≤ j.done + size)) ≠ [] ∧ s.mayTake 9 p = false) ∧
    (∃ (s : State) (cid : Nat) (j : StoreJob), s.storeJob? cid = some j ∧ j.op = StoreOp.delete ∧ j.flushed = true ∧ s.readers j.key = 0) ∧
    (∃ (s : State) (cid : Nat) (j : StoreJob), s.storeJob? cid = some j ∧ j.op = StoreOp.delete ∧ (j.flushed = false ∨ 0 < s.readers j.key)) :=
  ⟨⟨(Wit.driven {st := .absent}), 0, by decide +kernel⟩,
   ⟨(Wit.driven {st := .ready}), 0, by decide +kernel⟩,
   ⟨(Wit.driven {st := .init}), 0, by decide +kernel⟩,
   ⟨(Wit.at_ 10000000000 (Wit.driven {st := .init})), 0, by decide +kernel⟩,
   ⟨(Wit.at_ 9999999999 (Wit.driven {st := .init})), 0, by decide +kernel⟩,
   ⟨(Wit.driven {st := .init}), 0, by decide +kernel⟩,
   ⟨(Wit.driven {st := .ready}), 0, by decide +kernel⟩,
   ⟨(Wit.driven {st := .ready, timeouts := [0]}), 0, 0, by decide +kernel⟩,
   ⟨(Wit.working .open_ {cid := 4, op := .write, key := 77, segs := [(1,5)]}), 0, 4, {cid := 4, op := .write, key := 77, segs := [(1,5)]}, (Wit.store .open_).dma.objs.head!, 1, 5, [], by decide +kernel⟩,
   ⟨(Wit.working .sealed {cid := 4, op := .read, key := 77, len := 50}), 0, 4, {cid := 4, op := .read, key := 77, len := 50}, (Wit.store .sealed).dma.objs.head!, 50, by decide +kernel⟩,
   ⟨(Wit.working .sealed {cid := 4, op := .spliceTcp, key := 77, len := 50}), 0, 4, {cid := 4, op := .spliceTcp, key := 77, len := 50}, (Wit.store .sealed).dma.objs.head!, 50, by decide +kernel⟩,
   ⟨(Wit.working .open_ {cid := 4, op := .seal_, key := 77}), 0, 4, {cid := 4, op := .seal_, key := 77}, (Wit.store .open_).dma.objs.head!, by decide +kernel⟩,
   ⟨(Wit.working .deleting {cid := 4, op := .delete, key := 77}), 0, 4, {cid := 4, op := .delete, key := 77}, (Wit.store .deleting).dma.objs.head!, by decide +kernel⟩,
   ⟨(Wit.working .sealed {cid := 4, op := .spliceMcast, key := 77, len := 50, fetched := 50, mss := 20, template := Wit.template false, dest := 6}), 0, 4, {cid := 4, op := .spliceMcast, key := 77, len := 50, fetched := 50, mss := 20, template := Wit.template false, dest := 6}, (Wit.store .sealed).dma.objs.head!, 0, 20, by decide +kernel⟩,
   ⟨(Wit.working .sealed {cid := 4, op := .spliceMcast, key := 77, len := 50, fetched := 50, mss := 50, template := Wit.template false, dest := 6} |>.setPar Prm.poolReserve 0 32768), 0, 4, {cid := 4, op := .spliceMcast, key := 77, len := 50, fetched := 50, mss := 50, template := Wit.template false, dest := 6}, (Wit.store .sealed).dma.objs.head!, 0, 50, by decide +kernel⟩,
   ⟨(Wit.working .deleting {cid := 4, op := .delete, key := 77, flushed := true}), 4, {cid := 4, op := .delete, key := 77, flushed := true}, by decide +kernel⟩,
   ⟨(Wit.working .deleting {cid := 4, op := .delete, key := 77}), 4, {cid := 4, op := .delete, key := 77}, by decide +kernel⟩⟩

theorem witness_EthernetPortsMoveFrames :
    (∃ (s : State) (n : Nat), n < 4 ∧ (s.macsec n).cipher = 0 ∧ s.ethLink n = 1 ∧ s.par Prm.ethEnable n ≠ 0) ∧
    (∃ (s : State) (n : Nat) (d : List Byte), n < 4 ∧ (s.macsec n).cipher = 0 ∧ s.ethLink n = 1 ∧ s.par Prm.ethEnable n ≠ 0 ∧ d.length < 60) ∧
    (∃ (s : State) (n : Nat) (d : List Byte), n < 4 ∧ (s.macsec n).cipher = 0 ∧ s.ethLink n = 1 ∧ s.par Prm.ethEnable n ≠ 0 ∧ 60 ≤ d.length ∧ s.parN Prm.ethMaxFrame n < d.length + 4) ∧
    (∃ (s : State) (n : Nat) (d : List Byte), n < 4 ∧ (s.macsec n).cipher = 0 ∧ s.ethLink n = 1 ∧ s.par Prm.ethEnable n ≠ 0 ∧ 60 ≤ d.length ∧ d.length + 4 ≤ s.parN Prm.ethMaxFrame n ∧ beAt d 12 2 = 34824) ∧
    (∃ (s : State) (n : Nat) (d : List Byte), n < 4 ∧ (s.macsec n).cipher = 0 ∧ s.ethLink n = 1 ∧ s.par Prm.ethEnable n ≠ 0 ∧ 60 ≤ d.length ∧ d.length + 4 ≤ s.parN Prm.ethMaxFrame n ∧ beAt d 12 2 ≠ 34824 ∧ s.par Prm.ethFilter n = 1 ∧ castOf d = 0 ∧ beAt d 0 6 ≠ s.parN Prm.ethMacAddr n) ∧
    (∃ (s : State) (n : Nat) (d : List Byte), n < 4 ∧ (s.macsec n).cipher = 0 ∧ s.ethLink n = 1 ∧ s.par Prm.ethEnable n ≠ 0 ∧ 60 ≤ d.length ∧ d.length + 4 ≤ s.parN Prm.ethMaxFrame n ∧ beAt d 12 2 ≠ 34824 ∧ beAt d 12 2 ≠ 35045 ∧ (s.par Prm.ethFilter n ≠ 1 ∨ castOf d ≠ 0 ∨ beAt d 0 6 = s.parN Prm.ethMacAddr n)) ∧
    (∃ (s : State) (n : Nat) (d : List Byte) (q : Nat) (a : Nat), n < 4 ∧ (s.macsec n).cipher = 0 ∧ s.ethLink n = 1 ∧ s.par Prm.ethEnable n ≠ 0 ∧ 60 ≤ d.length ∧ d.length + 4 ≤ s.parN Prm.ethMaxFrame n ∧ beAt d 12 2 ≠ 34824 ∧ beAt d 12 2 ≠ 35045 ∧ (s.par Prm.ethFilter n ≠ 1 ∨ castOf d ≠ 0 ∨ beAt d 0 6 = s.parN Prm.ethMacAddr n) ∧ s.par Prm.ethLpiMode n ≠ 1 ∧ ptpKind d = none ∧ s.par Prm.pktEnable 0 ≠ 0 ∧ s.stopped packetPath = false ∧ d.length ≤ 65535 ∧ s.poolFor (s.parN Prm.poolHeadroom 0 + d.length) = some a ∧ s.mayTake (4 + n) a = true ∧ List.length s.pkt.wb < waybills ∧ s.pkt.tcam = [] ∧ (∀ (c : Nat), c < 3 → s.parN Prm.pktMissAction c = 2 + 4 * q) ∧ 16384 ≤ q ∧ q < 16896 ∧ s.parN Prm.pktCsumCheck 0 ≠ 2 ∧ (parsePacket d (s.parN Prm.pktVxlanPort 0)).conflict = false ∧ s.parN Prm.tollPolicer q = 65535 ∧ (s.tq q).depth + s.counted q d.length ≤ s.parN Prm.tollQmaxBytes q) ∧
    (∃ (s : State) (n : Nat) (h : Nat) (q : Nat) (rest : List (Nat × Nat)), n < 4 ∧ (s.macsec n).cipher = 0 ∧ s.ethLink n = 1 ∧ (s.port n).lpi = false ∧ (s.port n).readyAt ≤ s.now ∧ (s.sched (67 + n)).out = (h, q) :: rest ∧ (s.wb h).used = true ∧ (s.wb h).ring = none ∧ s.ptpEvent n (s.wb h).data = false) ∧
    (∃ (s : State) (n : Nat), n < 4 ∧ (s.macsec n).cipher = 0 ∧ s.ethLink n = 1 ∧ s.par Prm.ethLpiMode n = 1 ∧ ((s.port n).lldpAt = 0 ∨ (s.port n).lldpAt + s.parN Prm.ethLldpIntervalS n * 1000000000 ≤ s.now + 1)) ∧
    (∃ (s : State) (n : Nat), n < 4 ∧ (s.macsec n).cipher = 0 ∧ (s.lane (16 + n)).st = LaneSt.up) ∧
    (∃ (s : State) (n : Nat) (fault : Nat), n < 4 ∧ (s.macsec n).cipher = 0 ∧ (s.lane (16 + n)).st = LaneSt.up ∧ (fault = 2 ∨ fault = 3) ∧ (s.port n).fault = 0 ∧ (s.sched (67 + n)).out = []) ∧
    (∃ (s : State) (n : Nat) (x : Nat × Nat), n < 4 ∧ (s.macsec n).cipher = 0 ∧ (s.lane (16 + n)).st ≠ LaneSt.up ∧ (s.sched (67 + n)).out = [x] ∧ (s.wb x.fst).used = true ∧ (s.wb x.fst).ring = none) ∧
    (∃ (s : State) (n : Nat) (v : Lldp), n < 4 ∧ (s.macsec n).cipher = 0 ∧ (s.port n).lldp = some v ∧ v.until_ ≤ s.now) :=
  ⟨⟨(Wit.eth {} {} {}), 1, by decide +kernel⟩,
   ⟨(Wit.eth {} {} {}), 1, (Wit.frameTo 40), by decide +kernel⟩,
   ⟨(Wit.eth {} {} {}), 1, (Wit.frameTo 9600), by decide +kernel⟩,
   ⟨(Wit.eth {} {} {}), 1, (beBytes 12 9 ++ beBytes 2 0x8808 ++ List.replicate 46 1), by decide +kernel⟩,
   ⟨(Wit.mac (Wit.eth {} {} {}|>.setPar Prm.ethFilter 1 1)), 1, (beBytes 12 9 ++ List.replicate 48 1), by decide +kernel⟩,
   ⟨(Wit.eth {} {} {}), 1, (Wit.frameTo 60), by decide +kernel⟩,
   ⟨((List.range 3).foldl (fun s c => s.setPar Prm.pktMissAction c (2+4*16400)) (Wit.eth {} {} {}) |>.setPar Prm.ethLpiMode 1 0), 1, (Wit.frameTo 60), 16400, 0, by decide +kernel⟩,
   ⟨(Wit.eth {} {wb := [(100, Wit.bill 11)]} {sched := [(68, {out := [(100, 16904)]})]}), 1, 100, 16904, [], by decide +kernel⟩,
   ⟨(Wit.eth {} {} {}), 1, by decide +kernel⟩,
   ⟨(Wit.eth {} {} {}), 1, by decide +kernel⟩,
   ⟨(Wit.eth {} {} {}), 1, 2, by decide +kernel⟩,
   ⟨{(Wit.eth {} {wb := [(100, Wit.bill 11)]} {sched := [(68, {out := [(100, 16904)]})]}) with radio := {}}, 1, (100, 16904), by decide +kernel⟩,
   ⟨(Wit.at_ 7 (Wit.eth {tw := 9, lldp := some {txTw := 1, rxTw := 9, until_ := 7}} {} {})), 1, {txTw := 1, rxTw := 9, until_ := 7}, by decide +kernel⟩⟩

theorem witness_PortsIdleStampAndPulse :
    (∃ (s : State) (n : Nat), n < 4 ∧ s.backlogged (67 + n) = [] ∧ s.ethLink n = 1 ∧ (s.port n).lpi = false ∧ (s.sched (67 + n)).out = [] ∧ 0 < (s.port n).tw ∧ (s.port n).idleAt + s.parN Prm.ethLpiIdleUs n * 1000 ≤ s.now) ∧
    (∃ (s : State) (n : Nat), n < 4 ∧ s.backlogged (67 + n) = [] ∧ s.ethLink n = 1 ∧ (s.port n).lpi = false ∧ (s.sched (67 + n)).out ≠ []) ∧
    (∃ (s : State) (n : Nat), n < 4 ∧ s.backlogged (67 + n) = []) ∧
    (∃ (s : State) (n : Nat) (q : Nat), n < 4 ∧ (s.port n).lpi = true ∧ s.par Prm.ethEnable n = 1 ∧ s.backlogged (67 + n) = [q] ∧ (s.tq q).heldOff = false ∧ s.gateIsOpen (67 + n) q = true ∧ s.gateProtects (67 + n) q = false ∧ s.cOn q = false ∧ s.pOn q = false) ∧
    (∃ (s : State) (n : Nat), n < 4 ∧ (s.port n).lpi = true ∧ (s.sched (67 + n)).gateEntry = 0 ∧ (gateHead (s.entry Tbl.tollGate (67 + n) 0)).count ≠ 0 ∧ (gateEntry (s.entry Tbl.tollGate (67 + n) 1)).snd.fst ≠ 0 ∧ (gateHead (s.entry Tbl.tollGate (67 + n) 0)).base ≤ s.tbNs (gateHead (s.entry Tbl.tollGate (67 + n) 0)).tb + (s.port n).tw * 1000) ∧
    (∃ (s : State) (n : Nat), n < 4 ∧ (s.lane (16 + n)).st = LaneSt.up ∧ (s.port n).rxLpi = false) ∧
    (∃ (s : State) (n : Nat), n < 4 ∧ (s.port n).rxLpi = true) ∧
    (∃ (s : State) (n : Nat) (m : PtpMark) (rest : List PtpMark) (h : Nat), n < 4 ∧ s.stopped timekeeper = false ∧ (s.runner 91).held = false ∧ (s.port n).rxMarks = m :: rest ∧ m.handle = some h ∧ (s.wb h).used = true) ∧
    (∃ (s : State) (n : Nat) (m : PtpMark) (rest : List PtpMark), n < 4 ∧ s.stopped timekeeper = false ∧ (s.runner 91).held = false ∧ (s.port n).txMarks = m :: rest ∧ m.ring = none) ∧
    (∃ (s : State) (n : Nat) (m : PtpMark) (rest : List PtpMark) (r : Nat) (id : Nat), n < 4 ∧ s.stopped timekeeper = false ∧ (s.runner 91).held = false ∧ (s.port n).txMarks = m :: rest ∧ m.ring = some (r, id)) ∧
    (∃ (s : State) (rising : Bool), decide (s.par Prm.timePpsInEdge 0 = 0) = rising ∧ s.par Prm.timePpsInEnable 0 ≠ 0 ∧ s.time.ppsSeen = true ∧ s.time.ppsLost = false ∧ (↑(s.parN Prm.timePpsInTolNs 0) : Int) < (↑((↑((↑s.now : Int) - s.par Prm.timePpsInCompNs 0).toNat : Int) - (↑s.time.ppsLast : Int) - 1000000000).natAbs : Int)) ∧
    (∃ (s : State) (rising : Bool), decide (s.par Prm.timePpsInEdge 0 = 0) = rising ∧ s.par Prm.timePpsInEnable 0 ≠ 0 ∧ (s.time.ppsSeen = false ∨ s.time.ppsLost = true ∨ (↑((↑((↑s.now : Int) - s.par Prm.timePpsInCompNs 0).toNat : Int) - (↑s.time.ppsLast : Int) - 1000000000).natAbs : Int) ≤ (↑(s.parN Prm.timePpsInTolNs 0) : Int))) ∧
    (∃ (s : State) (rising : Bool), (decide (s.par Prm.timePpsInEdge 0 = 0) ≠ rising ∨ s.par Prm.timePpsInEnable 0 = 0)) ∧
    (∃ (s : State), s.par Prm.timeTb2Source 0 = 3 ∧ s.par Prm.timePpsInEnable 0 = 1 ∧ s.time.ppsLost = false ∧ s.time.ppsLast + 2000000000 ≤ s.now) ∧
    (∃ (s : State), s.par Prm.timeTb2Source 0 = 3 ∧ s.par Prm.timePpsInEnable 0 = 1 ∧ s.time.ppsLost = false ∧ s.now < s.time.ppsLast + 2000000000) ∧
    (∃ (s : State), s.par Prm.timePpsOutEnable 0 = 1 ∧ s.time.ppsOut = false ∧ s.tbState (s.parN Prm.timePpsOutTb 0) ≠ 1 ∧ s.ppsDue = true) ∧
    (∃ (s : State), s.time.ppsOut = true ∧ s.time.ppsRose + s.parN Prm.timePpsOutWidthUs 0 * 1000 ≤ s.now) ∧
    (∃ (s : State), s.time.ppsOut = true ∧ s.now < s.time.ppsRose + s.parN Prm.timePpsOutWidthUs 0 * 1000) :=
  ⟨⟨(Wit.at_ 20000 (Wit.eth {tw := 9} {} {})), 1, by decide +kernel⟩,
   ⟨(Wit.at_ 20000 (Wit.eth {tw := 9} {} {sched := [(68, {out := [(100, 16904)]})]})), 1, by decide +kernel⟩,
   ⟨(Wit.at_ 20000 (Wit.eth {tw := 9} {} {sched := [(68, {out := [(100, 16904)]})]})), 1, by decide +kernel⟩,
   ⟨(Wit.at_ 20000 (Wit.eth {tw := 9, lpi := true} {} (Wit.waits 16904))), 1, 16904, by decide +kernel⟩,
   ⟨(Wit.at_ 20000 (setActive Tbl.tollGate 68 0 (le 16 (2^72*2 + 25000)) (setActive Tbl.tollGate 68 1 (le 16 (0xF + 0x1*256 + 2^32*100)) (Wit.eth {tw := 9, lpi := true} {} (Wit.waits 16904))))), 1, by decide +kernel⟩,
   ⟨(Wit.at_ 20000 (Wit.eth {} {} {})), 1, by decide +kernel⟩,
   ⟨(Wit.at_ 20000 (Wit.eth {rxLpi := true} {} {})), 1, by decide +kernel⟩,
   ⟨(Wit.at_ 20000 (Wit.eth {rxMarks := [{handle := some 100}]} {wb := [(100, Wit.bill 11)]} {})), 1, {handle := some 100}, [], 100, by decide +kernel⟩,
   ⟨(Wit.at_ 20000 (Wit.eth {txMarks := [{}]} {wb := [(100, Wit.bill 11)]} {})), 1, {}, [], by decide +kernel⟩,
   ⟨(Wit.at_ 20000 (Wit.eth {txMarks := [{ring := some (17, 262144)}]} {wb := [(100, Wit.bill 11)]} {})), 1, {ring := some (17,262144)}, [], 17, 262144, by decide +kernel⟩,
   ⟨(Wit.pps false 1000300000), true, by decide +kernel⟩,
   ⟨(Wit.pps false 1000000009), true, by decide +kernel⟩,
   ⟨(Wit.pps true 9 |>.setPar Prm.timeTb2Source 0 1), false, by decide +kernel⟩,
   ⟨(Wit.pps false 2000000005), by decide +kernel⟩,
   ⟨(Wit.pps false 2000000004), by decide +kernel⟩,
   ⟨(let s := Wit.pps false 0; {s with time := {s.time with tb := []}} |>.setPar Prm.timePpsOutEnable 0 1 |>.setPar Prm.timePpsOutTb 0 0), by decide +kernel⟩,
   ⟨(let s := Wit.pps false 100000; {s with time := {s.time with ppsOut := true}}), by decide +kernel⟩,
   ⟨(let s := Wit.pps false 99999; {s with time := {s.time with ppsOut := true}}), by decide +kernel⟩⟩

theorem witness_CaravanMembersTalk :
    (∃ (s : State), s.stopped cvnUnit = false ∧ (s.cvn.st = MemberSt.claim ∨ s.cvn.st = MemberSt.member) ∧ (∀ (k : Nat), k ≤ (cvnRate (s.parN Prm.cvnRate 0)).snd.snd.snd → (fun len => Option.any (fun x => decide (s.hourUs + airUs (s.parN Prm.cvnRate 0) len ≤ 3600000 * x.snd.snd)) (cvnRegion (s.parN Prm.cvnRegion 0)) = true) k)) ∧
    (∃ (s : State), s.stopped cvnUnit = false ∧ (s.cvn.st = MemberSt.claim ∨ s.cvn.st = MemberSt.member)) ∧
    (∃ (s : State), s.stopped cvnUnit = false ∧ (s.cvn.st = MemberSt.off ∨ s.cvn.st = MemberSt.listen ∨ s.cvn.st = MemberSt.mute)) ∧
    (∃ (s : State) (slot : Nat) (f : Fibre) (rest : List (Nat × Fibre)), s.stopped cvnUnit = false ∧ s.cvn.urgent = (slot, f) :: rest ∧ s.cvn.st = MemberSt.member ∧ (fun len => Option.any (fun x => decide (s.hourUs + airUs (s.parN Prm.cvnRate 0) len ≤ 3600000 * x.snd.snd)) (cvnRegion (s.parN Prm.cvnRegion 0)) = true) (s.sealed (s.cvnCore 2 ++ f.bytes)).length) ∧
    (∃ (s : State) (slot : Nat) (f : Fibre) (rest : List (Nat × Fibre)), s.stopped cvnUnit = false ∧ s.cvn.urgent = (slot, f) :: rest ∧ s.cvn.st ≠ MemberSt.member) ∧
    (∃ (s : State) (p : CaravanRx), s.stopped cvnUnit = false ∧ s.cvn.st ≠ MemberSt.off ∧ p.above = none ∧ p.headerOk = false) ∧
    (∃ (s : State) (p : CaravanRx), s.stopped cvnUnit = false ∧ s.cvn.st ≠ MemberSt.off ∧ p.above = none ∧ p.headerOk = true ∧ p.crcOk = false) ∧
    (∃ (s : State) (p : CaravanRx), s.stopped cvnUnit = false ∧ s.cvn.st ≠ MemberSt.off ∧ p.above = none ∧ p.headerOk = true ∧ p.crcOk = true ∧ p.full = true) ∧
    (∃ (s : State) (p : CaravanRx), s.stopped cvnUnit = false ∧ s.cvn.st ≠ MemberSt.off ∧ p.above = none ∧ p.headerOk = true ∧ p.crcOk = true ∧ p.full = false ∧ (bits (beNat (List.take 12 p.payload)) 80 65 ≠ s.parN Prm.cvnVenueId 0 ∨ p.payload.length < 12)) ∧
    (∃ (s : State) (p : CaravanRx), s.stopped cvnUnit = false ∧ s.cvn.st ≠ MemberSt.off ∧ p.above = none ∧ p.headerOk = true ∧ p.crcOk = true ∧ p.full = false ∧ p.payload.length = 12 ∧ bits (beNat (List.take 12 p.payload)) 80 65 = s.parN Prm.cvnVenueId 0 ∧ bits (beNat (List.take 12 p.payload)) 93 92 = 1 ∧ bits (beNat (List.take 12 p.payload)) 95 94 ≠ 0 ∧ s.isRoot = true) ∧
    (∃ (s : State), s.stopped cvnUnit = false ∧ (s.cvn.st = MemberSt.off ∨ s.cvnSf = s.cvn.sf)) ∧
    (∃ (s : State), s.stopped cvnUnit = false ∧ s.cvnSf ≠ s.cvn.sf ∧ s.cvn.plan = none ∧ s.cvn.st = MemberSt.listen ∧ s.cvn.whole = false) ∧
    (∃ (s : State), s.stopped cvnUnit = false ∧ s.cvnSf ≠ s.cvn.sf ∧ s.cvn.plan = none ∧ s.cvn.st = MemberSt.claim) ∧
    (∃ (s : State), s.stopped cvnUnit = false ∧ s.cvnSf ≠ s.cvn.sf ∧ s.cvn.plan = none ∧ s.cvn.st = MemberSt.mute) ∧
    (∃ (s : State), s.stopped cvnUnit = false ∧ s.cvnSf ≠ s.cvn.sf ∧ s.cvn.plan = none ∧ s.cvn.st = MemberSt.member) ∧
    (∃ (s : State) (up : Bool), s.stopped cvnUnit = false ∧ s.cvn.st ≠ MemberSt.off ∧ up = (s.pon.st == OnuSt.o51) ∧ up ≠ s.cvn.fibreOk ∧ s.cvn.st ≠ MemberSt.member) ∧
    (∃ (s : State) (up : Bool), s.stopped cvnUnit = false ∧ s.cvn.st ≠ MemberSt.off ∧ up = (s.pon.st == OnuSt.o51) ∧ up ≠ s.cvn.fibreOk ∧ s.cvn.st = MemberSt.member ∧ s.sec.rngFailed = false) ∧
    (∃ (s : State) (up : Bool), s.stopped cvnUnit = false ∧ up = (s.pon.st == OnuSt.o51) ∧ up = s.cvn.fibreOk) ∧
    (∃ (s : State), s.stopped cvnUnit = false ∧ (s.cvn.st ≠ MemberSt.member ∨ fieldAt s.venuePlan 0 2 = 0)) ∧
    (∃ (s : State) (r : Nat), s.stopped cvnUnit = false ∧ r < 3 ∧ s.cvn.st = MemberSt.member ∧ fieldAt s.venuePlan 0 2 ≠ 0 ∧ (pick 3 fun r => bit (fieldAt s.venuePlan 6 1) r) = [r] ∧ s.par Prm.cvnPlanApply r ≠ 1 ∧ s.cvn.prop.get r ≠ 0) ∧
    (∃ (s : State) (r : Nat), s.stopped cvnUnit = false ∧ r < 3 ∧ s.cvn.st = MemberSt.member ∧ fieldAt s.venuePlan 0 2 ≠ 0 ∧ (pick 3 fun r => bit (fieldAt s.venuePlan 6 1) r) = [r] ∧ s.par Prm.cvnPlanApply r ≠ 1 ∧ s.cvn.prop.get r = 0 ∧ s.cvn.cur.get r = 0 ∧ s.cvn.nbr = [] ∧ fieldAt s.venuePlan (18 + 10 * r) 1 ≠ 0) :=
  ⟨⟨(Wit.cvn {st := .member, id := some 5} 5000000000), by decide +kernel⟩,
   ⟨(Wit.cvn {st := .member, id := some 5} 5000000000), by decide +kernel⟩,
   ⟨(Wit.cvn {st := .mute, id := some 5} 5000000000), by decide +kernel⟩,
   ⟨(Wit.cvn {st := .member, id := some 5, urgent := [(700, {origin := 5, lost := true, hops := 2, seq := 3})]} 5000000000), 700, {origin := 5, lost := true, hops := 2, seq := 3}, [], by decide +kernel⟩,
   ⟨(Wit.cvn {st := .mute, id := some 5, urgent := [(700, {origin := 5, lost := true, hops := 2, seq := 3})]} 5000000000), 700, {origin := 5, lost := true, hops := 2, seq := 3}, [], by decide +kernel⟩,
   ⟨(Wit.cvn {st := .member, id := some 5} 5000000000), {code := 1, rate := 0, headerOk := false, payload := [], level := 3, lqi := 4, at_ := 5}, by decide +kernel⟩,
   ⟨(Wit.cvn {st := .member, id := some 5} 5000000000), {code := 1, rate := 0, crcOk := false, payload := [], level := 3, lqi := 4, at_ := 5}, by decide +kernel⟩,
   ⟨(Wit.cvn {st := .member, id := some 5} 5000000000), {code := 1, rate := 0, full := true, payload := [], level := 3, lqi := 4, at_ := 5}, by decide +kernel⟩,
   ⟨(Wit.cvn {st := .member, id := some 5} 5000000000), {code := 1, rate := 0, payload := [], level := 3, lqi := 4, at_ := 5}, by decide +kernel⟩,
   ⟨(Wit.cvn {st := .member, id := some 5} 5000000000 |>.setPar Prm.timeTb2Source 0 1), {code := 1, rate := 0, payload := Wit.beacon, level := 3, lqi := 4, at_ := 5}, by decide +kernel⟩,
   ⟨(Wit.cvn {st := .member, sf := 1} 5000000000), by decide +kernel⟩,
   ⟨(Wit.cvn {st := .listen} 5000000000), by decide +kernel⟩,
   ⟨(Wit.cvn {st := .claim, id := some 5, claims := 2, claimEnd := 0, nbr := [(9, {used := true})]} 5000000000), by decide +kernel⟩,
   ⟨(Wit.cvn {st := .mute, id := some 5, nbr := [(9, {used := true})]} 70000000000), by decide +kernel⟩,
   ⟨(Wit.cvn {st := .member, id := some 5, nbr := [(9, {used := true, lastSf := 1})]} 70000000000), by decide +kernel⟩,
   ⟨(Wit.cvn {st := .listen, fibreOk := true} 70000000000), false, by decide +kernel⟩,
   ⟨(Wit.cvn {st := .member, id := some 5, fibreOk := true} 70000000000), false, by decide +kernel⟩,
   ⟨(Wit.cvn {st := .member, id := some 5, fibreOk := false} 70000000000), false, by decide +kernel⟩,
   ⟨(Wit.cvn {st := .member, id := some 5, fibreOk := false} 70000000000), by decide +kernel⟩,
   ⟨(Wit.plan {st := .member, id := some 5, cur := [(1,1)], prop := [(1,2)]}), 1, by decide +kernel⟩,
   ⟨(Wit.plan {st := .member, id := some 5}), 1, by decide +kernel⟩⟩

theorem witness_PowerUpRunsInSteps :
    (∃ (s : State), s.boot.railsValid = true ∧ s.boot.released = false) ∧
    (∃ (s : State), (s.boot.railsValid = false ∨ s.boot.released = true)) ∧
    (∃ (s : State), s.mayRise = true ∧ s.boot.enables < 15) ∧
    (∃ (s : State), s.mayRise = true ∧ s.boot.enables = 15 ∧ s.power.st ≠ PState.waking) ∧
    (∃ (s : State), s.mayRise = true ∧ s.boot.pmicPg = false ∧ s.boot.enables ≠ 0) ∧
    (∃ (s : State), s.mayRise = true ∧ s.boot.pmicPg = true) ∧
    (∃ (s : State), s.mayRise = true ∧ s.boot.pllStarted = true ∧ s.boot.running = false ∧ s.sec.rngHalt = false) ∧
    (∃ (s : State), s.mayRise = false) ∧
    (∃ (s : State), s.boot.running = true) ∧
    (∃ (s : State), s.boot.stage = 1 ∧ s.boot.source = 0 ∧ s.boot.loaderRuns = false ∧ s.boot.xspiReleased = true) ∧
    (∃ (s : State), s.boot.stage = 1 ∧ s.boot.loaderRuns = true) ∧
    (∃ (s : State) (gib : Nat) (rate : Nat), s.boot.stage = 1 ∧ s.boot.loaderRuns = true ∧ (gib = 8 ∨ gib = 16 ∨ gib = 24 ∨ gib = 32) ∧ rate ∈ ddrRates) ∧
    (∃ (s : State), s.boot.stage = 2 ∧ s.boot.source = 0 ∧ s.fw.selected < 2) ∧
    (∃ (s : State), s.boot.stage = 3 ∧ s.fw.rollback ≠ 0) ∧
    (∃ (s : State), s.boot.stage = 3 ∧ s.fw.rollback = 0) ∧
    (∃ (s : State), s.boot.stage = 3 ∧ s.boot.initAt + 30000000000 ≤ s.now) ∧
    (∃ (s : State), s.boot.stage = 3 ∧ s.now < s.boot.initAt + 30000000000) :=
  ⟨⟨(Wit.boot {railsValid := true}), by decide +kernel⟩,
   ⟨(Wit.boot {}), by decide +kernel⟩,
   ⟨(Wit.boot {released := true, enables := 1}), by decide +kernel⟩,
   ⟨(Wit.boot {released := true, enables := 15}), by decide +kernel⟩,
   ⟨(Wit.boot {released := true, enables := 7}), by decide +kernel⟩,
   ⟨(Wit.boot {released := true, enables := 15, pmicPg := true}), by decide +kernel⟩,
   ⟨(Wit.boot {released := true, enables := 15, pmicPg := true, pllStarted := true}), by decide +kernel⟩,
   ⟨State.reset, by decide +kernel⟩,
   ⟨(Wit.boot {running := true}), by decide +kernel⟩,
   ⟨(Wit.boot {stage := 1, running := true, xspiReleased := true}), by decide +kernel⟩,
   ⟨(Wit.boot {stage := 1, loaderRuns := true}), by decide +kernel⟩,
   ⟨(Wit.boot {stage := 1, loaderRuns := true}), 8, 6400, by decide +kernel⟩,
   ⟨(Wit.boot {stage := 2}), by decide +kernel⟩,
   ⟨{(Wit.boot {stage := 3}) with fw := {rollback := 2}}, by decide +kernel⟩,
   ⟨(Wit.boot {stage := 3}), by decide +kernel⟩,
   ⟨(Wit.at_ 30000000000 (Wit.boot {stage := 3})), by decide +kernel⟩,
   ⟨(Wit.at_ 29999999999 (Wit.boot {stage := 3})), by decide +kernel⟩⟩

theorem witness_ResetsAndSupplyLosses :
    (∃ (s : State), s.boot.resetLow = false ∧ s.boot.released = true) ∧
    (∃ (s : State) (low : Bool), (low = false ∨ s.boot.resetLow = true ∨ s.boot.released = false)) ∧
    (∃ (s : State), s.boot.pwrfailLow = false ∧ s.boot.powerDown = false ∧ s.boot.released = true) ∧
    (∃ (s : State), s.boot.pwrfailLow = true) ∧
    (∃ (s : State), s.boot.off = true) ∧
    (∃ (s : State), s.boot.off = false) ∧
    (∃ (s : State), s.boot.powerDown = true ∧ s.boot.off = false ∧ s.boot.failAt + 3000000 ≤ s.now) ∧
    (∃ (s : State), s.boot.powerDown = true ∧ s.boot.off = false ∧ s.now < s.boot.failAt + 3000000) ∧
    (∃ (s : State), s.boot.pmicPg = true ∧ s.boot.enables = 15 ∧ s.power.st = PState.run ∧ s.boot.powerDown = false ∧ s.boot.released = true) ∧
    (∃ (s : State), s.boot.pmicPg = true ∧ s.boot.enables = 15 ∧ (s.power.st = PState.sleep ∨ s.power.st = PState.waking)) ∧
    (∃ (s : State) (c : Int), s.boot.released = true ∧ s.boot.tripped = false ∧ s.trip ≤ c) ∧
    (∃ (s : State) (c : Int), c < s.trip) ∧
    (∃ (s : State) (c : Int), s.boot.tripped = true ∧ c ≤ s.trip - 150) ∧
    (∃ (s : State) (c : Int), s.trip - 150 < c) ∧
    (∃ (s : State) (pair : Nat), pair < 2 ∧ (s.boot.stage = 5 ∨ s.boot.stage = 14) ∧ s.fw.trial = false) ∧
    (∃ (s : State) (pair : Nat), pair < 2 ∧ 1 ≤ s.boot.stage ∧ s.boot.stage < 5) ∧
    (∃ (s : State), s.mgmtRuns = true ∧ s.fw.trial = false ∧ s.boot.beatAt + 8000000 ≤ s.now) ∧
    (∃ (s : State), s.mgmtRuns = true ∧ s.fw.trial = false) ∧
    (∃ (s : State), s.mgmtRuns = true ∧ s.now < s.boot.beatAt + 8000000) ∧
    (∃ (s : State), s.mgmtRuns = true ∧ s.fw.trial = true ∧ s.fw.selected < 2) ∧
    (∃ (s : State), s.fw.trial = true ∧ s.fw.resetAt = none ∧ s.boot.stage ≠ 5 ∧ 30000000000 ≤ s.now) ∧
    (∃ (s : State), s.fw.trial = true ∧ s.fw.resetAt = none ∧ (s.boot.stage = 5 ∨ s.now < 30000000000)) ∧
    (∃ (s : State), s.fw.trial = true ∧ s.fw.resetAt = none ∧ s.parN Prm.mgmtFwTrialS 0 * 1000000000 ≤ s.now) ∧
    (∃ (s : State), s.fw.trial = true ∧ s.fw.resetAt = none ∧ s.now < s.parN Prm.mgmtFwTrialS 0 * 1000000000) ∧
    (∃ (s : State) (a : Nat), s.fw.resetAt = some a ∧ a ≤ s.now) ∧
    (∃ (s : State) (a : Nat), s.fw.resetAt = some a ∧ s.now < a) ∧
    (∃ (s : State) (k : FwWork) (rest : List FwWork), s.fw.work = k :: rest ∧ k.op ≠ 1 ∧ k.erase = false) ∧
    (∃ (s : State) (k : FwWork) (rest : List FwWork), s.fw.work = k :: rest ∧ k.op ≠ 1 ∧ k.erase = true) ∧
    (∃ (s : State) (k : FwWork) (rest : List FwWork), s.fw.work = k :: rest ∧ k.op = 1 ∧ k.erase = false) :=
  ⟨⟨(Wit.boot {stage := 5, released := true}), by decide +kernel⟩,
   ⟨(Wit.boot {stage := 5, released := true}), false, by decide +kernel⟩,
   ⟨(Wit.boot {stage := 5, released := true}), by decide +kernel⟩,
   ⟨(Wit.boot {stage := 5, pwrfailLow := true}), by decide +kernel⟩,
   ⟨(Wit.boot {off := true, powerDown := true, pwrfailLow := true}), by decide +kernel⟩,
   ⟨(Wit.boot {pwrfailLow := true}), by decide +kernel⟩,
   ⟨(Wit.at_ 3000000 (Wit.boot {powerDown := true, pwrfailLow := true, stage := 5})), by decide +kernel⟩,
   ⟨(Wit.at_ 2999999 (Wit.boot {powerDown := true, stage := 5})), by decide +kernel⟩,
   ⟨(Wit.boot {stage := 5, released := true, pmicPg := true, enables := 15}), by decide +kernel⟩,
   ⟨{(Wit.boot {stage := 5, released := true, pmicPg := true, enables := 15}) with power := {st := .sleep}}, by decide +kernel⟩,
   ⟨(Wit.boot {stage := 5, released := true}), 1200, by decide +kernel, by decide +kernel, by simp only [State.trip]; split <;> decide⟩,
   ⟨(Wit.boot {stage := 5, released := true}), 100, by simp only [State.trip]; split <;> decide⟩,
   ⟨(Wit.boot {released := true, tripped := true}), 100, by decide +kernel, by simp only [State.trip]; split <;> decide⟩,
   ⟨(Wit.boot {released := true, tripped := true}), 1100, by simp only [State.trip]; split <;> decide⟩,
   ⟨(Wit.boot {stage := 14}), 1, by decide +kernel⟩,
   ⟨(Wit.boot {stage := 4}), 1, by decide +kernel⟩,
   ⟨(Wit.at_ 8000000 (Wit.boot {stage := 5})), by decide +kernel⟩,
   ⟨(Wit.at_ 8000000 (Wit.boot {stage := 5})), by decide +kernel⟩,
   ⟨(Wit.at_ 7999999 (Wit.boot {stage := 5})), by decide +kernel⟩,
   ⟨{(Wit.boot {stage := 5}) with fw := {trial := true}}, by decide +kernel⟩,
   ⟨{(Wit.at_ 30000000000 (Wit.boot {stage := 4})) with fw := {trial := true}}, by decide +kernel⟩,
   ⟨{(Wit.at_ 29999999999 (Wit.boot {stage := 4})) with fw := {trial := true}}, by decide +kernel⟩,
   ⟨{(Wit.at_ 30000000000000000 (Wit.boot {stage := 5})) with fw := {trial := true}}, by decide +kernel⟩,
   ⟨{(Wit.at_ 1 (Wit.boot {stage := 5})) with fw := {trial := true}}, by decide +kernel⟩,
   ⟨{(Wit.at_ 1 (Wit.boot {stage := 5})) with fw := {trial := true, resetAt := some 1}}, 1, by decide +kernel⟩,
   ⟨{(Wit.at_ 1 (Wit.boot {stage := 5})) with fw := {trial := true, resetAt := some 2}}, 2, by decide +kernel⟩,
   ⟨{(Wit.boot {stage := 5}) with fw := {work := [{}]}}, {}, [], by decide +kernel⟩,
   ⟨{(Wit.boot {stage := 5}) with fw := {staged := true, work := [{erase := true}, {op := 1}]}}, {erase := true}, [{op := 1}], by decide +kernel⟩,
   ⟨{(Wit.boot {stage := 5}) with fw := {work := [{op := 1, img := [1]}]}}, {op := 1, img := [1]}, [], by decide +kernel⟩⟩

theorem witness_ManagementWatches :
    (∃ (s : State) (temps : List Int) (rails : List Nat), s.mgmtRuns = true ∧ temps.length = 16 ∧ rails.length = 9) ∧
    (∃ (s : State), s.mgmtRuns = false) ∧
    (∃ (s : State) (a : Nat), s.task.waiters = [] ∧ s.mgmt.hotSince = some a ∧ a + 100000000 ≤ s.now ∧ s.mgmt.capStep < 3 ∧ (s.mgmt.capAt = 0 ∨ s.mgmt.capAt + 1000000000 ≤ s.now + 1)) ∧
    (∃ (s : State) (a : Nat), s.task.waiters = [] ∧ s.mgmt.coolSince = some a ∧ a + 10000000000 ≤ s.now ∧ 0 < s.mgmt.capStep) ∧
    (∃ (s : State), s.mgmt.hotSince = none) ∧
    (∃ (s : State), s.mgmt.capStep = 0) ∧
    (∃ (s : State) (r : EvRec), s.flash.held = false ∧ (List.find? (fun r => r.cls == EvClass.fatal) s.mgmt.logQueue).or s.mgmt.logQueue.head? = some r) ∧
    (∃ (s : State), s.flash.held = true) ∧
    (∃ (s : State) (test : Nat), 1 ≤ test ∧ test ≤ 4 ∧ 3 ≤ s.boot.stage ∧ s.boot.stage ≠ 15 ∧ s.power.st = PState.run ∧ s.recast.jobs = [] ∧ s.recast.held = false) ∧
    (∃ (s : State), 2 ^ 20 ≤ s.sec.rngRequests) ∧
    (∃ (s : State), s.sec.rngRequests < 2 ^ 20) ∧
    (∃ (s : State) (ch : Nat), ch < 4 ∧ 2 ≤ s.boot.stage ∧ s.boot.stage ≠ 15 ∧ s.power.memOff = false) ∧
    (∃ (s : State) (ch : Nat) (n : Nat), ch < 4 ∧ 2 ≤ s.boot.stage ∧ s.boot.stage ≠ 15 ∧ s.power.memOff = false ∧ 2 ≤ n) :=
  ⟨⟨Wit.ses, Wit.temps, Wit.rails, by decide +kernel⟩,
   ⟨State.reset, by decide +kernel⟩,
   ⟨(Wit.at_ 100000000 {Wit.ses with mgmt := {hotSince := some 0}}), 0, rfl, by decide +kernel, by decide +kernel, by decide +kernel, by decide +kernel⟩,
   ⟨(Wit.at_ 10000000000 {Wit.ses with mgmt := {coolSince := some 0, capStep := 3}}), 0, rfl, by decide +kernel, by decide +kernel, by decide +kernel⟩,
   ⟨Wit.ses, by decide +kernel⟩,
   ⟨Wit.ses, by decide +kernel⟩,
   ⟨{Wit.ses with mgmt := {logQueue := [{(default : EvRec) with code := 3, cls := .info}, {(default : EvRec) with code := 9, cls := .fatal}]}}, {(default : EvRec) with code := 9, cls := .fatal}, by decide +kernel⟩,
   ⟨{Wit.ses with flash := {held := true}}, by decide +kernel⟩,
   ⟨Wit.ses, 2, by decide +kernel⟩,
   ⟨{Wit.ses with sec := {rngRequests := 1048577}}, by decide +kernel⟩,
   ⟨{Wit.ses with sec := {rngRequests := 1048575}}, by decide +kernel⟩,
   ⟨Wit.ses, 3, by decide +kernel⟩,
   ⟨Wit.ses, 3, 5, by decide +kernel⟩⟩

theorem witness_PowerStatesAreEnteredAndLeft :
    (∃ (s : State), s.power.st = PState.entering ∧ s.power.steps = [] ∧ s.blockBusy s.power.block = true ∧ s.now < s.power.askedAt + s.parN Prm.pwrDrainMs 0 * 1000000) ∧
    (∃ (s : State), s.power.st = PState.entering ∧ s.power.steps = [] ∧ s.blockBusy s.power.block = true ∧ s.power.block < 12 ∧ s.power.askedAt + s.parN Prm.pwrDrainMs 0 * 1000000 ≤ s.now ∧ s.power.origin ≠ PState.entering) ∧
    (∃ (s : State) (n : Nat), s.power.st = PState.entering ∧ s.power.steps = [] ∧ s.blockBusy s.power.block = false ∧ n = s.power.nextBlock (s.power.block + 1) ∧ n < 11) ∧
    (∃ (s : State) (n : Nat), s.power.st = PState.entering ∧ s.power.steps = [] ∧ s.blockBusy s.power.block = false ∧ n = s.power.nextBlock (s.power.block + 1) ∧ n < 11 ∧ s.power.block = 0) ∧
    (∃ (s : State), s.power.st = PState.entering ∧ s.power.steps = [] ∧ s.blockBusy s.power.block = false ∧ s.power.block < 12 ∧ s.power.nextBlock (s.power.block + 1) = 12 ∧ s.task.waiters = []) ∧
    (∃ (s : State), s.power.st = PState.entering ∧ s.power.arrived = none ∧ s.power.steps = [1, 2, 3]) ∧
    (∃ (s : State), s.power.st = PState.entering ∧ s.power.arrived = none ∧ s.power.steps = [2] ∧ s.power.target = PState.standby) ∧
    (∃ (s : State), s.power.st = PState.entering ∧ s.power.arrived = none ∧ s.power.steps = [3] ∧ s.power.target = PState.sleep) ∧
    (∃ (s : State) (b : Nat), s.wakeHolds b = true ∧ s.wakeEnabled b = true ∧ (s.power.st = PState.standby ∨ s.power.st = PState.sleep) ∧ s.power.retryFrom = none) ∧
    (∃ (s : State) (b : Nat), s.wakeHolds b = true ∧ s.wakeEnabled b = true ∧ s.power.st = PState.entering ∧ s.power.steps ≠ [] ∧ s.power.arrived = none) ∧
    (∃ (s : State) (b : Nat), s.wakeEnabled b = false) ∧
    (∃ (s : State), (s.power.st = PState.standby ∨ s.power.st = PState.sleep) ∧ s.power.sleepMs ≠ 0 ∧ s.power.asleepAt + s.power.sleepMs * 1000000 ≤ s.now ∧ s.wakeEnabled 1 = true ∧ s.power.retryFrom = none) ∧
    (∃ (s : State), (s.power.st = PState.standby ∨ s.power.st = PState.sleep) ∧ s.power.sleepMs ≠ 0 ∧ s.now < s.power.asleepAt + s.power.sleepMs * 1000000) ∧
    (∃ (s : State), s.power.st = PState.waking ∧ s.power.stage = 0) ∧
    (∃ (s : State), s.power.st = PState.waking ∧ s.power.stage = 1) ∧
    (∃ (s : State), s.power.st = PState.waking ∧ s.power.stage = 2) ∧
    (∃ (s : State), s.power.st = PState.waking ∧ 3 ≤ s.power.stage ∧ s.task.waiters = [] ∧ s.recast.queue = []) ∧
    (∃ (s : State), s.power.st = PState.waking ∧ s.now < s.power.stageAt + s.stageLimit s.power.stage) ∧
    (∃ (s : State), s.power.st = PState.waking ∧ s.power.stageAt + s.stageLimit s.power.stage ≤ s.now ∧ s.power.stage < 4 ∧ (s.power.target = PState.standby ∨ s.power.target = PState.sleep) ∧ s.recast.queue = []) ∧
    (∃ (s : State) (a : Nat), s.power.retryFrom = some a ∧ a + s.parN Prm.pwrRetryMs 0 * 1000000 ≤ s.now ∧ s.power.st ≠ PState.waking) ∧
    (∃ (s : State) (a : Nat), s.power.retryFrom = some a ∧ s.now < a + s.parN Prm.pwrRetryMs 0 * 1000000) :=
  ⟨⟨{(Wit.runner {job := some {queue := 20, kind := 0, arg := 1, cost := 1}}) with power := {st := .entering, target := .standby, block := 1}}, by decide +kernel⟩,
   ⟨(Wit.at_ 1000000000000 {(Wit.runner {job := some {queue := 20, kind := 0, arg := 1, cost := 1}}) with power := {st := .entering, target := .standby, block := 1}}), by decide +kernel⟩,
   ⟨(Wit.power {st := .entering, target := .standby, block := 1}), 2, by decide +kernel⟩,
   ⟨(Wit.power {st := .entering, target := .standby, block := 0}), 1, by decide +kernel⟩,
   ⟨(Wit.power {st := .entering, target := .standby, block := 4}), by decide +kernel, by decide +kernel, by decide +kernel, by decide +kernel, by decide +kernel, rfl⟩,
   ⟨(Wit.power {st := .entering, target := .sleep, steps := [1,2,3]}), by decide +kernel⟩,
   ⟨(Wit.power {st := .entering, target := .standby, steps := [2]}), by decide +kernel⟩,
   ⟨(Wit.power {st := .entering, target := .sleep, steps := [3]}), by decide +kernel⟩,
   ⟨(Wit.power {st := .sleep, target := .sleep, down := 0xFFF, railsOff := true, pllOff := true} |>.setPar Prm.pwrWakeSources 0 15), 0, by decide +kernel⟩,
   ⟨(Wit.power {st := .entering, target := .sleep, steps := [3]} |>.setPar Prm.pwrWakeSources 0 15), 0, by decide +kernel⟩,
   ⟨(Wit.power {st := .sleep} |>.setPar Prm.pwrWakeSources 0 1), 3, by decide +kernel⟩,
   ⟨(Wit.at_ 5000000 (Wit.power {st := .standby, sleepMs := 5}) |>.setPar Prm.pwrWakeSources 0 15), by decide +kernel⟩,
   ⟨(Wit.at_ 4999999 (Wit.power {st := .standby, sleepMs := 5}) |>.setPar Prm.pwrWakeSources 0 15), by decide +kernel⟩,
   ⟨(Wit.power {st := .waking, target := .sleep, stage := 0, pllOff := true}), by decide +kernel⟩,
   ⟨(Wit.power {st := .waking, target := .sleep, stage := 1, pllOff := true, tbEntry := some []}), by decide +kernel⟩,
   ⟨(Wit.power {st := .waking, target := .sleep, stage := 2, memOff := true}), by decide +kernel⟩,
   ⟨(Wit.power {st := .waking, target := .sleep, stage := 3, down := 0xFFF}), by decide +kernel, by decide +kernel, rfl, by decide +kernel⟩,
   ⟨(Wit.power {st := .waking, target := .sleep, stage := 0}), by decide +kernel⟩,
   ⟨(Wit.at_ 900000000000 (Wit.power {st := .waking, target := .sleep, stage := 0, attempt := 1})), by decide +kernel⟩,
   ⟨(Wit.at_ 900000000000 (Wit.power {st := .sleep, target := .sleep, retryFrom := some 4, attempt := 1})), 4, by decide +kernel⟩,
   ⟨(Wit.at_ 4 (Wit.power {st := .sleep, target := .sleep, retryFrom := some 4, attempt := 1})), 4, by decide +kernel⟩⟩

theorem witness_RecastsRunTheirStates :
    (∃ (s : State) (u : RUnit) (c : Nat), s.booted = true ∧ u.valid = true ∧ 1 ≤ c ∧ c ≤ 12 ∧ s.unitOff u = false ∧ s.power.st ≠ PState.entering ∧ s.recastHolds (u.reach c) = true) ∧
    (∃ (s : State) (u : RUnit) (c : Nat), s.booted = true ∧ u.valid = true ∧ 1 ≤ c ∧ c ≤ 12 ∧ s.unitOff u = false ∧ s.power.st ≠ PState.entering ∧ (u.reach c).scope = 1 ∧ s.recastHolds (u.reach c) = false ∧ s.power.st = PState.run ∧ (∀ (q : RUnit × Nat), q ∈ s.recast.queue → q.fst ≠ u.reach c) ∧ s.recastsWithin (u.reach c) (s.parN Prm.faultEscalateWindowS 0) < s.parN Prm.faultEscalateN 0 ∧ s.recast.jobs = []) ∧
    (∃ (s : State) (u : RUnit) (c : Nat), s.booted = true ∧ u.valid = true ∧ 1 ≤ c ∧ c ≤ 12 ∧ s.unitOff u = false ∧ s.power.st ≠ PState.entering ∧ (u.reach c).scope = 1 ∧ s.recastHolds (u.reach c) = false ∧ s.power.st = PState.run ∧ (∀ (q : RUnit × Nat), q ∈ s.recast.queue → q.fst ≠ u.reach c) ∧ s.recastsWithin (u.reach c) (s.parN Prm.faultEscalateWindowS 0) < s.parN Prm.faultEscalateN 0 ∧ (s.recast.jobs.any fun j => decide (0 < j.unit.scope)) = true ∧ s.recast.queue.length < 32) ∧
    (∃ (s : State) (u : RUnit) (c : Nat), s.booted = true ∧ u.valid = true ∧ 1 ≤ c ∧ c ≤ 12 ∧ s.unitOff u = false ∧ s.power.st ≠ PState.entering ∧ u.reach c = { scope := 0, group := 20, inst := 0 } ∧ s.recastHolds (u.reach c) = false ∧ s.power.st = PState.run) ∧
    (∃ (s : State), s.booted = false) ∧
    (∃ (s : State) (u : RUnit) (j : RecastJob), s.recastIn u RState.reset = some j ∧ u.scope ≤ 1) ∧
    (∃ (s : State) (u : RUnit) (j : RecastJob), s.recastIn u RState.reset = some j ∧ u = { scope := 1, group := 12, inst := 0 }) ∧
    (∃ (s : State) (u : RUnit) (j : RecastJob), s.recastIn u RState.reset = some j ∧ u = { scope := 2, group := 0, inst := 0 } ∧ j.full = true) ∧
    (∃ (s : State) (u : RUnit) (j : RecastJob), s.recastIn u RState.reset = some j ∧ u = { scope := 2, group := 0, inst := 0 } ∧ j.full = false ∧ s.trialRuns = false) ∧
    (∃ (s : State) (u : RUnit), s.recastIn u RState.reset = none) ∧
    (∃ (s : State) (u : RUnit) (j : RecastJob), s.recastIn u RState.restore = some j) ∧
    (∃ (s : State) (u : RUnit) (j : RecastJob), s.recastIn u RState.restore = some j ∧ u = { scope := 1, group := 11, inst := 0 }) ∧
    (∃ (s : State) (u : RUnit), s.recastIn u RState.restore = none) ∧
    (∃ (s : State) (u : RUnit) (j : RecastJob), s.recastIn u RState.resume = some j ∧ s.task.waiters = [] ∧ u.scope = 1 ∧ s.recast.queue = []) ∧
    (∃ (s : State) (u : RUnit) (j : RecastJob) (v : RUnit) (c : Nat), s.recastIn u RState.resume = some j ∧ s.task.waiters = [] ∧ u.scope = 1 ∧ s.recast.queue = [(v, c)] ∧ s.recast.held = false ∧ v.scope = 1 ∧ s.power.st = PState.run ∧ s.recastsWithin v (s.parN Prm.faultEscalateWindowS 0) < s.parN Prm.faultEscalateN 0 ∧ List.filter (fun j => j.unit != u) s.recast.jobs = []) ∧
    (∃ (s : State) (u : RUnit), s.recastIn u RState.resume = none) :=
  ⟨⟨(Wit.recast {jobs := [{unit := ⟨1,0x0B,0⟩, cause := 2, st := .reset}]}), ⟨1,0x0B,0⟩, 4, by decide +kernel⟩,
   ⟨(Wit.recast {}), ⟨1,0x0B,0⟩, 4, by decide +kernel⟩,
   ⟨(Wit.recast {jobs := [{unit := ⟨1,0x0B,0⟩, cause := 2, st := .reset}]}), ⟨1,0x0C,0⟩, 4, by decide +kernel⟩,
   ⟨(Wit.recast {}), ⟨0,0x14,0⟩, 4, by decide +kernel⟩,
   ⟨State.reset, by decide +kernel⟩,
   ⟨(Wit.recast {jobs := [{unit := ⟨1,0x0B,0⟩, cause := 2, st := .reset}]}), ⟨1,0x0B,0⟩, {unit := ⟨1,0x0B,0⟩, cause := 2, st := .reset}, by decide +kernel⟩,
   ⟨{(Wit.stored 33 (Wit.waits 16400)) with recast := {jobs := [{unit := ⟨1,0x0C,0⟩, cause := 2, st := .reset}]}}, ⟨1,0x0C,0⟩, {unit := ⟨1,0x0C,0⟩, cause := 2, st := .reset}, by decide +kernel⟩,
   ⟨{(Wit.stored 33 (Wit.waits 16400)) with recast := {jobs := [{unit := ⟨2,0,0⟩, cause := 2, st := .reset, full := true}]}}, ⟨2,0,0⟩, {unit := ⟨2,0,0⟩, cause := 2, st := .reset, full := true}, by decide +kernel⟩,
   ⟨{(Wit.stored 33 (Wit.waits 16400)) with recast := {jobs := [{unit := ⟨2,0,0⟩, cause := 2, st := .reset}]}}, ⟨2,0,0⟩, {unit := ⟨2,0,0⟩, cause := 2, st := .reset}, by decide +kernel⟩,
   ⟨(Wit.recast {}), ⟨1,0x0B,0⟩, by decide +kernel⟩,
   ⟨(Wit.recast {jobs := [{unit := ⟨1,0x0B,0⟩, cause := 2, st := .restore}]}), ⟨1,0x0B,0⟩, {unit := ⟨1,0x0B,0⟩, cause := 2, st := .restore}, by decide +kernel⟩,
   ⟨(Wit.recast {jobs := [{unit := ⟨1,0x0B,0⟩, cause := 2, st := .restore}]}), ⟨1,0x0B,0⟩, {unit := ⟨1,0x0B,0⟩, cause := 2, st := .restore}, by decide +kernel⟩,
   ⟨(Wit.recast {}), ⟨1,0x0B,0⟩, by decide +kernel⟩,
   ⟨(Wit.recast {jobs := [{unit := ⟨1,0x0B,0⟩, cause := 2, st := .resume}]}), ⟨1,0x0B,0⟩, {unit := ⟨1,0x0B,0⟩, cause := 2, st := .resume}, by decide +kernel, rfl, by decide +kernel, by decide +kernel⟩,
   ⟨(Wit.recast {queue := [(⟨1,0x0C,0⟩, 3)], jobs := [{unit := ⟨1,0x0B,0⟩, cause := 2, st := .resume}]}), ⟨1,0x0B,0⟩, {unit := ⟨1,0x0B,0⟩, cause := 2, st := .resume}, ⟨1,0x0C,0⟩, 3, by decide +kernel, rfl, by decide +kernel, by decide +kernel, by decide +kernel, by decide +kernel, by decide +kernel, by decide +kernel, by decide +kernel⟩,
   ⟨(Wit.recast {}), ⟨1,0x0B,0⟩, by decide +kernel⟩⟩

theorem witness_PinsAndTestPort :
    (∃ (s : State) (g : Nat), g < 24 ∧ s.gpioDead g = false ∧ s.gpioDrive g = none) ∧
    (∃ (s : State) (g : Nat), g < 24 ∧ s.gpioDead g = false ∧ s.gpioDrive g ≠ none) ∧
    (∃ (s : State), s.boot.railsValid = true ∧ s.jtag.tck = false) ∧
    (∃ (s : State), s.boot.railsValid = true ∧ s.jtag.tck = true ∧ s.jtag.tap = TapState.updateIr) ∧
    (∃ (s : State), s.boot.railsValid = true ∧ s.jtag.tck = true ∧ s.jtag.tap = TapState.shiftIr) ∧
    (∃ (s : State), s.boot.railsValid = true ∧ s.jtag.tck = true ∧ s.jtag.tap = TapState.shiftDr ∧ s.sec.debugPerms = 0) ∧
    (∃ (s : State), s.boot.railsValid = true ∧ s.jtag.tck = true ∧ s.jtag.tap = TapState.updateDr ∧ s.jtag.ir = 0) ∧
    (∃ (s : State), s.boot.railsValid = true ∧ s.jtag.tck = true ∧ s.jtag.tap = TapState.runTestIdle) ∧
    (∃ (s : State) (r : Bool), (s.boot.railsValid = false ∨ s.jtag.tck = r)) :=
  ⟨⟨Wit.ses, 3, by decide +kernel⟩,
   ⟨(Wit.ses.setPar Prm.devGpioMode 3 1), 3, by decide +kernel⟩,
   ⟨(Wit.boot {railsValid := true}), by decide +kernel⟩,
   ⟨{(Wit.boot {railsValid := true}) with jtag := {tck := true, tap := .updateIr, irShift := 2}}, by decide +kernel⟩,
   ⟨{(Wit.boot {railsValid := true}) with jtag := {tck := true, tap := .shiftIr, irShift := 2}}, by decide +kernel⟩,
   ⟨{(Wit.boot {railsValid := true}) with jtag := {tck := true, tap := .shiftDr, drShift := 3}}, by decide +kernel⟩,
   ⟨{(Wit.boot {railsValid := true}) with jtag := {tck := true, tap := .updateDr, ir := 0, drShift := 3}}, by decide +kernel⟩,
   ⟨{(Wit.boot {railsValid := true}) with jtag := {tck := true, tap := .runTestIdle, ir := 0, drShift := 3}}, by decide +kernel⟩,
   ⟨{(Wit.boot {railsValid := true}) with jtag := {tck := true}}, true, by decide +kernel⟩⟩

end Sys2Proof.Tests
end

/-!
The invariant of every run (`State.Inv`). It speaks of four places: the epoch, the boot stage, the windows and the list of armed
windows. Nearly every function of the model leaves the first two as they are and keeps the windows' form; `Steady` says so, and
`Wakes` says the same of a function that may also change the feeds' enables and the selected pattern. The few functions that do
more (resets, recasts, the boot stages, a session's opening) have a lemma about `State.Inv` itself. Each lemma is about one
function of the model and carries the relation from the state before it to the state after it: `f_steady`, `f_wakes`, `f_inv`.
-/

section
/-! ### Tables whose values all change -/
namespace Sys2Proof

section
variable {α : Type} [Inhabited α]

theorem Tab.get_eq_default_of_rising {t : Tab α} {b k : Nat} (hk : k < b) (ht : Tab.rising b t = true) :
    Tab.get t k = default := by
  induction t generalizing b with
  | nil => rfl
  | cons e t ih =>
    obtain ⟨i, x⟩ := e
    simp only [Tab.rising, Bool.and_eq_true, decide_eq_true_eq] at ht
    obtain ⟨hi, ht⟩ := ht
    rw [Tab.get, if_neg (by omega)]
    exact ih (by omega) ht

variable [DecidableEq α]

theorem Tab.mapV_cons (f : α → α) (i : Nat) (x : α) (t : Tab α) :
    Tab.mapV f ((i, x) :: t) = if f x = default then Tab.mapV f t else (i, f x) :: Tab.mapV f t := by
  by_cases h : f x = default <;> simp [Tab.mapV, h]

theorem Tab.get_mapV {f : α → α} (hf : f default = default) {t : Tab α} {b : Nat} (ht : Tab.rising b t = true) (k : Nat) :
    Tab.get (Tab.mapV f t) k = f (Tab.get t k) := by
  induction t generalizing b with
  | nil => exact hf.symm
  | cons e t ih =>
    obtain ⟨i, x⟩ := e
    simp only [Tab.rising, Bool.and_eq_true, decide_eq_true_eq] at ht
    have hi := ih ht.2
    rw [Tab.mapV_cons]
    by_cases hk : i = k
    · subst hk
      rw [Tab.get_eq_default_of_rising (Nat.lt_succ_self i) ht.2, hf] at hi
      split
      next h => simp [hi, Tab.get, h]
      next => simp [Tab.get]
    · split <;> simp [Tab.get, hk, hi]

end

end Sys2Proof
end

section
/-! ### The relations between a state and a later one -/
namespace Sys2Proof.Machine

/-- The mailbox's part of the invariant: the windows' bytes are in canonical form, and a window is listed as armed exactly when
it stands armed. -/
structure MailboxOk (m : Mbx) : Prop where
  table : Tab.wf m.win = true
  bytes : ∀ w, Tab.wf (m.win.get w).bytes = true
  armed : ∀ w, w ∈ m.armed ↔ (m.win.get w).hold = .armed

/-- From `s` to `t` boot, epoch, flash and recasts stay, firmware's state stays but for the mark of the PON's state O7, and the
windows keep their form. -/
structure Steady (s t : State) : Prop where
  boot : t.boot = s.boot
  epoch : t.mbx.epoch = s.mbx.epoch
  flash : t.flash = s.flash
  fw : t.fw = { s.fw with ponO7 := t.fw.ponO7 }
  recast : t.recast = s.recast
  windows : MailboxOk s.mbx → MailboxOk t.mbx

/-- As `Steady`, but the feeds' enables and the source of the pattern may change. -/
structure Wakes (s t : State) : Prop where
  boot : t.boot = { s.boot with enables := t.boot.enables, pattern := t.boot.pattern }
  epoch : t.mbx.epoch = s.mbx.epoch
  flash : t.flash = s.flash
  fw : t.fw = { s.fw with ponO7 := t.fw.ponO7 }
  recast : t.recast = s.recast
  windows : MailboxOk s.mbx → MailboxOk t.mbx

/-- A command that answers a next state answers one with the invariant. -/
def Ends (o : Host.Outcome State Fault Refusal) : Prop :=
  match o with
  | .next t => t.Inv
  | _ => True

/-- Processing a command keeps the invariant, and so does what follows its response. -/
structure Reply.Keeps (r : Reply) : Prop where
  state : r.s.Inv
  after : ∀ t : State, t.Inv → (r.after t).Inv

variable {a s t : State}

theorem Ends.next (h : t.Inv) : Ends (.next t) := h

namespace MailboxOk
variable {m n : Mbx}

theorem of_eq (h : MailboxOk m) (hw : n.win = m.win) (ha : n.armed = m.armed) : MailboxOk n :=
  ⟨hw ▸ h.table, fun w => by rw [hw]; exact h.bytes w, fun w => by rw [hw, ha]; exact h.armed w⟩

/-- A window's new content keeps the form when its owner stays in step with the list of armed windows. -/
theorem put (h : MailboxOk m) (w : Nat) (x : Window) (l : List Nat) (hb : Tab.wf x.bytes = true) (hw : w ∈ l ↔ x.hold = .armed)
    (hl : ∀ v, v ≠ w → (v ∈ l ↔ v ∈ m.armed)) : MailboxOk { m with win := m.win.put w x, armed := l } := by
  refine ⟨Tab.wf_put _ _ _ h.table, fun v => ?_, fun v => ?_⟩
  · rw [Tab.get_put]
    split
    · exact hb
    · exact h.bytes v
  · rw [Tab.get_put]
    split
    next e => exact e ▸ hw
    next e => rw [hl v (Ne.symm e), h.armed v]

/-- A change of every window that leaves its bytes, its owner and an unlisted window as they are. -/
theorem mapV (h : MailboxOk m) {f : Window → Window} (hd : f default = default) (hb : ∀ x, (f x).bytes = x.bytes)
    (hh : ∀ x, (f x).hold = x.hold) : MailboxOk { m with win := Tab.mapV f m.win } := by
  have hr : Tab.rising 0 m.win = true := (Bool.and_eq_true _ _ ▸ h.table : _ ∧ _).1
  refine ⟨Tab.wf_mapV f _ h.table, fun w => ?_, fun w => ?_⟩
  · rw [Tab.get_mapV hd hr, hb]
    exact h.bytes w
  · rw [Tab.get_mapV hd hr, hh]
    exact h.armed w

theorem reset : MailboxOk {} :=
  ⟨rfl, fun _ => rfl, fun _ => ⟨fun h => (List.not_mem_nil h).elim, fun h => nomatch h⟩⟩

end MailboxOk

namespace State

theorem Inv.mailbox (h : s.Inv) : MailboxOk s.mbx := ⟨h.windows.1, h.windows.2, h.armed⟩

theorem inv_of (he : 1 ≤ t.mbx.epoch ∧ t.mbx.epoch ≤ 0xFFFFFFFF) (hs : stageLegal t.boot.stage) (hm : MailboxOk t.mbx) : t.Inv :=
  ⟨he, hs, ⟨hm.table, hm.bytes⟩, hm.armed⟩

end State

namespace State.Inv

/-- A change of neither the mailbox nor the boot stage. -/
theorem same (h : s.Inv) (hm : t.mbx = s.mbx := by rfl) (hb : t.boot.stage = s.boot.stage := by rfl) : t.Inv :=
  State.inv_of (hm ▸ h.epoch) (hb ▸ h.stage) (hm ▸ h.mailbox)

/-- A change of the mailbox that keeps the windows' form. -/
theorem mail (h : s.Inv) (k : MailboxOk s.mbx → MailboxOk t.mbx) (hm : t.mbx.epoch = s.mbx.epoch := by rfl)
    (hb : t.boot.stage = s.boot.stage := by rfl) : t.Inv :=
  State.inv_of (hm ▸ h.epoch) (hb ▸ h.stage) (k h.mailbox)

theorem ite {p : Prop} [Decidable p] {x y : State} (hx : x.Inv) (hy : y.Inv) : State.Inv (if p then x else y) := by
  split
  · exact hx
  · exact hy

theorem foldl {α : Type} {f : State → α → State} {l : List α} (hf : ∀ x i, x.Inv → (f x i).Inv) (h : s.Inv) :
    (l.foldl f s).Inv := by
  induction l generalizing s with
  | nil => exact h
  | cons i l ih => exact ih (hf s i h)

theorem of_pair {α : Type} {x : α} {p : α × State} (h : p.2.Inv) (e : p = (x, t)) : t.Inv := by
  subst e
  exact h

end State.Inv

namespace Wakes

theorem refl (s : State) : Wakes s s := ⟨rfl, rfl, rfl, rfl, rfl, id⟩

theorem trans {b : State} (h : Wakes a s) (k : Wakes s b) : Wakes a b :=
  ⟨by rw [k.boot, h.boot], k.epoch.trans h.epoch, k.flash.trans h.flash, by rw [k.fw, h.fw], k.recast.trans h.recast,
    fun m => k.windows (h.windows m)⟩

/-- A change of nothing that `Wakes` speaks of. -/
theorem same (h : Wakes a s) (hm : t.mbx = s.mbx := by rfl)
    (hb : t.boot = { s.boot with enables := t.boot.enables, pattern := t.boot.pattern } := by rfl)
    (hf : t.flash = s.flash := by rfl) (hw : t.fw = { s.fw with ponO7 := t.fw.ponO7 } := by rfl)
    (hr : t.recast = s.recast := by rfl) : Wakes a t :=
  h.trans ⟨hb, hm ▸ rfl, hf, hw, hr, fun k => hm ▸ k⟩

theorem ite {p : Prop} [Decidable p] {x y : State} (hx : Wakes a x) (hy : Wakes a y) : Wakes a (if p then x else y) := by
  split
  · exact hx
  · exact hy

theorem foldl {α : Type} {f : State → α → State} {l : List α} (hf : ∀ x i, Wakes a x → Wakes a (f x i)) (h : Wakes a s) :
    Wakes a (l.foldl f s) := by
  induction l generalizing s with
  | nil => exact h
  | cons i l ih => exact ih (hf s i h)

theorem inv (k : Wakes s t) (h : s.Inv) : t.Inv :=
  State.inv_of (k.epoch ▸ h.epoch) (by rw [k.boot]; exact h.stage) (k.windows h.mailbox)

end Wakes

namespace Steady

theorem refl (s : State) : Steady s s := ⟨rfl, rfl, rfl, rfl, rfl, id⟩

theorem trans {b : State} (h : Steady a s) (k : Steady s b) : Steady a b :=
  ⟨k.boot.trans h.boot, k.epoch.trans h.epoch, k.flash.trans h.flash, by rw [k.fw, h.fw], k.recast.trans h.recast,
    fun m => k.windows (h.windows m)⟩

/-- A change of the mailbox that keeps the windows' form. -/
theorem mail (h : Steady a s) (k : MailboxOk s.mbx → MailboxOk t.mbx) (hm : t.mbx.epoch = s.mbx.epoch := by rfl)
    (hb : t.boot = s.boot := by rfl) (hf : t.flash = s.flash := by rfl)
    (hw : t.fw = { s.fw with ponO7 := t.fw.ponO7 } := by rfl) (hr : t.recast = s.recast := by rfl) : Steady a t :=
  h.trans ⟨hb, hm, hf, hw, hr, k⟩

/-- A change of nothing that `Steady` speaks of. -/
theorem same (h : Steady a s) (hm : t.mbx = s.mbx := by rfl) (hb : t.boot = s.boot := by rfl) (hf : t.flash = s.flash := by rfl)
    (hw : t.fw = { s.fw with ponO7 := t.fw.ponO7 } := by rfl) (hr : t.recast = s.recast := by rfl) : Steady a t :=
  h.trans ⟨hb, hm ▸ rfl, hf, hw, hr, fun k => hm ▸ k⟩

theorem ite {p : Prop} [Decidable p] {x y : State} (hx : Steady a x) (hy : Steady a y) : Steady a (if p then x else y) := by
  split
  · exact hx
  · exact hy

theorem ite_snd {α : Type} {p : Prop} [Decidable p] {x y : α × State} (hx : Steady a x.2) (hy : Steady a y.2) :
    Steady a (if p then x else y).2 := by
  split
  · exact hx
  · exact hy

theorem foldl_mem {α : Type} {f : State → α → State} {l : List α} (hf : ∀ x i, i ∈ l → Steady a x → Steady a (f x i))
    (h : Steady a s) : Steady a (l.foldl f s) := by
  induction l generalizing s with
  | nil => exact h
  | cons i l ih => exact ih (fun x j hj => hf x j (List.mem_cons_of_mem _ hj)) (hf s i List.mem_cons_self h)

theorem foldl {α : Type} {f : State → α → State} {l : List α} (hf : ∀ x i, Steady a x → Steady a (f x i)) (h : Steady a s) :
    Steady a (l.foldl f s) :=
  foldl_mem (fun x i _ => hf x i) h

theorem foldl_snd {α β : Type} {f : β × State → α → β × State} {l : List α} {x : β × State}
    (hf : ∀ x i, Steady a x.2 → Steady a (f x i).2) (h : Steady a x.2) : Steady a (l.foldl f x).2 := by
  induction l generalizing x with
  | nil => exact h
  | cons i l ih => exact ih (hf x i h)

theorem pair {α : Type} {x : α} (h : Steady a s) : Steady a (x, s).2 := h

theorem of_pair {α : Type} {x : α} {p : α × State} (h : Steady a p.2) (e : p = (x, t)) : Steady a t := by
  subst e
  exact h

theorem wakes (k : Steady s t) (h : Wakes a s) : Wakes a t :=
  h.trans ⟨by rw [k.boot], k.epoch, k.flash, k.fw, k.recast, k.windows⟩

theorem inv (k : Steady s t) (h : s.Inv) : t.Inv := (k.wakes (.refl s)).inv h

end Steady

namespace Reply.Keeps

theorem now {st : Status} {body : List Byte} {ver : Option (Nat × Nat)} {hold : Bool} (h : s.Inv) :
    Reply.Keeps { st := st, body := body, s := s, ver := ver, hold := hold } := ⟨h, fun _ k => k⟩

theorem ite {p : Prop} [Decidable p] {x y : Reply} (hx : x.Keeps) (hy : y.Keeps) : Reply.Keeps (if p then x else y) := by
  split
  · exact hx
  · exact hy

end Reply.Keeps

end Sys2Proof.Machine
end
section
/-! ## The functions of the model, in the order of its files -/
namespace Sys2Proof.Machine

-- One proof after another: a thread of its own for each of so many short proofs takes more memory than the check allows.
set_option Elab.async false

variable {a s t : State}

/-! ### Ops -/

theorem setPar_steady {p i v} (h : Steady a s) : Steady a (s.setPar p i v) :=
  h.same

theorem bumpBy_steady {p i k} (h : Steady a s) : Steady a (bumpBy p i k s) :=
  setPar_steady h

theorem bump_steady {p i} (h : Steady a s) : Steady a (bump p i s) :=
  bumpBy_steady h

theorem drawBelow_steady {m} (h : Steady a s) : Steady a (drawBelow m s).2 :=
  h.same

theorem drawRandom_steady {m} (h : Steady a s) : Steady a (drawRandom m s).2 := by
  unfold drawRandom
  split
  · exact h
  · split
    next _ t1 e1 =>
      have h1 : Steady a t1 := (drawBelow_steady h).of_pair e1
      exact h1.same

theorem sendVector_steady {v} (h : Steady a s) : Steady a (sendVector v s) :=
  .ite (.ite h.same h.same) h

theorem uartLine_steady {code cls group inst} (h : Steady a s) : Steady a (uartLine code cls group inst s) :=
  h.same

theorem setStage_inv {n} (h : s.Inv) (hn : n ≤ 5 ∨ n = 14 ∨ n = 15 := by decide) : (setStage n s).Inv := by
  unfold setStage
  split
  · exact h
  · exact (sendVector_steady (uartLine_steady (.refl _))).inv (State.inv_of h.epoch hn h.mailbox)

theorem handBack_steady {w r} (h : Steady a s) : Steady a (handBack w r s) :=
  h.mail (t := handBack w r s)
    (fun k => by
      rw [handBack_mbx]
      exact k.put w _ _ (k.bytes w) (by simp) fun v hv => by simp [hv])
    (by rw [handBack_mbx]) (by simp) (by simp) (by simp) (by simp)

theorem protoError_steady {w} (h : Steady a s) : Steady a (protoError w s) := by
  refine Steady.mail h (fun k => ?_)
  exact k.put w _ s.mbx.armed (k.bytes w) (k.armed w) fun _ _ => Iff.rfl

theorem putMessage_steady {w b} (h : Steady a s) : Steady a (putMessage w b s) :=
  h.mail fun k => k.put w _ s.mbx.armed (writeBytes_wf _ _ _ (k.bytes w)) (k.armed w) fun _ _ => Iff.rfl

theorem respond_steady {o st payload} (h : Steady a s) : Steady a (respond o st payload s) := by
  unfold respond
  extract_lets +onlyGivenNames s1
  have h1 : Steady a s1 := putMessage_steady h
  exact handBack_steady (setPar_steady h1)

theorem ringInsert_steady {r} (h : Steady a s) : Steady a (ringInsert r s) := by
  unfold ringInsert
  refine .ite (bump_steady h.same) ?_
  refine .ite h.same ?_
  split
  · exact bump_steady h
  · exact bump_steady h.same

theorem logRefill_steady (h : Steady a s) : Steady a (logRefill s) :=
  h.same

theorem logInsert_steady {r} (h : Steady a s) : Steady a (logInsert r s) := by
  unfold logInsert
  refine .ite h ?_
  extract_lets +onlyGivenNames s1
  have h1 : Steady a s1 := logRefill_steady h
  exact .ite h1.same (.ite h1.same (bump_steady h1))

theorem deliverMessage_steady {w op tag status epoch payload} (h : Steady a s) : Steady a
    (deliverMessage w op tag status epoch payload s) := by
  unfold deliverMessage
  split
  exact handBack_steady (putMessage_steady h)

theorem deliverOne_steady (h : Steady a s) (e : deliverOne s = some t) : Steady a t := by
  unfold deliverOne at e
  split at e
  · cases e
  · split at e
    · cases e
      exact deliverMessage_steady (h.mail fun k => k.of_eq rfl rfl)
    · split at e
      · cases e
        exact deliverMessage_steady h.same
      · cases e

theorem deliver_steady {n} (h : Steady a s) : Steady a (deliver n s) := by
  induction n generalizing s with
  | zero => exact h
  | succ n ih =>
    unfold deliver
    split
    next t e => exact ih (deliverOne_steady h e)
    next => exact h

theorem pump_steady (h : Steady a s) : Steady a (pump s) :=
  deliver_steady h

theorem raise_steady {e inst detail} (h : Steady a s) : Steady a (raise e inst detail s) := by
  unfold raise
  extract_lets +onlyGivenNames _ s1
  have h1 : Steady a s1 := logInsert_steady (ringInsert_steady h)
  extract_lets +onlyGivenNames s2
  have h2 : Steady a s2 := .ite (uartLine_steady h1) h1
  exact pump_steady h2

theorem fifoSlip_steady {p e i k} (h : Steady a s) : Steady a (fifoSlip p e i k s) := by
  unfold fifoSlip
  extract_lets +onlyGivenNames s1
  have h1 : Steady a s1 := bumpBy_steady h
  exact .ite h1 (raise_steady h1.same)

theorem warnOnce_steady {p i e inst det} (h : Steady a s) : Steady a (warnOnce p i e inst det s) :=
  .ite h (raise_steady h.same)

theorem queueControl_steady {c} (h : Steady a s) : Steady a (queueControl c s) :=
  h.mail
    (by
      unfold queueControl
      dsimp only
      split
      · exact fun k => k.of_eq rfl rfl
      · split <;> exact fun k => k.of_eq rfl rfl)
    (by
      unfold queueControl
      dsimp only
      split
      · rfl
      · split <;> rfl)
    (by simp) (by simp) (by simp) (by simp)

theorem reportVersion_steady {iface inst major minor} (h : Steady a s) : Steady a
    (reportVersion iface inst major minor s) :=
  .ite h (pump_steady (queueControl_steady h))

theorem finish_steady {cid st result} (h : Steady a s) : Steady a (finish cid st result s) := by
  unfold finish
  split
  · exact h
  · exact .ite (pump_steady (queueControl_steady h))
      (pump_steady (respond_steady (h.mail fun k => k.of_eq rfl rfl)))

theorem finishOpt_steady {cid st result} (h : Steady a s) : Steady a (finish? cid st result s) := by
  unfold finish?
  split
  · exact h
  · exact finish_steady h

/-! ### Reset -/

theorem logAppend_steady {afterFail r} (h : Steady a s) : Steady a (logAppend afterFail r s) :=
  h.same

theorem logFatal_steady {afterFail e inst detail} (h : Steady a s) : Steady a (logFatal afterFail e inst detail s) :=
  uartLine_steady (logAppend_steady h)

theorem resetWith_inv {cause} : (resetWith cause s).Inv :=
  State.inv_of ⟨Nat.le_refl 1, (by decide : 1 ≤ 0xFFFFFFFF)⟩ (Or.inl (Nat.zero_le _)) MailboxOk.reset

theorem rollback_inv {reason} : (rollback reason s).Inv := resetWith_inv

theorem chipReset_inv {cause} : (chipReset cause s).Inv := .ite rollback_inv resetWith_inv

theorem bootHalt_inv {code} (h : s.Inv) : (bootHalt code s).Inv :=
  setStage_inv ((uartLine_steady (.refl _)).inv h.same) (.inr (.inr rfl))

/-! ### Faults -/

theorem updTabState_steady {id inst f} (h : Steady a s) : Steady a (updTabState id inst f s) :=
  h.same

theorem reloadStandby_steady (h : Steady a s) : Steady a (reloadStandby s) := by
  unfold reloadStandby
  extract_lets +onlyGivenNames _ s1
  have h1 : Steady a s1 := .foldl (fun _ _ h2 => .ite (updTabState_steady h2) h2) h
  exact h1.same

theorem reclaim_inv (h : s.Inv) : (reclaim s).2.Inv := by
  unfold reclaim
  extract_lets ws s1
  have h1 : s1.Inv := (Steady.foldl (fun _ _ k => handBack_steady k) (.refl s)).inv h
  refine State.inv_of ?_ h1.stage (h1.mailbox.of_eq rfl rfl)
  have he := h1.epoch
  change 1 ≤ (if s1.mbx.epoch = 0xFFFFFFFF then 1 else s1.mbx.epoch + 1) ∧
    (if s1.mbx.epoch = 0xFFFFFFFF then 1 else s1.mbx.epoch + 1) ≤ 0xFFFFFFFF
  split <;> omega

theorem startRecast_inv {u cause full} (h : s.Inv) : (startRecast u cause full s).Inv := by
  unfold startRecast
  extract_lets +onlyGivenNames prev
  split
  next k t e =>
    have ht : t.Inv := by
      split at e
      · cases e; exact h
      · exact (reclaim_inv ((reloadStandby_steady (.refl _)).inv h)).of_pair e
    have h1 : (bump Prm.faultRecasts u.scope t).Inv := (bump_steady (.refl _)).inv ht
    refine (pump_steady (queueControl_steady (.refl _))).inv ?_
    exact .ite ((bumpBy_steady (.refl _)).inv h1.same) h1.same

theorem startDevice_inv {cause} (h : s.Inv) : (startDevice cause s).Inv :=
  startRecast_inv h

theorem setPower_steady {st} (h : Steady a s) : Steady a (setPower st s) := by
  unfold setPower
  refine .ite h ?_
  extract_lets +onlyGivenNames _ _ s1
  have h1 : Steady a s1 := .ite (bumpBy_steady h.same) h
  exact raise_steady h1.same

theorem answerPower_steady {st reached block} (h : Steady a s) : Steady a (answerPower st reached block s) :=
  finishOpt_steady h.same

theorem countRefusal_steady {b} (h : Steady a s) : Steady a (countRefusal b s) := by
  unfold countRefusal
  extract_lets +onlyGivenNames s1
  have h1 : Steady a s1 := .ite (bump_steady h) h
  exact raise_steady h1.same

theorem abortEntry_steady {b} (h : Steady a s) : Steady a (abortEntry b s) := by
  unfold abortEntry
  extract_lets +onlyGivenNames s1
  have h1 : Steady a s1 := countRefusal_steady h
  extract_lets +onlyGivenNames _ _ s2
  have h2 : Steady a s2 := setPower_steady h1.same
  exact answerPower_steady h2

theorem startStage_wakes {k} (h : Wakes a s) : Wakes a (startStage k s) :=
  .ite h.same (.ite h.same h.same)

theorem startAttempt_wakes (h : Wakes a s) : Wakes a (startAttempt s) := by
  unfold startAttempt
  extract_lets +onlyGivenNames _ s1
  have h1 : Wakes a s1 := (setPower_steady (Steady.refl _).same).wakes h
  exact startStage_wakes h1

theorem startWake_wakes {cause} (h : Wakes a s) : Wakes a (startWake cause s) :=
  startAttempt_wakes h.same

theorem entryFault_wakes (h : Wakes a s) : Wakes a (entryFault s) :=
  .ite h (.ite ((abortEntry_steady (.refl _)).wakes h) (startWake_wakes
    ((countRefusal_steady (Steady.refl _).same).wakes h)))

theorem wakeSource_wakes {b} (h : Wakes a s) : Wakes a (wakeSource b s) :=
  .ite h (.ite (.ite h ((bump_steady (Steady.refl _).same).wakes h)) (.ite (startWake_wakes h) h))

theorem admitFault_inv {u cause} (h : s.Inv) : (admitFault u cause s).Inv := by
  unfold admitFault
  extract_lets +onlyGivenNames s1
  have h1 : s1.Inv := (entryFault_wakes (.refl _)).inv h
  exact .ite ((bump_steady (.refl _)).inv h1) (.ite (.ite h1 h1.same)
    (.ite (startRecast_inv h1) (.ite (.ite (startDevice_inv ((raise_steady (.refl _)).inv h1))
    (.ite (.ite (startDevice_inv h1) h1.same) (startRecast_inv h1))) (startDevice_inv h1))))

theorem runQueued_inv (h : s.Inv) : (runQueued s).Inv := by
  unfold runQueued
  refine .ite h ?_
  split
  · exact h
  · exact admitFault_inv h.same

/-! ### Rings -/

theorem updRing_steady {n f} (h : Steady a s) : Steady a (updRing n f s) :=
  h.same

theorem hostWrite_steady {addr b} (h : Steady a s) : Steady a (hostWrite addr b s) :=
  h.same

theorem signalRing_steady {n} (h : Steady a s) : Steady a (signalRing n s) :=
  sendVector_steady (updRing_steady h)

theorem countWriteback_steady {n} (h : Steady a s) : Steady a (countWriteback n s) := by
  unfold countWriteback
  extract_lets +onlyGivenNames s1
  have h1 : Steady a s1 := bump_steady h
  extract_lets +onlyGivenNames s2
  have h2 : Steady a s2 := updRing_steady h1
  exact .ite (signalRing_steady h2) h2

theorem writebackTx_steady {n w status ts tb} (h : Steady a s) : Steady a (writebackTx n w status ts tb s) := by
  unfold writebackTx
  extract_lets +onlyGivenNames _ s1
  have h1 : Steady a s1 := .foldl (fun _ _ h2 => hostWrite_steady h2) h
  extract_lets +onlyGivenNames s3
  have h3 : Steady a s3 := updRing_steady h1
  extract_lets +onlyGivenNames s4
  have h4 : Steady a s4 := .ite (bump_steady h3) h3
  exact countWriteback_steady h4

theorem flushTx_steady {n k} (h : Steady a s) : Steady a (flushTx n k s) := by
  induction k generalizing s with
  | zero => exact h
  | succ k ih =>
    unfold flushTx
    split
    · exact h
    · split
      · exact h
      · exact ih (writebackTx_steady (updRing_steady h))

theorem txOutcome_steady {n h' status ts tb} (h : Steady a s) : Steady a (txOutcome n h' status ts tb s) := by
  unfold txOutcome
  extract_lets +onlyGivenNames s1
  have h1 : Steady a s1 := updRing_steady h
  exact flushTx_steady h1

theorem execRingIrqTimer_inv {n} (h : s.Inv) : Ends (execRingIrqTimer n s) :=
  .next (.ite ((signalRing_steady (.refl _)).inv h) h)

theorem stopRings_steady (h : Steady a s) : Steady a (stopRings s) :=
  .foldl (fun _ _ h1 => .ite (raise_steady (updRing_steady h1)) h1) h

theorem applyRing_steady {n} (h : Steady a s) : Steady a (applyRing n s) :=
  updRing_steady h

/-! ### Pool -/

theorem updWb_steady {h' f} (h : Steady a s) : Steady a (updWb h' f s) :=
  h.same

theorem updPool_steady {p f} (h : Steady a s) : Steady a (updPool p f s) :=
  h.same

theorem poolEmpty_steady {port p} (h : Steady a s) : Steady a (poolEmpty port p s) :=
  warnOnce_steady (bump_steady h)

theorem wbEmpty_steady {port} (h : Steady a s) : Steady a (wbEmpty port s) :=
  warnOnce_steady (bump_steady h)

theorem takeBuffer_steady {p l b} (h : Steady a s) (e : takeBuffer p l s = some (b, t)) : Steady a t := by
  unfold takeBuffer at e
  split at e
  next start u k =>
    have hu : Steady a u := (drawBelow_steady h).of_pair k
    obtain ⟨x, -, hx⟩ := Option.map_eq_some_iff.1 e
    cases hx
    exact bump_steady (updPool_steady hu)

theorem alloc_steady {port n} (h : Steady a s) : Steady a (alloc port n s).2 := by
  unfold alloc
  split
  · exact h
  · split
    · exact h
    · extract_lets +onlyGivenNames _
      split
      next _ t1 e1 =>
        have h1 : Steady a t1 := (drawBelow_steady h).of_pair e1
        split
        · exact wbEmpty_steady h1
        · split
          · exact wbEmpty_steady h1
          · split
            · exact poolEmpty_steady h1
            · split
              · exact poolEmpty_steady h1
              · next _ t2 e2 =>
                  have h2 : Steady a t2 := takeBuffer_steady h1 e2
                  exact updWb_steady h2.same

theorem dropMark_steady {h'} (h : Steady a s) : Steady a (dropMark h' s) :=
  .ite h.same h

theorem free_steady {h'} (h : Steady a s) : Steady a (free h' s) := by
  unfold free
  refine .ite h ?_
  extract_lets +onlyGivenNames s1
  have h1 : Steady a s1 := updPool_steady h
  extract_lets +onlyGivenNames _ s2
  have h2 : Steady a s2 := dropMark_steady h1.same
  split
  · exact txOutcome_steady h2
  · exact h2

theorem sendOff_steady {h' ts tb} (h : Steady a s) : Steady a (sendOff h' ts tb s) := by
  unfold sendOff
  extract_lets +onlyGivenNames s1
  have h1 : Steady a s1 := by
    unfold s1
    split
    · exact txOutcome_steady h
    · exact h
  exact free_steady h1

theorem badFree_steady {port h' op} (h : Steady a s) : Steady a (badFree port h' op s) :=
  raise_steady (bump_steady h)

theorem badPtr_steady {port ptr} (h : Steady a s) : Steady a (badPtr port ptr s) :=
  raise_steady (bump_steady h)

theorem give_steady {port h' dest} (h : Steady a s) : Steady a (give port h' dest s) :=
  .ite (badPtr_steady h) (.ite (updWb_steady h) (badFree_steady h))

theorem release_steady {port h'} (h : Steady a s) : Steady a (release port h' s) :=
  .ite (badPtr_steady h) (.ite (free_steady h) (badFree_steady h))

theorem poolCycle_steady {p g l} (h : Steady a s) : Steady a (poolCycle p g l s) := by
  induction l generalizing g s with
  | nil => exact h
  | cons x l ih =>
    unfold poolCycle
    refine .ite (.ite ?_ (ih (updPool_steady h))) ?_
    · exact ih (alloc_steady h).same
    · exact ih (poolEmpty_steady h).same

theorem execPoolAlloc_inv {reqs} (h : s.Inv) : Ends (execPoolAlloc reqs s) := by
  unfold execPoolAlloc
  extract_lets +onlyGivenNames _ _ _ _ s1
  have h1 : s1.Inv := h.same
  refine .next ?_
  refine .foldl (fun _ _ h2 => ?_) h1
  extract_lets +onlyGivenNames _ s3
  have h3 : s3.Inv := (updPool_steady (.refl _)).inv h2
  exact (poolCycle_steady (.refl _)).inv h3

theorem execWaybillGive_inv {port h' dest} (h : s.Inv) : Ends (execWaybillGive port h' dest s) :=
  .next (.ite ((give_steady (.refl _)).inv h) h)

theorem releaseIndex_steady {port ptr p b} (h : Steady a s) : Steady a (releaseIndex port ptr p b s) := by
  unfold releaseIndex
  refine .ite (badPtr_steady h) ?_
  split
  · exact release_steady h
  · exact raise_steady (bump_steady h)

theorem execWaybillRelease_inv {port ptr} (h : s.Inv) : Ends (execWaybillRelease port ptr s) := by
  unfold execWaybillRelease
  refine .next ?_
  refine .ite h ?_
  split
  · exact (release_steady (.refl _)).inv h
  · exact (releaseIndex_steady (.refl _)).inv h
  · split
    · exact (releaseIndex_steady (.refl _)).inv h
    · exact (badPtr_steady (.refl _)).inv h

theorem readPacket_steady {h'} (h : Steady a s) : Steady a (readPacket h' s).2 := by
  unfold readPacket
  extract_lets +onlyGivenNames _
  split
  · exact free_steady (raise_steady h)
  · exact h

/-! ### Jobs -/

theorem updJobq_steady {q f} (h : Steady a s) : Steady a (updJobq q f s) :=
  h.same

theorem updRunner_steady {e f} (h : Steady a s) : Steady a (updRunner e f s) :=
  h.same

theorem updEng_steady {e f} (h : Steady a s) : Steady a (updEng e f s) :=
  h.same

theorem traceJob_steady {kind g q e word} (h : Steady a s) : Steady a (traceJob kind g q e word s) := by
  unfold traceJob
  refine .ite h ?_
  extract_lets +onlyGivenNames _ _ _ s1
  have h1 : Steady a s1 := h.same
  exact .ite (bump_steady h1) h1

theorem refillCredits_steady (h : Steady a s) : Steady a (refillCredits s) :=
  .foldl (fun _ _ h1 => .ite h1 (traceJob_steady h1.same)) h

theorem refillUntil_steady {gs n} (h : Steady a s) : Steady a (refillUntil gs n s) := by
  induction n generalizing s with
  | zero => exact h
  | succ n ih => exact .ite h (ih (refillCredits_steady h))

theorem admitHeld_steady {q} (h : Steady a s) : Steady a (admitHeld q s) := by
  unfold admitHeld
  refine .ite h ?_
  extract_lets +onlyGivenNames _ s1
  have h1 : Steady a s1 := updJobq_steady h
  exact .foldl (fun _ _ h2 => traceJob_steady h2) (bumpBy_steady h1)

theorem selectJob_steady {e j} (h : Steady a s) (k : selectJob e s = some (j, t)) : Steady a t := by
  unfold selectJob at k
  extract_lets +onlyGivenNames gs s1 at k
  have h1 : Steady a s1 := refillUntil_steady h
  split at k
  · cases k
  · split at k
    · cases k
    · split at k
      · cases k
      next q _ =>
        obtain ⟨x, -, hx⟩ := Option.map_eq_some_iff.1 k
        have h2 : Steady a (updJobq q (fun x => { x with jobs := x.jobs.drop 1 }) s1) := updJobq_steady h1
        cases hx
        exact admitHeld_steady (traceJob_steady (bump_steady h2.same))

theorem handWaybill_steady {e j} (h : Steady a s) : Steady a (handWaybill e j s) := by
  unfold handWaybill
  refine .ite h ?_
  extract_lets +onlyGivenNames s1
  have h1 : Steady a s1 := updWb_steady h
  exact .ite (updEng_steady h1) h1

theorem returnJob_steady {e dst j} (h : Steady a s) : Steady a (returnJob e dst j s) := by
  unfold returnJob
  extract_lets +onlyGivenNames _ s1
  have h1 : Steady a s1 := h.same
  extract_lets +onlyGivenNames s2
  have h2 : Steady a s2 := updRunner_steady h1
  exact .ite (updEng_steady h2) h2

theorem serveWaiters_steady (h : Steady a s) : Steady a (serveWaiters s) := by
  unfold serveWaiters
  refine .foldl (fun _ _ h1 => ?_) h
  refine .ite h1 ?_
  split
  · exact h1
  · split
    · exact h1
    · next _ t2 e2 =>
        have h2 : Steady a t2 := selectJob_steady h1 e2
        exact returnJob_steady (handWaybill_steady h2)

theorem queueFull_steady {q sw} (h : Steady a s) : Steady a (queueFull q sw s) :=
  warnOnce_steady (bump_steady h)

theorem enqueueJob_steady {j} (h : Steady a s) : Steady a (enqueueJob j s) := by
  unfold enqueueJob
  extract_lets +onlyGivenNames s1
  have h1 : Steady a s1 := updJobq_steady h
  exact serveWaiters_steady (traceJob_steady (bump_steady h1))

theorem postHardware_steady {q kind arg} (h : Steady a s) : Steady a (postHardware q kind arg s) := by
  unfold postHardware
  split
  next _ t1 e1 =>
    have h1 : Steady a t1 := (drawBelow_steady h).of_pair e1
    exact .ite (queueFull_steady (updJobq_steady h1)) (enqueueJob_steady h1)

theorem postSoftware_steady {j permitted} (h : Steady a s) : Steady a (postSoftware j permitted s).2 := by
  unfold postSoftware
  split
  · exact h
  · split
    · exact h
    · split
      · exact queueFull_steady h
      · exact enqueueJob_steady h

theorem postRound_steady {r round} (h : Steady a s) : Steady a (postRound r round s) :=
  .foldl (fun _ _ h1 => postHardware_steady h1) h

theorem retireJob_steady {e j} (h : Steady a s) : Steady a (retireJob e j s) := by
  unfold retireJob
  extract_lets +onlyGivenNames s1
  have h1 : Steady a s1 := updRunner_steady h
  extract_lets +onlyGivenNames s2
  have h2 : Steady a s2 := traceJob_steady h1
  extract_lets +onlyGivenNames s3
  have h3 : Steady a s3 := by
    unfold s3
    split
    · exact .ite (traceJob_steady h2) h2
    · exact h2
  exact serveWaiters_steady h3

theorem dropJob_steady {e} (h : Steady a s) : Steady a (dropJob e s) := by
  unfold dropJob
  split
  · exact h
  · extract_lets +onlyGivenNames _ s1
    have h1 : Steady a s1 := traceJob_steady (bump_steady (updRunner_steady h))
    exact raise_steady h1

theorem returnBuffered_steady {e} (h : Steady a s) : Steady a (returnBuffered e s) := by
  unfold returnBuffered
  split
  · exact h
  · exact updJobq_steady (updRunner_steady h)

theorem dropWaybillJobs_steady (h : Steady a s) : Steady a (dropWaybillJobs s) := by
  unfold dropWaybillJobs
  refine .foldl (fun _ _ h1 => ?_) h
  extract_lets +onlyGivenNames _ s2
  have h2 : Steady a s2 := updJobq_steady h1
  exact .foldl (fun _ _ h3 => traceJob_steady (bump_steady h3)) h2

/-! ### Tables -/

theorem setActive_steady {t i k b} (h : Steady a s) : Steady a (setActive t i k b s) :=
  h.same

theorem setStandby_steady {t i k b} (h : Steady a s) : Steady a (setStandby t i k b s) :=
  h.same

theorem setBoth_steady {t i k b} (h : Steady a s) : Steady a (setBoth t i k b s) :=
  setStandby_steady (setActive_steady h)

theorem switchPage_steady {id inst time} (h : Steady a s) : Steady a (switchPage id inst time s) := by
  unfold switchPage
  extract_lets +onlyGivenNames _ _ _ _ _ s1
  have h1 : Steady a s1 := h.same
  extract_lets +onlyGivenNames _ _ s2
  have h2 : Steady a s2 := updTabState_steady h1
  exact finishOpt_steady h2

theorem switchWaiting_steady {id inst} (h : Steady a s) : Steady a (switchWaiting id inst s) :=
  .ite (switchPage_steady h) h

theorem copyStandby_steady {id inst} (h : Steady a s) : Steady a (copyStandby id inst s) := by
  unfold copyStandby
  extract_lets +onlyGivenNames _ _ _ s1
  have h1 : Steady a s1 := h.same
  exact updTabState_steady h1

/-! ### Commit -/

theorem finishCommits_steady (h : Steady a s) : Steady a (finishCommits s) := by
  unfold finishCommits
  extract_lets +onlyGivenNames _ _ s1
  have h1 : Steady a s1 := h.same
  exact .foldl (fun _ _ h2 => finishOpt_steady h2) h1

theorem countApply_steady {g start} (h : Steady a s) : Steady a (countApply g start s) :=
  .ite (setPar_steady h) h

theorem unitTakes_steady {g u} (h : Steady a s) : Steady a (unitTakes g u s).2 := by
  unfold unitTakes
  extract_lets +onlyGivenNames _ _ _ _ _ s1
  have h1 : Steady a s1 := h.same
  exact .foldl (fun _ _ h2 => countApply_steady h2) h1

theorem commitValues_steady {group cid image vals} (h : Steady a s) : Steady a
    (commitValues group cid image vals s) := by
  unfold commitValues
  extract_lets +onlyGivenNames s1
  have h1 : Steady a s1 := by
    unfold s1
    refine .foldl (fun _ _ h2 => ?_) h
    split
    exact setPar_steady h2.same
  exact h1.same

/-! ### Ach -/

theorem updLane_steady {n f} (h : Steady a s) : Steady a (updLane n f s) :=
  h.same

theorem updLink_steady {l f} (h : Steady a s) : Steady a (updLink l f s) :=
  h.same

theorem updAch_steady {c f} (h : Steady a s) : Steady a (updAch c f s) :=
  h.same

theorem updCal_steady {r f} (h : Steady a s) : Steady a (updCal r f s) :=
  h.same

theorem updFeed_steady {h' f} (h : Steady a s) : Steady a (updFeed h' f s) :=
  h.same

theorem emit_steady {l m} (h : Steady a s) : Steady a (emit l m s) :=
  updLink_steady h

theorem stamp_steady {l typ payload} (h : Steady a s) : Steady a (stamp l typ payload s).2 :=
  updLink_steady h

theorem ccSend_steady {l typ payload} (h : Steady a s) : Steady a (ccSend l typ payload s) := by
  unfold ccSend
  split
  next _ t1 e1 =>
    have h1 : Steady a t1 := (stamp_steady h).of_pair e1
    split
    · exact emit_steady (updLink_steady h1)
    · exact updLink_steady h1

theorem ccNext_steady {l} (h : Steady a s) : Steady a (ccNext l s) := by
  unfold ccNext
  split
  · exact updLink_steady h
  · exact emit_steady (updLink_steady h)

theorem ccAck_steady {l typ seq status} (h : Steady a s) : Steady a (ccAck l typ seq status s) := by
  unfold ccAck
  split
  next _ t1 e1 =>
    have h1 : Steady a t1 := (stamp_steady h).of_pair e1
    exact emit_steady h1

theorem ccReceive_steady {l typ seq status} {act : State → State} (h : Steady a s)
    (ha : ∀ x, Steady a x → Steady a (act x)) : Steady a (ccReceive l typ seq status act s) := by
  have h1 := ccAck_steady (l := l) (typ := typ) (seq := seq) (status := status)
    (updLink_steady (l := l) (f := fun k => { k with lastRxSeq := some seq }) h)
  exact .ite h (.ite h1 (ha _ h1))

theorem setAch_steady {c st} (h : Steady a s) : Steady a (setAch c st s) := by
  unfold setAch
  refine .ite h ?_
  extract_lets +onlyGivenNames s1
  have h1 : Steady a s1 := updAch_steady h
  extract_lets +onlyGivenNames _ s2
  have h2 : Steady a s2 := .ite (updCal_steady h1) h1
  exact raise_steady h2

theorem recheckAch_steady {c} (h : Steady a s) : Steady a (recheckAch c s) :=
  .ite (setAch_steady h) h

theorem flagAch_steady {c} (h : Steady a s) : Steady a (flagAch c s) := by
  unfold flagAch
  extract_lets +onlyGivenNames s1
  have h1 : Steady a s1 := updAch_steady h
  exact recheckAch_steady (.ite (setAch_steady h1) h1)

theorem feedLost_steady {h'} (h : Steady a s) : Steady a (feedLost h' s) := by
  unfold feedLost
  refine .foldl (fun _ _ h1 => ?_) h
  extract_lets +onlyGivenNames s2
  have h2 : Steady a s2 := updAch_steady h1
  split
  · exact setAch_steady h2
  · exact setAch_steady h2
  · exact h2

theorem sourcePresent_steady {c} (h : Steady a s) : Steady a (sourcePresent c s) :=
  .ite (setAch_steady h) h

theorem execAchAbsentTimeout_inv {c} (h : s.Inv) : Ends (execAchAbsentTimeout c s) :=
  .next (.ite ((setAch_steady (.refl _)).inv h) h)

theorem frontendFault_inv {c cause} (h : s.Inv) : (frontendFault c cause s).Inv := by
  unfold frontendFault
  refine .ite h ?_
  refine .ite (admitFault_inv h) ?_
  extract_lets +onlyGivenNames _ _ _ s1
  have h1 : s1.Inv := (updAch_steady (.refl _)).inv (.ite h ((setAch_steady (.refl _)).inv h))
  extract_lets +onlyGivenNames s2
  have h2 : s2.Inv := (bump_steady (.refl _)).inv h1
  extract_lets +onlyGivenNames s3
  have h3 : s3.Inv := .ite ((raise_steady (.refl _)).inv h2) h2
  exact admitFault_inv h3

theorem execAchFrontendFault_inv {c cause} (h : s.Inv) : Ends (execAchFrontendFault c cause s) :=
  .next (frontendFault_inv h)

theorem achRecastDone_steady {c} (h : Steady a s) : Steady a (achRecastDone c s) :=
  .ite (setAch_steady (updAch_steady h)) h

theorem sendGain_steady {c g} (h : Steady a s) : Steady a (sendGain c g s) := by
  unfold sendGain
  split
  · exact h
  · split
    · exact h
    · exact ccSend_steady (updAch_steady h)

theorem sendAtten_steady {c v} (h : Steady a s) : Steady a (sendAtten c v s) := by
  unfold sendAtten
  split
  · exact h
  · split
    · exact h
    · exact ccSend_steady (updAch_steady h)

theorem sendTune_steady {l khz} (h : Steady a s) : Steady a (sendTune l khz s) := by
  unfold sendTune
  extract_lets +onlyGivenNames _ s1
  have h1 : Steady a s1 := ccSend_steady (updLink_steady h)
  exact .foldl (fun _ _ h2 => flagAch_steady h2) h1

theorem execGainControlTick_inv {c level} (h : s.Inv) : Ends (execGainControlTick c level s) := by
  unfold execGainControlTick
  refine .next ?_
  refine .ite h ?_
  refine .ite ?_ (.ite h (.ite h ((sendGain_steady (updAch_steady (.refl _))).inv h)))
  split
  · exact h
  · exact .ite h ((sendGain_steady (.refl _)).inv h)

theorem execGainAckDeadline_inv {c typ} (h : s.Inv) : Ends (execGainAckDeadline c typ s) := by
  unfold execGainAckDeadline
  refine .next ?_
  refine .ite (.ite ((raise_steady (updAch_steady (updAch_steady (.refl _)))).inv h) h) ?_
  refine .ite (.ite ((raise_steady (updAch_steady (updAch_steady (.refl _)))).inv h) h) ?_
  refine .ite ?_ h
  split
  · exact h
  · exact .ite (.foldl (fun _ _ h1 => (raise_steady (updAch_steady (.refl _))).inv h1)
      ((updLink_steady (.refl _)).inv h)) h

theorem execGainEffective_inv {c typ} (h : s.Inv) : Ends (execGainEffective c typ s) := by
  unfold execGainEffective
  refine .next ?_
  refine .ite ?_ ?_
  · split
    · exact .ite ((updAch_steady (.refl _)).inv h) h
    · exact h
  · refine .ite ?_ ?_
    · split
      · exact .ite ((updAch_steady (.refl _)).inv h) h
      · exact h
    · refine .ite ?_ h
      split
      · split
        · exact .ite ((updLink_steady (.refl _)).inv h) h
        · exact h
      · exact h

theorem execRxGainApplied_inv {l seq t gain} (h : s.Inv) : Ends (execRxGainApplied l seq t gain s) :=
  .next ((ccReceive_steady (.refl _) (fun _ h1 => .foldl (fun _ _ h2 => updAch_steady h2) h1)).inv h)

theorem execTelemetry_inv {l temps mv} (h : s.Inv) : Ends (execTelemetry l temps mv s) := by
  unfold execTelemetry
  refine .next ?_
  refine .ite h ?_
  extract_lets +onlyGivenNames s1
  have h1 : s1.Inv := (updLink_steady (.refl _)).inv h
  refine .foldl (fun _ _ h2 => ?_) h1
  extract_lets +onlyGivenNames _ _
  split
  · exact .ite ((updCal_steady (.refl _)).inv h2) h2
  · exact h2

theorem execCalPeriodExpiry_inv {r} (h : s.Inv) : Ends (execCalPeriodExpiry r s) :=
  .next (.ite ((updCal_steady (.refl _)).inv h) h)

theorem openWindow_steady {r best} (h : Steady a s) : Steady a (openWindow r best s) :=
  updCal_steady h

theorem execCalTurn_inv {r} (h : s.Inv) : Ends (execCalTurn r s) := by
  unfold execCalTurn
  refine .next ?_
  refine .ite h ?_
  split
  · exact h
  · exact (updCal_steady (.refl _)).inv h

theorem writeCoef_steady {c g l} (h : Steady a s) : Steady a (writeCoef c g l s) := by
  induction l generalizing g s with
  | nil => exact h
  | cons v l ih => exact ih (.ite (setBoth_steady h) h)

theorem execCalPassEnd_inv {r results} (h : s.Inv) : Ends (execCalPassEnd r results s) := by
  unfold execCalPassEnd
  refine .next ?_
  refine .ite h ?_
  split
  · exact h
  · extract_lets +onlyGivenNames _ _ _ _ s1
    have h1 : s1.Inv := by
      unfold s1
      refine .foldl (fun _ _ h2 => ?_) h
      split
      next _ t3 e3 =>
        have h3 : t3.Inv := ((drawBelow_steady (.refl _)).of_pair e3).inv h2
        extract_lets +onlyGivenNames _ s4
        have h4 : s4.Inv := (updAch_steady (writeCoef_steady (.refl _))).inv h3
        exact .ite ((setAch_steady (.refl _)).inv h4) h4
    extract_lets +onlyGivenNames s5
    have h5 : s5.Inv := by
      unfold s5
      refine .foldl (fun _ _ h6 => ?_) h1
      extract_lets +onlyGivenNames s7
      have h7 : s7.Inv := (bump_steady (raise_steady (.refl _))).inv h6
      exact .ite ((updCal_steady (.refl _)).inv h7) h7
    extract_lets +onlyGivenNames s8
    have h8 : s8.Inv := (updCal_steady (.refl _)).inv h5
    exact (raise_steady (.refl _)).inv h8

theorem execCalDeferTimeout_inv {r} (h : s.Inv) : Ends (execCalDeferTimeout r s) :=
  .next (.ite ((raise_steady (updCal_steady (.refl _))).inv h) h)

theorem applyAch_steady {c changed} (h : Steady a s) : Steady a (applyAch c changed s) := by
  unfold applyAch
  extract_lets +onlyGivenNames _ s1
  have h1 : Steady a s1 := .ite (.ite (setAch_steady (updAch_steady h)) h) (setAch_steady (updAch_steady h))
  extract_lets +onlyGivenNames s2
  have h2 : Steady a s2 := .ite (sendAtten_steady h1) h1
  exact .ite (flagAch_steady h2) h2

theorem switchedCal_steady {c} (h : Steady a s) : Steady a (switchedCal c s) :=
  .ite (setAch_steady (updAch_steady h)) h

/-! ### Feeds -/

theorem setFeed_wakes {h' st} (h : Wakes a s) : Wakes a (setFeed h' st s) := by
  unfold setFeed
  refine .ite h ?_
  extract_lets +onlyGivenNames s1
  have h1 : Wakes a s1 := (updFeed_steady (.refl _)).wakes h
  extract_lets +onlyGivenNames _ s2
  have h2 : Wakes a s2 := by
    unfold s2
    split <;> exact (raise_steady (.refl _)).wakes h1
  extract_lets +onlyGivenNames s3
  have h3 : Wakes a s3 := .ite ((feedLost_steady (.refl _)).wakes h2) h2
  exact .ite (wakeSource_wakes h3) h3

theorem applyFeed_wakes {h'} (h : Wakes a s) : Wakes a (applyFeed h' s) :=
  .ite (.ite (setFeed_wakes h) h) (setFeed_wakes h)

theorem applyFeeds_wakes (h : Wakes a s) : Wakes a (applyFeeds s) :=
  .foldl (fun _ _ h1 => applyFeed_wakes h1) h

theorem execFeedShort_inv {h' ma} (h : s.Inv) : Ends (execFeedShort h' ma s) := by
  unfold execFeedShort
  refine .next ?_
  refine .ite ?_ h
  extract_lets +onlyGivenNames s1
  have h1 : s1.Inv := (bump_steady (updFeed_steady (.refl _))).inv h
  exact .ite ((setFeed_wakes (.refl _)).inv h1) ((setFeed_wakes (.refl _)).inv ((updFeed_steady (.refl _)).inv h1))

theorem execFeedReversed_inv {h' mv} (h : s.Inv) : Ends (execFeedReversed h' mv s) := by
  unfold execFeedReversed
  refine .next ?_
  refine .ite ?_ h
  extract_lets +onlyGivenNames _ s1
  have h1 : s1.Inv := (setFeed_wakes (.refl _)).inv ((updFeed_steady (.refl _)).inv h)
  exact (updFeed_steady (.refl _)).inv h1

theorem execFeedAdcSample_inv {h' isns vsns mean} (h : s.Inv) : Ends (execFeedAdcSample h' isns vsns mean s) := by
  unfold execFeedAdcSample
  refine .next ?_
  refine .ite h ?_
  extract_lets +onlyGivenNames s1
  have h1 : s1.Inv := (updFeed_steady (.refl _)).inv h
  exact .ite ((setFeed_wakes (.refl _)).inv h1) (.ite ((setFeed_wakes (.refl _)).inv h1) h1)

theorem execFeedCheckEnd_inv {h'} (h : s.Inv) : Ends (execFeedCheckEnd h' s) :=
  .next (.ite ((setFeed_wakes (.refl _)).inv h) h)

theorem execFeedInrushEnd_inv {h' ma} (h : s.Inv) : Ends (execFeedInrushEnd h' ma s) :=
  .next (.ite ((setFeed_wakes (.refl _)).inv ((updFeed_steady (.refl _)).inv h)) h)

theorem execFeedBackoffEnd_inv {h'} (h : s.Inv) : Ends (execFeedBackoffEnd h' s) :=
  .next (.ite ((setFeed_wakes (.refl _)).inv h) h)

theorem execFeedReversedClear_inv {h'} (h : s.Inv) : Ends (execFeedReversedClear h' s) :=
  .next (.ite ((setFeed_wakes (.refl _)).inv h) h)

theorem execFeedRetryReset_inv {h'} (h : s.Inv) : Ends (execFeedRetryReset h' s) :=
  .next (.ite ((updFeed_steady (.refl _)).inv h) h)

/-! ### Link -/

theorem toHunt_steady {l} (h : Steady a s) : Steady a (toHunt l s) := by
  unfold toHunt
  extract_lets +onlyGivenNames _ s1
  have h1 : Steady a s1 := updLink_steady h
  refine .ite h1 ?_
  extract_lets +onlyGivenNames s2
  have h2 : Steady a s2 := .foldl (fun _ _ h3 => flagAch_steady (updAch_steady h3)) h1
  exact .foldl (fun _ _ h4 => updCal_steady h4) h2

theorem rehunt_steady {l} (h : Steady a s) : Steady a (rehunt l s) :=
  toHunt_steady (bump_steady h)

theorem linkLost_steady {l} (h : Steady a s) : Steady a (linkLost l s) :=
  toHunt_steady h

theorem enterSync_steady {l} (h : Steady a s) : Steady a (enterSync l s) := by
  unfold enterSync
  extract_lets +onlyGivenNames s1
  have h1 : Steady a s1 := updLink_steady h
  exact raise_steady h1

theorem setDefect_steady {l b e on extra} (h : Steady a s) : Steady a (setDefect l b e on extra s) :=
  .ite h (raise_steady (updLink_steady h))

theorem versionFault_steady {l why} (h : Steady a s) : Steady a (versionFault l why s) :=
  raise_steady (updLink_steady h)

theorem execLinkDefectPersist_inv {l defect declare} (h : s.Inv) : Ends
    (execLinkDefectPersist l defect declare s) := by
  unfold execLinkDefectPersist
  refine .next ?_
  refine .ite h ?_
  split
  · refine .ite h ?_
    extract_lets +onlyGivenNames s1
    have h1 : s1.Inv := (updLink_steady (.refl _)).inv h
    exact (setDefect_steady (.refl _)).inv h1
  · exact .ite ((setDefect_steady (.refl _)).inv h) h
  · exact .ite ((setDefect_steady (.refl _)).inv h) h
  · exact .ite ((setDefect_steady (.refl _)).inv h) h
  · exact h

theorem latchLink_steady {l} (h : Steady a s) : Steady a (latchLink l s) := by
  unfold latchLink
  extract_lets +onlyGivenNames _ _ s1
  have h1 : Steady a s1 := updLink_steady h
  exact .ite (setDefect_steady h1) (.ite (setDefect_steady h1) h1)

theorem latchLinks_steady (h : Steady a s) : Steady a (latchLinks s) := by
  unfold latchLinks
  extract_lets +onlyGivenNames s1
  have h1 : Steady a s1 := .foldl (fun _ _ k => latchLink_steady k) h
  clear_value s1
  have h2 : Steady a { s1 with radio := { s1.radio with tx := { s1.radio.tx with secMark := true } } } := h1.same
  refine .foldl (fun x c k => ?_) h2
  split
  next r u e =>
    have hu : Steady a u := (drawBelow_steady k).of_pair e
    split
    next n v e' => exact updAch_steady ((drawBelow_steady hu).of_pair e')

theorem standbyFault_steady {l slot} (h : Steady a s) : Steady a (standbyFault l slot s) :=
  .ite (ccSend_steady (updLink_steady h)) h

theorem deliverAch_steady {c f d} (h : Steady a s) : Steady a (deliverAch c f d s) := by
  unfold deliverAch
  refine .ite h ?_
  extract_lets +onlyGivenNames _ _ s1
  have h1 : Steady a s1 := bumpBy_steady (bumpBy_steady h)
  extract_lets +onlyGivenNames s2
  have h2 : Steady a s2 := updAch_steady h1
  exact .ite (sourcePresent_steady h2) h2

theorem rxMultiframe_steady {l} (h : Steady a s) : Steady a (rxMultiframe l s) :=
  .foldl (fun _ _ k => updAch_steady k) (.foldl (fun _ _ k => updAch_steady k) h)

theorem rdiFrame_steady {l rdi} (h : Steady a s) : Steady a (rdiFrame l rdi s) :=
  .ite (updLink_steady h) (.ite (updLink_steady h) (setDefect_steady (updLink_steady h)))

theorem deliverFrame_steady {l w lost content nbits bad cdc} (h : Steady a s) : Steady a
    (deliverFrame l w lost content nbits bad cdc s) := by
  unfold deliverFrame
  extract_lets +onlyGivenNames _
  split
  · exact h
  · extract_lets +onlyGivenNames s1
    have h1 : Steady a s1 := .ite (rxMultiframe_steady h) h
    extract_lets +onlyGivenNames _ _ _ _ _ s2
    have h2 : Steady a s2 := updLink_steady h1
    refine .foldl (fun _ _ h3 => ?_) h2
    split
    · exact h3
    · extract_lets +onlyGivenNames _ s4
      have h4 : Steady a s4 := .ite (fifoSlip_steady h3) h3
      exact deliverAch_steady h4

theorem execLinkFrameRx_inv {l syncErrs raw nbits bad slip cdc} (h : s.Inv) :
    Ends (execLinkFrameRx l syncErrs raw nbits bad slip cdc s) := by
  unfold execLinkFrameRx
  refine .next (Steady.inv (s := s) (.ite (.refl s) ?_) h)
  have h0 := Steady.refl s
  extract_lets +onlyGivenNames content word w crcOk
  split
  · exact .ite (updLink_steady h0) h0
  · have h1 := enterSync_steady (l := l) (updLink_steady (l := l)
      (f := fun k => { k with hits := k.hits + 1, fnum := w.fnum, rxMf := w.mf, verMax := w.verMax }) h0)
    exact .ite (.ite h1 (updLink_steady h0)) (toHunt_steady h0)
  · extract_lets +onlyGivenNames syncOk k s1 s2
    have h2 : Steady s s2 := .ite (fifoSlip_steady (updLink_steady (updLink_steady h0)))
      (updLink_steady (updLink_steady h0))
    refine .ite ?_ ?_
    · extract_lets +onlyGivenNames s3 s4
      have h4 : Steady s s4 := updLink_steady (deliverFrame_steady h2)
      exact .ite (raise_steady (rehunt_steady h4)) (.ite (rehunt_steady h4) h4)
    · extract_lets +onlyGivenNames s3 s4 s5
      have h3 : Steady s s3 := rdiFrame_steady h2
      have h4 : Steady s s4 := raise_steady (updLink_steady h3)
      have h5 : Steady s s5 := .ite h3 (.foldl (fun _ _ k => standbyFault_steady k) h4)
      extract_lets +onlyGivenNames agree s6
      have h6 : Steady s s6 := updLink_steady h5
      refine .ite (versionFault_steady (updLink_steady h6)) ?_
      extract_lets +onlyGivenNames s7 s8
      have h8 : Steady s s8 := updLink_steady (deliverFrame_steady h6)
      exact .ite (rehunt_steady h8) (.ite (rehunt_steady h8) h8)

theorem selectLayout_steady {l} (h : Steady a s) : Steady a (selectLayout l s) := by
  unfold selectLayout
  split
  · exact h
  · split
    · exact versionFault_steady h
    · exact ccSend_steady (updLink_steady h)

theorem execHeadId_inv {l seq h'} (h : s.Inv) : Ends (execHeadId l seq h' s) :=
  .next ((ccReceive_steady (.refl _) (fun _ h1 => selectLayout_steady (updLink_steady h1))).inv h)

theorem execLayoutAckDeadline_inv {l} (h : s.Inv) : Ends (execLayoutAckDeadline l s) := by
  unfold execLayoutAckDeadline
  refine .next ?_
  split
  · exact .ite h ((versionFault_steady (.refl _)).inv h)
  · exact h

theorem execLayoutEffect_inv {l} (h : s.Inv) : Ends (execLayoutEffect l s) := by
  unfold execLayoutEffect
  refine .next ?_
  split
  · refine .ite ?_ h
    extract_lets +onlyGivenNames s1
    have h1 : s1.Inv := (updLink_steady (.refl _)).inv h
    extract_lets +onlyGivenNames s2
    have h2 : s2.Inv := (reportVersion_steady (.refl _)).inv h1
    exact .ite ((raise_steady (.refl _)).inv h2) h2
  · exact h

theorem acked_steady {l m status} (h : Steady a s) : Steady a (acked l m status s) := by
  unfold acked
  extract_lets +onlyGivenNames _ _
  split
  · exact .ite (updLink_steady h) (versionFault_steady h)
  · exact updLink_steady h
  · refine .ite ?_ h
    split
    · exact updAch_steady h
    · exact h
  · refine .ite ?_ h
    split
    · exact updAch_steady h
    · exact h
  · exact .ite (updLink_steady h) h
  · exact h

theorem execAck_inv {l typ seq status} (h : s.Inv) : Ends (execAck l typ seq status s) := by
  unfold execAck
  refine .next ?_
  refine .ite h ?_
  split
  · refine .ite ?_ h
    extract_lets +onlyGivenNames s1
    have h1 : s1.Inv := (setDefect_steady (.refl _)).inv h
    exact (ccNext_steady (acked_steady (.refl _))).inv h1
  · exact h

theorem execEcho_inv {l seq token} (h : s.Inv) : Ends (execEcho l seq token s) := by
  unfold execEcho
  refine .next ?_
  refine .ite h ?_
  split
  · exact .ite ((ccNext_steady (setDefect_steady (.refl _))).inv h) ((emit_steady (.refl _)).inv h)
  · exact (emit_steady (.refl _)).inv h

theorem execCcReservedType_inv {l typ seq} (h : s.Inv) : Ends (execCcReservedType l typ seq s) :=
  .next ((ccReceive_steady (.refl _) (fun _ h1 => h1)).inv h)

theorem execCcRetryTimeout_inv {l} (h : s.Inv) : Ends (execCcRetryTimeout l s) := by
  unfold execCcRetryTimeout
  refine .next ?_
  split
  · exact .ite ((emit_steady (updLink_steady (.refl _))).inv h) ((ccNext_steady (setDefect_steady (.refl _))).inv h)
  · exact h

theorem execEchoPeriod_inv {l} (h : s.Inv) : Ends (execEchoPeriod l s) := by
  unfold execEchoPeriod
  refine .next ?_
  refine .ite h ?_
  split
  next _ t1 e1 =>
    have h1 : t1.Inv := ((drawBelow_steady (.refl _)).of_pair e1).inv h
    exact (ccSend_steady (.refl _)).inv h1

theorem execHeadAlarm_inv {l seq t cause det} (h : s.Inv) : Ends (execHeadAlarm l seq t cause det s) :=
  .next ((ccReceive_steady (.refl _) (fun _ h1 => standbyFault_steady h1)).inv h)

theorem execSpareSwitchEffect_inv {l} (h : s.Inv) : Ends (execSpareSwitchEffect l s) := by
  unfold execSpareSwitchEffect
  refine .next ?_
  split
  · exact h
  · extract_lets +onlyGivenNames s1
    have h1 : s1.Inv := (updLink_steady (.refl _)).inv h
    refine .ite h1 ?_
    split
    · exact h1
    · extract_lets +onlyGivenNames _ _ _ _ s2
      have h2 : s2.Inv := (setActive_steady (.refl _)).inv h1
      extract_lets +onlyGivenNames s3
      have h3 : s3.Inv := .ite ((setStandby_steady (.refl _)).inv h2) ((setStandby_steady (.refl _)).inv h2)
      extract_lets +onlyGivenNames s4
      have h4 : s4.Inv := (updLink_steady (.refl _)).inv h3
      extract_lets +onlyGivenNames s5
      have h5 : s5.Inv := (flagAch_steady (updAch_steady (.refl _))).inv h4
      exact (raise_steady (.refl _)).inv h5

theorem applyLink_steady {l layoutChanged} (h : Steady a s) : Steady a (applyLink l layoutChanged s) :=
  .ite (.ite (rehunt_steady h) (toHunt_steady h)) (.ite (selectLayout_steady h) h)

theorem switchedCmap_steady {old} (h : Steady a s) : Steady a (switchedCmap old s) :=
  .foldl (fun _ _ h1 => .ite h1 (flagAch_steady (updAch_steady h1))) h

/-! ### Lanes -/

theorem setLane_steady {n st} (h : Steady a s) : Steady a (setLane n st s) := by
  unfold setLane
  extract_lets +onlyGivenNames _ s1
  have h1 : Steady a s1 := updLane_steady h
  refine .ite ?_ (.ite (raise_steady h1) h1)
  extract_lets +onlyGivenNames s2
  have h2 : Steady a s2 := raise_steady h1
  exact .ite (linkLost_steady h2) h2

theorem setPolarity_steady {n f} (h : Steady a s) : Steady a (setPolarity n f s) := by
  unfold setPolarity
  extract_lets +onlyGivenNames s1
  have h1 : Steady a s1 := updLane_steady h
  exact .ite h1 (raise_steady h1)

theorem laneFault_steady {n why echo} (h : Steady a s) : Steady a (laneFault n why echo s) :=
  raise_steady (setLane_steady h)

theorem execLanePllLock_inv {n} (h : s.Inv) : Ends (execLanePllLock n s) :=
  .next (.ite ((setLane_steady (updLane_steady (.refl _))).inv h) h)

theorem execLanePllTimeout_inv {n} (h : s.Inv) : Ends (execLanePllTimeout n s) :=
  .next (.ite ((laneFault_steady (.refl _)).inv h) h)

theorem execLaneCdrLock_inv {n} (h : s.Inv) : Ends (execLaneCdrLock n s) :=
  .next (.ite ((setLane_steady (.refl _)).inv h) h)

theorem execLaneAcqTimeout_inv {n} (h : s.Inv) : Ends (execLaneAcqTimeout n s) :=
  .next (.ite ((bump_steady (.refl _)).inv h) h)

theorem trained_steady {n a' inv} (h : Steady a s) : Steady a (trained n a' inv s) := by
  unfold trained
  refine .ite (laneFault_steady h) ?_
  extract_lets +onlyGivenNames s1
  have h1 : Steady a s1 := updLane_steady h
  extract_lets +onlyGivenNames s2
  have h2 : Steady a s2 := .ite (raise_steady h1) h1
  extract_lets +onlyGivenNames s3
  have h3 : Steady a s3 := .ite (setPolarity_steady h2) h2
  exact setLane_steady h3

theorem markerGood_steady {n inverted echo inv} (h : Steady a s) : Steady a (markerGood n inverted echo inv s) := by
  unfold markerGood
  extract_lets +onlyGivenNames _
  split
  · extract_lets +onlyGivenNames _ s1
    have h1 : Steady a s1 := updLane_steady h
    refine .ite h1 ?_
    extract_lets +onlyGivenNames s2
    have h2 : Steady a s2 := .ite (setPolarity_steady h1) h1
    exact setLane_steady h2
  · extract_lets +onlyGivenNames s3
    have h3 : Steady a s3 := updLane_steady h
    exact .ite (trained_steady h3) h3
  · exact updLane_steady h
  · exact h

theorem markerMiss_steady {n} (h : Steady a s) : Steady a (markerMiss n s) := by
  unfold markerMiss
  extract_lets +onlyGivenNames _
  split
  · exact updLane_steady h
  · exact .ite (setLane_steady h) (updLane_steady h)
  · exact .ite (setLane_steady (bump_steady h)) (updLane_steady h)
  · exact h

theorem execLaneMarkerRx_inv {n raw} (h : s.Inv) : Ends (execLaneMarkerRx n raw s) := by
  unfold execLaneMarkerRx
  refine .next ?_
  refine .ite h ?_
  extract_lets +onlyGivenNames _ _
  split
  · exact (markerGood_steady (.refl _)).inv h
  · exact (markerMiss_steady (.refl _)).inv h

theorem execLaneTrainTimeout_inv {n} (h : s.Inv) : Ends (execLaneTrainTimeout n s) :=
  .next (.ite ((laneFault_steady (.refl _)).inv h) h)

theorem execLaneFaultExpiry_inv {n} (h : s.Inv) : Ends (execLaneFaultExpiry n s) :=
  .next (.ite ((setLane_steady (.refl _)).inv h) h)

theorem execLaneClockLoss_inv {n} (h : s.Inv) : Ends (execLaneClockLoss n s) := by
  unfold execLaneClockLoss
  refine .next ?_
  split
  · exact (setLane_steady (.refl _)).inv h
  · exact (setLane_steady (bump_steady (.refl _))).inv h
  · exact h

theorem execLanePcsLock_inv {n} (h : s.Inv) : Ends (execLanePcsLock n s) :=
  .next (.ite ((setLane_steady (.refl _)).inv h) h)

theorem execLanePcsLoss_inv {n} (h : s.Inv) : Ends (execLanePcsLoss n s) :=
  .next (.ite ((setLane_steady (bump_steady (.refl _))).inv h) h)

theorem execLanePolarityRetry_inv {n} (h : s.Inv) : Ends (execLanePolarityRetry n s) :=
  .next (.ite ((setPolarity_steady (.refl _)).inv h) h)

theorem runChecker_steady {n l} (h : Steady a s) : Steady a (runChecker n l s) := by
  unfold runChecker
  split
  exact bumpBy_steady (bumpBy_steady (updLane_steady h))

theorem execLaneCodewordRx_inv {n cw errs loop} (h : s.Inv) : Ends (execLaneCodewordRx n cw errs loop s) := by
  unfold execLaneCodewordRx
  refine .next ?_
  refine .ite h ?_
  extract_lets +onlyGivenNames _ _ _ _
  split
  extract_lets +onlyGivenNames s1
  have h1 : s1.Inv := (updLane_steady (.refl _)).inv h
  refine .ite (.ite ((runChecker_steady (.refl _)).inv h1) h1) ?_
  refine .ite h1 ?_
  extract_lets +onlyGivenNames _ _ _ s2
  have h2 : s2.Inv := .ite ((bump_steady (.refl _)).inv h1) (.ite h1 ((bumpBy_steady (bump_steady (.refl _))).inv h1))
  exact .ite ((runChecker_steady (.refl _)).inv h2) h2

theorem execLaneWakeTimeout_inv {n} (h : s.Inv) : Ends (execLaneWakeTimeout n s) :=
  .next (.ite ((raise_steady (bump_steady (updLane_steady (.refl _)))).inv h) h)

theorem applyLane_steady {n retrain} (h : Steady a s) : Steady a (applyLane n retrain s) :=
  .ite (updLane_steady (setLane_steady h)) (.ite (setLane_steady (updLane_steady h))
    (.ite (updLane_steady (setLane_steady h)) (.ite (updLane_steady (setLane_steady h)) h)))

theorem laneImmediate_steady {p n} (h : Steady a s) : Steady a (laneImmediate p n s) := by
  unfold laneImmediate
  refine .ite ?_ ?_
  · extract_lets +onlyGivenNames s1
    have h1 : Steady a s1 := .ite (updLane_steady h) h
    exact .ite (setLane_steady h1) (.ite (setLane_steady h1) h1)
  · refine .ite ?_ h
    extract_lets +onlyGivenNames _
    split
    · split
      next _ t2 e2 =>
        have h2 : Steady a t2 := (drawBelow_steady h).of_pair e2
        exact updLane_steady h2
    · split
      next _ t3 e3 =>
        have h3 : Steady a t3 := (drawBelow_steady h).of_pair e3
        exact updLane_steady h3
    · exact updLane_steady h

/-! ### Beam -/

theorem updBeam_steady {r f} (h : Steady a s) : Steady a (updBeam r f s) :=
  h.same

theorem updMould_steady {k f} (h : Steady a s) : Steady a (updMould k f s) :=
  h.same

theorem clearShadow_steady {r} (h : Steady a s) : Steady a (clearShadow r s) :=
  .foldl (fun _ _ h1 => updMould_steady h1) (updBeam_steady h)

theorem discardShadow_steady {r why err} (h : Steady a s) : Steady a (discardShadow r why err s) := by
  unfold discardShadow
  split
  · exact h
  · extract_lets +onlyGivenNames _ s1
    have h1 : Steady a s1 := clearShadow_steady h
    refine .ite h1 ?_
    extract_lets +onlyGivenNames s2
    have h2 : Steady a s2 := .ite (bump_steady h1) h1
    exact raise_steady h2

theorem popEntry_steady {k n e} (h : Steady a s) (he : popEntry k n s = some (e, t)) : Steady a t := by
  unfold popEntry at he
  split at he
  · split at he
    · cases he
      exact updMould_steady h
    · cases he
  · cases he

theorem readEntry_steady {k n} {f : Nat → State → State} (h : Steady a s)
    (hf : ∀ e x, Steady a x → Steady a (f e x)) : Steady a (readEntry k n f s) := by
  unfold readEntry
  refine .ite h ?_
  split
  next e t he => exact hf e t (popEntry_steady h he)
  next => exact h

theorem dropSet_steady {k id basis} (h : Steady a s) : Steady a (dropSet k id basis s) := by
  unfold dropSet
  extract_lets +onlyGivenNames _ _ s1
  have h1 : Steady a s1 := updBeam_steady (updMould_steady h)
  exact .ite (raise_steady (bump_steady h1)) h1

theorem setBegin_steady {k e} (h : Steady a s) : Steady a (setBegin k e s) := by
  unfold setBegin
  refine .ite (updBeam_steady h) ?_
  refine .ite (dropSet_steady h) ?_
  extract_lets +onlyGivenNames s1
  have h1 : Steady a s1 := discardShadow_steady h
  exact updBeam_steady h1

theorem weightEntry_steady {k e} (h : Steady a s) : Steady a (weightEntry k e s) := by
  unfold weightEntry
  extract_lets +onlyGivenNames _
  split
  · exact .ite (updBeam_steady (updMould_steady h)) h
  · exact h

theorem colmapEntry_steady {k e} (h : Steady a s) : Steady a (colmapEntry k e s) :=
  .ite h (updBeam_steady h)

theorem setEnd_steady {k e} (h : Steady a s) : Steady a (setEnd k e s) := by
  unfold setEnd
  refine .ite (updMould_steady h) ?_
  split
  · refine .ite h ?_
    refine .ite (raise_steady (discardShadow_steady h)) ?_
    extract_lets +onlyGivenNames _ s1
    have h1 : Steady a s1 := updBeam_steady h
    exact .ite (raise_steady (bump_steady h1)) h1
  · exact h

theorem confirmEntry_steady {k e} (h : Steady a s) : Steady a (confirmEntry k e s) := by
  unfold confirmEntry
  extract_lets +onlyGivenNames _ _
  split
  · exact .ite h (.ite (discardShadow_steady h) (updBeam_steady h))
  · exact h

theorem discardEntry_steady {k e} (h : Steady a s) : Steady a (discardEntry k e s) := by
  unfold discardEntry
  extract_lets +onlyGivenNames _
  split
  · exact .ite (discardShadow_steady h) h
  · exact h

theorem execSetBegin_inv {k} (h : s.Inv) : Ends (execSetBegin k s) :=
  .next ((readEntry_steady (.refl _) (fun _ _ h1 => setBegin_steady h1)).inv h)

theorem execWeightEntry_inv {k} (h : s.Inv) : Ends (execWeightEntry k s) :=
  .next ((readEntry_steady (.refl _) (fun _ _ h1 => weightEntry_steady h1)).inv h)

theorem execColmap_inv {k} (h : s.Inv) : Ends (execColmap k s) :=
  .next ((readEntry_steady (.refl _) (fun _ _ h1 => colmapEntry_steady h1)).inv h)

theorem execSetEnd_inv {k} (h : s.Inv) : Ends (execSetEnd k s) :=
  .next ((readEntry_steady (.refl _) (fun _ _ h1 => setEnd_steady h1)).inv h)

theorem execConfirm_inv {k} (h : s.Inv) : Ends (execConfirm k s) :=
  .next ((readEntry_steady (.refl _) (fun _ _ h1 => confirmEntry_steady h1)).inv h)

theorem execDiscard_inv {k} (h : s.Inv) : Ends (execDiscard k s) :=
  .next ((readEntry_steady (.refl _) (fun _ _ h1 => discardEntry_steady h1)).inv h)

theorem execSetLoadTimeout_inv {r} (h : s.Inv) : Ends (execSetLoadTimeout r s) := by
  unfold execSetLoadTimeout
  refine .next ?_
  split
  · exact .ite h ((bump_steady (discardShadow_steady (.refl _))).inv h)
  · exact h

theorem execUpdateLate_inv {r basis} (h : s.Inv) : Ends (execUpdateLate r basis s) :=
  .next (.ite h ((raise_steady (bump_steady (.refl _))).inv h))

theorem activate_steady {r w} (h : Steady a s) : Steady a (activate r w s) := by
  unfold activate
  extract_lets +onlyGivenNames _ s1
  have h1 : Steady a s1 := .foldl (fun _ _ h2 => updMould_steady h2) h
  extract_lets +onlyGivenNames s3
  have h3 : Steady a s3 := updBeam_steady h1
  exact bumpBy_steady (updBeam_steady h3)

theorem decideSwitch_steady {r} (h : Steady a s) : Steady a (decideSwitch r s) := by
  unfold decideSwitch
  split
  · exact h
  · refine .ite h (.ite (activate_steady h) (.ite (discardShadow_steady h) ?_))
    extract_lets round
    clear_value round
    split
    · exact .ite (raise_steady (bump_steady (activate_steady h))) (raise_steady (bump_steady h))
    · exact raise_steady (bump_steady h)

theorem applyBeam_steady {k ks} (h : Steady a s) : Steady a (applyBeam k ks s) :=
  .ite (discardShadow_steady h) h

theorem takeBeam_steady {r} (h : Steady a s) : Steady a (takeBeam r s) := by
  unfold takeBeam
  extract_lets +onlyGivenNames s1
  have h1 : Steady a s1 := switchWaiting_steady h
  refine finishCommits_steady ?_
  refine .foldl (fun _ _ h2 => ?_) h1
  split
  next _ t3 e3 =>
    have h3 : Steady a t3 := (unitTakes_steady (switchWaiting_steady h2)).of_pair e3
    exact applyBeam_steady h3

theorem execSwitchPoint_inv {r} (h : s.Inv) : Ends (execSwitchPoint r s) := by
  unfold execSwitchPoint
  refine .next ?_
  refine .ite h ?_
  extract_lets +onlyGivenNames s1
  have h1 : s1.Inv := (decideSwitch_steady (takeBeam_steady (.refl _))).inv h
  exact h1.same

theorem execChannelUnusable_inv {c} (h : s.Inv) : Ends (execChannelUnusable c s) := by
  unfold execChannelUnusable
  refine .next ?_
  refine .ite h ?_
  extract_lets +onlyGivenNames s1
  have h1 : s1.Inv := (raise_steady (bump_steady (.refl _))).inv h
  extract_lets +onlyGivenNames s2
  have h2 : s2.Inv := (updBeam_steady (.refl _)).inv h1
  split
  · exact .ite ((discardShadow_steady (.refl _)).inv h2) h2
  · exact h2

theorem emptyBanks_steady {r activeToo} (h : Steady a s) : Steady a (emptyBanks r activeToo s) := by
  unfold emptyBanks
  extract_lets +onlyGivenNames s1
  have h1 : Steady a s1 := clearShadow_steady (discardShadow_steady h)
  exact .ite (.foldl (fun _ _ h2 => updMould_steady h2) (updBeam_steady h1)) h1

theorem assayMismatch_inv {k rx t1 t2} (h : s.Inv) : (assayMismatch k rx t1 t2 s).Inv := by
  unfold assayMismatch
  extract_lets +onlyGivenNames s1
  have h1 : s1.Inv := (raise_steady (bump_steady (.refl _))).inv h
  extract_lets +onlyGivenNames _ s2
  have h2 : s2.Inv := (updMould_steady (.refl _)).inv h1
  refine .ite ?_ h2
  extract_lets +onlyGivenNames s3
  have h3 : s3.Inv := (updMould_steady (emptyBanks_steady (.refl _))).inv h2
  exact admitFault_inv ((bump_steady (.refl _)).inv h3)

theorem execSymbolAssay_inv {k rx T wrong residue} (h : s.Inv) : Ends (execSymbolAssay k rx T wrong residue s) := by
  unfold execSymbolAssay
  refine .next ?_
  refine .ite h ?_
  extract_lets +onlyGivenNames _
  split
  extract_lets +onlyGivenNames s1
  have h1 : s1.Inv := (updMould_steady (.refl _)).inv h
  extract_lets +onlyGivenNames s2
  have h2 : s2.Inv := .ite (assayMismatch_inv h1) h1
  exact .ite (.foldl (fun _ _ h3 => assayMismatch_inv h3) h2) h2

theorem execStaReportRefresh_inv {r figs nulls} (h : s.Inv) : Ends (execStaReportRefresh r figs nulls s) := by
  unfold execStaReportRefresh
  refine .next ?_
  split
  · exact h
  · extract_lets +onlyGivenNames _ s1
    have h1 : s1.Inv := by
      unfold s1
      refine .foldl (fun _ _ h2 => ?_) h
      split
      · exact h2
      · exact (setActive_steady (.refl _)).inv h2
    extract_lets +onlyGivenNames _ s3
    have h3 : s3.Inv := .foldl (fun _ _ h4 => (setActive_steady (.refl _)).inv h4) h1
    exact .foldl (fun _ _ h5 => .ite ((setActive_steady (.refl _)).inv h5) h5) h3

theorem execAoaDetection_inv {r u v snr sta} (h : s.Inv) : Ends (execAoaDetection r u v snr sta s) :=
  .next (.ite h ((updBeam_steady (.refl _)).inv h))

theorem latchAoa_steady {r} (h : Steady a s) : Steady a (latchAoa r s) := by
  unfold latchAoa
  extract_lets +onlyGivenNames _ s1
  have h1 : Steady a s1 := .foldl (fun _ _ h2 => setActive_steady h2) h
  exact updBeam_steady h1

/-! ### TollQ -/

theorem updTq_steady {q f} (h : Steady a s) : Steady a (updTq q f s) :=
  h.same

theorem updSched_steady {e f} (h : Steady a s) : Steady a (updSched e f s) :=
  h.same

theorem fillBuckets_steady {q} (h : Steady a s) : Steady a (fillBuckets q s) :=
  updTq_steady h

theorem debitBuckets_steady {q len} (h : Steady a s) : Steady a (debitBuckets q len s) := by
  unfold debitBuckets
  extract_lets +onlyGivenNames s1
  have h1 : Steady a s1 := fillBuckets_steady h
  exact updTq_steady h1

theorem refreshList_steady {e} (h : Steady a s) : Steady a (refreshList e s) := by
  unfold refreshList
  extract_lets +onlyGivenNames _ s1
  have h1 : Steady a s1 := .foldl (fun _ _ h2 => fillBuckets_steady h2) h
  exact updSched_steady h1

theorem dequeueFrom_steady {e ready} (h : Steady a s) : Steady a (dequeueFrom e ready s).2 := by
  unfold dequeueFrom
  extract_lets +onlyGivenNames s1
  have h1 : Steady a s1 := refreshList_steady h
  split
  · exact h1
  · split
    split
    · exact h1
    · extract_lets +onlyGivenNames _ _ s2
      have h2 : Steady a s2 := .ite (updSched_steady h1) h1
      extract_lets +onlyGivenNames _ s3
      have h3 : Steady a s3 := updSched_steady h2
      split
      · exact h3
      · split
        · exact updSched_steady h3
        · split
          · exact h3
          · extract_lets +onlyGivenNames s4
            have h4 : Steady a s4 := updTq_steady (debitBuckets_steady h3)
            extract_lets +onlyGivenNames s5
            have h5 : Steady a s5 := bumpBy_steady h4
            extract_lets +onlyGivenNames s6
            have h6 : Steady a s6 := updSched_steady h5
            extract_lets +onlyGivenNames s7
            have h7 : Steady a s7 := .ite (updSched_steady h6) (.ite h6 (updSched_steady h6))
            exact h7

theorem police_steady {n len} (h : Steady a s) : Steady a (police n len s).2 := by
  obtain ⟨unit, hu⟩ : ∃ unit, unit = byteUnit := ⟨_, rfl⟩
  rw [show police = delta% police by delta police; rfl, ← hu]
  exact h.same

theorem enqueue_steady {h' q} (h : Steady a s) : Steady a (enqueue h' q s) := by
  unfold enqueue
  refine .ite (free_steady (bump_steady h)) ?_
  extract_lets len n
  split
  next col t e =>
    have ht : Steady a t := by
      refine Steady.of_pair (Steady.ite_snd ?_ ?_) e
      · exact h
      · exact police_steady h
    extract_lets s1 depth s2
    have h1 : Steady a s1 := updWb_steady ht
    refine .ite (free_steady (bump_steady h1)) (.ite (free_steady (bump_steady h1))
      (.ite (free_steady (bump_steady h1)) ?_))
    exact .foldl (fun _ _ k => refreshList_steady k) (updTq_steady h1)

theorem execEnqueue_inv {h' q} (h : s.Inv) : Ends (execEnqueue h' q s) :=
  .next (.ite (.ite ((free_steady (.refl _)).inv h) (.ite ((free_steady (bump_steady (.refl _))).inv h)
    ((enqueue_steady (.refl _)).inv h))) h)

theorem flushQueue_steady {q} (h : Steady a s) : Steady a (flushQueue q s) := by
  unfold flushQueue
  extract_lets +onlyGivenNames _ s1
  have h1 : Steady a s1 := updTq_steady h
  extract_lets +onlyGivenNames s2
  have h2 : Steady a s2 := .foldl (fun _ _ h3 => free_steady h3) h1
  extract_lets +onlyGivenNames s4
  have h4 : Steady a s4 := .ite h2 (bumpBy_steady h2)
  exact .foldl (fun _ _ h5 => .ite (updSched_steady h5) h5) h4

theorem holdQueue_steady {q on} (h : Steady a s) : Steady a (holdQueue q on s) := by
  unfold holdQueue
  extract_lets +onlyGivenNames s1
  have h1 : Steady a s1 := updTq_steady h
  exact .foldl (fun _ _ h2 => refreshList_steady h2) h1

theorem breakGuarantee_steady {rank loser loserKind e o} (h : Steady a s) :
    Steady a (breakGuarantee rank loser loserKind e o s).2 := by
  unfold breakGuarantee
  extract_lets closed holder
  clear_value holder
  split
  · exact .ite_snd (raise_steady (bump_steady h)) h
  · exact h

/-! ### Classify -/

theorem learnFlow_steady {e} (h : Steady a s) (k : learnFlow e s = some t) : Steady a t := by
  unfold learnFlow at k
  split at k
  · cases k
  · cases k
    exact h.same

theorem countLookup_steady {hit} (h : Steady a s) : Steady a (countLookup hit s) := by
  unfold countLookup
  split
  next _ t1 e1 =>
    have h1 : Steady a t1 := (drawBelow_steady h).of_pair e1
    extract_lets +onlyGivenNames s2
    have h2 : Steady a s2 := bump_steady h1
    exact .ite (bump_steady h2) h2

theorem lookupFlow_steady {key} (h : Steady a s) : Steady a (lookupFlow key s).2 := by
  unfold lookupFlow
  split
  · exact countLookup_steady h
  · exact countLookup_steady h.same

theorem postException_steady {c h'} (h : Steady a s) : Steady a (postException c h' s) :=
  postHardware_steady (updWb_steady h)

theorem sendTo_steady {d h'} (h : Steady a s) : Steady a (sendTo d h' s) := by
  unfold sendTo
  split
  · exact free_steady h
  · exact updWb_steady h
  · exact postHardware_steady h
  · exact .ite (free_steady h) (.ite (free_steady (bump_steady h)) (enqueue_steady h))

theorem takeRoute_steady {h' v r} (h : Steady a s) : Steady a (takeRoute h' v r s).2 := by
  unfold takeRoute
  split
  · exact h
  · exact bump_steady h
  · exact updWb_steady h

theorem applyEntry_steady {i h' p v} (h : Steady a s) : Steady a (applyEntry i h' p v s).2 := by
  unfold applyEntry
  extract_lets +onlyGivenNames _ _ _ _ s1
  have h1 : Steady a s1 := updWb_steady h
  extract_lets +onlyGivenNames _
  split
  · exact updWb_steady h1
  · exact updWb_steady h1
  · exact takeRoute_steady h1
  · exact h1

theorem admitLearn_steady (h : Steady a s) : Steady a (admitLearn s).2 := by
  unfold admitLearn
  extract_lets +onlyGivenNames _
  split
  · exact h.same
  · exact h.same

theorem bridge_steady {x h' p v} (h : Steady a s) : Steady a (bridge x h' p v s).2 := by
  unfold bridge
  split
  next v' t e =>
    have ht : Steady a t := by
      refine Steady.of_pair ?_ e
      refine .ite_snd h ?_
      split
      next u k => exact (lookupFlow_steady h).of_pair k
      next i u k => exact applyEntry_steady ((lookupFlow_steady h).of_pair k)
    have h1 := lookupFlow_steady (key := macKey x.zone p.smac) ht
    refine .ite_snd ?_ h1
    exact admitLearn_steady h1

theorem applyRule_steady {a' cls h' p} (h : Steady a s) : Steady a (applyRule a' cls h' p s).2 := by
  unfold applyRule
  extract_lets +onlyGivenNames _ _ _
  split
  · exact h
  · exact h
  · exact h
  · exact bridge_steady h
  · exact takeRoute_steady h
  · split
    · exact h
    · split
      · next t1 e1 =>
          have h1 : Steady a t1 := (lookupFlow_steady h).of_pair e1
          exact h1
      · next _ t2 e2 =>
          have h2 : Steady a t2 := (lookupFlow_steady h).of_pair e2
          exact applyEntry_steady h2
  · split
    · exact h
    · split
      · exact h
      · split
        · next t3 e3 =>
            have h3 : Steady a t3 := (lookupFlow_steady h).of_pair e3
            exact h3
        · next _ t4 e4 =>
            have h4 : Steady a t4 := (lookupFlow_steady h).of_pair e4
            exact applyEntry_steady h4
  · exact h

theorem classify_steady {h' cls p} (h : Steady a s) : Steady a (classify h' cls p s) := by
  unfold classify
  extract_lets +onlyGivenNames _ _
  split
  · extract_lets +onlyGivenNames s1
    have h1 : Steady a s1 := bump_steady h
    extract_lets +onlyGivenNames _ s2
    have h2 : Steady a s2 := updWb_steady h1
    split
    · exact free_steady h2
    · exact postException_steady h2
    · exact sendTo_steady h2
  · extract_lets +onlyGivenNames _ s3
    have h3 : Steady a s3 := updWb_steady h
    split
    next _ t4 e4 =>
      have h4 : Steady a t4 := (applyRule_steady h3).of_pair e4
      extract_lets +onlyGivenNames _ _ s5
      have h5 : Steady a s5 := updWb_steady h4
      exact .ite (postException_steady h5) (sendTo_steady h5)

theorem parseAndClassify_steady {h' cls directed} (h : Steady a s) : Steady a
    (parseAndClassify h' cls directed s) := by
  unfold parseAndClassify
  extract_lets +onlyGivenNames _ _ _ _ _ _ _ _ s1
  have h1 : Steady a s1 := updWb_steady h
  extract_lets +onlyGivenNames _ s2
  have h2 : Steady a s2 := .ite (warnOnce_steady (bump_steady h1)) h1
  split
  · exact enqueue_steady h2
  · exact .ite (postException_steady (warnOnce_steady (bump_steady h2)))
      (.ite (postException_steady h2) (classify_steady h2))

theorem ingressWith_steady {pre : Nat → State → State} {x} (h : Steady a s)
    (hp : ∀ n y, Steady a y → Steady a (pre n y)) : Steady a (ingressWith pre x s).2 := by
  unfold ingressWith
  refine .ite_snd h ?_
  extract_lets s1 room
  have h1 : Steady a s1 := bump_steady h
  refine .ite_snd (bump_steady h1) ?_
  split
  next k u e => exact parseAndClassify_steady (hp _ _ (updWb_steady ((alloc_steady h1).of_pair e)))
  next u e => exact bump_steady ((alloc_steady h1).of_pair e)
  next u _ _ e => exact (alloc_steady h1).of_pair e

theorem ingress_steady {a'} (h : Steady a s) : Steady a (ingress a' s) :=
  ingressWith_steady h (fun _ _ h1 => h1)

theorem emitPacket_steady {port srcType srcInst q data} (h : Steady a s) :
    Steady a (emitPacket port srcType srcInst q data s).2 := by
  unfold emitPacket
  extract_lets room
  split
  next k u e => exact enqueue_steady (updWb_steady ((alloc_steady h).of_pair e))
  next u _ e => exact (alloc_steady h).of_pair e

/-! ### Packet -/

theorem execPacketIngress_inv {a'} (h : s.Inv) : Ends (execPacketIngress a' s) :=
  .next (.ite ((ingress_steady (.refl _)).inv h) h)

theorem copyTo_steady {h' q} (h : Steady a s) : Steady a (copyTo h' q s) := by
  unfold copyTo
  refine .ite (bump_steady h) ?_
  split
  next d t e =>
    have ht : Steady a t := by
      split at e
      next d' u k => cases e; exact (readPacket_steady h).of_pair k
      next u k => cases e; exact (readPacket_steady h).of_pair k
    refine .ite ht ?_
    split
    next k u e => exact sendTo_steady (updWb_steady ((alloc_steady ht).of_pair e))
    next u _ e => exact (alloc_steady ht).of_pair e

theorem replicate_steady {h'} (h : Steady a s) : Steady a (replicate h' s) := by
  unfold replicate
  extract_lets +onlyGivenNames _
  split
  · exact h
  · exact free_steady (.foldl (fun _ _ h1 => copyTo_steady h1) h)

theorem execReplication_inv {h'} (h : s.Inv) : Ends (execReplication h' s) :=
  .next ((replicate_steady (.refl _)).inv h)

theorem toHost_steady {c h'} (h : Steady a s) : Steady a (toHost c h' s) := by
  rw [show toHost = delta% toHost by delta toHost; rfl]
  beta_reduce
  extract_lets +onlyGivenNames rate
  split
  extract_lets +onlyGivenNames _ s1
  have h1 : Steady a s1 := h.same
  exact .ite (enqueue_steady (updWb_steady h1)) (free_steady (warnOnce_steady (bump_steady h1)))

theorem reinject_steady {h'} (h : Steady a s) : Steady a (reinject h' s) :=
  parseAndClassify_steady h

theorem learnBridge_steady {h'} (h : Steady a s) : Steady a (learnBridge h' s) := by
  unfold learnBridge
  extract_lets +onlyGivenNames _ _
  split
  · exact reinject_steady h
  · split
    · next t1 e1 =>
        have h1 : Steady a t1 := learnFlow_steady h e1
        exact reinject_steady h1
    · exact reinject_steady (warnOnce_steady (bump_steady h))

theorem freePort_steady {proto zone addr} (h : Steady a s) : Steady a (freePort proto zone addr s).2 := by
  unfold freePort
  extract_lets +onlyGivenNames _ _ _
  split
  next _ t1 e1 =>
    have h1 : Steady a t1 := (drawBelow_steady h).of_pair e1
    exact h1

theorem learnNapt_steady {h'} (h : Steady a s) : Steady a (learnNapt h' s) := by
  unfold learnNapt
  extract_lets +onlyGivenNames w x p addr
  split
  next port t e =>
    have ht : Steady a t := (freePort_steady h).of_pair e
    split
    · exact free_steady (warnOnce_steady (bump_steady ht))
    · split
      extract_lets +onlyGivenNames out icmp inn back done
      have hd : ∀ u, done = some u → Steady a u := fun u k => by
        obtain ⟨y, hy, hu⟩ := Option.bind_eq_some_iff.1 k
        exact learnFlow_steady (learnFlow_steady ht hy) hu
      clear_value done
      split
      next u => exact reinject_steady (hd u rfl)
      next => exact free_steady (warnOnce_steady (bump_steady ht))

theorem sendIcmp_steady {typ code h'} (h : Steady a s) : Steady a (sendIcmp typ code h' s) :=
  h.same

theorem handleTtl_steady {h'} (h : Steady a s) : Steady a (handleTtl h' s) := by
  rw [show handleTtl = delta% handleTtl by delta handleTtl; rfl]
  beta_reduce
  split
  extract_lets +onlyGivenNames _ s1
  have h1 : Steady a s1 := h.same
  exact free_steady (.ite (sendIcmp_steady h1) h1)

theorem handleMtu_steady {core h'} (h : Steady a s) : Steady a (handleMtu core h' s) := by
  unfold handleMtu
  refine .ite (free_steady (sendIcmp_steady h)) (free_steady (.foldl (fun x i k => ?_) h))
  extract_lets last f
  split
  next c u e =>
    have hu : Steady a u := (alloc_steady k).of_pair e
    extract_lets y room
    split
    · exact sendTo_steady (updWb_steady hu)
    · exact free_steady (bump_steady hu)
  next u _ e => exact (alloc_steady k).of_pair e

theorem handleSlow_steady {h'} (h : Steady a s) : Steady a (handleSlow h' s) := by
  unfold handleSlow
  extract_lets +onlyGivenNames _ _ _
  split
  next _ t1 e1 =>
    have h1 : Steady a t1 := (takeRoute_steady h).of_pair e1
    exact .ite (postException_steady h1) (sendTo_steady h1)

theorem handleFragment_steady {core h'} (h : Steady a s) : Steady a (handleFragment core h' s) := by
  unfold handleFragment
  extract_lets +onlyGivenNames w
  split
  · exact reinject_steady h
  · split
    · exact .ite (free_steady h) h.same
    · extract_lets +onlyGivenNames hs
      split
      · exact h.same
      · extract_lets +onlyGivenNames _ s1
        have h1 : Steady a s1 := .foldl (fun _ _ k => free_steady k) h.same
        split
        next c u e => exact reinject_steady (updWb_steady ((alloc_steady h1).of_pair e))
        next u _ e => exact (alloc_steady h1).of_pair e

theorem execFragmentReassemblyTimeout_inv {i} (h : s.Inv) : Ends (execFragmentReassemblyTimeout i s) :=
  .next (.ite h (.foldl (fun _ _ h1 => (free_steady (.refl _)).inv h1) h.same))

theorem droverException_steady {core h'} (h : Steady a s) : Steady a (droverException core h' s) := by
  unfold droverException
  extract_lets c
  clear_value c
  split
  · exact free_steady (bump_steady h)
  · exact toHost_steady h
  · split
    · exact .ite (learnNapt_steady h) (learnBridge_steady h)
    · exact handleTtl_steady h
    · exact handleMtu_steady h
    · exact handleSlow_steady h
    · exact handleFragment_steady h
    · exact free_steady h

theorem completeJob_steady {e status} (h : Steady a s) : Steady a (completeJob e status s) := by
  unfold completeJob
  split
  · exact h
  · extract_lets s1
    have h1 : Steady a s1 := .ite h (bump_steady h)
    refine retireJob_steady (.ite (.ite ?_ (.ite ?_ ?_)) h1)
    · exact sendTo_steady (updWb_steady h1)
    · exact droverException_steady h1
    · exact sendTo_steady h1

theorem execReinject_inv {n h'} (h : s.Inv) : Ends (execReinject n h' s) :=
  .next (.ite h (.ite ((badPtr_steady (.refl _)).inv h) (.ite ((reinject_steady (.refl _)).inv h)
    ((badFree_steady (.refl _)).inv h))))

theorem execFlowAgeing_inv {i} (h : s.Inv) : Ends (execFlowAgeing i s) :=
  .next (.ite h (.ite h.same (.ite h.same h)))

theorem advanceVersion_steady (h : Steady a s) : Steady a (advanceVersion s) :=
  h.same

theorem execVersionRetire_inv {v} (h : s.Inv) : Ends (execVersionRetire v s) :=
  .next h.same

theorem freeOwned_steady {port} (h : Steady a s) : Steady a (freeOwned port s) :=
  .ite h (bumpBy_steady (.foldl (fun _ _ h1 => free_steady h1) h))

theorem recastDrover_inv {n cause} (h : s.Inv) : (recastDrover n cause s).Inv := by
  unfold recastDrover
  extract_lets +onlyGivenNames _ s1
  have h1 : s1.Inv := (freeOwned_steady (returnBuffered_steady (dropJob_steady (.refl _)))).inv h
  extract_lets +onlyGivenNames _ s2
  have h2 : s2.Inv := (updRunner_steady (.refl _)).inv h1
  extract_lets +onlyGivenNames _ s3
  have h3 : s3.Inv := h2.same
  extract_lets +onlyGivenNames s4
  have h4 : s4.Inv := .ite ((raise_steady (.refl _)).inv h3) h3
  exact admitFault_inv h4

theorem execDroverWatchdog_inv {n} (h : s.Inv) : Ends (execDroverWatchdog n s) :=
  .next (.ite h (.ite ((serveWaiters_steady (.refl _)).inv (recastDrover_inv h)) h))

theorem clearPacketPath_steady (h : Steady a s) : Steady a (clearPacketPath s) := by
  unfold clearPacketPath
  extract_lets +onlyGivenNames _ _ s1
  have h1 : Steady a s1 := dropWaybillJobs_steady h
  extract_lets +onlyGivenNames s2
  have h2 : Steady a s2 := .ite h1 (bumpBy_steady h1)
  extract_lets +onlyGivenNames _ _ s3
  have h3 : Steady a s3 := h2.same
  exact .foldl (fun _ _ h4 => txOutcome_steady h4) h3

/-! ### Sprue -/

theorem updSprue_steady {n f} (h : Steady a s) : Steady a (updSprue n f s) :=
  h.same

theorem setChan_steady {c l} (h : Steady a s) : Steady a (setChan c l s) :=
  h.same

theorem writeSpace_steady {a' b} (h : Steady a s) : Steady a (writeSpace a' b s) := by
  unfold writeSpace
  extract_lets +onlyGivenNames _
  split
  · exact h.same
  · exact h.same
  · exact updEng_steady h
  · exact updEng_steady h
  · exact updWb_steady h
  · exact hostWrite_steady h
  · exact h

theorem freeBytes_steady {k} (h : Steady a s) : Steady a (freeBytes k s).2 :=
  h.same

theorem moveEntry_steady {n fw src dst len bad r} (h : Steady a s) : Steady a
    (moveEntry n fw src dst len bad r s).2 := by
  unfold moveEntry
  refine .ite_snd h (.ite_snd h ?_)
  extract_lets +onlyGivenNames ptr so d
  have hp : ∀ x ok y, Steady a y → Steady a (ptr x ok y) := fun x ok y k => .ite (badPtr_steady k) k
  refine .ite_snd (hp _ _ _ (hp _ _ _ h)) ?_
  extract_lets +onlyGivenNames hostSide bad'
  clear_value bad'
  split
  · split
    next b u e => exact writeSpace_steady ((freeBytes_steady h).of_pair e)
  · split
    exact writeSpace_steady h

theorem runList_steady {n fw u k x r} (h : Steady a s) : Steady a (runList n fw u k x r s).2 := by
  induction k generalizing x r s with
  | zero => exact h
  | succ k ih =>
    unfold runList
    refine .ite_snd h (.ite_snd h ?_)
    extract_lets +onlyGivenNames e i r' src last
    refine .ite_snd (.ite_snd h (.ite_snd h (ih h))) ?_
    split
    next y v e' =>
      have hv : Steady a v := (moveEntry_steady h).of_pair e'
      exact .ite_snd hv (ih hv)

theorem runTable_steady {n fw u x r} (h : Steady a s) : Steady a (runTable n fw u x r s).2 := by
  unfold runTable
  refine .ite_snd h (.ite_snd h (.ite_snd h (.ite_snd h (.ite_snd h ?_))))
  exact .foldl_snd (fun y i k => .ite_snd k (moveEntry_steady k)) h

theorem pushCompletion_steady {c status tag} (h : Steady a s) : Steady a (pushCompletion c status tag s) :=
  .ite (.ite (bump_steady h) (updSprue_steady h)) h.same

theorem execSprueRunStart_inv {n host u} (h : s.Inv) : Ends (execSprueRunStart n host u s) := by
  unfold execSprueRunStart
  extract_lets +onlyGivenNames e
  refine .next (.ite h ?_)
  split
  · exact h
  next k _ =>
    extract_lets +onlyGivenNames c x fw
    split
    next r v e' =>
      refine (updSprue_steady (Steady.of_pair ?_ e')).inv h
      exact .ite_snd (runTable_steady (.refl s)) (runList_steady (.refl s))

theorem execSprueRunComplete_inv {n err} (h : s.Inv) : Ends (execSprueRunComplete n err s) := by
  unfold execSprueRunComplete
  refine .next ?_
  split
  · exact h
  · extract_lets +onlyGivenNames _ _ s1
    have h1 : s1.Inv := (updSprue_steady (setChan_steady (.refl _))).inv h
    extract_lets +onlyGivenNames s2
    have h2 : s2.Inv := (bumpBy_steady (bump_steady (.refl _))).inv h1
    extract_lets +onlyGivenNames s3
    have h3 : s3.Inv := .ite ((bump_steady (.refl _)).inv h2) h2
    extract_lets +onlyGivenNames s4
    have h4 : s4.Inv := .ite ((raise_steady (.refl _)).inv h3) h3
    exact (pushCompletion_steady (.refl _)).inv h4

theorem stopSprue_steady {n} (h : Steady a s) : Steady a (stopSprue n s) := by
  unfold stopSprue
  extract_lets +onlyGivenNames _ _ _ s1
  have h1 : Steady a s1 := updSprue_steady h
  extract_lets +onlyGivenNames s2
  have h2 : Steady a s2 := .foldl (fun _ _ h3 => pushCompletion_steady
    (bump_steady (bump_steady (setChan_steady h3)))) h1
  exact .ite h2 (raise_steady h2)

theorem ladleDmaGo_steady {e k} (h : Steady a s) : Steady a (ladleDmaGo e k s) := by
  unfold ladleDmaGo
  extract_lets +onlyGivenNames n c slot x s1 done
  have h1 : Steady a s1 := bump_steady h
  have hd : ∀ st, Steady a (done st) := fun st => .ite (bump_steady h1) (updSprue_steady h1)
  clear_value slot
  split
  · exact hd 6
  · exact .ite (hd 6) (.ite (hd 5) (.ite (hd 8) (setChan_steady h)))

theorem firmwareDmaGo_steady {c a'} (h : Steady a s) : Steady a (firmwareDmaGo c a' s) := by
  unfold firmwareDmaGo
  refine .ite h ?_
  refine .ite ?_ ?_
  · extract_lets +onlyGivenNames s1
    have h1 : Steady a s1 := bump_steady h
    exact h1.same
  · refine .ite ?_ ?_
    · extract_lets +onlyGivenNames s2
      have h2 : Steady a s2 := bump_steady h
      exact h2.same
    · refine .ite ?_ (setChan_steady h)
      extract_lets +onlyGivenNames s3
      have h3 : Steady a s3 := bump_steady h
      exact h3.same

theorem dmaStatus_steady {e} (h : Steady a s) : Steady a (dmaStatus e s).2 := by
  unfold dmaStatus
  split
  · exact h
  · exact updSprue_steady h

/-! ### Store -/

theorem updDrive_steady {d f} (h : Steady a s) : Steady a (updDrive d f s) :=
  h.same

theorem updObj_steady {k f} (h : Steady a s) : Steady a (updObj k f s) :=
  h.same

theorem updStoreJob_steady {cid f} (h : Steady a s) : Steady a (updStoreJob cid f s) :=
  h.same

theorem endStoreJob_steady {cid} (h : Steady a s) : Steady a (endStoreJob cid s) :=
  h.same

theorem completeStore_steady {j st failed} (h : Steady a s) : Steady a (completeStore j st failed s) :=
  finish_steady (endStoreJob_steady h)

theorem failJobs_steady {d} (h : Steady a s) : Steady a (failJobs d s) :=
  .foldl (fun _ _ h1 => completeStore_steady h1) h

theorem setDrive_steady {d st why} (h : Steady a s) : Steady a (setDrive d st why s) := by
  unfold setDrive
  extract_lets +onlyGivenNames old
  refine .ite h ?_
  extract_lets +onlyGivenNames s1 s2 s3 _ s4
  have h2 : Steady a s2 := raise_steady (updDrive_steady h)
  have h3 : Steady a s3 := raise_steady h2
  have h4 : Steady a s4 := .ite h3.same h2
  exact .ite (failJobs_steady h4) h4

theorem enableDrive_steady {d} (h : Steady a s) : Steady a (enableDrive d s) := by
  unfold enableDrive
  refine .ite ?_ h
  extract_lets +onlyGivenNames s1
  have h1 : Steady a s1 := setDrive_steady h
  exact .ite (setDrive_steady h1) h1

theorem applyDriveEnable_steady {d} (h : Steady a s) : Steady a (applyDriveEnable d s) :=
  .ite (enableDrive_steady h) (setDrive_steady h)

theorem execDriveLinkUp_inv {d} (h : s.Inv) : Ends (execDriveLinkUp d s) := by
  unfold execDriveLinkUp
  refine .next ?_
  refine .ite h ?_
  extract_lets +onlyGivenNames s1
  have h1 : s1.Inv := (updDrive_steady (.refl _)).inv h
  exact .ite ((setDrive_steady (.refl _)).inv h1) h1

theorem failDrive_steady {d why} (h : Steady a s) : Steady a (failDrive d why s) := by
  unfold failDrive
  split
  · exact setDrive_steady h
  · exact setDrive_steady h
  · exact h

theorem execDriveInitDone_inv {d extents} (h : s.Inv) : Ends (execDriveInitDone d extents s) := by
  unfold execDriveInitDone
  refine .next ?_
  refine .ite h ?_
  extract_lets +onlyGivenNames s1
  have h1 : s1.Inv := (updDrive_steady (.refl _)).inv h
  extract_lets +onlyGivenNames _ _ _ _ _ s2
  have h2 : s2.Inv := h1.same
  exact (raise_steady (setDrive_steady (.refl _))).inv h2

theorem execDriveInitTimeout_inv {d} (h : s.Inv) : Ends (execDriveInitTimeout d s) :=
  .next (.ite ((failDrive_steady (.refl _)).inv h) h)

theorem execDriveLinkDown_inv {d} (h : s.Inv) : Ends (execDriveLinkDown d s) :=
  .next (.ite h ((failDrive_steady (updDrive_steady (.refl _))).inv h))

theorem execDriveFatalStatus_inv {d} (h : s.Inv) : Ends (execDriveFatalStatus d s) :=
  .next ((failDrive_steady (.refl _)).inv h)

theorem execNvmeTimeout_inv {d opcode} (h : s.Inv) : Ends (execNvmeTimeout d opcode s) := by
  unfold execNvmeTimeout
  refine .next ?_
  split
  · exact h
  · exact h
  · exact h
  · extract_lets +onlyGivenNames s1
    have h1 : s1.Inv := (raise_steady (bump_steady (.refl _))).inv h
    extract_lets +onlyGivenNames _ s2
    have h2 : s2.Inv := (updDrive_steady (.refl _)).inv h1
    exact .ite ((failDrive_steady (.refl _)).inv h2) h2

theorem withObj_inv {k} {f : Obj → Reply} (h : s.Inv) (hf : ∀ o, (f o).Keeps) : (withObj k s f).Keeps := by
  unfold withObj
  refine .ite (.now h) ?_
  split
  · exact .now h
  · exact .ite (.now h) (.ite (.now h) (hf _))

theorem storeInfo_inv (h : s.Inv) : (storeInfo s).Keeps :=
  .now h

theorem storeCreate_inv {p} (h : s.Inv) : (storeCreate p s).Keeps := by
  unfold storeCreate
  refine .ite (.now h) ?_
  refine .ite (.now h) ?_
  refine .ite (.now h) ?_
  split
  · exact .now h
  · exact .ite (.now h) (.ite (.now h) (.ite (.now ((raise_steady (.refl _)).inv h)) (.now h.same)))

theorem startStore_inv {j} (h : s.Inv) : (startStore j s).Keeps :=
  .now h.same

theorem storeWrite_inv {cid p} (h : s.Inv) : (storeWrite cid p s).Keeps :=
  withObj_inv h (fun _ => .ite (.now h) (.ite (.now h) (.ite (.now h)
    (.ite (.now h) (.ite (.now h) (.ite (.now h) (startStore_inv h)))))))

theorem storeIngest_inv {p} (h : s.Inv) : (storeIngest p s).Keeps :=
  withObj_inv h (fun _ => .ite (.now h) (.ite (.now h) (.ite (.ite (.now h.same) (.now h))
    (.ite (.now h) (.ite (.now h) (.now h.same))))))

theorem storeSeal_inv {cid p} (h : s.Inv) : (storeSeal cid p s).Keeps :=
  withObj_inv h (fun _ => .ite (.now h) (.ite (.now h) (startStore_inv h)))

theorem stopWrites_steady {k} (h : Steady a s) : Steady a (stopWrites k s) :=
  .foldl (fun _ _ h1 => completeStore_steady h1) h

theorem storeDelete_inv {cid p} (h : s.Inv) : (storeDelete cid p s).Keeps := by
  unfold storeDelete
  refine withObj_inv h (fun _ => ?_)
  extract_lets +onlyGivenNames s1
  have h1 : s1.Inv := (stopWrites_steady (.refl _)).inv h
  extract_lets +onlyGivenNames _ s2
  have h2 : s2.Inv := h1.same
  exact startStore_inv ((updObj_steady (.refl _)).inv h2)

theorem storeStat_inv {p} (h : s.Inv) : (storeStat p s).Keeps := by
  unfold storeStat
  split <;> exact .now h

theorem withRange_inv {p} {f : Obj → Nat → Nat → Reply} (h : s.Inv) (hf : ∀ o off len, (f o off len).Keeps) :
    (withRange p s f).Keeps :=
  withObj_inv h fun o => .ite (.now h) (.ite (.now h) (.ite (.now h) (hf o _ _)))

theorem storeRead_inv {cid p} (h : s.Inv) : (storeRead cid p s).Keeps :=
  withRange_inv h (fun _ _ _ => startStore_inv h)

theorem storeSplice_inv {tcp cid p} (h : s.Inv) : (storeSplice tcp cid p s).Keeps :=
  .ite (.now h) (withRange_inv h (fun _ _ _ => startStore_inv h))

theorem storeCancel_inv {p} (h : s.Inv) : (storeCancel p s).Keeps := by
  unfold storeCancel
  refine .ite (.now h) ?_
  split
  · exact .now h
  · split
    · exact .now h
    · exact .ite (.now h) (.now ((completeStore_steady (.refl _)).inv h))

theorem sealObj_steady {k} (h : Steady a s) : Steady a (sealObj k s) := by
  unfold sealObj
  extract_lets +onlyGivenNames s1
  have h1 : Steady a s1 := updObj_steady h
  extract_lets +onlyGivenNames _ s2
  have h2 : Steady a s2 := h1.same
  split
  · exact updDrive_steady h2
  · exact h2

theorem execNvmeCompletion_inv {d cid host} (h : s.Inv) : Ends (execNvmeCompletion d cid host s) := by
  unfold execNvmeCompletion
  refine .next ?_
  split
  · exact h
  · split
    · exact h
    · refine .ite h ?_
      split
      · extract_lets +onlyGivenNames _
        split
        · exact h
        · refine .ite h ?_
          extract_lets +onlyGivenNames s1
          have h1 : s1.Inv := (updObj_steady (.refl _)).inv h
          extract_lets +onlyGivenNames s2
          have h2 : s2.Inv := (bumpBy_steady (.refl _)).inv h1
          exact .ite ((completeStore_steady (.refl _)).inv h2) ((updStoreJob_steady (.refl _)).inv h2)
      · extract_lets +onlyGivenNames _ s3
        have h3 : s3.Inv := (bumpBy_steady (hostWrite_steady (.refl _))).inv h
        exact .ite ((completeStore_steady (.refl _)).inv h3) ((updStoreJob_steady (.refl _)).inv h3)
      · exact (bumpBy_steady (updStoreJob_steady (.refl _))).inv h
      · exact (bumpBy_steady (updStoreJob_steady (.refl _))).inv h
      · exact .ite h (.ite ((completeStore_steady (.refl _)).inv h)
          ((completeStore_steady (sealObj_steady (.refl _))).inv h))
      · exact (updStoreJob_steady (updDrive_steady (.refl _))).inv h

theorem execDeleteFinish_inv {cid} (h : s.Inv) : Ends (execDeleteFinish cid s) := by
  unfold execDeleteFinish
  refine .next ?_
  split
  · exact h
  · exact .ite h ((completeStore_steady (Steady.refl _).same).inv h)

theorem execSpliceSegment_inv {cid} (h : s.Inv) : Ends (execSpliceSegment cid s) := by
  unfold execSpliceSegment
  refine .next (Steady.inv (s := s) ?_ h)
  have h0 := Steady.refl s
  split
  · exact h0
  · split
    · exact h0
    · extract_lets +onlyGivenNames size tcp directed
      refine .ite h0 ?_
      extract_lets +onlyGivenNames last d next go room
      have hg : ∀ y, Steady s y → Steady s (go y) := fun y k => .ite (completeStore_steady k) (updStoreJob_steady k)
      split
      next k u e =>
        have hu : Steady s u := (alloc_steady h0).of_pair e
        exact hg _ (.ite (updWb_steady (updWb_steady (bump_steady hu)))
          (parseAndClassify_steady (updWb_steady (bump_steady hu))))
      next u e => exact bump_steady ((alloc_steady h0).of_pair e)
      next u _ _ e => exact hg _ (bump_steady ((alloc_steady h0).of_pair e))

theorem stopStore_steady (h : Steady a s) : Steady a (stopStore s) := by
  unfold stopStore
  extract_lets +onlyGivenNames _ _ s1
  have h1 : Steady a s1 := h.same
  refine .foldl (fun _ _ h2 => ?_) h1
  split
  · exact setDrive_steady h2
  · exact updDrive_steady h2
  · exact h2

/-! ### HostTx -/

theorem pushTx_steady {n w} (h : Steady a s) : Steady a (pushTx n w s) := by
  unfold pushTx
  extract_lets +onlyGivenNames s1
  have h1 : Steady a s1 := updRing_steady h
  exact flushTx_steady h1

theorem execTxPacketFetch_inv {n descs data err} (h : s.Inv) : Ends (execTxPacketFetch n descs data err s) := by
  unfold execTxPacketFetch
  refine .next (Steady.inv (s := s) (.ite (.refl s) ?_) h)
  have h0 := Steady.refl s
  extract_lets +onlyGivenNames total e mode ts w done
  refine .ite (pushTx_steady h0) (.ite (pushTx_steady h0) ?_)
  extract_lets +onlyGivenNames x pre
  split
  next st u k =>
    have hu : Steady s u := (ingressWith_steady h0 fun _ _ hy => pushTx_steady hy).of_pair k
    exact .ite hu (pushTx_steady hu)

/-! ### MacSec -/

theorem macsecTx_steady {n d} (h : Steady a s) : Steady a (macsecTx n d s).2 := by
  unfold macsecTx
  extract_lets +onlyGivenNames _
  split
  · exact h
  · extract_lets +onlyGivenNames _ _
    split
    · exact bump_steady h
    · extract_lets +onlyGivenNames _ s1
      have h1 : Steady a s1 := h.same
      extract_lets +onlyGivenNames s2
      have h2 : Steady a s2 := .ite (raise_steady h1) h1
      extract_lets +onlyGivenNames s3
      have h3 : Steady a s3 := .ite (raise_steady h2) h2
      exact h3

theorem macsecRx_steady {n d} (h : Steady a s) : Steady a (macsecRx n d s).2 := by
  unfold macsecRx
  extract_lets +onlyGivenNames e tagged fail
  have hf : Steady a fail.2 := bump_steady h
  refine .ite_snd (.ite_snd hf h) (.ite_snd (.ite_snd hf h) ?_)
  extract_lets +onlyGivenNames tci an sc enc hdrLen sci k highest pn hdr body plain key opened
  clear_value opened
  refine .ite_snd (.ite_snd hf h) ?_
  split
  · exact hf
  · exact .ite_snd (bump_steady h) h.same

theorem applyMacsec_steady {n old} (h : Steady a s) : Steady a (applyMacsec n old s) :=
  h.same

/-! ### Gpio -/

theorem setGpio_steady {g level} (h : Steady a s) : Steady a (setGpio g level s) := by
  unfold setGpio
  refine .ite h ?_
  extract_lets +onlyGivenNames s1
  have h1 : Steady a s1 := h.same
  exact .ite (raise_steady h1) h1

theorem driveGpio_steady {g} (h : Steady a s) : Steady a (driveGpio g s) := by
  unfold driveGpio
  split
  · exact setGpio_steady h
  · exact h

theorem driveGpios_steady (h : Steady a s) : Steady a (driveGpios s) :=
  .foldl (fun _ _ h1 => driveGpio_steady h1) h

theorem dropGpios_steady (h : Steady a s) : Steady a (dropGpios s) :=
  h.same

theorem execGpioEdge_inv {g level} (h : s.Inv) : Ends (execGpioEdge g level s) :=
  .next (.ite ((setGpio_steady (.refl _)).inv h) h)

/-! ### Eth -/

theorem updPort_steady {n f} (h : Steady a s) : Steady a (updPort n f s) :=
  h.same

theorem countStat_steady {n i k} (h : Steady a s) : Steady a (countStat n i k s) :=
  updPort_steady h

theorem snapshot_inv {p} (h : s.Inv) : (snapshot p s).Keeps :=
  .ite (.now h) (.ite (.now h) (.now (.ite (.foldl (fun _ _ h1 => (updPort_steady (.refl _)).inv h1) h) h)))

theorem dropFifo_steady {n} (h : Steady a s) : Steady a (dropFifo n s) := by
  unfold dropFifo
  extract_lets +onlyGivenNames _ s1
  have h1 : Steady a s1 := updSched_steady h
  exact .foldl (fun _ _ h2 => countStat_steady (free_steady h2)) h1

theorem execEthLinkChange_inv {n fault} (h : s.Inv) : Ends (execEthLinkChange n fault s) := by
  unfold execEthLinkChange
  refine .next ?_
  refine .ite h ?_
  extract_lets +onlyGivenNames _ s1
  have h1 : s1.Inv := (updPort_steady (.refl _)).inv h
  extract_lets +onlyGivenNames s2
  have h2 : s2.Inv := .ite ((countStat_steady (.refl _)).inv h1) (.ite ((countStat_steady (.refl _)).inv h1) h1)
  extract_lets +onlyGivenNames _ s3
  have h3 : s3.Inv := .ite h2 ((dropFifo_steady (.refl _)).inv h2)
  exact .ite h3 ((raise_steady (updPort_steady (.refl _))).inv h3)

theorem fillPort_steady {n} (h : Steady a s) : Steady a (fillPort n s) :=
  .foldl (fun _ _ h1 => fillBuckets_steady h1) h

theorem execEeeTxEntry_inv {n} (h : s.Inv) : Ends (execEeeTxEntry n s) := by
  unfold execEeeTxEntry
  extract_lets +onlyGivenNames s1
  have h1 : s1.Inv := (fillPort_steady (.refl _)).inv h
  refine .next ?_
  refine .ite h1 ?_
  refine .ite ((updPort_steady (.refl _)).inv h1) ?_
  refine .ite h1 ?_
  extract_lets +onlyGivenNames s2
  have h2 : s2.Inv := (updLane_steady (.refl _)).inv h1
  exact (countStat_steady (updPort_steady (.refl _))).inv h2

theorem wakeTx_steady {n} (h : Steady a s) : Steady a (wakeTx n s) := by
  unfold wakeTx
  extract_lets +onlyGivenNames _ s1
  have h1 : Steady a s1 := countStat_steady h
  extract_lets +onlyGivenNames s2
  have h2 : Steady a s2 := updLane_steady h1
  exact updPort_steady h2

theorem execEeeTxWake_inv {n} (h : s.Inv) : Ends (execEeeTxWake n s) := by
  unfold execEeeTxWake
  extract_lets +onlyGivenNames s1
  have h1 : s1.Inv := (fillPort_steady (.refl _)).inv h
  exact .next (.ite ((wakeTx_steady (.refl _)).inv h1) h1)

theorem execLpiGateWake_inv {n} (h : s.Inv) : Ends (execLpiGateWake n s) :=
  .next (.ite ((wakeTx_steady (.refl _)).inv h) h)

theorem rxLpi_steady {n on} (h : Steady a s) : Steady a (rxLpi n on s) :=
  .ite (countStat_steady (updPort_steady h)) (.ite (countStat_steady (updPort_steady h)) h)

theorem execEeeRxLpi_inv {p} (h : s.Inv) : Ends (execEeeRxLpi p s) :=
  .next (.ite ((rxLpi_steady (updLane_steady (.refl _))).inv h) h)

theorem execEeeRxWake_inv {p} (h : s.Inv) : Ends (execEeeRxWake p s) :=
  .next (.ite ((rxLpi_steady (updLane_steady (.refl _))).inv h) h)

theorem resolveTw_steady {n} (h : Steady a s) : Steady a (resolveTw n s) :=
  .ite h (raise_steady (updPort_steady h))

theorem lldpRx_steady {n d} (h : Steady a s) : Steady a (lldpRx n d s) := by
  unfold lldpRx
  refine .ite h ?_
  extract_lets +onlyGivenNames _
  split
  · exact resolveTw_steady (updPort_steady h)
  · exact h

theorem execLldpTtlExpiry_inv {n} (h : s.Inv) : Ends (execLldpTtlExpiry n s) := by
  unfold execLldpTtlExpiry
  refine .next ?_
  split
  · exact .ite ((resolveTw_steady (updPort_steady (.refl _))).inv h) h
  · exact h

theorem sendFrame_steady {n d} (h : Steady a s) : Steady a (sendFrame n d s) := by
  unfold sendFrame
  extract_lets +onlyGivenNames _ s1
  have h1 : Steady a s1 := updPort_steady h
  extract_lets +onlyGivenNames s2
  have h2 : Steady a s2 := countStat_steady (countStat_steady h1)
  exact countStat_steady h2

theorem execLldpTx_inv {n} (h : s.Inv) : Ends (execLldpTx n s) :=
  .next (.ite h ((sendFrame_steady (updPort_steady (.refl _))).inv h))

theorem stampLost_steady {n tx} (h : Steady a s) : Steady a (stampLost n tx s) :=
  warnOnce_steady (bump_steady h)

theorem rehandle_steady {r h' id} (h : Steady a s) : Steady a (rehandle r h' id s) :=
  updRing_steady h

theorem execEthFrameTxStart_inv {n} (h : s.Inv) : Ends (execEthFrameTxStart n s) := by
  unfold execEthFrameTxStart
  refine .next ?_
  refine .ite h ?_
  split
  · exact h
  · extract_lets +onlyGivenNames s1
    have h1 : s1.Inv := (updSched_steady (.refl _)).inv h
    extract_lets +onlyGivenNames _
    split
    · next t2 e2 =>
        have h2 : t2.Inv := ((macsecTx_steady (.refl _)).of_pair e2).inv h1
        exact (free_steady (.refl _)).inv h2
    · next _ t3 e3 =>
        have h3 : t3.Inv := ((macsecTx_steady (.refl _)).of_pair e3).inv h1
        extract_lets +onlyGivenNames s4
        have h4 : s4.Inv := (sendFrame_steady (.refl _)).inv h3
        refine .ite ((sendOff_steady (.refl _)).inv h4) ?_
        refine .ite ((sendOff_steady (stampLost_steady (.refl _))).inv h4) ?_
        extract_lets +onlyGivenNames _ s5
        have h5 : s5.Inv := by
          unfold s5
          split
          · exact (rehandle_steady (.refl _)).inv h4
          · exact h4
        extract_lets +onlyGivenNames _ _ s6
        have h6 : s6.Inv := (updPort_steady (Steady.refl _).same).inv h5
        exact (free_steady (updWb_steady (.refl _))).inv h6

theorem execPtpTimestamp_inv {n tx p wait} (h : s.Inv) : Ends (execPtpTimestamp n tx p wait s) := by
  unfold execPtpTimestamp
  refine .next ?_
  refine .ite h ?_
  extract_lets +onlyGivenNames _ _
  split
  refine .ite ?_ ?_
  · split
    · exact h
    · extract_lets +onlyGivenNames _ s1
      have h1 : s1.Inv := (countStat_steady (updPort_steady (.refl _))).inv h
      split
      · exact (txOutcome_steady (.refl _)).inv h1
      · exact h1
  · split
    · exact h
    · extract_lets +onlyGivenNames _ s2
      have h2 : s2.Inv := (countStat_steady (updPort_steady (.refl _))).inv h
      split
      · exact (updWb_steady (.refl _)).inv h2
      · exact h2

theorem execEthFrameRx_inv {n d fcsOk fifo} (h : s.Inv) : Ends (execEthFrameRx n d fcsOk fifo s) := by
  unfold execEthFrameRx
  refine .next ?_
  refine .ite h ?_
  refine .ite ((countStat_steady (.refl _)).inv h) ?_
  refine .ite ((countStat_steady (.refl _)).inv h) ?_
  refine .ite ((countStat_steady (.refl _)).inv h) ?_
  refine .ite ((countStat_steady (.refl _)).inv h) ?_
  refine .ite ((countStat_steady (.refl _)).inv h) ?_
  refine .ite ((countStat_steady (fifoSlip_steady (.refl _))).inv h) ?_
  extract_lets +onlyGivenNames s1
  have h1 : s1.Inv := (countStat_steady (countStat_steady (.refl _))).inv h
  extract_lets +onlyGivenNames s2
  have h2 : s2.Inv := (countStat_steady (countStat_steady (.refl _))).inv h1
  split
  · next t3 e3 =>
      have h3 : t3.Inv := ((macsecRx_steady (.refl _)).of_pair e3).inv h2
      exact h3
  · next _ t4 e4 =>
      have h4 : t4.Inv := ((macsecRx_steady (.refl _)).of_pair e4).inv h2
      extract_lets +onlyGivenNames s5
      have h5 : s5.Inv := (lldpRx_steady (.refl _)).inv h4
      extract_lets +onlyGivenNames _ _ s6
      have h6 : s6.Inv := .ite ((stampLost_steady (.refl _)).inv h5) h5
      exact (ingressWith_steady (.refl _) (fun _ _ h7 => .ite (updPort_steady h7) h7)).inv h6

/-! ### Time -/

theorem updTb_steady {t f} (h : Steady a s) : Steady a (updTb t f s) :=
  h.same

theorem tickTime_steady (h : Steady a s) : Steady a (tickTime s) := by
  unfold tickTime
  extract_lets +onlyGivenNames tb
  clear_value tb
  exact h.same

theorem stepTb_steady {t off} (h : Steady a s) : Steady a (stepTb t off s) :=
  raise_steady (updTb_steady h)

theorem resetTb_steady {t} (h : Steady a s) : Steady a (resetTb t s) :=
  raise_steady (updTb_steady h)

theorem trackTsf_steady (h : Steady a s) : Steady a (trackTsf s) :=
  .foldl (fun _ _ h1 => .ite h1 (updTb_steady h1)) h

theorem timeImmediate_steady {p t v} (h : Steady a s) : Steady a (timeImmediate p t v s) :=
  .ite (stepTb_steady h) (.ite (.ite (trackTsf_steady (resetTb_steady h)) h)
    (.ite (trackTsf_steady (updTb_steady h)) h))

theorem execPpsInEdge_inv {rising} (h : s.Inv) : Ends (execPpsInEdge rising s) := by
  unfold execPpsInEdge
  refine .next ?_
  refine .ite h ?_
  refine .ite ((bump_steady (.refl _)).inv h) ?_
  extract_lets +onlyGivenNames _ _ _ _ s1
  have h1 : s1.Inv := h.same
  extract_lets +onlyGivenNames s2
  have h2 : s2.Inv := .ite ((raise_steady (.refl _)).inv h1) h1
  refine .ite ?_ h2
  split
  next _ t3 e3 =>
    have h3 : t3.Inv := ((drawBelow_steady (.refl _)).of_pair e3).inv h2
    exact (trackTsf_steady (updTb_steady (.refl _))).inv h3

theorem execPpsInLoss_inv (h : s.Inv) : Ends (execPpsInLoss s) :=
  .next (.ite ((raise_steady (Steady.refl _).same).inv h) h)

theorem execPpsOutRise_inv (h : s.Inv) : Ends (execPpsOutRise s) :=
  .next (.ite h.same h)

theorem execPpsOutFall_inv (h : s.Inv) : Ends (execPpsOutFall s) :=
  .next (.ite h.same h)

/-! ### Air -/

theorem updWradio_steady {r f} (h : Steady a s) : Steady a (updWradio r f s) :=
  h.same

theorem updWsector_steady {k f} (h : Steady a s) : Steady a (updWsector k f s) :=
  h.same

theorem updSta_steady {k f} (h : Steady a s) : Steady a (updSta k f s) :=
  h.same

theorem holdStation_steady {k on} (h : Steady a s) : Steady a (holdStation k on s) :=
  .ite h (.foldl (fun _ _ h1 => holdQueue_steady h1) (updSta_steady h))

theorem setDoze_steady {k r doze} (h : Steady a s) : Steady a (setDoze k r doze s) := by
  unfold setDoze
  extract_lets +onlyGivenNames s1
  have h1 : Steady a s1 := updSta_steady h
  exact holdStation_steady h1

theorem nextPn_steady {slot} (h : Steady a s) : Steady a (nextPn slot s).2 :=
  h.same

theorem sendPpdu_steady {p} (h : Steady a s) : Steady a (sendPpdu p s) :=
  bump_steady h.same

theorem sendControl_steady {k kind} (h : Steady a s) : Steady a (sendControl k kind s) :=
  sendPpdu_steady h

theorem endTxop_steady {r} (h : Steady a s) : Steady a (endTxop r s) := by
  unfold endTxop
  extract_lets +onlyGivenNames s1
  have h1 : Steady a s1 := updWradio_steady h
  exact .foldl (fun _ _ h2 => updSta_steady h2) h1

theorem execChannelAccess_inv {r} (h : s.Inv) : Ends (execChannelAccess r s) := by
  unfold execChannelAccess
  extract_lets +onlyGivenNames s1
  have h1 : s1.Inv := (refreshList_steady (.refl _)).inv h
  refine .next ?_
  refine .ite h1 ?_
  extract_lets +onlyGivenNames _ s2
  have h2 : s2.Inv := (updWradio_steady (.refl _)).inv h1
  refine .ite ?_ h2
  split
  · exact (sendControl_steady (.refl _)).inv h2
  · exact h2

/-! ### Wlan -/

theorem firstSend_steady {h' sec sta} (h : Steady a s) : Steady a (firstSend h' sec sta s).2 := by
  unfold firstSend
  extract_lets +onlyGivenNames w s1
  have h1 : Steady a s1 := by
    unfold s1
    split
    · exact updWb_steady (txOutcome_steady h)
    · exact h
  extract_lets +onlyGivenNames key
  clear_value key
  split
  next pn u e =>
    refine Steady.of_pair ?_ e
    split
    · exact nextPn_steady h1
    · exact h1

theorem serveStation_steady {r k hs} (h : Steady a s) : Steady a (serveStation r k hs s).2 := by
  unfold serveStation
  extract_lets +onlyGivenNames limit sec old dead live s1 s2 again s3
  have h3 : Steady a s3 := updSta_steady (bumpBy_steady (.foldl (fun _ _ k => free_steady k) (bumpBy_steady h)))
  split
  next new u e =>
    refine updSta_steady (Steady.of_pair (Steady.foldl_snd (fun x i k => ?_) ?_) e)
    · exact updSta_steady (firstSend_steady k)
    · exact h3

theorem serveGroup_steady {sec hs} (h : Steady a s) : Steady a (serveGroup sec hs s).2 :=
  .foldl_snd (fun _ _ k => free_steady (firstSend_steady k)) h

theorem openEmlsr_steady {r k} (h : Steady a s) : Steady a (openEmlsr r k s) :=
  .ite (sendControl_steady (updSta_steady h)) h

theorem execTxInterval_inv {r x} (h : s.Inv) : Ends (execTxInterval r x s) := by
  unfold execTxInterval
  extract_lets +onlyGivenNames e fits
  refine .next (Steady.inv (s := s) (.ite (.refl s) ?_) h)
  extract_lets +onlyGivenNames users s1 out mine shared s2
  have h2 : Steady s s2 := updSched_steady (.foldl (fun _ _ k => openEmlsr_steady k) (.refl s))
  split
  next sent u e1 =>
    have hu : Steady s u := by
      refine Steady.of_pair (Steady.foldl_snd (fun y k hy => ?_) ?_) e1
      · exact serveStation_steady hy
      · exact h2
    split
    next grp v e2 =>
      have hv : Steady s v := (serveGroup_steady hu).of_pair e2
      extract_lets +onlyGivenNames secs s3 s4 s5
      have h3 : Steady s s3 := by
        refine .foldl (fun y k hy => ?_) hv
        exact .ite (fifoSlip_steady (sendPpdu_steady (updMould_steady hy))) (sendPpdu_steady (updMould_steady hy))
      have h5 : Steady s s5 := updBeam_steady (.ite (fifoSlip_steady h3) h3)
      exact .ite h5 (updWradio_steady h5)

theorem execSoundingRoundStart_inv {r ltfNs} (h : s.Inv) : Ends (execSoundingRoundStart r ltfNs s) := by
  unfold execSoundingRoundStart
  extract_lets +onlyGivenNames s1
  have h1 : s1.Inv := (refreshList_steady (.refl _)).inv h
  refine .next ?_
  refine .ite h1 ?_
  extract_lets +onlyGivenNames _ s2
  have h2 : s2.Inv := (updWradio_steady (.refl _)).inv h1
  refine .ite h2 ?_
  extract_lets +onlyGivenNames _ s3
  have h3 : s3.Inv := .foldl (fun _ _ h4 => (sendControl_steady (.refl _)).inv h4) h2
  exact (updWradio_steady (.refl _)).inv h3

theorem reportChannels_steady {r n x} (h : Steady a s) : Steady a (reportChannels r n x s) :=
  .foldl (fun _ _ h1 => .foldl (fun _ _ h2 => setBoth_steady h2) h1) h

theorem execRoundComplete_inv {r q} (h : s.Inv) : Ends (execRoundComplete r q s) := by
  unfold execRoundComplete
  refine .next ?_
  split
  · exact h
  · extract_lets +onlyGivenNames _ _ s1
    have h1 : s1.Inv := (updWradio_steady (.refl _)).inv h
    extract_lets +onlyGivenNames s2
    have h2 : s2.Inv := (updBeam_steady (.refl _)).inv h1
    refine .ite ?_ ?_
    · extract_lets +onlyGivenNames s3
      have h3 : s3.Inv := .ite ((updBeam_steady (.refl _)).inv h2) h2
      exact .foldl (fun _ _ h4 => (fifoSlip_steady (.refl _)).inv h4) h3
    · extract_lets +onlyGivenNames _ _ s5
      have h5 : s5.Inv := (updBeam_steady (.refl _)).inv h2
      extract_lets +onlyGivenNames s6
      have h6 : s6.Inv := (reportChannels_steady (.refl _)).inv h5
      exact (postRound_steady (Steady.refl _).same).inv h6

theorem mpduFail_steady {k tid kid replayed} (h : Steady a s) : Steady a (mpduFail k tid kid replayed s) :=
  .ite (warnOnce_steady (bump_steady h)) (warnOnce_steady (bump_steady h))

theorem openMpdu_steady {k m} (h : Steady a s) : Steady a (openMpdu k m s).2 := by
  unfold openMpdu
  extract_lets +onlyGivenNames v
  split
  · exact h
  · split
    · exact .pair (mpduFail_steady h)
    · exact .ite_snd (.pair (mpduFail_steady h)) (.ite_snd (.pair (mpduFail_steady h)) h.same)

theorem takeMpdu_steady {sec m} (h : Steady a s) : Steady a (takeMpdu sec m s) := by
  unfold takeMpdu
  extract_lets +onlyGivenNames _
  split
  · exact .ite (emitPacket_steady h) h
  · refine .ite (.ite (emitPacket_steady h) h) ?_
    split
    next _ t1 e1 =>
      have h1 : Steady a t1 := (openMpdu_steady h).of_pair e1
      refine .ite h1 ?_
      extract_lets +onlyGivenNames s2
      have h2 : Steady a s2 := setDoze_steady h1
      extract_lets +onlyGivenNames s3
      have h3 : Steady a s3 := by
        unfold s3
        split
        · exact updSta_steady h2
        · exact h2
      extract_lets +onlyGivenNames s4
      have h4 : Steady a s4 := bump_steady h3
      split
      · exact ingress_steady h4
      · exact emitPacket_steady h4
      · exact emitPacket_steady h4
      · exact holdStation_steady h4
      · exact .ite (holdStation_steady h4) h4
      · exact h4

theorem takeMpdus_steady {sec ms} (h : Steady a s) : Steady a (takeMpdus sec ms s) :=
  .foldl (fun _ _ h1 => takeMpdu_steady h1) h

theorem takeAck_steady {k hs} (h : Steady a s) : Steady a (takeAck k hs s) := by
  unfold takeAck
  extract_lets +onlyGivenNames _ s1
  have h1 : Steady a s1 := updSta_steady h
  exact .foldl (fun _ _ h2 => free_steady h2) (bumpBy_steady h1)

theorem finishAligned_steady {r} (h : Steady a s) : Steady a (finishAligned r s) :=
  bumpBy_steady h.same

theorem execPpduRx_inv {sec p} (h : s.Inv) : Ends (execPpduRx sec p s) := by
  unfold execPpduRx
  extract_lets +onlyGivenNames r
  refine .next (Steady.inv (s := s) (.ite (.refl s) ?_) h)
  extract_lets +onlyGivenNames drop s1
  have h1 : Steady s s1 := updMould_steady (updWsector_steady (.refl s))
  refine .ite h1 ?_
  extract_lets +onlyGivenNames s2
  have h2 : Steady s s2 := bump_steady h1
  refine .ite (fifoSlip_steady h2) (.ite h2 ?_)
  split
  next ms u e =>
    have hu : Steady s u := by
      split at e
      · cases e; exact fifoSlip_steady h2
      · cases e; exact h2
    extract_lets +onlyGivenNames heard s3 s4 s5
    have h5 : Steady s s5 :=
      takeMpdus_steady (.foldl (fun _ _ k => takeAck_steady k) (.foldl (fun _ _ k => updSta_steady k) hu))
    exact .ite (finishAligned_steady h5) h5

theorem execNewPreamble_inv {sec level solicited part} (h : s.Inv) : Ends
    (execNewPreamble sec level solicited part s) := by
  unfold execNewPreamble
  refine .next ?_
  refine .ite h ?_
  split
  · exact (updWsector_steady (.refl _)).inv h
  · refine .ite ((bump_steady (.refl _)).inv h) ?_
    refine .ite ?_ h
    extract_lets +onlyGivenNames s1
    have h1 : s1.Inv := (raise_steady (bump_steady (.refl _))).inv h
    exact (updWsector_steady (takeMpdus_steady (.refl _))).inv h1

theorem switchChannel_steady {r} (h : Steady a s) : Steady a (switchChannel r s) := by
  unfold switchChannel
  split
  next _ t1 e1 =>
    have h1 : Steady a t1 := (unitTakes_steady h).of_pair e1
    extract_lets +onlyGivenNames s2
    have h2 : Steady a s2 := updWradio_steady h1
    extract_lets +onlyGivenNames s3
    have h3 : Steady a s3 := .foldl (fun _ _ h4 => sendTune_steady h4) h2
    extract_lets +onlyGivenNames s5
    have h5 : Steady a s5 := emptyBanks_steady h3
    exact raise_steady (finishCommits_steady h5)

theorem startSwitch_steady {r} (h : Steady a s) : Steady a (startSwitch r s) :=
  .ite (switchChannel_steady h) (updWradio_steady h)

theorem checkBeaconsOnly_steady {r} (h : Steady a s) : Steady a (checkBeaconsOnly r s) :=
  .ite (updWradio_steady h) h

theorem execTbtt_inv {sec delayUs o} (h : s.Inv) : Ends (execTbtt sec delayUs o s) := by
  unfold execTbtt
  refine .next ?_
  refine .ite h ?_
  extract_lets +onlyGivenNames s1
  have h1 : s1.Inv := (updWsector_steady (.refl _)).inv h
  extract_lets +onlyGivenNames s2
  have h2 : s2.Inv := .ite ((endTxop_steady (.refl _)).inv h1) h1
  extract_lets +onlyGivenNames _ s3
  have h3 : s3.Inv := .ite ((switchChannel_steady (.refl _)).inv h2) h2
  split
  next _ t4 e4 =>
    have h4 : t4.Inv := ((unitTakes_steady (.refl _)).of_pair e4).inv
      ((switchWaiting_steady (switchWaiting_steady (.refl _))).inv h3)
    extract_lets +onlyGivenNames s5
    have h5 : s5.Inv := (finishCommits_steady (.refl _)).inv h4
    extract_lets +onlyGivenNames s6
    have h6 : s6.Inv := (checkBeaconsOnly_steady (.refl _)).inv h5
    extract_lets +onlyGivenNames _ s7
    have h7 : s7.Inv := .ite h6 ((updWradio_steady (.refl _)).inv h6)
    extract_lets +onlyGivenNames _ s8
    have h8 : s8.Inv := (updWsector_steady (.refl _)).inv h7
    extract_lets +onlyGivenNames _ _ _ _ s9
    have h9 : s9.Inv := (sendPpdu_steady (.refl _)).inv h8
    extract_lets +onlyGivenNames s10
    have h10 : s10.Inv := (updWradio_steady (.refl _)).inv h9
    refine .ite ?_ h10
    extract_lets +onlyGivenNames s11
    have h11 : s11.Inv := (raise_steady (bump_steady (.refl _))).inv h10
    exact (breakGuarantee_steady (.refl _)).inv h11

theorem execFilsDiscovery_inv {sec} (h : s.Inv) : Ends (execFilsDiscovery sec s) :=
  .next (.ite h ((sendControl_steady (updWsector_steady (.refl _))).inv h))

theorem execRestrictedSpStart_inv {sec i} (h : s.Inv) : Ends (execRestrictedSpStart sec i s) := by
  unfold execRestrictedSpStart
  refine .next ?_
  split
  · refine .ite h ?_
    extract_lets +onlyGivenNames _ _ s1
    have h1 : s1.Inv := .ite ((endTxop_steady (.refl _)).inv h) h
    exact (updWradio_steady (.refl _)).inv h1
  · exact h

theorem execRestrictedSpEnd_inv {sec i o} (h : s.Inv) : Ends (execRestrictedSpEnd sec i o s) := by
  unfold execRestrictedSpEnd
  refine .next ?_
  split
  · exact h
  · refine .ite h ?_
    extract_lets +onlyGivenNames _ s1
    have h1 : s1.Inv := (updWradio_steady (.refl _)).inv h
    exact .foldl (fun _ _ h2 => (breakGuarantee_steady (.refl _)).inv h2) h1

theorem execCalWindowGrant_inv {r best} (h : s.Inv) : Ends (execCalWindowGrant r best s) :=
  .next (.ite h ((openWindow_steady (.refl _)).inv (.foldl (fun _ _ h1 => (sendControl_steady (.refl _)).inv h1) h)))

theorem startSector_steady {sec} (h : Steady a s) : Steady a (startSector sec s) := by
  unfold startSector
  extract_lets +onlyGivenNames _ _ _ _ s1
  have h1 : Steady a s1 := trackTsf_steady (stepTb_steady h)
  exact updWsector_steady h1

theorem enableSector_steady {sec} (h : Steady a s) : Steady a (enableSector sec s) :=
  startSector_steady (resetTb_steady h)

theorem switchedSta_steady {old k} (h : Steady a s) : Steady a (switchedSta old k s) := by
  unfold switchedSta
  extract_lets +onlyGivenNames v was now s1 s2 s3 s4 s5 s6
  have h1 : Steady a s1 := .foldl (fun _ _ k => .foldl (fun _ _ k => .ite (updSched_steady k) k) k) h
  have h2 : Steady a s2 := .ite (.foldl (fun _ _ k => free_steady k) (updSta_steady h1)) h1
  have h3 : Steady a s3 := .foldl (fun _ _ k => .ite (flushQueue_steady k) k) h2
  have h5 : Steady a s5 := holdStation_steady (updSta_steady h3)
  have h6 : Steady a s6 := .ite h3 (raise_steady h5)
  exact .foldl (fun _ _ k => refreshList_steady k) h6

theorem latchSta_steady (h : Steady a s) : Steady a (latchSta s) :=
  h.same

theorem execLinkSecondLatch_inv (h : s.Inv) : Ends (execLinkSecondLatch s) := by
  unfold execLinkSecondLatch
  refine .next (.ite h ?_)
  extract_lets +onlyGivenNames s1
  have h1 : s1.Inv := (Steady.foldl (fun _ _ k => .ite (latchAoa_steady k) k)
    (latchSta_steady (latchLinks_steady (.refl s)))).inv h
  clear_value s1
  exact h1.same

theorem clearRadio_steady {r} (h : Steady a s) : Steady a (clearRadio r s) := by
  unfold clearRadio
  extract_lets +onlyGivenNames _ s1
  have h1 : Steady a s1 := updSched_steady h
  extract_lets +onlyGivenNames s2
  have h2 : Steady a s2 := .foldl (fun _ _ h3 => free_steady h3) h1
  extract_lets +onlyGivenNames s4
  have h4 : Steady a s4 := updWradio_steady h2
  exact .foldl (fun _ _ h5 => updWsector_steady h5) h4

/-! ### Pon -/

theorem updPon_steady {f} (h : Steady a s) : Steady a (updPon f s) :=
  h.same

theorem setPonKey_steady {n k} (h : Steady a s) : Steady a (setPonKey n k s) :=
  h.same

theorem deriveKeys_steady (h : Steady a s) : Steady a (deriveKeys s) :=
  .foldl (fun _ _ h1 => setPonKey_steady h1) h

theorem ponDefect_steady {b e on} (h : Steady a s) : Steady a (ponDefect b e on s) :=
  .ite h (raise_steady (updPon_steady h))

theorem setOmcc_steady (h : Steady a s) : Steady a (setOmcc s) :=
  setBoth_steady h

theorem releaseOnu_steady (h : Steady a s) : Steady a (releaseOnu s) := by
  unfold releaseOnu
  extract_lets +onlyGivenNames s1
  have h1 : Steady a s1 := updPon_steady h
  exact setOmcc_steady (setPonKey_steady (setPonKey_steady h1))

theorem setOnu_steady {st} (h : Steady a s) : Steady a (setOnu st s) := by
  unfold setOnu
  extract_lets +onlyGivenNames old
  refine .ite h ?_
  extract_lets +onlyGivenNames s1 s2 _ s3
  have h2 : Steady a s2 := .ite (ponDefect_steady (updPon_steady h)) (updPon_steady h)
  have h3 : Steady a s3 := by
    unfold s3
    split
    · exact updPon_steady (releaseOnu_steady h2)
    · exact updPon_steady (releaseOnu_steady h2)
    · exact deriveKeys_steady h2
    · exact ponDefect_steady h2
    · exact raise_steady h2.same
    · exact h2
  exact raise_steady h3

theorem settleOnu_steady (h : Steady a s) : Steady a (settleOnu s) := by
  unfold settleOnu
  extract_lets +onlyGivenNames s1
  have h1 : Steady a s1 := by
    unfold s1
    refine .ite ?_ h
    split
    · exact setOnu_steady h
    · exact setOnu_steady h
    · exact h
  exact .ite (setOnu_steady h1) h1

theorem ponSyncLost_steady (h : Steady a s) : Steady a (ponSyncLost s) := by
  unfold ponSyncLost
  split
  · exact setOnu_steady h
  · exact setOnu_steady h
  · exact setOnu_steady h
  · exact setOnu_steady h
  · exact h

theorem ponHunt_steady (h : Steady a s) : Steady a (ponHunt s) := by
  unfold ponHunt
  extract_lets +onlyGivenNames _ s1
  have h1 : Steady a s1 := updPon_steady h
  exact .ite (ponSyncLost_steady h1) h1

theorem ponStart_steady (h : Steady a s) : Steady a (ponStart s) := by
  unfold ponStart
  extract_lets +onlyGivenNames s1
  have h1 : Steady a s1 := setOnu_steady (ponHunt_steady h)
  extract_lets +onlyGivenNames s2
  have h2 : Steady a s2 := updPon_steady h1
  exact .ite h2 (settleOnu_steady (setOnu_steady h2))

theorem ponRecast_steady (h : Steady a s) : Steady a (ponRecast s) := by
  unfold ponRecast
  extract_lets +onlyGivenNames _ s1
  have h1 : Steady a s1 := .foldl (fun _ _ h2 => free_steady h2) h
  extract_lets +onlyGivenNames s3
  have h3 : Steady a s3 := updPon_steady h1
  extract_lets +onlyGivenNames s4
  have h4 : Steady a s4 := by
    unfold s4
    split
    · exact setOnu_steady h3
    · exact h3
  exact ponHunt_steady h4

theorem takeBcastKeys_steady (h : Steady a s) : Steady a (takeBcastKeys s) :=
  .foldl (fun _ _ h1 => .ite (setPonKey_steady h1) (setPonKey_steady h1)) h

theorem takeTod_steady (h : Steady a s) : Steady a (takeTod s) := by
  unfold takeTod
  exact updPon_steady h

theorem takePon_steady (h : Steady a s) : Steady a (takePon s) := by
  unfold takePon
  extract_lets +onlyGivenNames s1
  have h1 : Steady a s1 := switchWaiting_steady (switchWaiting_steady h)
  extract_lets +onlyGivenNames s2
  have h2 : Steady a s2 := .ite (takeBcastKeys_steady (switchWaiting_steady h1)) h1
  extract_lets +onlyGivenNames s3
  have h3 : Steady a s3 := .ite (takeTod_steady (switchWaiting_steady h2)) h2
  split
  next _ t4 e4 =>
    have h4 : Steady a t4 := (unitTakes_steady h3).of_pair e4
    extract_lets +onlyGivenNames s5
    have h5 : Steady a s5 := .ite (ponStart_steady h4) h4
    extract_lets +onlyGivenNames s6
    have h6 : Steady a s6 := .ite (updPon_steady h5) h5
    exact finishCommits_steady h6

theorem rogueClear_steady (h : Steady a s) : Steady a (rogueClear s) :=
  .ite h (ponDefect_steady h)

theorem sendPloam_steady {m} (h : Steady a s) : Steady a (sendPloam m s) :=
  updPon_steady h

theorem setWatch_steady {w} (h : Steady a s) : Steady a (setWatch w s) :=
  updPon_steady h

theorem wakeWatch_steady (h : Steady a s) : Steady a (wakeWatch s) :=
  sendPloam_steady (setWatch_steady h)

theorem watchStimulus_steady (h : Steady a s) : Steady a (watchStimulus s) := by
  unfold watchStimulus
  refine .ite h ?_
  split
  · exact updPon_steady h
  · exact setWatch_steady h
  · exact wakeWatch_steady h
  · exact h

theorem execPsIntervalExpiry_inv {which} (h : s.Inv) : Ends (execPsIntervalExpiry which s) := by
  unfold execPsIntervalExpiry
  refine .next ?_
  refine .ite h ?_
  split
  · exact .ite ((setWatch_steady (.refl _)).inv h) h
  · exact .ite h ((sendPloam_steady (setWatch_steady (.refl _))).inv h)
  · exact (setWatch_steady (.refl _)).inv h
  · exact .ite ((wakeWatch_steady (.refl _)).inv h) ((setWatch_steady (.refl _)).inv h)
  · exact h

theorem ploamIn_steady {mic} {act : State → State} (h : Steady a s) (ha : ∀ x, Steady a x → Steady a (act x)) :
    Steady a (ploamIn mic act s) :=
  .ite h (.ite (bump_steady h) (ha _ h))

theorem ploamAck_steady {directed seq c} (h : Steady a s) : Steady a (ploamAck directed seq c s) :=
  .ite (sendPloam_steady h) h

theorem execBurstProfile_inv {mic directed seq i p} (h : s.Inv) : Ends (execBurstProfile mic directed seq i p s) :=
  .next ((ploamIn_steady (.refl _) (fun _ h1 => .ite h1 (ploamAck_steady (settleOnu_steady (updPon_steady h1))))).inv
    h)

theorem execAssignOnuId_inv {mic id vendor serial} (h : s.Inv) : Ends (execAssignOnuId mic id vendor serial s) :=
  .next ((ploamIn_steady (.refl _) (fun _ h1 => .ite (setOnu_steady (setOmcc_steady (updPon_steady h1))) h1)).inv h)

theorem execRangingTime_inv {mic directed seq relative v} (h : s.Inv) : Ends
    (execRangingTime mic directed seq relative v s) :=
  .next ((ploamIn_steady (.refl _) (fun _ h1 => .ite (ploamAck_steady (setOnu_steady (updPon_steady h1))) h1)).inv h)

theorem execDeactivateOnuId_inv {mic} (h : s.Inv) : Ends (execDeactivateOnuId mic s) :=
  .next ((ploamIn_steady (.refl _) (fun _ h1 => .ite (setOnu_steady h1) h1)).inv h)

theorem execDisableSerialNumber_inv {mic disable sn} (h : s.Inv) : Ends (execDisableSerialNumber mic disable sn s) :=
  .next ((ploamIn_steady (.refl s) fun _ k =>
    .ite k (.ite (setOnu_steady k) (.ite (settleOnu_steady (setOnu_steady k.same)) k))).inv h)

theorem execRequestRegistration_inv {mic} (h : s.Inv) : Ends (execRequestRegistration mic s) :=
  .next ((ploamIn_steady (.refl _) (fun _ h1 => .ite h1 (sendPloam_steady h1))).inv h)

theorem execAssignAllocId_inv {mic seq allocId assign} (h : s.Inv) : Ends
    (execAssignAllocId mic seq allocId assign s) := by
  refine .next ((ploamIn_steady (.refl s) fun _ k => .ite k ?_).inv h)
  extract_lets +onlyGivenNames held
  clear_value held
  split
  · exact ploamAck_steady (.ite k (updPon_steady k))
  · exact ploamAck_steady k
  · exact ploamAck_steady k
  · split
    · exact ploamAck_steady (updPon_steady k)
    · exact raise_steady (ploamAck_steady k)

theorem execKeyControl_inv {mic i} (h : s.Inv) : Ends (execKeyControl mic i s) := by
  refine .next ((ploamIn_steady (.refl s) fun _ k => .ite k ?_).inv h)
  split
  next u e => exact (drawRandom_steady k).of_pair e
  next x u e => exact sendPloam_steady (setPonKey_steady ((drawRandom_steady k).of_pair e))

theorem execSleepAllow_inv {mic on} (h : s.Inv) : Ends (execSleepAllow mic on s) := by
  refine .next ((ploamIn_steady (.refl s) fun x k => ?_).inv h)
  have h1 : Steady s (updPon (fun y => { y with allow := on }) x) := updPon_steady k
  refine .ite h1 ?_
  split
  · exact .ite (setWatch_steady h1) h1
  · exact setWatch_steady h1
  · exact wakeWatch_steady h1
  · exact h1

theorem execUnsupportedPloam_inv {mic seq} (h : s.Inv) : Ends (execUnsupportedPloam mic seq s) :=
  .next ((ploamIn_steady (.refl _) (fun _ h1 => ploamAck_steady h1)).inv h)

theorem execTo1Expiry_inv (h : s.Inv) : Ends (execTo1Expiry s) :=
  .next (.ite (.ite ((setOnu_steady (.refl _)).inv h) ((setOnu_steady (.refl _)).inv h)) h)

theorem execTo2Expiry_inv (h : s.Inv) : Ends (execTo2Expiry s) :=
  .next (.ite ((setOnu_steady (.refl _)).inv h) h)

theorem ponInSync_steady (h : Steady a s) : Steady a (ponInSync s) := by
  unfold ponInSync
  extract_lets +onlyGivenNames s1
  have h1 : Steady a s1 := updPon_steady h
  split
  next _ t2 e2 =>
    have h2 : Steady a t2 := (drawBelow_steady h1).of_pair e2
    extract_lets +onlyGivenNames s3
    have h3 : Steady a s3 := updTb_steady h2
    extract_lets +onlyGivenNames s4
    have h4 : Steady a s4 := .ite (raise_steady (updPon_steady h3)) h3
    exact settleOnu_steady h4

theorem applyTod_steady (h : Steady a s) : Steady a (applyTod s) := by
  unfold applyTod
  split
  · exact h
  · refine .ite h ?_
    extract_lets +onlyGivenNames _ _ _ s1
    have h1 : Steady a s1 := updPon_steady h
    extract_lets +onlyGivenNames s2
    have h2 : Steady a s2 := by
      unfold s2
      refine .ite ?_ (stepTb_steady h1)
      split
      next _ t3 e3 =>
        have h3 : Steady a t3 := (drawBelow_steady h1).of_pair e3
        exact updTb_steady h3
    exact raise_steady h2

theorem frameStart_steady {sfc corr uncorr hecErr} (h : Steady a s) : Steady a
    (frameStart sfc corr uncorr hecErr s) := by
  unfold frameStart
  extract_lets +onlyGivenNames s1
  have h1 : Steady a s1 := takePon_steady h
  extract_lets +onlyGivenNames _ _ s2
  have h2 : Steady a s2 := updPon_steady h1
  exact watchStimulus_steady (applyTod_steady h2)

theorem execPonDsFrame_inv {errs hec sfc corr uncorr hecErr} (h : s.Inv) : Ends
    (execPonDsFrame errs hec sfc corr uncorr hecErr s) := by
  unfold execPonDsFrame
  refine .next ?_
  refine .ite h ?_
  extract_lets +onlyGivenNames _ _
  split
  · exact .ite ((updPon_steady (.refl _)).inv h) h
  · exact .ite ((frameStart_steady (ponInSync_steady (.refl _))).inv h) ((ponHunt_steady (.refl _)).inv h)
  · refine .ite ((frameStart_steady (updPon_steady (.refl _))).inv h) ?_
    extract_lets +onlyGivenNames s1
    have h1 : s1.Inv := (updPon_steady (.refl _)).inv h
    exact .ite ((ponHunt_steady (.refl _)).inv h1) ((frameStart_steady (.refl _)).inv h1)

theorem execAutoDwellExpiry_inv (h : s.Inv) : Ends (execAutoDwellExpiry s) :=
  .next (.ite ((updPon_steady (ponHunt_steady (.refl _))).inv h) h)

theorem execTodWaitTimeout_inv (h : s.Inv) : Ends (execTodWaitTimeout s) := by
  unfold execTodWaitTimeout
  refine .next ?_
  split
  · exact h
  · exact (raise_steady (updPon_steady (.refl _))).inv h

theorem execPonLosChange_inv {level held} (h : s.Inv) : Ends (execPonLosChange level held s) := by
  unfold execPonLosChange
  refine .next ?_
  extract_lets +onlyGivenNames s1
  have h1 : s1.Inv := (updPon_steady (.refl _)).inv h
  extract_lets +onlyGivenNames s2
  have h2 : s2.Inv := .ite ((ponHunt_steady (.refl _)).inv h1) h1
  exact .ite ((ponDefect_steady (.refl _)).inv h2) h2

theorem execTxFaultChange_inv {level held} (h : s.Inv) : Ends (execTxFaultChange level held s) := by
  unfold execTxFaultChange
  refine .next ?_
  extract_lets +onlyGivenNames s1
  have h1 : s1.Inv := (updPon_steady (.refl _)).inv h
  exact .ite (.ite ((ponDefect_steady (updPon_steady (.refl _))).inv h1) h1)
    (.ite ((ponDefect_steady (.refl _)).inv h1) h1)

theorem execRogueDetect_inv {cause} (h : s.Inv) : Ends (execRogueDetect cause s) :=
  .next (.ite h ((raise_steady (updPon_steady (.refl _))).inv h))

theorem latchDefect_steady {b e bad clear run} (h : Steady a s) : Steady a (latchDefect b e bad clear run s).2 := by
  unfold latchDefect
  split
  · exact ponDefect_steady h
  · exact .ite (ponDefect_steady h) h

theorem execPonSecondLatch_inv (h : s.Inv) : Ends (execPonSecondLatch s) := by
  unfold execPonSecondLatch
  refine .next ?_
  refine .ite h ?_
  extract_lets +onlyGivenNames _ s1
  have h1 : s1.Inv := (updPon_steady (.refl _)).inv h
  extract_lets +onlyGivenNames _ _
  split
  next _ t2 e2 =>
    have h2 : t2.Inv := ((latchDefect_steady (.refl _)).of_pair e2).inv h1
    extract_lets +onlyGivenNames _
    split
    next _ t3 e3 =>
      have h3 : t3.Inv := ((latchDefect_steady (.refl _)).of_pair e3).inv h2
      extract_lets +onlyGivenNames _ _ s4
      have h4 : s4.Inv := (updPon_steady (.refl _)).inv h3
      exact .ite ((ponDefect_steady (.refl _)).inv h4) h4

theorem ddmCheck_steady {d i} (h : Steady a s) : Steady a (ddmCheck d i s) := by
  unfold ddmCheck
  extract_lets +onlyGivenNames v
  split
  · exact updPon_steady h
  · extract_lets +onlyGivenNames above old s1 say
    have hs : ∀ b e high u, Steady a u → Steady a (say b e high u) := fun _ _ _ _ k => .ite (raise_steady k) k
    exact hs _ _ _ _ (hs _ _ _ _ (hs _ _ _ _ (hs _ _ _ _ (updPon_steady h))))

theorem execDdmPoll_inv {r} (h : s.Inv) : Ends (execDdmPoll r s) := by
  unfold execDdmPoll
  refine .next ?_
  refine .ite h ?_
  split
  · exact .foldl (fun _ _ h1 => (ddmCheck_steady (.refl _)).inv h1) ((updPon_steady (.refl _)).inv h)
  · exact .ite ((raise_steady (updPon_steady (.refl _))).inv h) ((updPon_steady (.refl _)).inv h)

/-! ### PonData -/

theorem putSdu_steady {port x} (h : Steady a s) : Steady a (putSdu port x s) :=
  updPon_steady h

theorem omciIn_steady {d} (h : Steady a s) : Steady a (omciIn d s) :=
  .ite (bump_steady h) (ingress_steady h)

theorem sduIn_steady {i d} (h : Steady a s) : Steady a (sduIn i d s) :=
  .ite (omciIn_steady h) (ingress_steady h)

theorem spoilSdu_steady {port last} (h : Steady a s) : Steady a (spoilSdu port last s) :=
  putSdu_steady h

theorem execXgemFrameRx_inv {x} (h : s.Inv) : Ends (execXgemFrameRx x s) := by
  unfold execXgemFrameRx
  refine .next ?_
  refine .ite h ?_
  refine .ite ((spoilSdu_steady (updPon_steady (.refl _))).inv h) ?_
  split
  · exact .ite ((bump_steady (putSdu_steady (.refl _))).inv h) h
  · refine .ite ((spoilSdu_steady (updPon_steady (.refl _))).inv h) ?_
    refine .ite ((spoilSdu_steady (fifoSlip_steady (.refl _))).inv h) ?_
    extract_lets +onlyGivenNames s1
    have h1 : s1.Inv := .ite ((updPon_steady (.refl _)).inv h) h
    exact .ite ((spoilSdu_steady (.refl _)).inv h1) (.ite ((bump_steady (spoilSdu_steady (.refl _))).inv h1)
      (.ite ((sduIn_steady (putSdu_steady (.refl _))).inv h1) ((putSdu_steady (.refl _)).inv h1)))

theorem alignRadio_steady {r a' g b place} (h : Steady a s) : Steady a (alignRadio r a' g b place s) :=
  .ite h (.ite h.same (raise_steady (bump_steady h)))

theorem reportGrant_steady {a' start bytes place} (h : Steady a s) : Steady a
    (reportGrant a' start bytes place s) := by
  unfold reportGrant
  extract_lets +onlyGivenNames _ s1
  have h1 : Steady a s1 := bumpBy_steady h.same
  extract_lets +onlyGivenNames _ _ _ s2
  have h2 : Steady a s2 := h1.same
  split
  · exact h2
  · exact .foldl (fun _ _ h3 => alignRadio_steady h3) h2

theorem skipGrant_steady {why} (h : Steady a s) : Steady a (skipGrant why s) :=
  warnOnce_steady (bump_steady h)

theorem execBwmapAllocation_inv {m place} (h : s.Inv) : Ends (execBwmapAllocation m place s) := by
  unfold execBwmapAllocation
  refine .next ?_
  refine .ite h ?_
  refine .ite ?_ ?_
  · refine .ite h ?_
    split
    · exact (skipGrant_steady (.refl _)).inv h
    · exact (updPon_steady (.refl _)).inv h
  · split
    · exact h
    · extract_lets +onlyGivenNames s1
      have h1 : s1.Inv := .ite ((wakeWatch_steady (.refl _)).inv h) h
      refine .ite h1 ?_
      refine .ite h1 ?_
      extract_lets +onlyGivenNames s2
      have h2 : s2.Inv := (updPon_steady (.refl _)).inv h1
      extract_lets +onlyGivenNames _ _ _
      split
      · exact (skipGrant_steady (.refl _)).inv h2
      · refine .ite ((skipGrant_steady (.refl _)).inv h2) ?_
        refine .ite ((skipGrant_steady (.refl _)).inv h2) ?_
        extract_lets +onlyGivenNames s3
        have h3 : s3.Inv := .ite ((updPon_steady (.refl _)).inv h2) ((updPon_steady (.refl _)).inv h2)
        exact .ite ((reportGrant_steady (.refl _)).inv h3) h3

theorem execUsPrefetch_inv {i} (h : s.Inv) : Ends (execUsPrefetch i s) :=
  .next ((updPon_steady (.refl _)).inv h)

theorem fetchUpstream_steady {i h' q} (h : Steady a s) : Steady a (fetchUpstream i h' q s) := by
  unfold fetchUpstream
  refine .ite (.ite (free_steady (bump_steady h)) (updPon_steady h)) ?_
  extract_lets +onlyGivenNames _
  split
  next _ t1 e1 =>
    have h1 : Steady a t1 := (drawBelow_steady h).of_pair e1
    split
    · exact free_steady h1
    · exact updPon_steady h1

theorem sendSlot_steady {x late} (h : Steady a s) : Steady a (sendSlot x late s).2 := by
  unfold sendSlot
  extract_lets +onlyGivenNames _
  split
  · exact h
  · extract_lets +onlyGivenNames _ _ _ s1
    have h1 : Steady a s1 := updPon_steady h.same
    exact .foldl (fun _ _ h2 => sendOff_steady h2) h1

theorem execBurstStart_inv {late} (h : s.Inv) : Ends (execBurstStart late s) := by
  unfold execBurstStart
  refine .next (Steady.inv (s := s) ?_ h)
  split
  · exact .refl s
  next b rest _ =>
    extract_lets +onlyGivenNames s1
    have h1 : Steady s s1 := updPon_steady (.refl s)
    split
    · exact h1
    · refine .ite h1 ?_
      extract_lets +onlyGivenNames s2
      have h2 : Steady s s2 := updPon_steady h1
      split
      next delay u e =>
        have hu : Steady s u := by
          refine Steady.of_pair (Steady.ite_snd ?_ ?_) e
          · exact drawRandom_steady h2
          · exact h2
        split
        next ploam v e' =>
          have hv : Steady s v := by
            refine Steady.of_pair (Steady.ite_snd ?_ (Steady.ite_snd ?_ (Steady.ite_snd ?_ ?_))) e'
            · exact hu
            · exact hu
            · exact hu
            · split
              · exact hu
              · exact .pair (updPon_steady hu)
          split
          next slots w e'' =>
            have hw : Steady s w := by
              refine Steady.of_pair (Steady.foldl_snd (fun y i k => ?_) ?_) e''
              · exact sendSlot_steady k
              · exact hv
            extract_lets +onlyGivenNames s3 out s4
            have h4 : Steady s s4 := bump_steady (updPon_steady (.ite (fifoSlip_steady hw) hw))
            exact .ite (ponDefect_steady h4) h4

/-! ### Caravan -/

theorem updCvn_steady {f} (h : Steady a s) : Steady a (updCvn f s) :=
  h.same

theorem updNbr_steady {m f} (h : Steady a s) : Steady a (updNbr m f s) :=
  updCvn_steady h

theorem runScript_steady {e value} (h : Steady a s) : Steady a (runScript e value s) := by
  unfold runScript
  exact updCvn_steady h

theorem cvnSend_steady {slot code ready payload} (h : Steady a s) : Steady a (cvnSend slot code ready payload s) := by
  unfold cvnSend
  extract_lets +onlyGivenNames _
  split
  · exact h
  · refine .ite (warnOnce_steady (bump_steady h)) ?_
    refine .ite h ?_
    extract_lets +onlyGivenNames s1
    have h1 : Steady a s1 := runScript_steady h
    extract_lets +onlyGivenNames s2
    have h2 : Steady a s2 := updCvn_steady h1
    exact bump_steady (runScript_steady h2)

theorem execBeaconTx_inv {air ready} (h : s.Inv) : Ends (execBeaconTx air ready s) := by
  unfold execBeaconTx
  refine .next ?_
  refine .ite h ?_
  extract_lets +onlyGivenNames _ _ _ _ _ _ _
  split
  split
  split
  split
  extract_lets +onlyGivenNames _ _
  split
  extract_lets +onlyGivenNames _
  split
  extract_lets +onlyGivenNames _
  split
  extract_lets +onlyGivenNames _
  split
  extract_lets +onlyGivenNames _
  split
  extract_lets +onlyGivenNames s1
  have h1 : s1.Inv := (bumpBy_steady (.refl _)).inv h
  extract_lets +onlyGivenNames s2
  have h2 : s2.Inv := (updCvn_steady (.refl _)).inv h1
  extract_lets +onlyGivenNames s3
  have h3 : s3.Inv := .foldl (fun _ _ h4 => (updNbr_steady (.refl _)).inv h4) h2
  extract_lets +onlyGivenNames s5
  have h5 : s5.Inv := .foldl (fun _ _ h6 => (updNbr_steady (.refl _)).inv h6) h3
  exact (cvnSend_steady (.refl _)).inv h5

theorem execUrgentTx_inv {ready} (h : s.Inv) : Ends (execUrgentTx ready s) := by
  unfold execUrgentTx
  refine .next ?_
  split
  · exact h
  · extract_lets +onlyGivenNames s1
    have h1 : s1.Inv := (updCvn_steady (.refl _)).inv h
    exact .ite h1 ((cvnSend_steady (.refl _)).inv h1)

theorem setMember_steady {st} (h : Steady a s) : Steady a (setMember st s) := by
  unfold setMember
  refine .ite h ?_
  extract_lets +onlyGivenNames s1
  have h1 : Steady a s1 := updCvn_steady h
  exact raise_steady h1

theorem chooseId_steady (h : Steady a s) : Steady a (chooseId s) := by
  unfold chooseId
  refine .ite h ?_
  refine .ite (.ite h (setMember_steady (updCvn_steady h))) ?_
  refine .ite h ?_
  split
  · next _ t1 e1 =>
      have h1 : Steady a t1 := (drawRandom_steady h).of_pair e1
      exact setMember_steady (updCvn_steady h1)
  · next t2 e2 =>
      have h2 : Steady a t2 := (drawRandom_steady h).of_pair e2
      exact h2

theorem conflictHeard_steady {c} (h : Steady a s) : Steady a (conflictHeard c s) := by
  unfold conflictHeard
  refine .ite ?_ h
  extract_lets +onlyGivenNames s1
  have h1 : Steady a s1 := updCvn_steady h
  extract_lets +onlyGivenNames s2
  have h2 : Steady a s2 := setMember_steady h1
  exact .ite (raise_steady (updCvn_steady h2)) h2

theorem setParent_steady {p hops} (h : Steady a s) : Steady a (setParent p hops s) := by
  unfold setParent
  extract_lets +onlyGivenNames _ s1
  have h1 : Steady a s1 := updCvn_steady h
  refine .ite h1 ?_
  extract_lets +onlyGivenNames s2
  have h2 : Steady a s2 := updCvn_steady h1
  extract_lets +onlyGivenNames s3
  have h3 : Steady a s3 := by
    unfold s3
    split <;> exact raise_steady h2
  exact .ite (raise_steady (updCvn_steady h3)) h3

theorem chooseParent_steady (h : Steady a s) : Steady a (chooseParent s) := by
  unfold chooseParent
  refine .ite (setParent_steady h) ?_
  refine .ite (setParent_steady h) ?_
  extract_lets +onlyGivenNames _
  split
  · exact setParent_steady h
  · split
    · exact .ite h (raise_steady (updCvn_steady (setParent_steady h)))
    · exact setParent_steady h

theorem parentBeacon_steady {k down} (h : Steady a s) : Steady a (parentBeacon k down s) := by
  unfold parentBeacon
  refine .ite (updCvn_steady h) ?_
  refine .ite (trackTsf_steady (updCvn_steady (stepTb_steady h))) ?_
  extract_lets +onlyGivenNames _ _ _ _ _ _ _ _ s1
  have h1 : Steady a s1 := updCvn_steady h
  extract_lets +onlyGivenNames s2
  have h2 : Steady a s2 := trackTsf_steady (updTb_steady h1)
  refine .ite ?_ (.ite (setMember_steady h2) h2)
  extract_lets +onlyGivenNames s3
  have h3 : Steady a s3 := raise_steady h2
  exact .ite (setMember_steady h3) h3

theorem proposePlan_steady (h : Steady a s) : Steady a (proposePlan s) := by
  unfold proposePlan
  exact updCvn_steady h

theorem planVetoed_steady {m} (h : Steady a s) : Steady a (planVetoed m s) := by
  unfold planVetoed
  extract_lets +onlyGivenNames _
  split
  · exact h
  · refine .ite h ?_
    extract_lets +onlyGivenNames s1
    have h1 : Steady a s1 := updCvn_steady h
    extract_lets +onlyGivenNames s2
    have h2 : Steady a s2 := raise_steady h1
    exact .ite (finishOpt_steady (updTabState_steady h2)) h2

theorem vetoPlan_steady {h' why} (h : Steady a s) : Steady a (vetoPlan h' why s) := by
  unfold vetoPlan
  extract_lets +onlyGivenNames _ s1
  have h1 : Steady a s1 := updCvn_steady h
  exact raise_steady h1

theorem planFragment_steady {v} (h : Steady a s) : Steady a (planFragment v s) := by
  unfold planFragment
  refine .ite h ?_
  extract_lets +onlyGivenNames _
  split
  · refine .ite (.ite h (vetoPlan_steady h)) ?_
    refine .ite h ?_
    extract_lets +onlyGivenNames _ _ _ _ s1
    have h1 : Steady a s1 := updCvn_steady h
    refine .ite h1 ?_
    extract_lets +onlyGivenNames s2
    have h2 : Steady a s2 := raise_steady h1
    split
    · exact .ite h2 (vetoPlan_steady h2)
    · exact h2
  · exact .ite (updCvn_steady h) h

theorem vetoHeard_steady {v} (h : Steady a s) : Steady a (vetoHeard v s) := by
  unfold vetoHeard
  refine .ite h ?_
  extract_lets +onlyGivenNames s1
  have h1 : Steady a s1 := updCvn_steady h
  split
  · exact .ite (planVetoed_steady h1) h1
  · exact h1

theorem applyPlan_steady (h : Steady a s) : Steady a (applyPlan s) := by
  unfold applyPlan
  refine .foldl (fun _ _ h1 => ?_) h
  refine .ite h1 ?_
  extract_lets +onlyGivenNames s2
  have h2 : Steady a s2 := updCvn_steady h1
  exact .ite (finishCommits_steady (commitValues_steady h2)) h2

theorem adoptPlan_steady {h' w} (h : Steady a s) : Steady a (adoptPlan h' w s) := by
  unfold adoptPlan
  extract_lets +onlyGivenNames s1
  have h1 : Steady a s1 := updCvn_steady h
  extract_lets +onlyGivenNames s2
  have h2 : Steady a s2 := setStandby_steady h1
  extract_lets +onlyGivenNames s3
  have h3 : Steady a s3 := switchPage_steady h2
  extract_lets +onlyGivenNames s4
  have h4 : Steady a s4 := copyStandby_steady h3
  exact applyPlan_steady (raise_steady h4)

theorem clash_steady {m tag claim} (h : Steady a s) : Steady a (clash m tag claim s) :=
  .ite h (updCvn_steady h)

theorem sendVersions_steady (h : Steady a s) : Steady a (sendVersions s) := by
  unfold sendVersions
  extract_lets +onlyGivenNames _ _ s1
  have h1 : Steady a s1 := updCvn_steady h
  exact .foldl (fun _ _ h2 => reportVersion_steady h2) h1

theorem settleVersion_steady {m v} (h : Steady a s) : Steady a (settleVersion m v s) :=
  .ite h (sendVersions_steady (updCvn_steady h))

theorem fibreHeard_steady {f} (h : Steady a s) : Steady a (fibreHeard f s) := by
  unfold fibreHeard
  refine .ite h ?_
  extract_lets +onlyGivenNames s1
  have h1 : Steady a s1 := updCvn_steady h
  exact raise_steady h1

theorem takeElement_steady {m v full late e} (h : Steady a s) : Steady a (takeElement m v full late e s) := by
  unfold takeElement
  extract_lets +onlyGivenNames _
  split
  · exact .ite h (updNbr_steady h)
  · exact .ite h (.foldl (fun _ _ h1 => .ite (updCvn_steady h1) h1) h)
  · exact .ite h (updNbr_steady h)
  · exact .ite h (fibreHeard_steady h)
  · exact .ite h (conflictHeard_steady h)
  · exact .ite h (planFragment_steady h)
  · exact .ite h (vetoHeard_steady h)
  · exact .ite h (updNbr_steady h)
  · exact h

theorem fabricRx_steady {p} (h : Steady a s) : Steady a (fabricRx p s) := by
  unfold fabricRx
  refine .ite h ?_
  refine .ite (warnOnce_steady (bump_steady h)) ?_
  extract_lets +onlyGivenNames _ _ _ _ s1
  have h1 : Steady a s1 := settleVersion_steady (clash_steady h)
  extract_lets +onlyGivenNames s2
  have h2 : Steady a s2 := updNbr_steady h1
  extract_lets +onlyGivenNames _ _ s3
  have h3 : Steady a s3 := .foldl (fun _ _ h4 => takeElement_steady h4) h2
  extract_lets +onlyGivenNames s5
  have h5 : Steady a s5 := chooseParent_steady h3
  exact .ite (parentBeacon_steady h5) h5

theorem execCaravanPacketRx_inv {p} (h : s.Inv) : Ends (execCaravanPacketRx p s) := by
  unfold execCaravanPacketRx
  refine .next ?_
  refine .ite h ?_
  extract_lets +onlyGivenNames s1
  have h1 : s1.Inv := by
    unfold s1
    split
    · exact .ite ((raise_steady (bump_steady (.refl _))).inv h) h
    · exact h
  exact .ite ((bump_steady (.refl _)).inv h1) (.ite ((bump_steady (.refl _)).inv h1)
    (.ite ((fifoSlip_steady (.refl _)).inv h1) ((fabricRx_steady (bump_steady (.refl _))).inv h1)))

theorem execSuperframeStart_inv (h : s.Inv) : Ends (execSuperframeStart s) := by
  unfold execSuperframeStart
  refine .next ?_
  refine .ite h ?_
  split
  next _ t1 e1 =>
    have h1 : t1.Inv := ((drawBelow_steady (.refl _)).of_pair e1).inv h
    extract_lets +onlyGivenNames _ _ s2
    have h2 : s2.Inv := (updCvn_steady (.refl _)).inv h1
    extract_lets +onlyGivenNames s3
    have h3 : s3.Inv := (sendVersions_steady (.refl _)).inv h2
    extract_lets +onlyGivenNames s4
    have h4 : s4.Inv := (updCvn_steady (.refl _)).inv h3
    extract_lets +onlyGivenNames s5
    have h5 : s5.Inv := (chooseParent_steady (.refl _)).inv h4
    extract_lets +onlyGivenNames s6
    have h6 : s6.Inv := by
      unfold s6
      split
      · exact .ite ((chooseId_steady (.refl _)).inv h5) ((updCvn_steady (.refl _)).inv h5)
      · exact .ite ((setMember_steady (.refl _)).inv h5) h5
      · exact .ite ((setMember_steady (.refl _)).inv h5) h5
      · exact h5
    split
    · split
      · exact .ite ((adoptPlan_steady (.refl _)).inv h6) (.ite ((updCvn_steady (.refl _)).inv h6) h6)
      · exact h6
    · exact h6

theorem drawSome_steady {k l} (h : Steady a s) : Steady a (drawSome k l s).2 := by
  induction k generalizing l s with
  | zero => exact h
  | succ k ih =>
    unfold drawSome
    refine .ite_snd h ?_
    split
    next u e => exact (drawRandom_steady h).of_pair e
    next i u e => exact ih ((drawRandom_steady h).of_pair e)

theorem execFibreHoldExpiry_inv (h : s.Inv) : Ends (execFibreHoldExpiry s) := by
  unfold execFibreHoldExpiry
  refine .next ?_
  refine .ite h ?_
  extract_lets +onlyGivenNames _ s1
  have h1 : s1.Inv := (updCvn_steady (.refl _)).inv h
  refine .ite h1 ?_
  extract_lets +onlyGivenNames _ _
  split
  next _ t2 e2 =>
    have h2 : t2.Inv := ((drawSome_steady (.refl _)).of_pair e2).inv h1
    exact (updCvn_steady (.refl _)).inv h2

theorem execChannelRound_inv (h : s.Inv) : Ends (execChannelRound s) := by
  unfold execChannelRound
  refine .next ?_
  refine .ite h ?_
  refine .foldl (fun _ _ h1 => ?_) h
  extract_lets +onlyGivenNames _
  split
  extract_lets +onlyGivenNames _ _ _ _ s2
  have h2 : s2.Inv := (updCvn_steady (.refl _)).inv h1
  refine .ite ?_ ?_
  · extract_lets +onlyGivenNames s3
    have h3 : s3.Inv := (updCvn_steady (.refl _)).inv h2
    extract_lets +onlyGivenNames s4
    have h4 : s4.Inv := (raise_steady (.refl _)).inv h3
    exact .ite ((startSwitch_steady (finishCommits_steady (commitValues_steady (.refl _)))).inv h4) h4
  · refine .ite h2 ?_
    split
    · exact h2
    · exact .ite ((updCvn_steady (.refl _)).inv h2) h2

theorem takeCvn_steady (h : Steady a s) : Steady a (takeCvn s) := by
  unfold takeCvn
  split
  next _ t1 e1 =>
    have h1 : Steady a t1 := (unitTakes_steady h).of_pair e1
    extract_lets +onlyGivenNames _ _ s2
    have h2 : Steady a s2 := .ite (updCvn_steady h1) h1
    extract_lets +onlyGivenNames _ s3
    have h3 : Steady a s3 := .ite (.ite h2 (runScript_steady (setMember_steady h2)))
      (.ite (setMember_steady (runScript_steady h2)) h2)
    extract_lets +onlyGivenNames s4
    have h4 : Steady a s4 := by
      unfold s4
      refine .ite ?_ h3
      split
      · extract_lets +onlyGivenNames s5
        have h5 : Steady a s5 := .ite (runScript_steady h3) h3
        extract_lets +onlyGivenNames s6
        have h6 : Steady a s6 := .ite (runScript_steady h5) h5
        exact .ite (runScript_steady h6) h6
      · exact h3
    exact finishCommits_steady h4

/-! ### Egress -/

theorem deliverRing_steady {h' q rx} (h : Steady a s) : Steady a (deliverRing h' q rx s) := by
  unfold deliverRing
  extract_lets +onlyGivenNames n w
  split
  · exact free_steady h
  · refine sendOff_steady (countWriteback_steady (updRing_steady (Steady.foldl_snd (fun y i k => ?_) ?_)))
    · exact hostWrite_steady (hostWrite_steady k)
    · exact h

theorem ingest_steady {d h'} (h : Steady a s) : Steady a (ingest d h' s) := by
  unfold ingest
  extract_lets +onlyGivenNames w bound
  clear_value bound
  split
  · exact sendOff_steady (bump_steady h)
  · extract_lets +onlyGivenNames data
    split
    · exact sendOff_steady h
    · exact .ite (sendOff_steady (bump_steady h)) (sendOff_steady (bumpBy_steady (updObj_steady h)))

theorem decideEgress_steady {e rx} (h : Steady a s) : Steady a (decideEgress e rx s).2 := by
  unfold decideEgress
  split
  next x u k =>
    refine Steady.of_pair (Steady.ite_snd ?_ ?_) k
    · exact dequeueFrom_steady h
    · exact h
  · exact dequeueFrom_steady h

theorem execDequeueDecision_inv {e rx} (h : s.Inv) : Ends (execDequeueDecision e rx s) := by
  unfold execDequeueDecision
  refine .next ?_
  refine .ite h ?_
  split
  · next t1 e1 =>
      have h1 : t1.Inv := ((decideEgress_steady (.refl _)).of_pair e1).inv h
      exact h1
  · next _ _ t2 e2 =>
      have h2 : t2.Inv := ((decideEgress_steady (.refl _)).of_pair e2).inv h
      exact .ite ((fetchUpstream_steady (.refl _)).inv h2) (.ite ((deliverRing_steady (.refl _)).inv h2)
        (.ite ((ingest_steady (.refl _)).inv h2) (.ite ((sendOff_steady (Steady.refl _).same).inv h2)
        ((updSched_steady (.refl _)).inv h2))))

/-! ### Heads -/

theorem execHeadRfCaps_inv {l seq c} (h : s.Inv) : Ends (execHeadRfCaps l seq c s) := by
  refine .next ((ccReceive_steady (.refl s) fun x hx => ?_).inv h)
  extract_lets +onlyGivenNames fault s1
  have h1 : Steady s s1 := updLink_steady hx
  clear_value fault
  split
  · exact raise_steady h1
  · exact h1

theorem sendLinkFrame_steady {l offset blocks lost} (h : Steady a s) : Steady a
    (sendLinkFrame l offset blocks lost s) := by
  unfold sendLinkFrame
  refine .ite h ?_
  extract_lets +onlyGivenNames w lay s1
  have h1 : Steady a s1 := updLink_steady h
  clear_value lay
  split
  · exact h1
  · extract_lets +onlyGivenNames S n lost' s2
    have h2 : Steady a s2 := .ite h1 (fifoSlip_steady h1)
    refine .foldl (fun x i k => ?_) h2
    split
    · exact k
    · exact bumpBy_steady (updAch_steady k)

theorem execLinkFrameTx_inv {offsets blocks lost} (h : s.Inv) : Ends (execLinkFrameTx offsets blocks lost s) := by
  unfold execLinkFrameTx
  refine .next ?_
  extract_lets +onlyGivenNames _ s1
  have h1 : s1.Inv := h.same
  exact .foldl (fun _ _ h2 => (sendLinkFrame_steady (.refl _)).inv h2) h1

/-! ### Tollgate -/

theorem setGate_steady {e entry open_ protect at_ o} (h : Steady a s) : Steady a
    (setGate e entry open_ protect at_ o s) := by
  unfold setGate
  extract_lets +onlyGivenNames _ _ _ _ s1
  have h1 : Steady a s1 := .foldl (fun _ _ h2 => breakGuarantee_steady h2) h
  exact refreshList_steady (updSched_steady h1)

theorem execGateEntryStart_inv {e entry o} (h : s.Inv) : Ends (execGateEntryStart e entry o s) := by
  unfold execGateEntryStart
  refine .next ?_
  refine .ite h ?_
  split
  · exact h
  · split
    · exact h
    · exact .ite h ((setGate_steady (.refl _)).inv h)

theorem execGateListSwitch_inv {e} (h : s.Inv) : Ends (execGateListSwitch e s) := by
  unfold execGateListSwitch
  refine .next ?_
  refine .ite h ?_
  refine .ite ?_ h
  extract_lets +onlyGivenNames _ s1
  have h1 : s1.Inv := (switchPage_steady (.refl _)).inv h
  extract_lets +onlyGivenNames s2
  have h2 : s2.Inv := by
    unfold s2
    split <;> exact (setGate_steady (.refl _)).inv h1
  exact (raise_steady (.refl _)).inv h2

theorem execBucketOverflow_inv {q e peak o} (h : s.Inv) : Ends (execBucketOverflow q e peak o s) := by
  unfold execBucketOverflow
  extract_lets +onlyGivenNames s1
  have h1 : s1.Inv := (fillBuckets_steady (.refl _)).inv h
  refine .next ?_
  refine .ite h1 ?_
  extract_lets +onlyGivenNames s2
  have h2 : s2.Inv := (updTq_steady (.refl _)).inv h1
  split
  next _ t3 e3 =>
    have h3 : t3.Inv := ((breakGuarantee_steady (.refl _)).of_pair e3).inv h2
    exact .ite h3 ((bump_steady (.refl _)).inv h3)

theorem execDrrStarvation_inv {e q o} (h : s.Inv) : Ends (execDrrStarvation e q o s) := by
  unfold execDrrStarvation
  extract_lets +onlyGivenNames s1
  have h1 : s1.Inv := (refreshList_steady (.refl _)).inv h
  refine .next ?_
  split
  · exact h1
  · refine .ite ?_ h1
    extract_lets +onlyGivenNames s2
    have h2 : s2.Inv := (updSched_steady (.refl _)).inv h1
    exact (breakGuarantee_steady (.refl _)).inv h2

theorem execQueueSampleSweep_inv (h : s.Inv) : Ends (execQueueSampleSweep s) :=
  .next (.ite h h.same)

theorem applyToll_steady {q old} (h : Steady a s) : Steady a (applyToll q old s) := by
  unfold applyToll
  extract_lets +onlyGivenNames _ _ s1
  have h1 : Steady a s1 := updTq_steady h
  exact .foldl (fun _ _ h2 => refreshList_steady h2) h1

/-! ### LadleIrq -/

theorem detachEngine_steady {e} (h : Steady a s) : Steady a (detachEngine e s) := by
  unfold detachEngine
  extract_lets +onlyGivenNames s1
  have h1 : Steady a s1 := returnBuffered_steady (dropJob_steady h)
  extract_lets +onlyGivenNames s2
  have h2 : Steady a s2 := updRunner_steady h1
  exact h2.same

theorem recastEngine_inv {e cause} (h : s.Inv) : (recastEngine e cause s).Inv := by
  unfold recastEngine
  extract_lets +onlyGivenNames _ s1
  have h1 : s1.Inv := (bump_steady (.refl _)).inv (.foldl (fun _ _ h2 => (free_steady (.refl _)).inv h2)
    ((detachEngine_steady (.refl _)).inv h))
  extract_lets +onlyGivenNames _ s3
  have h3 : s3.Inv := (updRunner_steady (.refl _)).inv h1
  extract_lets +onlyGivenNames s4
  have h4 : s4.Inv := (updEng_steady (.refl _)).inv h3
  extract_lets +onlyGivenNames s5
  have h5 : s5.Inv := .ite ((raise_steady (.refl _)).inv h4) h4
  exact (serveWaiters_steady (.refl _)).inv (admitFault_inv h5)

theorem haltEngine_inv {e} (h : s.Inv) : (haltEngine e s).Inv :=
  recastEngine_inv h

theorem faultEntry_inv {e c} (h : s.Inv) : (faultEntry e c s).Inv := by
  unfold faultEntry
  extract_lets +onlyGivenNames _ s1
  have h1 : s1.Inv := (raise_steady (bump_steady (.refl _))).inv h
  extract_lets +onlyGivenNames s2
  have h2 : s2.Inv := (updEng_steady (.refl _)).inv h1
  refine .ite (haltEngine_inv h2) ?_
  split
  next _ t3 e3 =>
    have h3 : t3.Inv := ((drawBelow_steady (.refl _)).of_pair e3).inv h2
    split
    next _ t4 e4 =>
      have h4 : t4.Inv := ((drawBelow_steady (.refl _)).of_pair e4).inv h3
      extract_lets +onlyGivenNames _
      split
      · exact haltEngine_inv h4
      · exact (updEng_steady (.refl _)).inv h4

theorem enterSource_inv {e i} (h : s.Inv) : (enterSource e i s).Inv := by
  unfold enterSource
  extract_lets +onlyGivenNames _
  split
  · exact haltEngine_inv h
  · exact (updEng_steady (.refl _)).inv h

theorem execInterruptEntry_inv {e race} (h : s.Inv) : Ends (execInterruptEntry e race s) := by
  unfold execInterruptEntry
  extract_lets +onlyGivenNames x
  refine .next (.ite h ?_)
  split
  · exact h
  · extract_lets +onlyGivenNames s1
    refine enterSource_inv (Steady.inv (s := s) (.ite ?_ (.refl s)) h)
    extract_lets +onlyGivenNames s2
    have h2 : Steady s s2 := updRunner_steady (Steady.same (.refl s))
    refine .ite ?_ h2
    split
    next j u k => exact updRunner_steady (selectJob_steady h2 k)
    next => exact h2

theorem icuClaim_steady {e} (h : Steady a s) : Steady a (icuClaim e s).2 := by
  unfold icuClaim
  extract_lets +onlyGivenNames _
  split
  · split
    · exact h
    · extract_lets +onlyGivenNames _ s1
      have h1 : Steady a s1 := updEng_steady h
      exact .ite (bump_steady h1) h1
  · exact h

theorem icuComplete_steady {e v} (h : Steady a s) : Steady a (icuComplete e v s).2 := by
  unfold icuComplete
  split
  · split
    · exact updEng_steady h
    · exact bump_steady h
  · exact bump_steady h

theorem returnFromHandler_inv {e} (h : s.Inv) : (returnFromHandler e s).Inv := by
  unfold returnFromHandler
  extract_lets +onlyGivenNames _
  split
  · exact faultEntry_inv h
  · refine .ite (faultEntry_inv ((bump_steady (updEng_steady (.refl _))).inv h)) ?_
    extract_lets +onlyGivenNames s1
    have h1 : s1.Inv := (updEng_steady (.refl _)).inv h
    split
    · exact (updEng_steady (.refl _)).inv h
    · exact .ite ((updEng_steady (.refl _)).inv h) ((updEng_steady (.refl _)).inv h)

theorem loseEngine_steady {e} (h : Steady a s) : Steady a (loseEngine e s) := by
  unfold loseEngine
  extract_lets +onlyGivenNames _ _ _ _ _ _ s1
  have h1 : Steady a s1 := h.same
  exact updEng_steady h1

theorem execEngineWake_inv {e} (h : s.Inv) : Ends (execEngineWake e s) :=
  .next (.ite h (.ite ((updEng_steady (loseEngine_steady (.refl _))).inv h) ((updEng_steady (.refl _)).inv h)))

theorem execJobWatchdog_inv {e} (h : s.Inv) : Ends (execJobWatchdog e s) := by
  unfold execJobWatchdog
  refine .next ?_
  split
  · exact h
  · exact .ite h (recastEngine_inv ((raise_steady (.refl _)).inv h))

theorem execTimerCompare_inv {t} (h : s.Inv) : Ends (execTimerCompare t s) :=
  .next (.ite h.same h)

/-! ### LadlePorts -/

theorem jobFetch_steady {e dst} (h : Steady a s) : Steady a (jobFetch e dst s) := by
  unfold jobFetch
  extract_lets +onlyGivenNames s1
  have h1 : Steady a s1 := completeJob_steady h
  split
  · exact returnJob_steady (handWaybill_steady h1)
  · split
    · next _ t2 e2 =>
        have h2 : Steady a t2 := selectJob_steady h1 e2
        exact returnJob_steady (handWaybill_steady h2)
    · exact updRunner_steady h1.same

theorem execJobFetch_inv {e} (h : s.Inv) : Ends (execJobFetch e s) :=
  .next (.ite ((jobFetch_steady (.refl _)).inv h) h)

theorem execJobDone_inv {e status} (h : s.Inv) : Ends (execJobDone e status s) :=
  .next (.ite ((completeJob_steady (.refl _)).inv h) h)

theorem postCtl_steady {e v} (h : Steady a s) : Steady a (postCtl e v s) := by
  unfold postCtl
  extract_lets +onlyGivenNames _
  split
  next _ t1 e1 =>
    have h1 : Steady a t1 := (postSoftware_steady h).of_pair e1
    exact updRunner_steady h1

theorem execPostCtl_inv {e arg v} (h : s.Inv) : Ends (execPostCtl e arg v s) :=
  .next (.ite ((postCtl_steady (updRunner_steady (.refl _))).inv h) h)

theorem wlPush_steady {e mask} (h : Steady a s) : Steady a (wlPush e mask s).2 := by
  unfold wlPush
  split
  · exact updEng_steady (.foldl (fun _ _ h1 => updMould_steady h1) h)
  · exact updEng_steady h

theorem execWlPush_inv {e mask entry} (h : s.Inv) : Ends (execWlPush e mask entry s) :=
  .next (.ite ((wlPush_steady (updEng_steady (.refl _))).inv h) h)

theorem maskSet_steady {e hi v} (h : Steady a s) : Steady a (maskSet e hi v s) :=
  updEng_steady h

theorem maskClr_steady {e hi v} (h : Steady a s) : Steady a (maskClr e hi v s) :=
  updEng_steady h

theorem pendSet_steady {e hi v} (h : Steady a s) : Steady a (pendSet e hi v s) :=
  updEng_steady h

theorem pendClr_steady {e hi v} (h : Steady a s) : Steady a (pendClr e hi v s) :=
  updEng_steady h

theorem roundAck_steady {e r} (h : Steady a s) : Steady a (roundAck e r s) :=
  .ite h.same h

theorem swpAck_steady {e r} (h : Steady a s) : Steady a (swpAck e r s) :=
  .ite h.same h

theorem secAck_steady {e} (h : Steady a s) : Steady a (secAck e s) :=
  .ite h.same h

theorem tmrAck_steady {e t} (h : Steady a s) : Steady a (tmrAck e t s) :=
  .ite h.same h

theorem onPort_inv {e} {f : State → State} (h : s.Inv) (hf : ∀ x, x.Inv → (f x).Inv) : Ends (onPort e f s) :=
  .next (.ite (hf s h) h)

theorem execMaskSet_inv {e hi v} (h : s.Inv) : Ends (execMaskSet e hi v s) :=
  onPort_inv h (fun _ h1 => (maskSet_steady (.refl _)).inv h1)

theorem execMaskClr_inv {e hi v} (h : s.Inv) : Ends (execMaskClr e hi v s) :=
  onPort_inv h (fun _ h1 => (maskClr_steady (.refl _)).inv h1)

theorem execPendSet_inv {e hi v} (h : s.Inv) : Ends (execPendSet e hi v s) :=
  onPort_inv h (fun _ h1 => (pendSet_steady (.refl _)).inv h1)

theorem execPendClr_inv {e hi v} (h : s.Inv) : Ends (execPendClr e hi v s) :=
  onPort_inv h (fun _ h1 => (pendClr_steady (.refl _)).inv h1)

theorem execRoundAck_inv {e v} (h : s.Inv) : Ends (execRoundAck e v s) :=
  onPort_inv h (fun _ h1 => (roundAck_steady (.refl _)).inv h1)

theorem execSwpAck_inv {e v} (h : s.Inv) : Ends (execSwpAck e v s) :=
  onPort_inv h (fun _ h1 => (swpAck_steady (.refl _)).inv h1)

theorem execDbSet_inv {e v} (h : s.Inv) : Ends (execDbSet e v s) :=
  onPort_inv h (fun _ h1 => (updEng_steady (.refl _)).inv h1)

theorem execDbClr_inv {e} (h : s.Inv) : Ends (execDbClr e s) :=
  onPort_inv h (fun _ h1 => (updEng_steady (.refl _)).inv h1)

theorem execSecAck_inv {e} (h : s.Inv) : Ends (execSecAck e s) :=
  onPort_inv h (fun _ h1 => (secAck_steady (.refl _)).inv h1)

theorem execTmrAck_inv {e v} (h : s.Inv) : Ends (execTmrAck e v s) :=
  onPort_inv h (fun _ h1 => (tmrAck_steady (.refl _)).inv h1)

theorem execIcuClaim_inv {e} (h : s.Inv) : Ends (execIcuClaim e s) := by
  unfold execIcuClaim
  refine onPort_inv h (fun _ h1 => ?_)
  split
  next _ t2 e2 =>
    have h2 : t2.Inv := ((icuClaim_steady (.refl _)).of_pair e2).inv h1
    exact (updEng_steady (.refl _)).inv h2

theorem execIcuComplete_inv {e v} (h : s.Inv) : Ends (execIcuComplete e v s) := by
  unfold execIcuComplete
  refine onPort_inv h (fun _ h1 => ?_)
  split
  · next _ t2 e2 =>
      have h2 : t2.Inv := ((icuComplete_steady (.refl _)).of_pair e2).inv h1
      exact faultEntry_inv h2
  · next t3 e3 =>
      have h3 : t3.Inv := ((icuComplete_steady (.refl _)).of_pair e3).inv h1
      exact h3

theorem execDmaStatus_inv {e} (h : s.Inv) : Ends (execDmaStatus e s) := by
  unfold execDmaStatus
  refine onPort_inv h (fun _ h1 => ?_)
  split
  next _ t2 e2 =>
    have h2 : t2.Inv := ((dmaStatus_steady (.refl _)).of_pair e2).inv h1
    exact (updEng_steady (.refl _)).inv h2

theorem execDmaGo_inv {e v a'} (h : s.Inv) : Ends (execDmaGo e v a' s) :=
  .next (.ite h (.ite ((ladleDmaGo_steady (updEng_steady (.refl _))).inv h) ((firmwareDmaGo_steady (.refl _)).inv h)))

theorem setTmrCmp_steady {n v} (h : Steady a s) : Steady a (setTmrCmp n v s) :=
  h.same

theorem portRead_steady {e io} (h : Steady a s) : Steady a (portRead e io s).2 := by
  unfold portRead
  extract_lets +onlyGivenNames _ _
  split
  · exact h
  · split
    · exact h
    · exact h
    · exact dmaStatus_steady h
    · exact icuClaim_steady h
    · exact h
    · exact h
    · exact h
    · exact h
    · exact h
    · exact h
    · exact h
    · exact h

theorem portWrite_steady {e io v} (h : Steady a s) : Steady a (portWrite e io v s).2 := by
  unfold portWrite
  split
  · exact updEng_steady h
  · split
    · exact setTmrCmp_steady h
    · split
      · exact completeJob_steady h
      · exact updRunner_steady h
      · exact postCtl_steady h
      · split
        · next t1 e1 =>
            have h1 : Steady a t1 := (wlPush_steady h).of_pair e1
            exact h1
        · next t2 e2 =>
            have h2 : Steady a t2 := (wlPush_steady h).of_pair e2
            exact h2
      · exact updEng_steady h
      · exact updEng_steady h
      · exact ladleDmaGo_steady h
      · split
        · next _ t3 e3 =>
            have h3 : Steady a t3 := (icuComplete_steady h).of_pair e3
            exact h3
        · next t4 e4 =>
            have h4 : Steady a t4 := (icuComplete_steady h).of_pair e4
            exact h4
      · exact maskSet_steady h
      · exact maskSet_steady h
      · exact maskClr_steady h
      · exact maskClr_steady h
      · exact pendSet_steady h
      · exact pendSet_steady h
      · exact pendClr_steady h
      · exact pendClr_steady h
      · exact updEng_steady h
      · exact roundAck_steady h
      · exact swpAck_steady h
      · exact updEng_steady h
      · exact updEng_steady h
      · exact secAck_steady h
      · exact tmrAck_steady h
      · exact h

/-! ### LadleIsa -/

theorem issue_inv {e ends op} (h : s.Inv) : Ends (issue e ends op s) := by
  unfold issue
  refine .next ?_
  refine .ite h ?_
  refine .ite (faultEntry_inv h) ?_
  split
  · exact (updEng_steady (.refl _)).inv h
  · exact (updEng_steady (.refl _)).inv h
  · exact faultEntry_inv h

theorem execLeCmac_inv {e f} (h : s.Inv) : Ends (execLeCmac e f s) :=
  issue_inv h

theorem execLeCmacc_inv {e f} (h : s.Inv) : Ends (execLeCmacc e f s) :=
  issue_inv h

theorem execLeCmsu_inv {e f} (h : s.Inv) : Ends (execLeCmsu e f s) :=
  issue_inv h

theorem execLeCmpy_inv {e f} (h : s.Inv) : Ends (execLeCmpy e f s) :=
  issue_inv h

theorem execLeCmpyc_inv {e f} (h : s.Inv) : Ends (execLeCmpyc e f s) :=
  issue_inv h

theorem execLeQmac_inv {e f} (h : s.Inv) : Ends (execLeQmac e f s) :=
  issue_inv h

theorem execLeQmpy_inv {e f} (h : s.Inv) : Ends (execLeQmpy e f s) :=
  issue_inv h

theorem execLeMac_inv {e f} (h : s.Inv) : Ends (execLeMac e f s) :=
  issue_inv h

theorem execLeMsu_inv {e f} (h : s.Inv) : Ends (execLeMsu e f s) :=
  issue_inv h

theorem execLeMpy_inv {e f} (h : s.Inv) : Ends (execLeMpy e f s) :=
  issue_inv h

theorem execLeFeed_inv {e f} (h : s.Inv) : Ends (execLeFeed e f s) :=
  issue_inv h

theorem execLeFirmv_inv {e f} (h : s.Inv) : Ends (execLeFirmv e f s) :=
  issue_inv h

theorem execLeFirmvr_inv {e f} (h : s.Inv) : Ends (execLeFirmvr e f s) :=
  issue_inv h

theorem execLeAclr_inv {e f} (h : s.Inv) : Ends (execLeAclr e f s) :=
  issue_inv h

theorem execLeAadd_inv {e f} (h : s.Inv) : Ends (execLeAadd e f s) :=
  issue_inv h

theorem execLeAsub_inv {e f} (h : s.Inv) : Ends (execLeAsub e f s) :=
  issue_inv h

theorem execLeAneg_inv {e f} (h : s.Inv) : Ends (execLeAneg e f s) :=
  issue_inv h

theorem execLeAabs_inv {e f} (h : s.Inv) : Ends (execLeAabs e f s) :=
  issue_inv h

theorem execLeAshl_inv {e f} (h : s.Inv) : Ends (execLeAshl e f s) :=
  issue_inv h

theorem execLeAshr_inv {e f} (h : s.Inv) : Ends (execLeAshr e f s) :=
  issue_inv h

theorem execLeAshv_inv {e f} (h : s.Inv) : Ends (execLeAshv e f s) :=
  issue_inv h

theorem execLeArnd_inv {e f} (h : s.Inv) : Ends (execLeArnd e f s) :=
  issue_inv h

theorem execLeAmov_inv {e f} (h : s.Inv) : Ends (execLeAmov e f s) :=
  issue_inv h

theorem execLeAnorm_inv {e f} (h : s.Inv) : Ends (execLeAnorm e f s) :=
  issue_inv h

theorem execLeAext_inv {e f} (h : s.Inv) : Ends (execLeAext e f s) :=
  issue_inv h

theorem execLeAins_inv {e f} (h : s.Inv) : Ends (execLeAins e f s) :=
  issue_inv h

theorem execLePack_inv {e f} (h : s.Inv) : Ends (execLePack e f s) :=
  issue_inv h

theorem execLeAdd_inv {e f} (h : s.Inv) : Ends (execLeAdd e f s) :=
  issue_inv h

theorem execLeSub_inv {e f} (h : s.Inv) : Ends (execLeSub e f s) :=
  issue_inv h

theorem execLeAnd_inv {e f} (h : s.Inv) : Ends (execLeAnd e f s) :=
  issue_inv h

theorem execLeOr_inv {e f} (h : s.Inv) : Ends (execLeOr e f s) :=
  issue_inv h

theorem execLeXor_inv {e f} (h : s.Inv) : Ends (execLeXor e f s) :=
  issue_inv h

theorem execLeShl_inv {e f} (h : s.Inv) : Ends (execLeShl e f s) :=
  issue_inv h

theorem execLeShr_inv {e f} (h : s.Inv) : Ends (execLeShr e f s) :=
  issue_inv h

theorem execLeSar_inv {e f} (h : s.Inv) : Ends (execLeSar e f s) :=
  issue_inv h

theorem execLeMin_inv {e f} (h : s.Inv) : Ends (execLeMin e f s) :=
  issue_inv h

theorem execLeMax_inv {e f} (h : s.Inv) : Ends (execLeMax e f s) :=
  issue_inv h

theorem execLeCmp_inv {e f} (h : s.Inv) : Ends (execLeCmp e f s) :=
  issue_inv h

theorem execLeCls_inv {e f} (h : s.Inv) : Ends (execLeCls e f s) :=
  issue_inv h

theorem execLeMov_inv {e f} (h : s.Inv) : Ends (execLeMov e f s) :=
  issue_inv h

theorem execLeAdd16_inv {e f} (h : s.Inv) : Ends (execLeAdd16 e f s) :=
  issue_inv h

theorem execLeSub16_inv {e f} (h : s.Inv) : Ends (execLeSub16 e f s) :=
  issue_inv h

theorem execLeConj_inv {e f} (h : s.Inv) : Ends (execLeConj e f s) :=
  issue_inv h

theorem execLeSwap_inv {e f} (h : s.Inv) : Ends (execLeSwap e f s) :=
  issue_inv h

theorem estimate_inv {e f range} (h : s.Inv) : Ends (estimate e f range s) := by
  unfold estimate
  extract_lets +onlyGivenNames _
  split
  split
  next _ t1 e1 =>
    have h1 : t1.Inv := ((drawBelow_steady (.refl _)).of_pair e1).inv h
    split
    · exact issue_inv (.ite h1 h)
    · exact issue_inv h

theorem execLeRcp_inv {e f} (h : s.Inv) : Ends (execLeRcp e f s) :=
  estimate_inv h

theorem execLeRsq_inv {e f} (h : s.Inv) : Ends (execLeRsq e f s) :=
  estimate_inv h

theorem execLeMovi_inv {e f} (h : s.Inv) : Ends (execLeMovi e f s) :=
  issue_inv h

theorem execLeMovu_inv {e f} (h : s.Inv) : Ends (execLeMovu e f s) :=
  issue_inv h

theorem execLeAddi_inv {e f} (h : s.Inv) : Ends (execLeAddi e f s) :=
  issue_inv h

theorem execLeAndi_inv {e f} (h : s.Inv) : Ends (execLeAndi e f s) :=
  issue_inv h

theorem execLeOri_inv {e f} (h : s.Inv) : Ends (execLeOri e f s) :=
  issue_inv h

theorem execLeCmpi_inv {e f} (h : s.Inv) : Ends (execLeCmpi e f s) :=
  issue_inv h

theorem execLeShli_inv {e f} (h : s.Inv) : Ends (execLeShli e f s) :=
  issue_inv h

theorem execLeSari_inv {e f} (h : s.Inv) : Ends (execLeSari e f s) :=
  issue_inv h

theorem execLeLdx_inv {e f} (h : s.Inv) : Ends (execLeLdx e f s) :=
  issue_inv h

theorem execLeStx_inv {e f} (h : s.Inv) : Ends (execLeStx e f s) :=
  issue_inv h

theorem execLeLdy_inv {e f} (h : s.Inv) : Ends (execLeLdy e f s) :=
  issue_inv h

theorem execLeSty_inv {e f} (h : s.Inv) : Ends (execLeSty e f s) :=
  issue_inv h

theorem execLeBr_inv {e f} (h : s.Inv) : Ends (execLeBr e f s) :=
  issue_inv h

theorem execLeCall_inv {e f} (h : s.Inv) : Ends (execLeCall e f s) :=
  issue_inv h

theorem execLeRet_inv {e f} (h : s.Inv) : Ends (execLeRet e f s) :=
  issue_inv h

theorem execLeLoop_inv {e f} (h : s.Inv) : Ends (execLeLoop e f s) :=
  issue_inv h

theorem execLeLoopi_inv {e f} (h : s.Inv) : Ends (execLeLoopi e f s) :=
  issue_inv h

theorem execLeBri_inv {e f} (h : s.Inv) : Ends (execLeBri e f s) :=
  issue_inv h

theorem execLeCalli_inv {e f} (h : s.Inv) : Ends (execLeCalli e f s) :=
  issue_inv h

theorem execLeReti_inv {e f} (h : s.Inv) : Ends (execLeReti e f s) :=
  .next (.ite h (.ite (faultEntry_inv h) (returnFromHandler_inv ((updEng_steady (.refl _)).inv h))))

theorem execLeNop_inv {e f} (h : s.Inv) : Ends (execLeNop e f s) :=
  issue_inv h

theorem execLeFence_inv {e f} (h : s.Inv) : Ends (execLeFence e f s) :=
  issue_inv h

theorem execLeMfs_inv {e f} (h : s.Inv) : Ends (execLeMfs e f s) :=
  issue_inv h

theorem execLeMts_inv {e f} (h : s.Inv) : Ends (execLeMts e f s) :=
  issue_inv h

theorem execLeSetm_inv {e f} (h : s.Inv) : Ends (execLeSetm e f s) :=
  issue_inv h

theorem execLeClrm_inv {e f} (h : s.Inv) : Ends (execLeClrm e f s) :=
  issue_inv h

theorem execLeWait_inv {e f} (h : s.Inv) : Ends (execLeWait e f s) :=
  .next (.ite h (.ite (faultEntry_inv h) (.ite (faultEntry_inv h)
    (.ite ((bump_steady (updEng_steady (.refl _))).inv h) ((updEng_steady (.refl _)).inv h)))))

theorem execLeIn_inv {e f} (h : s.Inv) : Ends (execLeIn e f s) := by
  unfold execLeIn
  refine .next ?_
  refine .ite h ?_
  refine .ite (faultEntry_inv h) ?_
  refine .ite ((jobFetch_steady (updEng_steady (.refl _))).inv h) ?_
  split
  next _ t1 e1 =>
    have h1 : t1.Inv := ((portRead_steady (.refl _)).of_pair e1).inv h
    exact (updEng_steady (.refl _)).inv h1

theorem execLeOut_inv {e f} (h : s.Inv) : Ends (execLeOut e f s) := by
  unfold execLeOut
  refine .next ?_
  refine .ite h ?_
  refine .ite (faultEntry_inv h) ?_
  split
  · next t1 e1 =>
      have h1 : t1.Inv := ((portWrite_steady (.refl _)).of_pair e1).inv h
      exact (updEng_steady (.refl _)).inv h1
  · next t2 e2 =>
      have h2 : t2.Inv := ((portWrite_steady (.refl _)).of_pair e2).inv h
      exact h2
  · next _ t3 e3 =>
      have h3 : t3.Inv := ((portWrite_steady (.refl _)).of_pair e3).inv h
      exact faultEntry_inv h3

theorem execLeBreak_inv {e f} (h : s.Inv) : Ends (execLeBreak e f s) :=
  .next (.ite h (.ite ((updEng_steady (.refl _)).inv h) (faultEntry_inv h)))

/-! ### TableCat -/

theorem TableSpec.after_steady {i old} (h : Steady a s) : ∀ x ∈ tableSpecs, Steady a (x.after i old s) := by
  unfold tableSpecs radioTables packetTables otherTables
  simp only [List.cons_append, List.nil_append, List.forall_mem_cons, List.not_mem_nil, false_imp_iff, implies_true,
    and_true]
  exact ⟨applyLane_steady h, switchedCmap_steady h, switchedCal_steady h, h, h, h, h, h, h, h, h, h,
    switchedSta_steady h, h,
    h, h, takeBcastKeys_steady h, takeTod_steady h, h, h, h, h, h, h, h, h, h, h, h, h, h, h, applyMacsec_steady h, h,
      h⟩

theorem TableSpec.switch_steady {x : TableSpec} {i} (h : Steady a s) (hx : x ∈ tableSpecs) : Steady a (x.switch i s)
    :=
  TableSpec.after_steady (switchPage_steady h) x hx

theorem findTable_mem {id x} (h : findTable id = some x) : x ∈ tableSpecs := List.mem_of_find?_eq_some h

theorem waitingTables_mem {x : TableSpec × Nat} (h : x ∈ s.waitingTables) : x.1 ∈ tableSpecs := by
  obtain ⟨e, -, he⟩ := List.mem_filterMap.1 h
  split at he
  · obtain ⟨y, hy, hx⟩ := Option.bind_eq_some_iff.1 he
    split at hx
    · cases hx
    · cases hx
      exact findTable_mem hy
  · cases he

/-! ### Units -/

theorem releaseHeld_steady {e} (h : Steady a s) : Steady a (releaseHeld e s) :=
  serveWaiters_steady (updRunner_steady h)

theorem unitEffect_steady {g u ks old} (h : Steady a s) : Steady a (unitEffect g u ks old s) := by
  unfold unitEffect
  extract_lets +onlyGivenNames _
  split
  · exact applyLane_steady h
  · exact applyLink_steady h
  · exact applyAch_steady h
  · extract_lets +onlyGivenNames s1
    have h1 : Steady a s1 := applyBeam_steady h
    exact .ite (enableSector_steady h1) h1
  · exact .ite (releaseHeld_steady h) (serveWaiters_steady h)
  · exact .foldl (fun _ _ h2 => .ite (releaseHeld_steady h2) h2) h
  · exact serveWaiters_steady h
  · exact applyToll_steady h
  · exact .ite (applyDriveEnable_steady h) h
  · exact h

theorem takeUnit_steady {g u} (h : Steady a s) : Steady a (takeUnit g u s) := by
  unfold takeUnit
  split
  · exact takePon_steady h
  · exact takeCvn_steady h
  · split
    next _ t1 e1 =>
      have h1 : Steady a t1 := (unitTakes_steady h).of_pair e1
      exact finishCommits_steady (.ite h1 (unitEffect_steady h1))

theorem safePoint_steady {g u} (h : Steady a s) : Steady a (safePoint g u s) := by
  unfold safePoint
  extract_lets +onlyGivenNames ts s1
  have h1 : Steady a s1 := .foldl_mem
    (fun _ _ hx k => TableSpec.switch_steady k (waitingTables_mem (List.mem_filter.1 hx).1)) h
  exact .ite h1 (takeUnit_steady h1)

theorem execSafePointApply_inv {g u} (h : s.Inv) : Ends (execSafePointApply g u s) :=
  .next ((safePoint_steady (.refl _)).inv h)

theorem execTablePageSwitch_inv {id inst} (h : s.Inv) : Ends (execTablePageSwitch id inst s) := by
  refine .next (Steady.inv (s := s) ?_ h)
  split
  · exact .refl s
  next x e =>
    exact .ite (.refl s) (.foldl (fun _ _ k => takeUnit_steady k)
      (TableSpec.switch_steady (.refl s) (findTable_mem e)))

theorem execStandbyCopyDone_inv {id inst} (h : s.Inv) : Ends (execStandbyCopyDone id inst s) :=
  .next (.ite ((copyStandby_steady (.refl _)).inv h) h)

theorem commitEffect_wakes {vals old} (h : Wakes a s) : Wakes a (commitEffect vals old s) := by
  unfold commitEffect
  extract_lets +onlyGivenNames _ _ s1
  have h1 : Wakes a s1 := .ite (.foldl (fun _ _ h2 => .ite (.foldl (fun _ _ h3 => (flagAch_steady (.refl _)).wakes h3)
    h2) h2) (applyFeeds_wakes h)) h
  extract_lets +onlyGivenNames s4
  have h4 : Wakes a s4 := .ite (.foldl (fun _ _ h5 => .ite ((applyRing_steady (.refl _)).wakes h5) h5) h1) h1
  extract_lets +onlyGivenNames s6
  have h6 : Wakes a s6 := .ite ((trackTsf_steady (.refl _)).wakes h4) h4
  extract_lets +onlyGivenNames s7
  have h7 : Wakes a s7 := .ite ((driveGpios_steady (.refl _)).wakes h6) h6
  extract_lets +onlyGivenNames s8
  have h8 : Wakes a s8 := .ite (applyFeeds_wakes h7) h7
  exact (pump_steady (.refl _)).wakes h8

theorem applyValues_wakes {group image vals} (h : Wakes a s) : Wakes a (applyValues group image vals s) := by
  unfold applyValues
  extract_lets +onlyGivenNames s1
  have h1 : Wakes a s1 := (commitValues_steady (.refl _)).wakes h
  extract_lets +onlyGivenNames _ s2
  have h2 : Wakes a s2 := commitEffect_wakes h1
  extract_lets +onlyGivenNames _ s3
  have h3 : Wakes a s3 := .foldl (fun _ _ h4 => .ite ((takeUnit_steady (.refl _)).wakes h4) h4) h2
  exact (finishCommits_steady (.refl _)).wakes (.foldl (fun _ _ h5 => (startSwitch_steady (.refl _)).wakes h5) h3)

/-! ### Session -/

theorem closeSession_inv (h : s.Inv) : (closeSession s).Inv := by
  unfold closeSession
  extract_lets +onlyGivenNames s1
  have h1 : s1.Inv := (Steady.foldl (fun _ _ k => handBack_steady k) (.refl s)).inv h
  exact h1.mail fun k => k.of_eq rfl rfl

theorem openSession_inv {v} (h : s.Inv) : (openSession v s).Inv := by
  refine (reportVersion_steady (.refl _)).inv (h.mail fun k => ?_)
  exact (k.mapV (f := fun x => { x with handback := .none }) rfl (fun _ => rfl) fun _ => rfl).of_eq rfl rfl

theorem hello_inv {p} (h : s.Inv) : (hello p s).Keeps := by
  unfold hello
  refine .ite (.now h) ?_
  extract_lets +onlyGivenNames s1 n chosen v body
  have h1 : s1.Inv := closeSession_inv h
  clear_value chosen
  split
  · exact .now h1
  · exact .now (openSession_inv h1)

theorem bye_inv (h : s.Inv) : (bye s).Keeps :=
  .now (closeSession_inv h)

theorem resetEndpoint_inv (h : s.Inv) : (resetEndpoint s).Inv := by
  unfold resetEndpoint
  extract_lets +onlyGivenNames _ s1 s2
  have h2 : s2.Inv := closeSession_inv h.same
  extract_lets +onlyGivenNames ws s3
  have h3 : s3.Inv := (Steady.foldl (fun _ _ k => handBack_steady k) (.refl s2)).inv h2
  exact (stopRings_steady (.refl _)).inv (h3.mail fun k => k.of_eq rfl rfl)

theorem dropLink_steady (h : Steady a s) : Steady a (dropLink s) :=
  h.same

theorem execFundamentalReset_inv {low} (h : s.Inv) : Ends (execFundamentalReset low s) := by
  unfold execFundamentalReset
  extract_lets +onlyGivenNames _ s1
  have h1 : s1.Inv := h.same
  exact .next (.ite ((dropLink_steady (.refl _)).inv (resetEndpoint_inv h1)) h1)

theorem execHotReset_inv (h : s.Inv) : Ends (execHotReset s) :=
  .next (.ite ((dropLink_steady (.refl _)).inv (resetEndpoint_inv h)) h)

theorem execFunctionLevelReset_inv (h : s.Inv) : Ends (execFunctionLevelReset s) :=
  .next (.ite (resetEndpoint_inv h) h)

theorem execHostLinkDown_inv (h : s.Inv) : Ends (execHostLinkDown s) :=
  .next (.ite ((dropLink_steady (.refl _)).inv (resetEndpoint_inv h)) h)

theorem execHostLinkUp_inv {speed width} (h : s.Inv) : Ends (execHostLinkUp speed width s) :=
  .next (.ite h.same h)

theorem execMsixUnmask_inv {v} (h : s.Inv) : Ends (execMsixUnmask v s) :=
  .next (.ite h.same h)

theorem armWindow_steady {w} (h : Steady a s) : Steady a (armWindow w s) := by
  refine .ite (protoError_steady h) (.ite (handBack_steady h) (pump_steady (h.mail fun k => ?_)))
  exact k.put w _ (s.mbx.armed ++ [w]) (k.bytes w) (by simp) fun v hv => by simp [hv]

theorem recallWindow_steady {w} (h : Steady a s) : Steady a (recallWindow w s) :=
  .ite (handBack_steady h) (protoError_steady h)

theorem execArm_inv {w} (h : s.Inv) : Ends (execArm w s) :=
  .next (.ite ((armWindow_steady (.refl _)).inv h) h)

theorem execRecall_inv {w} (h : s.Inv) : Ends (execRecall w s) :=
  .next (.ite ((recallWindow_steady (.refl _)).inv h) h)

theorem clearProtoErr_steady {w} (h : Steady a s) : Steady a (clearProtoErr w s) :=
  h.mail fun k => k.put w _ s.mbx.armed (k.bytes w) (k.armed w) fun _ _ => Iff.rfl

theorem execProtoErrClear_inv {w} (h : s.Inv) : Ends (execProtoErrClear w s) :=
  .next (.ite ((clearProtoErr_steady (.refl _)).inv h) h)

theorem execEventBatchTimeout_inv (h : s.Inv) : Ends (execEventBatchTimeout s) :=
  .next (.ite ((pump_steady (Steady.refl _).same).inv h) h)

/-! ### ParamCmd -/

theorem refuse_inv {st os} (h : s.Inv) : (refuse st os s).Keeps :=
  .now h

theorem getEntry_steady {source p i} (h : Steady a s) : Steady a (getEntry source p i s).2 :=
  .ite (setPar_steady h) h

theorem getEntries_steady {source l} (h : Steady a s) : Steady a (getEntries source l s).2 := by
  induction l generalizing s with
  | nil => exact h
  | cons x l ih => exact ih (getEntry_steady h)

theorem paramGet_inv {p} (h : s.Inv) : (paramGet p s).Keeps := by
  unfold paramGet
  refine .ite (refuse_inv h) ?_
  refine .ite (.now h) ?_
  refine .ite (refuse_inv h) ?_
  refine .ite (refuse_inv h) ?_
  refine .ite (.now h) ?_
  split
  next _ t1 e1 =>
    have h1 : t1.Inv := ((getEntries_steady (.refl _)).of_pair e1).inv h
    exact .now h1

theorem burnRevoke_steady {root} (h : Steady a s) : Steady a (burnRevoke root s) :=
  .ite h (raise_steady h.same)

theorem advanceSvn_steady (h : Steady a s) : Steady a (advanceSvn s) :=
  .ite h (raise_steady h.same)

theorem applyImmediate_steady {p i v} (h : Steady a s) : Steady a (applyImmediate p i v s) := by
  unfold applyImmediate
  refine .ite (.ite (burnRevoke_steady h) h) ?_
  refine .ite (.ite (advanceSvn_steady h) h) ?_
  refine .ite (.ite (rogueClear_steady h) h) ?_
  refine .ite (timeImmediate_steady h) ?_
  extract_lets +onlyGivenNames s1
  have h1 : Steady a s1 := setPar_steady h
  exact .ite (pump_steady h1) (.ite (laneImmediate_steady h1)
    (.ite (driveGpio_steady h1) (.ite (.ite (stopSprue_steady h1) h1) h1)))

theorem stage_steady {p i v} (h : Steady a s) : Steady a (stage p i v s) :=
  h.same

theorem setEntries_steady {l} (h : Steady a s) : Steady a (setEntries l s) := by
  induction l generalizing s with
  | nil => exact h
  | cons x l ih => exact ih (.ite (.foldl (fun _ _ k => applyImmediate_steady k) h) (stage_steady h))

theorem paramSet_inv {p} (h : s.Inv) : (paramSet p s).Keeps :=
  .ite (refuse_inv h) (.ite (.now h) (.ite (refuse_inv h) (.ite (refuse_inv h)
    (.ite (.now h) (.ite (.now h) (.ite (refuse_inv h) (.ite (.now h)
    (.now ((setEntries_steady (.refl _)).inv h)))))))))

theorem waitForCommit_steady {g cid} (h : Steady a s) (e : waitForCommit g cid s = some t) : Steady a t := by
  unfold waitForCommit at e
  split at e
  · cases e
    exact h.same
  · cases e

theorem paramCommit_inv {cid p} (h : s.Inv) : (paramCommit cid p s).Keeps := by
  unfold paramCommit
  refine .ite (refuse_inv h) ?_
  refine .ite (.now h) ?_
  refine .ite (.now h) ?_
  refine .ite (refuse_inv ((bump_steady (.refl _)).inv h)) ?_
  refine .ite (.now h) ?_
  extract_lets +onlyGivenNames _ s1
  have h1 : s1.Inv := h.same
  extract_lets +onlyGivenNames _ s2
  have h2 : s2.Inv := .ite h1.same h1
  extract_lets +onlyGivenNames s3
  have h3 : s3.Inv := (applyValues_wakes (.refl _)).inv ((bump_steady (.refl _)).inv h2)
  split
  · next t4 e4 =>
      have h4 : t4.Inv := (waitForCommit_steady (.refl _) e4).inv h3
      exact .now h4
  · exact .now h3

theorem paramAbort_inv {p} (h : s.Inv) : (paramAbort p s).Keeps :=
  .ite (refuse_inv h) (.ite (.now h) (.now h.same))

/-! ### Security -/

theorem sigFail_steady {inst v} (h : Steady a s) : Steady a (sigFail inst v s) :=
  raise_steady h

theorem applyRevocations_steady (h : Steady a s) : Steady a (applyRevocations s) :=
  .foldl (fun _ _ h1 => .ite (burnRevoke_steady h1) h1) h

theorem setSlot_steady {k x} (h : Steady a s) : Steady a (setSlot k x s) :=
  h.same

theorem setRecord_steady {k r} (h : Steady a s) : Steady a (setRecord k r s) :=
  h.same

theorem keyInstall_inv {p} (h : s.Inv) : (keyInstall p s).Keeps := by
  unfold keyInstall
  refine .ite (.now h) ?_
  refine .ite (.now h) ?_
  refine .ite (.now h) ?_
  refine .ite (.now h) ?_
  refine .ite (.now h) ?_
  split
  · exact .now h
  · refine .ite (.now h) ?_
    extract_lets +onlyGivenNames s1
    have h1 : s1.Inv := .ite ((setRecord_steady (.refl _)).inv h) h
    exact .now ((setSlot_steady (.refl _)).inv h1)

theorem keyRetire_inv {p} (h : s.Inv) : (keyRetire p s).Keeps :=
  .ite (.now h) (.ite (.now h) (.ite (.now h) (.ite (refuse_inv h)
    (.ite (.now h) (.now ((setSlot_steady (setRecord_steady (.refl _))).inv h))))))

theorem restoreSlots_steady {bad} (h : Steady a s) : Steady a (restoreSlots bad s) := by
  unfold restoreSlots
  refine .foldl (fun _ _ h1 => ?_) h
  split
  · exact h1
  · exact .ite (raise_steady h1) (setSlot_steady h1)

theorem startBurn_steady {k cid} (h : Steady a s) : Steady a (startBurn k cid s) :=
  updTabState_steady h.same

theorem execRootBurnDone_inv {k} (h : s.Inv) : Ends (execRootBurnDone k s) := by
  unfold execRootBurnDone
  refine .next ?_
  refine .ite ?_ h
  extract_lets +onlyGivenNames _ s1
  have h1 : s1.Inv := h.same
  exact (switchPage_steady (.refl _)).inv h1

theorem newChallenge_steady (h : Steady a s) : Steady a (newChallenge s) := by
  unfold newChallenge
  split
  · next _ t1 e1 =>
      have h1 : Steady a t1 := (drawRandom_steady h).of_pair e1
      exact h1.same
  · next t2 e2 =>
      have h2 : Steady a t2 := (drawRandom_steady h).of_pair e2
      exact h2

theorem unlockDebug_steady {perm} (h : Steady a s) : Steady a (unlockDebug perm s) := by
  unfold unlockDebug
  extract_lets +onlyGivenNames s1
  have h1 : Steady a s1 := raise_steady h
  exact h1.same

theorem commitToken_steady (h : Steady a s) : Steady a (commitToken s).2 := by
  unfold commitToken
  extract_lets +onlyGivenNames _
  split
  · exact newChallenge_steady (sigFail_steady h)
  · split
    next _ t1 e1 =>
      have h1 : Steady a t1 := (drawBelow_steady h).of_pair e1
      exact newChallenge_steady (sigFail_steady h1)
  · exact newChallenge_steady (unlockDebug_steady h)

theorem execRngHealthFail_inv {test} (h : s.Inv) : Ends (execRngHealthFail test s) := by
  unfold execRngHealthFail
  refine .next ?_
  refine .ite ?_ h
  extract_lets +onlyGivenNames _ _ s1
  have h1 : s1.Inv := h.same
  exact admitFault_inv ((raise_steady (.refl _)).inv h1)

theorem execRngReseed_inv (h : s.Inv) : Ends (execRngReseed s) :=
  .next (.ite h.same h)

/-! ### TableCmd -/

theorem TableReq.refuse_inv {q : TableReq} {st reason} (h : s.Inv) : (q.refuse st reason s).Keeps := .now h

theorem TableReq.look_error_inv {q : TableReq} {r} (h : s.Inv) (e : q.look s = .error r) : r.Keeps := by
  unfold TableReq.look at e
  split at e
  · cases e
    exact TableReq.refuse_inv h
  · split at e
    · cases e
    · cases e
      exact TableReq.refuse_inv h

theorem TableReq.look_ok_mem {q : TableReq} {x} (e : q.look s = .ok x) : x ∈ tableSpecs := by
  unfold TableReq.look at e
  split at e
  · cases e
  next y hy =>
    split at e
    · cases e
      exact findTable_mem hy
    · cases e

theorem TableReq.rangeFault_inv {q : TableReq} {x r} (h : s.Inv) (e : q.rangeFault x s = some r) : r.Keeps := by
  unfold TableReq.rangeFault at e
  split_ifs at e <;> cases e <;> exact .now h

theorem clearStandby_steady {t i} (h : Steady a s) : Steady a (clearStandby t i s) := by
  unfold clearStandby
  extract_lets +onlyGivenNames _ _ _ s1
  have h1 : Steady a s1 := h.same
  exact .ite (setStandby_steady h1) h1

theorem writeTcam_steady {clear first es} (h : Steady a s) (e : writeTcam clear first es s = some t) : Steady a
    t := by
  unfold writeTcam at e
  extract_lets +onlyGivenNames wipe _ p at e
  split at e
  · cases e
  · rw [← Option.some.inj e]
    exact h.same

theorem writeFlow_steady {clear es} (h : Steady a s) (e : writeFlow clear es s = some t) : Steady a t := by
  obtain ⟨x, -, hx⟩ := Option.map_eq_some_iff.1 e
  cases hx
  exact h.same

theorem writeEntries_steady {t i first es} (h : Steady a s) : Steady a (writeEntries t i first es s) :=
  .foldl (fun _ _ h1 => setStandby_steady h1) h

theorem tableWrite_inv {p} (h : s.Inv) : (tableWrite p s).Keeps := by
  unfold tableWrite
  extract_lets +onlyGivenNames q
  refine .ite (refuse_inv h) ?_
  split
  next r e => exact TableReq.look_error_inv h e
  next x _ =>
    refine .ite (TableReq.refuse_inv h) ?_
    split
    next r e => exact TableReq.rangeFault_inv h e
    next =>
      extract_lets +onlyGivenNames es st clear
      refine .ite (refuse_inv h) (.ite (TableReq.refuse_inv h) (.ite (TableReq.refuse_inv h)
        (.ite (.now h) (.ite (TableReq.refuse_inv h) (.ite ?_ (.ite ?_ ?_))))))
      · split
        next => exact .now h
        next u e => exact .now ((writeTcam_steady (.refl _) e).inv h)
      · split
        next => exact .now h
        next u e => exact .now ((writeFlow_steady (.refl _) e).inv h)
      · exact .now ((writeEntries_steady (.ite (clearStandby_steady (.refl s)) (.refl s))).inv h)

theorem tableRead_inv {p} (h : s.Inv) : (tableRead p s).Keeps := by
  unfold tableRead
  extract_lets +onlyGivenNames q
  refine .ite (refuse_inv h) ?_
  split
  next r e => exact TableReq.look_error_inv h e
  next x _ =>
    refine .ite (TableReq.refuse_inv h) ?_
    split
    next r e => exact TableReq.rangeFault_inv h e
    next => exact .ite (.now h) (.now h)

theorem waitForSwitch_steady {id inst cid} (h : Steady a s) : Steady a (waitForSwitch id inst cid s) :=
  updTabState_steady h

theorem startSwitchTable_inv {x : TableSpec} {i cid} (h : s.Inv) (hx : x ∈ tableSpecs) :
    (startSwitchTable x i cid s).Keeps := by
  have h0 := Steady.refl s
  refine .ite (.now ((startBurn_steady h0).inv h)) (.ite ?_ (.ite
    (.now ((waitForSwitch_steady (proposePlan_steady h0)).inv h))
    (.ite (.now ((waitForSwitch_steady h0).inv h)) (.ite (.now ((advanceVersion_steady h0).inv h))
    (.ite (.now ((TableSpec.switch_steady h0 hx).inv h)) (.now ((waitForSwitch_steady h0).inv h)))))))
  split
  next st u e => exact .now ((switchPage_steady ((commitToken_steady h0).of_pair e)).inv h)

theorem tableCommit_inv {cid p} (h : s.Inv) : (tableCommit cid p s).Keeps := by
  unfold tableCommit
  extract_lets +onlyGivenNames q
  refine .ite (refuse_inv h) ?_
  split
  next r e => exact TableReq.look_error_inv h e
  next x e =>
    refine .ite (TableReq.refuse_inv h) (.ite (refuse_inv h) (.ite (.now h) (.ite (TableReq.refuse_inv h) ?_)))
    refine .ite ?_ (.ite (.now h) (startSwitchTable_inv h (TableReq.look_ok_mem e)))
    exact refuse_inv (.ite ((commitToken_steady (.refl s)).inv h) h)

/-! ### Pattern -/

theorem pageOf_steady {d r} {set_ : TableDef → Nat → Nat → List Byte → State → State} (h : Steady a s)
    (hf : ∀ d i k b x, Steady a x → Steady a (set_ d i k b x)) : Steady a (pageOf d r set_ s) :=
  .foldl (fun _ _ k => hf _ _ _ _ _ k) h

theorem imagePage_steady {c} {x : TableSpec} {i} (h : Steady a s) (hx : x ∈ tableSpecs) : Steady a
    (imagePage c x i s) := by
  unfold imagePage
  extract_lets +onlyGivenNames s1 s2
  have h2 : Steady a s2 := .foldl (fun _ _ k => pageOf_steady k fun _ _ _ _ _ k => setStandby_steady k)
    (clearStandby_steady h)
  exact .ite (TableSpec.switch_steady h2 hx) (updTabState_steady h2)

theorem imageTables_mem {c} {x : TableSpec × Nat} (h : x ∈ imageTables c s) : x.1 ∈ tableSpecs := by
  obtain ⟨e, -, he⟩ := List.mem_filterMap.1 h
  obtain ⟨y, hy, hx⟩ := Option.bind_eq_some_iff.1 he
  extract_lets named at hx
  split at hx
  · cases hx
  · cases hx
    exact findTable_mem hy

theorem imageVersion_steady {c} (h : Steady a s) : Steady a (imageVersion c s) := by
  have hT : ∀ {x y}, Steady a x → writeTcam true 0 [] x = y → Steady a (y.getD x) := fun {x y} k e => by
    cases y with
    | none => exact k
    | some u => exact writeTcam_steady k e
  have hF : ∀ {x y}, Steady a x → writeFlow true [] x = y → Steady a (y.getD x) := fun {x y} k e => by
    cases y with
    | none => exact k
    | some u => exact writeFlow_steady k e
  unfold imageVersion
  extract_lets +onlyGivenNames sel rules flows
  refine .ite h ?_
  extract_lets +onlyGivenNames _ s1 s2 s3
  have h3 : Steady a s3 := hF (hT (h.same (t := s1)) rfl) rfl
  exact advanceVersion_steady h3.same

theorem waitForImage_steady {cid} (h : Steady a s) (e : waitForImage cid s = some t) : Steady a t := by
  unfold waitForImage at e
  split at e
  · cases e
    exact h.same
  · cases e

theorem applyImage_wakes {source c} (h : Wakes a s) : Wakes a (applyImage source c s) := by
  unfold applyImage
  extract_lets +onlyGivenNames _ _ s1 s2
  have h2 : Wakes a s2 := (Steady.foldl (fun _ _ k => raise_steady k) (.refl s1)).wakes h.same
  clear_value s2
  extract_lets +onlyGivenNames vals s3 s4 s5
  have h3 : Wakes a s3 := applyValues_wakes h2
  have h4 : Wakes a s4 := (Steady.foldl (fun _ _ k => applyImmediate_steady k) (.refl s3)).wakes h3
  clear_value s4
  have h5 : Wakes a s5 :=
    (imageVersion_steady (.foldl_mem (fun _ _ hx k => imagePage_steady k (imageTables_mem hx)) (.refl s4))).wakes h4
  clear_value s5
  exact applyFeeds_wakes h5.same

theorem selectPattern_wakes (h : Wakes a s) : Wakes a (selectPattern s) := by
  unfold selectPattern
  split
  next k c _ =>
    extract_lets +onlyGivenNames other s1
    have h1 : Wakes a s1 := applyImage_wakes h
    clear_value other s1
    split
    · exact .ite ((raise_steady (.refl s1)).wakes h1) h1
    · exact h1
  next =>
    extract_lets +onlyGivenNames cs _ _ s1
    have h1 : Wakes a s1 := h.same
    refine .ite ((raise_steady (.refl s1)).wakes h1) ((Steady.foldl (fun x c k => ?_) (.refl s1)).wakes h1)
    split
    · exact raise_steady k
    · exact k

theorem startPatternWrite_inv {img cid} (h : s.Inv) : (startPatternWrite img cid s).Inv :=
  h.same

theorem execPatternFlashWriteDone_inv {good} (h : s.Inv) : Ends (execPatternFlashWriteDone good s) := by
  unfold execPatternFlashWriteDone
  refine .next ?_
  split
  · exact h
  · refine .ite h ?_
    extract_lets +onlyGivenNames _ _ s1
    have h1 : s1.Inv := h.same
    exact .ite ((finishOpt_steady (.refl _)).inv h1.same) ((finishOpt_steady (.refl _)).inv h1)

theorem applyFor_inv {cid source c} (h : s.Inv) : (applyFor cid source c s).Keeps := by
  unfold applyFor
  extract_lets +onlyGivenNames x
  have hx : x.Inv := (applyImage_wakes (.refl s)).inv h
  clear_value x
  split
  next u e => exact .now ((waitForImage_steady (.refl _) e).inv hx)
  next => exact ⟨hx, fun _ k => (finish_steady (.refl _)).inv k⟩

theorem patternLoad_inv {cid p} (h : s.Inv) : (patternLoad cid p s).Keeps := by
  unfold patternLoad
  refine .ite (refuse_inv h) ?_
  refine .ite ?_ ?_
  · split
    exact .now h.same
  · refine .ite (refuse_inv h) ?_
    refine .ite (.now h) ?_
    refine .ite ?_ ?_
    · split
      · exact refuse_inv h
      · exact .ite (applyFor_inv h) (refuse_inv h)
    · refine .ite (.now h) ?_
      refine .ite (.now h) ?_
      refine .ite (refuse_inv h) ?_
      extract_lets +onlyGivenNames _ s1
      have h1 : s1.Inv := h.same
      exact .ite (applyFor_inv h1) (.now (startPatternWrite_inv h1))

theorem patternSave_inv {cid p} (h : s.Inv) : (patternSave cid p s).Keeps :=
  .ite (.now h) (.ite (.now h) (.ite (refuse_inv h) (.ite (.now h) (.ite (.now h) (.now (startPatternWrite_inv h))))))

/-! ### Kernels -/

theorem placeKernel_steady {k mask o} (h : Steady a s) : Steady a (placeKernel k mask o s).2 := by
  unfold placeKernel
  extract_lets +onlyGivenNames _ _ _ _ _ _
  split
  · exact h
  · split
    next _ t1 e1 =>
      have h1 : Steady a t1 := (drawBelow_steady h).of_pair e1
      split
      next _ t2 e2 =>
        have h2 : Steady a t2 := (drawBelow_steady h1).of_pair e2
        split
        next _ t3 e3 =>
          have h3 : Steady a t3 := (drawBelow_steady h2).of_pair e3
          exact h3

theorem installObject_inv {k mask cid o} (h : s.Inv) : (installObject k mask cid o s).Keeps := by
  unfold installObject
  refine .ite (.now h) ?_
  refine .ite (.now ((sigFail_steady (.refl _)).inv h)) ?_
  split
  · exact .now h
  · refine .ite (.now h) ?_
    split
    · next t1 e1 =>
        have h1 : t1.Inv := ((placeKernel_steady (.refl _)).of_pair e1).inv h
        exact .now h1
    · next _ _ _ t2 e2 =>
        have h2 : t2.Inv := ((placeKernel_steady (.refl _)).of_pair e2).inv h
        exact .now h2.same

theorem ladleLoad_inv {cid p} (h : s.Inv) : (ladleLoad cid p s).Keeps := by
  unfold ladleLoad
  refine .ite (.now h) ?_
  refine .ite (.now h) ?_
  refine .ite (.now h) ?_
  refine .ite ?_ (.ite (.now h) (.ite (.ite (.now h) (.ite (.now h) (installObject_inv h)))
    (.ite (.now h) (.now h.same))))
  split
  exact .now h.same

theorem finishInstall_steady {i} (h : Steady a s) : Steady a (finishInstall i s) := by
  unfold finishInstall
  extract_lets +onlyGivenNames _ s1
  have h1 : Steady a s1 := h.same
  split
  · extract_lets +onlyGivenNames _ s2
    have h2 : Steady a s2 := h1.same
    extract_lets +onlyGivenNames s3
    have h3 : Steady a s3 := finishOpt_steady h2
    exact serveWaiters_steady (reportVersion_steady h3)
  · extract_lets +onlyGivenNames _ _ _ s4
    have h4 : Steady a s4 := h1.same
    split
    next _ t5 e5 =>
      have h5 : Steady a t5 := (drawBelow_steady h4).of_pair e5
      exact serveWaiters_steady (finishOpt_steady h5)

theorem runReset_steady {e n} (h : Steady a s) : Steady a (runReset e n s) := by
  unfold runReset
  extract_lets +onlyGivenNames _ s1
  have h1 : Steady a s1 := updRunner_steady h.same
  exact updEng_steady h1

theorem execKernelInstall_inv {k e} (h : s.Inv) : Ends (execKernelInstall k e s) := by
  unfold execKernelInstall
  refine .next ?_
  split
  · exact h
  · refine .ite h ?_
    extract_lets +onlyGivenNames s1
    have h1 : s1.Inv := by
      unfold s1
      split
      · extract_lets +onlyGivenNames s2
        have h2 : s2.Inv := (updEng_steady (.refl _)).inv h
        exact .ite ((runReset_steady (.refl _)).inv h2) h2
      · exact h
    extract_lets +onlyGivenNames _ _ s3
    have h3 : s3.Inv := h1.same
    exact .ite ((finishInstall_steady (.refl _)).inv h3) h3

theorem traceRead_inv {p} (h : s.Inv) : (traceRead p s).Keeps := by
  unfold traceRead
  refine .ite (.now h) ?_
  refine .ite (.now h) ?_
  refine .ite (.now h) ?_
  refine .ite (.now h) ?_
  refine .ite ?_ ?_
  · extract_lets +onlyGivenNames _
    split
    exact .now (.ite h.same h)
  · refine .ite ?_ ?_
    · extract_lets +onlyGivenNames _
      split
      exact .now (.ite h.same h)
    · extract_lets +onlyGivenNames _
      split
      exact .now h

/-! ### Firmware -/

theorem setBank_inv {b img} (h : s.Inv) : (setBank b img s).Inv :=
  h.same

theorem eraseBank_inv (h : s.Inv) : (eraseBank s).Inv :=
  setBank_inv h.same

theorem queueWork_inv {w} (h : s.Inv) : (queueWork w s).Inv :=
  h.same

theorem fwStage_inv {cid p} (h : s.Inv) : (fwStage cid p s).Keeps := by
  unfold fwStage
  refine .ite (.now h) ?_
  refine .ite (.now h) ?_
  refine .ite (.now h) ?_
  refine .ite ?_ ?_
  · split
    extract_lets +onlyGivenNames _ _ s1
    have h1 : s1.Inv := h.same
    exact .ite (.now (queueWork_inv (.ite (eraseBank_inv h1) h1))) (.now h1)
  · refine .ite (.ite (.now (queueWork_inv h.same)) (.now h)) ?_
    extract_lets +onlyGivenNames _ s2
    have h2 : s2.Inv := eraseBank_inv h.same
    exact .now (.ite h2 (queueWork_inv h2))

theorem execFwFlashWriteDone_inv (h : s.Inv) : Ends (execFwFlashWriteDone s) := by
  unfold execFwFlashWriteDone
  refine .next ?_
  split
  · exact h
  · extract_lets +onlyGivenNames _ s1
    have h1 : s1.Inv := h.same
    extract_lets +onlyGivenNames s2
    have h2 : s2.Inv := .ite (eraseBank_inv h1) h1
    refine .ite ((finishOpt_steady (.refl _)).inv h2) ?_
    refine .ite ?_ ((finishOpt_steady (.refl _)).inv (setBank_inv h2))
    extract_lets +onlyGivenNames _ s3
    have h3 : s3.Inv := setBank_inv h2.same
    exact (finishOpt_steady (raise_steady (.refl _))).inv h3

theorem activateBank_inv {trial} (h : s.Inv) : (activateBank trial s).Inv :=
  h.same

theorem fwActivate_inv {p} (h : s.Inv) : (fwActivate p s).Keeps :=
  .ite (.now h) (.ite (.now h) (.ite (.now h) (.ite (.ite (.now h) (.now (activateBank_inv h)))
    (.ite (.ite (.now ((raise_steady (.refl _)).inv h.same)) (.now h)) (.ite (.now h) (.now (activateBank_inv h)))))))

theorem execFwActivateReset_inv (h : s.Inv) : Ends (execFwActivateReset s) := by
  unfold execFwActivateReset
  refine .next ?_
  split
  · exact .ite chipReset_inv h
  · exact h

theorem execTrialStageTimeout_inv (h : s.Inv) : Ends (execTrialStageTimeout s) :=
  .next (.ite rollback_inv h)

theorem execTrialTimeExpiry_inv (h : s.Inv) : Ends (execTrialTimeExpiry s) :=
  .next (.ite rollback_inv h)

/-! ### PowerCmd -/

theorem askBlock_steady {b} (h : Steady a s) : Steady a (askBlock b s) := by
  unfold askBlock
  extract_lets +onlyGivenNames _ s1
  have h1 : Steady a s1 := h.same
  exact .ite (answerPower_steady h1) h1

theorem startEntry_steady {target cid ms} (h : Steady a s) : Steady a (startEntry target cid ms s) := by
  unfold startEntry
  extract_lets +onlyGivenNames _ s1
  have h1 : Steady a s1 := h.same
  extract_lets +onlyGivenNames s2
  have h2 : Steady a s2 := setPower_steady h1
  exact askBlock_steady h2

theorem powerRequest_inv {cid p} (h : s.Inv) : (powerRequest cid p s).Keeps := by
  unfold powerRequest
  extract_lets +onlyGivenNames no n ms
  clear_value n
  refine .ite (.now h) (.ite (.now h) (.ite (.now h) ?_))
  split
  · exact ⟨h.same, fun _ k => (startWake_wakes (.refl _)).inv k⟩
  · exact ⟨h, fun _ k => (startEntry_steady (.refl _)).inv k⟩
  · exact ⟨h, fun _ k => (startEntry_steady (.refl _)).inv k⟩

theorem stopBlock_inv {b} (h : s.Inv) : (stopBlock b s).Inv := by
  unfold stopBlock
  extract_lets +onlyGivenNames _ s1
  have h1 : s1.Inv := h.same
  split
  · exact .foldl (fun _ _ h2 => (updWradio_steady (.refl _)).inv h2) h1
  · exact .ite h1 ((setPar_steady (bumpBy_steady (clearPacketPath_steady (.refl _)))).inv h1)
  · exact .ite ((dropLink_steady (.refl _)).inv (resetEndpoint_inv h1)) h1
  · exact h1

theorem startSequencer_wakes (h : Wakes a s) : Wakes a (startSequencer s) := by
  unfold startSequencer
  extract_lets +onlyGivenNames s1 s2 s3
  have h2 : Steady s s2 := .foldl (fun _ _ k => setLane_steady k) (.foldl (fun _ _ k => updEng_steady k) (.refl s))
  have h3 : Wakes a s3 := applyFeeds_wakes (h2.wakes h)
  clear_value s3
  refine .ite ?_ h3.same
  extract_lets +onlyGivenNames s4 s5
  have h5 : Steady s3 s5 := stopStore_steady (.foldl (fun _ _ k => .ite k (setLane_steady k)) (.refl s3))
  clear_value s5
  exact (h5.wakes h3).same

theorem sequencerStep_inv {k} (h : s.Inv) : (sequencerStep k s).Inv := by
  unfold sequencerStep
  extract_lets +onlyGivenNames _
  split
  · exact h.same
  · exact h.same
  · exact (dropGpios_steady (.refl _)).inv h.same

theorem entryDone_steady (h : Steady a s) : Steady a (entryDone s) := by
  unfold entryDone
  extract_lets +onlyGivenNames _ s1
  have h1 : Steady a s1 := setPower_steady h.same
  exact answerPower_steady h1

theorem blockAnswers_inv (h : s.Inv) : (blockAnswers s).Inv := by
  unfold blockAnswers
  refine .ite (.ite ((abortEntry_steady (.refl _)).inv h) h) ?_
  extract_lets +onlyGivenNames s1
  have h1 : s1.Inv := stopBlock_inv h
  exact .ite ((askBlock_steady (.refl _)).inv h1) ((startSequencer_wakes (.refl _)).inv h1)

theorem execEntryBlockDrain_inv (h : s.Inv) : Ends (execEntryBlockDrain s) := by
  unfold execEntryBlockDrain
  refine .next ?_
  refine .ite h ?_
  split
  · exact blockAnswers_inv h
  · extract_lets +onlyGivenNames s1
    have h1 : s1.Inv := sequencerStep_inv h
    split
    · exact (startWake_wakes (Wakes.refl _).same).inv h1
    · extract_lets +onlyGivenNames _ s2
      have h2 : s2.Inv := h1.same
      exact .ite ((entryDone_steady (.refl _)).inv h2) h2

theorem resumeTime_steady (h : Steady a s) : Steady a (resumeTime s) := by
  unfold resumeTime
  split
  · exact h
  · split
    next _ t1 e1 =>
      have h1 : Steady a t1 := (drawBelow_steady h).of_pair e1
      extract_lets +onlyGivenNames _ _ s2
      have h2 : Steady a s2 := .foldl (fun _ _ h3 => updTb_steady h3) h1
      exact h2.same

theorem execWakeSource_inv {b} (h : s.Inv) : Ends (execWakeSource b s) :=
  .next (.ite ((wakeSource_wakes (.refl _)).inv h) h)

theorem execSleepTimerExpiry_inv (h : s.Inv) : Ends (execSleepTimerExpiry s) :=
  .next (.ite ((wakeSource_wakes (Wakes.refl _).same).inv h) h)

theorem restoreBlocks_wakes (h : Wakes a s) : Wakes a (restoreBlocks s) := by
  unfold restoreBlocks
  extract_lets +onlyGivenNames _ _ _ s1
  have h1 : Wakes a s1 := h.same
  extract_lets +onlyGivenNames s2
  have h2 : Wakes a s2 := .ite (.foldl (fun _ _ h3 => (updEng_steady (.refl _)).wakes h3) h1) h1
  extract_lets +onlyGivenNames s4
  have h4 : Wakes a s4 := .ite (.foldl (fun _ _ h5 => (clearRadio_steady (.refl _)).wakes h5) h2) h2
  extract_lets +onlyGivenNames s6
  have h6 : Wakes a s6 := .ite (.foldl (fun _ _ h7 => .ite h7 ((setLane_steady (updLane_steady (.refl _))).wakes h7))
    h4) h4
  extract_lets +onlyGivenNames s8
  have h8 : Wakes a s8 := .ite ((ponStart_steady (.refl _)).wakes h6) h6
  extract_lets +onlyGivenNames s9
  have h9 : Wakes a s9 := .ite (.foldl (fun _ _ h10 => (updDrive_steady (.refl _)).wakes h10) h8) h8
  exact (serveWaiters_steady (.refl _)).wakes (applyFeeds_wakes ((driveGpios_steady (.refl _)).wakes h9))

theorem wakeDone_inv (h : s.Inv) : (wakeDone s).Inv := by
  unfold wakeDone
  extract_lets +onlyGivenNames s1
  have h1 : s1.Inv := (setPower_steady (.refl _)).inv ((restoreBlocks_wakes (.refl _)).inv h)
  extract_lets +onlyGivenNames s2
  have h2 : s2.Inv := by
    unfold s2
    split <;> exact (answerPower_steady (.refl _)).inv h1
  exact runQueued_inv h2

theorem stageReady_inv (h : s.Inv) : (stageReady s).Inv := by
  unfold stageReady
  extract_lets +onlyGivenNames p
  split
  · exact (startStage_wakes (.refl _)).inv h.same
  · exact (startStage_wakes (.refl _)).inv ((resumeTime_steady (.refl _)).inv h.same)
  · exact (startStage_wakes (.refl _)).inv h.same
  · exact wakeDone_inv h

theorem execWakeStageReady_inv (h : s.Inv) : Ends (execWakeStageReady s) :=
  .next (.ite (stageReady_inv h) h)

theorem backOut_inv (h : s.Inv) : (backOut s).Inv := by
  unfold backOut
  extract_lets +onlyGivenNames _ _ s1
  have h1 : s1.Inv := .ite ((dropLink_steady (.refl _)).inv (resetEndpoint_inv h)) h
  extract_lets +onlyGivenNames _ s2
  have h2 : s2.Inv := h1.same
  extract_lets +onlyGivenNames _ s3
  have h3 : s3.Inv := .ite ((dropGpios_steady (.refl _)).inv h2.same) h2
  exact (setPower_steady (Steady.refl _).same).inv h3

theorem execWakeStageTimeout_inv {which} (h : s.Inv) : Ends (execWakeStageTimeout which s) := by
  unfold execWakeStageTimeout
  refine .next ?_
  refine .ite h ?_
  extract_lets +onlyGivenNames _ s1
  have h1 : s1.Inv := (bump_steady (.refl _)).inv (backOut_inv h)
  extract_lets +onlyGivenNames s2
  have h2 : s2.Inv := (raise_steady (.refl _)).inv h1
  exact .ite (runQueued_inv h2.same) (runQueued_inv ((answerPower_steady (raise_steady (.refl _))).inv h2))

theorem execWakeRetry_inv (h : s.Inv) : Ends (execWakeRetry s) := by
  unfold execWakeRetry
  refine .next ?_
  split
  · exact .ite ((startAttempt_wakes (.refl _)).inv h) h
  · exact h

/-! ### Boot -/

theorem updBoot_inv {f : Boot → Boot} (h : s.Inv) (hf : ∀ b, (f b).stage = b.stage) : (updBoot f s).Inv :=
  State.inv_of h.epoch (by rw [show (updBoot f s).boot.stage = s.boot.stage from hf _]; exact h.stage) h.mailbox

theorem execAlwaysOnRailsValid_inv (h : s.Inv) : Ends (execAlwaysOnRailsValid s) :=
  .next (updBoot_inv h (fun _ => rfl))

theorem execPorRelease_inv (h : s.Inv) : Ends (execPorRelease s) :=
  .next (.ite (updBoot_inv h (fun _ => rfl)) h)

theorem execPmicEnableStep_inv (h : s.Inv) : Ends (execPmicEnableStep s) :=
  .next (.ite (updBoot_inv h (fun _ => rfl)) h)

theorem execPmicPgRise_inv (h : s.Inv) : Ends (execPmicPgRise s) :=
  .next (.ite (stageReady_inv h) (.ite (updBoot_inv h (fun _ => rfl)) h))

theorem execPmicPgTimeout_inv (h : s.Inv) : Ends (execPmicPgTimeout s) :=
  .next (.ite (bootHalt_inv (updBoot_inv h (fun _ => rfl))) h)

theorem execBootPllLock_inv {otpOk rngOk} (h : s.Inv) : Ends (execBootPllLock otpOk rngOk s) := by
  unfold execBootPllLock
  refine .next ?_
  refine .ite h ?_
  extract_lets +onlyGivenNames s1
  have h1 : s1.Inv := updBoot_inv h (fun _ => rfl)
  extract_lets +onlyGivenNames s2
  have h2 : s2.Inv := setStage_inv h1
  exact .ite (bootHalt_inv h2) (.ite (bootHalt_inv h2.same) h2)

theorem execXspiResetRelease_inv (h : s.Inv) : Ends (execXspiResetRelease s) :=
  .next (.ite (updBoot_inv h (fun _ => rfl)) h)

theorem execLoaderVerify_inv {responds} (h : s.Inv) : Ends (execLoaderVerify responds s) :=
  .next (.ite h (.ite (bootHalt_inv h) (.ite (updBoot_inv h (fun _ => rfl)) (bootHalt_inv h))))

theorem execDdrTrainingDone_inv {equal gib rate} (h : s.Inv) : Ends (execDdrTrainingDone equal gib rate s) :=
  .next (.ite h (.ite (bootHalt_inv h) (.ite (bootHalt_inv (updBoot_inv h (fun _ => rfl)))
    (.ite (setStage_inv (updBoot_inv h (fun _ => rfl))) h))))

theorem startFirmware_inv {img} (h : s.Inv) : (startFirmware img s).Inv :=
  setStage_inv h.same

theorem execFirmwareVerify_inv (h : s.Inv) : Ends (execFirmwareVerify s) :=
  .next (.ite h (.ite (startFirmware_inv (updBoot_inv h (fun _ => rfl)))
    (.ite (startFirmware_inv (updBoot_inv h (fun _ => rfl))) (bootHalt_inv h))))

theorem answerPush_steady {st} (h : Steady a s) : Steady a (answerPush st s) :=
  handBack_steady (h.mail fun k => k.put 0 _ s.mbx.armed (writeBytes_wf _ _ _ (k.bytes 0)) (k.armed 0) fun _ _ =>
    Iff.rfl)

theorem finishPush_inv {image} (h : s.Inv) : (finishPush image s).Inv := by
  unfold finishPush
  refine .ite ((answerPush_steady (.refl _)).inv h) ?_
  extract_lets +onlyGivenNames s1
  have h1 : s1.Inv := updBoot_inv h (fun _ => rfl)
  refine .ite ?_ ?_
  · extract_lets +onlyGivenNames s2
    have h2 : s2.Inv := (answerPush_steady (.refl _)).inv h1
    exact .ite (updBoot_inv h2 (fun _ => rfl)) (startFirmware_inv h2)
  · extract_lets +onlyGivenNames _ s3
    have h3 : s3.Inv := (answerPush_steady (.refl _)).inv (updBoot_inv h1 (fun _ => rfl))
    exact .ite (bootHalt_inv h3) h3

theorem bootPush_inv (h : s.Inv) : (bootPush s).Inv := by
  unfold bootPush
  refine .ite ((answerPush_steady (.refl _)).inv h) ?_
  refine .ite ((answerPush_steady (.refl _)).inv h) ?_
  refine .ite (finishPush_inv h) ?_
  extract_lets +onlyGivenNames _
  split
  exact (answerPush_steady (.refl _)).inv (updBoot_inv h (fun _ => rfl))

theorem startUnits_wakes (h : Wakes a s) : Wakes a (startUnits s) := by
  unfold startUnits
  extract_lets +onlyGivenNames s1
  have h1 : Wakes a s1 := .foldl (fun _ _ h2 => (applyAch_steady (.refl _)).wakes h2) h
  extract_lets +onlyGivenNames s3
  have h3 : Wakes a s3 := .foldl (fun _ _ h4 => .ite ((startSector_steady (.refl _)).wakes h4) h4) h1
  extract_lets +onlyGivenNames s5
  have h5 : Wakes a s5 := .ite ((ponStart_steady (.refl _)).wakes h3) h3
  extract_lets +onlyGivenNames s6
  have h6 : Wakes a s6 := .foldl (fun _ _ h7 => (applyDriveEnable_steady (.refl _)).wakes h7)
    ((takeCvn_steady (.refl _)).wakes h5)
  exact (serveWaiters_steady (.refl _)).wakes (applyFeeds_wakes ((driveGpios_steady (.refl _)).wakes h6))

theorem execBootReady_inv {bad} (h : s.Inv) : Ends (execBootReady bad s) := by
  unfold execBootReady
  refine .next (.ite h ?_)
  extract_lets +onlyGivenNames s1 s2
  have h1 : s1.Inv := (newChallenge_steady (restoreSlots_steady (.refl s))).inv h
  have h2 : s2.Inv := .ite ((selectPattern_wakes (.refl s1)).inv h1) (updBoot_inv h1 fun _ => rfl)
  clear_value s2
  extract_lets +onlyGivenNames s3
  have h3 : s3.Inv := (startUnits_wakes (.refl _)).inv (setStage_inv h2)
  clear_value s3
  exact .ite ((raise_steady (.refl _)).inv (setStage_inv h3.same))
    (.ite (setStage_inv h3) ((applyRevocations_steady (.refl _)).inv (setStage_inv h3)))

theorem execBootInitTimeout_inv (h : s.Inv) : Ends (execBootInitTimeout s) :=
  .next (.ite (bootHalt_inv h) h)

theorem execResetPin_inv {low} (h : s.Inv) : Ends (execResetPin low s) := by
  unfold execResetPin
  extract_lets +onlyGivenNames s1
  have h1 : s1.Inv := updBoot_inv h (fun _ => rfl)
  exact .next (.ite chipReset_inv h1)

theorem restart_inv (h : s.Inv) : (restart s).Inv :=
  updBoot_inv h.same (fun _ => rfl)

theorem powerFail_inv (h : s.Inv) : (powerFail s).Inv := by
  unfold powerFail
  refine .ite h ?_
  extract_lets +onlyGivenNames s1
  have h1 : s1.Inv := updBoot_inv h (fun _ => rfl)
  extract_lets +onlyGivenNames _ _ s2
  have h2 : s2.Inv := h1.same
  exact .ite ((pump_steady (ringInsert_steady (logFatal_steady (.refl _)))).inv h2) h2

theorem execPowerFail_inv {low} (h : s.Inv) : Ends (execPowerFail low s) := by
  unfold execPowerFail
  extract_lets +onlyGivenNames s1
  have h1 : s1.Inv := updBoot_inv h (fun _ => rfl)
  exact .next (.ite (.ite h (powerFail_inv h1)) (.ite (restart_inv h1) h1))

theorem execPowerdownSequence_inv (h : s.Inv) : Ends (execPowerdownSequence s) := by
  unfold execPowerdownSequence
  refine .next ?_
  refine .ite h ?_
  extract_lets +onlyGivenNames s1
  have h1 : s1.Inv := resetWith_inv
  exact .ite h1 (restart_inv h1)

theorem execPmicPgLoss_inv (h : s.Inv) : Ends (execPmicPgLoss s) := by
  unfold execPmicPgLoss
  extract_lets +onlyGivenNames s1
  have h1 : s1.Inv := updBoot_inv h (fun _ => rfl)
  exact .next (.ite (powerFail_inv h1) h1)

theorem execAonRailLoss_inv : Ends (execAonRailLoss s) := by
  unfold execAonRailLoss
  extract_lets +onlyGivenNames s1
  have h1 : s1.Inv := resetWith_inv
  exact .next h1.same

theorem execThermalTrip_inv {t} (h : s.Inv) : Ends (execThermalTrip t s) :=
  .next (.ite chipReset_inv h)

theorem execThermalTripRelease_inv {t} (h : s.Inv) : Ends (execThermalTripRelease t s) :=
  .next (.ite (updBoot_inv h (fun _ => rfl)) h)

/-! ### Mgmt -/

theorem execHeartbeatTick_inv (h : s.Inv) : Ends (execHeartbeatTick s) :=
  .next (.ite (updBoot_inv h (fun _ => rfl)) h)

theorem execLockstepMismatch_inv {pair ecc} (h : s.Inv) : Ends (execLockstepMismatch pair ecc s) := by
  unfold execLockstepMismatch
  refine .next ?_
  refine .ite h ?_
  extract_lets +onlyGivenNames _ _ s1
  have h1 : s1.Inv := h.same
  extract_lets +onlyGivenNames s2
  have h2 : s2.Inv := (logFatal_steady (.refl _)).inv h1
  exact .ite (bootHalt_inv h2) chipReset_inv

theorem watchdogReset_inv {inst} : (watchdogReset inst s).Inv := chipReset_inv

theorem execHeartbeatWatchdog_inv (h : s.Inv) : Ends (execHeartbeatWatchdog s) :=
  .next (.ite watchdogReset_inv h)

theorem execAonWatchdog_inv (h : s.Inv) : Ends (execAonWatchdog s) :=
  .next (.ite watchdogReset_inv h)

theorem pollRail_steady {i mv} (h : Steady a s) : Steady a (pollRail i mv s) := by
  unfold pollRail
  extract_lets +onlyGivenNames _ _ _ _ s1
  have h1 : Steady a s1 := h.same
  exact .ite h1 (raise_steady h1)

theorem execSensorPoll_inv {temps rails mw} (h : s.Inv) : Ends (execSensorPoll temps rails mw s) := by
  unfold execSensorPoll
  refine .next ?_
  refine .ite h ?_
  split
  extract_lets +onlyGivenNames _ _ _ _ s1
  have h1 : s1.Inv := h.same
  extract_lets +onlyGivenNames s2
  have h2 : s2.Inv := .foldl (fun _ _ h3 => (pollRail_steady (.refl _)).inv h3) h1
  refine .ite h2 ?_
  extract_lets +onlyGivenNames s4
  have h4 : s4.Inv := (raise_steady (.refl _)).inv h2
  exact .ite ((wakeSource_wakes (.refl _)).inv h4) h4

theorem setCapStep_steady {n} (h : Steady a s) : Steady a (setCapStep n s) :=
  serveWaiters_steady (raise_steady h.same)

theorem execCapStepUp_inv (h : s.Inv) : Ends (execCapStepUp s) := by
  unfold execCapStepUp
  refine .next ?_
  split
  · exact .ite ((setCapStep_steady (Steady.refl _).same).inv h) h
  · exact h

theorem execCapStepDown_inv (h : s.Inv) : Ends (execCapStepDown s) := by
  unfold execCapStepDown
  refine .next ?_
  split
  · exact .ite ((setCapStep_steady (Steady.refl _).same).inv h) h
  · exact h

theorem execLogFlashWrite_inv (h : s.Inv) : Ends (execLogFlashWrite s) := by
  unfold execLogFlashWrite
  refine .next ?_
  refine .ite h ?_
  split
  · exact h
  · exact (logAppend_steady (Steady.refl _).same).inv h

theorem execPatrolScrub_inv {ch symbols} (h : s.Inv) : Ends (execPatrolScrub ch symbols s) :=
  .next (.ite h ((bump_steady (.refl _)).inv h))

/-! ### Recasts -/

theorem unitFault_inv {u cause} (h : s.Inv) : (unitFault u cause s).Inv := by
  unfold unitFault
  refine .ite (admitFault_inv h) ?_
  split
  · exact recastEngine_inv h
  · exact recastDrover_inv h
  · exact frontendFault_inv h
  · exact admitFault_inv ((bump_steady (emptyBanks_steady (.refl _))).inv h)
  · exact admitFault_inv h

theorem execFaultAdmit_inv {u cause} (h : s.Inv) : Ends (execFaultAdmit u cause s) :=
  .next (.ite (unitFault_inv h) h)

theorem restoreEngine_steady {e} (h : Steady a s) : Steady a (restoreEngine e s) :=
  updEng_steady h

theorem dropPass_steady {r} (h : Steady a s) : Steady a (dropPass r s) :=
  updCal_steady h

theorem resetTasks_steady (h : Steady a s) : Steady a (resetTasks s) :=
  h.same

theorem resetDevice_steady (h : Steady a s) : Steady a (resetDevice s) := by
  unfold resetDevice
  extract_lets +onlyGivenNames s1
  have h1 : Steady a s1 := .foldl (fun _ _ h2 => stopSprue_steady h2) h
  extract_lets +onlyGivenNames s3
  have h3 : Steady a s3 := .foldl (fun _ _ h4 => emptyBanks_steady (dropPass_steady (clearRadio_steady h4))) h1
  extract_lets +onlyGivenNames s5
  have h5 : Steady a s5 := stopStore_steady (clearPacketPath_steady (ponRecast_steady h3))
  extract_lets +onlyGivenNames s6
  have h6 : Steady a s6 := .foldl (fun _ _ h7 => .ite h7 (setLane_steady h7)) h5
  exact resetTasks_steady h6

theorem resetUnit_steady {u} (h : Steady a s) : Steady a (resetUnit u s) := by
  unfold resetUnit
  split
  · exact updMould_steady h
  · exact dropPass_steady (clearRadio_steady h)
  · exact ponRecast_steady h
  · exact clearPacketPath_steady h
  · exact stopStore_steady h
  · exact resetDevice_steady h
  · exact h

theorem restoreUnit_steady {u} (h : Steady a s) : Steady a (restoreUnit u s) := by
  unfold restoreUnit
  split
  · exact restoreEngine_steady h
  · exact .foldl (fun _ _ h1 => restoreEngine_steady h1) h
  · exact h

theorem resumeUnit_steady {u} (h : Steady a s) : Steady a (resumeUnit u s) := by
  unfold resumeUnit
  split
  · exact achRecastDone_steady h
  · extract_lets +onlyGivenNames _ s1
    have h1 : Steady a s1 := h.same
    exact serveWaiters_steady (.foldl (fun _ _ h2 => achRecastDone_steady h2) h1)
  · exact serveWaiters_steady h

theorem setRecast_inv {u st} (h : s.Inv) : (setRecast u st s).Inv :=
  h.same

theorem endRecast_inv {u} (h : s.Inv) : (endRecast u s).Inv :=
  h.same

theorem hold_inv {cause} (h : s.Inv) : (hold cause s).Inv := by
  unfold hold
  extract_lets +onlyGivenNames _ s1
  have h1 : s1.Inv := endRecast_inv h.same
  extract_lets +onlyGivenNames s2
  have h2 : s2.Inv := (raise_steady (.refl _)).inv h1
  exact .ite rollback_inv h2

theorem execRecastResetDone_inv {u} (h : s.Inv) : Ends (execRecastResetDone u s) := by
  unfold execRecastResetDone
  refine .next ?_
  split
  · exact h
  · extract_lets +onlyGivenNames s1
    have h1 : s1.Inv := (resetUnit_steady (.refl _)).inv h
    exact .ite (hold_inv h1) (setRecast_inv h1)

theorem execRecastRestoreDone_inv {u} (h : s.Inv) : Ends (execRecastRestoreDone u s) := by
  unfold execRecastRestoreDone
  refine .next ?_
  split
  · exact h
  · exact setRecast_inv ((restoreUnit_steady (.refl _)).inv h)

theorem execRecastResumeDone_inv {u} (h : s.Inv) : Ends (execRecastResumeDone u s) := by
  unfold execRecastResumeDone
  refine .next ?_
  split
  · exact h
  · exact runQueued_inv ((resumeUnit_steady (.refl _)).inv (endRecast_inv h))

/-! ### HostCmd -/

theorem recastDev_inv (h : s.Inv) : (recastDev s).Inv :=
  .ite h (.ite (startRecast_inv h.same) (admitFault_inv h))

theorem execChipReset_inv (h : s.Inv) : Ends (execChipReset s) :=
  .next (.ite chipReset_inv h)

theorem execRecastDev_inv (h : s.Inv) : Ends (execRecastDev s) :=
  .next (.ite (recastDev_inv h) h)

theorem ringDoorbell_steady {n producer} (h : Steady a s) : Steady a (ringDoorbell n producer s) :=
  .ite (updRing_steady h) (bump_steady h)

theorem execRxqDb_inv {n producer} (h : s.Inv) : Ends (execRxqDb n producer s) :=
  .next (.ite ((ringDoorbell_steady (.refl _)).inv h) h)

theorem execTxqDb_inv {n producer} (h : s.Inv) : Ends (execTxqDb n producer s) :=
  .next (.ite ((ringDoorbell_steady (.refl _)).inv h) h)

theorem unlessBusy_inv {g r} (h : s.Inv) (hr : Reply.Keeps r) : (unlessBusy g s r).Keeps := .ite (.now h) hr

theorem runOpcode_inv {op cid p} (h : s.Inv) : (runOpcode op cid p s).Keeps := by
  unfold runOpcode
  split
  · exact hello_inv h
  · exact bye_inv h
  · exact paramGet_inv h
  · exact paramSet_inv h
  · exact paramCommit_inv h
  · exact paramAbort_inv h
  · exact tableWrite_inv h
  · exact tableRead_inv h
  · exact tableCommit_inv h
  · exact keyInstall_inv h
  · exact keyRetire_inv h
  · exact unlessBusy_inv h (storeInfo_inv h)
  · exact unlessBusy_inv h (storeCreate_inv h)
  · exact unlessBusy_inv h (storeWrite_inv h)
  · exact unlessBusy_inv h (storeIngest_inv h)
  · exact unlessBusy_inv h (storeSeal_inv h)
  · exact unlessBusy_inv h (storeDelete_inv h)
  · exact unlessBusy_inv h (storeStat_inv h)
  · exact unlessBusy_inv h (storeRead_inv h)
  · exact unlessBusy_inv h (storeSplice_inv h)
  · exact unlessBusy_inv h (storeSplice_inv h)
  · exact unlessBusy_inv h (storeCancel_inv h)
  · exact fwStage_inv h
  · exact fwActivate_inv h
  · exact patternSave_inv h
  · exact patternLoad_inv h
  · exact powerRequest_inv h
  · exact ladleLoad_inv h
  · exact traceRead_inv h
  · exact unlessBusy_inv h (snapshot_inv h)
  · exact .now h

theorem answer_steady {o st body} (h : Steady a s) : Steady a (answer o st body s) :=
  respond_steady (h.mail fun k => k.of_eq rfl rfl)

theorem concludeCommand_inv {o r} (h : s.Inv) (hr : Reply.Keeps r) : (concludeCommand o r s).Inv := by
  obtain ⟨h1, h2⟩ := hr
  refine .ite (.ite (h2 _ h1) (.ite ((answer_steady (.refl s)).inv h) (h2 _ ?_))) (h2 _ ?_)
  · exact (respond_steady (.refl _)).inv (h1.mail fun k => k.of_eq rfl rfl)
  · split
    · exact (answer_steady (.refl _)).inv h1
    · exact h1

theorem runCommand_inv {w} (h : s.Inv) (hw : (s.win w).hold ≠ .armed) : (runCommand w s).Inv := by
  unfold runCommand
  extract_lets +onlyGivenNames b hd cid o _ _ x
  have hx : x.Inv := h.mail fun k =>
    (k.put w { s.win w with hold := .command cid } s.mbx.armed (k.bytes w) (by simpa [h.armed] using hw) fun _ _ =>
      Iff.rfl).of_eq rfl rfl
  clear_value x
  split
  · exact (pump_steady (answer_steady (.refl x))).inv hx
  · exact (pump_steady (.refl _)).inv (concludeCommand_inv hx (runOpcode_inv hx))

theorem postWindow_inv {w} (h : s.Inv) : (postWindow w s).Inv := by
  unfold postWindow
  split
  · exact (protoError_steady (.refl s)).inv h
  next hw =>
    refine .ite (bootPush_inv h) (.ite (runCommand_inv h ?_) ((protoError_steady (.refl s)).inv h))
    intro e
    simp [State.owns, e] at hw

theorem execPost_inv {w} (h : s.Inv) : Ends (execPost w s) :=
  .next (.ite (postWindow_inv h) h)

theorem writeWindow_steady {w off b} (h : Steady a s) : Steady a (writeWindow w off b s) :=
  .ite (protoError_steady h)
    (h.mail fun k => k.put w _ s.mbx.armed (writeBytes_wf _ _ _ (k.bytes w)) (k.armed w) fun _ _ => Iff.rfl)

theorem writeCtrl_inv {w v} (h : s.Inv) : (writeCtrl w v s).Inv := by
  unfold writeCtrl
  refine .ite ((protoError_steady (.refl _)).inv h) ?_
  split
  · exact postWindow_inv h
  · exact (armWindow_steady (.refl _)).inv h
  · exact (recallWindow_steady (.refl _)).inv h
  · exact .ite ((protoError_steady (.refl _)).inv h) h

theorem writeResetCtrl_inv {v} (h : s.Inv) : (writeResetCtrl v s).Inv :=
  .ite (.ite chipReset_inv h) (.ite (recastDev_inv h) h)

theorem writeRegister_inv {off v} (h : s.Inv) : (writeRegister off v s).Inv :=
  .ite (writeResetCtrl_inv h) (.ite (.ite (writeCtrl_inv h) (.ite ((clearProtoErr_steady (.refl _)).inv h) h))
    (.ite ((ringDoorbell_steady (.refl _)).inv h) h))

theorem execRegisterWrite_inv {off b} (h : s.Inv) : Ends (execRegisterWrite off b s) :=
  .next (.ite h (.ite (.ite (writeRegister_inv h) h) (.ite ((writeWindow_steady (.refl _)).inv h) h)))

theorem sendMessage_inv {w op m} (h : s.Inv) : (sendMessage w op m s).Inv :=
  .ite (postWindow_inv ((writeWindow_steady (.refl _)).inv h)) h

theorem execHello_inv {w m} (h : s.Inv) : Ends (execHello w m s) :=
  .next (sendMessage_inv h)

theorem execBye_inv {w m} (h : s.Inv) : Ends (execBye w m s) :=
  .next (sendMessage_inv h)

theorem execParamGet_inv {w m} (h : s.Inv) : Ends (execParamGet w m s) :=
  .next (sendMessage_inv h)

theorem execParamSet_inv {w m} (h : s.Inv) : Ends (execParamSet w m s) :=
  .next (sendMessage_inv h)

theorem execParamCommit_inv {w m} (h : s.Inv) : Ends (execParamCommit w m s) :=
  .next (sendMessage_inv h)

theorem execParamAbort_inv {w m} (h : s.Inv) : Ends (execParamAbort w m s) :=
  .next (sendMessage_inv h)

theorem execTableWrite_inv {w m} (h : s.Inv) : Ends (execTableWrite w m s) :=
  .next (sendMessage_inv h)

theorem execTableRead_inv {w m} (h : s.Inv) : Ends (execTableRead w m s) :=
  .next (sendMessage_inv h)

theorem execTableCommit_inv {w m} (h : s.Inv) : Ends (execTableCommit w m s) :=
  .next (sendMessage_inv h)

theorem execKeyRetire_inv {w m} (h : s.Inv) : Ends (execKeyRetire w m s) :=
  .next (sendMessage_inv h)

theorem execStoreInfo_inv {w m} (h : s.Inv) : Ends (execStoreInfo w m s) :=
  .next (sendMessage_inv h)

theorem execStoreCreate_inv {w m} (h : s.Inv) : Ends (execStoreCreate w m s) :=
  .next (sendMessage_inv h)

theorem execStoreWrite_inv {w m} (h : s.Inv) : Ends (execStoreWrite w m s) :=
  .next (sendMessage_inv h)

theorem execStoreIngest_inv {w m} (h : s.Inv) : Ends (execStoreIngest w m s) :=
  .next (sendMessage_inv h)

theorem execStoreSeal_inv {w m} (h : s.Inv) : Ends (execStoreSeal w m s) :=
  .next (sendMessage_inv h)

theorem execStoreDelete_inv {w m} (h : s.Inv) : Ends (execStoreDelete w m s) :=
  .next (sendMessage_inv h)

theorem execStoreStat_inv {w m} (h : s.Inv) : Ends (execStoreStat w m s) :=
  .next (sendMessage_inv h)

theorem execStoreRead_inv {w m} (h : s.Inv) : Ends (execStoreRead w m s) :=
  .next (sendMessage_inv h)

theorem execStoreSpliceTcp_inv {w m} (h : s.Inv) : Ends (execStoreSpliceTcp w m s) :=
  .next (sendMessage_inv h)

theorem execStoreSpliceMcast_inv {w m} (h : s.Inv) : Ends (execStoreSpliceMcast w m s) :=
  .next (sendMessage_inv h)

theorem execStoreCancel_inv {w m} (h : s.Inv) : Ends (execStoreCancel w m s) :=
  .next (sendMessage_inv h)

theorem execFwStage_inv {w m} (h : s.Inv) : Ends (execFwStage w m s) :=
  .next (sendMessage_inv h)

theorem execFwActivate_inv {w m} (h : s.Inv) : Ends (execFwActivate w m s) :=
  .next (sendMessage_inv h)

theorem execPatternSave_inv {w m} (h : s.Inv) : Ends (execPatternSave w m s) :=
  .next (sendMessage_inv h)

theorem execPatternLoad_inv {w m} (h : s.Inv) : Ends (execPatternLoad w m s) :=
  .next (sendMessage_inv h)

theorem execPowerRequest_inv {w m} (h : s.Inv) : Ends (execPowerRequest w m s) :=
  .next (sendMessage_inv h)

theorem execLadleLoad_inv {w m} (h : s.Inv) : Ends (execLadleLoad w m s) :=
  .next (sendMessage_inv h)

theorem execTraceRead_inv {w m} (h : s.Inv) : Ends (execTraceRead w m s) :=
  .next (sendMessage_inv h)

theorem execSnapshot_inv {w m} (h : s.Inv) : Ends (execSnapshot w m s) :=
  .next (sendMessage_inv h)

theorem execKeyInstall_inv {w m flashOk} (h : s.Inv) : Ends (execKeyInstall w m flashOk s) := by
  unfold execKeyInstall
  extract_lets +onlyGivenNames _ s1
  have h1 : s1.Inv := sendMessage_inv h.same
  exact .next h1.same

theorem execBootPush_inv {b} (h : s.Inv) : Ends (execBootPush b s) :=
  .next (.ite (postWindow_inv ((writeWindow_steady (.refl _)).inv h)) h)

/-! ### Pins -/

theorem updJtag_steady {f} (h : Steady a s) : Steady a (updJtag f s) :=
  h.same

theorem tckFall_steady (h : Steady a s) : Steady a (tckFall s) := by
  unfold tckFall
  extract_lets +onlyGivenNames _ _ _
  split
  · exact h.same
  · exact h.same
  · exact h.same
  · refine .ite ?_ h.same
    split
    next _ t1 e1 =>
      have h1 : Steady a t1 := (drawBelow_steady h).of_pair e1
      exact updJtag_steady h1
  · exact h.same

theorem execJtagTckEdge_inv {rising tms tdi balls} (h : s.Inv) : Ends (execJtagTckEdge rising tms tdi balls s) :=
  .next (.ite h (.ite ((updJtag_steady (.refl _)).inv h) ((tckFall_steady (.refl _)).inv h)))

theorem execJtagTrstLLow_inv (h : s.Inv) : Ends (execJtagTrstLLow s) :=
  .next ((updJtag_steady (.refl _)).inv h)

/-! ### Tick -/

theorem countCycle_steady {e} (h : Steady a s) : Steady a (countCycle e s) := by
  unfold countCycle
  refine .ite ?_ h
  extract_lets +onlyGivenNames s1
  have h1 : Steady a s1 := bump_steady h
  exact .ite (bump_steady h1) h1

theorem coreCycle_steady (h : Steady a s) : Steady a (coreCycle s) :=
  .foldl (fun _ _ h1 => countCycle_steady h1) (tickTime_steady h)

/-! ### Dispatch -/

theorem exec_inv {i} (h : s.Inv) : Ends (exec i s) := by
  unfold exec
  split
  · exact execFundamentalReset_inv h
  · exact execHotReset_inv h
  · exact execFunctionLevelReset_inv h
  · exact execHostLinkDown_inv h
  · exact execHostLinkUp_inv h
  · exact execMsixUnmask_inv h
  · exact execChipReset_inv h
  · exact execRecastDev_inv h
  · exact execPost_inv h
  · exact execArm_inv h
  · exact execRecall_inv h
  · exact execProtoErrClear_inv h
  · exact execRxqDb_inv h
  · exact execTxqDb_inv h
  · exact execRegisterWrite_inv h
  · exact execBootPush_inv h
  · exact execHello_inv h
  · exact execBye_inv h
  · exact execParamGet_inv h
  · exact execParamSet_inv h
  · exact execParamCommit_inv h
  · exact execParamAbort_inv h
  · exact execTableWrite_inv h
  · exact execTableRead_inv h
  · exact execTableCommit_inv h
  · exact execKeyInstall_inv h
  · exact execKeyRetire_inv h
  · exact execStoreInfo_inv h
  · exact execStoreCreate_inv h
  · exact execStoreWrite_inv h
  · exact execStoreIngest_inv h
  · exact execStoreSeal_inv h
  · exact execStoreDelete_inv h
  · exact execStoreStat_inv h
  · exact execStoreRead_inv h
  · exact execStoreSpliceTcp_inv h
  · exact execStoreSpliceMcast_inv h
  · exact execStoreCancel_inv h
  · exact execFwStage_inv h
  · exact execFwActivate_inv h
  · exact execPatternSave_inv h
  · exact execPatternLoad_inv h
  · exact execPowerRequest_inv h
  · exact execLadleLoad_inv h
  · exact execTraceRead_inv h
  · exact execSnapshot_inv h
  · exact execEventBatchTimeout_inv h
  · exact execHeartbeatTick_inv h
  · exact execSafePointApply_inv h
  · exact execTablePageSwitch_inv h
  · exact execStandbyCopyDone_inv h
  · exact execVersionRetire_inv h
  · exact execPatternFlashWriteDone_inv h
  · exact execAlwaysOnRailsValid_inv h
  · exact execPorRelease_inv h
  · exact execPmicEnableStep_inv h
  · exact execPmicPgRise_inv h
  · exact execPmicPgTimeout_inv h
  · exact execBootPllLock_inv h
  · exact execXspiResetRelease_inv h
  · exact execLoaderVerify_inv h
  · exact execFirmwareVerify_inv h
  · exact execDdrTrainingDone_inv h
  · exact execBootReady_inv h
  · exact execBootInitTimeout_inv h
  · exact execTrialStageTimeout_inv h
  · exact execTrialTimeExpiry_inv h
  · exact execFwActivateReset_inv h
  · exact execFwFlashWriteDone_inv h
  · exact execResetPin_inv h
  · exact execPowerFail_inv h
  · exact execPowerdownSequence_inv h
  · exact execPmicPgLoss_inv h
  · exact execAonRailLoss_inv
  · exact execThermalTrip_inv h
  · exact execThermalTripRelease_inv h
  · exact execLockstepMismatch_inv h
  · exact execHeartbeatWatchdog_inv h
  · exact execAonWatchdog_inv h
  · exact execSensorPoll_inv h
  · exact execCapStepUp_inv h
  · exact execCapStepDown_inv h
  · exact execLogFlashWrite_inv h
  · exact execRngHealthFail_inv h
  · exact execRngReseed_inv h
  · exact execEntryBlockDrain_inv h
  · exact execWakeSource_inv h
  · exact execSleepTimerExpiry_inv h
  · exact execWakeStageReady_inv h
  · exact execWakeStageTimeout_inv h
  · exact execWakeRetry_inv h
  · exact execFaultAdmit_inv h
  · exact execRecastResetDone_inv h
  · exact execRecastRestoreDone_inv h
  · exact execRecastResumeDone_inv h
  · exact execLanePllLock_inv h
  · exact execLanePllTimeout_inv h
  · exact execLaneCdrLock_inv h
  · exact execLaneAcqTimeout_inv h
  · exact execLaneMarkerRx_inv h
  · exact execLaneTrainTimeout_inv h
  · exact execLaneFaultExpiry_inv h
  · exact execLaneClockLoss_inv h
  · exact execLanePcsLock_inv h
  · exact execLanePcsLoss_inv h
  · exact execLanePolarityRetry_inv h
  · exact execLaneCodewordRx_inv h
  · exact execLaneWakeTimeout_inv h
  · exact execEeeTxEntry_inv h
  · exact execEeeTxWake_inv h
  · exact execEeeRxLpi_inv h
  · exact execEeeRxWake_inv h
  · exact execLpiGateWake_inv h
  · exact execLinkFrameTx_inv h
  · exact execLinkFrameRx_inv h
  · exact execLinkDefectPersist_inv h
  · exact execLinkSecondLatch_inv h
  · exact execHeadId_inv h
  · exact execAck_inv h
  · exact execEcho_inv h
  · exact execHeadAlarm_inv h
  · exact execRxGainApplied_inv h
  · exact execTelemetry_inv h
  · exact execHeadRfCaps_inv h
  · exact execCcReservedType_inv h
  · exact execCcRetryTimeout_inv h
  · exact execEchoPeriod_inv h
  · exact execLayoutAckDeadline_inv h
  · exact execLayoutEffect_inv h
  · exact execSpareSwitchEffect_inv h
  · exact execGainControlTick_inv h
  · exact execGainAckDeadline_inv h
  · exact execGainEffective_inv h
  · exact execAchAbsentTimeout_inv h
  · exact execAchFrontendFault_inv h
  · exact execCalPeriodExpiry_inv h
  · exact execCalWindowGrant_inv h
  · exact execCalTurn_inv h
  · exact execCalPassEnd_inv h
  · exact execCalDeferTimeout_inv h
  · exact execFeedShort_inv h
  · exact execFeedReversed_inv h
  · exact execFeedAdcSample_inv h
  · exact execFeedCheckEnd_inv h
  · exact execFeedInrushEnd_inv h
  · exact execFeedBackoffEnd_inv h
  · exact execFeedReversedClear_inv h
  · exact execFeedRetryReset_inv h
  · exact execRoundComplete_inv h
  · exact execSetBegin_inv h
  · exact execWeightEntry_inv h
  · exact execColmap_inv h
  · exact execSetEnd_inv h
  · exact execConfirm_inv h
  · exact execDiscard_inv h
  · exact execSetLoadTimeout_inv h
  · exact execUpdateLate_inv h
  · exact execSwitchPoint_inv h
  · exact execChannelUnusable_inv h
  · exact execSymbolAssay_inv h
  · exact execStaReportRefresh_inv h
  · exact execAoaDetection_inv h
  · exact execTbtt_inv h
  · exact execFilsDiscovery_inv h
  · exact execChannelAccess_inv h
  · exact execTxInterval_inv h
  · exact execPpduRx_inv h
  · exact execNewPreamble_inv h
  · exact execSoundingRoundStart_inv h
  · exact execRestrictedSpStart_inv h
  · exact execJobFetch_inv h
  · exact execJobDone_inv h
  · exact execPostCtl_inv h
  · exact execWlPush_inv h
  · exact execDmaGo_inv h
  · exact execDmaStatus_inv h
  · exact execIcuClaim_inv h
  · exact execIcuComplete_inv h
  · exact execMaskSet_inv h
  · exact execMaskClr_inv h
  · exact execPendSet_inv h
  · exact execPendClr_inv h
  · exact execRoundAck_inv h
  · exact execSwpAck_inv h
  · exact execDbSet_inv h
  · exact execDbClr_inv h
  · exact execSecAck_inv h
  · exact execTmrAck_inv h
  · exact execTimerCompare_inv h
  · exact execInterruptEntry_inv h
  · exact execJobWatchdog_inv h
  · exact execEngineWake_inv h
  · exact execKernelInstall_inv h
  · exact execLeCmac_inv h
  · exact execLeCmacc_inv h
  · exact execLeCmsu_inv h
  · exact execLeCmpy_inv h
  · exact execLeCmpyc_inv h
  · exact execLeQmac_inv h
  · exact execLeQmpy_inv h
  · exact execLeMac_inv h
  · exact execLeMsu_inv h
  · exact execLeMpy_inv h
  · exact execLeFirmv_inv h
  · exact execLeFirmvr_inv h
  · exact execLeFeed_inv h
  · exact execLeAclr_inv h
  · exact execLeAadd_inv h
  · exact execLeAsub_inv h
  · exact execLeAneg_inv h
  · exact execLeAabs_inv h
  · exact execLeAshl_inv h
  · exact execLeAshr_inv h
  · exact execLeAshv_inv h
  · exact execLeArnd_inv h
  · exact execLeAmov_inv h
  · exact execLeAnorm_inv h
  · exact execLeAext_inv h
  · exact execLeAins_inv h
  · exact execLePack_inv h
  · exact execLeAdd_inv h
  · exact execLeSub_inv h
  · exact execLeAnd_inv h
  · exact execLeOr_inv h
  · exact execLeXor_inv h
  · exact execLeShl_inv h
  · exact execLeShr_inv h
  · exact execLeSar_inv h
  · exact execLeMin_inv h
  · exact execLeMax_inv h
  · exact execLeCmp_inv h
  · exact execLeCls_inv h
  · exact execLeMov_inv h
  · exact execLeAdd16_inv h
  · exact execLeSub16_inv h
  · exact execLeConj_inv h
  · exact execLeSwap_inv h
  · exact execLeRcp_inv h
  · exact execLeRsq_inv h
  · exact execLeMovi_inv h
  · exact execLeMovu_inv h
  · exact execLeAddi_inv h
  · exact execLeAndi_inv h
  · exact execLeOri_inv h
  · exact execLeCmpi_inv h
  · exact execLeShli_inv h
  · exact execLeSari_inv h
  · exact execLeLdx_inv h
  · exact execLeStx_inv h
  · exact execLeLdy_inv h
  · exact execLeSty_inv h
  · exact execLeBr_inv h
  · exact execLeCall_inv h
  · exact execLeRet_inv h
  · exact execLeLoop_inv h
  · exact execLeLoopi_inv h
  · exact execLeReti_inv h
  · exact execLeBri_inv h
  · exact execLeCalli_inv h
  · exact execLeNop_inv h
  · exact execLeWait_inv h
  · exact execLeIn_inv h
  · exact execLeOut_inv h
  · exact execLeMfs_inv h
  · exact execLeMts_inv h
  · exact execLeSetm_inv h
  · exact execLeClrm_inv h
  · exact execLeFence_inv h
  · exact execLeBreak_inv h
  · exact execPonDsFrame_inv h
  · exact execXgemFrameRx_inv h
  · exact execBurstProfile_inv h
  · exact execAssignOnuId_inv h
  · exact execRangingTime_inv h
  · exact execDeactivateOnuId_inv h
  · exact execDisableSerialNumber_inv h
  · exact execRequestRegistration_inv h
  · exact execAssignAllocId_inv h
  · exact execKeyControl_inv h
  · exact execSleepAllow_inv h
  · exact execUnsupportedPloam_inv h
  · exact execTo1Expiry_inv h
  · exact execTo2Expiry_inv h
  · exact execPonLosChange_inv h
  · exact execBwmapAllocation_inv h
  · exact execUsPrefetch_inv h
  · exact execBurstStart_inv h
  · exact execRogueDetect_inv h
  · exact execTxFaultChange_inv h
  · exact execTodWaitTimeout_inv h
  · exact execAutoDwellExpiry_inv h
  · exact execPsIntervalExpiry_inv h
  · exact execDdmPoll_inv h
  · exact execPonSecondLatch_inv h
  · exact execPacketIngress_inv h
  · exact execPoolAlloc_inv h
  · exact execWaybillGive_inv h
  · exact execWaybillRelease_inv h
  · exact execReplication_inv h
  · exact execReinject_inv h
  · exact execFlowAgeing_inv h
  · exact execDroverWatchdog_inv h
  · exact execEnqueue_inv h
  · exact execDequeueDecision_inv h
  · exact execGateEntryStart_inv h
  · exact execGateListSwitch_inv h
  · exact execBucketOverflow_inv h
  · exact execDrrStarvation_inv h
  · exact execQueueSampleSweep_inv h
  · exact execSprueRunStart_inv h
  · exact execSprueRunComplete_inv h
  · exact execTxPacketFetch_inv h
  · exact execRingIrqTimer_inv h
  · exact execDriveLinkUp_inv h
  · exact execDriveInitDone_inv h
  · exact execDriveInitTimeout_inv h
  · exact execDriveLinkDown_inv h
  · exact execNvmeTimeout_inv h
  · exact execSpliceSegment_inv h
  · exact execDeleteFinish_inv h
  · exact execEthFrameRx_inv h
  · exact execEthFrameTxStart_inv h
  · exact execEthLinkChange_inv h
  · exact execLldpTx_inv h
  · exact execLldpTtlExpiry_inv h
  · exact execPtpTimestamp_inv h
  · exact execPpsInEdge_inv h
  · exact execPpsInLoss_inv h
  · exact execPpsOutRise_inv h
  · exact execPpsOutFall_inv h
  · exact execBeaconTx_inv h
  · exact execUrgentTx_inv h
  · exact execCaravanPacketRx_inv h
  · exact execSuperframeStart_inv h
  · exact execFibreHoldExpiry_inv h
  · exact execChannelRound_inv h
  · exact execRootBurnDone_inv h
  · exact execGpioEdge_inv h
  · exact execNvmeCompletion_inv h
  · exact execDriveFatalStatus_inv h
  · exact execRestrictedSpEnd_inv h
  · exact execFragmentReassemblyTimeout_inv h
  · exact execJtagTckEdge_inv h
  · exact execJtagTrstLLow_inv h
  · exact execPatrolScrub_inv h

/-! ### Step -/

theorem withPending_steady {l} (h : Steady a s) : Steady a (s.withPending l) := h.same

theorem step_inv (h : s.Inv) : Ends (step s) := by
  unfold step
  split
  · exact .next ((coreCycle_steady (.refl _)).inv h)
  · exact exec_inv ((withPending_steady (.refl _)).inv h)

end Sys2Proof.Machine
end
section
/-! ## The obligations about the invariant -/
namespace Sys2Proof.Machine

/-- Settles O2, field by field of the reset state. -/
theorem resetHoldsTheStatedValues : Obligations.ResetHoldsTheStatedValues := by
  unfold Obligations.ResetHoldsTheStatedValues
  exact ⟨rfl, rfl, fun _ => ⟨rfl, rfl, rfl⟩, rfl, rfl, rfl, rfl, rfl, rfl, rfl, rfl, rfl, rfl, rfl, fun _ _ => ⟨rfl, rfl⟩,
    fun _ => ⟨rfl, rfl, rfl⟩, fun _ => rfl, fun _ => rfl, rfl, rfl, rfl⟩

/-- Settles O3: the reset state's epoch is 1, its boot stage 0, and no window is listed. -/
theorem invariantHoldsAtReset : Obligations.InvariantHoldsAtReset := by
  unfold Obligations.InvariantHoldsAtReset
  exact State.inv_of ⟨Nat.le_refl 1, (by decide : 1 ≤ 0xFFFFFFFF)⟩ (Or.inl (Nat.zero_le 5)) MailboxOk.reset

/-- Settles O4: every command's meaning keeps the invariant (`exec_inv`), and so does a core cycle. -/
theorem invariantKeptByEveryStep : Obligations.InvariantKeptByEveryStep := by
  unfold Obligations.InvariantKeptByEveryStep
  intro s t h e
  have ht : Ends (step s) := step_inv h
  rw [e] at ht
  exact ht

end Sys2Proof.Machine
end
section
/-! ## Resets and losses of supply -/
namespace Sys2Proof.Machine

variable {s t : State}

/-! ### Commands that act on a condition -/

theorem Answers.of_eq {i : Instr} {P : State → Prop} (e : exec i s = .next t) (h : P t) : Answers i s P := ⟨t, e, h⟩

theorem Answers.of_pos {i : Instr} {P : State → Prop} {c : Prop} [Decidable c] {x y : State}
    (e : exec i s = .next (if c then x else y)) (hc : c) (h : P x) : Answers i s P :=
  .of_eq (e.trans (by rw [if_pos hc])) h

theorem Answers.of_neg {i : Instr} {P : State → Prop} {c : Prop} [Decidable c] {x y : State}
    (e : exec i s = .next (if c then x else y)) (hc : ¬c) (h : P y) : Answers i s P :=
  .of_eq (e.trans (by rw [if_neg hc])) h

/-! ### The chip after a reset -/

/-- An interrupted write of a Pattern image leaves its mark in that image's region alone. -/
theorem cutPatternWrite_eq (s : State) :
    ∃ k x, cutPatternWrite s = { s with free := k, flash := { s.flash with pattern := x } } := by
  unfold cutPatternWrite
  split
  · exact ⟨s.free, s.flash.pattern, rfl⟩
  · exact ⟨_, _, rfl⟩

/-- `t` agrees with `s` in what a reset of the chip reads: the count of boots and what survives. -/
structure Survives (s t : State) : Prop where
  count : t.boot.count = s.boot.count
  flash : t.flash.bank = s.flash.bank ∧ t.flash.loader = s.flash.loader
  otp : t.sec.custRoot = s.sec.custRoot ∧ t.sec.svn = s.sec.svn ∧ t.sec.revoked = s.sec.revoked ∧ t.sec.records = s.sec.records
  board : t.gpio = s.gpio ∧ t.jtag = s.jtag
  pending : t.pending = s.pending

theorem Restarted.of_survives {u : State} {cause : Nat} (h : Survives s t) (k : Restarted cause t u) : Restarted cause s u where
  session := k.session
  epoch := k.epoch
  count := by rw [k.count, h.count]
  cause := k.cause
  stage := k.stage
  running := k.running
  windows := k.windows
  params := k.params
  time := k.time
  power := k.power
  packets := k.packets
  slots := k.slots
  flash := ⟨k.flash.1.trans h.flash.1, k.flash.2.trans h.flash.2⟩
  otp := by
    obtain ⟨h1, h2, h3, h4⟩ := h.otp
    obtain ⟨k1, k2, k3, k4⟩ := k.otp
    exact ⟨k1.trans h1, k2.trans h2, k3.trans h3, k4.trans h4⟩
  board := ⟨k.board.1.trans h.board.1, k.board.2.trans h.board.2⟩
  pending := k.pending.trans h.pending

theorem resetWith_restarted (cause : Nat) (s : State) : Restarted cause s (resetWith cause s) := by
  unfold resetWith
  obtain ⟨k, x, h⟩ := cutPatternWrite_eq s
  rw [h]
  have ht : ({} : State).now = 0 := Nat.zero_div (2 ^ 48)
  exact ⟨rfl, rfl, rfl, rfl, rfl, rfl, fun _ => rfl, fun _ _ => rfl, ht, rfl, rfl, rfl, ⟨rfl, rfl⟩, ⟨rfl, rfl, rfl, rfl⟩,
    ⟨rfl, rfl⟩, rfl⟩

@[simp] theorem resetWith_mgmt (cause : Nat) (s : State) : (resetWith cause s).mgmt.log = s.mgmt.log := by
  unfold resetWith
  obtain ⟨k, x, h⟩ := cutPatternWrite_eq s
  rw [h]

@[simp] theorem resetWith_fw (cause : Nat) (s : State) : (resetWith cause s).fw =
    { selected := s.fw.selected, trial := s.fw.trial, staged := s.fw.staged, version := s.fw.version,
      resets := s.fw.resets.upd cause (fun n => satAdd 32 n 1), lockstep := s.fw.lockstep, ponO7 := s.fw.ponO7,
      rollback := s.fw.rollback } := by
  unfold resetWith
  obtain ⟨k, x, h⟩ := cutPatternWrite_eq s
  rw [h]

theorem resetWith_boot (cause : Nat) (s : State) : (resetWith cause s).boot =
    { cause := cause, count := (s.boot.count + 1) % 0x10000, railsValid := s.boot.railsValid, released := s.boot.released,
      resetLow := s.boot.resetLow, enables := s.boot.enables, pmicPg := s.boot.pmicPg,
      pllStarted := decide (s.boot.enables = 15) && s.boot.pmicPg, pwrfailLow := s.boot.pwrfailLow,
      powerDown := s.boot.powerDown, off := s.boot.off, tripped := s.boot.tripped } := by
  unfold resetWith
  obtain ⟨k, x, h⟩ := cutPatternWrite_eq s
  rw [h]

@[simp] theorem resetWith_held (cause : Nat) (s : State) : (resetWith cause s).flash.held = s.boot.powerDown := by
  unfold resetWith
  obtain ⟨k, x, h⟩ := cutPatternWrite_eq s
  rw [h]

/-- A reset that no rollback follows (R507). -/
theorem chipReset_eq {cause : Nat} (h : cause ≠ 3 ∨ s.fw.trial = false) : chipReset cause s = resetWith cause s := by
  unfold chipReset
  obtain h | h := h <;> simp [h]

/-! ### Records of the persistent log -/

/-- The code of the newest record of the persistent log. -/
def State.lastLogged (s : State) : Option Nat := s.mgmt.log.getLast?.map fun r => r.ev.code

@[simp] theorem logFatal_lastLogged (b : Bool) (e : EvDef) (i d : Nat) (s : State) :
    (logFatal b e i d s).lastLogged = some e.code := by
  simp [State.lastLogged, logFatal, uartLine, logAppend, evRec]

@[simp] theorem ringInsert_mgmt (r : EvRec) (s : State) : (ringInsert r s).mgmt = s.mgmt := by
  unfold ringInsert
  dsimp only
  split
  · rfl
  · split
    · rfl
    · split <;> rfl

theorem deliverMessage_mgmt (w op tag st ep : Nat) (b : List Byte) (s : State) : (deliverMessage w op tag st ep b s).mgmt = s.mgmt := by
  unfold deliverMessage
  exact handBack_mgmt ..

theorem deliverOne_mgmt (h : deliverOne s = some t) : t.mgmt = s.mgmt := by
  unfold deliverOne at h
  split at h
  · cases h
  · split at h
    · cases h
      exact deliverMessage_mgmt ..
    · split at h
      · cases h
        exact deliverMessage_mgmt ..
      · cases h

theorem deliver_mgmt (n : Nat) (s : State) : (deliver n s).mgmt = s.mgmt := by
  induction n generalizing s with
  | zero => rfl
  | succ n ih =>
    unfold deliver
    split
    next t h => rw [ih, deliverOne_mgmt h]
    next => rfl

@[simp] theorem pump_mgmt (s : State) : (pump s).mgmt = s.mgmt := deliver_mgmt 8 s

/-- Settles O7: a chip reset with the host's cause is `resetWith`. -/
theorem chipResetStartsAgain : Obligations.ChipResetStartsAgain := by
  unfold Obligations.ChipResetStartsAgain
  intro s h
  refine .of_pos rfl h ?_
  rw [chipReset_eq (.inl (by decide))]
  have hr := resetWith_restarted 2 s
  have hh : (resetWith 2 s).host.linkUp = false := by
    unfold resetWith
    rfl
  obtain ⟨hroot, hsvn, hrev, hrec⟩ := hr.otp
  exact ⟨hr.session, hr.epoch, hr.count, hr.cause, hr.stage, hr.windows, hr.params, hh, hr.flash.1, hr.flash.2, hroot, hsvn, hrev, hrec,
    hr.slots, resetWith_mgmt 2 s, by simp, hr.pending⟩

/-! ### Reset pin, supplies and temperature -/

theorem resetPin_falls (h : s.boot.resetLow = false) (hr : s.boot.released = true) : Answers (.resetPin true) s fun t =>
    Restarted 1 s t ∧ t.boot.resetLow = true ∧ t.mgmt.log = s.mgmt.log := by
  refine .of_pos rfl (by simp [h, hr]) ?_
  rw [chipReset_eq (.inl (by decide))]
  refine ⟨(resetWith_restarted 1 _).of_survives ?_, by simp [resetWith_boot, updBoot], by simp [updBoot]⟩
  exact ⟨rfl, ⟨rfl, rfl⟩, ⟨rfl, rfl, rfl, rfl⟩, ⟨rfl, rfl⟩, rfl⟩

/-- The state in which a power-down starts (R544). -/
def State.falling (s : State) : State :=
  { s with
    boot := { s.boot with powerDown := true, failAt := s.now }
    flash := { s.flash with held := true }
    pon := { s.pon with dyingGasp := true } }

theorem powerFail_eq (hd : s.boot.powerDown = false) (hr : s.boot.released = true) : powerFail s =
    if s.mgmtRuns then
      pump (ringInsert (evRec Ev.mgmtPowerLoss 0 0 s.falling) (logFatal true Ev.mgmtPowerLoss 0 0 s.falling))
    else s.falling := by
  unfold powerFail
  rw [if_neg (by simp [hd, hr])]
  rfl

theorem logFatal_mail (b : Bool) (e : EvDef) (i d : Nat) (s : State) : Mail s (logFatal b e i d s) := by
  constructor <;> rfl

theorem powerFail_mail (hd : s.boot.powerDown = false) (hr : s.boot.released = true) : Mail s.falling (powerFail s) := by
  rw [powerFail_eq hd hr]
  split
  · exact (logFatal_mail ..).trans ((ringInsert_mail ..).trans (pump_mail _))
  · exact .refl _

theorem powerFail_logs (hd : s.boot.powerDown = false) (hr : s.boot.released = true) (hm : s.mgmtRuns = true) :
    (powerFail s).lastLogged = some Ev.mgmtPowerLoss.code := by
  have h := logFatal_lastLogged true Ev.mgmtPowerLoss 0 0 s.falling
  rw [powerFail_eq hd hr, if_pos hm]
  simpa [State.lastLogged] using h

theorem powerFail_log_same (hd : s.boot.powerDown = false) (hr : s.boot.released = true) (hm : s.mgmtRuns = false) :
    (powerFail s).mgmt.log = s.mgmt.log := by
  rw [powerFail_eq hd hr, if_neg (by simp [hm])]
  rfl

theorem powerdownSequence_ends (h : s.boot.powerDown = true) (ho : s.boot.off = false) (hn : s.boot.failAt + 3000000 ≤ s.now) :
    Answers .powerdownSequence s fun t => Restarted 0 s t ∧ t.boot.pmicPg = false ∧ t.mgmt.log = s.mgmt.log ∧
      t.boot.off = s.boot.pwrfailLow ∧ t.flash.held = s.boot.pwrfailLow ∧ t.boot.enables = (if s.boot.pwrfailLow then 0 else 1) := by
  refine .of_neg rfl (by simp [h, ho]; omega) ?_
  have hs : Survives s (updBoot (fun b => { b with enables := 0, pmicPg := false, off := true }) s) :=
    ⟨rfl, ⟨rfl, rfl⟩, ⟨rfl, rfl, rfl, rfl⟩, ⟨rfl, rfl⟩, rfl⟩
  have hr := (resetWith_restarted 0 _).of_survives hs
  extract_lets u
  have hl : u.boot.pwrfailLow = s.boot.pwrfailLow := by simp [u, resetWith_boot, updBoot]
  have hg : u.mgmt.log = s.mgmt.log := by simp [u, updBoot]
  cases hp : s.boot.pwrfailLow
  · rw [if_neg (by simp [hl, hp])]
    refine ⟨⟨hr.session, hr.epoch, hr.count, hr.cause, hr.stage, hr.running, hr.windows, hr.params, hr.time, hr.power, hr.packets,
      hr.slots, hr.flash, hr.otp, hr.board, hr.pending⟩, ?_, hg, rfl, rfl, rfl⟩
    simp [restart, updBoot, u, resetWith_boot]
  · rw [if_pos (by simp [hl, hp])]
    exact ⟨hr, by simp [u, resetWith_boot, updBoot], hg, by simp [u, resetWith_boot, updBoot],
      by simp [u, updBoot, h], by simp [u, resetWith_boot, updBoot]⟩

theorem thermalTrip_resets {c : Int} (hr : s.boot.released = true) (ht : s.boot.tripped = false) (hc : s.trip ≤ c) :
    Answers (.thermalTrip c) s fun t => Restarted 5 s t ∧ t.boot.tripped = true ∧ t.boot.enables = 0 ∧ t.boot.pmicPg = false ∧
      t.mgmt.log = s.mgmt.log := by
  refine .of_pos rfl ⟨hr, by simp [ht], hc⟩ ?_
  rw [chipReset_eq (.inl (by decide))]
  refine ⟨(resetWith_restarted 5 _).of_survives ?_, ?_, ?_, ?_, by simp [updBoot]⟩
  · exact ⟨rfl, ⟨rfl, rfl⟩, ⟨rfl, rfl, rfl, rfl⟩, ⟨rfl, rfl⟩, rfl⟩
  all_goals simp [resetWith_boot, updBoot]

/-! ### Boot stages -/

theorem setStage_mail (n : Nat) (s : State) : Mail { s with boot := { s.boot with stage := n } } (setStage n s) := by
  unfold setStage
  split
  next h => subst h; exact .refl s
  next => exact (uartLine_mail ..).trans (sendVector_mail ..)

@[simp] theorem setStage_boot (n : Nat) (s : State) : (setStage n s).boot = { s.boot with stage := n } := (setStage_mail n s).boot

@[simp] theorem setStage_mgmt (n : Nat) (s : State) : (setStage n s).mgmt = s.mgmt := by
  unfold setStage
  split
  · rfl
  · rw [sendVector_mgmt]
    rfl

/-- Boot's state once it has halted (Table 2-6). -/
def State.halted (s : State) (code : Nat) : State :=
  { s with boot := { s.boot with stage := 15, errStage := s.boot.stage, errCode := code } }

theorem bootHalt_mail (code : Nat) (s : State) : Mail (s.halted code) (bootHalt code s) := by
  have k := setStage_mail 15
    (uartLine code 15 s.boot.stage 0 { s with boot := { s.boot with errStage := s.boot.stage, errCode := code } })
  exact { k with }

@[simp] theorem bootHalt_boot (code : Nat) (s : State) : (bootHalt code s).boot = (s.halted code).boot := (bootHalt_mail code s).boot

@[simp] theorem bootHalt_mgmt (code : Nat) (s : State) : (bootHalt code s).mgmt = s.mgmt := by
  unfold bootHalt
  rw [setStage_mgmt]
  rfl

/-! ### Lockstep and watchdogs -/

/-- A pair's mismatch is counted, the pair stops, and the record is written (R490). -/
def State.mismatched (s : State) (pair : Nat) (ecc : Bool) : State :=
  logFatal false Ev.mgmtLockstep pair (if ecc then 2 else 1) { s with
    fw := { s.fw with lockstep := satAdd 32 s.fw.lockstep 1 }
    mgmt := { s.mgmt with pairStopped := s.mgmt.pairStopped.put pair true } }

theorem execLockstepMismatch_eq {pair : Nat} {ecc : Bool} (hp : pair < 2) (h0 : s.boot.stage ≠ 0) (h15 : s.boot.stage ≠ 15) :
    exec (.lockstepMismatch pair ecc) s =
      .next (if s.boot.stage < 5 then bootHalt 0x0205 (s.mismatched pair ecc) else chipReset 3 (s.mismatched pair ecc)) := by
  change execLockstepMismatch pair ecc s = _
  unfold execLockstepMismatch
  rw [if_neg (by omega)]
  rfl

theorem resetWith_lastLogged (cause : Nat) (s : State) : (resetWith cause s).lastLogged = s.lastLogged := by
  simp [State.lastLogged]

theorem lockstepMismatch_resets {pair : Nat} {ecc : Bool} (hp : pair < 2) (hs : s.boot.stage = 5 ∨ s.boot.stage = 14)
    (ht : s.fw.trial = false) : Answers (.lockstepMismatch pair ecc) s fun t => Restarted 3 s t ∧
      t.fw.lockstep = satAdd 32 s.fw.lockstep 1 ∧ t.lastLogged = some Ev.mgmtLockstep.code ∧ t.fw.selected = s.fw.selected := by
  refine .of_neg (execLockstepMismatch_eq hp (by omega) (by omega)) (by omega) ?_
  rw [chipReset_eq (s := s.mismatched pair ecc) (.inr ht)]
  refine ⟨(resetWith_restarted 3 _).of_survives ?_, by rw [resetWith_fw]; rfl, ?_, by rw [resetWith_fw]; rfl⟩
  · exact ⟨rfl, ⟨rfl, rfl⟩, ⟨rfl, rfl, rfl, rfl⟩, ⟨rfl, rfl⟩, rfl⟩
  · rw [resetWith_lastLogged]
    exact logFatal_lastLogged ..

theorem lockstepMismatch_halts {pair : Nat} {ecc : Bool} (hp : pair < 2) (h1 : 1 ≤ s.boot.stage) (h5 : s.boot.stage < 5) :
    Answers (.lockstepMismatch pair ecc) s fun t => t.boot.stage = 15 ∧ t.boot.errCode = 0x0205 ∧
      t.fw.lockstep = satAdd 32 s.fw.lockstep 1 ∧ t.mgmt.pairStopped.get pair = true ∧
      t.lastLogged = some Ev.mgmtLockstep.code ∧ Mail { s with boot := t.boot, fw := t.fw } t := by
  refine .of_pos (execLockstepMismatch_eq hp (by omega) (by omega)) h5 ?_
  have m := bootHalt_mail 0x0205 (s.mismatched pair ecc)
  refine ⟨by rw [m.boot]; rfl, by rw [m.boot]; rfl, by rw [m.fw]; rfl, ?_, ?_, { m with boot := rfl, fw := rfl }⟩
  · rw [bootHalt_mgmt]
    exact Tab.get_put_same s.mgmt.pairStopped pair true
  · rw [State.lastLogged, bootHalt_mgmt]
    exact logFatal_lastLogged ..

theorem watchdogReset_restarts {inst : Nat} (ht : s.fw.trial = false) :
    Restarted 3 s (watchdogReset inst s) ∧ (watchdogReset inst s).lastLogged = some Ev.mgmtWatchdog.code := by
  unfold watchdogReset
  rw [chipReset_eq (s := logFatal false Ev.mgmtWatchdog inst 0 s) (.inr ht)]
  refine ⟨(resetWith_restarted 3 _).of_survives ?_, ?_⟩
  · exact ⟨rfl, ⟨rfl, rfl⟩, ⟨rfl, rfl, rfl, rfl⟩, ⟨rfl, rfl⟩, rfl⟩
  · rw [resetWith_lastLogged]
    exact logFatal_lastLogged ..

/-- A rollback: the chip resets with cause 4 and the bank record returns to the previous bank (R507). -/
theorem rollback_restarts (why : Nat) (s : State) : Restarted 4 s (rollback why s) ∧ (rollback why s).fw.trial = false ∧
    (rollback why s).fw.selected = 1 - s.fw.selected ∧ (rollback why s).fw.rollback = why ∧ (rollback why s).fw.staged = false ∧
    (rollback why s).mgmt.log = s.mgmt.log := by
  unfold rollback
  refine ⟨(resetWith_restarted 4 _).of_survives ?_, ?_⟩
  · exact ⟨rfl, ⟨rfl, rfl⟩, ⟨rfl, rfl, rfl, rfl⟩, ⟨rfl, rfl⟩, rfl⟩
  · simp

/-- A watchdog's reset during a trial is followed by the rollback (R507). -/
theorem watchdogReset_rolls_back {inst : Nat} (ht : s.fw.trial = true) :
    (watchdogReset inst s).boot.cause = 4 ∧ (watchdogReset inst s).boot.count = (s.boot.count + 2) % 65536 ∧
    (watchdogReset inst s).fw.trial = false ∧ (watchdogReset inst s).fw.selected = 1 - s.fw.selected ∧
    (watchdogReset inst s).fw.rollback = 2 := by
  have e : watchdogReset inst s = rollback 2 (resetWith 3 (logFatal false Ev.mgmtWatchdog inst 0 s)) := by
    unfold watchdogReset chipReset
    exact if_pos ⟨rfl, ht⟩
  obtain ⟨hr, htr, hsel, hwhy, -, -⟩ := rollback_restarts 2 (resetWith 3 (logFatal false Ev.mgmtWatchdog inst 0 s))
  rw [e]
  refine ⟨hr.cause, ?_, htr, by rw [hsel, resetWith_fw]; rfl, hwhy⟩
  rw [hr.count, (resetWith_restarted 3 _).count]
  change ((s.boot.count + 1) % 65536 + 1) % 65536 = _
  omega

/-! ### Flash work of FW_STAGE -/

section
variable {k : FwWork} {rest : List FwWork}

theorem fwFlashWriteDone_write (h : s.fw.work = k :: rest) (ho : k.op ≠ 1) (he : k.erase = false) :
    Answers .fwFlashWriteDone s fun t => t.fw = { s.fw with work := rest } ∧ Mail { s with fw := t.fw } t := by
  refine .of_eq (t := finish? k.cid .ok [] { s with fw := { s.fw with work := rest } }) ?_ ⟨by simp, ?_⟩
  · change execFwFlashWriteDone s = _
    simp [execFwFlashWriteDone, h, ho, he]
  · exact { finishOpt_mail k.cid .ok [] _ with fw := rfl }

theorem fwFlashWriteDone_erase (h : s.fw.work = k :: rest) (ho : k.op ≠ 1) (he : k.erase = true) :
    Answers .fwFlashWriteDone s fun t => t.fw.work = rest ∧ t.fw.chunks = s.fw.chunks ∧ t.fw.staged = false ∧
      t.flash.bank.get s.otherBank = none ∧ (∀ b, b ≠ s.otherBank → t.flash.bank.get b = s.flash.bank.get b) ∧
      Mail { s with fw := t.fw, flash := t.flash } t := by
  have m := finishOpt_mail k.cid .ok [] (eraseBank { s with fw := { s.fw with work := rest } })
  refine .of_eq (t := finish? k.cid .ok [] (eraseBank { s with fw := { s.fw with work := rest } })) ?_
    ⟨by rw [m.fw]; rfl, by rw [m.fw]; rfl, by rw [m.fw]; rfl, ?_, fun b hb => ?_, { m with fw := rfl, flash := rfl }⟩
  · change execFwFlashWriteDone s = _
    simp [execFwFlashWriteDone, h, ho, he]
  · rw [m.flash]
    exact Tab.get_put_same s.flash.bank s.otherBank none
  · rw [m.flash]
    exact Tab.get_put_ne s.flash.bank s.otherBank b none hb.symm

/-- What the verification of a staged image leaves in the other bank (R505). -/
def State.verified (s : State) (img : List Byte) (rest : List FwWork) : State :=
  if s.fwAccepts img then setBank s.otherBank (some img) { s with fw := { s.fw with work := rest, staged := true } }
  else setBank s.otherBank none { s with fw := { s.fw with work := rest } }

theorem fwFlashWriteDone_verified (h : s.fw.work = k :: rest) (ho : k.op = 1) (he : k.erase = false) :
    Answers .fwFlashWriteDone s (Mail (s.verified k.img rest)) := by
  change ∃ t, execFwFlashWriteDone s = .next t ∧ Mail _ t
  unfold execFwFlashWriteDone State.verified
  simp only [h, he, ho, ne_eq, not_true, if_false, Bool.false_eq_true]
  split
  · exact ⟨_, rfl, (raise_mail ..).trans (finishOpt_mail ..)⟩
  · exact ⟨_, rfl, finishOpt_mail ..⟩

theorem State.verified_mail (s : State) (img : List Byte) (rest : List FwWork) :
    Mail { s with fw := (s.verified img rest).fw, flash := (s.verified img rest).flash } (s.verified img rest) := by
  unfold State.verified
  split <;> constructor <;> rfl

theorem fwFlashWriteDone_verify (h : s.fw.work = k :: rest) (ho : k.op = 1) (he : k.erase = false) :
    Answers .fwFlashWriteDone s fun t => t.fw.work = rest ∧ t.fw.chunks = s.fw.chunks ∧
      t.fw.staged = (s.fwAccepts k.img || s.fw.staged) ∧
      t.flash.bank.get s.otherBank = (if s.fwAccepts k.img then some k.img else none) ∧
      (∀ b, b ≠ s.otherBank → t.flash.bank.get b = s.flash.bank.get b) ∧ Mail { s with fw := t.fw, flash := t.flash } t := by
  obtain ⟨t, e, m⟩ := fwFlashWriteDone_verified h ho he
  refine .of_eq e ?_
  have hm : Mail { s with fw := t.fw, flash := t.flash } t := by
    have v := (s.verified_mail k.img rest).trans m
    exact { v with fw := rfl, flash := rfl }
  rw [m.fw, m.flash] at *
  refine ⟨?_, ?_, ?_, ?_, fun b hb => ?_, hm⟩
  all_goals unfold State.verified
  · split <;> rfl
  · split <;> rfl
  · split
    next ha => simp [ha, setBank]
    next ha => simp [ha, setBank]
  · split
    · exact Tab.get_put_same s.flash.bank s.otherBank (some k.img)
    · exact Tab.get_put_same s.flash.bank s.otherBank none
  · split
    · exact Tab.get_put_ne s.flash.bank s.otherBank b (some k.img) hb.symm
    · exact Tab.get_put_ne s.flash.bank s.otherBank b none hb.symm

end

/-! ### PWRFAIL_L and the PMIC -/

/-- PWRFAIL_L falls (R497, R544). -/
theorem powerFail_falls (hl : s.boot.pwrfailLow = false) (hd : s.boot.powerDown = false) (hr : s.boot.released = true) :
    Answers (.powerFail true) s fun t =>
      t.boot = { s.boot with pwrfailLow := true, powerDown := true, failAt := s.now } ∧ t.flash = { s.flash with held := true } ∧
      t.pon = { s.pon with dyingGasp := true } ∧ (s.mgmtRuns = true → t.lastLogged = some Ev.mgmtPowerLoss.code) ∧
      (s.mgmtRuns = false → t.mgmt.log = s.mgmt.log) ∧ Mail { s with boot := t.boot, flash := t.flash, pon := t.pon } t := by
  let u := updBoot (fun b => { b with pwrfailLow := true }) s
  have m : Mail u.falling (powerFail u) := powerFail_mail hd hr
  exact .of_eq (t := powerFail u) (congrArg Host.Outcome.next ((if_pos rfl).trans (if_neg (ne_true_of_eq_false hl))))
    ⟨m.boot, m.flash, m.pon, powerFail_logs (s := u) hd hr, powerFail_log_same (s := u) hd hr,
      { m with boot := rfl, flash := rfl, pon := rfl }⟩

/-- PMIC_PG falls while the device runs, which counts as a fall of PWRFAIL_L (R544). -/
theorem pmicPgLoss_falls (hp : s.boot.pmicPg = true) (he : s.boot.enables = 15) (h : s.power.st = .run)
    (hd : s.boot.powerDown = false) (hr : s.boot.released = true) : Answers .pmicPgLoss s fun t => t.boot.pmicPg = false ∧
      t.boot.powerDown = true ∧ t.boot.failAt = s.now ∧ t.flash.held = true ∧ t.pon.dyingGasp = true ∧
      Mail { s with boot := t.boot, flash := t.flash, pon := t.pon } t := by
  let u := updBoot (fun b => { b with pmicPg := false }) s
  have m : Mail u.falling (powerFail u) := powerFail_mail hd hr
  exact .of_pos (x := powerFail u) rfl (by simp [hp, he, h])
    ⟨by rw [m.boot]; rfl, by rw [m.boot]; rfl, by rw [m.boot]; rfl, by rw [m.flash]; rfl, by rw [m.pon]; rfl,
      { m with boot := rfl, flash := rfl, pon := rfl }⟩

theorem pmicPgLoss_ignored (h : s.power.st = .sleep ∨ s.power.st = .waking) :
    Answers .pmicPgLoss s fun t => t = { s with boot := { s.boot with pmicPg := false } } :=
  .of_neg rfl (by rcases h with h | h <;> simp [h]) rfl

/-- An always-on rail is lost: everything but non-volatile storage goes (R544). -/
theorem aonRailLoss_loses (s : State) : Answers .aonRailLoss s fun t => t.mbx.session = none ∧ t.mbx.epoch = 1 ∧
    t.boot.released = false ∧ t.boot.railsValid = false ∧ t.boot.enables = 0 ∧ t.boot.stage = 0 ∧ t.boot.count = 0 ∧
    t.flash.bank = s.flash.bank ∧ t.sec.custRoot = s.sec.custRoot ∧ t.sec.records = s.sec.records ∧
    t.fw.selected = s.fw.selected ∧ t.fw.resets = s.fw.resets ∧ t.gpio = s.gpio ∧ t.mgmt.log = s.mgmt.log ∧
    t.pending = s.pending := by
  have hr := resetWith_restarted 0 s
  refine .of_eq rfl ⟨hr.session, hr.epoch, rfl, rfl, rfl, rfl, rfl, hr.flash.1, hr.otp.1, hr.otp.2.2.2, ?_, rfl, hr.board.1,
    resetWith_mgmt 0 s, hr.pending⟩
  change (resetWith 0 s).fw.selected = s.fw.selected
  rw [resetWith_fw]

/-- Settles O56, one lemma above for each command that resets the chip or takes its supplies away. -/
theorem resetsAndSupplyLosses : Obligations.ResetsAndSupplyLosses := by
  unfold Obligations.ResetsAndSupplyLosses
  intro s logged sameLog backOut
  refine ⟨resetPin_falls, fun low h => ?pin, powerFail_falls, fun h => ?stillLow, fun h => ?restart, fun h => ?high,
    fun hd ho => ⟨powerdownSequence_ends hd ho, fun h => ?early⟩, fun hp he => ⟨pmicPgLoss_falls hp he, pmicPgLoss_ignored⟩,
    aonRailLoss_loses s, fun c => ⟨thermalTrip_resets, fun h => ?cool, fun ht hc => ?release, fun h => ?hot⟩,
    fun pair ecc hp => ⟨lockstepMismatch_resets hp, lockstepMismatch_halts hp⟩,
    fun hm => ⟨fun ht => ⟨fun h => .of_pos rfl ⟨hm, h⟩ (watchdogReset_restarts ht), .of_pos rfl hm (watchdogReset_restarts ht)⟩,
      fun h => ?beat, fun ht _ => .of_pos rfl hm (watchdogReset_rolls_back ht)⟩,
    fun ht ha => ⟨fun hs hn => ?stage, fun h => ?inStage, fun h => ?expiry, fun h => ?inTrial⟩,
    fun a ha => ⟨fun h => ?activate, fun h => ?wait⟩,
    fun k rest h => ⟨fwFlashWriteDone_write h, fwFlashWriteDone_erase h, fwFlashWriteDone_verify h⟩⟩
  case pin => exact .of_neg rfl (by rcases h with h | h | h <;> simp [h]) rfl
  case stillLow => exact .of_eq (congrArg Host.Outcome.next (if_pos h)) rfl
  case restart => exact .of_eq (congrArg Host.Outcome.next ((if_neg Bool.false_ne_true).trans (if_pos h))) rfl
  case high =>
    exact .of_eq (congrArg Host.Outcome.next ((if_neg Bool.false_ne_true).trans (if_neg (ne_true_of_eq_false h)))) rfl
  case early => exact .of_pos rfl (.inr (.inr h)) rfl
  case cool => exact .of_neg rfl (fun k => by omega) rfl
  case release => exact .of_pos rfl ⟨ht, hc⟩ rfl
  case hot => exact .of_neg rfl (fun k => by omega) rfl
  case beat => exact .of_neg rfl (fun k => by omega) rfl
  case stage => exact .of_pos rfl ⟨by simp [State.trialRuns, ht, ha], hs, hn⟩ (rollback_restarts 1 s)
  case inStage => exact .of_neg rfl (fun k => by omega) rfl
  case expiry => exact .of_pos rfl ⟨by simp [State.trialRuns, ht, ha], h⟩ (rollback_restarts 4 s)
  case inTrial => exact .of_neg rfl (fun k => by omega) rfl
  case activate =>
    refine .of_eq (t := chipReset 4 s) ?_ ?_
    · change execFwActivateReset s = _
      simp [execFwActivateReset, ha, h]
    · rw [chipReset_eq (.inl (by decide))]
      exact ⟨resetWith_restarted 4 s, by simp, by simp, resetWith_mgmt 4 s⟩
  case wait =>
    refine .of_eq (t := s) ?_ rfl
    change execFwActivateReset s = _
    simp [execFwActivateReset, ha, h]

end Sys2Proof.Machine
end
section
/-! ## Recasts -/
namespace Sys2Proof

/-- What holds of every changed value and of the default holds of every value of the changed table. -/
theorem Tab.mapV_forall {α : Type} [Inhabited α] [DecidableEq α] {P : α → Prop} {f : α → α} (hf : ∀ x, P (f x)) (hd : P default)
    (t : Tab α) (k : Nat) : P (Tab.get (Tab.mapV f t) k) := by
  induction t with
  | nil => exact hd
  | cons e t ih =>
    obtain ⟨i, x⟩ := e
    rw [Tab.mapV_cons]
    split
    · exact ih
    · rw [Tab.get]
      split
      · exact hf x
      · exact ih

namespace Machine

variable {a s t : State} {u v : RUnit} {c : Nat}

/-! ### Delivery keeps the epoch, the configuration and an empty list of commands -/

theorem pump_cfg (s : State) : (pump s).cfg = s.cfg := by
  suffices h : ∀ n (s : State), (deliver n s).cfg = s.cfg from h 8 s
  intro n
  induction n with
  | zero => exact fun _ => rfl
  | succ n ih =>
    intro s
    unfold deliver
    split
    next t e =>
      rw [ih]
      unfold deliverOne at e
      repeat' split at e
      all_goals cases e
      all_goals simp [deliverMessage, putMessage, State.setWin]
    next => rfl

theorem endCommand_nil (c : Ctl) : endCommand c [] = [] := by
  unfold endCommand
  split <;> rfl

theorem pump_outstanding_nil (h : s.mbx.outstanding = []) : (pump s).mbx.outstanding = [] := by
  suffices k : ∀ n (s : State), s.mbx.outstanding = [] → (deliver n s).mbx.outstanding = [] from k 8 s h
  intro n
  induction n with
  | zero => exact fun _ h => h
  | succ n ih =>
    intro s h
    unfold deliver
    split
    next t e =>
      refine ih t ?_
      unfold deliverOne at e
      repeat' split at e
      all_goals cases e
      all_goals simp [deliverMessage, handBack_mbx, putMessage, State.setWin, refillControl, h, endCommand_nil]
    next => exact h

theorem pump_epoch (s : State) : (pump s).mbx.epoch = s.mbx.epoch := (pump_steady (.refl s)).epoch

/-- Queueing a control message changes the queue and the backlog alone. -/
theorem queueControl_eq (c : Ctl) (s : State) : ∃ q b, queueControl c s = { s with mbx := { s.mbx with control := q, backlog := b } } := by
  unfold queueControl
  dsimp only
  split
  · exact ⟨_, _, rfl⟩
  · split <;> exact ⟨_, _, rfl⟩

/-! ### Reclaiming the windows -/

/-- Handing back a list of windows returns each of them with the reason given. -/
theorem foldl_handBack_win (r : HandBack) (l : List Nat) (s : State) {w : Nat}
    (h : w ∈ l ∨ (s.win w).hold = .host ∧ (s.win w).handback = r) :
    ((l.foldl (fun s w => handBack w r s) s).win w).hold = .host ∧ ((l.foldl (fun s w => handBack w r s) s).win w).handback = r := by
  induction l generalizing s with
  | nil => exact h.resolve_left List.not_mem_nil
  | cons x l ih =>
    refine ih _ ?_
    rw [handBack_win]
    by_cases hx : x = w
    · exact .inr (by simp [hx])
    · rw [if_neg hx]
      exact h.imp_left fun hm => (List.mem_cons.mp hm).resolve_left (Ne.symm hx)

theorem foldl_handBack_armed (r : HandBack) (l : List Nat) (s : State) (h : s.mbx.armed = []) :
    (l.foldl (fun s w => handBack w r s) s).mbx.armed = [] := by
  induction l generalizing s with
  | nil => exact h
  | cons x l ih => exact ih _ (by simp [handBack_mbx, h])

theorem foldl_handBack_mail (r : HandBack) (l : List Nat) (s : State) : Mail s (l.foldl (fun s w => handBack w r s) s) :=
  .foldl _ (fun s w => handBack_mail w r s) l

theorem foldl_handBack_epoch (r : HandBack) (l : List Nat) (s : State) :
    (l.foldl (fun s w => handBack w r s) s).mbx.epoch = s.mbx.epoch :=
  (Steady.foldl (fun _ _ h => handBack_steady h) (.refl s)).epoch

/-- The epoch after `e`, which skips 0 (R62). -/
def nextEpoch (e : Nat) : Nat := if e = 0xFFFFFFFF then 1 else e + 1

theorem reclaim_mail (s : State) : Mail s (reclaim s).2 := by
  have h := foldl_handBack_mail .reclaimed
    ((List.range 8).filter fun w => match (s.win w).hold with | .command _ => true | _ => false) s
  exact { h with }

theorem reclaim_epoch (s : State) : (reclaim s).2.mbx.epoch = nextEpoch s.mbx.epoch := by
  change (if (List.foldl _ s _).mbx.epoch = _ then _ else (List.foldl _ s _).mbx.epoch + 1) = _
  rw [foldl_handBack_epoch]
  rfl

theorem reclaim_armed (h : s.mbx.armed = []) : (reclaim s).2.mbx.armed = [] := foldl_handBack_armed _ _ s h

/-- A window that held a command is the host's again, RECLAIMED (R63). -/
theorem reclaim_win {w k : Nat} (hw : w < 8) (h : (s.win w).hold = .command k) :
    ((reclaim s).2.win w).hold = .host ∧ ((reclaim s).2.win w).handback = .reclaimed :=
  foldl_handBack_win .reclaimed _ s (.inl (List.mem_filter.mpr ⟨List.mem_range.mpr hw, by simp [h]⟩))

/-- Reloading the standby pages changes the configuration, and drops the edits of the next rule version (R86). -/
theorem reloadStandby_eq (s : State) :
    ∃ k, reloadStandby s = { s with cfg := k, pkt := { s.pkt with tcamEdit := [], flowEdit := [] } } := by
  unfold reloadStandby
  extract_lets +onlyGivenNames burns s1
  have h : ∃ k, s1 = { s with cfg := k } := by
    refine List.foldlRecOn (motive := fun x : State => ∃ k, x = { s with cfg := k }) s.cfg.tables _ ⟨_, rfl⟩ ?_
    rintro _ ⟨k, rfl⟩ e -
    split
    · exact ⟨_, rfl⟩
    · exact ⟨_, rfl⟩
  obtain ⟨k, hk⟩ := h
  rw [hk]
  exact ⟨_, rfl⟩

/-! ### The start of a recast -/

/-- The state from which a recast starts: one of a subsystem or of the device reclaims the windows first (R63). -/
def recastBase (u : RUnit) (s : State) : State := if u.scope = 0 then s else (reclaim (reloadStandby s)).2

/-- The list of recasts once the recast of `u` has started. -/
def Recast.started (r : Recast) (u : RUnit) (c : Nat) (full : Bool) (now : Nat) : Recast :=
  { r with
    jobs := (r.jobs.filter fun j => !(j.unit == u || j.unit.inside u)) ++ [{ unit := u, cause := c, st := .reset, full := full }]
    queue := r.queue.filter fun q => !(q.1.inside u && decide (u.scope = 2))
    history := if u.scope = 0 then r.history else r.history ++ [(u, now)]
    lastCause := c }

theorem recastBase_recast (u : RUnit) (s : State) : (recastBase u s).recast = s.recast ∧ (recastBase u s).now = s.now := by
  unfold recastBase
  split
  · exact ⟨rfl, rfl⟩
  · obtain ⟨k, e⟩ := reloadStandby_eq s
    have h := reclaim_mail (reloadStandby s)
    rw [e] at h ⊢
    exact ⟨h.recast, by rw [State.now, State.tbNs, h.time]; rfl⟩

/-- A recast starts from its base with a control message and its entry in the list; only counters change besides. -/
theorem startRecast_eq (u : RUnit) (c : Nat) (full : Bool) (s : State) : ∃ m b, startRecast u c full s = pump (queueControl m b) ∧
    b.mbx = (recastBase u s).mbx ∧ b.cfg.staging = (recastBase u s).cfg.staging ∧
    Mail { recastBase u s with recast := s.recast.started u c full s.now } b := by
  unfold startRecast
  extract_lets +onlyGivenNames prev
  split
  next k t e =>
    have ht : t = recastBase u s := by
      unfold recastBase
      split at e
      next h => rw [if_pos h, (Prod.mk.inj e).2]
      next h => rw [if_neg h, e]
    obtain ⟨hr, hn⟩ := recastBase_recast u s
    rw [← ht] at hr hn ⊢
    rw [← hr, ← hn]
    extract_lets +onlyGivenNames t1 r keep covered t2 t3
    refine ⟨_, t3, rfl, ?_⟩
    have m2 : Mail { t with recast := t.recast.started u c full t.now } t2 := by constructor <;> rfl
    by_cases h : r.queue.any covered = true
    · rw [show t3 = bumpBy Prm.faultAbsorbed 0 (r.queue.filter covered).length t2 from if_pos h]
      exact ⟨rfl, rfl, m2.trans (bumpBy_mail ..)⟩
    · rw [show t3 = t2 from if_neg h]
      exact ⟨rfl, rfl, m2⟩

/-- What the start of a recast does in every scope. -/
theorem startRecast_recast (u : RUnit) (c : Nat) (full : Bool) (s : State) :
    (startRecast u c full s).recast = s.recast.started u c full s.now := by
  obtain ⟨m, b, e, -, -, k⟩ := startRecast_eq u c full s
  rw [e, pump_recast, (queueControl_mail m b).recast, k.recast]

/-- The recast of a block reclaims nothing: only the mailbox's part and the list of recasts change. -/
theorem startRecast_block (hu : u.scope = 0) (c : Nat) (full : Bool) (s : State) :
    (startRecast u c full s).mbx.epoch = s.mbx.epoch ∧
    Mail { s with recast := (startRecast u c full s).recast } (startRecast u c full s) := by
  obtain ⟨m, b, e, hm, -, k⟩ := startRecast_eq u c full s
  have hb : recastBase u s = s := if_pos hu
  rw [hb] at hm k
  have q := k.trans ((queueControl_mail m b).trans (pump_mail _))
  rw [e]
  refine ⟨?_, { q with recast := rfl }⟩
  rw [pump_epoch, (queueControl_steady (.refl b)).epoch, hm]

/-- The recast of a subsystem or of the device reclaims the commands (R62, R63). -/
structure Reclaimed (s t : State) : Prop where
  epoch : t.mbx.epoch = nextEpoch s.mbx.epoch
  staging : t.cfg.staging = []
  outstanding : t.mbx.outstanding = []
  rest : Mail { s with recast := t.recast, pkt := t.pkt } t

theorem startRecast_reclaims (hu : u.scope ≠ 0) (c : Nat) (full : Bool) (s : State) : Reclaimed s (startRecast u c full s) := by
  obtain ⟨m, b, e, hm, hc, k⟩ := startRecast_eq u c full s
  have hb : recastBase u s = (reclaim (reloadStandby s)).2 := if_neg hu
  obtain ⟨p, hp⟩ := reloadStandby_eq s
  have r := reclaim_mail (reloadStandby s)
  have he := reclaim_epoch (reloadStandby s)
  obtain ⟨cq, bl, hq⟩ := queueControl_eq m b
  rw [hb] at hm hc k
  have q := k.trans ((queueControl_mail m b).trans (pump_mail _))
  rw [hp] at r he
  rw [e]
  refine ⟨?_, ?_, pump_outstanding_nil ?_, ?_⟩
  · rw [pump_epoch, (queueControl_steady (.refl b)).epoch, hm, hp]
    exact he
  · rw [pump_cfg, hq]
    exact hc
  · rw [hq]
    change b.mbx.outstanding = []
    rw [hm]
    rfl
  · rw [hp] at q
    have w := Mail.trans (b := { (reclaim { s with cfg := p, pkt := { s.pkt with tcamEdit := [], flowEdit := [] } }).2 with
      recast := s.recast.started u c full s.now })
      (a := { s with cfg := p, pkt := { s.pkt with tcamEdit := [], flowEdit := [] }, recast := s.recast.started u c full s.now })
      { r with recast := rfl } q
    exact { w with recast := rfl, pkt := rfl }

/-- With no window armed, each window that held a command comes back RECLAIMED (R63). -/
theorem startRecast_win (hu : u.scope ≠ 0) (full : Bool) (ha : s.mbx.armed = []) {w k : Nat} (hw : w < 8)
    (h : (s.win w).hold = .command k) :
    ((startRecast u c full s).win w).hold = .host ∧ ((startRecast u c full s).win w).handback = .reclaimed := by
  obtain ⟨m, b, e, hm, -, -⟩ := startRecast_eq u c full s
  have hb : recastBase u s = (reclaim (reloadStandby s)).2 := if_neg hu
  obtain ⟨p, hp⟩ := reloadStandby_eq s
  obtain ⟨cq, bl, hq⟩ := queueControl_eq m b
  have hms : (reloadStandby s).mbx = s.mbx := by rw [hp]
  have hwin : ((reloadStandby s).win w).hold = .command k := by rw [State.win, hms]; exact h
  have hbw : b.win w = (reclaim (reloadStandby s)).2.win w := by rw [State.win, hm, hb]; rfl
  rw [e, pump_unarmed, hq]
  · change (b.win w).hold = .host ∧ (b.win w).handback = .reclaimed
    rw [hbw]
    exact reclaim_win hw hwin
  · rw [hq]
    change b.mbx.armed = []
    rw [hm, hb]
    exact reclaim_armed (by rw [hms]; exact ha)

/-! ### Admission of a fault -/

theorem entryFault_of_ne (h : s.power.st ≠ .entering) : entryFault s = s := if_pos (by simpa using h)

/-- A fault of a unit that is being recast, or whose subsystem is queued, is absorbed (R503). -/
theorem admitFault_absorbed (he : s.power.st ≠ .entering) (h : s.recastHolds u = true) :
    admitFault u c s = bump Prm.faultAbsorbed 0 s := by
  unfold admitFault
  rw [entryFault_of_ne he]
  exact if_pos (by simp [h])

theorem State.run_ne_entering (h : s.power.st = .run) : s.power.st ≠ .entering := by simp [h]

theorem admitFault_block (hr : s.power.st = .run) (h : s.recastHolds u = false) (hu : u.scope = 0) :
    admitFault u c s = startRecast u c true s := by
  unfold admitFault
  rw [entryFault_of_ne (State.run_ne_entering hr)]
  simp [h, hu, hr]

theorem admitFault_device (hr : s.power.st = .run) (h : s.recastHolds .device = false) :
    admitFault .device c s = startDevice c s := by
  unfold admitFault
  rw [entryFault_of_ne (State.run_ne_entering hr)]
  simp [h, hr, show RUnit.device.scope = 2 from rfl]

section
variable (hr : s.power.st = .run) (h : s.recastHolds u = false) (hu : u.scope = 1) (hq : ∀ q ∈ s.recast.queue, q.1 ≠ u)
  (hn : s.recastsWithin u (s.parN Prm.faultEscalateWindowS 0) < s.parN Prm.faultEscalateN 0)
include hr h hu hq hn

theorem admitFault_subsystem (hj : (s.recast.jobs.any fun j => decide (0 < j.unit.scope)) = false) :
    admitFault u c s = startRecast u c true s := by
  have hany : (s.recast.queue.any fun q => q.1 == u) = false := by simpa using hq
  unfold admitFault
  rw [entryFault_of_ne (State.run_ne_entering hr)]
  simp [h, hu, hr, hany, hj, Nat.not_le.mpr hn]

theorem admitFault_queued (hj : (s.recast.jobs.any fun j => decide (0 < j.unit.scope)) = true) (hl : s.recast.queue.length < 32) :
    admitFault u c s = { s with recast := { s.recast with queue := s.recast.queue ++ [(u, c)] } } := by
  have hany : (s.recast.queue.any fun q => q.1 == u) = false := by simpa using hq
  unfold admitFault
  rw [entryFault_of_ne (State.run_ne_entering hr)]
  simp [h, hu, hr, hany, hj, Nat.not_le.mpr hn, Nat.not_le.mpr hl]

end

/-- Settles O8: the device is not being recast, so its recast starts, and reclaims. -/
theorem recastDevReclaimsCommands : Obligations.RecastDevReclaimsCommands := by
  unfold Obligations.RecastDevReclaimsCommands
  intro s hup hready hheld hjobs hrun harmed
  have hn : s.recastHolds .device = false := by simp [State.recastHolds, hheld, hjobs]
  have hrd : recastDev s = startDevice Cause.host s := by
    unfold recastDev
    rw [admitFault_device hrun hn]
    simp [hready, hheld]
  refine .of_pos rfl hup ?_
  rw [hrd]
  unfold startDevice
  extract_lets hold
  have hr := startRecast_recast .device Cause.host (!hold) s
  obtain ⟨he, hst, ho, hm⟩ := startRecast_reclaims (u := .device) (by decide) Cause.host (!hold) s
  have hmem : ({ unit := .device, cause := Cause.host, st := .reset, full := !hold } : RecastJob) ∈
      (startRecast .device Cause.host (!hold) s).recast.jobs := by
    rw [hr]
    exact List.mem_append_right _ (List.mem_singleton.mpr rfl)
  refine ⟨he, hst, ho, by rw [hr]; rfl, ⟨_, hmem, rfl, rfl⟩, ?_, fun w k hw h => ?_, hm.time, hm.boot, hm.sec, hm.flash⟩
  · rw [State.recasting, Bool.or_eq_true, List.any_eq_true]
    exact .inr ⟨_, hmem, rfl⟩
  · exact startRecast_win (by decide) _ harmed hw h

/-! ### Operations that leave the packet path as it is -/

/-- From `s` to `t` the packet store and the queues' schedulers stay. -/
structure SamePath (s t : State) : Prop where
  pkt : t.pkt = s.pkt
  toll : t.toll = s.toll

namespace SamePath

theorem refl (s : State) : SamePath s s := ⟨rfl, rfl⟩

theorem trans {b : State} (h : SamePath a s) (k : SamePath s b) : SamePath a b := ⟨k.pkt.trans h.pkt, k.toll.trans h.toll⟩

theorem same (h : SamePath a s) (hp : t.pkt = s.pkt := by rfl) (ht : t.toll = s.toll := by rfl) : SamePath a t :=
  h.trans ⟨hp, ht⟩

theorem mail (h : SamePath a s) (k : Mail s t) : SamePath a t := h.same k.pkt k.toll

theorem ite {p : Prop} [Decidable p] {x y : State} (hx : SamePath a x) (hy : SamePath a y) : SamePath a (if p then x else y) := by
  split
  · exact hx
  · exact hy

theorem foldl {α : Type} {f : State → α → State} {l : List α} (hf : ∀ x i, SamePath a x → SamePath a (f x i)) (h : SamePath a s) :
    SamePath a (l.foldl f s) :=
  List.foldlRecOn l f h fun _ hx i _ => hf _ i hx

end SamePath

theorem traceJob_samePath {kind g q e word : Nat} (h : SamePath a s) : SamePath a (traceJob kind g q e word s) := by
  unfold traceJob
  refine .ite h ?_
  exact .ite (h.same.mail (bump_mail ..)) h.same

theorem dropWaybillJobs_samePath (h : SamePath a s) : SamePath a (dropWaybillJobs s) :=
  .foldl (fun _ _ h1 => .foldl (fun _ _ h2 => traceJob_samePath (h2.mail (bump_mail ..))) h1.same) h

theorem countWriteback_samePath {n : Nat} (h : SamePath a s) : SamePath a (countWriteback n s) := by
  unfold countWriteback
  extract_lets +onlyGivenNames s1 s2
  have h2 : SamePath a s2 := h.same
  exact .ite (h2.same.mail (sendVector_mail ..)) h2

theorem writebackTx_samePath {n status ts tb : Nat} {w : TxWait} (h : SamePath a s) : SamePath a (writebackTx n w status ts tb s) := by
  unfold writebackTx
  extract_lets +onlyGivenNames _ s1 s2
  have h1 : SamePath a s1 := .foldl (fun _ _ h => h.same) h
  exact countWriteback_samePath (.ite (h1.same.mail (bump_mail ..)) h1.same)

theorem flushTx_samePath {n k : Nat} (h : SamePath a s) : SamePath a (flushTx n k s) := by
  induction k generalizing s with
  | zero => exact h
  | succ k ih =>
    unfold flushTx
    split
    · exact h
    · split
      · exact h
      · exact ih (writebackTx_samePath h.same)

theorem txOutcome_samePath {n h' status ts tb : Nat} (h : SamePath a s) : SamePath a (txOutcome n h' status ts tb s) :=
  flushTx_samePath h.same

theorem setDrive_samePath {d why : Nat} {st : DriveSt} (h : SamePath a s) : SamePath a (setDrive d st why s) := by
  unfold setDrive
  extract_lets +onlyGivenNames old
  refine .ite h ?_
  extract_lets +onlyGivenNames s1 s2 s3 _ s4
  have h2 : SamePath a s2 := h.same.mail (raise_mail ..)
  have h3 : SamePath a s3 := h2.mail (raise_mail ..)
  have h4 : SamePath a s4 := .ite h3.same h2
  exact .ite (.foldl (fun _ _ h5 => h5.same.mail (finish_mail ..)) h4) h4

theorem stopStore_samePath (h : SamePath a s) : SamePath a (stopStore s) := by
  unfold stopStore
  refine .foldl (fun _ _ h1 => ?_) h.same
  split
  · exact setDrive_samePath h1
  · exact h1.same
  · exact h1

theorem setAch_samePath {n : Nat} {st : AchSt} (h : SamePath a s) : SamePath a (setAch n st s) := by
  unfold setAch
  extract_lets +onlyGivenNames old
  refine .ite h ?_
  extract_lets +onlyGivenNames s1 _ s2
  have h2 : SamePath a s2 := .ite h.same h.same
  exact h2.mail (raise_mail ..)

theorem flagAch_samePath {n : Nat} (h : SamePath a s) : SamePath a (flagAch n s) := by
  unfold flagAch recheckAch
  extract_lets +onlyGivenNames s1
  have h1 : SamePath a s1 := h.same
  have h2 := SamePath.ite (p := (s1.ach n).st = .active) (setAch_samePath (n := n) (st := .calibrating) h1) h1
  exact .ite (setAch_samePath h2) h2

theorem toHunt_samePath {l : Nat} (h : SamePath a s) : SamePath a (toHunt l s) := by
  unfold toHunt
  refine .ite h.same ?_
  refine .foldl (fun _ _ h3 => h3.same) ?_
  exact .foldl (fun _ _ h2 => flagAch_samePath h2.same) h.same

theorem setLane_samePath {n : Nat} {st : LaneSt} (h : SamePath a s) : SamePath a (setLane n st s) := by
  unfold setLane
  extract_lets +onlyGivenNames old s1 s2
  have h2 : SamePath a s2 := h.same.mail (raise_mail ..)
  exact .ite (.ite (toHunt_samePath h2) h2) (.ite (h.same.mail (raise_mail ..)) h.same)

/-! ### The packet path and the device after their reset -/

/-- The packet path's reset: the store and the queues are empty, and the tables stay (R360). -/
structure PathCleared (s t : State) : Prop where
  waybills : t.pkt.wb = []
  fragments : t.pkt.frag = []
  flow : t.pkt.flow = s.pkt.flow
  tcam : t.pkt.tcam = s.pkt.tcam
  queues : ∀ q, (t.tq q).pkts = []

theorem clearPacketPath_clears (s : State) : PathCleared s (clearPacketPath s) := by
  unfold clearPacketPath
  extract_lets +onlyGivenNames n rings s1 s2 _ _ s3
  have h1 : SamePath s s1 := dropWaybillJobs_samePath (.refl s)
  have h2 : SamePath s s2 := .ite h1 (h1.mail (bumpBy_mail ..))
  have h3 : SamePath s3 (rings.foldl (fun s r => txOutcome r.1 r.2 3 0 0 s) s3) :=
    .foldl (fun _ _ h => txOutcome_samePath h) (.refl s3)
  refine ⟨by rw [h3.pkt], by rw [h3.pkt], ?_, ?_, fun q => ?_⟩
  · rw [h3.pkt, ← h2.pkt]
  · rw [h3.pkt, ← h2.pkt]
  · rw [State.tq, h3.toll]
    exact Tab.mapV_forall (P := fun x : TollQ => x.pkts = []) (f := fun x => { x with pkts := [] }) (fun _ => rfl) rfl s2.toll.q q

theorem resetDevice_waybills (s : State) : (resetDevice s).pkt.wb = [] := by
  unfold resetDevice
  extract_lets +onlyGivenNames s1 s2 s3 s4
  have h3 : s3.pkt.wb = [] := by
    rw [(stopStore_samePath (.refl _)).pkt]
    exact (clearPacketPath_clears _).waybills
  have h4 : SamePath s3 s4 := .foldl (fun _ _ h => .ite h (setLane_samePath h)) (.refl s3)
  clear_value s4
  rw [show (resetTasks s4).pkt = s4.pkt from rfl, h4.pkt, h3]

/-! ### The states of a recast -/

/-- A recast of `u` stands in state `st`. -/
def State.busy (s : State) (u : RUnit) (st : RState) : Bool := s.recast.jobs.any fun j => j.unit == u && j.st == st

theorem setRecast_busy {st st' : RState} {j : RecastJob} (h : s.recastIn u st = some j) (ht : t.recast = s.recast) :
    (setRecast u st' t).busy u st' = true := by
  have hj := List.find?_some h
  simp only [Bool.and_eq_true, beq_iff_eq] at hj
  refine List.any_eq_true.mpr ⟨{ j with st := st' }, ?_, by simp [hj.1]⟩
  refine List.mem_map.mpr ⟨j, ?_, by simp [hj.1]⟩
  rw [ht]
  exact List.mem_of_find?_eq_some h

theorem startRecast_busy (u : RUnit) (c : Nat) (full : Bool) (s : State) : (startRecast u c full s).busy u .reset = true := by
  rw [State.busy, startRecast_recast]
  exact List.any_eq_true.mpr ⟨_, List.mem_append_right _ (List.mem_singleton.mpr rfl), by simp⟩

/-- A device recast that stops after RESET is HELD, and no recast of the device is left (R504). -/
theorem hold_holds (c : Nat) (h : s.trialRuns = false) :
    (hold c s).recast.held = true ∧ ((hold c s).recast.jobs.any fun j => j.unit == .device) = false ∧ (hold c s).boot = s.boot := by
  unfold hold
  extract_lets +onlyGivenNames _ s1 s2
  have h1 : s2.recast = s1.recast := raise_recast ..
  have h2 : s2.boot = s1.boot := raise_boot ..
  have h3 : s2.fw = s1.fw := raise_fw ..
  rw [if_neg (by rw [State.trialRuns, h3]; exact ne_true_of_eq_false h), h1, h2]
  refine ⟨rfl, ?_, rfl⟩
  rw [List.any_eq_false]
  intro j hj
  simpa using (List.mem_filter.mp hj).2

section
variable {j : RecastJob} (h : s.recastIn u .reset = some j)
include h

theorem recastResetDone_restores (hu : u ≠ .device ∨ j.full = true) :
    exec (.recastResetDone u) s = .next (setRecast u .restore (resetUnit u s)) := by
  change execRecastResetDone u s = _
  unfold execRecastResetDone
  simp only [h]
  rw [if_neg]
  rintro ⟨h1, h2⟩
  rcases hu with hu | hu
  · exact hu h1
  · simp [hu] at h2

theorem recastResetDone_holds (hu : u = .device) (hj : j.full = false) :
    exec (.recastResetDone u) s = .next (hold j.cause (resetUnit u s)) := by
  change execRecastResetDone u s = _
  unfold execRecastResetDone
  simp only [h]
  rw [if_pos ⟨hu, by simp [hj]⟩]

end

theorem setRecast_frame (u : RUnit) (st : RState) (s : State) : (setRecast u st s).recast.queue = s.recast.queue ∧
    (setRecast u st s).recast.history = s.recast.history := ⟨rfl, rfl⟩

theorem setRecast_pkt (u : RUnit) (st : RState) (s : State) : (setRecast u st s).pkt = s.pkt := rfl

theorem PathCleared.setRecast {st : RState} (h : PathCleared s t) : PathCleared s (setRecast u st t) :=
  ⟨h.waybills, h.fragments, h.flow, h.tcam, h.queues⟩

theorem resetUnit_packetPath (s : State) : resetUnit ⟨1, 0x0C, 0⟩ s = clearPacketPath s := rfl

theorem resetUnit_device (s : State) : resetUnit ⟨2, 0, 0⟩ s = resetDevice s := rfl

/-- A restore touches the engines alone. -/
theorem restoreUnit_eq (u : RUnit) (s : State) : ∃ k, restoreUnit u s = { s with task := k } := by
  unfold restoreUnit
  split
  · exact ⟨_, rfl⟩
  · refine List.foldlRecOn (motive := fun x : State => ∃ k, x = { s with task := k }) _ _ ⟨_, rfl⟩ ?_
    rintro _ ⟨k, rfl⟩ e -
    exact ⟨_, rfl⟩
  · exact ⟨_, rfl⟩

theorem serveWaiters_nil (h : s.task.waiters = []) : serveWaiters s = s := by simp [serveWaiters, h]

theorem resumeUnit_subsystem (hu : u.scope = 1) (h : s.task.waiters = []) : resumeUnit u s = s := by
  obtain ⟨_, _, _⟩ := u
  cases hu
  exact serveWaiters_nil h

theorem unitFault_absorbed (h : s.recastHolds u = true) : unitFault u c s = admitFault u c s := if_pos h

theorem unitFault_subsystem (hu : u.scope = 1) : unitFault u c s = admitFault u c s := by
  obtain ⟨_, _, _⟩ := u
  cases hu
  exact ite_self _

theorem runQueued_empty (h : s.recast.queue = []) : runQueued s = s := by
  unfold runQueued
  simp [h, nextQueued]

theorem runQueued_one (hr : s.recasting = false) (h : s.recast.queue = [(u, c)]) :
    runQueued s = admitFault u c { s with recast := { s.recast with queue := [] } } := by
  unfold runQueued
  simp [hr, h, nextQueued]

/-! ### The commands of a recast -/

/-- A fault that the device takes up goes the way of its unit. -/
theorem exec_faultAdmit (hb : s.booted = true) (hu : u.valid = true) (h1 : 1 ≤ c) (h2 : c ≤ 12) (ho : s.unitOff u = false) :
    exec (.faultAdmit u c) s = .next (unitFault (u.reach c) c s) :=
  congrArg Host.Outcome.next (if_pos (by simp [hb, hu, h1, h2, ho]))

/-- A subsystem is recast when none of its size is. -/
theorem startRecast_alone (hu : u.scope = 1) (hj : s.recast.jobs = []) (c : Nat) :
    (startRecast u c true s).recast.jobs = [{ unit := u, cause := c, st := .reset, full := true }] ∧
    (startRecast u c true s).recast.lastCause = c ∧
    (startRecast u c true s).recast.history = s.recast.history ++ [(u, s.now)] := by
  rw [startRecast_recast]
  refine ⟨?_, rfl, if_neg (by simp [hu])⟩
  rw [Recast.started, hj]
  rfl

theorem recastResetDone_restores_frame (u : RUnit) (s : State) :
    (setRecast u .restore (resetUnit u s)).recast.queue = s.recast.queue ∧
    (setRecast u .restore (resetUnit u s)).recast.history = s.recast.history ∧
    (setRecast u .restore (resetUnit u s)).mbx.epoch = s.mbx.epoch ∧
    (setRecast u .restore (resetUnit u s)).boot = s.boot ∧ (setRecast u .restore (resetUnit u s)).flash = s.flash := by
  have k : Steady s (resetUnit u s) := resetUnit_steady (.refl s)
  exact ⟨(setRecast_frame ..).1.trans (congrArg Recast.queue k.recast),
    (setRecast_frame ..).2.trans (congrArg Recast.history k.recast), k.epoch, k.boot, k.flash⟩

/-- The fault of the unit that its cause reaches, while the device runs (R503). -/
theorem faultAdmit_subsystem (h : exec (.faultAdmit u c) s = .next (unitFault v c s)) (hv : v.scope = 1)
    (hn : s.recastHolds v = false) (hr : s.power.st = .run) (hq : ∀ q ∈ s.recast.queue, q.1 ≠ v)
    (hw : s.recastsWithin v (s.parN Prm.faultEscalateWindowS 0) < s.parN Prm.faultEscalateN 0) :
    (s.recast.jobs = [] → Answers (.faultAdmit u c) s fun t => t.recast.jobs = [{ unit := v, cause := c, st := .reset, full := true }] ∧
      t.recast.lastCause = c ∧ t.recast.history = s.recast.history ++ [(v, s.now)] ∧
      t.mbx.epoch = nextEpoch s.mbx.epoch ∧ t.cfg.staging = [] ∧ t.mbx.outstanding = [] ∧
      Mail { s with recast := t.recast, pkt := t.pkt } t) ∧
    ((s.recast.jobs.any fun j => decide (0 < j.unit.scope)) = true → s.recast.queue.length < 32 → Answers (.faultAdmit u c) s fun t =>
      t = { s with recast := { s.recast with queue := s.recast.queue ++ [(v, c)] } }) := by
  refine ⟨fun hj => ?_, fun hj hl => ?_⟩
  · have e : unitFault v c s = startRecast v c true s :=
      (unitFault_subsystem hv).trans (admitFault_subsystem hr hn hv hq hw (by simp [hj]))
    obtain ⟨k1, k2, k3⟩ := startRecast_alone hv hj c
    obtain ⟨he, hst, ho, hm⟩ := startRecast_reclaims (u := v) (by simp [hv]) c true s
    exact .of_eq (h.trans (by rw [e])) ⟨k1, k2, k3, he, hst, ho, hm⟩
  · exact .of_eq h ((unitFault_subsystem hv).trans (admitFault_queued hr hn hv hq hw hj hl))

theorem faultAdmit_core (h : exec (.faultAdmit u c) s = .next (unitFault ⟨0, 0x14, 0⟩ c s))
    (hn : s.recastHolds ⟨0, 0x14, 0⟩ = false) (hr : s.power.st = .run) : Answers (.faultAdmit u c) s fun t =>
      t.busy ⟨0, 0x14, 0⟩ .reset = true ∧ t.recast.lastCause = c ∧ t.mbx.epoch = s.mbx.epoch ∧ Mail { s with recast := t.recast } t := by
  have e : unitFault ⟨0, 0x14, 0⟩ c s = startRecast ⟨0, 0x14, 0⟩ c true s :=
    (ite_self _).trans (admitFault_block hr hn rfl)
  obtain ⟨k1, k2⟩ := startRecast_block (u := ⟨0, 0x14, 0⟩) rfl c true s
  exact .of_eq (h.trans (by rw [e])) ⟨startRecast_busy .., by rw [startRecast_recast]; rfl, k1, k2⟩

/-- Once the last recast has ended the one that is queued starts (R502, R503). -/
theorem runQueued_starts (hq : s.recast.queue = [(v, c)]) (hh : s.recast.held = false) (hj : s.recast.jobs = []) (hv : v.scope = 1)
    (hr : s.power.st = .run) (hw : s.recastsWithin v (s.parN Prm.faultEscalateWindowS 0) < s.parN Prm.faultEscalateN 0) :
    (runQueued s).busy v .reset = true ∧ (runQueued s).recast.queue = [] ∧ (runQueued s).mbx.epoch = nextEpoch s.mbx.epoch := by
  let b : State := { s with recast := { s.recast with queue := [] } }
  have e : runQueued s = startRecast v c true b := by
    rw [runQueued_one (by simp [State.recasting, hh, hj]) hq]
    exact admitFault_subsystem (s := b) hr (by simp [b, State.recastHolds, hh, hj]) hv (by simp [b]) hw (by simp [b, hj])
  rw [e]
  refine ⟨startRecast_busy .., by rw [startRecast_recast]; rfl, ?_⟩
  exact (startRecast_reclaims (u := v) (by simp [hv]) c true b).epoch

/-- Settles O59: what a fault leads to (`faultAdmit_subsystem`, `faultAdmit_core`), and what the end of each of a recast's states
does. -/
theorem recastsRunTheirStates : Obligations.RecastsRunTheirStates := by
  unfold Obligations.RecastsRunTheirStates
  intro s busy
  refine ⟨fun u c hb hu h1 h2 ho hp => ?fault, fun u hb c => .of_neg rfl (by simp [hb]) rfl, fun u j h => ?reset,
    fun u h => .of_eq rfl (by rw [h]), fun u j h => ?restore, fun u h => .of_eq rfl (by rw [h]), fun u j h hw => ?resume,
    fun u h => .of_eq rfl (by rw [h])⟩
  case fault =>
    have e := exec_faultAdmit hb hu h1 h2 ho
    refine ⟨fun k => .of_eq e ((unitFault_absorbed k).trans (admitFault_absorbed hp k)), faultAdmit_subsystem e, fun hv => ?_⟩
    rw [hv] at e ⊢
    exact faultAdmit_core e
  case reset =>
    have hs : Steady s (resetUnit u s) := resetUnit_steady (.refl s)
    have hbusy := setRecast_busy (st' := .restore) h hs.recast
    obtain ⟨k1, k2, k3, k4, k5⟩ := recastResetDone_restores_frame u s
    refine ⟨fun hu => ?_, fun hu => ?_, fun hu hj => ?_, fun hu hj ht => ?_⟩
    · refine .of_eq (recastResetDone_restores h (.inl ?_)) ⟨hbusy, k1, k2, k3, k4, k5⟩
      rintro rfl
      exact absurd hu (by decide)
    · subst hu
      have k := (clearPacketPath_clears s).setRecast (u := ⟨1, 0x0C, 0⟩) (st := .restore)
      rw [← resetUnit_packetPath] at k
      exact .of_eq (recastResetDone_restores h (.inl (by decide))) ⟨k.waybills, k.fragments, k.flow, k.tcam, k.queues⟩
    · subst hu
      refine .of_eq (recastResetDone_restores h (.inr hj)) ⟨hbusy, ?_, k4, k5⟩
      rw [setRecast_pkt, resetUnit_device, resetDevice_waybills]
    · have hf : (resetUnit u s).trialRuns = false := by
        rw [State.trialRuns, hs.fw]
        exact ht
      obtain ⟨k1, k2, k3⟩ := hold_holds j.cause hf
      subst hu
      exact .of_eq (recastResetDone_holds h rfl hj) ⟨k1, k2, by simp [State.recasting, k1], k3.trans hs.boot⟩
  case restore =>
    obtain ⟨k, e⟩ := restoreUnit_eq u s
    have hx : exec (.recastRestoreDone u) s = .next (setRecast u .resume (restoreUnit u s)) := by
      change execRecastRestoreDone u s = _
      simp only [execRecastRestoreDone, h]
    refine ⟨.of_eq hx ⟨setRecast_busy h (by rw [e]), by rw [e]; rfl, by rw [e]; rfl, by rw [e]; constructor <;> rfl⟩, fun hu => ?_⟩
    subst hu
    exact .of_eq hx rfl
  case resume =>
    have hx (hu : u.scope = 1) : exec (.recastResumeDone u) s = .next (runQueued (endRecast u s)) := by
      change execRecastResumeDone u s = _
      simp only [execRecastResumeDone, h]
      rw [resumeUnit_subsystem (s := endRecast u s) hu hw]
    refine ⟨fun hu hq => .of_eq (hx hu) (runQueued_empty hq), fun hu v c hq hh hv hr hn hj => .of_eq (hx hu) ?_⟩
    exact runQueued_starts (s := endRecast u s) hq hh hj hv hr hn

end Machine
end Sys2Proof
end
section
/-! ## Power-up and boot -/
namespace Sys2Proof.Machine

variable {a s t : State}

/-! ### Changes of the boot record -/

/-- As `Mail`, but the boot record may change. -/
def OnlyBoot (s t : State) : Prop := Mail { s with boot := t.boot } t

/-- As `Mail`, but the boot record and the security block's state may change. -/
def OnlyBootSec (s t : State) : Prop := Mail { s with boot := t.boot, sec := t.sec } t

theorem OnlyBoot.of_mail {b : Boot} (h : Mail { s with boot := b } t) : OnlyBoot s t := { h with boot := rfl }

theorem OnlyBoot.trans (h : OnlyBoot a s) (k : OnlyBoot s t) : OnlyBoot a t :=
  Mail.trans (b := { s with boot := t.boot }) { h with boot := rfl } k

theorem OnlyBoot.bootSec (h : OnlyBoot s t) : OnlyBootSec s t := { h with sec := rfl }

theorem OnlyBootSec.trans (h : OnlyBootSec a s) (k : OnlyBootSec s t) : OnlyBootSec a t :=
  Mail.trans (b := { s with boot := t.boot, sec := t.sec }) { h with boot := rfl, sec := rfl } k

theorem updBoot_onlyBoot (f : Boot → Boot) (s : State) : OnlyBoot s (updBoot f s) := .of_mail (.refl _)

theorem setStage_onlyBoot (n : Nat) (s : State) : OnlyBoot s (setStage n s) := .of_mail (setStage_mail n s)

/-! ### The sequencer -/

theorem pmicPgRise_ends (h : s.mayRise = true) (he : s.boot.enables = 15) (hw : s.power.st ≠ .waking) :
    Answers .pmicPgRise s fun t => t = { s with boot := { s.boot with pmicPg := true, pllStarted := true } } := by
  refine .of_eq (t := { s with boot := { s.boot with pmicPg := true, pllStarted := true } }) ?_ rfl
  change execPmicPgRise s = _
  simp [execPmicPgRise, hw, h, he, updBoot]

/-- A halt of boot leaves the code and the stage in which it came (Table 2-6, R508). -/
structure Halts (code : Nat) (s t : State) : Prop where
  stage : t.boot.stage = 15
  code : t.boot.errCode = code
  errStage : t.boot.errStage = s.boot.stage
  rest : OnlyBoot s t

theorem bootHalt_halts (code : Nat) (s : State) : Halts code s (bootHalt code s) := by
  have m := bootHalt_mail code s
  exact ⟨by rw [m.boot]; rfl, by rw [m.boot]; rfl, by rw [m.boot]; rfl, .of_mail m⟩

/-- A change of the boot record before a halt stays out of what the halt records. -/
theorem Halts.of_boot {code : Nat} {b : Boot} (h : Halts code { s with boot := b } t) (hb : b.stage = s.boot.stage) :
    Halts code s t :=
  ⟨h.stage, h.code, h.errStage.trans hb, h.rest⟩

theorem pmicPgTimeout_halts (h : s.mayRise = true) (hp : s.boot.pmicPg = false) (he : s.boot.enables ≠ 0) :
    Answers .pmicPgTimeout s fun t => t.boot.enables = 0 ∧ Halts 0x0202 s t := by
  have k := bootHalt_halts 0x0202 (updBoot (fun b => { b with enables := 0 }) s)
  refine .of_pos rfl (by simp [h, hp, he]) ⟨?_, k.of_boot rfl⟩
  rw [bootHalt_boot]
  rfl

/-! ### The ROM and the loader -/

/-- The ROM runs: the internal reset has ended and GPIO0 is sampled (step 8). -/
def State.romStarted (s : State) : State :=
  setStage 1 (updBoot (fun b => { b with running := true, source := b2n (s.gpio.get 0).level }) s)

theorem State.romStarted_boot (s : State) :
    s.romStarted.boot = { s.boot with running := true, source := b2n (s.gpio.get 0).level, stage := 1 } := setStage_boot 1 _

theorem State.romStarted_onlyBoot (s : State) : OnlyBoot s s.romStarted := (updBoot_onlyBoot _ s).trans (setStage_onlyBoot 1 _)

section
variable (h : s.mayRise = true) (hp : s.boot.pllStarted = true) (hr : s.boot.running = false)
include h hp hr

theorem execBootPllLock_eq (otpOk rngOk : Bool) : execBootPllLock otpOk rngOk s = .next (
    if !otpOk then bootHalt 0x0105 s.romStarted
    else if !rngOk || s.romStarted.sec.rngHalt then
      bootHalt 0x0106 { s.romStarted with sec := { s.romStarted.sec with rngHalt := false } }
    else s.romStarted) :=
  congrArg Host.Outcome.next (if_neg (by simp [h, hp, hr]))

theorem bootPllLock_starts (hn : s.sec.rngHalt = false) : Answers (.bootPllLock true true) s fun t =>
    t.boot.stage = 1 ∧ t.boot.running = true ∧ t.boot.source = b2n (s.gpio.get 0).level ∧ t.boot.enables = s.boot.enables ∧
    OnlyBoot s t := by
  have m := s.romStarted_onlyBoot
  have hb := s.romStarted_boot
  refine .of_eq (t := s.romStarted) ((execBootPllLock_eq h hp hr true true).trans ?_)
    ⟨by rw [hb], by rw [hb], by rw [hb], by rw [hb], m⟩
  rw [m.sec]
  simp [hn]

/-- The ROM finds OTP faulty (Table 17-9). -/
theorem bootPllLock_otp (b : Bool) : Answers (.bootPllLock false b) s fun t =>
    t.boot.stage = 15 ∧ t.boot.errCode = 0x0105 ∧ OnlyBoot s t := by
  have k := bootHalt_halts 0x0105 s.romStarted
  exact .of_eq (execBootPllLock_eq h hp hr false b) ⟨k.stage, k.code, s.romStarted_onlyBoot.trans k.rest⟩

/-- The ROM finds the random number generator faulty (R480). -/
theorem bootPllLock_rng : Answers (.bootPllLock true false) s fun t =>
    t.boot.stage = 15 ∧ t.boot.errCode = 0x0106 ∧ OnlyBootSec s t := by
  let u : State := { s.romStarted with sec := { s.romStarted.sec with rngHalt := false } }
  have hu : OnlyBootSec s.romStarted u := by constructor <;> rfl
  have k := bootHalt_halts 0x0106 u
  exact .of_eq (execBootPllLock_eq h hp hr true false) ⟨k.stage, k.code, (s.romStarted_onlyBoot.bootSec.trans hu).trans k.rest.bootSec⟩

end

section
variable (h : s.boot.stage = 1) (hs : s.boot.source = 0) (hl : s.boot.loaderRuns = false) (hx : s.boot.xspiReleased = true)
include h hs hl hx

theorem loaderVerify_halts : Answers (.loaderVerify false) s (Halts 0x0201 s) :=
  .of_eq (congrArg Host.Outcome.next ((if_neg (by simp [h, hs, hl, hx])).trans (if_pos rfl))) (bootHalt_halts ..)

/-- The first loader copy that passes runs; with none, boot halts (R468). -/
theorem loaderVerify_runs : Answers (.loaderVerify true) s fun t =>
    t.boot.loaderRuns = [s.flash.loader.get 0, s.flash.loader.get 1].any s.fwAccepts ∧
    t.boot.stage = (if [s.flash.loader.get 0, s.flash.loader.get 1].any s.fwAccepts then 1 else 15) ∧ OnlyBoot s t := by
  have e : execLoaderVerify true s = .next (if [s.flash.loader.get 0, s.flash.loader.get 1].any s.fwAccepts
      then updBoot (fun b => { b with loaderRuns := true }) s
      else bootHalt (s.verifyError 0x0101 [s.flash.loader.get 0, s.flash.loader.get 1]) s) :=
    congrArg Host.Outcome.next ((if_neg (by simp [h, hs, hl, hx])).trans (if_neg Bool.false_ne_true))
  by_cases ha : [s.flash.loader.get 0, s.flash.loader.get 1].any s.fwAccepts = true
  · rw [ha]
    exact .of_pos e ha ⟨rfl, h, updBoot_onlyBoot _ s⟩
  · refine .of_neg e ha ?_
    rw [Bool.eq_false_iff.mpr ha]
    have k := bootHalt_halts (s.verifyError 0x0101 [s.flash.loader.get 0, s.flash.loader.get 1]) s
    exact ⟨by rw [bootHalt_boot]; exact hl, k.stage, k.rest⟩

end

section
variable (h : s.boot.stage = 1) (hl : s.boot.loaderRuns = true) (gib rate : Nat)
include h hl

theorem execDdrTrainingDone_eq (equal : Bool) : execDdrTrainingDone equal gib rate s = .next (
    if !equal then bootHalt 0x0206 s
    else if rate = 0 then bootHalt 0x0203 (updBoot (fun b => { b with ddrBytes := gib * 2 ^ 30 }) s)
    else if [8, 16, 24, 32].contains gib && ddrRates.contains rate then
      setStage 2 (updBoot (fun b => { b with ddrBytes := gib * 2 ^ 30, ddrRate := rate }) s)
    else s) :=
  congrArg Host.Outcome.next (if_neg (by simp [h, hl]))

theorem ddrTrainingDone_unequal : Answers (.ddrTrainingDone false gib rate) s (Halts 0x0206 s) :=
  .of_eq (execDdrTrainingDone_eq h hl gib rate false) (bootHalt_halts ..)

theorem ddrTrainingDone_untrained : Answers (.ddrTrainingDone true gib 0) s (Halts 0x0203 s) := by
  have k := bootHalt_halts 0x0203 (updBoot (fun b => { b with ddrBytes := gib * 2 ^ 30 }) s)
  exact .of_eq (execDdrTrainingDone_eq h hl gib 0 true) (k.of_boot rfl)

/-- The channels run at a rate of Table 19-11: the loader takes the firmware next (R553). -/
theorem ddrTrainingDone_trained (hg : gib = 8 ∨ gib = 16 ∨ gib = 24 ∨ gib = 32) (hr : rate ∈ ddrRates) :
    Answers (.ddrTrainingDone true gib rate) s fun t => t.boot.stage = 2 ∧ t.boot.ddrBytes = gib * 2 ^ 30 ∧ t.boot.ddrRate = rate ∧
      OnlyBoot s t := by
  let u := updBoot (fun b => { b with ddrBytes := gib * 2 ^ 30, ddrRate := rate }) s
  have h0 : rate ≠ 0 := by rintro rfl; exact absurd hr (by decide)
  have hb := setStage_boot 2 u
  refine .of_eq (t := setStage 2 u) ((execDdrTrainingDone_eq h hl gib rate true).trans ?_)
    ⟨by rw [hb], by rw [hb]; rfl, by rw [hb]; rfl, (updBoot_onlyBoot _ s).trans (setStage_onlyBoot 2 u)⟩
  simp [h0, hg, hr, u]

end

/-! ### The firmware -/

/-- The firmware of bank `k` runs. -/
def State.runBank (s : State) (k : Nat) (fallback : Bool) : State :=
  startFirmware (s.bankImage k) (updBoot (fun x => { x with bank := k, fallback := fallback }) s)

theorem State.runBank_boot (s : State) (k : Nat) (fallback : Bool) :
    (s.runBank k fallback).boot.stage = 3 ∧ (s.runBank k fallback).boot.bank = k ∧
    (s.runBank k fallback).boot.fallback = fallback ∧ (s.runBank k fallback).boot.initAt = s.now := by
  unfold State.runBank startFirmware
  rw [setStage_boot]
  exact ⟨rfl, rfl, rfl, rfl⟩

theorem State.runBank_onlyBootSec (s : State) (k : Nat) (fallback : Bool) : OnlyBootSec s (s.runBank k fallback) := by
  unfold State.runBank startFirmware
  exact OnlyBootSec.trans (by constructor <;> rfl) (setStage_onlyBoot 3 _).bootSec

theorem execFirmwareVerify_eq (h : s.boot.stage = 2) (hs : s.boot.source = 0) : execFirmwareVerify s = .next (
    if s.fwAccepts (s.bankImage s.fw.selected) then s.runBank s.fw.selected false
    else if s.fwAccepts (s.bankImage (1 - s.fw.selected)) then s.runBank (1 - s.fw.selected) true
    else bootHalt (s.verifyError 0x0102 [s.bankImage 0, s.bankImage 1]) s) :=
  congrArg Host.Outcome.next (if_neg (by simp [h, hs]))

/-- The selected bank runs, or the other one where it fails; with neither, boot halts (R468, R507). -/
theorem firmwareVerify_runs (h : s.boot.stage = 2) (hs : s.boot.source = 0) : Answers .firmwareVerify s fun t =>
    t.boot.stage = (if s.fwAccepts (s.bankImage s.fw.selected) ∨ s.fwAccepts (s.bankImage (1 - s.fw.selected)) then 3 else 15) ∧
    (s.fwAccepts (s.bankImage s.fw.selected) = true → t.boot.bank = s.fw.selected ∧ t.boot.fallback = false ∧ t.boot.initAt = s.now) ∧
    (s.fwAccepts (s.bankImage s.fw.selected) = false → s.fwAccepts (s.bankImage (1 - s.fw.selected)) = true →
      t.boot.bank = 1 - s.fw.selected ∧ t.boot.fallback = true) ∧ t.flash = s.flash ∧ OnlyBootSec s t := by
  have e := execFirmwareVerify_eq h hs
  cases h1 : s.fwAccepts (s.bankImage s.fw.selected) with
  | true =>
    obtain ⟨k1, k2, k3, k4⟩ := s.runBank_boot s.fw.selected false
    have m := s.runBank_onlyBootSec s.fw.selected false
    exact .of_eq (e.trans (congrArg _ (if_pos h1))) ⟨by simp [k1], fun _ => ⟨k2, k3, k4⟩, fun k => by simp at k, m.flash, m⟩
  | false =>
    cases h2 : s.fwAccepts (s.bankImage (1 - s.fw.selected)) with
    | true =>
      obtain ⟨k1, k2, k3, -⟩ := s.runBank_boot (1 - s.fw.selected) true
      have m := s.runBank_onlyBootSec (1 - s.fw.selected) true
      refine .of_eq (t := s.runBank (1 - s.fw.selected) true) (e.trans ?_)
        ⟨by simp [k1], fun k => by simp at k, fun _ _ => ⟨k2, k3⟩, m.flash, m⟩
      simp [h1, h2]
    | false =>
      have k := bootHalt_halts (s.verifyError 0x0102 [s.bankImage 0, s.bankImage 1]) s
      refine .of_eq (t := bootHalt (s.verifyError 0x0102 [s.bankImage 0, s.bankImage 1]) s) (e.trans ?_)
        ⟨by rw [k.stage]; simp, fun k => by simp at k, fun _ k => by simp at k, k.rest.flash, k.rest.bootSec⟩
      simp [h1, h2]

/-! ### Firmware initialisation -/

/-- The units have started with the committed configuration, at stage 0x4. -/
def State.unitsStarted (s : State) (bad : List Nat) : State :=
  let s := newChallenge (restoreSlots bad s)
  let s := if s.boot.source = 0 then selectPattern s else updBoot (fun b => { b with pattern := 2 }) s
  startUnits (setStage 4 s)

/-- Until the units have started only the stage, the feeds' enables and the pattern's source change in the boot record. -/
theorem State.unitsStarted_frame (s : State) (bad : List Nat) :
    (s.unitsStarted bad).boot = { s.boot with
      stage := 4, enables := (s.unitsStarted bad).boot.enables, pattern := (s.unitsStarted bad).boot.pattern } ∧
    (s.unitsStarted bad).fw = { s.fw with ponO7 := (s.unitsStarted bad).fw.ponO7 } ∧ (s.unitsStarted bad).flash = s.flash := by
  unfold State.unitsStarted
  extract_lets s1 s2
  have h1 : Steady s s1 := newChallenge_steady (restoreSlots_steady (.refl s))
  have h2 : Wakes s s2 := by
    refine .ite (selectPattern_wakes (h1.wakes (.refl s))) ?_
    exact (h1.wakes (.refl s)).trans ⟨rfl, rfl, rfl, rfl, rfl, id⟩
  have h3 : Wakes (setStage 4 s2) (startUnits (setStage 4 s2)) := startUnits_wakes (.refl _)
  have m := setStage_mail 4 s2
  generalize startUnits (setStage 4 s2) = u at h3 ⊢
  refine ⟨?_, ?_, ?_⟩
  · rw [h3.boot, m.boot]
    dsimp only
    rw [h2.boot]
  · rw [h3.fw, m.fw]
    dsimp only
    rw [h2.fw]
  · rw [h3.flash, m.flash]
    exact h2.flash

theorem execBootReady_eq (h : s.boot.stage = 3) (bad : List Nat) : execBootReady bad s = .next (
    if (s.unitsStarted bad).fw.rollback ≠ 0 then
      raise Ev.mgmtFwRollback (s.unitsStarted bad).boot.bank (detail [(0, 1, (s.unitsStarted bad).fw.rollback)])
        (setStage 14 { s.unitsStarted bad with fw := { (s.unitsStarted bad).fw with rollback := 0 } })
    else if (s.unitsStarted bad).boot.fallback then setStage 14 (s.unitsStarted bad)
    else applyRevocations (setStage 5 (s.unitsStarted bad))) := by
  unfold execBootReady State.unitsStarted
  rw [if_neg (not_not_intro h)]

theorem bootReady_rolledBack (h : s.boot.stage = 3) (bad : List Nat) (hr : s.fw.rollback ≠ 0) :
    Answers (.bootReady bad) s fun t => t.boot.stage = 14 ∧ t.fw.rollback = 0 ∧ t.flash.bank = s.flash.bank := by
  obtain ⟨-, hf, hl⟩ := s.unitsStarted_frame bad
  refine .of_pos (execBootReady_eq h bad) (by rw [hf]; exact hr) ⟨?_, ?_, ?_⟩
  · rw [raise_boot, setStage_boot]
  · rw [raise_fw, (setStage_mail ..).fw]
  · rw [raise_flash, (setStage_mail ..).flash]
    dsimp only
    rw [hl]

theorem bootReady_runs (h : s.boot.stage = 3) (bad : List Nat) (hr : s.fw.rollback = 0) : Answers (.bootReady bad) s fun t =>
    t.boot.stage = (if s.boot.fallback then 14 else 5) ∧ t.flash.bank = s.flash.bank ∧ t.boot.bank = s.boot.bank ∧
    t.boot.count = s.boot.count := by
  obtain ⟨hb, hf, hl⟩ := s.unitsStarted_frame bad
  refine .of_neg (execBootReady_eq h bad) (by rw [hf]; exact not_not_intro hr) ?_
  have hfb : (s.unitsStarted bad).boot.fallback = s.boot.fallback := by rw [hb]
  rw [hfb]
  split
  · rw [setStage_boot, (setStage_mail ..).flash]
    exact ⟨rfl, by rw [hl], by rw [hb], by rw [hb]⟩
  · have k : Steady (setStage 5 (s.unitsStarted bad)) (applyRevocations (setStage 5 (s.unitsStarted bad))) :=
      applyRevocations_steady (.refl _)
    rw [k.boot, k.flash, setStage_boot, (setStage_mail ..).flash]
    exact ⟨rfl, by rw [hl], by rw [hb], by rw [hb]⟩

/-- Settles O55, one lemma above for each step of power-up and boot. -/
theorem powerUpRunsInSteps : Obligations.PowerUpRunsInSteps := by
  unfold Obligations.PowerUpRunsInSteps
  intro s only halts
  have halted {code : Nat} {t : State} (k : Halts code s t) : halts code t := ⟨k.stage, k.code, k.errStage, k.rest⟩
  have halted' {i : Instr} {code : Nat} (k : Answers i s (Halts code s)) : Answers i s (halts code) :=
    let ⟨t, e, ht⟩ := k
    ⟨t, e, halted ht⟩
  refine ⟨.of_eq rfl rfl, fun hv hr => .of_pos rfl (by simp [hv, hr]) rfl,
    fun h => .of_neg rfl (by rcases h with h | h <;> simp [h]) rfl, fun h => ⟨?enable, pmicPgRise_ends h, ?pg, ?high, ?pll⟩,
    fun h => .of_neg rfl (by simp [h]) rfl, fun h => .of_pos rfl h rfl,
    fun h hs hl hx => ⟨halted' (loaderVerify_halts h hs hl hx), loaderVerify_runs h hs hl hx⟩,
    fun h hl gib rate => ⟨halted' (ddrTrainingDone_unequal h hl gib rate), halted' (ddrTrainingDone_untrained h hl gib),
      ddrTrainingDone_trained h hl gib rate⟩,
    fun h hs _ => firmwareVerify_runs h hs,
    fun h => ⟨fun bad => ⟨bootReady_rolledBack h bad, bootReady_runs h bad⟩, fun hn => ?late, fun hn => ?inTime⟩⟩
  case enable => exact fun he => .of_pos rfl (by simp [h, he]) rfl
  case pg =>
    intro hp he
    obtain ⟨t, e, h0, k⟩ := pmicPgTimeout_halts h hp he
    exact .of_eq e ⟨halted k, h0⟩
  case high => exact fun hp => .of_neg rfl (by simp [hp]) rfl
  case pll => exact fun hp hr hn => ⟨bootPllLock_starts h hp hr hn, bootPllLock_otp h hp hr, bootPllLock_rng h hp hr⟩
  case late => exact .of_pos rfl ⟨h, hn⟩ (halted (bootHalt_halts ..))
  case inTime => exact .of_neg rfl (fun k => by omega) rfl

end Sys2Proof.Machine
end
section
/-! ## Doorbells, windows and sessions -/
namespace Sys2Proof.Machine

variable {s t : State} {w : Nat}

/-! ### Protocol errors -/

/-- What a protocol error on window `w` leaves: the window's mark, the count, and nothing else of the mailbox (R45). -/
structure Refused (w : Nat) (s t : State) : Prop where
  mark : (t.win w).protoErr = true
  hold : (t.win w).hold = (s.win w).hold
  bytes : (t.win w).bytes = (s.win w).bytes
  seq : (t.win w).seq = (s.win w).seq
  session : t.mbx.session = s.mbx.session
  armed : t.mbx.armed = s.mbx.armed
  outstanding : t.mbx.outstanding = s.mbx.outstanding
  evt : t.evt = s.evt
  host : t.host = s.host
  count : t.com Prm.hostProtoErr w = (satAdd 32 (s.com Prm.hostProtoErr w).toNat 1 : Nat)

theorem protoError_refused (w : Nat) (s : State) : Refused w s (protoError w s) := by
  have hw : (protoError w s).win w = { s.win w with protoErr := true } := setWin_win_same ..
  exact ⟨by rw [hw], by rw [hw], by rw [hw], by rw [hw], rfl, rfl, rfl, rfl, rfl, com_bump ..⟩

theorem postWindow_owned (h : s.owns w = true) : postWindow w s = protoError w s := if_pos h

theorem armWindow_owned (h : s.owns w = true) : armWindow w s = protoError w s := if_pos (by simp [h])

theorem writeWindow_owned (h : s.owns w = true) (off : Nat) (b : List Byte) : writeWindow w off b s = protoError w s := if_pos h

theorem recallWindow_host (h : (s.win w).hold = .host) : recallWindow w s = protoError w s :=
  if_neg (by simp [h])

/-- A write at an offset of a window's page reaches that window (Table 2-1). -/
theorem exec_registerWrite_window (hup : s.hostUp = true) (hw : w < 8) {off : Nat} (ho : off < 0x1000) (b : List Byte) :
    exec (.registerWrite (0x1000 * (w + 1) + off) b) s = .next (writeWindow w off b s) := by
  change execRegisterWrite _ _ _ = _
  unfold execRegisterWrite
  rw [if_neg (by simp [hup]), if_neg (by omega), if_pos (by omega), show (0x1000 * (w + 1) + off) / 0x1000 - 1 = w by omega,
    show (0x1000 * (w + 1) + off) % 0x1000 = off by omega]

/-! ### Lending a window -/

theorem State.waiting_nil (h : s.evt.recs = []) : s.waiting = [] := by simp [State.waiting, h]

/-- With no message and no record there is nothing to deliver. -/
theorem pump_idle (hc : s.mbx.control = []) (hr : s.evt.recs = []) : pump s = s := by
  have hd : s.logDue = false := by simp [State.logDue, State.waiting_nil hr]
  have h1 : deliverOne s = none := by
    unfold deliverOne
    split
    · rfl
    · simp [hc, hd]
  unfold pump deliver
  simp [h1]

theorem armWindow_lends (hr : s.ready = true) (h : (s.win w).hold = .host) (hs : s.mbx.session.isSome = true)
    (ha : s.mbx.armed = []) (hc : s.mbx.control = []) (he : s.evt.recs = []) :
    armWindow w s = ({ s with mbx := { s.mbx with armed := [w] } } : State).setWin w { s.win w with hold := .armed } := by
  unfold armWindow
  rw [if_neg (by simp [State.owns, h, hr]), if_neg (by simpa [Option.isNone_iff_eq_none, Option.isSome_iff_ne_none] using hs), ha]
  exact pump_idle hc he

theorem armWindow_closed (hr : s.ready = true) (h : (s.win w).hold = .host) (hs : s.mbx.session = none) :
    armWindow w s = handBack w .closed s := by
  unfold armWindow
  rw [if_neg (by simp [State.owns, h, hr]), if_pos (by simp [hs])]

theorem recallWindow_armed (hr : s.ready = true) (h : (s.win w).hold = .armed) : recallWindow w s = handBack w .recalled s :=
  if_pos (by simp [hr, h])

theorem handBack_win_same (w : Nat) (r : HandBack) (s : State) :
    (handBack w r s).win w = { s.win w with hold := .host, handback := r, seq := ((s.win w).seq + 1) % 256 } := by
  rw [handBack_win, if_pos rfl]

theorem not_mem_handBack_armed (w : Nat) (r : HandBack) (s : State) : w ∉ (handBack w r s).mbx.armed := by
  simp [handBack_mbx]

/-! ### Ring doorbells -/

theorem ringDoorbell_enabled {k : Nat} (h : s.par Prm.dmaRingEnable k = 1) (producer : Nat) :
    ringDoorbell k producer s = updRing k (fun r => { r with prod := producer % 65536 }) s := if_pos h

theorem ringDoorbell_disabled {k : Nat} (h : s.par Prm.dmaRingEnable k ≠ 1) (producer : Nat) :
    ringDoorbell k producer s = bump Prm.hostRingDbErr k s := if_neg h

/-- A doorbell of ring `k` (R40). -/
theorem ringDoorbell_answers {i : Instr} {k producer : Nat} (e : exec i s = .next (ringDoorbell k producer s)) :
    (s.par Prm.dmaRingEnable k = 1 → Answers i s fun t =>
      (t.ring k).prod = producer % 65536 ∧ (t.ring k).cons = (s.ring k).cons ∧ t.cfg = s.cfg ∧ (∀ j, j ≠ k → t.ring j = s.ring j)) ∧
    (s.par Prm.dmaRingEnable k ≠ 1 → Answers i s fun t =>
      t.dma = s.dma ∧ t.com Prm.hostRingDbErr k = (satAdd 32 (s.com Prm.hostRingDbErr k).toNat 1 : Nat)) := by
  refine ⟨fun h => ?_, fun h => ?_⟩
  · rw [ringDoorbell_enabled h] at e
    exact .of_eq e ⟨by rw [updRing_ring_same], by rw [updRing_ring_same], rfl, fun j hj => updRing_ring_ne _ _ _ _ hj.symm⟩
  · rw [ringDoorbell_disabled h] at e
    exact .of_eq e ⟨rfl, com_bump ..⟩

/-- An aligned write of a ring's register is its doorbell (Table 2-2). -/
theorem exec_registerWrite_ring (hup : s.hostUp = true) {n v : Nat} (hn : n < 16) (hv : v < 2 ^ 32) :
    exec (.registerWrite (0x100 + 4 * n) (le 4 v)) s = .next (ringDoorbell n (v % 65536) s) := by
  have e : leNat (le 4 v) = v := by rw [leNat_le]; exact Nat.mod_eq_of_lt hv
  change execRegisterWrite _ _ _ = _
  unfold execRegisterWrite writeRegister
  rw [if_neg (by simp [hup]), if_pos (by omega), if_pos ⟨by omega, length_le 4 v⟩, e, if_neg (by omega), if_neg (by omega),
    if_pos (by omega), show (0x100 + 4 * n - 0x100) / 4 = n by omega]

/-- Settles O10. -/
theorem doorbellsAndRegisterWrites : Obligations.DoorbellsAndRegisterWrites := by
  unfold Obligations.DoorbellsAndRegisterWrites
  refine ⟨fun s n producer hup hn => ⟨ringDoorbell_answers ?rx, ringDoorbell_answers ?tx⟩,
    fun s w off b hup hw h hlen ho => ?window, fun s n v hup hn hv he => ?ring⟩
  case rx => exact congrArg Host.Outcome.next (if_pos (by simp [hup, hn]))
  case tx => exact congrArg Host.Outcome.next (if_pos (by simp [hup, hn]))
  case window =>
    have e : writeWindow w off b s = s.setWin w { s.win w with bytes := writeBytes (s.win w).bytes off b } := by
      unfold writeWindow
      rw [if_neg (by simp [State.owns, h]), List.take_of_length_le (by omega)]
    refine .of_eq (exec_registerWrite_window hup hw ho b) ?_
    rw [e, setWin_win_same]
    exact ⟨get_writeBytes _ _ _, fun v hv => by rw [setWin_win, if_neg hv.symm], h, rfl, rfl⟩
  case ring =>
    refine .of_eq (exec_registerWrite_ring hup hn hv) ?_
    rw [ringDoorbell_enabled he, updRing_ring_same]
    exact ⟨Nat.mod_mod _ _, rfl⟩

/-! ### Sessions -/

/-- The first that meets `q` is still the first of those that meet `p` when it does. -/
theorem find?_filter_of_find? {α : Type} {p q : α → Bool} {l : List α} {x : α} (h : l.find? q = some x) (hp : p x = true) :
    (l.filter p).find? q = some x := by
  induction l with
  | nil => cases h
  | cons y l ih =>
    rw [List.find?_cons] at h
    split at h
    next hq =>
      cases h
      rw [List.filter_cons_of_pos hp, List.find?_cons_of_pos hq]
    next hq =>
      by_cases hy : p y = true
      · rw [List.filter_cons_of_pos hy, List.find?_cons_of_neg (by simp [hq])]
        exact ih h
      · rw [List.filter_cons_of_neg hy]
        exact ih h

theorem closeSession_unarmed (h : s.mbx.armed = []) : closeSession s = { s with
    mbx := refillControl { s.mbx with session := none, control := s.mbx.control.filter Ctl.shared,
                                      outstanding := s.mbx.outstanding.filter fun o => !o.pending }
    cfg := { s.cfg with staging := [] } } := by
  unfold closeSession
  rw [h]
  rfl

/-- The end of a session in which no window is armed: what stays of the mailbox (R53, R71). -/
structure Closed (s t : State) : Prop where
  session : t.mbx.session = none
  staging : t.cfg.staging = []
  epoch : t.mbx.epoch = s.mbx.epoch
  armed : t.mbx.armed = []
  rest : Mail s t

theorem closeSession_closes (h : s.mbx.armed = []) : Closed s (closeSession s) := by
  rw [closeSession_unarmed h]
  exact ⟨rfl, rfl, rfl, h, by constructor <;> rfl⟩

/-- A command that is not PENDING outlives the session. -/
theorem closeSession_command {cid : Nat} {o : Outstanding} (h : s.mbx.armed = []) (hc : s.command? cid = some o)
    (hp : o.pending = false) : (closeSession s).command? cid = some o := by
  rw [closeSession_unarmed h]
  exact find?_filter_of_find? hc (by simp [hp])

/-- With no window armed a session opens without a delivery. -/
theorem openSession_eq (v : Nat × Nat) (h : s.mbx.armed = []) : ∃ q b x, openSession v s =
    { s with mbx := { s.mbx with session := some v, control := q, backlog := b, win := x } } := by
  unfold openSession reportVersion
  extract_lets +onlyGivenNames keep m s1
  split
  · exact ⟨_, _, _, rfl⟩
  · obtain ⟨q, b, e⟩ := queueControl_eq (.version 0 0 v.1 v.2) s1
    rw [pump_unarmed _ (by rw [e]; exact h), e]
    exact ⟨_, _, _, rfl⟩

theorem Mail.capabilities (h : Mail s t) : t.capabilities = s.capabilities := by
  simp [State.capabilities, State.userKernels, State.drivePresent, State.drive, State.link, h.sec, h.dma, h.radio]

/-- The version and capabilities that HELLO answers with (R51, Table 2-17). -/
def helloBody (v : Nat × Nat) (s : State) : List Byte :=
  le 1 v.1 ++ le 1 v.2 ++ le 1 2 ++ le 1 0 ++ le 1 3 ++ le 1 4 ++ le 2 0 ++ le 8 s.capabilities

section
variable {p : List Byte} (h0 : fieldAt p 4 4 = 0)
include h0

/-- An offered range that contains 3.4, the device's highest version. -/
theorem hello_opens (hl : fieldAt p 0 1 * 256 + fieldAt p 1 1 ≤ 0x304) (hh : 0x304 ≤ fieldAt p 2 1 * 256 + fieldAt p 3 1) :
    hello p s = { st := .ok, body := helloBody (3, 4) (closeSession s), s := openSession (3, 4) (closeSession s), ver := some (3, 4) } := by
  have hc : mbxVersions.find? (verIn (fieldAt p 0 1, fieldAt p 1 1) (fieldAt p 2 1, fieldAt p 3 1)) = some (3, 4) :=
    List.find?_cons_of_pos (by simp [verIn, hl, hh])
  unfold hello
  rw [if_neg (by simp [h0])]
  dsimp only
  rw [hc]
  rfl

/-- An offered range that ends below 2.0, the device's lowest version. -/
theorem hello_refuses (hh : fieldAt p 2 1 * 256 + fieldAt p 3 1 < 0x200) :
    hello p s = { st := .badVersion, body := helloBody (0, 0) (closeSession s), s := closeSession s, ver := some (0, 0) } := by
  have hc : mbxVersions.find? (verIn (fieldAt p 0 1, fieldAt p 1 1) (fieldAt p 2 1, fieldAt p 3 1)) = none := by
    rw [List.find?_eq_none]
    intro v hv
    have h2 : 0x200 ≤ v.1 * 256 + v.2 := by
      revert v
      decide
    simp only [verIn, Bool.and_eq_true, decide_eq_true_eq]
    omega
  unfold hello
  rw [if_neg (by simp [h0])]
  dsimp only
  rw [hc]
  rfl

end

/-! ### A command that ends at once -/

section
variable {op : Nat} {m : Message} (h : Sendable op w m s)
include h

theorem Sendable.postedState_frame : (postedState op w m s).mbx.armed = [] ∧ (postedState op w m s).mbx.epoch = s.mbx.epoch ∧
    Mail s (postedState op w m s) := by
  have e := postedState_mbx op w m s h.owned
  refine ⟨by rw [e]; exact h.unarmed, by rw [e], ?_⟩
  rw [postedState_eq op w m s h.owned]
  constructor <;> rfl

end

theorem answer_staging (o : Outstanding) (st : Status) (b : List Byte) (s : State) :
    (answer o st b s).cfg.staging = s.cfg.staging := by
  rw [answer_cfg]
  rfl

/-- Settles O12: each of the commands closes the session in the state in which it is processed. -/
theorem helloOpensAndByeCloses : Obligations.HelloOpensAndByeCloses := by
  unfold Obligations.HelloOpensAndByeCloses
  intro s w m
  refine ⟨fun h h0 => ?hello, fun h => ?bye⟩
  case hello =>
    intro lo hi
    obtain ⟨ha, he, hm⟩ := h.postedState_frame
    have k := closeSession_closes ha
    have hcmd := closeSession_command ha (postedState_command 1 w m s h) rfl
    have hcap : (closeSession (postedState 1 w m s)).capabilities = s.capabilities := (hm.trans k.rest).capabilities
    refine ⟨fun hl hh => ?_, fun hh => ?_⟩
    · obtain ⟨q, b, x, ho⟩ := openSession_eq (3, 4) k.armed
      obtain ⟨e, hr⟩ := sendMessage_ends 1 w m s _ h (by decide) (hello_opens h0 hl hh) (by simp) (by rw [ho]; exact hcmd)
        (by rw [ho]; exact k.armed) rfl (by simp [helloBody]) (.inl (show 3 ≠ 2 by decide))
      refine .of_eq rfl ⟨?_, ?_, ?_, ?_, ?_⟩
      · rw [e, answer_session, ho]
      · rw [e, answer_staging, ho, k.staging]
      · rw [e, answer_epoch, ho, k.epoch, he]
      · rw [e]
        refine ((hm.trans k.rest).trans ?_).trans (answer_mail ..)
        rw [ho]
        constructor <;> rfl
      · rw [helloBody, hcap] at hr
        exact hr
    · obtain ⟨e, hr⟩ := sendMessage_ends 1 w m s _ h (by decide) (hello_refuses h0 hh) (by simp) hcmd k.armed rfl
        (by simp [helloBody]) (.inl (show 0 ≠ 2 by decide))
      refine .of_eq rfl ⟨?_, ?_, ?_, ?_⟩
      · rw [e, answer_session, k.session]
      · rw [e, answer_staging, k.staging]
      · rw [e]
        exact (hm.trans k.rest).trans (answer_mail ..)
      · rw [helloBody, hcap] at hr
        exact hr
  case bye =>
    obtain ⟨ha, he, hm⟩ := h.postedState_frame
    have k := closeSession_closes ha
    have hcmd := closeSession_command ha (postedState_command 2 w m s h) rfl
    obtain ⟨e, hr⟩ := sendMessage_ends 2 w m s (bye (postedState 2 w m s)) h (by decide) rfl (by simp [bye]) hcmd k.armed rfl
      (by simp [bye]) (.inr (Nat.zero_le 7))
    refine .of_eq rfl ⟨?_, ?_, ?_, ?_, hr⟩
    · rw [e, answer_session]
      exact k.session
    · rw [e, answer_staging]
      exact k.staging
    · rw [e, answer_epoch]
      exact k.epoch.trans he
    · rw [e]
      exact (hm.trans k.rest).trans (answer_mail ..)

/-! ### The message that stands in a window, posted -/

/-- The state in which the posted message is processed. -/
def takenState (op w : Nat) (m : Message) (s : State) : State :=
  State.setWin { s with mbx := { s.mbx with
    nextCid := s.mbx.nextCid + 1, outstanding := s.mbx.outstanding ++ [postedCommand op w m s] } } w
    { s.win w with hold := .command s.mbx.nextCid }

theorem State.pushServed_of_ready (h : s.ready = true) : s.pushServed = false := by
  simp only [State.ready, Bool.or_eq_true, decide_eq_true_eq] at h
  rcases h with h | h <;> simp [State.pushServed, h]

theorem postWindow_ready (h : (s.win w).hold = .host) (hr : s.ready = true) : postWindow w s = runCommand w s := by
  unfold postWindow
  rw [if_neg (by simp [State.owns, h]), if_neg (by simp [State.pushServed_of_ready hr]), if_pos hr]

section
variable {op : Nat} {m : Message} (h : Sendable op w m s)
include h

theorem Sendable.cmdHead_eq (hop : op < 65536) (rest : List Byte) : cmdHead (messageBytes op m ++ rest) =
    { major := m.major, minor := m.minor, op := op, tag := m.tag, len := m.length, status := 0, epoch := m.epoch } := by
  have hf := h.fields
  simp only [Message.wf, Bool.and_eq_true, decide_eq_true_eq] at hf
  simp only [cmdHead, messageBytes, List.append_assoc, header_major, header_minor, header_opcode, header_tag, header_len,
    header_status, header_epoch, h.status, CmdHead.mk.injEq]
  obtain ⟨⟨⟨⟨⟨⟨h1, h2⟩, h3⟩, h4⟩, -⟩, h5⟩, -⟩ := hf
  exact ⟨Nat.mod_eq_of_lt h1, Nat.mod_eq_of_lt h2, Nat.mod_eq_of_lt hop, Nat.mod_eq_of_lt h3, Nat.mod_eq_of_lt h4, trivial,
    Nat.mod_eq_of_lt h5⟩

theorem Sendable.payload_eq (rest : List Byte) : ((messageBytes op m ++ rest).drop 16).take m.length = m.payload := by
  rw [h.length, messageBytes, List.append_assoc, List.drop_left' (header_length ..), List.take_left]

/-- The message passes every check of Table 2-14 (R48). -/
theorem Sendable.checkCommand_none (hop : op ≠ 1) : checkCommand
    { major := m.major, minor := m.minor, op := op, tag := m.tag, len := m.length, status := 0, epoch := m.epoch } s = none := by
  have hs := h.session.resolve_left hop
  have ho := h.opcode.resolve_left hop
  have hl : m.length ≤ 4080 := by
    have hf := h.fields
    simp only [Message.wf, Bool.and_eq_true, decide_eq_true_eq] at hf
    have := h.length
    omega
  have hd : (s.mbx.outstanding.any fun o => o.tag == m.tag) = false :=
    List.any_eq_false.mpr fun o hm => by simpa using (h.fresh o hm).1
  rw [hs] at ho
  simp [checkCommand, hop, hs, ho, hd, h.epoch.resolve_left hop, h.tag, h.fits, Nat.not_lt.mpr hl]

theorem Sendable.runCommand_eq (h1 : op ≠ 1) (hop : op < 65536) {rest : List Byte} (hb : s.message w = messageBytes op m ++ rest) :
    runCommand w s = pump (concludeCommand (postedCommand op w m s) (runOpcode op s.mbx.nextCid m.payload (takenState op w m s))
      (takenState op w m s)) := by
  unfold runCommand
  rw [show readBytes (s.win w).bytes 0 4096 = messageBytes op m ++ rest from hb]
  dsimp only
  rw [h.cmdHead_eq hop rest, h.checkCommand_none h1]
  dsimp only
  rw [h.payload_eq rest]
  rfl

theorem Sendable.takenState_command : (takenState op w m s).command? s.mbx.nextCid = some (postedCommand op w m s) := by
  have hn : s.mbx.outstanding.find? (fun o => o.cid == s.mbx.nextCid) = none :=
    List.find?_eq_none.mpr fun o ho => by simpa using Nat.ne_of_lt (h.fresh o ho).2
  change List.find? _ (s.mbx.outstanding ++ [postedCommand op w m s]) = _
  rw [List.find?_append, hn]
  simp [postedCommand]

end

/-- A command that ends at once, in a state where no window is armed, is answered. -/
theorem concludeCommand_ends {o : Outstanding} {r : Reply} (hst : r.st ≠ .pending) (hc : r.s.command? o.cid = some o)
    (ha : r.s.mbx.armed = []) (hv : r.ver = none) (haf : r.after = id) :
    pump (concludeCommand o r s) = answer o r.st r.body r.s := by
  have e : concludeCommand o r s = answer o r.st r.body r.s := by
    unfold concludeCommand
    rw [if_neg hst, hc, hv, haf]
    rfl
  rw [e]
  exact pump_unarmed _ (by simp [answer, respond, handBack_mbx, State.setPar, putMessage, State.setWin, ha])

/-- A posted BYE ends the session and comes back as a response (R53). -/
theorem post_bye {m : Message} (h : Sendable 2 w m s)
    (hb : s.message w = messageBytes 2 m ++ List.replicate (4080 - m.payload.length) 0) :
    Answers (.post w) s fun t => t.mbx.session = none ∧ Response 2 w m .ok [] t ∧ t.cfg.staging = [] := by
  have ha : (takenState 2 w m s).mbx.armed = [] := h.unarmed
  have k := closeSession_closes ha
  have e : postWindow w s = answer (postedCommand 2 w m s) .ok [] (closeSession (takenState 2 w m s)) := by
    rw [postWindow_ready h.owned h.ready, h.runCommand_eq (by decide) (by decide) hb]
    exact concludeCommand_ends (r := bye (takenState 2 w m s)) (by simp [bye])
      (closeSession_command ha h.takenState_command rfl) k.armed rfl rfl
  have hm : m.tag < 2 ^ 32 := by
    have hf := h.fields
    simp only [Message.wf, Bool.and_eq_true, decide_eq_true_eq] at hf
    omega
  refine .of_pos rfl (by simp [h.up, h.window]) ?_
  rw [e, answer_session, answer_staging]
  exact ⟨k.session, respond_response (postedCommand 2 w m s) m .ok [] _ (by decide : 2 < 65536) rfl hm (Nat.zero_le _)
    (.inr (Nat.zero_le 7)), k.staging⟩

/-- Settles O9. -/
theorem windowDoorbellsHandOver : Obligations.WindowDoorbellsHandOver := by
  unfold Obligations.WindowDoorbellsHandOver
  refine ⟨fun s w hup hw hr => ⟨fun h hs ha hc he => ?lend, fun h hs => ?closed, fun h => ?takeBack, ?clear, fun m h hb => post_bye h hb⟩,
    fun s w hup hw => ?refusals⟩
  all_goals have hg : (s.hostUp && decide (w < 8)) = true := by simp [hup, hw]
  case lend =>
    refine .of_pos rfl hg ?_
    rw [armWindow_lends hr h hs ha hc he, setWin_win_same]
    exact ⟨rfl, rfl, rfl, rfl⟩
  case closed =>
    refine .of_pos rfl hg ?_
    rw [armWindow_closed hr h hs, handBack_win_same]
    exact ⟨rfl, rfl, rfl⟩
  case takeBack =>
    refine .of_pos rfl hg ?_
    rw [recallWindow_armed hr h, handBack_win_same]
    exact ⟨rfl, rfl, rfl, not_mem_handBack_armed w .recalled s⟩
  case clear =>
    refine .of_pos rfl hg ?_
    rw [clearProtoErr, setWin_win_same]
    exact ⟨rfl, rfl, rfl, rfl, rfl⟩
  case refusals =>
    intro refused
    have k : refused (protoError w s) :=
      let r := protoError_refused w s
      ⟨r.mark, r.hold, r.bytes, r.seq, r.session, r.armed, r.outstanding, r.evt, r.host, r.count⟩
    refine ⟨fun ho => ⟨.of_pos rfl hg (postWindow_owned ho ▸ k), .of_pos rfl hg (armWindow_owned ho ▸ k), fun off b hoff => ?_⟩,
      fun h => .of_pos rfl hg (recallWindow_host h ▸ k)⟩
    exact .of_eq (exec_registerWrite_window hup hw hoff b) (writeWindow_owned ho off b ▸ k)

end Sys2Proof.Machine
end
section
/-! ## Boot push and the batch timer -/
namespace Sys2Proof.Machine

variable {s t : State} {w : Nat}

/-! ### Bytes of a window -/

/-- Inside a string no padding is read. -/
theorem bytesAt_eq_take {l : List Byte} {o k : Nat} (h : o + k ≤ l.length) : bytesAt l o k = (l.drop o).take k := by
  have hl : ((l.drop o).take k).length = k := by
    simp only [List.length_take, List.length_drop]
    omega
  simp [bytesAt, hl]

theorem bytesAt_readBytes (m : Tab Byte) {o k n : Nat} (h : o + k ≤ n) : bytesAt (readBytes m 0 n) o k = readBytes m o k := by
  rw [bytesAt_eq_take (by rw [readBytes_length]; exact h)]
  apply List.ext_getElem
  · simp only [List.length_take, List.length_drop, readBytes_length]
    omega
  · intro i h1 h2
    simp [readBytes]

/-- What is written at an offset reads back from there. -/
theorem readBytes_writeBytes_at (m : Tab Byte) (o : Nat) (b : List Byte) : readBytes (writeBytes m o b) o b.length = b := by
  apply List.ext_getElem
  · exact readBytes_length ..
  · intro i h1 h2
    simp [readBytes, get_writeBytes, h2]

theorem handBack_message (r : HandBack) (s : State) (v : Nat) : (handBack w r s).message v = s.message v := by
  unfold State.message
  rw [handBack_win]
  split
  next h => rw [h]
  next => rfl

theorem putMessage_message {b : List Byte} (h : b.length ≤ 4096) (s : State) :
    ∃ rest, (putMessage w b s).message w = b ++ rest := by
  refine ⟨readBytes (s.win w).bytes b.length (4096 - b.length), ?_⟩
  unfold State.message
  rw [putMessage_win, if_pos rfl]
  exact readBytes_writeBytes _ _ _ h

/-! ### Boot push -/

/-- A boot push message of op 0 (Table 2-24). -/
def chunkMessage (image offset total : Nat) (data : List Byte) : List Byte :=
  le 4 0x48535550 ++ le 1 image ++ le 1 0 ++ le 2 data.length ++ le 4 offset ++ le 4 total ++ le 16 0 ++ data

theorem chunkMessage_length (image offset total : Nat) (data : List Byte) :
    (chunkMessage image offset total data).length = 32 + data.length := by
  simp only [chunkMessage, List.length_append, length_le]

section
variable (image offset total : Nat) (data rest : List Byte)

theorem chunkMessage_magic : fieldAt (chunkMessage image offset total data ++ rest) 0 4 = 0x48535550 := by
  simp only [chunkMessage, List.append_assoc, fieldAt_le]
  rfl

theorem chunkMessage_image (h : image < 256) : fieldAt (chunkMessage image offset total data ++ rest) 4 1 = image := by
  simp only [chunkMessage, List.append_assoc]
  rw [fieldAt_skip 4 _ _ _ _ (by decide), fieldAt_le]
  exact Nat.mod_eq_of_lt h

theorem chunkMessage_op : fieldAt (chunkMessage image offset total data ++ rest) 5 1 = 0 := by
  simp only [chunkMessage, List.append_assoc]
  rw [fieldAt_skip 4 _ _ _ _ (by decide), fieldAt_skip 1 _ _ _ _ (by decide), fieldAt_le]
  rfl

theorem chunkMessage_size (h : data.length < 65536) : fieldAt (chunkMessage image offset total data ++ rest) 6 2 = data.length := by
  simp only [chunkMessage, List.append_assoc]
  rw [fieldAt_skip 4 _ _ _ _ (by decide), fieldAt_skip 1 _ _ _ _ (by decide), fieldAt_skip 1 _ _ _ _ (by decide), fieldAt_le]
  exact Nat.mod_eq_of_lt h

theorem chunkMessage_offset (h : offset < 2 ^ 32) : fieldAt (chunkMessage image offset total data ++ rest) 8 4 = offset := by
  simp only [chunkMessage, List.append_assoc]
  rw [fieldAt_skip 4 _ _ _ _ (by decide), fieldAt_skip 1 _ _ _ _ (by decide), fieldAt_skip 1 _ _ _ _ (by decide),
    fieldAt_skip 2 _ _ _ _ (by decide), fieldAt_le]
  exact Nat.mod_eq_of_lt h

theorem chunkMessage_total (h : total < 2 ^ 32) : fieldAt (chunkMessage image offset total data ++ rest) 12 4 = total := by
  simp only [chunkMessage, List.append_assoc]
  rw [fieldAt_skip 4 _ _ _ _ (by decide), fieldAt_skip 1 _ _ _ _ (by decide), fieldAt_skip 1 _ _ _ _ (by decide),
    fieldAt_skip 2 _ _ _ _ (by decide), fieldAt_skip 4 _ _ _ _ (by decide), fieldAt_le]
  exact Nat.mod_eq_of_lt h

/-- The reserved bytes are zero. -/
theorem chunkMessage_reserved (k o : Nat) (ho : 16 ≤ o) (hk : o + k ≤ 32) :
    bytesAt (chunkMessage image offset total data ++ rest) o k = bytesAt (le 16 0) (o - 16) k := by
  have e : chunkMessage image offset total data ++ rest =
      (le 4 0x48535550 ++ le 1 image ++ le 1 0 ++ le 2 data.length ++ le 4 offset ++ le 4 total) ++ (le 16 0 ++ (data ++ rest)) := by
    simp only [chunkMessage, List.append_assoc]
  rw [e, bytesAt_append_right _ _ _ _ (by simpa using ho)]
  simp only [List.length_append, length_le]
  exact bytesAt_append_left _ _ _ _ (by simp; omega)

theorem chunkMessage_data : ((chunkMessage image offset total data ++ rest).drop 32).take data.length = data := by
  have e : chunkMessage image offset total data ++ rest =
      (le 4 0x48535550 ++ le 1 image ++ le 1 0 ++ le 2 data.length ++ le 4 offset ++ le 4 total ++ le 16 0) ++ (data ++ rest) := by
    simp only [chunkMessage, List.append_assoc]
  rw [e, List.drop_left' (by simp), List.take_left]

end

/-- A chunk that follows the bytes already received is taken (R94). -/
theorem takeChunk_next {limit total : Nat} {data : List Byte} {c : Chunks} (hd : data ≠ []) (hl : data.length ≤ 4064)
    (ht : c.bytes.length + data.length ≤ total) (hm : total ≤ limit) (hc : c.bytes = [] ∨ c.total = total) :
    takeChunk limit c.bytes.length total data c = (.ok, { total := total, bytes := c.bytes ++ data }) := by
  unfold takeChunk
  rw [if_neg (by simpa using hd), if_neg (by omega), if_neg]
  rintro (h | ⟨h1, h2⟩)
  · exact h rfl
  · exact h2 (hc.resolve_left h1).symm

theorem answerPush_answers (st : Status) (s : State) : fieldAt ((answerPush st s).message 0) 16 2 = st.code ∧
    ((answerPush st s).win 0).hold = .host ∧ ((answerPush st s).win 0).handback = .response ∧ Mail s (answerPush st s) := by
  unfold answerPush
  rw [handBack_message, handBack_win, if_pos rfl]
  refine ⟨?_, rfl, rfl, (setWin_mail ..).trans (handBack_mail ..)⟩
  rw [State.message, setWin_win_same, fieldAt, bytesAt_readBytes _ (by decide)]
  have e := readBytes_writeBytes_at (s.win 0).bytes 16 (le 2 st.code)
  rw [length_le] at e
  rw [e, leNat_le]
  cases st <;> rfl

section
variable {image total : Nat} {data rest : List Byte}

/-- The ROM or the loader takes a chunk that window 0 holds (R67). -/
theorem bootPush_takes (hm : s.message 0 = chunkMessage image s.boot.push.bytes.length total data ++ rest)
    (hs : s.boot.stage = image) (hi : image = 1 ∨ image = 2) (hr : s.boot.loaderRuns = decide (image = 2)) (hd : data ≠ [])
    (hl : data.length ≤ 4064) (ht : s.boot.push.bytes.length + data.length ≤ total) (hmax : total ≤ 2 ^ 19)
    (hc : s.boot.push.bytes = [] ∨ s.boot.push.total = total) :
    bootPush s = answerPush .ok (updBoot (fun b => { b with push := { total := total, bytes := s.boot.push.bytes ++ data } }) s) := by
  have hz : fieldAt (chunkMessage image s.boot.push.bytes.length total data ++ rest) 16 2 = 0 := by
    rw [fieldAt, chunkMessage_reserved _ _ _ _ _ 2 16 (by decide) (by decide)]
    rfl
  have hz' : (bytesAt (chunkMessage image s.boot.push.bytes.length total data ++ rest) 18 14).any (· ≠ 0) = false := by
    rw [chunkMessage_reserved _ _ _ _ _ 14 18 (by decide) (by decide)]
    rfl
  have hlim : total ≤ if image = 1 then 2 ^ 19 else 2 ^ 23 := by split <;> omega
  unfold bootPush
  rw [show readBytes (s.win 0).bytes 0 4096 = _ from hm]
  dsimp only
  rw [chunkMessage_magic, chunkMessage_image _ _ _ _ _ (by omega), chunkMessage_op, chunkMessage_size _ _ _ _ _ (by omega),
    chunkMessage_offset _ _ _ _ _ (by omega), chunkMessage_total _ _ _ _ _ (by omega), chunkMessage_data, hz, hz',
    if_neg (by simp; omega), if_neg (by rw [hs, hr]; simp; omega), if_neg (by decide), takeChunk_next hd hl ht hlim hc]

end

/-! ### The batch timer -/

section
variable {r : EvRec} (hr : s.evt.recs = [r]) (hd : s.delivers r.cls = true)
include hr hd

/-- The one record, of a class that the session takes. -/
theorem State.waiting_singleton : s.waiting = [r] := by
  cases hc : r.cls
  all_goals
    rw [hc] at hd
    simp [State.waiting, hr, hc, hd]

theorem State.batchWaited_singleton (ht : r.time / 65536 + s.parN Prm.hostEvtBatchUs 0 * 1000 ≤ s.now) : s.batchWaited = true := by
  simp [State.batchWaited, State.waiting_singleton hr hd, ht]

theorem State.logDue_singleton (hb : s.evt.batchDue = true) : s.logDue = true := by
  simp [State.logDue, State.waiting_singleton hr hd, State.batchWaited, hb]

end

theorem takeRecord_singleton {e : Evt} {r : EvRec} (h : e.recs = [r]) : (takeRecord e r).recs = [] := by
  have k : (returnLoan r.cls e).recs = e.recs := by
    unfold returnLoan
    split <;> rfl
  change (returnLoan r.cls e).recs.erase r = []
  rw [k, h]
  simp

/-- The payload of a LOG message of one record (Table 2-20). -/
def logPayload (lastTime : Bool) (r : EvRec) : List Byte := le 2 1 ++ le 14 0 ++ recordBytes lastTime r

theorem recordBytes_length (lastTime : Bool) (r : EvRec) : (recordBytes lastTime r).length = 32 := by simp [recordBytes]

theorem logPayload_length (lastTime : Bool) (r : EvRec) : (logPayload lastTime r).length = 48 := by
  simp [logPayload, recordBytes_length]

/-- Delivery into the one armed window: a LOG message of the one record that waits. -/
theorem deliverOne_log {r : EvRec} (ha : s.mbx.armed = [w]) (hc : s.mbx.control = []) (hr : s.evt.recs = [r])
    (hd : s.delivers r.cls = true) (hb : s.evt.batchDue = true) : ∃ lastTime,
    deliverOne s = some (deliverMessage w 0x8004 0 0 r.epoch (logPayload lastTime r)
      { s with evt := { takeRecord s.evt r with batchDue := false } }) := by
  unfold deliverOne
  simp only [ha, hc, State.logDue_singleton hr hd hb, State.waiting_singleton hr hd, if_true]
  exact ⟨_, by simp [logPayload]; rfl⟩

/-- A message delivered into a window (R44). -/
structure Delivered (w op epoch : Nat) (payload : List Byte) (s t : State) : Prop where
  owner : (t.win w).hold = .host
  handback : (t.win w).handback = .event
  armed : t.mbx.armed = s.mbx.armed.filter (· != w)
  opcode : fieldAt (t.message w) 2 2 = op % 65536
  epoch : fieldAt (t.message w) 12 4 = epoch % 2 ^ 32
  payload : ∀ o k, o + k ≤ payload.length → fieldAt (t.message w) (16 + o) k = fieldAt payload o k
  evt : t.evt = s.evt

theorem deliverMessage_delivers {payload : List Byte} (h : payload.length ≤ 4080) (op tag status epoch : Nat) (s : State) :
    Delivered w op epoch payload s (deliverMessage w op tag status epoch payload s) := by
  unfold deliverMessage
  obtain ⟨ma, mi⟩ := s.version
  dsimp only
  obtain ⟨rest, hm⟩ := putMessage_message (w := w)
    (b := header ma mi op tag payload.length status epoch ++ payload) (by simp; omega) s
  refine ⟨?_, ?_, ?_, ?_, ?_, fun o k hk => ?_, by simp [putMessage, State.setWin]⟩
  · rw [handBack_win_same]
  · rw [handBack_win_same]
  · rw [handBack_mbx]
    rfl
  all_goals rw [handBack_message, hm, List.append_assoc]
  · exact header_opcode ..
  · exact header_epoch ..
  · rw [fieldAt_append_right _ _ _ _ (by rw [header_length]; omega), header_length,
      fieldAt_append_left _ _ _ _ (by omega), Nat.add_sub_cancel_left]

theorem logPayload_count (lastTime : Bool) (r : EvRec) : fieldAt (logPayload lastTime r) 0 2 = 1 := by
  rw [logPayload, List.append_assoc, fieldAt_le]
  rfl

theorem logPayload_code (lastTime : Bool) (r : EvRec) : fieldAt (logPayload lastTime r) 16 2 = r.code % 65536 := by
  rw [logPayload, List.append_assoc, fieldAt_skip 2 _ _ _ _ (by decide), fieldAt_skip 14 _ _ _ _ (by decide)]
  simp only [recordBytes, List.append_assoc]
  exact fieldAt_le ..

/-- A boot push message of op 0 comes back with status OK (R67, Table 2-24). -/
theorem bootPush_answers {image total : Nat} {data : List Byte} (hup : s.hostUp = true) (hsrc : s.boot.source = 1)
    (hst : s.boot.stage = image) (hi : image = 1 ∨ image = 2) (hr : s.boot.loaderRuns = decide (image = 2))
    (hown : (s.win 0).hold = .host) (hd : data ≠ []) (hl : data.length ≤ 4064)
    (ht : s.boot.push.bytes.length + data.length ≤ total) (hmax : total ≤ 2 ^ 19)
    (hc : s.boot.push.bytes = [] ∨ s.boot.push.total = total) :
    Answers (.bootPush (chunkMessage image s.boot.push.bytes.length total data)) s fun t =>
      t.boot.push.bytes = s.boot.push.bytes ++ data ∧ t.boot.push.total = total ∧ fieldAt (t.message 0) 16 2 = 0 ∧
      (t.win 0).hold = .host ∧ (t.win 0).handback = .response ∧ t.boot.stage = image ∧ t.flash = s.flash := by
  have hlen := chunkMessage_length image s.boot.push.bytes.length total data
  let u : State := putMessage 0 (chunkMessage image s.boot.push.bytes.length total data) s
  have hu : writeWindow 0 0 (chunkMessage image s.boot.push.bytes.length total data) s = u := by
    unfold writeWindow
    rw [if_neg (by simp [State.owns, hown]), List.take_of_length_le (by omega)]
    rfl
  have hserved : postWindow 0 u = bootPush u := by
    have ho : u.owns 0 = false := by simp [u, State.owns, putMessage_win, hown]
    have hp : u.pushServed = true := by
      rcases hi with rfl | rfl <;> simp [u, State.pushServed, putMessage, State.setWin, hsrc, hst]
    unfold postWindow
    rw [if_neg (by simp [ho]), if_pos ⟨hp, rfl⟩]
  obtain ⟨rest, hm⟩ := putMessage_message (w := 0) (b := chunkMessage image s.boot.push.bytes.length total data) (by omega) s
  obtain ⟨k1, k2, k3, k4⟩ := answerPush_answers .ok
    (updBoot (fun b => { b with push := { total := total, bytes := u.boot.push.bytes ++ data } }) u)
  refine .of_pos rfl hup ?_
  rw [hu, hserved, bootPush_takes (s := u) hm hst hi hr hd hl ht hmax hc]
  exact ⟨by rw [k4.boot]; rfl, by rw [k4.boot]; rfl, k1, k2, k3, by rw [k4.boot]; exact hst, by rw [k4.flash]; rfl⟩

/-- The batch timer sends the one record that waits into the one armed window (R59, R60). -/
theorem eventBatchTimeout_delivers {r : EvRec} (hrdy : s.ready = true) (ha : s.mbx.armed = [w]) (hc : s.mbx.control = [])
    (hr : s.evt.recs = [r]) (hd : s.delivers r.cls = true)
    (ht : r.time / 65536 + s.parN Prm.hostEvtBatchUs 0 * 1000 ≤ s.now) : Answers .eventBatchTimeout s fun t =>
      t.evt.recs = [] ∧ (t.win w).hold = .host ∧ (t.win w).handback = .event ∧ t.mbx.armed = [] ∧
      fieldAt (t.message w) 2 2 = 0x8004 ∧ fieldAt (t.message w) 12 4 = r.epoch % 2 ^ 32 ∧ fieldAt (t.message w) 16 2 = 1 ∧
      fieldAt (t.message w) 32 2 = r.code % 65536 := by
  have hb : s.batchWaited = true := State.batchWaited_singleton hr hd ht
  let u : State := { s with evt := { s.evt with batchDue := true } }
  obtain ⟨lastTime, e⟩ := deliverOne_log (s := u) ha hc hr hd rfl
  let x : State := { u with evt := { takeRecord u.evt r with batchDue := false } }
  have k : Delivered w 0x8004 r.epoch (logPayload lastTime r) x
      (deliverMessage w 0x8004 0 0 r.epoch (logPayload lastTime r) x) :=
    deliverMessage_delivers (by rw [logPayload_length]; decide) 0x8004 0 0 r.epoch x
  have harmed : (deliverMessage w 0x8004 0 0 r.epoch (logPayload lastTime r) x).mbx.armed = [] := by
    rw [k.armed]
    simp [x, u, ha]
  have hp : pump u = deliverMessage w 0x8004 0 0 r.epoch (logPayload lastTime r) x := by
    unfold pump deliver
    rw [e]
    exact deliver_unarmed 7 _ harmed
  refine .of_pos rfl (by simp [hrdy, hb]) ?_
  rw [hp]
  refine ⟨?_, k.owner, k.handback, harmed, k.opcode, k.epoch, ?_, ?_⟩
  · rw [k.evt]
    exact takeRecord_singleton hr
  · exact (k.payload 0 2 (by rw [logPayload_length]; decide)).trans (logPayload_count ..)
  · exact (k.payload 16 2 (by rw [logPayload_length]; decide)).trans (logPayload_code ..)

/-- Settles O11: a boot push's chunk (`bootPush_answers`) and the batch timer (`eventBatchTimeout_delivers`). -/
theorem pushedChunksAndBatches : Obligations.PushedChunksAndBatches := by
  unfold Obligations.PushedChunksAndBatches
  exact ⟨fun s image total data hup hsrc hst hi hr hown hd hl ht hmax hc => bootPush_answers hup hsrc hst hi hr hown hd hl ht hmax hc,
    fun s w r hrdy _ _ ha hc hr hd ht => eventBatchTimeout_delivers hrdy ha hc hr hd ht⟩

end Sys2Proof.Machine
end

section
/-! ## Commands whose processing does not touch the mailbox -/
namespace Sys2Proof.Machine

variable {s t u : State} {w op : Nat} {m : Message}

/-- The state with another mailbox: what a command is processed in, whatever messages stand there. -/
def State.withMbx (s : State) (b : Mbx) : State := { s with mbx := b }

/-- A command in window `w` has been answered: its response, the status that the host can read back, and otherwise the state `t`
that its processing left (R43, R47). -/
structure Answered (op w : Nat) (m : Message) (st : Status) (body : List Byte) (t u : State) : Prop where
  response : Response op w m st body u
  cfg : u.cfg = (t.setPar Prm.hostLastStatus w st.code).cfg
  rest : Mail t u

theorem Answered.of_mbx {st : Status} {body : List Byte} {b : Mbx} (h : Answered op w m st body (t.withMbx b) u) :
    Answered op w m st body t u :=
  ⟨h.response, h.cfg, .trans (by constructor <;> rfl) h.rest⟩

theorem respond_cfg (o : Outstanding) (st : Status) (body : List Byte) (s : State) :
    (respond o st body s).cfg = (s.setPar Prm.hostLastStatus o.window st.code).cfg := by
  unfold respond
  rw [handBack_cfg]
  rfl

theorem respond_answered {o : Outstanding} {st : Status} {body : List Byte} (hop : o.opcode < 65536) (ht : o.tag = m.tag)
    (htag : m.tag < 2 ^ 32) (hb : body.length ≤ 4080) (hv : o.ver.1 ≠ 2 ∨ st.code ≤ 7) (s : State) :
    Answered o.opcode o.window m st body s (respond o st body s) :=
  ⟨respond_response o m st body s hop ht htag hb hv, respond_cfg .., respond_mail ..⟩

theorem respond_unarmed {o : Outstanding} {st : Status} {body : List Byte} (h : s.mbx.armed = []) :
    (respond o st body s).mbx.armed = [] := by
  simp [respond, handBack_mbx, State.setPar, putMessage, State.setWin, h]

theorem concludeCommand_pends {o : Outstanding} {r : Reply} (hst : r.st = .pending) (hh : r.hold = false) (hc : s.compat = false)
    (hn : s.pendingCount < 64) : concludeCommand o r s = r.after (respond o .pending r.body { r.s with mbx := { r.s.mbx with
      outstanding := r.s.mbx.outstanding.map fun x => if x.cid = o.cid then { x with pending := true } else x } }) := by
  unfold concludeCommand
  rw [if_pos hst, if_neg (by simp [hc, hh]), if_neg (by omega)]

section
variable (h : Sendable op w m s) (hop : op < 65536)
include h

theorem Sendable.tag_lt : m.tag < 2 ^ 32 := by
  have hf := h.fields
  simp only [Message.wf, Bool.and_eq_true, decide_eq_true_eq] at hf
  omega

include hop

/-- A command that ends at once, and whose processing neither reads nor changes the mailbox. -/
theorem Sendable.ends {st : Status} {body : List Byte}
    (hr : ∀ b : Mbx, runOpcode op s.mbx.nextCid m.payload (s.withMbx b) = { st := st, body := body, s := t.withMbx b })
    (hst : st ≠ .pending) (hv : s.version.1 ≠ 2 ∨ st.code ≤ 7) (hb : body.length ≤ 4080) :
    Answered op w m st body t (sendMessage w op m s) := by
  have e := hr (postedState op w m s).mbx
  rw [State.withMbx, ← postedState_eq op w m s h.owned] at e
  have k := (sendMessage_ends op w m s _ h hop e hst (postedState_command op w m s h) h.postedState_frame.1 rfl hb hv).1
  rw [k]
  exact (respond_answered (o := postedCommand op w m s) hop rfl h.tag_lt hb hv _).of_mbx

/-- A command that goes on after its response, and whose processing up to there neither reads nor changes the mailbox. -/
theorem Sendable.pends {after : State → State} (hc : s.compat = false) (hn : s.pendingCount < 64)
    (hr : ∀ b : Mbx, runOpcode op s.mbx.nextCid m.payload (s.withMbx b) = { st := .pending, s := t.withMbx b, after := after }) :
    ∃ u, sendMessage w op m s = pump (after u) ∧ u.mbx.armed = [] ∧ Answered op w m .pending [] t u := by
  have e := hr (postedState op w m s).mbx
  rw [State.withMbx, ← postedState_eq op w m s h.owned] at e
  have hm := postedState_mbx op w m s h.owned
  have c1 : (postedState op w m s).compat = false := by
    unfold State.compat
    rw [hm]
    exact hc
  have c2 : (postedState op w m s).pendingCount < 64 := by
    unfold State.pendingCount
    rw [hm]
    simpa [postedCommand, State.pendingCount] using hn
  refine ⟨_, by rw [sendMessage_runs op w m s h hop, e, concludeCommand_pends rfl rfl c1 c2], ?_, ?_⟩
  · exact respond_unarmed h.postedState_frame.1
  · exact (respond_answered (o := postedCommand op w m s) hop rfl h.tag_lt (Nat.zero_le _) (.inr (by decide)) _).of_mbx

end

/-! ### A device in a session -/

/-- A booted device with its link up and a session of a version, in which nothing else has happened. -/
def State.inSession (v : Nat × Nat) (c : Cfg) : State := { State.reset with
  boot := { State.reset.boot with stage := 5, running := true }
  host := { State.reset.host with linkUp := true, speed := 320, width := 4, perstLow := false }
  mbx := { State.reset.mbx with session := some v }
  cfg := c }

/-- The first message of a session. -/
def firstMessage (v : Nat × Nat) (p : List Byte) : Message :=
  { major := v.1, minor := v.2, tag := 1, length := p.length, status := 0, epoch := 1, payload := p }

theorem sendable_inSession {v : Nat × Nat} {p : List Byte} (c : Cfg) (hv : v.1 < 256 ∧ v.2 < 256) (ho : opcodeIn (some v) op = true)
    (hp : p.length ≤ 4080) (hf : lengthOk op p.length = true) : Sendable op 0 (firstMessage v p) (.inSession v c) where
  up := rfl
  window := by decide
  owned := rfl
  ready := rfl
  unarmed := rfl
  session := .inr rfl
  opcode := .inr ho
  epoch := .inr rfl
  tag := by simp [firstMessage]
  fresh := nofun
  status := rfl
  length := rfl
  fields := by
    unfold Message.wf firstMessage
    simp only [Bool.and_eq_true, decide_eq_true_eq]
    omega
  fits := hf

end Sys2Proof.Machine
end

section
/-! ## Pages of a table -/
namespace Sys2Proof

/-! ### A key range of a store -/

section
variable {α : Type} [Inhabited α] {t u : Tab α} {a lo hi : Nat}

theorem Tab.get_append_of_absent_left (h : ∀ e ∈ t, e.1 ≠ a) : Tab.get (t ++ u : Tab α) a = Tab.get u a := by
  induction t with
  | nil => rfl
  | cons e t ih =>
    rw [List.cons_append, Tab.get, if_neg (h e List.mem_cons_self), ih fun x hx => h x (List.mem_cons_of_mem e hx)]

theorem Tab.get_of_absent (h : ∀ e ∈ t, e.1 ≠ a) : Tab.get t a = default := by
  have k := Tab.get_append_of_absent_left (u := []) h
  rwa [List.append_nil] at k

theorem Tab.get_append_of_absent_right (h : ∀ e ∈ u, e.1 ≠ a) : Tab.get (t ++ u : Tab α) a = Tab.get t a := by
  induction t with
  | nil => exact Tab.get_of_absent h
  | cons e t ih => rw [List.cons_append, Tab.get, ih, Tab.get]

/-- A key range taken over from another store reads as it does there. -/
theorem Machine.get_tabSplice_tabSlice (hl : lo ≤ a) (hh : a < hi) :
    Tab.get (Machine.tabSplice t lo hi (Machine.tabSlice u lo hi)) a = Tab.get u a := by
  unfold Machine.tabSplice Machine.tabSlice
  rw [Tab.get_append_of_absent_right, Tab.get_append_of_absent_left]
  · exact Tab.get_filter_of_pos (fun k => decide (lo ≤ k) && decide (k < hi)) a (by simp [hl, hh]) u
  · intro e he
    have := (List.mem_filter.mp he).2
    simp only [decide_eq_true_eq] at this
    omega
  · intro e he
    have := (List.mem_filter.mp he).2
    simp only [decide_eq_true_eq] at this
    omega

end
end Sys2Proof

namespace Sys2Proof.Machine

variable {s t u : State} {w op : Nat} {m : Message} {d : TableDef} {i k : Nat}

/-! ### Pages -/

@[simp] theorem setStandby_standbyEntry_same (d : TableDef) (i k : Nat) (b : List Byte) (s : State) :
    (setStandby d i k b s).standbyEntry d i k = bytesAt b 0 d.size := by
  simp only [State.standbyEntry, setStandby, Tab.get_put_same, TableDef.stored]
  split
  next e => exact e.symm
  next => rfl

theorem setStandby_standbyEntry_ne {j : Nat} (h : j ≠ k) (b : List Byte) (s : State) :
    (setStandby d i k b s).standbyEntry d i j = s.standbyEntry d i j := by
  have hk : tabKey d.id i k ≠ tabKey d.id i j := by
    unfold tabKey
    omega
  simp only [State.standbyEntry, setStandby, Tab.get_put_ne _ _ _ _ hk]

/-- The entries of one page lie in the key range that a page switch exchanges. -/
theorem tabKey_mem_page (id i : Nat) {k : Nat} (h : k < 2 ^ 20) :
    tabKey id i 0 ≤ tabKey id i k ∧ tabKey id i k < tabKey id i 0 + 2 ^ 20 := by
  unfold tabKey
  omega

theorem get_page (t u : Tab (Option (List Byte))) (id i : Nat) {k : Nat} (h : k < 2 ^ 20) :
    Tab.get (tabSplice t (tabKey id i 0) (tabKey id i 0 + 2 ^ 20) (tabSlice u (tabKey id i 0) (tabKey id i 0 + 2 ^ 20)))
      (tabKey id i k) = Tab.get u (tabKey id i k) :=
  get_tabSplice_tabSlice (tabKey_mem_page id i h).1 (tabKey_mem_page id i h).2

/-- The pages of table `d` at `i` have changed places from `s` to `t`, and the new standby page waits for its copy. -/
structure Switched (d : TableDef) (i : Nat) (s t : State) : Prop where
  active : ∀ k, k < 2 ^ 20 → t.entry d i k = s.standbyEntry d i k
  standby : ∀ k, k < 2 ^ 20 → t.standbyEntry d i k = s.entry d i k
  switching : (t.tabState d.id i).switching = false
  copying : (t.tabState d.id i).copying = true

/-- `t` has the pages and page states of `s`, and the commits and values that wait for a safe point. -/
structure SamePages (s t : State) : Prop where
  commits : t.cfg.commits = s.cfg.commits
  old : t.cfg.old = s.cfg.old
  active : t.cfg.active = s.cfg.active
  standby : t.cfg.standby = s.cfg.standby
  tables : t.cfg.tables = s.cfg.tables

theorem SamePages.entry (h : SamePages s t) (d : TableDef) (i k : Nat) : t.entry d i k = s.entry d i k := by
  simp only [State.entry, h.active]

theorem SamePages.standbyEntry (h : SamePages s t) (d : TableDef) (i k : Nat) : t.standbyEntry d i k = s.standbyEntry d i k := by
  simp only [State.standbyEntry, h.standby]

theorem SamePages.tabState (h : SamePages s t) (id i : Nat) : t.tabState id i = s.tabState id i := by
  simp only [State.tabState, h.tables]

theorem Switched.of_samePages (h : Switched d i s t) (k : SamePages t u) : Switched d i s u where
  active j hj := (k.entry d i j).trans (h.active j hj)
  standby j hj := (k.standbyEntry d i j).trans (h.standby j hj)
  switching := by rw [k.tabState, h.switching]
  copying := by rw [k.tabState, h.copying]

theorem Answered.samePages {st : Status} {body : List Byte} (h : Answered op w m st body t u) : SamePages t u := by
  constructor <;> rw [h.cfg] <;> rfl

/-- The end of a command changes the configuration store at most by the status that its window then reads back. -/
theorem finishOpt_cfg (c : Option Nat) (st : Status) (b : List Byte) (s : State) : (finish? c st b s).cfg = s.cfg ∨
    ∃ o ∈ s.mbx.outstanding, (finish? c st b s).cfg = (s.setPar Prm.hostLastStatus o.window st.code).cfg := by
  unfold finish? finish
  split
  · exact .inl rfl
  split
  · exact .inl rfl
  next o e =>
    split
    · obtain ⟨q, b, e⟩ := queueControl_eq (.complete _ _ _ _ _) s
      left
      rw [pump_cfg, e]
    · exact .inr ⟨o, List.mem_of_find?_eq_some e, by rw [pump_cfg, respond_cfg]; rfl⟩

theorem finishOpt_samePages (c : Option Nat) (st : Status) (b : List Byte) (s : State) : SamePages s (finish? c st b s) := by
  rcases finishOpt_cfg c st b s with e | ⟨o, -, e⟩ <;> constructor <;> rw [e] <;> rfl

/-- The state in which the pages have changed places, before the COMPLETE event. -/
theorem switchPage_switches (d : TableDef) (i time : Nat) (s : State) : Switched d i s (switchPage d.id i time s) := by
  unfold switchPage
  extract_lets lo hi a b _ s1 st page s2
  refine Switched.of_samePages (t := s2) ⟨fun k hk => ?_, fun k hk => ?_, ?_, ?_⟩ (finishOpt_samePages ..)
  · simp only [s2, s1, State.entry, State.standbyEntry, updTabState, lo, hi, a, b, get_page _ _ _ _ hk]
  · simp only [s2, s1, State.entry, State.standbyEntry, updTabState, lo, hi, a, b, get_page _ _ _ _ hk]
  · simp [s2, State.tabState, updTabState]
  · simp [s2, State.tabState, updTabState]

theorem switchPage_waits (id i time : Nat) (s : State) :
    (switchPage id i time s).cfg.commits = s.cfg.commits ∧ (switchPage id i time s).cfg.old = s.cfg.old :=
  ⟨(finishOpt_samePages ..).commits, (finishOpt_samePages ..).old⟩

theorem switchPage_mail (id i time : Nat) (s : State) : Mail s (switchPage id i time s) := by
  unfold switchPage
  exact .trans (by constructor <;> rfl) (finishOpt_mail ..)

end Sys2Proof.Machine
end

section
/-! ## Table commands -/
namespace Sys2Proof.Machine

variable {s : State} {w op : Nat} {m : Message} {d : TableDef} {i k : Nat}

/-! ### Requests of the table commands -/

/-- The 16 bytes that a request of a table command begins with (Table 3-7). -/
def TableReq.head (q : TableReq) : List Byte :=
  le 4 q.id ++ le 2 q.inst ++ le 2 q.flags ++ le 4 q.first ++ le 2 q.count ++ le 2 q.size

@[simp] theorem TableReq.head_length (q : TableReq) : q.head.length = 16 := by simp [TableReq.head]

theorem tableReq_head {id i f k c z : Nat} (hid : id < 2 ^ 32) (hi : i < 2 ^ 16) (hf : f < 2 ^ 16) (hk : k < 2 ^ 32)
    (hc : c < 2 ^ 16) (hz : z < 2 ^ 16) (rest : List Byte) :
    tableReq ((⟨id, i, f, k, c, z⟩ : TableReq).head ++ rest) = ⟨id, i, f, k, c, z⟩ := by
  simp only [tableReq, TableReq.head, List.append_assoc]
  simp (disch := decide) only [fieldAt_skip, fieldAt_le, Nat.reduceSub, TableReq.mk.injEq]
  omega

theorem TableReq.bytesAt_head (q : TableReq) (b : List Byte) : bytesAt (q.head ++ b) 16 b.length = b := by
  rw [bytesAt_append_right _ _ _ _ q.head_length.le, head_length, Nat.sub_self, bytesAt_all]

theorem State.busyAt_nil (h : s.stoppedUnits = []) (g n : Nat) (ring : Bool) (i : Option Nat) : s.busyAt g n ring i = false := by
  simp [State.busyAt, h]

/-! ### Two-page tables of the packet path -/

/-- How the catalogue lists a table of the packet path: its pages switch at the safe point of the one unit of group 0x0C. -/
def TableDef.inPath (d : TableDef) : TableSpec := { t := d, units := fun _ => [(0x0C, 0)] }

/-- A table of the packet path with two pages, of a shape that fits the fields of Table 3-7. -/
structure PathTable (d : TableDef) : Prop where
  found : findTable d.id = some d.inPath
  id : d.id < 2 ^ 32
  insts : d.insts ≤ 4096
  entries : ∀ i, d.entries i ≤ 4096
  size : d.size ≤ 56
  ordinary : d.id ∉ [Tbl.pktTcam.id, Tbl.pktFlow.id, Tbl.secCustRoot.id, Tbl.secDebugToken.id, Tbl.cvnPlan.id]
  paged : d.versioned = false

theorem pathTables : ∀ d ∈ [Tbl.pktItable, Tbl.pktHashKey, Tbl.pktNexthop, Tbl.pktMcast, Tbl.pktDscpMap], PathTable d := by
  simp only [List.forall_mem_cons, List.not_mem_nil, false_imp_iff, implies_true, and_true]
  refine ⟨?_, ?_, ?_, ?_, ?_⟩
  all_goals exact ⟨rfl, by decide, by decide, fun _ => of_decide_eq_true rfl, by decide, by decide, rfl⟩

namespace PathTable
variable (hd : PathTable d)
include hd

theorem ne : d.id ≠ Tbl.pktTcam.id ∧ d.id ≠ Tbl.pktFlow.id ∧ d.id ≠ Tbl.secCustRoot.id ∧ d.id ≠ Tbl.secDebugToken.id ∧
    d.id ≠ Tbl.cvnPlan.id := by
  simpa using hd.ordinary

theorem rangeFault {f : Nat} (hf : f ≤ 1) (hk : k < d.entries i) :
    TableReq.rangeFault ⟨d.id, i, f, k, 1, d.size⟩ d.inPath s = none := by
  have := hd.size
  unfold TableReq.rangeFault TableDef.inPath
  dsimp only
  rw [if_neg (by omega), if_neg (by omega), if_neg (by omega), if_neg (by omega), if_neg (by simp)]

section
variable (hi : i < d.insts)
include hi

theorem tableReq_head {f k c z : Nat} (hf : f ≤ 1) (hk : k ≤ 4096) (hc : c ≤ 1) (hz : z ≤ 56) (rest : List Byte) :
    tableReq ((⟨d.id, i, f, k, c, z⟩ : TableReq).head ++ rest) = ⟨d.id, i, f, k, c, z⟩ :=
  Machine.tableReq_head hd.id (by have := hd.insts; omega) (by omega) (by omega) (by omega) (by omega) rest

theorem look {f k c z : Nat} : TableReq.look ⟨d.id, i, f, k, c, z⟩ s = .ok d.inPath := by
  simp [TableReq.look, hd.found, TableSpec.hasInst, TableDef.inPath, hi]

variable (hs : s.stoppedUnits = [])
include hs

/-- TABLE_WRITE of one entry: it is stored in the standby page. -/
theorem tableWrite_eq {b : List Byte} (hsw : (s.tabState d.id i).switching = false) (hcp : (s.tabState d.id i).copying = false)
    (hk : k < d.entries i) (hb : b.length = d.size) :
    tableWrite ((⟨d.id, i, 0, k, 1, d.size⟩ : TableReq).head ++ b) s = { st := .ok, s := setStandby d i k b s } := by
  obtain ⟨h1, h2, -⟩ := hd.ne
  unfold tableWrite
  rw [hd.tableReq_head hi (Nat.zero_le _) (hk.le.trans (hd.entries i)) (Nat.le_refl 1) hd.size]
  dsimp only
  rw [if_neg (by simp), hd.look hi]
  dsimp only
  rw [hd.rangeFault (Nat.zero_le _) hk]
  simp [TableDef.inPath, State.busyTable, State.busyAt_nil hs, hsw, hcp, h1, h2, ← hb, TableReq.bytesAt_head, writeEntries, bit]

/-- TABLE_READ of one entry of the active page (0) or of the standby page (1). -/
theorem tableRead_eq {page : Nat} (hp : page < 2) (hk : k < d.entries i) :
    tableRead (⟨d.id, i, page, k, 1, d.size⟩ : TableReq).head s =
      { st := .ok
        body := (⟨d.id, i, page, k, 1, d.size⟩ : TableReq).head ++ if page = 1 then s.standbyEntry d i k else s.entry d i k
        s := s } := by
  obtain ⟨h1, h2, -⟩ := hd.ne
  have q := hd.tableReq_head hi (by omega : page ≤ 1) (hk.le.trans (hd.entries i)) (Nat.le_refl 1) hd.size []
  rw [List.append_nil] at q
  unfold tableRead
  rw [q]
  dsimp only
  rw [if_neg (by simp), hd.look hi]
  dsimp only
  rw [hd.rangeFault (by omega) hk]
  have hpage : page = 0 ∨ page = 1 := by omega
  rcases hpage with rfl | rfl <;>
    simp [TableDef.inPath, State.busyTable, State.busyAt_nil hs, TableSpec.read, h1, h2, bit]

/-- TABLE_COMMIT where the pages stand still: they change places at once, the packet path being always at its
safe point. -/
theorem tableCommit_eq {cid : Nat} (hsw : (s.tabState d.id i).switching = false) (hcp : (s.tabState d.id i).copying = false) :
    tableCommit cid (⟨d.id, i, 0, 0, 0, 0⟩ : TableReq).head s = { st := .ok, s := switchPage d.id i s.now s } := by
  obtain ⟨-, -, h3, h4, h5⟩ := hd.ne
  have q := hd.tableReq_head hi (Nat.zero_le _) (Nat.zero_le _) (Nat.zero_le _) (Nat.zero_le _) []
  rw [List.append_nil] at q
  unfold tableCommit
  rw [q]
  dsimp only
  rw [if_neg (by simp), hd.look hi]
  simp [TableDef.inPath, State.busyTable, State.busyAt_nil hs, hsw, hcp, TableSpec.faults, startSwitchTable, TableSpec.switch,
    h3, h4, h5, hd.paged, State.unitIdle, bit]

end

end PathTable

/-- A switch that no command waits for says nothing to the host. -/
theorem switchPage_withMbx {id time : Nat} (h : (s.tabState id i).cid = none) (b : Mbx) :
    switchPage id i time (s.withMbx b) = (switchPage id i time s).withMbx b := by
  unfold State.tabState at h
  simp only [State.withMbx, switchPage, State.tabState, updTabState, h, finish?]

section
variable (cid : Nat) (p : List Byte) (s : State)
theorem runOpcode_tableWrite : runOpcode 0x20 cid p s = tableWrite p s := rfl
theorem runOpcode_tableRead : runOpcode 0x21 cid p s = tableRead p s := rfl
theorem runOpcode_tableCommit : runOpcode 0x22 cid p s = tableCommit cid p s := rfl
end

namespace PathTable
variable (hd : PathTable d) (hi : i < d.insts) (hs : s.stoppedUnits = [])
include hd hi hs

theorem tableRead_answers {page : Nat} (h : Sendable 0x21 w m s) (hp : page < 2) (hk : k < d.entries i)
    (hm : m.payload = (⟨d.id, i, page, k, 1, d.size⟩ : TableReq).head)
    (hl : (if page = 1 then s.standbyEntry d i k else s.entry d i k).length ≤ 4064) :
    Answers (.tableRead w m) s fun t => Mail s t ∧ t.cfg.active = s.cfg.active ∧ t.cfg.standby = s.cfg.standby ∧
      Response 0x21 w m .ok (m.payload ++ if page = 1 then s.standbyEntry d i k else s.entry d i k) t := by
  have a : Answered 0x21 w m .ok (m.payload ++ if page = 1 then s.standbyEntry d i k else s.entry d i k) s (sendMessage w 0x21 m s) :=
    h.ends (by decide) (fun b => by
      rw [runOpcode_tableRead, hm]
      exact hd.tableRead_eq (s := s.withMbx b) hi hs hp hk) (by decide) (.inr (by decide)) (by
      rw [List.length_append, hm, TableReq.head_length]
      omega)
  exact .of_eq rfl ⟨a.rest, a.samePages.active, a.samePages.standby, a.response⟩

variable (hsw : (s.tabState d.id i).switching = false) (hcp : (s.tabState d.id i).copying = false)
include hsw hcp

theorem tableWrite_answers {b : List Byte} (h : Sendable 0x20 w m s) (hk : k < d.entries i) (hb : b.length = d.size)
    (hm : m.payload = (⟨d.id, i, 0, k, 1, d.size⟩ : TableReq).head ++ b) :
    Answers (.tableWrite w m) s fun t => Mail s t ∧ Response 0x20 w m .ok [] t ∧ t.standbyEntry d i k = b ∧
      (∀ j, j ≠ k → t.standbyEntry d i j = s.standbyEntry d i j) ∧ t.cfg.active = s.cfg.active := by
  have a : Answered 0x20 w m .ok [] (setStandby d i k b s) (sendMessage w 0x20 m s) :=
    h.ends (by decide) (fun x => by
      rw [runOpcode_tableWrite, hm]
      exact hd.tableWrite_eq (s := s.withMbx x) hi hs hsw hcp hk hb) (by decide) (.inr (by decide)) (Nat.zero_le _)
  refine .of_eq rfl ⟨.trans (by constructor <;> rfl) a.rest, a.response, ?_, fun j hj => ?_, a.samePages.active⟩
  · rw [a.samePages.standbyEntry, setStandby_standbyEntry_same, ← hb, bytesAt_all]
  · rw [a.samePages.standbyEntry, setStandby_standbyEntry_ne hj]

theorem tableCommit_answers (h : Sendable 0x22 w m s) (hm : m.payload = (⟨d.id, i, 0, 0, 0, 0⟩ : TableReq).head)
    (hc : (s.tabState d.id i).cid = none) :
    Answers (.tableCommit w m) s fun t => Mail s t ∧ Response 0x22 w m .ok [] t ∧ Switched d i s t := by
  have a : Answered 0x22 w m .ok [] (switchPage d.id i s.now s) (sendMessage w 0x22 m s) :=
    h.ends (by decide) (fun b => by
      rw [runOpcode_tableCommit, hm, ← switchPage_withMbx hc]
      exact hd.tableCommit_eq (s := s.withMbx b) hi hs hsw hcp) (by decide) (.inr (by decide)) (Nat.zero_le _)
  exact .of_eq rfl ⟨(switchPage_mail ..).trans a.rest, a.response, (switchPage_switches ..).of_samePages a.samePages⟩

end PathTable

/-- A response has at most the 4,080 bytes that its window holds behind the header. -/
theorem Response.body_length_le {st : Status} {body : List Byte} (h : Response op w m st body t) : body.length ≤ 4080 := by
  have hb := congrArg List.length h.body
  simp only [State.message, List.length_take, List.length_drop, readBytes_length] at hb
  omega

/-- A store whose entry 0 of PKT.hash_key has more bytes than the table's size; no command writes one. -/
def Cfg.oversized : Cfg := { State.reset.cfg with active := [(tabKey Tbl.pktHashKey.id 0 0, some (List.replicate 4081 0))] }

/-- Refutes O14: the statement ranges over states whose store holds an entry longer than its table's size, and TABLE_READ's answer
with that entry does not fit the window. The clauses hold otherwise (`PathTable.tableWrite_answers`, `PathTable.tableRead_answers`
with a bound on the entry, `PathTable.tableCommit_answers`). -/
theorem not_tableCommandsUseTwoPages : ¬ Obligations.TableCommandsUseTwoPages := by
  unfold Obligations.TableCommandsUseTwoPages
  intro h
  have hm : Tbl.pktHashKey ∈ [Tbl.pktItable, Tbl.pktHashKey, Tbl.pktNexthop, Tbl.pktMcast, Tbl.pktDscpMap] := by simp
  obtain ⟨-, hread, -⟩ := h Tbl.pktHashKey hm (.inSession (3, 4) .oversized) 0 0
    (firstMessage (3, 4) (⟨Tbl.pktHashKey.id, 0, 0, 0, 1, Tbl.pktHashKey.size⟩ : TableReq).head) (by decide) rfl rfl rfl
  obtain ⟨t, -, -, -, -, hr⟩ := hread 0 0 (sendable_inSession _ (by decide) rfl (by simp) rfl) (by decide) (by decide) rfl
  have hl := hr.body_length_le
  have he : (State.inSession (3, 4) .oversized).entry Tbl.pktHashKey 0 0 = List.replicate 4081 0 := rfl
  rw [if_neg (by decide), he, List.length_append, List.length_replicate] at hl
  omega

end Sys2Proof.Machine
end

section
/-! ## PARAM_ABORT -/
namespace Sys2Proof.Machine

variable {s : State} {w : Nat} {m : Message}

/-- A PARAM_ABORT of group `g`, or of every group (0xFF), names the staging set of an entry. -/
def abortNames (g : Nat) (e : Staged) : Bool := decide (g = 0xFF ∨ e.id / 2 ^ 24 = g)

/-- The state in which the staging sets that a PARAM_ABORT names are empty. -/
def State.aborted (s : State) (g : Nat) : State :=
  { s with cfg := { s.cfg with staging := s.cfg.staging.filter fun e => !abortNames g e } }

theorem State.aborted_of_unnamed {g : Nat} (h : s.cfg.staging.any (abortNames g) = false) : s.aborted g = s := by
  have hf : s.cfg.staging.filter (fun e => !abortNames g e) = s.cfg.staging :=
    List.filter_eq_self.mpr fun e he => by simpa using List.any_eq_false.mp h e he
  rw [State.aborted, hf]

theorem paramAbort_eq {g : Nat} (hg : (1 ≤ g ∧ g ≤ 24) ∨ g = 0xFF) : paramAbort (le 1 g ++ le 3 0) s =
    { st := if s.cfg.staging.any (abortNames g) then .ok else .zero, s := s.aborted g } := by
  have f0 : fieldAt (le 1 g ++ le 3 0) 0 1 = g := by
    rw [fieldAt_le]
    omega
  have f1 : fieldAt (le 1 g ++ le 3 0) 1 3 = 0 := by
    rw [fieldAt_skip 1 _ _ _ _ (by decide)]
    rfl
  have keep : (if g = 0xFF then [] else s.cfg.staging.filter fun e => decide (e.id / 2 ^ 24 ≠ g)) = (s.aborted g).cfg.staging := by
    by_cases h : g = 0xFF <;> simp [State.aborted, abortNames, h]
  unfold paramAbort
  simp only [f0, f1, keep]
  rw [if_neg (by simp [groupOk]; omega)]
  by_cases h : s.cfg.staging.any (abortNames g) = true
  · have hl : (s.aborted g).cfg.staging.length ≠ s.cfg.staging.length := by
      intro e
      obtain ⟨x, hx, hn⟩ := List.any_eq_true.mp h
      have := List.length_filter_eq_length_iff.mp e x hx
      simp [hn] at this
    rw [if_neg hl, if_pos h]
    rfl
  · rw [Bool.not_eq_true] at h
    rw [State.aborted_of_unnamed h, if_pos rfl, h]
    rfl

theorem runOpcode_paramAbort (cid : Nat) (p : List Byte) (s : State) : runOpcode 0x13 cid p s = paramAbort p s := rfl

/-- The status field of a response (R47, R55). -/
theorem respond_status {body : List Byte} (hb : body.length ≤ 4080) (o : Outstanding) (st : Status) (s : State) :
    fieldAt ((respond o st body s).message o.window) 10 2 = reported o.ver st := by
  unfold respond
  obtain ⟨rest, hm⟩ := putMessage_message (w := o.window)
    (b := header o.ver.1 o.ver.2 o.opcode o.tag body.length (reported o.ver st) s.mbx.epoch ++ body) (by simp; omega) s
  rw [handBack_message]
  change fieldAt ((putMessage _ _ s).message _) 10 2 = _
  rw [hm, List.append_assoc, header_status]
  have : st.code < 65536 := by cases st <;> decide
  unfold reported
  split <;> omega

/-- In a session of 2.x a PARAM_ABORT that finds nothing to empty comes back as BAD_PARAM (R55, R80). -/
theorem paramAbort_idle_compat {g : Nat} (h : Sendable 0x13 w m s) (hv : s.version.1 = 2) (hg : (1 ≤ g ∧ g ≤ 24) ∨ g = 0xFF)
    (hm : m.payload = le 1 g ++ le 3 0) (hn : s.cfg.staging.any (abortNames g) = false) :
    fieldAt ((sendMessage w 0x13 m s).message w) 10 2 = 5 := by
  have hp := postedState_eq 0x13 w m s h.owned
  have hst : (postedState 0x13 w m s).cfg.staging.any (abortNames g) = false := by
    rw [hp]
    exact hn
  rw [sendMessage_runs 0x13 w m s h (by decide), runOpcode_paramAbort, hm, paramAbort_eq hg, State.aborted_of_unnamed hst, hst,
    concludeCommand_ends (by simp) (postedState_command 0x13 w m s h) h.postedState_frame.1 rfl rfl]
  refine (respond_status (Nat.zero_le _) (postedCommand 0x13 w m s) .zero _).trans ?_
  rw [reported, if_pos ⟨hv, by decide⟩]

/-- What PARAM_ABORT does in every other case (R80). -/
theorem paramAbort_answers {g : Nat} (h : Sendable 0x13 w m s) (hg : (1 ≤ g ∧ g ≤ 24) ∨ g = 0xFF)
    (hm : m.payload = le 1 g ++ le 3 0)
    (hv : s.version.1 ≠ 2 ∨ s.cfg.staging.any (abortNames g) = true) :
    Answers (.paramAbort w m) s fun t => Mail s t ∧ t.cfg.staging = s.cfg.staging.filter (fun e => !abortNames g e) ∧
      Response 0x13 w m (if s.cfg.staging.any (abortNames g) then .ok else .zero) [] t ∧ t.cfg.commits = s.cfg.commits := by
  have a : Answered 0x13 w m (if s.cfg.staging.any (abortNames g) then .ok else .zero) [] (s.aborted g) (sendMessage w 0x13 m s) :=
    h.ends (by decide) (fun b => by
      rw [runOpcode_paramAbort, hm]
      exact paramAbort_eq (s := s.withMbx b) hg) (by split <;> simp) (hv.imp_right fun k => by simp [k, Status.code])
      (Nat.zero_le _)
  exact .of_eq rfl ⟨.trans (by constructor <;> rfl) a.rest, by rw [a.cfg]; rfl, a.response, by rw [a.cfg]; rfl⟩

/-- Refutes O13: in a session of 2.x nothing is staged, and PARAM_ABORT of group 1 comes back as BAD_PARAM, as R55 has it, where
the statement has ZERO. -/
theorem not_parameterCommandsReadStageAndCommit : ¬ Obligations.ParameterCommandsReadStageAndCommit := by
  unfold Obligations.ParameterCommandsReadStageAndCommit
  intro h
  let s : State := .inSession (2, 3) State.reset.cfg
  let m : Message := firstMessage (2, 3) (le 1 1 ++ le 3 0)
  have hs : Sendable 0x13 0 m s := sendable_inSession _ (by decide) rfl (by decide) rfl
  obtain ⟨-, -, -, habort⟩ := h s 0 m
  obtain ⟨t, e, -, -, hr, -⟩ := habort 1 hs rfl (.inl (by decide))
  have h5 := paramAbort_idle_compat (g := 1) hs rfl (.inl (by decide)) rfl rfl
  have h8 := hr.status
  cases e
  rw [h5] at h8
  exact absurd h8 (by decide)

end Sys2Proof.Machine
end

section
/-! ## Safe points of values and pages -/
namespace Sys2Proof.Machine

variable {s : State} {d : TableDef} {i : Nat}

theorem keyParam_parKey {p : ParamDef} (hp : Prm.find p.id = some p) (hi : i < 2 ^ 16) : keyParam (parKey p.id i) = some (p, i) := by
  have h1 : parKey p.id i / 2 ^ 16 = p.id := by unfold parKey; omega
  have h2 : parKey p.id i % 2 ^ 16 = i := by unfold parKey; omega
  rw [keyParam, h1, h2, hp]
  rfl

theorem parKey_inj {a b i j : Nat} (hi : i < 2 ^ 16) (hj : j < 2 ^ 16) (h : parKey a i = parKey b j) : a = b := by
  unfold parKey at h
  omega

/-- Every unit has taken the values of the one commit, and `old` is what still waits elsewhere (R77). -/
def State.taken (s : State) (c : Commit) (old : Tab (Option Int)) : State :=
  { s with cfg := { s.cfg with commits := [{ c with left := [] }], old := old } }

/-- The last unit of the one commit takes its values: the commit has no unit left, and no value from before it is in force there
(R77). -/
theorem unitTakes_last {g n : Nat} {c : Commit} (hc : s.cfg.commits = [c]) (hl : c.left = [(g, n)]) : ∃ old,
    (unitTakes g n s).2 = countApply g c.start (s.taken c old) ∧
    ∀ p : ParamDef, Prm.find p.id = some p → p.group = g → n < 2 ^ 16 → paramUnits p n = [n] →
      Tab.get old (parKey p.id n) = none := by
  unfold unitTakes
  extract_lets was commits waits mine _ s1 ended
  have h1 : commits = [{ c with left := [] }] := by simp [commits, was, hc, hl]
  have h2 : ended = [c] := by simp [ended, was, hc, hl]
  refine ⟨s.cfg.old.filter fun e => !mine.contains e.1, ?_, fun p hp hg hn hu => ?_⟩
  · simp only [h2, s1, h1, List.foldl_cons, List.foldl_nil]
    rfl
  · have hw : waits (parKey p.id n) = true := by
      simp [waits, keyParam_parKey hp hn, hg, hu, h1]
    refine Tab.get_of_absent fun e he hk => ?_
    obtain ⟨hmem, hnot⟩ := List.mem_filter.mp he
    have : e.1 ∈ mine := List.mem_map_of_mem (List.mem_filter.mpr ⟨hmem, hk ▸ hw⟩)
    simp [this] at hnot

theorem com_setPar_group {p q : ParamDef} {j : Nat} (h : p.group ≠ q.group) (hi : i < 2 ^ 16) (hj : j < 2 ^ 16) (v : Int) (s : State) :
    (s.setPar p i v).com q j = s.com q j :=
  com_setPar_ne _ _ _ _ _ _ fun e => h (by rw [ParamDef.group, ParamDef.group, parKey_inj hi hj e])

/-- The interval that a commit took is counted in group 3 (Table 3-11). -/
theorem countApply_com {g j : Nat} {p : ParamDef} (hp : p.group ≠ 3) (hg : g < 2 ^ 16) (hj : j < 2 ^ 16) (start : Nat) (s : State) :
    (countApply g start s).com p j = s.com p j := by
  unfold countApply
  dsimp only
  split
  · exact com_setPar_group (fun e => hp e.symm) hg hj _ s
  · rfl

theorem countApply_samePages (g start : Nat) (s : State) : SamePages s (countApply g start s) := by
  unfold countApply
  dsimp only
  split <;> constructor <;> rfl

theorem countApply_mail (g start : Nat) (s : State) : Mail s (countApply g start s) := Mail.ite (setPar_mail ..) (.refl s)

theorem countApply_mbx (g start : Nat) (s : State) : (countApply g start s).mbx = s.mbx := by
  unfold countApply
  dsimp only
  split <;> rfl

/-- Where the outstanding commands stand in windows, the end of one changes no parameter outside group 2. -/
theorem finishOpt_com {j : Nat} {p : ParamDef} (hp : p.group ≠ 2) (hj : j < 2 ^ 16) (hw : ∀ o ∈ s.mbx.outstanding, o.window < 8)
    (c : Option Nat) (st : Status) (b : List Byte) : (finish? c st b s).com p j = s.com p j := by
  rcases finishOpt_cfg c st b s with e | ⟨o, ho, e⟩
  · rw [State.com, e, State.com]
  · have hk := com_setPar_group (p := Prm.hostLastStatus) (fun e => hp e.symm) ((hw o ho).trans (by decide)) hj (st.code : Int) s
    rw [State.com, e, ← State.com, hk]

theorem finishCommits_nil (h : s.cfg.commits = []) : finishCommits s = s := by
  unfold finishCommits
  simp only [h, List.filter_nil, List.foldl_nil]
  rw [← h]

/-- The end of the only commit, when no unit is left to take it. -/
theorem finishCommits_one {c : Commit} (h : s.cfg.commits = [c]) (hl : c.left = []) :
    finishCommits s = finish? c.cid .ok (c.result s.now) { s with cfg := { s.cfg with commits := [] } } := by
  unfold finishCommits
  simp [h, hl]
  rfl

/-- With no commit under way a unit of the packet path has nothing to take. -/
theorem takeUnit_idle (hc : s.cfg.commits = []) (ho : s.cfg.old = []) : takeUnit 0x0C 0 s = s := by
  have e : unitTakes 0x0C 0 s = ([], s) := by
    unfold unitTakes
    simp only [hc, ho, List.map_nil, List.filter_nil, List.foldl_nil, Prod.mk.injEq, true_and]
    rw [← hc, ← ho]
  change finishCommits (if (unitTakes 0x0C 0 s).1.isEmpty then (unitTakes 0x0C 0 s).2 else _) = s
  rw [e]
  exact finishCommits_nil hc

theorem takeUnit_eth (n : Nat) (s : State) : takeUnit 0x12 n s = finishCommits (unitTakes 0x12 n s).2 :=
  congrArg finishCommits (ite_self _)

theorem paramUnits_eth {p : ParamDef} (hg : p.group = 0x12) (hn : p.n = 4) (i : Nat) : paramUnits p i = [i] := by
  simp [paramUnits, hg, hn]

theorem safePoint_eth (ht : s.cfg.tables = []) (n : Nat) : safePoint 0x12 n s = takeUnit 0x12 n s := by
  simp [safePoint, State.waitingTables, ht]

/-- The safe point of a port whose values are the last of the one commit (R77). -/
theorem safePointApply_answers {n : Nat} {c : Commit} (hn : n < 4) (hc : s.cfg.commits = [c]) (hl : c.left = [(0x12, n)])
    (ht : s.cfg.tables = []) (hw : ∀ o ∈ s.mbx.outstanding, o.window < 8) :
    Answers (.safePointApply 0x12 n) s fun t => t.cfg.commits = [] ∧ Mail s t ∧
      ∀ p : ParamDef, Prm.find p.id = some p → p.group = 0x12 → p.n = 4 → t.par p n = s.com p n ∧ t.com p n = s.com p n := by
  obtain ⟨old, hu, hold⟩ := unitTakes_last hc hl
  let v : State := countApply 0x12 c.start (s.taken c old)
  have k : SamePages (s.taken c old) v := countApply_samePages ..
  let t : State := finish? c.cid .ok (Commit.result { c with left := [] } v.now) { v with cfg := { v.cfg with commits := [] } }
  have q : SamePages { v with cfg := { v.cfg with commits := [] } } t := finishOpt_samePages ..
  have e : exec (.safePointApply 0x12 n) s = .next t := by
    change Host.Outcome.next (safePoint 0x12 n s) = _
    rw [safePoint_eth ht, takeUnit_eth, hu, finishCommits_one k.commits rfl]
  refine .of_eq e ⟨q.commits, ?_, fun p hp hg h4 => ?_⟩
  · exact (Mail.trans (by constructor <;> rfl) (countApply_mail 0x12 c.start (s.taken c old))).trans
      (Mail.trans (by constructor <;> rfl) (finishOpt_mail ..))
  · have hcom : t.com p n = s.com p n := by
      have h1 : t.com p n = v.com p n := finishOpt_com (by omega) (by omega) (by rw [countApply_mbx]; exact hw) ..
      have h2 : v.com p n = s.com p n := countApply_com (by omega) (by decide) (by omega) ..
      exact h1.trans h2
    refine ⟨?_, hcom⟩
    have hnone : Tab.get t.cfg.old (parKey p.id n) = none := by
      rw [q.old]
      change Tab.get v.cfg.old _ = _
      rw [k.old]
      exact hold p hp hg (by omega) (paramUnits_eth hg h4 n)
    rw [State.par, hnone, hcom]
    rfl

/-- The safe point of the packet path has come for a page that waits (R82, R87). -/
theorem PathTable.pageSwitch_answers (hd : PathTable d) (hsw : (s.tabState d.id i).switching = true) (hc : s.cfg.commits = [])
    (ho : s.cfg.old = []) : Answers (.tablePageSwitch d.id i) s fun t => Mail s t ∧ Switched d i s t := by
  obtain ⟨hc', ho'⟩ := switchPage_waits d.id i s.now s
  refine .of_eq (t := switchPage d.id i s.now s) ?_ ⟨switchPage_mail .., switchPage_switches ..⟩
  change execTablePageSwitch _ _ _ = _
  unfold execTablePageSwitch
  rw [hd.found]
  simp [TableDef.inPath, hsw, TableSpec.switch, takeUnit_idle (hc'.trans hc) (ho'.trans ho)]

/-- The copy of the new active page (R83). -/
theorem standbyCopyDone_answers (h : (s.tabState d.id i).copying = true) : Answers (.standbyCopyDone d.id i) s fun t =>
    (t.tabState d.id i).copying = false ∧ t.cfg.active = s.cfg.active ∧ Mail s t ∧
    ∀ k, k < 2 ^ 20 → t.standbyEntry d i k = s.entry d i k := by
  refine .of_pos rfl h ⟨?_, rfl, ?_, fun k hk => ?_⟩
  · simp [copyStandby, State.tabState, updTabState]
  · constructor <;> rfl
  · simp only [copyStandby, State.standbyEntry, State.entry, updTabState, get_page _ _ _ _ hk]

set_option maxRecDepth 2000 in
theorem find_ethMaxFrame : Prm.find Prm.ethMaxFrame.id = some Prm.ethMaxFrame := rfl

/-- A device whose one commit is left to port 1, and completes a command in a window whose number is beyond the eight windows: its
status and ETH.max_frame of port 1 have one key in the store. -/
def State.strayWindow : State :=
  let s : State := .inSession (3, 4) { State.reset.cfg with
    par := parPut [] Prm.ethMaxFrame 1 1518
    commits := [{ group := 0x12, cid := some 0, total := 1, left := [(0x12, 1)], start := 0 }] }
  { s with mbx := { s.mbx with nextCid := 1, outstanding :=
    [{ cid := 0, tag := 1, opcode := 0x12, window := (Prm.ethMaxFrame.id - Prm.hostLastStatus.id) * 2 ^ 16 + 1 }] } }

/-- Refutes O20: the statement ranges over states in which an outstanding command names a window that does not exist, and the status
of that window overwrites a committed value. The clauses hold otherwise (`safePointApply_answers` with a bound on the windows,
`PathTable.pageSwitch_answers`, `standbyCopyDone_answers`). -/
theorem not_safePointsTakeValuesAndPages : ¬ Obligations.SafePointsTakeValuesAndPages := by
  unfold Obligations.SafePointsTakeValuesAndPages
  rintro ⟨h, -⟩
  obtain ⟨t, e, -, -, hp⟩ := h .strayWindow 1 _ (by decide) rfl rfl rfl
  obtain ⟨-, hcom⟩ := hp Prm.ethMaxFrame find_ethMaxFrame rfl rfl
  cases e
  have h1 : (safePoint 0x12 1 .strayWindow).com Prm.ethMaxFrame 1 = 9600 := by decide +kernel
  have h2 : State.strayWindow.com Prm.ethMaxFrame 1 = 1518 := by decide
  rw [h1, h2] at hcom
  exact absurd hcom (by decide)

end Sys2Proof.Machine
end

section
/-! ## PATTERN_SAVE, POWER_REQUEST, TRACE_READ and SNAPSHOT -/
namespace Sys2Proof.Machine

variable {s t u : State} {w op : Nat} {m : Message}

/-! ### PATTERN_SAVE -/

theorem State.newest_none (h0 : s.copy 0 = none) (h1 : s.copy 1 = none) : s.newest = none := by
  simp [State.newest, State.copyValid, State.copyCheck, h0, h1]

theorem bytesAt_length_le (b : List Byte) (o k : Nat) : (bytesAt b o k).length ≤ k := by
  simp [bytesAt]

/-- A saved image fits its region when its records do (R89). -/
theorem State.buildImage_length_le (h : s.savedParams.flatten.length + s.savedTables.flatten.length ≤ 1000000)
    (seq : Nat) (hmac : Bool) :
    (s.buildImage seq hmac).length ≤ 2 ^ 20 := by
  have hb : (if (s.savedParams ++ s.savedTables).isEmpty then [paramRec Prm.hostEvtBatchUs 0 (Prm.hostEvtBatchUs.deflt 0)]
      else s.savedParams ++ s.savedTables).flatten.length ≤ 1000000 := by
    split
    · decide
    · simpa using h
  unfold State.buildImage
  extract_lets recs recs' body slot head all all'
  change body.length ≤ _ at hb
  have hh : head.length = 60 := by simp [head]
  have ha : all'.length = 68 + body.length := by simp [all', all, hh]; omega
  split
  · rw [List.length_append, ha]
    have := bytesAt_length_le (Config.hmacSha256 (s.slot slot).key all') 0 32
    omega
  · omega

/-- Copy 0 has been erased, and an image is being written there (R96). -/
def State.saving (s : State) (img : List Byte) (cid : Nat) : State := { s with
  flash := { s.flash with pattern := s.flash.pattern.put 0 none }
  cfg := { s.cfg with patWrite := some { copy := 0, image := img, cid := some cid } } }

theorem State.saving_copy (s : State) (img : List Byte) (cid k : Nat) :
    (s.saving img cid).copy k = if 0 = k then none else s.copy k := by
  simp only [State.copy, State.saving, Tab.get_put]

theorem Mail.copy (h : Mail s t) (k : Nat) : t.copy k = s.copy k := by simp only [State.copy, h.flash]

theorem startPatternWrite_blank (h0 : s.copy 0 = none) (h1 : s.copy 1 = none) (img : List Byte) (cid : Nat) :
    startPatternWrite img cid s = s.saving img cid := by
  simp only [startPatternWrite, State.writeCopy, State.newest_none h0 h1, State.saving]

theorem patternSave_starts {cid : Nat} (hkey : s.patternKey (s.comN Prm.secPatternKeySlot 0) = true) (hb : s.patternBusy = false)
    (h0 : s.copy 0 = none) (h1 : s.copy 1 = none)
    (hl : s.savedParams.flatten.length + s.savedTables.flatten.length ≤ 1000000) :
    patternSave cid (le 4 1) s = { st := .pending, s := s.saving (s.buildImage 1 true) cid } := by
  have hf : bit (fieldAt (le 4 1) 0 1) 0 = true ∧ fieldAt (le 4 1) 0 4 = 1 := by decide
  have hi := State.buildImage_length_le hl 1 true
  unfold patternSave
  rw [hf.1, State.newest_none h0 h1]
  simp only [Nat.zero_add]
  rw [if_neg (by simp [hf.2]), if_neg (by simp), if_neg (by simp [hkey]), if_neg (by simp [hb]), if_neg (by omega),
    startPatternWrite_blank h0 h1]

@[simp] theorem ringInsert_mbx (r : EvRec) (s : State) : (ringInsert r s).mbx = s.mbx := by
  unfold ringInsert
  dsimp only
  split
  · rfl
  · split
    · rfl
    · split <;> rfl

@[simp] theorem logInsert_mbx (r : EvRec) (s : State) : (logInsert r s).mbx = s.mbx := by
  unfold logInsert
  dsimp only
  split
  · rfl
  · split
    · rfl
    · split <;> rfl

/-- With no window armed an event record goes out later, and the mailbox stays as it is. -/
theorem raise_mbx (e : EvDef) (i d : Nat) (h : s.mbx.armed = []) : (raise e i d s).mbx = s.mbx := by
  unfold raise
  dsimp only
  split <;> rw [pump_unarmed _ (by simp [uartLine, h])] <;> simp [uartLine]

theorem Response.of_mbx {st : Status} {body : List Byte} (h : Response op w m st body t) (e : u.mbx = t.mbx) :
    Response op w m st body u := by
  have hw : u.win w = t.win w := by simp only [State.win, e]
  have hm : u.message w = t.message w := by simp only [State.message, hw]
  constructor <;> simp only [hw, hm]
  exacts [h.owner, h.handback, h.opcode, h.tag, h.status, h.length, h.body]

/-- An entry to STANDBY asks block 0 first (R510, R511). -/
theorem Power.nextBlock_standby {p : Power} (ht : p.target = .standby) (hd : p.down = 0) : p.nextBlock 0 = 0 := by
  simp only [Power.nextBlock, ht, hd]
  decide

theorem setPower_entering (h : s.power.st = .run) : setPower .entering s =
    raise Ev.pwrState 0 (detail [(0, 1, 3), (1, 1, 0)]) { s with power := { s.power with st := .entering } } := by
  unfold setPower
  rw [h]
  rfl

theorem powerRequest_standby {cid ms : Nat} (hms : ms < 2 ^ 32) (hr : s.power.st = .run) (hc : s.power.cid = none)
    (hf : s.power.retryFrom = none) (hn : s.recasting = false) :
    powerRequest cid (le 4 1 ++ le 4 ms) s = { st := .pending, s := s, after := startEntry .standby cid ms } := by
  have h1 : fieldAt (le 4 1 ++ le 4 ms) 0 1 = 1 := by rw [fieldAt_append_left _ _ _ _ (by simp)]; rfl
  have h2 : fieldAt (le 4 1 ++ le 4 ms) 1 3 = 0 := by rw [fieldAt_append_left _ _ _ _ (by simp)]; rfl
  have h3 : fieldAt (le 4 1 ++ le 4 ms) 4 4 = ms := by
    rw [fieldAt_skip 4 _ _ _ _ (by decide), fieldAt_le_self]
    exact Nat.mod_eq_of_lt hms
  unfold powerRequest
  simp only [h1, h2, h3]
  rw [if_neg (by simp), if_neg (by simp [hr, PState.code]), if_neg (by simp [hr, hc, hf, hn])]

/-- An entry to STANDBY has begun, with block 0 asked (R510, R511). -/
structure EntryBegun (cid ms : Nat) (s t : State) : Prop where
  st : t.power.st = .entering
  target : t.power.target = .standby
  cid : t.power.cid = some cid
  sleepMs : t.power.sleepMs = ms
  block : t.power.block = 0
  mbx : t.mbx = s.mbx
  rest : Mail { s with power := t.power } t

/-- The request that an entry to STANDBY begins with. -/
def State.standbyAsked (cid ms : Nat) (s : State) : State := { s with power := { s.power with
  origin := s.power.st, target := .standby, cid := some cid, cut := none, sleepMs := ms, entryAt := s.now, steps := [], arrived := none } }

theorem startEntry_standby (hr : s.power.st = .run) (hd : s.power.down = 0) (ha : s.mbx.armed = []) (cid ms : Nat) :
    EntryBegun cid ms s (startEntry .standby cid ms s) := by
  have hset := setPower_entering (s := s.standbyAsked cid ms) hr
  have hp : (setPower .entering (s.standbyAsked cid ms)).power = { (s.standbyAsked cid ms).power with st := .entering } := by
    rw [hset, raise_power]
  have hb : (setPower .entering (s.standbyAsked cid ms)).power.nextBlock 0 = 0 := by
    rw [hp]
    exact Power.nextBlock_standby rfl hd
  have e : startEntry .standby cid ms s = askBlock 0 (setPower .entering (s.standbyAsked cid ms)) := by
    conv_rhs => rw [← hb]
    rfl
  rw [e]
  unfold askBlock
  dsimp only
  rw [if_neg (by decide), hp, hset]
  refine ⟨rfl, rfl, rfl, rfl, rfl, raise_mbx _ _ _ ha, ?_⟩
  exact { raise_mail Ev.pwrState 0 _ { s.standbyAsked cid ms with
    power := { (s.standbyAsked cid ms).power with st := .entering } } with power := rfl }

/-! ### TRACE_READ -/

theorem placeRead_single {α : Type} {k q next : Nat} (hk : k ≠ 0) (r : α) : placeRead next 0xFFFFFFFF k [(q, r)] = (0, [(q, r)]) := by
  obtain ⟨k, rfl⟩ := Nat.exists_eq_succ_of_ne_zero hk
  simp [placeRead, runOf]

/-- Bytes of TRACE_READ's answer that holds one record of the scheduler ring (R280). -/
def tracePayload (r : TraceRec) : List Byte :=
  le 2 1 ++ le 2 0 ++ le 4 r.seq ++ le 4 ((r.seq + 1) % 0xFFFFFFFF) ++ le 4 0 ++ schedBytes r

theorem traceRead_one {n : Nat} {r : TraceRec} (h1 : 1 ≤ n) (h2 : n ≤ 254) (hs : s.stoppedUnits = []) (hr : s.task.trace = [r]) :
    traceRead (le 1 1 ++ le 1 0 ++ le 2 n ++ le 4 0xFFFFFFFF) s = { st := .ok, body := tracePayload r, s := s } := by
  have f0 : fieldAt (le 1 1 ++ le 1 0 ++ le 2 n ++ le 4 0xFFFFFFFF) 0 1 = 1 := by simp only [List.append_assoc, fieldAt_le]; rfl
  have f1 : fieldAt (le 1 1 ++ le 1 0 ++ le 2 n ++ le 4 0xFFFFFFFF) 1 1 = 0 := by
    simp (disch := decide) only [List.append_assoc, fieldAt_skip, fieldAt_le, Nat.reduceSub]; rfl
  have f2 : fieldAt (le 1 1 ++ le 1 0 ++ le 2 n ++ le 4 0xFFFFFFFF) 2 2 = n := by
    simp (disch := decide) only [List.append_assoc, fieldAt_skip, fieldAt_le, Nat.reduceSub]; omega
  have f4 : fieldAt (le 1 1 ++ le 1 0 ++ le 2 n ++ le 4 0xFFFFFFFF) 4 4 = 0xFFFFFFFF := by
    simp (disch := decide) only [List.append_assoc, fieldAt_skip, fieldAt_le_self, Nat.reduceSub]; rfl
  unfold traceRead
  simp only [f0, f1, f2, f4, hr, List.map_cons, List.map_nil, placeRead_single (by omega : n ≠ 0)]
  rw [if_neg (by simp), if_neg (by omega), if_neg (by simp; omega), if_neg (by simp [State.busyAt_nil hs]),
    if_neg (by decide), if_pos trivial]
  simp [tracePayload, traceHead, seqMod]

/-! ### SNAPSHOT -/

/-- The statistics that a SNAPSHOT returns for ports named by a mask (R418). -/
def snapshotPayload (mask : Nat) (s : State) : List Byte :=
  le 10 (s.tb80 0) ++ le 1 mask ++ le 5 0 ++ (pick 4 fun n => bit mask n).flatMap fun n =>
    (List.range 32).flatMap fun i => le 8 ((s.port n).stats.get i)

theorem length_flatMap_const {α β : Type} {l : List α} {f : α → List β} {k : Nat} (h : ∀ x, (f x).length = k) :
    (l.flatMap f).length = l.length * k := by
  simp [List.length_flatMap, h]

theorem snapshotPayload_length_le (mask : Nat) (s : State) : (snapshotPayload mask s).length ≤ 4080 := by
  have hp : (pick 4 fun n => bit mask n).length ≤ 4 := List.length_filter_le _ _
  have hc : ((pick 4 fun n => bit mask n).flatMap fun n => (List.range 32).flatMap fun i => le 8 ((s.port n).stats.get i)).length =
      (pick 4 fun n => bit mask n).length * 256 :=
    length_flatMap_const fun n => by simp [length_flatMap_const (k := 8)]
  simp only [snapshotPayload, List.length_append, length_le, hc]
  omega

/-- The statistics of each of the ports start again. -/
def clearStats (l : List Nat) (s : State) : State := l.foldl (fun s n => updPort n (fun p => { p with stats := [] }) s) s

theorem clearStats_stats (l : List Nat) (s : State) (n : Nat) :
    ((clearStats l s).port n).stats = if n ∈ l then [] else (s.port n).stats := by
  unfold clearStats
  induction l generalizing s with
  | nil => simp
  | cons k l ih =>
    rw [List.foldl_cons, ih, updPort_port]
    by_cases hl : n ∈ l
    · simp [hl]
    · by_cases hk : k = n
      · simp [hk]
      · simp [hl, hk, Ne.symm hk]

theorem clearStats_mbx (l : List Nat) (s : State) (b : Mbx) : clearStats l (s.withMbx b) = (clearStats l s).withMbx b := by
  unfold clearStats
  induction l generalizing s with
  | nil => rfl
  | cons k l ih => exact ih (updPort k _ s)

theorem snapshot_takes {mask clear : Nat} (h1 : 1 ≤ mask) (h2 : mask < 16) (hc : clear < 2) :
    snapshot (le 1 mask ++ le 1 clear ++ le 6 0) s =
      { st := .ok, body := snapshotPayload mask s, s := clearStats (if clear = 1 then pick 4 fun n => bit mask n else []) s } := by
  have f0 : fieldAt (le 1 mask ++ le 1 clear ++ le 6 0) 0 1 = mask := by simp only [List.append_assoc, fieldAt_le]; omega
  have f1 : fieldAt (le 1 mask ++ le 1 clear ++ le 6 0) 1 1 = clear := by
    simp (disch := decide) only [List.append_assoc, fieldAt_skip, fieldAt_le, Nat.reduceSub]; omega
  have f2 : fieldAt (le 1 mask ++ le 1 clear ++ le 6 0) 2 6 = 0 := by
    simp (disch := decide) only [List.append_assoc, fieldAt_skip, fieldAt_le_self, Nat.reduceSub]; rfl
  unfold snapshot
  simp only [f0, f1, f2]
  rw [if_neg (by omega), if_neg (by omega)]
  by_cases hcl : clear = 1 <;> simp [hcl, clearStats, snapshotPayload]

section
variable (cid : Nat) (p : List Byte) (s : State)
theorem runOpcode_patternSave : runOpcode 0x60 cid p s = patternSave cid p s := rfl
theorem runOpcode_powerRequest : runOpcode 0x70 cid p s = powerRequest cid p s := rfl
theorem runOpcode_traceRead : runOpcode 0x90 cid p s = traceRead p s := rfl
theorem runOpcode_snapshot : runOpcode 0xA0 cid p s = unlessBusy 0x12 s (snapshot p s) := rfl
end

theorem patternSave_answers (h : Sendable 0x60 w m s) (hc : s.compat = false) (hn : s.pendingCount < 64) (hm : m.payload = le 4 1)
    (hkey : s.patternKey (s.comN Prm.secPatternKeySlot 0) = true) (hb : s.patternBusy = false) (h0 : s.copy 0 = none)
    (h1 : s.copy 1 = none)
    (hl : s.savedParams.flatten.length + s.savedTables.flatten.length ≤ 1000000) :
    Answers (.patternSave w m) s fun t => Response 0x60 w m .pending [] t ∧
      t.cfg.patWrite = some { copy := 0, image := s.buildImage 1 true, cid := some s.mbx.nextCid } ∧
      t.copy 0 = none ∧ t.copy 1 = none ∧ t.boot = s.boot ∧ t.cfg.active = s.cfg.active := by
  obtain ⟨u, e, ha, k⟩ := h.pends (by decide) hc hn (t := s.saving (s.buildImage 1 true) s.mbx.nextCid) (after := id) fun b => by
    rw [runOpcode_patternSave, hm]
    exact patternSave_starts (s := s.withMbx b) hkey hb h0 h1 hl
  refine .of_eq rfl ?_
  rw [e, id, pump_unarmed u ha]
  refine ⟨k.response, by rw [k.cfg]; rfl, ?_, ?_, k.rest.boot, by rw [k.cfg]; rfl⟩
  · rw [k.rest.copy, State.saving_copy, if_pos rfl]
  · rw [k.rest.copy, State.saving_copy, if_neg (by decide), h1]

theorem powerRequest_answers {ms : Nat} (h : Sendable 0x70 w m s) (hc : s.compat = false) (hn : s.pendingCount < 64)
    (hm : m.payload = le 4 1 ++ le 4 ms) (hms : ms < 2 ^ 32) (hr : s.power.st = .run) (hcid : s.power.cid = none)
    (hf : s.power.retryFrom = none) (hd : s.power.down = 0) (hrc : s.recasting = false) :
    Answers (.powerRequest w m) s fun t => Response 0x70 w m .pending [] t ∧ t.power.st = .entering ∧ t.power.target = .standby ∧
      t.power.cid = some s.mbx.nextCid ∧ t.power.sleepMs = ms ∧ t.power.block = 0 ∧
      t.time = s.time ∧ t.radio = s.radio ∧ t.dma = s.dma := by
  obtain ⟨u, e, ha, k⟩ := h.pends (by decide) hc hn (t := s) (after := startEntry .standby s.mbx.nextCid ms) fun b => by
    rw [runOpcode_powerRequest, hm]
    exact powerRequest_standby (s := s.withMbx b) hms hr hcid hf hrc
  have q := startEntry_standby (by rw [k.rest.power]; exact hr) (by rw [k.rest.power]; exact hd) ha s.mbx.nextCid ms
  refine .of_eq rfl ?_
  rw [e, pump_unarmed _ (by rw [q.mbx]; exact ha)]
  exact ⟨k.response.of_mbx q.mbx, q.st, q.target, q.cid, q.sleepMs, q.block, q.rest.time.trans k.rest.time,
    q.rest.radio.trans k.rest.radio, q.rest.dma.trans k.rest.dma⟩

theorem traceRead_answers {n : Nat} {r : TraceRec} (h : Sendable 0x90 w m s) (h1 : 1 ≤ n) (h2 : n ≤ 254) (hs : s.stoppedUnits = [])
    (hr : s.task.trace = [r]) (hm : m.payload = le 1 1 ++ le 1 0 ++ le 2 n ++ le 4 0xFFFFFFFF) :
    Answers (.traceRead w m) s fun t => Mail s t ∧ Response 0x90 w m .ok (tracePayload r) t := by
  have a : Answered 0x90 w m .ok (tracePayload r) s (sendMessage w 0x90 m s) :=
    h.ends (by decide) (fun b => by
      rw [runOpcode_traceRead, hm]
      exact traceRead_one (s := s.withMbx b) h1 h2 hs hr) (by decide) (.inr (by decide)) (by simp [tracePayload, schedBytes])
  exact .of_eq rfl ⟨a.rest, a.response⟩

theorem snapshot_answers {mask clear : Nat} (h : Sendable 0xA0 w m s) (h1 : 1 ≤ mask) (h2 : mask < 16) (hc : clear < 2)
    (hs : s.stoppedUnits = []) (hm : m.payload = le 1 mask ++ le 1 clear ++ le 6 0) :
    Answers (.snapshot w m) s fun t => Response 0xA0 w m .ok (snapshotPayload mask s) t ∧
      ∀ n, n < 4 → (t.port n).stats = if clear = 1 ∧ bit mask n = true then [] else (s.port n).stats := by
  have a : Answered 0xA0 w m .ok (snapshotPayload mask s) (clearStats (if clear = 1 then pick 4 fun n => bit mask n else []) s)
      (sendMessage w 0xA0 m s) :=
    h.ends (by decide) (fun b => by
      rw [runOpcode_snapshot, hm, unlessBusy, State.busyAt_nil (s := s.withMbx b) hs, if_neg (by decide), ← clearStats_mbx]
      exact snapshot_takes (s := s.withMbx b) h1 h2 hc) (by decide) (.inr (by decide)) (snapshotPayload_length_le mask s)
  refine .of_eq rfl ⟨a.response, fun n hn => ?_⟩
  rw [State.port, a.rest.eth]
  change ((clearStats _ s).port n).stats = _
  rw [clearStats_stats]
  by_cases hcl : clear = 1 <;> simp [hcl, pick, hn]

/-- Settles O17, one lemma above for each command. -/
theorem saveStandbyTraceAndSnapshot : Obligations.SaveStandbyTraceAndSnapshot := by
  unfold Obligations.SaveStandbyTraceAndSnapshot
  exact fun s w m => ⟨fun h hc hn hm hkey hb h0 h1 hl => patternSave_answers h hc hn hm hkey hb h0 h1 hl,
    fun ms h hc hn hm hms hr hcid hf hd hrc => powerRequest_answers h hc hn hm hms hr hcid hf hd hrc,
    fun n r h h1 h2 hs hr _ hm => traceRead_answers h h1 h2 hs hr hm,
    fun mask clear h h1 h2 hc hs hm => snapshot_answers h h1 h2 hc hs hm⟩

end Sys2Proof.Machine
end

section
/-! ## Runner lanes -/
namespace Sys2Proof.Machine

variable {a s t u : State} {n : Nat} {x y : Lane}

/-- From `s` to `t` only the radio changes, besides what reporting touches, and every lane stays as it was. -/
structure KeepsLanes (s t : State) : Prop where
  radio : Mail { s with radio := t.radio } t
  lane : t.radio.lane = s.radio.lane

/-- From `s` to `t` only the radio changes, besides what reporting touches; of the lanes, lane `n` alone changes and is `x`
afterwards. -/
structure LaneBecomes (n : Nat) (x : Lane) (s t : State) : Prop where
  radio : Mail { s with radio := t.radio } t
  lane : t.lane n = x
  others : ∀ k, k ≠ n → t.lane k = s.lane k

theorem Mail.trans_radio (h : Mail { a with radio := s.radio } s) (k : Mail { s with radio := t.radio } t) :
    Mail { a with radio := t.radio } t :=
  Mail.trans (b := { s with radio := t.radio }) { h with radio := rfl } k

namespace KeepsLanes

theorem refl (s : State) : KeepsLanes s s := ⟨.refl s, rfl⟩

theorem trans (h : KeepsLanes a s) (k : KeepsLanes s t) : KeepsLanes a t := ⟨h.radio.trans_radio k.radio, k.lane.trans h.lane⟩

theorem mail (h : KeepsLanes a s) (k : Mail s t) : KeepsLanes a t := h.trans ⟨{ k with radio := rfl }, by rw [k.radio]⟩

theorem ite {p : Prop} [Decidable p] {v w : State} (hv : KeepsLanes a v) (hw : KeepsLanes a w) : KeepsLanes a (if p then v else w) := by
  split
  · exact hv
  · exact hw

theorem foldl {α : Type} {f : State → α → State} {l : List α} (hf : ∀ v i, KeepsLanes a v → KeepsLanes a (f v i)) (h : KeepsLanes a s) :
    KeepsLanes a (l.foldl f s) :=
  List.foldlRecOn l f h fun v hv i _ => hf v i hv

theorem updLink (h : KeepsLanes a s) (l : Nat) (f : Link → Link) : KeepsLanes a (updLink l f s) := h.trans ⟨.refl _, rfl⟩

theorem updAch (h : KeepsLanes a s) (c : Nat) (f : Ach → Ach) : KeepsLanes a (updAch c f s) := h.trans ⟨.refl _, rfl⟩

theorem updCal (h : KeepsLanes a s) (r : Nat) (f : Cal → Cal) : KeepsLanes a (updCal r f s) := h.trans ⟨.refl _, rfl⟩

theorem setAch (h : KeepsLanes a s) (c : Nat) (st : AchSt) : KeepsLanes a (setAch c st s) := by
  unfold Machine.setAch
  exact .ite h ((KeepsLanes.ite ((h.updAch ..).updCal ..) (h.updAch ..)).mail (raise_mail ..))

theorem flagAch (h : KeepsLanes a s) (c : Nat) : KeepsLanes a (flagAch c s) := by
  unfold Machine.flagAch recheckAch
  have h1 := h.updAch c (fun b => { b with calibrated := false })
  have h2 := KeepsLanes.ite (p := ((Machine.updAch c (fun b => { b with calibrated := false }) s).ach c).st = .active)
    (h1.setAch c .calibrating) h1
  exact .ite (h2.setAch c .absent) h2

theorem toHunt (h : KeepsLanes a s) (l : Nat) : KeepsLanes a (toHunt l s) := by
  unfold Machine.toHunt
  refine .ite (h.updLink ..) (.foldl (fun _ _ h3 => h3.updCal ..) ?_)
  exact .foldl (fun _ _ h2 => (h2.updAch ..).flagAch _) (h.updLink ..)

end KeepsLanes

/-! ### Changes of one lane -/

/-- A lane that moves to a state: its counts restart, one that leaves UP gives its transmit lane up, and UP ends the exit
from DEEP. -/
def Lane.enter (k : Lane) (st : LaneSt) : Lane := { k with
  st := st, good := 0, miss := 0, last := none
  holding := if k.st = .up then false else k.holding
  deepExit := if st = .up then false else k.deepExit }

namespace LaneBecomes

theorem trans (h : LaneBecomes n x s t) (k : LaneBecomes n y t u) : LaneBecomes n y s u :=
  ⟨h.radio.trans_radio k.radio, k.lane, fun j hj => (k.others j hj).trans (h.others j hj)⟩

theorem of_keeps (h : KeepsLanes s t) : LaneBecomes n (s.lane n) s t :=
  have hl (k : Nat) : t.lane k = s.lane k := by unfold State.lane; rw [h.lane]
  ⟨h.radio, hl n, fun k _ => hl k⟩

theorem keeps (h : LaneBecomes n x s t) (k : KeepsLanes t u) : LaneBecomes n x s u := h.lane ▸ h.trans (of_keeps k)

theorem mail (h : LaneBecomes n x s t) (k : Mail t u) : LaneBecomes n x s u := h.keeps ((KeepsLanes.refl t).mail k)

theorem refl (n : Nat) (s : State) : LaneBecomes n (s.lane n) s s := of_keeps (.refl s)

theorem of_mail (h : Mail s t) : LaneBecomes n (s.lane n) s t := (refl n s).mail h

theorem ite {p : Prop} [Decidable p] {v w : State} (hv : LaneBecomes n x s v) (hw : LaneBecomes n x s w) :
    LaneBecomes n x s (if p then v else w) := by
  split
  · exact hv
  · exact hw

theorem updLane (h : LaneBecomes n x s t) (f : Lane → Lane) : LaneBecomes n (f x) s (updLane n f t) :=
  h.trans ⟨.refl _, by rw [updLane_lane_same, h.lane], fun k hk => updLane_lane_ne n k f t hk.symm⟩

theorem setLane (h : LaneBecomes n x s t) (st : LaneSt) : LaneBecomes n (x.enter st) s (setLane n st t) := by
  have hu : LaneBecomes n (x.enter st) s (Machine.updLane n (·.enter st) t) := h.updLane (·.enter st)
  have hr (e : EvDef) (d : Nat) := hu.mail (raise_mail e n d _)
  unfold Machine.setLane
  exact .ite (.ite ((hr _ _).keeps ((KeepsLanes.refl _).toHunt n)) (hr _ _)) (.ite (hr _ _) hu)

theorem setPolarity (h : LaneBecomes n x s t) (f : Lane → Lane) : LaneBecomes n (f x) s (setPolarity n f t) := by
  unfold Machine.setPolarity
  exact .ite (h.updLane f) ((h.updLane f).mail (raise_mail ..))

theorem laneFault (h : LaneBecomes n x s t) (why echo : Nat) : LaneBecomes n (x.enter .fault) s (laneFault n why echo t) :=
  (h.setLane .fault).mail (raise_mail ..)

end LaneBecomes

/-- Between states other than UP a lane moves without a report. -/
theorem setLane_of_ne_up {st : LaneSt} (h : (s.lane n).st ≠ .up) (hst : st ≠ .up) : setLane n st s = updLane n (·.enter st) s := by
  unfold setLane
  rw [if_neg (by simp [h]), if_neg (by simp [hst])]
  rfl


/-! ### The commands of a lane -/

/-- The PLL of a lane that is enabled and powered starts it. -/
structure State.LaneStarts (s : State) (n : Nat) : Prop where
  lt : n < 20
  powered : s.lanePowered n = true
  down : (s.lane n).st = .down
  enabled : s.par Prm.laneEnable n = 1
  awake : s.par Prm.lanePower n = 0

theorem State.LaneStarts.cond (h : s.LaneStarts n) :
    n < 20 ∧ s.lanePowered n ∧ (s.lane n).st = .down ∧ s.par Prm.laneEnable n = 1 ∧ s.par Prm.lanePower n = 0 :=
  ⟨h.lt, h.powered, h.down, h.enabled, h.awake⟩

/-- A lane starts with the inversions of LANE.eq and no correction (R114, R107). -/
def Lane.started (tx rx : Bool) (k : Lane) : Lane := { k with eqTx := tx, eqRx := rx, txInv := false, rxInv := false }

theorem lanePllLock_acquires (h : s.LaneStarts n) : Answers (.lanePllLock n) s fun t => t.cfg = s.cfg ∧ t.evt = s.evt ∧
    ∃ tx rx : Bool, LaneBecomes n (((s.lane n).started tx rx).enter .acquire) s t := by
  obtain ⟨tx, rx, he⟩ : ∃ tx rx, exec (.lanePllLock n) s = .next (setLane n .acquire (updLane n (·.started tx rx) s)) :=
    ⟨_, _, congrArg Host.Outcome.next (if_pos h.cond)⟩
  refine .of_eq he ?_
  rw [setLane_of_ne_up (by simp [Lane.started, h.down]) (by decide)]
  exact ⟨rfl, rfl, tx, rx, ((LaneBecomes.refl n s).updLane (·.started tx rx)).updLane (·.enter .acquire)⟩

theorem lanePllTimeout_faults (h : s.LaneStarts n) :
    Answers (.lanePllTimeout n) s fun t => LaneBecomes n ((s.lane n).enter .fault) s t :=
  .of_pos rfl h.cond ((LaneBecomes.refl n s).laneFault ..)

theorem laneCdrLock_aligns (h : (s.lane n).st = .acquire) :
    Answers (.laneCdrLock n) s fun t => t.cfg = s.cfg ∧ LaneBecomes n ((s.lane n).enter .align) s t :=
  .of_pos rfl h ⟨by rw [setLane_of_ne_up (by simp [h]) (by decide)]; rfl, (LaneBecomes.refl n s).setLane .align⟩

theorem laneAcqTimeout_counts (h : (s.lane n).st = .acquire) :
    Answers (.laneAcqTimeout n) s fun t => t = bump Prm.laneAcqRetry n s :=
  .of_pos rfl h rfl

theorem laneTrainTimeout_faults (h : (s.lane n).st = .train) :
    Answers (.laneTrainTimeout n) s fun t => LaneBecomes n ((s.lane n).enter .fault) s t :=
  .of_pos rfl h ((LaneBecomes.refl n s).laneFault ..)

theorem laneFaultExpiry_acquires (h : (s.lane n).st = .fault) :
    Answers (.laneFaultExpiry n) s fun t => t.cfg = s.cfg ∧ LaneBecomes n ((s.lane n).enter .acquire) s t :=
  .of_pos rfl h ⟨by rw [setLane_of_ne_up (by simp [h]) (by decide)]; rfl, (LaneBecomes.refl n s).setLane .acquire⟩

theorem bump_becomes (p : ParamDef) (i n : Nat) (s : State) : LaneBecomes n (s.lane n) s (bump p i s) := .of_mail (bump_mail ..)

theorem laneClockLoss_acquires (h : (s.lane n).st = .align ∨ (s.lane n).st = .up) :
    Answers (.laneClockLoss n) s fun t => LaneBecomes n ((s.lane n).enter .acquire) s t := by
  refine .of_eq rfl ?_
  rcases h with h | h <;> rw [h]
  · exact (LaneBecomes.refl n s).setLane .acquire
  · exact (bump_becomes ..).setLane .acquire

theorem laneWakeTimeout_ends (h : (s.lane n).deepExit = true) :
    Answers (.laneWakeTimeout n) s fun t => LaneBecomes n { s.lane n with deepExit := false } s t :=
  .of_pos rfl h ((((LaneBecomes.refl n s).updLane fun k => { k with deepExit := false }).mail (bump_mail ..)).mail (raise_mail ..))

theorem isRl_of_le (h : 16 ≤ n) : isRl n = false := by simpa [isRl] using h

theorem isRl_of_lt (h : n < 16) : isRl n = true := by simpa [isRl] using h

theorem lanePcsLock_up (hn : 16 ≤ n) (h : (s.lane n).st = .align) :
    Answers (.lanePcsLock n) s fun t => LaneBecomes n ((s.lane n).enter .up) s t :=
  .of_pos rfl (by simp [isRl_of_le hn, h]) ((LaneBecomes.refl n s).setLane .up)

theorem lanePcsLoss_aligns (hn : 16 ≤ n) (h : (s.lane n).st = .up) :
    Answers (.lanePcsLoss n) s fun t => LaneBecomes n ((s.lane n).enter .align) s t :=
  .of_pos rfl (by simp [isRl_of_le hn, h]) ((bump_becomes ..).setLane .align)

theorem lanePolarityRetry_turns (hn : 16 ≤ n) (h : (s.lane n).st = .align) (hp : s.par Prm.laneAutoPolarity n = 1) :
    Answers (.lanePolarityRetry n) s fun t => LaneBecomes n { s.lane n with rxInv := !(s.lane n).rxInv } s t :=
  .of_pos rfl (by simp [isRl_of_le hn, h, hp]) ((LaneBecomes.refl n s).setPolarity fun k => { k with rxInv := !k.rxInv })

/-! ### Lane markers -/

section
variable {v echo : Nat} {inverted inv : Bool}

/-- On an Irwick lane whose receive sense stands upright a valid marker is taken as it reads (R105, R110). -/
theorem exec_laneMarkerRx_good (hn : n < 16) (he : (s.lane n).eqRx = (s.lane n).rxInv) (hv : v < 2 ^ 40)
    (hr : readMarker v = some (inverted, echo, inv)) :
    exec (.laneMarkerRx n (some v)) s = .next (markerGood n inverted echo inv s) := by
  have hv' : readMarker (v % 2 ^ 40) = some (inverted, echo, inv) := by rw [Nat.mod_eq_of_lt hv, hr]
  change execLaneMarkerRx n (some v) s = _
  simp only [execLaneMarkerRx, isRl_of_lt hn, he, bne_self_eq_false, Bool.not_true, Bool.false_eq_true, if_false,
    Option.map_some, Option.bind_some, hv']

theorem exec_laneMarkerRx_none (hn : n < 16) : exec (.laneMarkerRx n none) s = .next (markerMiss n s) := by
  change execLaneMarkerRx n none s = _
  simp [execLaneMarkerRx, isRl_of_lt hn]

/-- A polarity is corrected only where it is inverted and auto_polarity is on (R110). -/
theorem keeps_polarity (hp : inverted = false ∨ s.par Prm.laneAutoPolarity n = 0) :
    ¬(inverted = true ∧ s.par Prm.laneAutoPolarity n = 1) := by
  rcases hp with hp | hp <;> simp [hp]

/-- A lane in ALIGN has seen its third valid marker in a sense. -/
def Lane.third (sense : Bool) (k : Lane) : Lane := { k with good := 3, sense := sense }

/-- A lane in TRAIN has seen a valid marker with an echo and inv_seen. -/
def Lane.echoed (echo : Nat) (inv : Bool) (k : Lane) : Lane := { k with miss := 0, last := some (echo, inv) }

/-- A link holds the transmit lane of its own number. -/
def Lane.holdsOwn (k : Lane) : Lane := { k with txLane := none, holding := true }

/-- The third valid marker in one sense starts TRAIN; the receive sense turns only where the markers are inverted and
auto_polarity is on (R107, R110). -/
theorem markerGood_trains (h : (s.lane n).st = .align) (hg : (s.lane n).good = 2) (hs : (s.lane n).sense = inverted)
    (hp : inverted = false ∨ s.par Prm.laneAutoPolarity n = 0) : markerGood n inverted echo inv s =
      updLane n (·.enter .train) (updLane n (·.third inverted) s) := by
  simp only [markerGood, h, hg, hs, or_true, if_true, show ¬2 + 1 < 3 by decide, if_false, if_neg (keeps_polarity (s := updLane n _ s) hp)]
  exact setLane_of_ne_up (by simp [h]) (by decide)

theorem State.claimed_updLane {l b : Nat} (f : Lane → Lane) : (updLane l f s).claimed l b = s.claimed l b := by
  have hm (m : Nat) : (decide (m ≠ l) && ((updLane l f s).lane m).holding && decide (((updLane l f s).lane m).txLane.getD m = b)) =
      (decide (m ≠ l) && (s.lane m).holding && decide ((s.lane m).txLane.getD m = b)) := by
    by_cases hml : m = l
    · simp [hml]
    · rw [updLane_lane_ne l m f s (Ne.symm hml)]
  simp only [State.claimed, hm]

/-- A lane whose own number comes back, unclaimed and upright, ends TRAIN without a correction (R107, R111). -/
theorem trained_up (hc : s.claimed n n = false) (hp : inv = false ∨ s.par Prm.laneAutoPolarity n = 0) :
    trained n n inv s = setLane n .up (updLane n (·.holdsOwn) s) := by
  simp [trained, hc, keeps_polarity (s := updLane n _ s) hp, Lane.holdsOwn]

/-- The second marker in a row that echoes the lane's own number brings a lane in TRAIN up (R107). -/
theorem markerGood_up (hn : n < 16) (h : (s.lane n).st = .train) (hl : (s.lane n).last = some (n, inv))
    (hc : s.claimed n n = false) (hp : inv = false ∨ s.par Prm.laneAutoPolarity n = 0) :
    markerGood n inverted n inv s = setLane n .up (updLane n (·.holdsOwn) (updLane n (·.echoed n inv) s)) := by
  simp only [markerGood, h, hl, hn, true_and, if_true]
  exact trained_up (by rw [State.claimed_updLane, hc]) hp

end

theorem markerMiss_fourth (h : (s.lane n).st = .up) (hm : (s.lane n).miss = 3) :
    markerMiss n s = setLane n .align (bump Prm.laneLockLoss n s) := by
  simp [markerMiss, h, hm]

theorem markerMiss_early (h : (s.lane n).st = .up) (hm : (s.lane n).miss < 3) :
    markerMiss n s = updLane n (fun k => { k with miss := k.miss + 1 }) s := by
  simp [markerMiss, h, Nat.not_le.mpr hm]

theorem laneMarkerRx_trains {v echo : Nat} {inverted inv : Bool} (hn : n < 16) (he : (s.lane n).eqRx = (s.lane n).rxInv)
    (hv : v < 2 ^ 40) (hr : readMarker v = some (inverted, echo, inv)) (h : (s.lane n).st = .align) (hg : (s.lane n).good = 2)
    (hs : (s.lane n).sense = inverted) (hp : inverted = false ∨ s.par Prm.laneAutoPolarity n = 0) :
    Answers (.laneMarkerRx n (some v)) s fun t => t.cfg = s.cfg ∧
      LaneBecomes n (((s.lane n).third inverted).enter .train) s t := by
  refine .of_eq (exec_laneMarkerRx_good hn he hv hr) ?_
  rw [markerGood_trains h hg hs hp]
  exact ⟨rfl, ((LaneBecomes.refl n s).updLane (·.third inverted)).updLane (·.enter .train)⟩

theorem laneMarkerRx_up {v : Nat} {inverted inv : Bool} (hn : n < 16) (he : (s.lane n).eqRx = (s.lane n).rxInv)
    (hv : v < 2 ^ 40) (hr : readMarker v = some (inverted, n, inv)) (h : (s.lane n).st = .train)
    (hl : (s.lane n).last = some (n, inv)) (hc : s.claimed n n = false) (hp : inv = false ∨ s.par Prm.laneAutoPolarity n = 0) :
    Answers (.laneMarkerRx n (some v)) s fun t =>
      LaneBecomes n (((s.lane n).echoed n inv).holdsOwn.enter .up) s t := by
  refine .of_eq (exec_laneMarkerRx_good hn he hv hr) ?_
  rw [markerGood_up hn h hl hc hp]
  exact (((LaneBecomes.refl n s).updLane (·.echoed n inv)).updLane (·.holdsOwn)).setLane .up

theorem laneMarkerRx_none_fourth (hn : n < 16) (h : (s.lane n).st = .up) (hm : (s.lane n).miss = 3) :
    Answers (.laneMarkerRx n none) s fun t => LaneBecomes n ((s.lane n).enter .align) s t :=
  .of_eq (exec_laneMarkerRx_none hn) (by rw [markerMiss_fourth h hm]; exact (bump_becomes ..).setLane .align)

theorem laneMarkerRx_none_early (hn : n < 16) (h : (s.lane n).st = .up) (hm : (s.lane n).miss < 3) :
    Answers (.laneMarkerRx n none) s fun t => t.cfg = s.cfg ∧ t.evt = s.evt ∧
      LaneBecomes n { s.lane n with miss := (s.lane n).miss + 1 } s t :=
  .of_eq (exec_laneMarkerRx_none hn) (by
    rw [markerMiss_early h hm]
    exact ⟨rfl, rfl, (LaneBecomes.refl n s).updLane fun k => { k with miss := k.miss + 1 }⟩)

theorem Answers.imp {i : Instr} {P Q : State → Prop} (h : Answers i s P) (hpq : ∀ t, P t → Q t) : Answers i s Q :=
  let ⟨t, e, hp⟩ := h
  ⟨t, e, hpq t hp⟩

/-- Settles O22: each clause is the command's lemma above, of which `LaneBecomes` gives the lane's new value and the frame. -/
theorem lanesFollowTheTableAndTrain : Obligations.LanesFollowTheTableAndTrain := by
  unfold Obligations.LanesFollowTheTableAndTrain
  refine ⟨fun s n => ⟨?_, ?_, ?_, ?_, ?_, ?_, ?_, ?_⟩, fun s n => ⟨?_, ?_, ?_, fun hn he => ⟨fun v echo inverted inv hv hr => ⟨?_, ?_⟩, ?_, ?_⟩⟩⟩
  · rintro ⟨h1, h2, h3, h4, h5⟩
    refine (lanePllLock_acquires ⟨h1, h2, h3, h4, h5⟩).imp ?_
    rintro t ⟨hc, he, tx, rx, h⟩
    exact ⟨by rw [h.lane]; rfl, by rw [h.lane]; rfl, by rw [h.lane]; rfl, hc, he, h.radio, h.others⟩
  · rintro ⟨h1, h2, h3, h4, h5⟩
    exact (lanePllTimeout_faults ⟨h1, h2, h3, h4, h5⟩).imp fun t h => ⟨by rw [h.lane]; rfl, h.radio, h.others⟩
  · exact fun h => (laneCdrLock_aligns h).imp fun t ⟨hc, h⟩ =>
      ⟨by rw [h.lane]; rfl, by rw [h.lane]; rfl, hc, h.radio, h.others⟩
  · refine fun h => (laneAcqTimeout_counts h).imp ?_
    rintro t rfl
    have hk := bump_becomes Prm.laneAcqRetry n n s
    exact ⟨bump_radio .., rfl, com_bump .., hk.radio, hk.others⟩
  · exact fun h => (laneTrainTimeout_faults h).imp fun t h => ⟨by rw [h.lane]; rfl, h.radio, h.others⟩
  · exact fun h => (laneFaultExpiry_acquires h).imp fun t ⟨hc, h⟩ => ⟨by rw [h.lane]; rfl, hc, h.radio, h.others⟩
  · exact fun h => (laneClockLoss_acquires h).imp fun t h => ⟨by rw [h.lane]; rfl, h.radio, h.others⟩
  · exact fun h => (laneWakeTimeout_ends h).imp fun t h => ⟨by rw [h.lane], by rw [h.lane], h.radio, h.others⟩
  · exact fun hn h => (lanePcsLock_up hn h).imp fun t h => ⟨by rw [h.lane]; rfl, h.radio, h.others⟩
  · exact fun hn h => (lanePcsLoss_aligns hn h).imp fun t h => ⟨by rw [h.lane]; rfl, h.radio, h.others⟩
  · exact fun hn h hp => (lanePolarityRetry_turns hn h hp).imp fun t k =>
      ⟨by rw [k.lane], by rw [k.lane]; exact h, by rw [k.lane], k.radio, k.others⟩
  · exact fun h hg hs hp => (laneMarkerRx_trains hn he hv hr h hg hs hp).imp fun t ⟨hc, h⟩ =>
      ⟨by rw [h.lane]; rfl, hc, h.radio, h.others⟩
  · rintro h hl rfl hc hp
    exact (laneMarkerRx_up hn he hv hr h hl hc hp).imp fun t k =>
      ⟨by rw [k.lane]; rfl, by rw [k.lane]; rfl, by rw [k.lane]; simp [Lane.enter, Lane.holdsOwn, Lane.echoed, h], k.radio, k.others⟩
  · exact fun h hm => (laneMarkerRx_none_fourth hn h hm).imp fun t h => ⟨by rw [h.lane]; rfl, h.radio, h.others⟩
  · exact fun h hm => (laneMarkerRx_none_early hn h hm).imp fun t ⟨hc, he, k⟩ =>
      ⟨by rw [k.lane]; exact h, by rw [k.lane], hc, he, k.radio, k.others⟩

end Sys2Proof.Machine
end

section
/-! ## Codes of the lane and the link -/
namespace Sys2Proof.Machine

/-! ### CRCs -/

theorem crcBit_lt {w poly c : Nat} (hp : poly < 2 ^ w) (b : Bool) : crcBit w poly c b < 2 ^ w := by
  have hm : c * 2 % 2 ^ w < 2 ^ w := Nat.mod_lt _ (Nat.two_pow_pos w)
  unfold crcBit
  dsimp only
  split
  · exact Nat.xor_lt_two_pow hm hp
  · exact hm

theorem crcMsb_lt {w poly init : Nat} (hp : poly < 2 ^ w) (hi : init < 2 ^ w) (l : List Bool) : crcMsb w poly init l < 2 ^ w :=
  List.foldlRecOn (motive := (· < 2 ^ w)) l (crcBit w poly) hi fun _ _ b _ => crcBit_lt hp b

theorem crc8_lt (l : List Bool) : crc8 l < 256 := crcMsb_lt (w := 8) (by decide) (by decide) l

theorem crc16_lt (l : List Bool) : crc16 l < 65536 := crcMsb_lt (w := 16) (by decide) (by decide) l

/-! ### Lane markers -/

theorem b2n_le (b : Bool) : b2n b ≤ 1 := by cases b <;> decide

theorem testBit_of_b2n {v i : Nat} {b : Bool} (h : v / 2 ^ i % 2 = b2n b) : v.testBit i = b := by
  rw [Nat.testBit_eq_decide_div_mod_eq, h]
  cases b <;> rfl

/-- A word whose sync field stands upright and whose CRC is correct is a marker in the sense in which it is sent (R106). -/
theorem readMarker_upright {v : Nat} (hs : v / 2 ^ 24 = 0x5A3C) (hc : crc8 (msbBits 32 (v / 256)) = v % 256) :
    readMarker v = some (false, bits v 18 14, v.testBit 13) := by
  have hword : v % 2 ^ 40 = v := Nat.mod_eq_of_lt (by omega)
  have hsync : decide (v / 2 ^ 24 % 65536 = 0xA5C3) = false := by rw [hs]; rfl
  simp only [readMarker, hsync, hword, Bool.false_eq_true, if_false]
  exact if_pos ⟨hs, hc⟩

/-- A marker reads back as it was built: the CRC leaves the bits above it as they are (R105). -/
theorem readMarker_markerOf {lane echo rate : Nat} (he : echo < 32) (inv : Bool) :
    readMarker (markerOf lane echo inv rate) = some (false, echo, inv) := by
  have hi := b2n_le inv
  obtain ⟨m, hm⟩ : ∃ m, m = 0x5A3C * 2 ^ 24 + lane % 32 * 2 ^ 19 + echo % 32 * 2 ^ 14 + b2n inv * 2 ^ 13 + rate % 4 * 2 ^ 11 := ⟨_, rfl⟩
  obtain ⟨c, hc⟩ : ∃ c, c = crc8 (msbBits 32 (m / 256)) := ⟨_, rfl⟩
  have hlt : c < 256 := hc ▸ crc8_lt _
  have hv : markerOf lane echo inv rate = m + c := by rw [hc, hm]; rfl
  have hbody : (m + c) / 256 = m / 256 := by omega
  have hecho : bits (m + c) 18 14 = echo := by simp only [bits]; omega
  have hinv : (m + c).testBit 13 = inv := testBit_of_b2n (by omega)
  rw [hv, readMarker_upright (by omega) (by rw [hbody, ← hc]; omega), hecho, hinv]

/-! ### Control word -/

/-- The values of a control word lie within its fields (Table 5-4). -/
structure CtlWord.Fits (w : CtlWord) : Prop where
  verMax : w.verMax < 2 ^ 2
  verActive : w.verActive < 2 ^ 2
  fnum : w.fnum < 2 ^ 10
  offset : w.offset < 2 ^ 9
  fmt : w.fmt < 2 ^ 2
  srate : w.srate < 2 ^ 2
  slotAlarm : w.slotAlarm < 2 ^ 9
  ccLen : w.ccLen < 2 ^ 3
  ccData : w.ccData < 2 ^ 64
  mf : w.mf < 2 ^ 24

namespace CtlWord
variable {w : CtlWord}

/-- The fields of a control word from its multiframe count up, in units of the count's lowest bit. -/
def fields (w : CtlWord) : Nat :=
  w.mf + w.ccData * 2 ^ 24 + w.ccLen * 2 ^ 91 + b2n w.ccStart * 2 ^ 94 + b2n w.ccValid * 2 ^ 95 + b2n w.layout * 2 ^ 104 +
    w.slotAlarm * 2 ^ 105 + w.srate * 2 ^ 114 + w.fmt * 2 ^ 116 + b2n w.spare * 2 ^ 118 + b2n w.rdi * 2 ^ 119 +
    b2n w.secMark * 2 ^ 120 + w.offset * 2 ^ 121 + w.fnum * 2 ^ 130 + w.verActive * 2 ^ 140 + w.verMax * 2 ^ 142

theorem encode_eq (h : w.Fits) : w.encode = w.fields * 2 ^ 48 + crc16 (msbBits 176 (w.fields * 2 ^ 48 / 65536)) := by
  have hb (b : Bool) : b2n b % 2 ^ 1 = b2n b := Nat.mod_eq_of_lt (Nat.lt_succ_of_le (b2n_le b))
  unfold encode
  extract_lets put v
  have hv : v = w.fields * 2 ^ 48 := by
    simp only [v, put, fields, hb, Nat.mod_eq_of_lt h.verMax, Nat.mod_eq_of_lt h.verActive, Nat.mod_eq_of_lt h.fnum,
      Nat.mod_eq_of_lt h.offset, Nat.mod_eq_of_lt h.fmt, Nat.mod_eq_of_lt h.srate, Nat.mod_eq_of_lt h.slotAlarm,
      Nat.mod_eq_of_lt h.ccLen, Nat.mod_eq_of_lt h.ccData, Nat.mod_eq_of_lt h.mf]
    ring
  rw [hv]

theorem decode_fields (h : w.Fits) {c : Nat} (hc : c < 2 ^ 48) : decode (w.fields * 2 ^ 48 + c) = w := by
  obtain ⟨h1, h2, h3, h4, h5, h6, h7, h8, h9, h10⟩ := h
  have b1 := b2n_le w.ccStart
  have b2 := b2n_le w.ccValid
  have b3 := b2n_le w.layout
  have b4 := b2n_le w.spare
  have b5 := b2n_le w.rdi
  have b6 := b2n_le w.secMark
  obtain ⟨v, hv⟩ : ∃ v, v = w.fields * 2 ^ 48 + c := ⟨_, rfl⟩
  rw [← hv]
  unfold fields at hv
  obtain ⟨verMax, verActive, fnum, offset, secMark, rdi, spare, fmt, srate, slotAlarm, layout, ccValid, ccStart, ccLen, ccData, mf⟩ := w
  dsimp only at *
  simp only [decode, mk.injEq, bits]
  refine ⟨?_, ?_, ?_, ?_, testBit_of_b2n ?_, testBit_of_b2n ?_, testBit_of_b2n ?_, ?_, ?_, ?_, testBit_of_b2n ?_,
    testBit_of_b2n ?_, testBit_of_b2n ?_, ?_, ?_, ?_⟩ <;> omega

theorem decode_encode (h : w.Fits) : decode w.encode = w := by
  rw [encode_eq h]
  exact decode_fields h ((crc16_lt _).trans (by decide))

theorem ctlCrcOk_encode (h : w.Fits) : ctlCrcOk w.encode = true := by
  have hc := crc16_lt (msbBits 176 (w.fields * 2 ^ 48 / 65536))
  have hdiv : w.encode / 65536 = w.fields * 2 ^ 48 / 65536 := by rw [encode_eq h]; omega
  have hmod : w.encode % 65536 = crc16 (msbBits 176 (w.fields * 2 ^ 48 / 65536)) := by rw [encode_eq h]; omega
  exact decide_eq_true (by rw [hdiv, hmod])

end CtlWord

/-! ### Precoding and scrambling -/

theorem unprecode_precode (p : Nat) {l : List Nat} (h : ∀ g ∈ l, g < 4) : unprecode p (precode p l) = l := by
  induction l generalizing p with
  | nil => rfl
  | cons g l ih =>
    have hg : g < 4 := h g (List.mem_cons_self ..)
    simp only [precode, unprecode, ih _ fun x hx => h x (List.mem_cons_of_mem g hx), List.cons.injEq, and_true]
    omega

theorem scrambled_scrambled (n v : Nat) : scrambled n (scrambled n v) = v := by
  unfold scrambled
  rw [Nat.xor_assoc, Nat.xor_self, Nat.xor_zero]

/-! ### Codewords -/

variable {s : State} {n : Nat}

/-- The bits of a codeword in error come down to the symbols of ten bits that hold one (R104). -/
def symbolErrors (errs : List Nat) : Nat := (errs.map (· / 10)).eraseDups.length

/-- A codeword of RS(544,514) is counted on lane `n` by its count of symbols in error (R104). -/
def countCodeword (n k : Nat) (s : State) : State :=
  if 15 < k then bump Prm.laneFecUncorrCw n s
  else if k = 0 then s
  else bumpBy Prm.laneFecCorrSym n k (bump Prm.laneFecCorrCw n s)

theorem countCodeword_eq (n : Nat) (errs : List Nat) (s : State) : countCodeword n (symbolErrors errs) s =
    if decide (15 < symbolErrors errs) = true then bump Prm.laneFecUncorrCw n s
    else if (errs.map (· / 10)).eraseDups.isEmpty = true then s
    else bumpBy Prm.laneFecCorrSym n (symbolErrors errs) (bump Prm.laneFecCorrCw n s) :=
  if_congr decide_eq_true_iff.symm rfl (if_congr List.isEmpty_iff_length_eq_zero.symm rfl rfl)

/-- A codeword from the line, on a lane in UP with RS(544,514) and no checker, is counted and does nothing else. -/
theorem exec_laneCodewordRx {cw : Nat} {errs : List Nat} (hn : n < 20) (hu : (s.lane n).st = .up) (hr : s.laneRs544 n = true)
    (hk : s.parN Prm.laneRxChecker n = 0) : exec (.laneCodewordRx n cw errs false) s =
      .next (countCodeword n (symbolErrors errs) (updLane n id s)) := by
  have hw : (errs.filter fun p => !([] : List Nat).contains p) ++ ([] : List Nat).filter (fun p => !errs.contains p) = errs := by simp
  change execLaneCodewordRx n cw errs false s = _
  rw [countCodeword_eq]
  unfold execLaneCodewordRx
  rw [if_neg (Nat.not_le.mpr hn)]
  simp only [Bool.false_eq_true, if_false, hr, hk, hw, if_true, updLane_lane_same, hu, Nat.zero_mod, ne_eq, not_true_eq_false,
    and_false, false_and, reduceCtorEq, Bool.not_true]
  rfl

/-- The counters of a codeword with `k` symbols in error (R104). -/
structure CodewordCounted (n k : Nat) (s t : State) : Prop where
  corrected : t.com Prm.laneFecCorrCw n =
    if (if 1 ≤ k ∧ k ≤ 15 then 1 else 0) = 0 then s.com Prm.laneFecCorrCw n
    else (satAdd Prm.laneFecCorrCw.width (s.com Prm.laneFecCorrCw n).toNat (if 1 ≤ k ∧ k ≤ 15 then 1 else 0) : Nat)
  symbols : t.com Prm.laneFecCorrSym n =
    if (if k ≤ 15 then k else 0) = 0 then s.com Prm.laneFecCorrSym n
    else (satAdd Prm.laneFecCorrSym.width (s.com Prm.laneFecCorrSym n).toNat (if k ≤ 15 then k else 0) : Nat)
  lost : t.com Prm.laneFecUncorrCw n =
    if (if 15 < k then 1 else 0) = 0 then s.com Prm.laneFecUncorrCw n
    else (satAdd Prm.laneFecUncorrCw.width (s.com Prm.laneFecUncorrCw n).toNat (if 15 < k then 1 else 0) : Nat)

theorem com_bumpBy (p : ParamDef) (i k : Nat) (s : State) :
    (bumpBy p i k s).com p i = (satAdd p.width (s.com p i).toNat k : Nat) := com_setPar s p i _

/-- Counting one item leaves what another item of the same lane reads. -/
theorem com_bumpBy_ne {p q : ParamDef} (h : p.id ≠ q.id) (i k : Nat) (s : State) : (bumpBy p i k s).com q i = s.com q i :=
  com_setPar_ne s p q i i _ fun e => h (by unfold parKey at e; omega)

theorem countCodeword_counts (n k : Nat) (s : State) : CodewordCounted n k s (countCodeword n k s) := by
  have hcs : Prm.laneFecCorrCw.id ≠ Prm.laneFecCorrSym.id := by decide
  have hcu : Prm.laneFecCorrCw.id ≠ Prm.laneFecUncorrCw.id := by decide
  have hsu : Prm.laneFecCorrSym.id ≠ Prm.laneFecUncorrCw.id := by decide
  unfold countCodeword
  by_cases h15 : 15 < k
  · have h : ¬k ≤ 15 := Nat.not_le.mpr h15
    constructor <;> simp [h15, h, bump, com_bumpBy, com_bumpBy_ne hcu.symm, com_bumpBy_ne hsu.symm]
  · by_cases h0 : k = 0
    · constructor <;> simp [h0]
    · have h : 1 ≤ k ∧ k ≤ 15 := by omega
      constructor <;> simp [h15, h0, h, bump, com_bumpBy, com_bumpBy_ne hcs, com_bumpBy_ne hcs.symm, com_bumpBy_ne hcu, com_bumpBy_ne hsu]

theorem countCodeword_mail (n k : Nat) (s : State) : Mail s (countCodeword n k s) :=
  .ite (bump_mail ..) (.ite (.refl s) ((bump_mail ..).trans (bumpBy_mail ..)))

theorem countCodeword_evt (n k : Nat) (s : State) : (countCodeword n k s).evt = s.evt := by
  unfold countCodeword
  split_ifs <;> rfl

/-- Settles O23: a codeword's count of symbols in error decides its counters, and each code has its inverse above. -/
theorem codesCorrectAndReadBack : Obligations.CodesCorrectAndReadBack := by
  unfold Obligations.CodesCorrectAndReadBack
  refine ⟨fun s n cw errs hn hu hr hk => ?_, fun lane echo rate inv _ he _ => readMarker_markerOf he inv,
    fun w h1 h2 h3 h4 h5 h6 h7 h8 h9 h10 => ?_, fun p l h => unprecode_precode p h, scrambled_scrambled⟩
  · obtain ⟨hc, hs, hl⟩ := countCodeword_counts n (symbolErrors errs) (updLane n id s)
    have hm := countCodeword_mail n (symbolErrors errs) (updLane n id s)
    refine .of_eq (exec_laneCodewordRx hn hu hr hk) ⟨hc, hs, hl, fun j => ?_, countCodeword_evt .., { hm with radio := rfl }⟩
    rw [State.lane, hm.radio]
    exact (updLane_lane n j id s).trans (ite_self _)
  · have h : w.Fits := ⟨h1, h2, h3, h4, h5, h6, h7, h8, h9, h10⟩
    exact ⟨CtlWord.decode_encode h, CtlWord.ctlCrcOk_encode h⟩

end Sys2Proof.Machine
end

section
/-! ## Wake from low-power idle -/
namespace Sys2Proof

/-- A value other than the one of an absent key stands in the list. -/
theorem Tab.mem_of_get_ne_default {α : Type} [Inhabited α] {t : Tab α} {a : Nat} (h : Tab.get t a ≠ default) : (a, Tab.get t a) ∈ t := by
  induction t with
  | nil => exact absurd rfl h
  | cons e t ih =>
    obtain ⟨k, v⟩ := e
    by_cases hk : k = a
    · simp [Tab.get, hk]
    · simp only [Tab.get, if_neg hk] at h ⊢
      exact List.mem_cons_of_mem _ (ih h)

namespace Machine

variable {s : State} {n q e : Nat}

theorem State.mem_backlogged (hp : (s.tq q).pkts ≠ []) (he : (s.schedsOf q).contains e = true) : q ∈ s.backlogged e := by
  have hm : (q, s.tq q) ∈ s.toll.q := Tab.mem_of_get_ne_default fun h => hp (by rw [State.tq, h]; rfl)
  refine List.mem_filter.mpr ⟨List.mem_map.mpr ⟨_, List.mem_filter.mpr ⟨hm, ?_⟩, rfl⟩, he⟩
  simp [hp]

/-- A port in low-power idle wakes for its one backlogged queue, where the queue may send and its own entry in the store holds the
packets (R415). -/
theorem exec_eeeTxWake_wakes (hn : n < 4) (hl : (s.port n).lpi = true) (hen : s.par Prm.ethEnable n = 1)
    (hb : s.backlogged (67 + n) = [q]) (hp : (s.tq q).pkts ≠ []) (hh : (s.tq q).heldOff = false)
    (ho : s.gateIsOpen (67 + n) q = true) (hg : s.gateProtects (67 + n) q = false) (hc : s.cOn q = false) (hpk : s.pOn q = false) :
    exec (.eeeTxWake n) s = .next (wakeTx n (fillBuckets q s)) := by
  have hfill : fillPort n s = fillBuckets q s := by rw [fillPort, hb]; rfl
  obtain ⟨c, p, htq⟩ : ∃ c p, (fillBuckets q s).tq q = { s.tq q with cDebt := c, pDebt := p, filled := s.now } :=
    ⟨_, _, updTq_tq_same ..⟩
  have hq : q ∈ s.backlogged (67 + n) := by simp [hb]
  have hsched : (s.schedsOf q).contains (67 + n) = true := (List.mem_filter.mp hq).2
  have hmem : q ∈ (fillBuckets q s).backlogged (67 + n) := State.mem_backlogged (by rw [htq]; exact hp) hsched
  have htier : (fillBuckets q s).tier (67 + n) q = some 3 := by
    have ho' : (fillBuckets q s).gateIsOpen (67 + n) q = true := ho
    have hg' : (fillBuckets q s).gateProtects (67 + n) q = false := hg
    have hc' : (fillBuckets q s).cOn q = false := hc
    have hp' : (fillBuckets q s).pOn q = false := hpk
    simp [State.tier, htq, hh, ho', hg', hc', hp']
  have helig : (fillBuckets q s).portEligible n = true := by
    simp only [State.portEligible, Bool.and_eq_true, decide_eq_true_eq, List.any_eq_true]
    exact ⟨hen, q, hmem, by rw [htier]; rfl⟩
  change execEeeTxWake n s = _
  rw [execEeeTxWake, hfill]
  exact congrArg _ (if_pos ⟨hn, hl, helig⟩)

/-- Port 0 stands in low-power idle at time 0, and the store of queues lists its queue twice: an empty entry, which is the one that
is read, hides one with a packet. -/
def State.shadowedQueue : State :=
  let s : State := { State.reset with
    eth := { State.reset.eth with port := [(0, { lpi := true })] }
    toll := { State.reset.toll with q := [(16896, {}), (16896, { pkts := [{ handle := 0, len := 64, at_ := 0 }] })] } }
  s.setPar Prm.ethEnable 0 1

/-- Refilling the buckets writes the empty entry back as an absent one, and with it the entry with the packet goes. -/
theorem fillPort_shadowedQueue : (fillPort 0 .shadowedQueue).backlogged 67 = [] := by decide

theorem exec_eeeTxWake_shadowedQueue : exec (.eeeTxWake 0) .shadowedQueue = .next (fillPort 0 .shadowedQueue) :=
  congrArg _ (if_neg (by simp [State.portEligible, fillPort_shadowedQueue]))

/-- Refutes O53: the statement ranges over states whose store of queues is not in its canonical form, and there a port whose queue
counts as backlogged does not wake. Where the queue's own entry holds its packets it does (`exec_eeeTxWake_wakes`). -/
theorem not_portsIdleStampAndPulse : ¬ Obligations.PortsIdleStampAndPulse := by
  unfold Obligations.PortsIdleStampAndPulse
  rintro ⟨h, -⟩
  obtain ⟨-, hwake, -⟩ := h .shadowedQueue 0 (by decide)
  obtain ⟨t, e, hlpi, -⟩ := hwake 16896 rfl (by decide) (by decide) (by decide) (by decide) (by decide) (by decide) (by decide)
  obtain rfl : fillPort 0 .shadowedQueue = t := Host.Outcome.next.inj (exec_eeeTxWake_shadowedQueue.symm.trans e)
  exact absurd hlpi (by decide)

end Machine
end Sys2Proof
end

section
/-! ## Irwick links -/
namespace Sys2Proof

/-- Taking away a bit that is set clears it and leaves the others. -/
theorem testBit_sub_two_pow {v n : Nat} (h : v.testBit n = true) (m : Nat) :
    (v - 2 ^ n).testBit m = if m = n then false else v.testBit m := by
  obtain ⟨k, hk⟩ : ∃ k, v / 2 ^ n = 2 * k + 1 := by
    rw [Nat.testBit_eq_decide_div_mod_eq, decide_eq_true_eq] at h
    exact ⟨v / 2 ^ n / 2, by omega⟩
  have hr : v % 2 ^ n < 2 ^ n := Nat.mod_lt _ (by positivity)
  have hv : v = 2 ^ n * (2 * k + 1) + v % 2 ^ n := by rw [← hk, Nat.div_add_mod]
  have hs : v - 2 ^ n = 2 ^ n * (2 * k) + v % 2 ^ n := by rw [Nat.mul_add] at hv; omega
  rw [hs]
  conv_rhs => rw [hv]
  rw [Nat.testBit_two_pow_mul_add _ hr, Nat.testBit_two_pow_mul_add _ hr]
  rcases lt_trichotomy m n with hm | rfl | hm
  · simp [hm, hm.ne]
  · simp
  · obtain ⟨j, hj⟩ : ∃ j, m - n = j + 1 := ⟨m - n - 1, by omega⟩
    have hd : (2 * k + 1) / 2 = k := by omega
    simp [hm.not_gt, hm.ne', hj, Nat.testBit_succ, hd]

/-- Setting or clearing bit `n` decides that bit and leaves the others. -/
theorem testBit_setBit (v n m : Nat) (b : Bool) : (setBit v n b).testBit m = if m = n then b else v.testBit m := by
  unfold setBit
  split
  next hb =>
    subst hb
    rw [Nat.testBit_or, Nat.testBit_two_pow]
    split
    next e => simp [e]
    next e => simp [Ne.symm e]
  next hb =>
    rw [Bool.eq_false_of_not_eq_true hb]
    split
    next hv => exact testBit_sub_two_pow hv m
    next hv =>
      split
      next e => rw [e, Bool.eq_false_of_not_eq_true hv]
      next => rfl

theorem setBit_self {v n : Nat} {b : Bool} (h : v.testBit n = b) : setBit v n b = v :=
  Nat.eq_of_testBit_eq fun m => by
    rw [testBit_setBit]
    split
    next e => rw [e, h]
    next => rfl

end Sys2Proof

namespace Sys2Proof.Machine

variable {a s t u : State} {l : Nat} {x y : Link}

/-! ### What raising an event leaves of the configuration store -/

theorem SamePages.refl (s : State) : SamePages s s := ⟨rfl, rfl, rfl, rfl, rfl⟩

theorem SamePages.trans (h : SamePages s t) (k : SamePages t u) : SamePages s u :=
  ⟨k.commits.trans h.commits, k.old.trans h.old, k.active.trans h.active, k.standby.trans h.standby, k.tables.trans h.tables⟩

theorem ringInsert_samePages (r : EvRec) (s : State) : SamePages s (ringInsert r s) := by
  unfold ringInsert
  dsimp only
  split_ifs
  · exact ⟨rfl, rfl, rfl, rfl, rfl⟩
  · exact ⟨rfl, rfl, rfl, rfl, rfl⟩
  · split <;> exact ⟨rfl, rfl, rfl, rfl, rfl⟩

theorem logInsert_samePages (r : EvRec) (s : State) : SamePages s (logInsert r s) := by
  unfold logInsert
  dsimp only
  split_ifs <;> exact ⟨rfl, rfl, rfl, rfl, rfl⟩

theorem raise_samePages (e : EvDef) (i d : Nat) (s : State) : SamePages s (raise e i d s) := by
  unfold raise
  extract_lets r s1 s2
  have h1 : SamePages s s1 := (ringInsert_samePages r s).trans (logInsert_samePages r _)
  have h2 : s2.cfg = s1.cfg := by
    unfold s2
    split <;> rfl
  have hp : (pump s2).cfg = s1.cfg := (pump_cfg s2).trans h2
  exact h1.trans (by constructor <;> rw [hp])

theorem bumpBy_samePages (p : ParamDef) (i k : Nat) (s : State) : SamePages s (bumpBy p i k s) := ⟨rfl, rfl, rfl, rfl, rfl⟩

/-! ### Changes of channels and calibrations alone -/

/-- From `s` to `t` only channels and calibrations change, besides what reporting touches: the links, the lanes, the channels'
receive sources and the tables' pages stay. -/
structure KeepsLinks (s t : State) : Prop where
  mail : Mail { s with radio := { s.radio with ach := t.radio.ach, cal := t.radio.cal } } t
  pages : SamePages s t
  source : ∀ c, (t.ach c).source = (s.ach c).source

namespace KeepsLinks

theorem refl (s : State) : KeepsLinks s s := ⟨.refl s, .refl s, fun _ => rfl⟩

theorem trans (h : KeepsLinks a s) (k : KeepsLinks s t) : KeepsLinks a t where
  mail := .trans (b := { s with radio := { s.radio with ach := t.radio.ach, cal := t.radio.cal } })
    { h.mail with radio := by rw [h.mail.radio] } k.mail
  pages := h.pages.trans k.pages
  source c := (k.source c).trans (h.source c)

/-- A report that leaves the tables' pages. -/
theorem report (h : KeepsLinks a s) (k : Mail s t) (p : SamePages s t) : KeepsLinks a t :=
  h.trans ⟨{ k with radio := by rw [k.radio] }, p, fun c => by rw [State.ach, k.radio]; rfl⟩

theorem raise (h : KeepsLinks a s) (e : EvDef) (i d : Nat) : KeepsLinks a (raise e i d s) :=
  h.report (raise_mail ..) (raise_samePages ..)

theorem ite {p : Prop} [Decidable p] {v w : State} (hv : KeepsLinks a v) (hw : KeepsLinks a w) : KeepsLinks a (if p then v else w) := by
  split
  · exact hv
  · exact hw

theorem foldl {α : Type} {f : State → α → State} {l : List α} (hf : ∀ v i, KeepsLinks a v → KeepsLinks a (f v i)) (h : KeepsLinks a s) :
    KeepsLinks a (l.foldl f s) :=
  List.foldlRecOn l f h fun v hv i _ => hf v i hv

theorem updAch (h : KeepsLinks a s) (c : Nat) (f : Ach → Ach) (hf : ∀ x, (f x).source = x.source := by exact fun _ => rfl) :
    KeepsLinks a (updAch c f s) :=
  h.trans ⟨.refl _, ⟨rfl, rfl, rfl, rfl, rfl⟩, fun d => by
    rw [updAch_ach]
    split
    · exact hf _
    · rfl⟩

theorem updCal (h : KeepsLinks a s) (r : Nat) (f : Cal → Cal) : KeepsLinks a (updCal r f s) :=
  h.trans ⟨.refl _, ⟨rfl, rfl, rfl, rfl, rfl⟩, fun _ => rfl⟩

theorem setAch (h : KeepsLinks a s) (c : Nat) (st : AchSt) : KeepsLinks a (setAch c st s) := by
  unfold Machine.setAch
  exact .ite h ((KeepsLinks.ite ((h.updAch ..).updCal ..) (h.updAch ..)).raise ..)

theorem flagAch (h : KeepsLinks a s) (c : Nat) : KeepsLinks a (flagAch c s) := by
  unfold Machine.flagAch recheckAch
  have h1 := h.updAch c fun b => { b with calibrated := false }
  have h2 := KeepsLinks.ite (p := ((Machine.updAch c (fun b => { b with calibrated := false }) s).ach c).st = .active)
    (h1.setAch c .calibrating) h1
  exact .ite (h2.setAch c .absent) h2

theorem link (h : KeepsLinks s t) (l : Nat) : t.link l = s.link l := by rw [State.link, h.mail.radio]; rfl

theorem tx (h : KeepsLinks s t) : t.radio.tx = s.radio.tx := by rw [h.mail.radio]

theorem lane (h : KeepsLinks s t) : t.radio.lane = s.radio.lane := by rw [h.mail.radio]

theorem radio (h : KeepsLinks s t) : Mail { s with radio := t.radio } t := { h.mail with radio := rfl }

end KeepsLinks

/-! ### Changes of one link -/

/-- From `s` to `t` only the radio changes, besides what reporting touches; of the links, link `l` alone changes and is `x`
afterwards. -/
structure LinkBecomes (l : Nat) (x : Link) (s t : State) : Prop where
  radio : Mail { s with radio := t.radio } t
  link : t.link l = x
  others : ∀ k, k ≠ l → t.link k = s.link k

namespace LinkBecomes

theorem refl (l : Nat) (s : State) : LinkBecomes l (s.link l) s s := ⟨.refl s, rfl, fun _ _ => rfl⟩

theorem trans (h : LinkBecomes l x s t) (k : LinkBecomes l y t u) : LinkBecomes l y s u :=
  ⟨h.radio.trans_radio k.radio, k.link, fun j hj => (k.others j hj).trans (h.others j hj)⟩

theorem keeps (h : LinkBecomes l x s t) (k : KeepsLinks t u) : LinkBecomes l x s u :=
  h.trans ⟨k.radio, (k.link l).trans h.link, fun j _ => k.link j⟩

theorem mail (h : LinkBecomes l x s t) (k : Mail t u) : LinkBecomes l x s u :=
  have hl (j : Nat) : u.link j = t.link j := by rw [State.link, k.radio]; rfl
  h.trans ⟨{ k with radio := rfl }, (hl l).trans h.link, fun j _ => hl j⟩

theorem updLink (h : LinkBecomes l x s t) (f : Link → Link) : LinkBecomes l (f x) s (updLink l f t) :=
  h.trans ⟨.refl _, by rw [updLink_link_same, h.link], fun k hk => updLink_link_ne l k f t hk.symm⟩

/-- Declaring or clearing a defect decides its bit (R134). -/
theorem setDefect (h : LinkBecomes l x s t) (b : Nat) (e : EvDef) (on : Bool) (extra : List (Nat × Nat × Nat)) :
    LinkBecomes l { x with defects := setBit x.defects b on } s (setDefect l b e on extra t) := by
  unfold Machine.setDefect
  split
  next hb =>
    rw [setBit_self (h.link ▸ hb)]
    exact h
  next => exact (h.updLink fun k => { k with defects := setBit k.defects b on }).mail (raise_mail ..)

end LinkBecomes
end Sys2Proof.Machine
end

section
/-! ## The control channel of a link -/
namespace Sys2Proof.Machine

variable {s t : State} {l : Nat} {x : Link} {m : CcMsg} {n : Nat}

/-! ### What each operation makes of its link -/

/-- A link that hands a message to the framer. -/
def Link.emits (k : Link) (m : CcMsg) : Link := { k with sent := k.sent ++ [m], ccBuf := k.ccBuf ++ [(true, m.bytes)] }

/-- A link on which version selection has failed: bootstrap frames, and VERF (R140, R141). -/
def Link.unversioned (k : Link) : Link := { k with
  defects := setBit k.defects 5 true, layout := none, select := none, version := 0, early := 3 }

/-- A link whose selected layout takes effect (R139). -/
def Link.selects (k : Link) (q : Selection) : Link := { k with
  prev := k.layout, layout := some q.layout, effMf := q.eff, early := 0, select := none, version := q.layout.version }

namespace LinkBecomes

theorem ite {p : Prop} [Decidable p] {v w : State} (hv : LinkBecomes l x s v) (hw : LinkBecomes l x s w) :
    LinkBecomes l x s (if p then v else w) := by
  split
  · exact hv
  · exact hw

theorem emit (h : LinkBecomes l x s t) (m : CcMsg) : LinkBecomes l (x.emits m) s (emit l m t) := h.updLink (·.emits m)

/-- With no message waiting, the end of the outstanding one leaves none (R138). -/
theorem ccNext (h : LinkBecomes l x s t) (hw : x.waiting = []) : LinkBecomes l { x with out := none } s (ccNext l t) := by
  have hl : (t.link l).waiting = [] := by rw [h.link, hw]
  unfold Machine.ccNext
  rw [hl]
  exact h.updLink fun k => { k with out := none }

/-- With no message outstanding, a message is stamped and sent at once (R138). -/
theorem ccSend (h : LinkBecomes l x s t) (ho : x.out = none) (typ : Nat) (payload : List Byte) :
    LinkBecomes l (Link.emits { x with seqNext := (x.seqNext + 1) % 256, out := some (⟨typ, x.seqNext, payload⟩, 0) }
      ⟨typ, x.seqNext, payload⟩) s (ccSend l typ payload t) := by
  have h1 := h.updLink fun k => { k with seqNext := (k.seqNext + 1) % 256 }
  unfold Machine.ccSend stamp
  dsimp only
  rw [h1.link, h.link]
  dsimp only
  rw [ho]
  exact (h1.updLink fun k => { k with out := some (⟨typ, x.seqNext, payload⟩, 0) }).emit _

theorem versionFault (h : LinkBecomes l x s t) (why : Nat) : LinkBecomes l x.unversioned s (versionFault l why t) :=
  (h.updLink Link.unversioned).mail (raise_mail ..)

end LinkBecomes

/-! ### Acknowledgements, retries and echoes -/

theorem acked_spareSwitch (ht : m.typ = 0x06) (s : State) : acked l m 0 s =
    updLink l (fun k => { k with standby := k.standby.map fun q => { q with acked := true } }) s := by
  unfold acked
  rw [ht]
  rfl

/-- The ACK of the outstanding SPARE_SWITCH ends it (R138, R146). -/
theorem ack_ends (hst : (s.link l).st = .sync) (ho : (s.link l).out = some (m, n)) (hw : (s.link l).waiting = []) (ht : m.typ = 0x06) :
    Answers (.ack l 0x06 m.seq 0) s fun t => LinkBecomes l { s.link l with
      defects := setBit (s.link l).defects 4 false
      standby := (s.link l).standby.map fun q => { q with acked := true }
      out := none } s t := by
  have e : exec (.ack l 0x06 m.seq 0) s =
      .next (ccNext l (acked l m 0 (setDefect l 4 Ev.linkCcFault false [(1, 1, 0x06)] s))) := by
    change execAck l 0x06 m.seq 0 s = _
    simp [execAck, hst, ho, ht]
  refine .of_eq e ?_
  rw [acked_spareSwitch ht]
  have h1 := (LinkBecomes.refl l s).setDefect 4 Ev.linkCcFault false [(1, 1, 0x06)]
  exact (h1.updLink fun k => { k with standby := k.standby.map fun q => { q with acked := true } }).ccNext hw

/-- The first three timeouts send the outstanding message again (R138). -/
theorem retry_sends (ho : (s.link l).out = some (m, n)) (hn : n < 3) : Answers (.ccRetryTimeout l) s fun t =>
    t.evt = s.evt ∧ LinkBecomes l (Link.emits { s.link l with out := some (m, n + 1) } m) s t := by
  have e : exec (.ccRetryTimeout l) s = .next (emit l m (updLink l (fun k => { k with out := some (m, n + 1) }) s)) := by
    change execCcRetryTimeout l s = _
    simp [execCcRetryTimeout, ho, hn]
  exact .of_eq e ⟨rfl, ((LinkBecomes.refl l s).updLink fun k => { k with out := some (m, n + 1) }).emit m⟩

/-- The timeout after the third retry ends the message and declares CCF (R134, R138). -/
theorem retry_gives_up (ho : (s.link l).out = some (m, n)) (hw : (s.link l).waiting = []) (hn : 3 ≤ n) :
    Answers (.ccRetryTimeout l) s fun t =>
      LinkBecomes l { s.link l with defects := setBit (s.link l).defects 4 true, out := none } s t := by
  have e : exec (.ccRetryTimeout l) s = .next (ccNext l (setDefect l 4 Ev.linkCcFault true [(1, 1, m.typ)] s)) := by
    change execCcRetryTimeout l s = _
    simp [execCcRetryTimeout, ho, Nat.not_lt.mpr hn]
  exact .of_eq e (((LinkBecomes.refl l s).setDefect 4 Ev.linkCcFault true [(1, 1, m.typ)]).ccNext hw)

/-- The echo period sends an ECHO whose token is the next free value (R138). -/
theorem echoPeriod_sends (hl : l < 16) (hp : s.parN Prm.linkEchoPeriodMs l ≠ 0) (he : s.par Prm.linkEnable l ≠ 0)
    (ho : (s.link l).out = none) : Answers (.echoPeriod l) s fun t => t.free = s.free + 1 ∧
      (∃ token, (t.link l).out = some (⟨0x04, (s.link l).seqNext, be 4 token⟩, 0)) ∧ ∀ k, k ≠ l → t.link k = s.link k := by
  have hc : ¬(16 ≤ l ∨ s.parN Prm.linkEchoPeriodMs l = 0 ∨ s.par Prm.linkEnable l = 0) := by
    rintro (h | h | h)
    · omega
    · exact hp h
    · exact he h
  refine .of_neg rfl hc ?_
  have h := (LinkBecomes.refl l (drawBelow (2 ^ 32) s).2).ccSend ho 0x04 (be 4 (drawBelow (2 ^ 32) s).1)
  exact ⟨h.radio.free, ⟨_, by rw [h.link]; rfl⟩, h.others⟩

/-! ### Layouts -/

/-- A LAYOUT_SELECT without its acknowledgement at the deadline has failed (R140). -/
theorem layoutAckDeadline_fails {q : Selection} (hs : (s.link l).select = some q) (ha : q.acked = false) :
    Answers (.layoutAckDeadline l) s fun t => LinkBecomes l (s.link l).unversioned s t := by
  have e : exec (.layoutAckDeadline l) s = .next (versionFault l 3 s) := by
    change execLayoutAckDeadline l s = _
    simp [execLayoutAckDeadline, hs, ha]
  exact .of_eq e ((LinkBecomes.refl l s).versionFault 3)

/-- An acknowledged layout takes effect at its multiframe (R139). -/
theorem layoutEffect_selects {q : Selection} (hs : (s.link l).select = some q) (ha : q.acked = true) :
    Answers (.layoutEffect l) s fun t => LinkBecomes l ((s.link l).selects q) s t := by
  have e : exec (.layoutEffect l) s = .next (
      let u := reportVersion 1 l q.layout.version 0 (updLink l (·.selects q) s)
      if (u.link l).caps.isNone then raise Ev.achHeadIncompat l (detail [(0, 1, 3)]) u else u) := by
    change execLayoutEffect l s = _
    simp only [execLayoutEffect, hs, ha, if_true]
    rfl
  have h := ((LinkBecomes.refl l s).updLink (·.selects q)).mail (reportVersion_mail 1 l q.layout.version 0 _)
  exact .of_eq e (.ite (h.mail (raise_mail ..)) h)

/-! ### Standby switching -/

@[simp] theorem setActive_entry_same (d : TableDef) (i k : Nat) (b : List Byte) (s : State) :
    (setActive d i k b s).entry d i k = bytesAt b 0 d.size := by
  simp only [State.entry, setActive, Tab.get_put_same, TableDef.stored]
  split
  next e => exact e.symm
  next => rfl

theorem setActive_entry_ne {d : TableDef} {i k j : Nat} (h : j ≠ k) (b : List Byte) (s : State) :
    (setActive d i k b s).entry d i j = s.entry d i j := by
  have hk : tabKey d.id i k ≠ tabKey d.id i j := by
    unfold tabKey
    omega
  simp only [State.entry, setActive, Tab.get_put_ne _ _ _ _ hk]

theorem setActive_mail (d : TableDef) (i k : Nat) (b : List Byte) (s : State) : Mail s (setActive d i k b s) := by
  constructor <;> rfl

theorem setStandby_mail (d : TableDef) (i k : Nat) (b : List Byte) (s : State) : Mail s (setStandby d i k b s) := by
  constructor <;> rfl

/-- An entry of LINK.cmap with its slot replaced by slot 8 (R146). -/
def toSlot8 (e : Nat) : Nat := e - bits e 11 8 * 256 + 8 * 256

/-- The entry with slot 8 in it names the same link. -/
theorem cmapTarget_toSlot8 {e l i : Nat} (h : cmapTarget e = some (l, i)) : cmapTarget (leNat (le 4 (toSlot8 e))) = some (l, 8) := by
  unfold cmapTarget at h ⊢
  rw [leNat_le]
  obtain ⟨h0, h⟩ := Option.ite_none_right_eq_some.mp h
  simp only [Option.some.injEq, Prod.mk.injEq, bits] at h
  rw [Nat.testBit_zero, decide_eq_true_eq] at h0
  have hs : (toSlot8 e % 256 ^ 4).testBit 0 = true := by
    rw [Nat.testBit_zero, decide_eq_true_eq]
    simp only [toSlot8, bits]
    omega
  rw [if_pos hs]
  simp only [Option.some.injEq, Prod.mk.injEq, toSlot8, bits]
  omega

theorem State.mapped_of_achAt {i c : Nat} (h : s.achAt l i = some c) : s.mapped c = some (l, i) :=
  beq_iff_eq.mp (List.find?_some (p := fun c => s.mapped c == some (l, i)) h)

theorem KeepsLinks.mapped (h : KeepsLinks s t) (c : Nat) : t.mapped c = s.mapped c := by
  simp only [State.mapped, State.entryNat, h.pages.entry]

/-- The entry of channel `c` is moved to slot 8 in the active page of LINK.cmap, and is `b` in the standby page (R146). -/
def State.cmapMoved (c : Nat) (b : List Byte) (s : State) : State :=
  setStandby Tbl.linkCmap 0 c b (setActive Tbl.linkCmap 0 c (le 4 (toSlot8 (s.entryNat Tbl.linkCmap 0 c))) s)

theorem State.cmapMoved_mapped_same {i c : Nat} (h : s.mapped c = some (l, i)) (b : List Byte) :
    (s.cmapMoved c b).mapped c = some (l, 8) := by
  have he : (s.cmapMoved c b).entry Tbl.linkCmap 0 c = le 4 (toSlot8 (s.entryNat Tbl.linkCmap 0 c)) := by
    refine (setActive_entry_same ..).trans ?_
    exact (congrArg (bytesAt _ 0) (length_le 4 _).symm).trans (bytesAt_all _)
  rw [State.mapped, State.entryNat, he]
  exact cmapTarget_toSlot8 h

theorem State.cmapMoved_mapped_ne {c d : Nat} (h : d ≠ c) (b : List Byte) : (s.cmapMoved c b).mapped d = s.mapped d :=
  congrArg (fun e => cmapTarget (leNat e)) (setActive_entry_ne (d := Tbl.linkCmap) (i := 0) h _ s)

/-- The channel on the element of an acknowledged SPARE_SWITCH is moved, keeps its source for now, and is flagged (R145, R146,
R164). -/
theorem exec_spareSwitchEffect {q : Standby} {c : Nat} (hq : (s.link l).standby = some q) (ha : q.acked = true)
    (hc : s.achAt l q.element = some c) : ∃ b d, exec (.spareSwitchEffect l) s = .next (raise Ev.linkStandbySwitch l d (
      flagAch c (updAch c (fun x => { x with source := some (s.source c) })
        (updLink l (fun k => { k with onStandby := some q.element })
          ((updLink l (fun k => { k with standby := none }) s).cmapMoved c b))))) := by
  have hc' : (updLink l (fun k => { k with standby := none }) s).achAt l q.element = some c := hc
  change ∃ b d, execSpareSwitchEffect l s = _
  simp only [execSpareSwitchEffect, hq, ha, Bool.not_true, Bool.false_eq_true, if_false, hc']
  split <;> exact ⟨_, _, rfl⟩

/-- The channel on the element of an acknowledged SPARE_SWITCH is moved to slot 8, and receives from its old source for now
(R145, R146). -/
theorem spareSwitchEffect_moves {q : Standby} {c : Nat} (hq : (s.link l).standby = some q) (ha : q.acked = true)
    (hc : s.achAt l q.element = some c) : Answers (.spareSwitchEffect l) s fun t =>
      LinkBecomes l { s.link l with standby := none, onStandby := some q.element } s t ∧
      t.mapped c = some (l, 8) ∧ t.source c = s.source c ∧ ∀ d, d ≠ c → t.mapped d = s.mapped d := by
  obtain ⟨b, d, e⟩ := exec_spareSwitchEffect hq ha hc
  refine .of_eq e ?_
  generalize hw : updLink l (fun k => { k with standby := none }) s = w
  have hwm : w.mapped = s.mapped := hw ▸ rfl
  generalize hu : updLink l (fun k => { k with onStandby := some q.element }) (w.cmapMoved c b) = u
  have hum : u.mapped = (w.cmapMoved c b).mapped := hu ▸ rfl
  generalize hv : updAch c (fun x => { x with source := some (s.source c) }) u = v
  have hvm : v.mapped = u.mapped := hv ▸ rfl
  have h1 : LinkBecomes l { s.link l with standby := none } s w :=
    hw ▸ (LinkBecomes.refl l s).updLink fun k => { k with standby := none }
  have h2 : LinkBecomes l { s.link l with standby := none, onStandby := some q.element } s u :=
    hu ▸ ((h1.mail (setActive_mail ..)).mail (setStandby_mail ..)).updLink fun k => { k with onStandby := some q.element }
  have h3 : LinkBecomes l { s.link l with standby := none, onStandby := some q.element } s v :=
    hv ▸ h2.trans ⟨.refl _, h2.link, fun _ _ => rfl⟩
  have k : KeepsLinks v (raise Ev.linkStandbySwitch l d (flagAch c v)) := ((KeepsLinks.refl v).flagAch c).raise ..
  have hm (j : Nat) : (raise Ev.linkStandbySwitch l d (flagAch c v)).mapped j = (w.cmapMoved c b).mapped j := by
    rw [k.mapped, hvm, hum]
  refine ⟨h3.keeps k, ?_, ?_, fun j hj => ?_⟩
  · rw [hm]
    exact State.cmapMoved_mapped_same (hwm ▸ State.mapped_of_achAt hc) b
  · have hs : (v.ach c).source = some (s.source c) := by rw [← hv, updAch_ach_same]
    rw [State.source, k.source, hs]
    rfl
  · rw [hm, State.cmapMoved_mapped_ne hj, hwm]

/-- Settles O26: each clause is the command's lemma above, of which `LinkBecomes` gives the link's new value and the frame. -/
theorem outstandingMessagesAndSelections : Obligations.OutstandingMessagesAndSelections := by
  unfold Obligations.OutstandingMessagesAndSelections
  refine fun s l hl => ⟨fun m n ho hw => ⟨fun hst ht => ?_, fun hn => ?_, fun hn => ?_⟩, fun hp he ho => ?_,
    fun q hs => ⟨fun ha => ?_, fun ha => ?_⟩, fun q c hq ha hc => ?_⟩
  · refine (ack_ends hst ho hw ht).imp fun t h => ⟨by rw [h.link], by rw [h.link], ?_, h.others, h.radio⟩
    rw [h.link, testBit_setBit, if_pos rfl]
  · exact (retry_sends ho hn).imp fun t ⟨he, h⟩ => ⟨by rw [h.link]; rfl, by rw [h.link]; rfl, he, h.others, h.radio⟩
  · refine (retry_gives_up ho hw hn).imp fun t h => ⟨by rw [h.link], ?_, h.others, h.radio⟩
    rw [h.link, testBit_setBit, if_pos rfl]
  · exact (echoPeriod_sends hl hp he ho).imp fun t ⟨hf, ht, h⟩ => ⟨ht, hf, h⟩
  · refine (layoutAckDeadline_fails hs ha).imp fun t h =>
      ⟨by rw [h.link]; rfl, by rw [h.link]; rfl, by rw [h.link]; rfl, ?_, h.others, h.radio⟩
    rw [h.link, Link.unversioned, testBit_setBit, if_pos rfl]
  · exact (layoutEffect_selects hs ha).imp fun t h =>
      ⟨by rw [h.link]; rfl, by rw [h.link]; rfl, by rw [h.link]; rfl, by rw [h.link]; rfl, h.others, h.radio⟩
  · exact (spareSwitchEffect_moves hq ha hc).imp fun t ⟨h, hm, hs, hd⟩ =>
      ⟨by rw [h.link], by rw [h.link], hm, hs, hd, h.others, h.radio⟩

end Sys2Proof.Machine
end

section
/-! ## Frames and the second of a link -/
namespace Sys2Proof.Machine

variable {s t u : State} {l : Nat} {x y : Link}

/-! ### Frame synchronisation -/

/-- A link that leaves PRESYNC or SYNC: its runs restart, and one that was in SYNC loses its layout (R130, R139). -/
def Link.hunts (k : Link) : Link := { k with
  st := .hunt, hits := 0, syncMiss := 0, crcFail := 0, mismatch := 0, rdiRun := 0
  layout := if k.st = .sync then none else k.layout
  version := if k.st = .sync then 0 else k.version
  select := if k.st = .sync then none else k.select
  early := 3, outMf := true, recentred := false }

/-- A link that enters SYNC: VERF is cleared, and its frames are bootstrap frames (R130, R134, R139). -/
def Link.synchronises (k : Link) : Link := { k with
  st := .sync, hits := 0, syncMiss := 0, crcFail := 0, mismatch := 0, defects := setBit k.defects 5 false
  layout := none, prev := none, select := none, version := 0, early := 3, headId := none, caps := none
  capsOk := false, recentred := true }

/-- A link in HUNT that takes a frame as its first hit. -/
def Link.firstHit (w : CtlWord) (k : Link) : Link := { k with
  st := .presync, hits := 1, fnum := w.fnum, rxMf := w.mf, verMax := w.verMax }

namespace LinkBecomes

theorem updLink_eq {f : Link → Link} (h : LinkBecomes l x s t) (e : f x = y) : LinkBecomes l y s (Machine.updLink l f t) :=
  e ▸ h.updLink f

theorem toHunt (h : LinkBecomes l x s t) : LinkBecomes l x.hunts s (toHunt l t) := by
  unfold Machine.toHunt
  rw [h.link]
  extract_lets was u v
  have hu : LinkBecomes l x.hunts s u := h.updLink_eq rfl
  have hv : KeepsLinks u v := .foldl (fun _ _ k => (k.updAch ..).flagAch _) (.refl u)
  exact .ite hu (hu.keeps (.foldl (fun _ _ k => k.updCal ..) hv))

theorem rehunt (h : LinkBecomes l x s t) : LinkBecomes l x.hunts s (rehunt l t) := (h.mail (bump_mail ..)).toHunt

theorem enterSync (h : LinkBecomes l x s t) : LinkBecomes l x.synchronises s (enterSync l t) :=
  (h.updLink Link.synchronises).mail (raise_mail ..)

end LinkBecomes

/-- The control word of a received frame. -/
def frameWord (nbits raw : Nat) : Nat := scrambled nbits raw / 2 ^ (nbits - 192)

/-- A frame is delivered to no channel while the head's frames are bootstrap frames. -/
theorem deliverFrame_bootstrap {w : CtlWord} (h : (s.link l).expected w.mf = none) (lost : Bool) (content nbits : Nat) (bad cdc : List Nat) :
    deliverFrame l w lost content nbits bad cdc s = s := by
  unfold deliverFrame
  simp only [h]

section
variable {errs raw nbits : Nat} {bad cdc : List Nat} {slip : Bool}

/-- In HUNT the first hit is a sync word without error and a correct CRC (Table 5-5). -/
theorem linkFrameRx_hunt (hl : l < 16) (hf : s.linkFed l = true) (hn : 192 ≤ nbits) (hst : (s.link l).st = .hunt)
    (hc : ctlCrcOk (frameWord nbits raw) = true) :
    exec (.linkFrameRx l 0 raw nbits bad slip cdc) s = .next (updLink l (Link.firstHit (.decode (frameWord nbits raw))) s) := by
  unfold frameWord at *
  change execLinkFrameRx l 0 raw nbits bad slip cdc s = _
  simp only [execLinkFrameRx, hf, hst, hn, hc, Nat.not_le.mpr hl, Bool.not_true, Bool.false_eq_true, or_self, if_false,
    decide_true, Bool.and_self, and_self, if_true]
  rfl

/-- In PRESYNC the third hit in a row enters SYNC (Table 5-5). -/
theorem linkFrameRx_third (hl : l < 16) (hf : s.linkFed l = true) (hn : 192 ≤ nbits) (hst : (s.link l).st = .presync)
    (hh : (s.link l).hits = 2) (he : errs ≤ s.parN Prm.linkSyncErrTol l) (hc : ctlCrcOk (frameWord nbits raw) = true) :
    Answers (.linkFrameRx l errs raw nbits bad slip cdc) s fun t => ∃ x, LinkBecomes l (Link.synchronises x) s t := by
  refine ⟨_, rfl, ?_⟩
  rw [if_neg (by simp [hl, hf])]
  extract_lets +onlyGivenNames content word w crcOk
  have hok : crcOk = true := by
    change (decide (192 ≤ nbits) && ctlCrcOk (frameWord nbits raw)) = true
    simp [hn, hc]
  split
  next h => exact absurd (hst.symm.trans h) (by decide)
  next =>
    rw [if_pos ⟨he, hok⟩]
    extract_lets +onlyGivenNames u
    have hu : LinkBecomes l _ s u := (LinkBecomes.refl l s).updLink _
    rw [if_pos (by rw [hu.link]; simp [hh])]
    exact ⟨_, hu.enterSync⟩
  next h => exact absurd (hst.symm.trans h) (by decide)

/-- In SYNC the second CRC failure in a row sends the link back to HUNT (Table 5-5). -/
theorem linkFrameRx_crcFails (hl : l < 16) (hf : s.linkFed l = true) (hst : (s.link l).st = .sync) (hk : (s.link l).crcFail = 1)
    (hy : (s.link l).layout = none) (hy' : (s.link l).early = 3) (hc : ctlCrcOk (frameWord nbits raw) = false) :
    Answers (.linkFrameRx l errs raw nbits bad false cdc) s fun t => ∃ x, LinkBecomes l (Link.hunts x) s t := by
  refine ⟨_, rfl, ?_⟩
  rw [if_neg (by simp [hl, hf])]
  extract_lets +onlyGivenNames content word w crcOk
  have hok : crcOk = false := by
    change (decide (192 ≤ nbits) && ctlCrcOk (frameWord nbits raw)) = false
    simp [hc]
  split
  next h => exact absurd (hst.symm.trans h) (by decide)
  next h => exact absurd (hst.symm.trans h) (by decide)
  next =>
    extract_lets +onlyGivenNames syncOk k u v
    have hu : LinkBecomes l _ s u := (LinkBecomes.refl l s).updLink _
    have hv : LinkBecomes l _ s v := hu.updLink _
    rw [if_pos (by simp [hok]), deliverFrame_bootstrap (by rw [hv.link]; simp [Link.expected, hy, hy'])]
    extract_lets +onlyGivenNames a b
    have hb : LinkBecomes l _ s b := hv.updLink _
    rw [if_pos (by rw [hb.link]; simp [hok, hk])]
    exact ⟨_, hb.rehunt.mail (raise_mail ..)⟩

end

/-! ### Defects -/

section
variable (hl : l < 16)
include hl

theorem losPersists_declares (hu : s.laneUp l = false) : Answers (.linkDefectPersist l 0 true) s fun t =>
    LinkBecomes l { s.link l with defects := setBit (setBit (s.link l).defects 1 false) 0 true } s t := by
  refine .of_neg rfl (Nat.not_le.mpr hl) ?_
  change LinkBecomes l _ s (if s.laneUp l then s else _)
  rw [if_neg (by simp [hu])]
  exact ((LinkBecomes.refl l s).updLink fun k => { k with defects := setBit k.defects 1 false }).setDefect 0 Ev.linkLos true []

theorem losClears (hu : s.laneUp l = true) : Answers (.linkDefectPersist l 0 false) s fun t =>
    LinkBecomes l { s.link l with defects := setBit (s.link l).defects 0 false } s t := by
  refine .of_neg rfl (Nat.not_le.mpr hl) ?_
  change LinkBecomes l _ s (if s.laneUp l then _ else s)
  rw [if_pos hu]
  exact (LinkBecomes.refl l s).setDefect 0 Ev.linkLos false []

theorem lofPersists_declares (hu : s.laneUp l = true) (hst : (s.link l).st ≠ .sync) : Answers (.linkDefectPersist l 1 true) s fun t =>
    LinkBecomes l { s.link l with defects := setBit (s.link l).defects 1 true } s t := by
  refine .of_neg rfl (Nat.not_le.mpr hl) ?_
  change LinkBecomes l _ s (if s.laneUp l && !((s.link l).st == .sync) then _ else s)
  rw [if_pos (by simp [hu, hst])]
  exact (LinkBecomes.refl l s).setDefect 1 Ev.linkLof true []

theorem lofClears (hst : (s.link l).st = .sync) : Answers (.linkDefectPersist l 1 false) s fun t =>
    LinkBecomes l { s.link l with defects := setBit (s.link l).defects 1 false } s t := by
  refine .of_neg rfl (Nat.not_le.mpr hl) ?_
  change LinkBecomes l _ s (if (s.link l).st == .sync then _ else s)
  rw [if_pos (by simp [hst])]
  exact (LinkBecomes.refl l s).setDefect 1 Ev.linkLof false []

end

/-! ### One step on every link -/

/-- From `s` to `t` only the radio changes, besides what reporting touches; of the links, those below `n` alone change, and
link `l` has property `P l` afterwards. -/
structure LinksBecome (P : Nat → Link → Prop) (n : Nat) (s t : State) : Prop where
  radio : Mail { s with radio := t.radio } t
  done : ∀ l, l < n → P l (t.link l)
  rest : ∀ l, n ≤ l → t.link l = s.link l

/-- Links are taken in turn: each finds its own state as it was, and no later turn changes it. `I` is what the turns keep. -/
theorem LinksBecome.foldl {P : Nat → Link → Prop} {I : State → Prop} {f : State → Nat → State} (hs : I s)
    {n : Nat} (hf : ∀ l v, l < n → I v → v.link l = s.link l → I (f v l) ∧ ∃ x, P l x ∧ LinkBecomes l x v (f v l)) :
    I ((List.range n).foldl f s) ∧ LinksBecome P n s ((List.range n).foldl f s) := by
  induction n with
  | zero => exact ⟨hs, .refl s, fun _ h => absurd h (Nat.not_lt_zero _), fun _ _ => rfl⟩
  | succ n ih =>
    replace ih := ih fun l v hl => hf l v (hl.trans n.lt_succ_self)
    rw [List.range_succ, List.foldl_append]
    obtain ⟨hi, hr, hd, hk⟩ := ih
    obtain ⟨hi', x, hx, h⟩ := hf n _ n.lt_succ_self hi (hk n le_rfl)
    refine ⟨hi', hr.trans_radio h.radio, fun l hl => ?_, fun l hl => ?_⟩
    · rcases Nat.lt_succ_iff_lt_or_eq.mp hl with hl | rfl
      · exact (h.others l hl.ne).symm ▸ hd l hl
      · exact h.link.symm ▸ hx
    · exact (h.others l (Nat.ne_of_gt hl)).trans (hk l (Nat.le_of_succ_le hl))

/-! ### The latch of the second -/

/-- The latch moves a link's counts, and decides SD (R134, R136). -/
theorem latchLink_moves (l : Nat) (s : State) : ∃ x, (x.sec = (s.link l).run ∧ x.run = {}) ∧ LinkBecomes l x s (latchLink l s) := by
  have h := (LinkBecomes.refl l s).updLink fun k => { k with sec := k.run, run := {} }
  unfold latchLink
  extract_lets n th u
  split_ifs
  · exact ⟨_, ⟨rfl, rfl⟩, h.setDefect 2 Ev.linkSd true _⟩
  · exact ⟨_, ⟨rfl, rfl⟩, h.setDefect 2 Ev.linkSd false _⟩
  · exact ⟨_, ⟨rfl, rfl⟩, h⟩

/-- From `s` to `t` the links, their shared counter, the time and the flash stay. -/
structure SameLinks (s t : State) : Prop where
  link : t.radio.link = s.radio.link
  tx : t.radio.tx = s.radio.tx
  time : t.time = s.time
  flash : t.flash = s.flash

theorem SameLinks.refl (s : State) : SameLinks s s := ⟨rfl, rfl, rfl, rfl⟩

theorem SameLinks.trans (h : SameLinks s t) (k : SameLinks t u) : SameLinks s u :=
  ⟨k.link.trans h.link, k.tx.trans h.tx, k.time.trans h.time, k.flash.trans h.flash⟩

theorem SameLinks.of_mail (h : Mail s t) : SameLinks s t := ⟨by rw [h.radio], by rw [h.radio], h.time, h.flash⟩

theorem SameLinks.foldl {α : Type} {f : State → α → State} {l : List α} (hf : ∀ v i, SameLinks v (f v i)) (s : State) :
    SameLinks s (l.foldl f s) :=
  List.foldlRecOn l f (.refl s) fun v hv i _ => hv.trans (hf v i)

theorem updBeam_sameLinks (r : Nat) (f : Beam → Beam) (s : State) : SameLinks s (updBeam r f s) := ⟨rfl, rfl, rfl, rfl⟩

theorem latchSta_sameLinks (s : State) : SameLinks s (latchSta s) := ⟨rfl, rfl, rfl, rfl⟩

theorem withTask_sameLinks (s : State) (x : Task) : SameLinks s { s with task := x } := ⟨rfl, rfl, rfl, rfl⟩

theorem latchAoa_sameLinks (r : Nat) (s : State) : SameLinks s (latchAoa r s) := by
  unfold latchAoa
  extract_lets b u
  have hu : SameLinks s u := by
    refine .foldl (fun _ _ => ?_) s
    exact .of_mail (setActive_mail ..)
  exact hu.trans (updBeam_sameLinks ..)

/-- The latch of the second moves the counts of every link, and marks the second (R136). -/
theorem latchLinks_moves (s : State) : ∃ u, LinksBecome (fun l x => x.sec = (s.link l).run ∧ x.run = {}) 16 s u ∧
    SameLinks { u with radio := { u.radio with tx := { u.radio.tx with secMark := true } } } (latchLinks s) := by
  have h := (LinksBecome.foldl (s := s) (P := fun l x => x.sec = (s.link l).run ∧ x.run = {}) (I := fun _ => True) trivial
    (n := 16) fun l v _ _ e => ⟨trivial, e ▸ latchLink_moves l v⟩).2
  unfold latchLinks
  extract_lets +onlyGivenNames u
  refine ⟨u, h, ?_⟩
  clear_value u
  refine .foldl (fun _ _ => ?_) _
  exact ⟨rfl, rfl, rfl, rfl⟩

theorem linkSecondLatch_moves (hp : s.power.tbEntry = none) : Answers .linkSecondLatch s fun t =>
    (∀ l, l < 16 → (t.link l).sec = (s.link l).run ∧ (t.link l).run = {}) ∧ t.radio.tx.secMark = true ∧ t.time = s.time ∧
      t.flash = s.flash := by
  obtain ⟨v, he, hv⟩ : ∃ v, exec .linkSecondLatch s = .next v ∧ SameLinks (latchLinks s) v := by
    refine Answers.of_neg rfl (by simp [hp]) ?_
    generalize latchLinks s = w
    extract_lets +onlyGivenNames u
    have hu : SameLinks (latchSta w) u := by
      refine .foldl (fun v r => ?_) _
      split
      · exact latchAoa_sameLinks r v
      · exact .refl v
    exact ((latchSta_sameLinks w).trans hu).trans (withTask_sameLinks ..)
  obtain ⟨u, hu, hk⟩ := latchLinks_moves s
  have h := hk.trans hv
  have hl (l : Nat) : v.link l = u.link l := congrArg (Tab.get · l) h.link
  exact .of_eq he ⟨fun l h16 => hl l ▸ hu.done l h16, congrArg LinkTx.secMark h.tx, h.time.trans hu.radio.time,
    h.flash.trans hu.radio.flash⟩

/-! ### Frames sent -/

/-- A control word with each value cut to its field (Table 5-4). -/
def CtlWord.wrapped (w : CtlWord) : CtlWord := { w with
  verMax := w.verMax % 2 ^ 2, verActive := w.verActive % 2 ^ 2, fnum := w.fnum % 2 ^ 10, offset := w.offset % 2 ^ 9
  fmt := w.fmt % 2 ^ 2, srate := w.srate % 2 ^ 2, slotAlarm := w.slotAlarm % 2 ^ 9, ccLen := w.ccLen % 2 ^ 3
  ccData := w.ccData % 2 ^ 64, mf := w.mf % 2 ^ 24 }

/-- Any control word reads back as its values cut to their fields. -/
theorem CtlWord.decode_encode_wrapped (w : CtlWord) : decode w.encode = w.wrapped := by
  have he : w.wrapped.encode = w.encode := by simp only [encode, wrapped, Nat.mod_mod]
  rw [← he]
  exact decode_encode (by constructor <;> exact Nat.mod_lt _ (by decide))

theorem State.ctlWord_fnum (s : State) (l o : Nat) : (s.ctlWord l o).fnum = s.radio.tx.f := by
  unfold State.ctlWord
  dsimp only
  split <;> split <;> rfl

theorem State.ctlWord_rdi (s : State) (l o : Nat) : (s.ctlWord l o).rdi = ((s.link l).st != .sync) := by
  unfold State.ctlWord
  dsimp only
  split <;> split <;> rfl

theorem LinkTx.advance_f (x : LinkTx) : x.advance.f = (x.f + 1) % 1000 := by
  unfold LinkTx.advance
  dsimp only
  split
  next h => exact h.symm
  next => rfl

theorem LinkTx.advance_mf (x : LinkTx) : x.advance.mf = if (x.f + 1) % 1000 = 0 then (x.mf + 1) % 2 ^ 24 else x.mf := by
  unfold LinkTx.advance
  exact apply_ite LinkTx.mf _ _ _

theorem State.lt_of_achAt {i c : Nat} (h : s.achAt l i = some c) : c < 128 :=
  List.mem_range.mp (List.mem_of_find?_eq_some (p := fun c => s.mapped c == some (l, i)) h)

/-- Counting items of one group leaves the values in force of another. -/
theorem parN_bumpBy {p q : ParamDef} {i j : Nat} (h : p.group ≠ q.group) (hi : i < 2 ^ 16) (hj : j < 2 ^ 16) (k : Nat) (s : State) :
    (bumpBy p i k s).parN q j = s.parN q j :=
  congrArg (fun c : Int => (((s.cfg.old.get (parKey q.id j)).getD c).toNat)) (com_setPar_group h hi hj _ s)

/-- `KeepsLinks`, and the links in use stay in use. -/
structure KeepsUse (s t : State) : Prop extends KeepsLinks s t where
  enable : ∀ l, l < 16 → t.parN Prm.linkEnable l = s.parN Prm.linkEnable l

/-- A link that sends a control word, and the control-channel bytes in it. -/
def Link.frames (w : Nat) (k : Link) : Link := { k with txWord := w, ccBuf := (takeCc k.ccBuf).2 }

/-- A link in use sends the control word of its state, and its channels' blocks (R124, R128). -/
theorem sendLinkFrame_sends (h : s.parN Prm.linkEnable l ≠ 0) (o : Nat) (blocks : List (Nat × List (List Int))) :
    KeepsUse (updLink l (.frames (s.ctlWord l o).encode) s) (sendLinkFrame l o blocks [] s) := by
  unfold sendLinkFrame
  rw [if_neg h]
  extract_lets +onlyGivenNames w lay u
  have h0 : KeepsUse u u := ⟨.refl u, fun _ _ => rfl⟩
  change KeepsUse u _
  clear_value lay u
  split
  · exact h0
  · refine List.foldlRecOn _ _ h0 fun v hv i _ => ?_
    split
    · exact hv
    next c hc =>
      extract_lets given gone r
      have hg : Prm.achSatSamples.group ≠ Prm.linkEnable.group := by decide
      have hlt : c < 2 ^ 16 := (State.lt_of_achAt hc).trans (by decide)
      refine ⟨(hv.updAch c fun a => { a with tx := r.1 }).report (bumpBy_mail ..) (bumpBy_samePages ..), fun k hk => ?_⟩
      exact (parN_bumpBy hg hlt (hk.trans (by decide)) r.2 _).trans (hv.enable k hk)

/-- `k` is link `l` of `s` once the links have sent frame `f`: its state stays, a link in use has sent the frame's control word,
and one that is not stays as it was (R128, Table 5-4). -/
structure Framed (s : State) (f l : Nat) (k : Link) : Prop where
  st : k.st = (s.link l).st
  word : s.parN Prm.linkEnable l ≠ 0 → (CtlWord.decode k.txWord).fnum = f ∧
    (CtlWord.decode k.txWord).rdi = decide ((s.link l).st ≠ .sync)
  unused : s.parN Prm.linkEnable l = 0 → k = s.link l

theorem Framed.frames {f o : Nat} {v : State} (hf : f < 1024) (ht : v.radio.tx.f = f) (hk : v.link l = s.link l)
    (h : s.parN Prm.linkEnable l ≠ 0) : Framed s f l ((v.link l).frames (v.ctlWord l o).encode) where
  st := by rw [hk]; rfl
  word _ := by
    simp only [Link.frames, CtlWord.decode_encode_wrapped, CtlWord.wrapped, State.ctlWord_fnum, State.ctlWord_rdi, ht, hk]
    refine ⟨Nat.mod_eq_of_lt hf, ?_⟩
    rw [bne, decide_not]
    rfl
  unused h0 := absurd h0 h

/-- The shared counter has stepped to the next frame (R128). -/
def State.nextFrame (s : State) : State := { s with radio := { s.radio with tx := s.radio.tx.advance } }

theorem State.nextFrame_f_lt (s : State) : s.nextFrame.radio.tx.f < 1024 := by
  have h : s.nextFrame.radio.tx.f = (s.radio.tx.f + 1) % 1000 := LinkTx.advance_f _
  omega

/-- What the turns of the links keep while a frame is sent: the lanes, the shared counter, and which links are in use. -/
structure SameUse (s v : State) : Prop where
  lane : v.radio.lane = s.radio.lane
  tx : v.radio.tx = s.radio.tx
  enable : ∀ l, l < 16 → v.parN Prm.linkEnable l = s.parN Prm.linkEnable l

/-- A link's turn in a frame (R128). -/
theorem sendLinkFrame_turn {v : State} (hf : s.radio.tx.f < 1024) (hl : l < 16) (hv : SameUse s v) (hk : v.link l = s.link l) (o : Nat)
    (blocks : List (Nat × List (List Int))) : SameUse s (sendLinkFrame l o blocks [] v) ∧
      ∃ x, Framed s s.radio.tx.f l x ∧ LinkBecomes l x v (sendLinkFrame l o blocks [] v) := by
  by_cases h : s.parN Prm.linkEnable l = 0
  · have e : sendLinkFrame l o blocks [] v = v := if_pos ((hv.enable l hl).trans h)
    rw [e]
    exact ⟨hv, _, ⟨congrArg Link.st hk, fun h' => absurd h h', fun _ => hk⟩, .refl l v⟩
  · have k := sendLinkFrame_sends (fun h' => h ((hv.enable l hl).symm.trans h')) o blocks
    refine ⟨⟨k.lane.trans hv.lane, k.tx.trans hv.tx, fun j hj => (k.enable j hj).trans (hv.enable j hj)⟩, _,
      .frames hf (by rw [hv.tx]) hk h, ((LinkBecomes.refl l v).updLink _).keeps k.toKeepsLinks⟩

/-- The device starts a frame of every link (R128). -/
theorem linkFrameTx_sends (s : State) (offsets : List Nat) (blocks : List (Nat × List (List Int))) :
    Answers (.linkFrameTx offsets blocks []) s fun t => SameUse s.nextFrame t ∧
      LinksBecome (Framed s.nextFrame s.nextFrame.radio.tx.f) 16 s.nextFrame t := by
  have e : exec (.linkFrameTx offsets blocks []) s =
      .next ((List.range 16).foldl (fun v l => sendLinkFrame l (offsets.getD l 0) blocks [] v) s.nextFrame) := rfl
  refine .of_eq e (LinksBecome.foldl ⟨rfl, rfl, fun _ _ => rfl⟩ fun l v hl hv hk => ?_)
  exact sendLinkFrame_turn s.nextFrame_f_lt hl hv hk _ blocks

/-- Settles O24: each clause is the command's lemma above; `LinkBecomes` gives the one link that a received frame or a persistence
time changes, `LinksBecome` the links that a sent frame changes. -/
theorem linksSynchroniseAndShareFrames : Obligations.LinksSynchroniseAndShareFrames := by
  unfold Obligations.LinksSynchroniseAndShareFrames
  refine ⟨fun s l hl => ⟨fun errs raw nbits bad cdc slip hf hn => ⟨?_, ?_, ?_⟩, ?_, ?_, ?_, ?_, ?_⟩, fun s offsets blocks => ?_⟩
  · rintro hst rfl hc
    have h := (LinkBecomes.refl l s).updLink (.firstHit (.decode (frameWord nbits raw)))
    exact .of_eq (linkFrameRx_hunt hl hf hn hst hc) ⟨by rw [h.link]; rfl, by rw [h.link]; rfl, by rw [h.link]; rfl, rfl, h.radio⟩
  · refine fun hst hh he hc => (linkFrameRx_third hl hf hn hst hh he hc).imp fun t ⟨x, h⟩ =>
      ⟨by rw [h.link]; rfl, by rw [h.link]; rfl, by rw [h.link]; rfl, by rw [h.link]; rfl, ?_, h.radio⟩
    rw [h.link, Link.synchronises, testBit_setBit, if_pos rfl]
  · rintro hst hk hy hy' hc rfl
    exact (linkFrameRx_crcFails hl hf hst hk hy hy' hc).imp fun t ⟨x, h⟩ => ⟨by rw [h.link]; rfl, h.radio⟩
  · refine fun hu => (losPersists_declares hl hu).imp fun t h => ⟨?_, ?_, h.radio⟩
    · rw [h.link, testBit_setBit, if_pos rfl]
    · rw [h.link, testBit_setBit, if_neg (by decide), testBit_setBit, if_pos rfl]
  · exact fun hu => (losClears hl hu).imp fun t h => by rw [h.link, testBit_setBit, if_pos rfl]
  · exact fun hu hst => (lofPersists_declares hl hu hst).imp fun t h => by rw [h.link, testBit_setBit, if_pos rfl]
  · exact fun hst => (lofClears hl hst).imp fun t h => by rw [h.link, testBit_setBit, if_pos rfl]
  · exact fun hp => (linkSecondLatch_moves hp).imp fun t ⟨hk, h⟩ => ⟨(hk l hl).1, (hk l hl).2, h⟩
  · refine (linkFrameTx_sends s offsets blocks).imp fun t ⟨hu, hk⟩ => ?_
    have hf : s.nextFrame.radio.tx.f = (s.radio.tx.f + 1) % 1000 := LinkTx.advance_f _
    refine ⟨by rw [hu.tx, hf], by rw [hu.tx]; exact LinkTx.advance_mf _, hk.radio, fun n => ?_, fun l h => ?_⟩
    · rw [State.lane, hu.lane]
      rfl
    · have k := hk.done l h
      exact ⟨k.st, fun he => hf ▸ k.word he, k.unused⟩

end Sys2Proof.Machine
end

section
/-! ## Entries of the radio's tables -/
namespace Sys2Proof.Machine

variable {α : Type} [Inhabited α] {tab : Radio → Tab α} {n c r : Nat} {x : α} {s t u : State}

/-- From `s` to `t` only the radio changes, besides what reporting touches; of the radio's table `tab`, entry `n` alone changes
and is `x` afterwards. -/
structure EntryBecomes (tab : Radio → Tab α) (n : Nat) (x : α) (s t : State) : Prop where
  radio : Mail { s with radio := t.radio } t
  entry : (tab t.radio).get n = x
  others : ∀ k, k ≠ n → (tab t.radio).get k = (tab s.radio).get k

namespace EntryBecomes

theorem refl (tab : Radio → Tab α) (n : Nat) (s : State) : EntryBecomes tab n ((tab s.radio).get n) s s :=
  ⟨.refl s, rfl, fun _ _ => rfl⟩

/-- A change of the radio that leaves the table. -/
theorem keeps (h : EntryBecomes tab n x s t) (k : Mail { t with radio := u.radio } u) (e : tab u.radio = tab t.radio) :
    EntryBecomes tab n x s u :=
  ⟨h.radio.trans_radio k, by rw [e, h.entry], fun j hj => by rw [e, h.others j hj]⟩

theorem mail (h : EntryBecomes tab n x s t) (k : Mail t u) : EntryBecomes tab n x s u :=
  h.keeps { k with radio := rfl } (by rw [k.radio])

theorem ite {p : Prop} [Decidable p] {v w : State} (hv : EntryBecomes tab n x s v) (hw : EntryBecomes tab n x s w) :
    EntryBecomes tab n x s (if p then v else w) := by
  split
  · exact hv
  · exact hw

theorem upd [DecidableEq α] (h : EntryBecomes tab n x s t) (f : α → α) (k : Mail { t with radio := u.radio } u)
    (e : tab u.radio = (tab t.radio).upd n f) : EntryBecomes tab n (f x) s u :=
  ⟨h.radio.trans_radio k, by rw [e, Tab.get_upd_same, h.entry],
    fun j hj => by rw [e, Tab.get_upd_ne _ _ _ _ hj.symm, h.others j hj]⟩

theorem updAch {x : Ach} (h : EntryBecomes Radio.ach c x s t) (f : Ach → Ach) : EntryBecomes Radio.ach c (f x) s (updAch c f t) :=
  h.upd f (.refl _) rfl

theorem updCal {x : Cal} (h : EntryBecomes Radio.cal r x s t) (f : Cal → Cal) : EntryBecomes Radio.cal r (f x) s (updCal r f t) :=
  h.upd f (.refl _) rfl

theorem updFeed {x : Feed} (h : EntryBecomes Radio.feed n x s t) (f : Feed → Feed) :
    EntryBecomes Radio.feed n (f x) s (updFeed n f t) :=
  h.upd f (.refl _) rfl

theorem ach {x : Ach} (h : EntryBecomes Radio.ach c x s t) : t.ach c = x := h.entry

theorem cal {x : Cal} (h : EntryBecomes Radio.cal r x s t) : t.cal r = x := h.entry

theorem feed {x : Feed} (h : EntryBecomes Radio.feed n x s t) : t.feed n = x := h.entry

end EntryBecomes
end Sys2Proof.Machine
end

section
/-! ## Antenna channels -/
namespace Sys2Proof.Machine

variable {s t : State} {c : Nat} {x : Ach}

/-! ### Changes of one channel -/

/-- A channel whose state changes: its runs restart. -/
def Ach.moved (a : Ach) (st : AchSt) : Ach := { a with st := st, presentRun := false, absentRun := false }

/-- A channel that is put in a state, in which it may stand already. -/
def Ach.enter (a : Ach) (st : AchSt) : Ach := if a.st = st then a else a.moved st

@[simp] theorem Ach.enter_st (a : Ach) (st : AchSt) : (a.enter st).st = st := by
  unfold Ach.enter
  split
  next h => exact h
  next => rfl

@[simp] theorem Ach.enter_calibrated (a : Ach) (st : AchSt) : (a.enter st).calibrated = a.calibrated := by
  unfold Ach.enter
  split <;> rfl

/-- A channel whose front end has failed: in FAULT unless it is OFF (R165). -/
def Ach.faulted (a : Ach) : Ach := if a.st = .off then a else a.enter .fault

theorem Ach.faulted_st (a : Ach) : a.faulted.st = if a.st = .off then .off else .fault := by
  unfold Ach.faulted
  split
  next h => exact h
  next => exact Ach.enter_st ..

theorem EntryBecomes.setAch (h : EntryBecomes Radio.ach c x s t) (st : AchSt) :
    EntryBecomes Radio.ach c (x.enter st) s (setAch c st t) := by
  have hx : (t.ach c).st = x.st := congrArg Ach.st h.entry
  unfold Machine.setAch Ach.enter
  rw [hx]
  extract_lets old u r v
  split
  next => exact h
  next =>
    have hu : EntryBecomes Radio.ach c (x.moved st) s u := h.updAch (·.moved st)
    have hv : EntryBecomes Radio.ach c (x.moved st) s v := .ite (hu.keeps (.refl _) rfl) hu
    exact hv.mail (raise_mail ..)

/-- Only a channel that enters CALIBRATING asks for a pass (R170). -/
theorem setAch_cal {st : AchSt} (h : st ≠ .calibrating) (c : Nat) (s : State) : (setAch c st s).radio.cal = s.radio.cal := by
  unfold setAch
  dsimp only
  split
  · rfl
  · rw [raise_radio, if_neg (fun e => h e.1)]
    rfl

/-! ### Gain and attenuation -/

/-- Sending a message changes its link alone. -/
theorem ccSend_eq (l typ : Nat) (b : List Byte) (s : State) :
    ∃ k, ccSend l typ b s = { s with radio := { s.radio with link := k } } := by
  unfold ccSend
  dsimp only
  split <;> exact ⟨_, rfl⟩

/-- A channel whose request for a gain waits for its multiframe (R158). -/
def Ach.asks (a : Ach) (q : Retune) : Ach := { a with gain := some q }

theorem sendGain_asks {l i : Nat} {k : HeadCaps} (hm : s.mapped c = some (l, i)) (hk : (s.link l).caps = some k) (g : Int) :
    (sendGain c g s).evt = s.evt ∧
      EntryBecomes Radio.ach c ((s.ach c).asks { value := k.clampGain g, eff := s.effective }) s (sendGain c g s) := by
  have h := (EntryBecomes.refl Radio.ach c s).updAch fun a => a.asks { value := k.clampGain g, eff := s.effective }
  obtain ⟨b, e⟩ : ∃ b, sendGain c g s =
      ccSend l 0x10 b (updAch c (fun a => a.asks { value := k.clampGain g, eff := s.effective }) s) := by
    simp only [sendGain, State.transceiver, hm, hk]
    exact ⟨_, rfl⟩
  obtain ⟨j, e'⟩ := ccSend_eq l 0x10 b (updAch c (fun a => a.asks { value := k.clampGain g, eff := s.effective }) s)
  rw [e, e']
  exact ⟨rfl, h.keeps (.refl _) rfl⟩

/-- Fixed mode sends the committed gain where another is in force (R159). -/
theorem gainControlTick_fixed {l i : Nat} {k : HeadCaps} (hc : c < 128) (hst : (s.ach c).st ≠ .off) (hg : (s.ach c).gain = none)
    (hmode : s.parN Prm.achRxGainMode c = 0) (hm : s.mapped c = some (l, i)) (hk : (s.link l).caps = some k)
    (hne : k.clampGain (s.par Prm.achRxGain c) ≠ (s.ach c).gainNow) (level : Nat) :
    Answers (.gainControlTick c level) s fun t => t.evt = s.evt ∧
      EntryBecomes Radio.ach c ((s.ach c).asks { value := k.clampGain (s.par Prm.achRxGain c), eff := s.effective }) s t := by
  have e : exec (.gainControlTick c level) s = .next (sendGain c (s.par Prm.achRxGain c) s) := by
    change execGainControlTick c level s = _
    simp [execGainControlTick, Nat.not_le.mpr hc, hst, hg, hmode, State.transceiver, hm, hk, hne]
  exact .of_eq e (sendGain_asks hm hk _)

theorem gainAckDeadline_absent {q : Retune} (hq : (s.ach c).gain = some q) (ha : q.acked = false) :
    Answers (.gainAckDeadline c 0x10) s fun t =>
      EntryBecomes Radio.ach c { s.ach c with gain := none, gainAbsent := true } s t := by
  have e : exec (.gainAckDeadline c 0x10) s = .next (raise Ev.achGainFault c (detail [(0, 1, 0x10)])
      (updAch c (fun a => { a with gainAbsent := true }) (updAch c (fun a => { a with gain := none }) s))) := by
    change execGainAckDeadline c 0x10 s = _
    simp [execGainAckDeadline, hq, ha]
  have h := (EntryBecomes.refl Radio.ach c s).updAch fun a => { a with gain := none }
  exact .of_eq e ((h.updAch fun a => { a with gainAbsent := true }).mail (raise_mail ..))

theorem gainEffective_gain {q : Retune} (hq : (s.ach c).gain = some q) (ha : q.acked = true) :
    Answers (.gainEffective c 0x10) s fun t => t.evt = s.evt ∧
      EntryBecomes Radio.ach c { s.ach c with gainNow := q.value, gain := none } s t := by
  have e : exec (.gainEffective c 0x10) s = .next (updAch c (fun a => { a with gainNow := q.value, gain := none }) s) := by
    change execGainEffective c 0x10 s = _
    simp [execGainEffective, hq, ha]
  exact .of_eq e ⟨rfl, (EntryBecomes.refl Radio.ach c s).updAch fun a => { a with gainNow := q.value, gain := none }⟩

theorem gainEffective_atten {q : Retune} (hq : (s.ach c).atten = some q) (ha : q.acked = true) :
    Answers (.gainEffective c 0x12) s fun t => t.evt = s.evt ∧
      EntryBecomes Radio.ach c { s.ach c with attenNow := q.value, atten := none } s t := by
  have e : exec (.gainEffective c 0x12) s = .next (updAch c (fun a => { a with attenNow := q.value, atten := none }) s) := by
    change execGainEffective c 0x12 s = _
    simp [execGainEffective, hq, ha]
  exact .of_eq e ⟨rfl, (EntryBecomes.refl Radio.ach c s).updAch fun a => { a with attenNow := q.value, atten := none }⟩

/-! ### Absent blocks and front-end faults -/

theorem achAbsentTimeout_absent (hst : (s.ach c).st = .active) (ha : (s.ach c).absentRun = true) :
    Answers (.achAbsentTimeout c) s fun t => EntryBecomes Radio.ach c ((s.ach c).enter .absent) s t :=
  .of_pos rfl ⟨hst, ha⟩ ((EntryBecomes.refl Radio.ach c s).setAch .absent)

/-- A front end that is not being recast is put in FAULT unless it is OFF, counted, and its fault admitted (R165, Table 6-5). -/
theorem frontendFault_recasts (hc : c < 128) (hr : s.recastHolds ⟨0, 6, c⟩ = false) (cause : Nat) : ∃ v x,
    frontendFault c cause s = admitFault ⟨0, 6, c⟩ cause v ∧ EntryBecomes Radio.ach c x s v ∧
    x.st = (if (s.ach c).st = .off then .off else .fault) ∧ x.calibrated = false := by
  unfold frontendFault
  rw [if_neg (Nat.not_le.mpr hc), if_neg (by simp [hr])]
  extract_lets off recent third u1 u2 u3
  have h0 : EntryBecomes Radio.ach c (s.ach c).faulted s (if off then s else setAch c .fault s) := by
    have hs : EntryBecomes Radio.ach c (s.ach c) s s := .refl ..
    unfold Ach.faulted off
    by_cases ho : (s.ach c).st = .off
    · simpa only [ho, decide_true, if_true] using hs
    · simpa only [ho, decide_false, Bool.false_eq_true, if_false] using hs.setAch .fault
  have h1 : EntryBecomes Radio.ach c _ s u1 := h0.updAch _
  have h2 : EntryBecomes Radio.ach c _ s u2 := h1.mail (bump_mail ..)
  have h3 : EntryBecomes Radio.ach c _ s u3 := .ite (h2.mail (raise_mail ..)) h2
  exact ⟨u3, _, rfl, h3, Ach.faulted_st _, rfl⟩

/-- With nothing being recast in RUN, a front-end fault starts the recast of its channel (R165, R503). -/
theorem achFrontendFault_recasts (hc : c < 128) (hp : s.power.st = .run) (hj : s.recast.jobs = []) (hh : s.recast.held = false)
    (cause : Nat) : Answers (.achFrontendFault c cause) s fun t => ∃ x,
      (x.st = (if (s.ach c).st = .off then .off else .fault) ∧ x.calibrated = false) ∧
      (∃ j ∈ t.recast.jobs, j.unit = ⟨0, 6, c⟩) ∧ EntryBecomes Radio.ach c x { s with recast := t.recast } t := by
  have hr (v : State) (hv : v.recast = s.recast) : v.recastHolds ⟨0, 6, c⟩ = false := by
    simp [State.recastHolds, hv, hj, hh]
  obtain ⟨v, x, e, h, hx⟩ := frontendFault_recasts hc (hr s rfl) (if cause = 1 then Cause.ecc else Cause.tracking)
  refine .of_eq (congrArg Host.Outcome.next e) ?_
  rw [admitFault_block (by rw [h.radio.power]; exact hp) (hr v h.radio.recast) rfl]
  generalize (if cause = 1 then Cause.ecc else Cause.tracking) = why
  have k := (startRecast_block (u := ⟨0, 6, c⟩) rfl why true v).2
  have hrad : (startRecast ⟨0, 6, c⟩ why true v).radio = v.radio := k.radio
  refine ⟨x, hx, ⟨{ unit := ⟨0, 6, c⟩, cause := why, st := .reset, full := true }, ?_, rfl⟩, ?_, by rw [hrad, h.entry],
    fun d hd => by rw [hrad]; exact h.others d hd⟩
  · rw [startRecast_recast]
    exact List.mem_append_right _ (List.mem_singleton.mpr rfl)
  · generalize startRecast ⟨0, 6, c⟩ why true v = w at k hrad ⊢
    exact Mail.trans (b := { v with recast := w.recast }) { h.radio with recast := rfl, radio := hrad.symm } k

/-- Settles O27: each clause is the command's lemma above, of which `EntryBecomes` gives the channel's new value and the frame. -/
theorem channelGainAndStates : Obligations.ChannelGainAndStates := by
  unfold Obligations.ChannelGainAndStates
  refine fun s c hc => ⟨fun level l i k hst hg hmode hm hk hne => ?_, fun q hq => ⟨fun ha => ?_, fun ha => ?_⟩, fun q hq ha => ?_,
    fun hst ha => ?_, fun cause hp hj hh => ?_⟩
  · exact (gainControlTick_fixed hc hst hg hmode hm hk hne level).imp fun t ⟨he, h⟩ =>
      ⟨by rw [h.ach]; rfl, by rw [h.ach]; rfl, he, h.others, h.radio⟩
  · exact (gainAckDeadline_absent hq ha).imp fun t h => ⟨by rw [h.ach], by rw [h.ach], h.others, h.radio⟩
  · exact (gainEffective_gain hq ha).imp fun t ⟨he, h⟩ => ⟨by rw [h.ach], by rw [h.ach], he, h.others, h.radio⟩
  · exact (gainEffective_atten hq ha).imp fun t ⟨he, h⟩ => ⟨by rw [h.ach], by rw [h.ach], he, h.others, h.radio⟩
  · exact (achAbsentTimeout_absent hst ha).imp fun t h =>
      ⟨by rw [h.ach, Ach.enter_st], by rw [h.ach, Ach.enter_calibrated], h.others, h.radio⟩
  · exact (achFrontendFault_recasts hc hp hj hh cause).imp fun t ⟨x, ⟨hst, hcal⟩, hjob, h⟩ =>
      ⟨by rw [h.ach, hst], by rw [h.ach, hcal], hjob, h.others, h.radio.dma, h.radio.eth, h.radio.time⟩

end Sys2Proof.Machine
end

section
/-! ## Calibration of a radio -/
namespace Sys2Proof.Machine

variable {s : State} {r c : Nat}

/-! ### Requests -/

theorem Cal.request_fullDue (k : Cal) (now : Nat) : (k.request now).fullDue = k.fullDue := by
  unfold Cal.request
  split <;> rfl

theorem Cal.request_pending (k : Cal) (now : Nat) : (k.request now).requested = true ∨ (k.request now).window = true := by
  unfold Cal.request
  split
  next h => exact (Bool.or_eq_true _ _).mp h
  next => exact .inl rfl

/-- The calibration period makes a full pass due (R170). -/
theorem calPeriodExpiry_due (hr : r < 3) (hp : s.parN Prm.achCalPeriodS r ≠ 0) (hm : s.parN Prm.achCalMode r = 0) :
    Answers (.calPeriodExpiry r) s fun t => t.radio.ach = s.radio.ach ∧ t.evt = s.evt ∧
      EntryBecomes Radio.cal r (Cal.request { s.cal r with fullDue := true } s.now) s t :=
  .of_pos rfl ⟨hr, hp, hm⟩
    ⟨rfl, rfl, (EntryBecomes.refl Radio.cal r s).updCal fun k => Cal.request { k with fullDue := true } s.now⟩

/-- A window that has not been granted in time goes ahead of all other traffic (R245). -/
theorem calDeferTimeout_urgent (hr : r < 3) (hq : (s.cal r).requested = true) (hu : (s.cal r).urgent = false) :
    Answers (.calDeferTimeout r) s fun t => t.radio.ach = s.radio.ach ∧
      EntryBecomes Radio.cal r { s.cal r with urgent := true } s t :=
  .of_pos rfl ⟨hr, hq, by simp [hu]⟩ ⟨by rw [raise_radio]; rfl,
    ((EntryBecomes.refl Radio.cal r s).updCal fun k => { k with urgent := true }).mail (raise_mail ..)⟩

/-! ### Windows -/

/-- The channels of a radio that take a turn in a full pass (R167). -/
def State.passTurns (s : State) (r : Nat) : List Nat :=
  pick 128 fun c => (s.achsIn r .calibrating).contains c || (s.achsIn r .active).contains c

theorem State.mem_achsIn {st : AchSt} : c ∈ s.achsIn r st ↔ c < 128 ∧ radioOfAch c = r ∧ (s.ach c).st = st := by
  simp [State.achsIn, pick]

theorem State.mem_passTurns :
    c ∈ s.passTurns r ↔ c < 128 ∧ radioOfAch c = r ∧ ((s.ach c).st = .calibrating ∨ (s.ach c).st = .active) := by
  simp only [State.passTurns, pick, List.mem_filter, List.mem_range, Bool.or_eq_true, List.contains_iff_mem, State.mem_achsIn]
  tauto

/-- A window opens, and begins a full pass (R166, R167, R170). -/
def Cal.opensFull (k : Cal) (turns : List Nat) (now : Nat) : Cal := { k with
  window := true, requested := false, urgent := false, inWindow := 0, openedAt := now
  pass := some true, fullDue := false, rejoinDue := false, done := [], dropped := [], turns := turns }

theorem openWindow_full (hp : (s.cal r).pass = none) (hf : (s.cal r).fullDue = true) (best : List Nat) :
    openWindow r best s = updCal r (fun _ => (s.cal r).opensFull (s.passTurns r) s.now) s := by
  simp only [openWindow, hp, hf, if_true]
  rfl

theorem foldl_sendControl_radio (kind : AirKind) (l : List Nat) (s : State) :
    (l.foldl (fun s k => sendControl k kind s) s).radio = s.radio :=
  List.foldlRecOn (motive := fun v : State => v.radio = s.radio) l _ rfl fun _ hv _ _ => hv

/-- What the MAC asks of a radio before it grants a window of `len` ns: it runs, and nothing of its own is on the air or begins
before the window's end (R244). -/
structure State.WindowFree (s : State) (r len : Nat) : Prop where
  runs : s.stopped (macUnit r) = false
  txop : (s.wradio r).txop = none
  round : (s.wradio r).round = none
  sp : (s.wradio r).sp = none
  air : (s.wradio r).txUntil ≤ s.now
  room : len ≤ s.toBreak r

/-- A granted window with a full pass due begins it (R166, R244). -/
theorem calWindowGrant_opens (hr : r < 3) (hq : (s.cal r).requested = true) (hw : (s.cal r).window = false)
    (hp : (s.cal r).pass = none) (hf : (s.cal r).fullDue = true) (h : s.WindowFree r (s.parN Prm.achCalWindowUs r * 1000))
    (best : List Nat) : Answers (.calWindowGrant r best) s fun t => ∃ v, v.radio = s.radio ∧
      EntryBecomes Radio.cal r ((s.cal r).opensFull (s.passTurns r) v.now) v t := by
  let v := (s.enabledSectors r).foldl (fun s k => sendControl k .ctsToSelf s) s
  have hv : v.radio = s.radio := foldl_sendControl_radio ..
  have hcal : v.cal r = s.cal r := by rw [State.cal, hv]; rfl
  have hturns : v.passTurns r = s.passTurns r := by simp only [State.passTurns, State.achsIn, State.ach, hv]
  refine .of_neg rfl ?_ ⟨v, hv, ?_⟩
  · simp [Nat.not_le.mpr hr, hq, hw, h.runs, h.txop, h.round, h.sp, Nat.not_lt.mpr h.air, Nat.not_lt.mpr h.room]
  · change EntryBecomes _ _ _ _ (openWindow r best v)
    rw [openWindow_full (by rw [hcal, hp]) (by rw [hcal, hf]), hcal, hturns]
    exact (EntryBecomes.refl Radio.cal r v).updCal fun _ => (s.cal r).opensFull (s.passTurns r) v.now

/-- Channel `c` takes its turn, and `rest` are still to take theirs (R166). -/
def Cal.turnOf (k : Cal) (c : Nat) (rest : List Nat) : Cal :=
  { k with turn := some c, turns := rest, done := k.done ++ [c], inWindow := k.inWindow + 1 }

/-- While other channels wait and the window has room, a turn leaves it open (R166). -/
theorem calTurn_next {d : Nat} {rest : List Nat} (hw : (s.cal r).window = true) (ht : (s.cal r).turns = c :: d :: rest)
    (hn : (s.cal r).inWindow + 1 < s.windowTurns r false) : Answers (.calTurn r) s fun t => t.evt = s.evt ∧
      EntryBecomes Radio.cal r ((s.cal r).turnOf c (d :: rest)) s t := by
  have e : exec (.calTurn r) s = .next (updCal r (fun _ => (s.cal r).turnOf c (d :: rest)) s) := by
    change execCalTurn r s = _
    simp [execCalTurn, hw, ht, Nat.not_le.mpr hn, Cal.turnOf]
  exact .of_eq e ⟨rfl, (EntryBecomes.refl Radio.cal r s).updCal fun _ => (s.cal r).turnOf c (d :: rest)⟩

/-! ### The end of a pass -/

theorem setBoth_mail (d : TableDef) (i k : Nat) (b : List Byte) (s : State) : Mail s (setBoth d i k b s) :=
  (setActive_mail d i k b s).trans (setStandby_mail d i k b _)

theorem writeCoef_mail (c g : Nat) (l : List Nat) (s : State) : Mail s (writeCoef c g l s) := by
  induction l generalizing g s with
  | nil => exact .refl s
  | cons v l ih => exact (Mail.ite (setBoth_mail ..) (.refl s)).trans (ih ..)

/-- The temperature of a channel's transceiver in its head's last report. -/
def State.achTemp (s : State) (c : Nat) : Option Int :=
  match s.source c with
  | some (l, slot) => (s.link l).temps[slot]?
  | none => none

/-- A channel that has calibrated with pre-correction `x` (R168). -/
def Ach.calibratedAt (a : Ach) (now : Nat) (temp : Option Int) (x : Nat) : Ach :=
  { a with calibrated := true, calAt := some now, calTemp := temp, pre := x }

/-- The coefficients of a channel take effect (R168, R169). -/
def calibrate (q : CalResult) (s : State) : State :=
  let (x, s) := drawBelow (2 ^ 64) s
  updAch q.chan (·.calibratedAt s.now (s.achTemp q.chan) x) (writeCoef q.chan 0 q.coef s)

/-- As `calibrate`, and a CALIBRATING channel is ACTIVE (R168). -/
def takeCoef (q : CalResult) (s : State) : State :=
  let s := calibrate q s
  if (s.ach q.chan).st = .calibrating then setAch q.chan .active s else s

/-- A radio whose pass and window are over. -/
def Cal.ended (k : Cal) : Cal := { k with pass := none, window := false, turn := none, done := [], dropped := [], inWindow := 0 }

/-- A radio at the end of a pass: one that has fallen due meanwhile asks for its window. -/
def Cal.endPass (now : Nat) (k : Cal) : Cal := if k.ended.fullDue || k.ended.rejoinDue then k.ended.request now else k.ended

theorem Cal.endPass_idle {k : Cal} (hf : k.fullDue = false) (hj : k.rejoinDue = false) (now : Nat) : k.endPass now = k.ended :=
  if_neg (by simp [Cal.ended, hf, hj])

/-- What changes on the radio where a channel's coefficients take effect is that channel's. -/
theorem calibrate_keeps (q : CalResult) (s : State) : (calibrate q s).radio.cal = s.radio.cal ∧
    (∀ d, d ≠ q.chan → (calibrate q s).ach d = s.ach d) ∧
    ((calibrate q s).ach q.chan).st = (s.ach q.chan).st ∧ ((calibrate q s).ach q.chan).calibrated = true := by
  unfold calibrate
  dsimp only
  have hv : (writeCoef q.chan 0 q.coef (drawBelow (2 ^ 64) s).2).radio = s.radio := (writeCoef_mail ..).radio
  generalize writeCoef q.chan 0 q.coef (drawBelow (2 ^ 64) s).2 = v at hv ⊢
  have hach (d : Nat) : v.ach d = s.ach d := by rw [State.ach, hv]; rfl
  refine ⟨?_, fun d hd => (updAch_ach_ne _ _ _ _ hd.symm).trans (hach d), ?_, ?_⟩
  · change v.radio.cal = _
    rw [hv]
  · rw [updAch_ach_same, hach]
    rfl
  · rw [updAch_ach_same]
    rfl

theorem takeCoef_active (q : CalResult) (h : (s.ach q.chan).st = .calibrating) :
    (takeCoef q s).radio.cal = s.radio.cal ∧ (∀ d, d ≠ q.chan → (takeCoef q s).ach d = s.ach d) ∧
      ((takeCoef q s).ach q.chan).st = .active ∧ ((takeCoef q s).ach q.chan).calibrated = true := by
  obtain ⟨hcal, hothers, hst, hdone⟩ := calibrate_keeps q s
  have e : takeCoef q s = setAch q.chan .active (calibrate q s) := if_pos (hst.trans h)
  have k : EntryBecomes Radio.ach q.chan (((calibrate q s).ach q.chan).enter .active) (calibrate q s) (takeCoef q s) :=
    e ▸ (EntryBecomes.refl ..).setAch .active
  refine ⟨?_, fun d hd => (k.others d hd).trans (hothers d hd), ?_, ?_⟩
  · rw [e, setAch_cal (by decide), hcal]
  · rw [k.ach, Ach.enter_st]
  · rw [k.ach, Ach.enter_calibrated, hdone]

/-- The quiet tail of a full pass in which one channel has calibrated, with no other pass due (R168). -/
theorem calPassEnd_ends {q : CalResult} (hw : (s.cal r).window = true) (ht : (s.cal r).turns = []) (hp : (s.cal r).pass = some true)
    (hd : (s.cal r).done = [q.chan]) (hdrop : (s.cal r).dropped = []) (hf : (s.cal r).fullDue = false)
    (hj : (s.cal r).rejoinDue = false) (hq : s.parN Prm.achCalMinPairs r ≤ q.pairs) (hst : (s.ach q.chan).st = .calibrating) :
    Answers (.calPassEnd r [q]) s fun t => EntryBecomes Radio.cal r (s.cal r).ended (takeCoef q s) t ∧
      t.radio.ach = (takeCoef q s).radio.ach := by
  obtain ⟨d, e⟩ : ∃ d, exec (.calPassEnd r [q]) s =
      .next (raise Ev.achCalDone r d (updCal r (.endPass (takeCoef q s).now) (takeCoef q s))) := by
    change ∃ d, execCalPassEnd r [q] s = _
    simp only [execCalPassEnd, hw, ht, hp, hd, hdrop, hq, List.isEmpty_nil, Bool.not_true, Bool.false_eq_true, or_self, if_false,
      Bool.or_true, List.filter_cons, List.filter_nil, if_true, List.map_cons, List.map_nil, List.find?_cons, beq_self_eq_true,
      Option.getD_some, List.any_nil, decide_true, List.foldl_cons, List.foldl_nil]
    exact ⟨_, rfl⟩
  have hcal : (takeCoef q s).radio.cal.get r = s.cal r := congrArg (Tab.get · r) (takeCoef_active q hst).1
  have k := (EntryBecomes.refl Radio.cal r (takeCoef q s)).updCal (.endPass (takeCoef q s).now)
  rw [hcal, Cal.endPass_idle hf hj] at k
  exact .of_eq e ⟨k.mail (raise_mail ..), by rw [raise_radio]; rfl⟩

/-- Settles O28: each clause is the command's lemma above, of which `EntryBecomes` gives the radio's calibration and the frame. -/
theorem calibrationRunsInWindows : Obligations.CalibrationRunsInWindows := by
  unfold Obligations.CalibrationRunsInWindows
  refine fun s r hr => ⟨fun hp hm => ?_, fun best hq hw hp hf h1 h2 h3 h4 h5 h6 => ?_, fun c d rest hw ht hn => ?_,
    fun c q hw ht hp hd hdrop hf hj hc hq hst => ?_, fun hq hu => ?_⟩
  · exact (calPeriodExpiry_due hr hp hm).imp fun t ⟨ha, he, h⟩ =>
      ⟨by rw [h.cal, Cal.request_fullDue], by rw [h.cal]; exact Cal.request_pending .., ha, he, h.others, h.radio⟩
  · refine (calWindowGrant_opens hr hq hw hp hf ⟨h1, h2, h3, h4, h5, h6⟩ best).imp fun t ⟨v, hv, h⟩ =>
      ⟨by rw [h.cal]; rfl, by rw [h.cal]; rfl, by rw [h.cal]; rfl, by rw [h.cal]; rfl, fun c => ?_, fun q hq => ?_⟩
    · rw [h.cal]
      exact State.mem_passTurns
    · exact (h.others q hq).trans (by rw [hv]; rfl)
  · exact (calTurn_next hw ht hn).imp fun t ⟨he, h⟩ =>
      ⟨by rw [h.cal]; rfl, by rw [h.cal]; rfl, by rw [h.cal]; rfl, by rw [h.cal]; rfl, by rw [h.cal]; exact hw, he, h.others, h.radio⟩
  · subst hc
    obtain ⟨-, hothers, hactive, hcalibrated⟩ := takeCoef_active q hst
    refine (calPassEnd_ends hw ht hp hd hdrop hf hj hq hst).imp fun t ⟨h, ha⟩ => ?_
    have hach (d : Nat) : t.ach d = (takeCoef q s).ach d := congrArg (Tab.get · d) ha
    exact ⟨by rw [hach, hactive], by rw [hach, hcalibrated], by rw [h.cal]; rfl, by rw [h.cal]; rfl, by rw [h.cal]; rfl,
      fun d hd => (hach d).trans (hothers d hd)⟩
  · exact (calDeferTimeout_urgent hr hq hu).imp fun t ⟨ha, h⟩ => ⟨by rw [h.cal], ha, h.others, h.radio⟩

end Sys2Proof.Machine
end

section
/-! ## Feeds -/
namespace Sys2Proof.Machine

variable {s t : State} {n b : Nat} {x : Feed} {st : FeedSt}

/-! ### What raising an event leaves of the parameters -/

theorem parN_of_cfg (h : t.cfg = s.cfg) (p : ParamDef) (j : Nat) : t.parN p j = s.parN p j := by
  simp only [State.parN, State.par, State.com, h]

theorem EvClass.num_lt (c : EvClass) : c.num < 2 ^ 16 := by
  cases c <;> decide

/-- The event rings count in the host's group. -/
theorem ringInsert_parN {p : ParamDef} {j : Nat} (hp : p.group ≠ 2) (hj : j < 2 ^ 16) (r : EvRec) (s : State) :
    (ringInsert r s).parN p j = s.parN p j := by
  have hc (c : EvClass) (v : State) : (bump Prm.hostEvtCoalesced c.num v).parN p j = v.parN p j :=
    parN_bumpBy (fun e => hp e.symm) c.num_lt hj 1 v
  have hl (c : EvClass) (v : State) : (bump Prm.hostEvtLost c.num v).parN p j = v.parN p j :=
    parN_bumpBy (fun e => hp e.symm) c.num_lt hj 1 v
  unfold ringInsert
  dsimp only
  split
  · exact hc ..
  · split
    · rfl
    · split
      · exact hl ..
      · exact hl ..

/-- The persistent log counts in the management's group. -/
theorem logInsert_parN {p : ParamDef} {j : Nat} (hp : p.group ≠ 0x16) (hj : j < 2 ^ 16) (r : EvRec) (s : State) :
    (logInsert r s).parN p j = s.parN p j := by
  unfold logInsert
  dsimp only
  split
  · rfl
  · split
    · rfl
    · split
      · rfl
      · exact parN_bumpBy (fun e => hp e.symm) (by decide) hj 1 _

/-- Raising an event changes no parameter but counters of the host's and the management's groups. -/
theorem raise_parN {p : ParamDef} {j : Nat} (hp : p.group ≠ 2) (hp' : p.group ≠ 0x16) (hj : j < 2 ^ 16) (e : EvDef) (i d : Nat)
    (s : State) : (raise e i d s).parN p j = s.parN p j := by
  unfold raise
  extract_lets r s1 s2
  have h1 : s1.parN p j = s.parN p j := (logInsert_parN hp' hj r _).trans (ringInsert_parN hp hj r s)
  have h2 : s2.cfg = s1.cfg := by
    unfold s2
    split <;> rfl
  exact (parN_of_cfg ((pump_cfg s2).trans h2) p j).trans h1

/-! ### Waking -/

theorem setPower_keeps (st : PState) (s : State) : Mail { s with power := (setPower st s).power } (setPower st s) ∧
    (setPower st s).power.st = st ∧ (setPower st s).power.lastCause = s.power.lastCause := by
  unfold setPower
  dsimp only
  split
  next h => exact ⟨.refl s, beq_iff_eq.mp h, rfl⟩
  next =>
    split
    · rw [raise_power]
      exact ⟨.trans (by constructor <;> rfl) (raise_mail ..), rfl, rfl⟩
    · rw [raise_power]
      exact ⟨.trans (by constructor <;> rfl) (raise_mail ..), rfl, rfl⟩

theorem startStage_keeps (k : Nat) (s : State) :
    Mail { s with power := (startStage k s).power, boot := (startStage k s).boot } (startStage k s) ∧
    (startStage k s).power.st = s.power.st ∧ (startStage k s).power.lastCause = s.power.lastCause := by
  unfold startStage
  dsimp only
  split_ifs <;> exact ⟨by constructor <;> rfl, rfl, rfl⟩

/-- A wake begins: the device is WAKING and knows the cause; only the power state, the boot record and what reporting touches
change (R513). -/
theorem startWake_keeps (b : Nat) (s : State) :
    Mail { s with power := (startWake (some b) s).power, boot := (startWake (some b) s).boot } (startWake (some b) s) ∧
    (startWake (some b) s).power.st = .waking ∧ (startWake (some b) s).power.lastCause = b := by
  unfold startWake startAttempt
  dsimp only
  generalize hp : Power.mk .. = p
  have hcause : p.lastCause = b := by rw [← hp]; rfl
  clear hp
  obtain ⟨hm, hst, hc⟩ := setPower_keeps .waking { s with power := p }
  generalize setPower .waking { s with power := p } = w at hm hst hc ⊢
  obtain ⟨hm', hst', hc'⟩ := startStage_keeps (w.power.nextStage 0) w
  generalize startStage (w.power.nextStage 0) w = u at hm' hst' hc' ⊢
  exact ⟨.trans (b := { w with power := u.power, boot := u.boot }) { hm with power := rfl, boot := rfl } hm', hst'.trans hst,
    (hc'.trans hc).trans hcause⟩

theorem wakeSource_mail (b : Nat) (s : State) :
    Mail { s with power := (wakeSource b s).power, boot := (wakeSource b s).boot } (wakeSource b s) := by
  unfold wakeSource
  dsimp only
  split_ifs
  · exact .refl s
  · exact .refl s
  · constructor <;> rfl
  · exact (startWake_keeps b s).1
  · exact .refl s

/-- A source that is not enabled wakes nothing, and a device in RUN is awake (R515). -/
theorem wakeSource_idle (h : s.wakeEnabled b = false ∨ s.power.st = .run) : wakeSource b s = s := by
  unfold wakeSource
  rcases h with h | h <;> simp [h]

theorem wakeSource_starts (hb : s.wakeEnabled b = true) (hs : s.power.st = .standby ∨ s.power.st = .sleep)
    (hr : s.power.retryFrom = none) : wakeSource b s = startWake (some b) s := by
  unfold wakeSource
  rcases hs with hs | hs <;> simp [hb, hs, hr]

/-! ### Changes of one feed -/

/-- A feed that moves to a state; one that is OFF has no retries. -/
def Feed.enter (f : Feed) (st : FeedSt) : Feed := { f with st := st, n := if st = .off then 0 else f.n }

/-- A feed whose current has been measured. -/
def Feed.carries (f : Feed) (ma : Nat) : Feed := { f with currentMa := ma }

/-- A feed whose current and voltage the ADC has sampled (R172). -/
def Feed.sampled (f : Feed) (ma : Nat) (mv : Int) : Feed := { f with currentMa := min 65535 ma, voltageMv := mv }

/-- A feed with one more retry. -/
def Feed.retries (f : Feed) : Feed := { f with n := f.n + 1 }

@[simp] theorem Feed.carries_st (f : Feed) (ma : Nat) : (f.carries ma).st = f.st := rfl
@[simp] theorem Feed.carries_n (f : Feed) (ma : Nat) : (f.carries ma).n = f.n := rfl
@[simp] theorem Feed.sampled_st (f : Feed) (ma : Nat) (mv : Int) : (f.sampled ma mv).st = f.st := rfl
@[simp] theorem Feed.retries_st (f : Feed) : f.retries.st = f.st := rfl

/-- Feed `n` alone changes and is `x` afterwards, and the wake sources that are enabled stay. -/
structure FeedBecomes (n : Nat) (x : Feed) (s t : State) : Prop extends EntryBecomes Radio.feed n x s t where
  sources : t.parN Prm.pwrWakeSources 0 = s.parN Prm.pwrWakeSources 0

namespace FeedBecomes

theorem refl (n : Nat) (s : State) : FeedBecomes n (s.feed n) s s := ⟨.refl .., rfl⟩

theorem updFeed (h : FeedBecomes n x s t) (f : Feed → Feed) : FeedBecomes n (f x) s (updFeed n f t) :=
  ⟨h.toEntryBecomes.updFeed f, h.sources⟩

theorem raise (h : FeedBecomes n x s t) (e : EvDef) (i d : Nat) : FeedBecomes n x s (raise e i d t) :=
  ⟨h.mail (raise_mail ..), (raise_parN (by decide) (by decide) (by decide) ..).trans h.sources⟩

theorem bump {p : ParamDef} {i : Nat} (h : FeedBecomes n x s t) (hp : p.group ≠ 0x17) (hi : i < 2 ^ 16) :
    FeedBecomes n x s (bump p i t) :=
  ⟨h.mail (bump_mail ..), (parN_bumpBy hp hi (by decide) 1 t).trans h.sources⟩

/-- The change of a channel leaves the feeds. -/
theorem updAch (h : FeedBecomes n x s t) (c : Nat) (f : Ach → Ach) : FeedBecomes n x s (updAch c f t) :=
  ⟨h.keeps (.refl _) rfl, h.sources⟩

theorem ite {p : Prop} [Decidable p] {v w : State} (hv : FeedBecomes n x s v) (hw : FeedBecomes n x s w) :
    FeedBecomes n x s (if p then v else w) := by
  split
  · exact hv
  · exact hw

theorem setAch (h : FeedBecomes n x s t) (c : Nat) (st : AchSt) : FeedBecomes n x s (setAch c st t) := by
  unfold Machine.setAch
  extract_lets old u r v
  have hu : FeedBecomes n x s u := h.updAch c (·.moved st)
  have hv : FeedBecomes n x s v := .ite ⟨hu.keeps (.refl _) rfl, hu.sources⟩ hu
  exact .ite h (hv.raise ..)

theorem feedLost (h : FeedBecomes n x s t) (k : Nat) : FeedBecomes n x s (feedLost k t) := by
  unfold Machine.feedLost
  refine List.foldlRecOn _ _ h fun v hv c _ => ?_
  have hu := hv.updAch c fun a => { a with calibrated := false }
  dsimp only
  split
  · exact hu.setAch ..
  · exact hu.setAch ..
  · exact hu

/-- A feed moves, its event is raised and its channels follow; one of the wake states is then a wake source (R175, R515). -/
theorem setFeed_eq (h : FeedBecomes n x s t) (hx : x.st ≠ st) : ∃ v, FeedBecomes n (x.enter st) s v ∧
    setFeed n st t = if st.wakes then wakeSource 2 v else v := by
  have hold : (t.feed n).st = x.st := congrArg Feed.st h.feed
  unfold Machine.setFeed
  extract_lets old u f v w
  have hu : FeedBecomes n (x.enter st) s u := h.updFeed (·.enter st)
  have hv : FeedBecomes n (x.enter st) s v := by
    unfold v
    split <;> exact hu.raise ..
  exact ⟨w, .ite (hv.feedLost n) hv, if_neg (hold ▸ hx)⟩

/-- Between states that are no wake source a feed moves alone. -/
theorem setFeed (h : FeedBecomes n x s t) (hx : x.st ≠ st) (hw : st.wakes = false) : FeedBecomes n (x.enter st) s (setFeed n st t) := by
  obtain ⟨v, hv, e⟩ := h.setFeed_eq hx
  rw [e, hw]
  exact hv

end FeedBecomes

/-- Feed `n` alone changes, is `x` afterwards, and wakes the device from STANDBY or SLEEP where its source is enabled (R515). -/
structure FeedWakes (n : Nat) (x : Feed) (s t : State) : Prop where
  feed : t.feed n = x
  others : ∀ k, k ≠ n → t.feed k = s.feed k
  rest : Mail { s with radio := t.radio, power := t.power, boot := t.boot } t
  awake : s.wakeEnabled 2 = false ∨ s.power.st = .run → t.power = s.power ∧ t.boot = s.boot
  wakes : s.wakeEnabled 2 = true → s.power.st = .standby ∨ s.power.st = .sleep → s.power.retryFrom = none →
    t.power.st = .waking ∧ t.power.lastCause = 2

theorem FeedBecomes.wakeSource (h : FeedBecomes n x s t) : FeedWakes n x s (wakeSource 2 t) := by
  have hm := wakeSource_mail 2 t
  have hb : t.wakeEnabled 2 = s.wakeEnabled 2 := by rw [State.wakeEnabled, h.sources]; rfl
  have hp : t.power = s.power := h.radio.power
  have hr : (Machine.wakeSource 2 t).radio = t.radio := hm.radio
  refine ⟨by rw [State.feed, hr, h.entry], fun k hk => ?_, ?_, fun hi => ?_, fun he hst hf => ?_⟩
  · rw [State.feed, hr]
    exact h.others k hk
  · generalize Machine.wakeSource 2 t = u at hm hr ⊢
    exact Mail.trans (b := { t with power := u.power, boot := u.boot }) { h.radio with radio := hr.symm, power := rfl, boot := rfl } hm
  · rw [wakeSource_idle (by rwa [hb, hp])]
    exact ⟨hp, h.radio.boot⟩
  · rw [wakeSource_starts (by rw [hb, he]) (by rwa [hp]) (by rw [hp, hf])]
    exact (startWake_keeps 2 t).2

theorem FeedBecomes.setFeed_wakes (h : FeedBecomes n x s t) (hx : x.st ≠ st) (hw : st.wakes = true) :
    FeedWakes n (x.enter st) s (Machine.setFeed n st t) := by
  obtain ⟨v, hv, e⟩ := h.setFeed_eq hx
  rw [e, if_pos hw]
  exact hv.wakeSource

theorem FeedWakes.updFeed (h : FeedWakes n x s t) (f : Feed → Feed) : FeedWakes n (f x) s (updFeed n f t) where
  feed := by rw [updFeed_feed_same, h.feed]
  others k hk := (updFeed_feed_ne n k f t hk.symm).trans (h.others k hk)
  rest := { h.rest with radio := rfl }
  awake := h.awake
  wakes := h.wakes

/-! ### The commands of a feed -/

theorem feedCheckEnd_inrush (h : (s.feed n).st = .check) :
    Answers (.feedCheckEnd n) s fun t => FeedBecomes n ((s.feed n).enter .inrush) s t :=
  .of_pos rfl h ((FeedBecomes.refl n s).setFeed (by simp [h]) rfl)

theorem feedBackoffEnd_check (h : (s.feed n).st = .shortWait) :
    Answers (.feedBackoffEnd n) s fun t => FeedBecomes n ((s.feed n).enter .check) s t :=
  .of_pos rfl h ((FeedBecomes.refl n s).setFeed (by simp [h]) rfl)

theorem feedReversedClear_check (h : (s.feed n).st = .reversed) :
    Answers (.feedReversedClear n) s fun t => FeedBecomes n ((s.feed n).enter .check) s t :=
  .of_pos rfl h ((FeedBecomes.refl n s).setFeed (by simp [h]) rfl)

theorem feedRetryReset_clears (h : (s.feed n).st = .on) : Answers (.feedRetryReset n) s fun t => t.evt = s.evt ∧ t.cfg = s.cfg ∧
    FeedBecomes n { s.feed n with n := 0 } s t :=
  .of_pos rfl h ⟨rfl, rfl, (FeedBecomes.refl n s).updFeed fun f => { f with n := 0 }⟩

/-- After its inrush a feed is ON or OPEN by its current (Table 6-8). -/
theorem feedInrushEnd_moves (h : (s.feed n).st = .inrush) (ma : Nat) : Answers (.feedInrushEnd n ma) s fun t =>
    FeedBecomes n (((s.feed n).carries ma).enter (if s.parN Prm.achFeedIminMa n ≤ ma then .on else .opened)) s t := by
  have hu := (FeedBecomes.refl n s).updFeed (·.carries ma)
  refine .of_pos rfl h ?_
  split
  · exact hu.setFeed (by simp [h]) rfl
  · exact hu.setFeed (by simp [h]) rfl

/-- A mean current below the minimum opens a feed that is ON (Table 6-8). -/
theorem feedAdcSample_opens (hn : n < 16) (h : (s.feed n).st = .on) {mean : Nat} (hm : mean < s.parN Prm.achFeedIminMa n) (isns : Nat)
    (vsns : Int) : Answers (.feedAdcSample n isns vsns mean) s fun t => FeedBecomes n
      (((s.feed n).sampled (isns * s.parN Prm.achFeedIsnsGain n / 1000) (vsns * s.par Prm.achFeedVsnsRatio n)).enter .opened) s t := by
  refine .of_neg rfl (Nat.not_le.mpr hn) ?_
  extract_lets w imin
  have hw : FeedBecomes n ((s.feed n).sampled (isns * s.parN Prm.achFeedIsnsGain n / 1000) (vsns * s.par Prm.achFeedVsnsRatio n)) s w :=
    (FeedBecomes.refl n s).updFeed (·.sampled ..)
  rw [if_pos ⟨by rw [hw.feed]; exact h, hm⟩]
  exact hw.setFeed (by simp [h]) rfl

theorem FeedSt.ne_of_enabled_of_wakes {a : FeedSt} (ha : a.enabled = true) (hw : st.wakes = true) : a ≠ st := by
  rintro rfl
  cases a <;> simp [enabled, wakes] at ha hw

/-- A short counts a trip, and backs the feed off or locks it out at the retry limit (R173, R174). -/
theorem feedShort_trips (hn : n < 16) {ma : Nat} (he : (s.feed n).st.enabled = true) (hl : s.feedLimit n < ma) :
    Answers (.feedShort n ma) s fun t => if (s.feed n).n = s.parN Prm.achFeedRetryMax n
      then FeedWakes n (((s.feed n).carries ma).enter .lockout) s t
      else FeedWakes n (((s.feed n).carries ma).retries.enter .shortWait) s t := by
  refine .of_pos rfl ⟨he, hl⟩ ?_
  extract_lets u
  have hu : FeedBecomes n ((s.feed n).carries ma) s u :=
    ((FeedBecomes.refl n s).updFeed (·.carries ma)).bump (by decide) (by omega)
  have hmax : u.parN Prm.achFeedRetryMax n = s.parN Prm.achFeedRetryMax n := by
    have hcom : u.com Prm.achFeedRetryMax n = s.com Prm.achFeedRetryMax n := com_bumpBy_ne (by decide) n 1 _
    simp only [State.parN, State.par, hcom]
    rfl
  rw [hu.feed, Feed.carries_n, hmax]
  split_ifs
  · exact hu.setFeed_wakes (st := .lockout) (FeedSt.ne_of_enabled_of_wakes he rfl) rfl
  · exact (hu.updFeed Feed.retries).setFeed_wakes (st := .shortWait) (FeedSt.ne_of_enabled_of_wakes he rfl) rfl

/-- A reversed voltage shuts a feed off; its reported voltage stays (R173). -/
theorem feedReversed_reverses {mv : Int} (hm : mv < -100) (h : (s.feed n).st = .check ∨ (s.feed n).st.enabled = true) :
    Answers (.feedReversed n mv) s fun t => FeedWakes n ((s.feed n).enter .reversed) s t := by
  have hu := (FeedBecomes.refl n s).updFeed fun f => { f with voltageMv := mv }
  have hne : (s.feed n).st ≠ .reversed := by
    rcases h with h | h
    · simp [h]
    · exact FeedSt.ne_of_enabled_of_wakes h rfl
  exact .of_pos rfl ⟨hm, h⟩ ((hu.setFeed_wakes hne rfl).updFeed fun f => { f with voltageMv := (s.feed n).voltageMv })

/-- Settles O29: each clause is the command's lemma above; `FeedBecomes` and `FeedWakes` give the feed's new value and the frame. -/
theorem feedsFollowTheTable : Obligations.FeedsFollowTheTable := by
  unfold Obligations.FeedsFollowTheTable
  refine fun s n hn => ⟨fun h => ?_, fun ma h => ?_, fun ma he hl => ?_, fun h => ?_, fun mv hm h => ?_, fun h => ?_,
    fun isns mean vsns h hm => ?_, fun h => ?_⟩
  · exact (feedCheckEnd_inrush h).imp fun t k => ⟨by rw [k.feed]; rfl, by rw [k.feed]; rfl, k.others, k.radio⟩
  · exact (feedInrushEnd_moves h ma).imp fun t k => ⟨by rw [k.feed]; rfl, by rw [k.feed]; rfl, k.others, k.radio⟩
  · refine (feedShort_trips hn he hl).imp fun t k => ?_
    split at k
    next e => exact ⟨by rw [if_pos e, k.feed]; exact ⟨rfl, rfl⟩, k.others, k.rest, k.awake, k.wakes⟩
    next e => exact ⟨by rw [if_neg e, k.feed]; exact ⟨rfl, rfl⟩, k.others, k.rest, k.awake, k.wakes⟩
  · exact (feedBackoffEnd_check h).imp fun t k => ⟨by rw [k.feed]; rfl, by rw [k.feed]; rfl, k.others, k.radio⟩
  · exact (feedReversed_reverses hm h).imp fun t k =>
      ⟨by rw [k.feed]; rfl, by rw [k.feed]; rfl, k.others, k.rest, k.awake, k.wakes⟩
  · exact (feedReversedClear_check h).imp fun t k => ⟨by rw [k.feed]; rfl, k.others, k.radio⟩
  · exact (feedAdcSample_opens hn h hm isns vsns).imp fun t k =>
      ⟨by rw [k.feed]; rfl, by rw [k.feed]; rfl, by rw [k.feed]; rfl, k.others, k.radio⟩
  · exact (feedRetryReset_clears h).imp fun t ⟨he, hc, k⟩ => ⟨by rw [k.feed], by rw [k.feed]; exact h, he, hc, k.others, k.radio⟩

end Sys2Proof.Machine
end

section
/-! ## Weight sets -/
namespace Sys2Proof

/-- A run of writes from `a` on, of which those from 64 on do not take place. -/
theorem Tab.get_foldl_put (v : Nat → Nat) (a n : Nat) (t : Tab Nat) (j : Nat) :
    Tab.get ((List.range n).foldl (fun t i => if a + i < 64 then t.put (a + i) (v i) else t) t) j =
      if a ≤ j ∧ j < a + n ∧ j < 64 then v (j - a) else Tab.get t j := by
  induction n with
  | zero => exact (if_neg (by omega)).symm
  | succ n ih =>
    rw [List.range_succ, List.foldl_append, List.foldl_cons, List.foldl_nil]
    by_cases hj : j = a + n
    · subst hj
      by_cases h : a + n < 64
      · rw [if_pos h, Tab.get_put_same, if_pos (by omega), Nat.add_sub_cancel_left]
      · rw [if_neg h, ih, if_neg (by omega), if_neg (by omega)]
    · have hc : a ≤ j ∧ j < a + (n + 1) ∧ j < 64 ↔ a ≤ j ∧ j < a + n ∧ j < 64 := by omega
      rw [if_congr hc rfl rfl, ← ih]
      split
      · exact Tab.get_put_ne _ _ _ _ (Ne.symm hj)
      · rfl

end Sys2Proof

namespace Sys2Proof.Machine

variable {a s t u : State} {r k e n : Nat} {rest : List Nat} {x y : Option ShadowSet} {w : ShadowSet}

/-! ### Changes of one radio's shadow banks -/

theorem Mail.trans_beam (h : Mail { a with beam := s.beam } s) (k : Mail { s with beam := t.beam } t) : Mail { a with beam := t.beam } t :=
  .trans (b := { s with beam := t.beam }) { h with beam := rfl } k

/-- From `s` to `t` only the Crucible changes, besides what reporting touches; of the radios, radio `r` alone changes, and has the
set `x` in its shadow banks afterwards; the active sets and banks and the weight-load FIFOs stay. -/
structure ShadowBecomes (r : Nat) (x : Option ShadowSet) (s t : State) : Prop where
  beam : Mail { s with beam := t.beam } t
  shadow : (t.beamOf r).shadow = x
  active : (t.beamOf r).active = (s.beamOf r).active
  others : ∀ q, q ≠ r → t.beamOf q = s.beamOf q
  fifo : ∀ j, (t.mould j).fifo = (s.mould j).fifo
  bank : ∀ j, (t.mould j).bank = (s.mould j).bank

namespace ShadowBecomes

theorem refl (h : (s.beamOf r).shadow = x) : ShadowBecomes r x s s :=
  ⟨.refl s, h, rfl, fun _ _ => rfl, fun _ => rfl, fun _ => rfl⟩

theorem trans (h : ShadowBecomes r x s t) (k : ShadowBecomes r y t u) : ShadowBecomes r y s u where
  beam := h.beam.trans_beam k.beam
  shadow := k.shadow
  active := k.active.trans h.active
  others q hq := (k.others q hq).trans (h.others q hq)
  fifo j := (k.fifo j).trans (h.fifo j)
  bank j := (k.bank j).trans (h.bank j)

theorem mail (h : ShadowBecomes r x s t) (k : Mail t u) : ShadowBecomes r x s u := by
  have hb (q : Nat) : u.beamOf q = t.beamOf q := by rw [State.beamOf, k.beam]; rfl
  have hm (j : Nat) : u.mould j = t.mould j := by rw [State.mould, k.beam]; rfl
  exact h.trans ⟨{ k with beam := rfl }, (congrArg Beam.shadow (hb r)).trans h.shadow, congrArg Beam.active (hb r), fun q _ => hb q,
    fun j => congrArg Mould.fifo (hm j), fun j => congrArg Mould.bank (hm j)⟩

theorem ite {p : Prop} [Decidable p] (ht : ShadowBecomes r x s t) (hu : ShadowBecomes r x s u) :
    ShadowBecomes r x s (if p then t else u) := by
  split
  · exact ht
  · exact hu

theorem updBeam (h : ShadowBecomes r x s t) (f : Beam → Beam) (hf : (f (t.beamOf r)).shadow = y)
    (ha : ∀ b, (f b).active = b.active := by exact fun _ => rfl) : ShadowBecomes r y s (updBeam r f t) :=
  h.trans ⟨.refl _, by rw [updBeam_beamOf_same, hf], by rw [updBeam_beamOf_same, ha], fun q hq => updBeam_beamOf_ne r q f t hq.symm,
    fun _ => rfl, fun _ => rfl⟩

theorem updMould (h : ShadowBecomes r x s t) (k : Nat) (f : Mould → Mould) (hf : ∀ m, (f m).fifo = m.fifo := by exact fun _ => rfl)
    (hb : ∀ m, (f m).bank = m.bank := by exact fun _ => rfl) : ShadowBecomes r x s (updMould k f t) := by
  refine h.trans ⟨.refl _, h.shadow, rfl, fun _ _ => rfl, fun j => ?_, fun j => ?_⟩
  · rw [updMould_mould]
    split
    · exact hf _
    · rfl
  · rw [updMould_mould]
    split
    · exact hb _
    · rfl

theorem clearShadow (h : ShadowBecomes r x s t) : ShadowBecomes r none s (clearShadow r t) :=
  List.foldlRecOn _ _ (h.updBeam _ rfl) fun _ hv j _ => hv.updMould j fun m => { m with shadow := [] }

theorem discardShadow (h : ShadowBecomes r x s t) (why : Why) (err : Option Nat) :
    ShadowBecomes r none s (discardShadow r why err t) := by
  unfold Machine.discardShadow
  split
  next e => exact h.trans (.refl e)
  next =>
    extract_lets _ u v
    exact .ite h.clearShadow ((ShadowBecomes.ite (h.clearShadow.mail (bump_mail ..)) h.clearShadow).mail (raise_mail ..))

end ShadowBecomes

/-! ### Empty shadow banks -/

theorem foldl_updMould_shadow {j : Nat} {l : List Nat} (h : j ∈ l ∨ (s.mould j).shadow = []) :
    ((l.foldl (fun s k => updMould k (fun m => { m with shadow := [] }) s) s).mould j).shadow = [] := by
  induction l generalizing s with
  | nil => exact h.resolve_left List.not_mem_nil
  | cons i l ih =>
    refine ih ?_
    rw [updMould_mould]
    split
    next => exact .inr rfl
    next hi => exact h.imp_left fun hj => (List.mem_cons.mp hj).resolve_left (Ne.symm hi)

theorem clearShadow_shadow {j : Nat} (h : j ∈ sectorsOf r) : ((clearShadow r s).mould j).shadow = [] :=
  foldl_updMould_shadow (.inl h)

theorem discardShadow_beam (h : (s.beamOf r).shadow = some w) (why : Why) (err : Option Nat) :
    (discardShadow r why err s).beam = (clearShadow r s).beam := by
  unfold discardShadow
  rw [h]
  dsimp only
  split_ifs
  · rfl
  · rw [raise_beam, bump_beam]
  · rw [raise_beam]

/-! ### The oldest entry of a FIFO -/

/-- Sector `k` has taken the oldest entry of its weight-load FIFO. -/
def State.popped (k : Nat) (rest : List Nat) (s : State) : State := updMould k (fun m => { m with fifo := rest }) s

theorem State.popped_mould (k : Nat) (rest : List Nat) (s : State) :
    (s.popped k rest).mould k = { s.mould k with fifo := rest } := updMould_mould_same ..

theorem State.popped_dropping : ((s.popped k rest).mould k).dropping = (s.mould k).dropping := by
  rw [popped_mould]

theorem readEntry_popped {f : Nat → State → State} (hk : k < 8) (hf : (s.mould k).fifo = e :: rest) (ht : wlType e = n) :
    readEntry k n f s = f e (s.popped k rest) := by
  unfold readEntry popEntry
  rw [if_neg (by omega), hf]
  dsimp only
  rw [if_pos ht]
  rfl

theorem Answers.of_read {i : Instr} {f : Nat → State → State} {P : State → Prop} (hi : exec i s = .next (readEntry k n f s))
    (hk : k < 8) (hf : (s.mould k).fifo = e :: rest) (ht : wlType e = n) (h : P (f e (s.popped k rest))) : Answers i s P :=
  .of_eq (hi.trans (by rw [readEntry_popped hk hf ht])) h

/-- What the reading of one entry leaves unchanged. -/
theorem ShadowBecomes.kept (h : ShadowBecomes r x (s.popped k rest) t) :
    (t.mould k).fifo = rest ∧ (t.mould k).bank = (s.mould k).bank ∧ (t.beamOf r).active = (s.beamOf r).active ∧
      (∀ j, j ≠ k → (t.mould j).fifo = (s.mould j).fifo ∧ (t.mould j).bank = (s.mould j).bank) ∧
      (∀ q, q ≠ r → t.beamOf q = s.beamOf q) ∧ Mail { s with beam := t.beam } t := by
  refine ⟨?_, ?_, h.active, fun j hj => ?_, h.others, h.beam⟩
  · rw [h.fifo, State.popped_mould]
  · rw [h.bank, State.popped_mould]
  · rw [h.fifo, h.bank, State.popped, updMould_mould_ne _ _ _ _ hj.symm]
    exact ⟨rfl, rfl⟩

/-! ### Each type of entry -/

/-- The set that a SET_BEGIN opens at sector `k` (Table 7-4). -/
def openedSet (k e : Nat) : ShadowSet where
  id := bits e 507 492
  spec := e.testBit 491
  basis := bits e 490 459
  validUntil := bits e 458 395
  antUsed := bits e 394 331
  users := bits e 330 324
  begun := [k]

theorem setBegin_opens (hs : e.testBit 491 = false) (hw : (s.beamOf (radioOfSector k)).shadow = none)
    (ha : (s.beamOf (radioOfSector k)).active = none) :
    ShadowBecomes (radioOfSector k) (some (openedSet k e)) s (setBegin k e s) ∧ (setBegin k e s).evt = s.evt := by
  have he : setBegin k e s = updBeam (radioOfSector k) (fun b => { b with stale := none, shadow := some (openedSet k e) }) s := by
    simp [setBegin, discardShadow, hs, hw, ha, openedSet]
  rw [he]
  exact ⟨(ShadowBecomes.refl hw).updBeam _ rfl, rfl⟩

theorem dropSet_drops (hw : (s.beamOf (radioOfSector k)).shadow = x) (id basis : Nat) :
    ShadowBecomes (radioOfSector k) x s (dropSet k id basis s) ∧ ((dropSet k id basis s).mould k).dropping = some id := by
  unfold dropSet
  extract_lets r first u
  have hd : (u.mould k).dropping = some id := by simp [u]
  have hu : ShadowBecomes r x s u := ((ShadowBecomes.refl hw).updMould k _).updBeam _ hw
  clear_value u
  split
  · exact ⟨(hu.mail (bump_mail ..)).mail (raise_mail ..), by rw [State.mould, raise_beam, bump_beam]; exact hd⟩
  · exact ⟨hu, hd⟩

theorem setBegin_drops {b : ActiveSet} (hw : (s.beamOf (radioOfSector k)).shadow = none)
    (ha : (s.beamOf (radioOfSector k)).active = some b) (hb : serialNewer 32 (bits e 490 459) b.basis = false) :
    ShadowBecomes (radioOfSector k) none s (setBegin k e s) ∧ ((setBegin k e s).mould k).dropping = some (bits e 507 492) := by
  have he : setBegin k e s = dropSet k (bits e 507 492) (bits e 490 459) s := by simp [setBegin, hw, ha, hb]
  rw [he]
  exact dropSet_drops hw ..

/-- The place of a WEIGHT entry in its bank: tone group, column and block. -/
def weightKey (e : Nat) : Nat := (bits e 503 496 * 64 + bits e 495 490) * 4 + bits e 489 488

/-- A set that has received one more WEIGHT entry at sector `k`. -/
def ShadowSet.counted (k : Nat) (w : ShadowSet) : ShadowSet := { w with counts := w.counts.upd k (· + 1) }

theorem weightEntry_fills (hw : (s.beamOf (radioOfSector k)).shadow = some w) (hd : (s.mould k).dropping = none) (hb : k ∈ w.begun)
    (he : k ∉ w.ended) (hid : bits e 507 504 = w.id % 16) :
    ShadowBecomes (radioOfSector k) (some (w.counted k)) s (weightEntry k e s) ∧ (weightEntry k e s).evt = s.evt ∧
      ((weightEntry k e s).mould k).shadow = (s.mould k).shadow.put (weightKey e) (bits e 479 0) := by
  have h : weightEntry k e s = updBeam (radioOfSector k) (fun b => { b with shadow := b.shadow.map (·.counted k) })
      (updMould k (fun m => { m with shadow := m.shadow.put (weightKey e) (bits e 479 0) }) s) := by
    simp [weightEntry, hw, hd, hb, he, hid, weightKey, ShadowSet.counted]
  rw [h]
  refine ⟨((ShadowBecomes.refl hw).updMould k _).updBeam _ ?_, rfl, by rw [updBeam_mould, updMould_mould_same]⟩
  rw [updMould_beamOf, hw]
  rfl

/-- The columns of a set after a COLMAP entry. -/
def colsFilled (e : Nat) (t : Tab Nat) : Tab Nat :=
  (List.range 30).foldl (fun t i =>
    if bits e 507 502 + i < 64 then t.put (bits e 507 502 + i) (bits e (479 - 16 * i) (464 - 16 * i)) else t) t

theorem get_colsFilled_of_mem {i : Nat} (hi : i < 30) (h : bits e 507 502 + i < 64) (t : Tab Nat) :
    (colsFilled e t).get (bits e 507 502 + i) = bits e (479 - 16 * i) (464 - 16 * i) := by
  refine (Tab.get_foldl_put (fun i => bits e (479 - 16 * i) (464 - 16 * i)) ..).trans ?_
  rw [if_pos (by omega), Nat.add_sub_cancel_left]

theorem get_colsFilled_of_not_mem {j : Nat} (h : j < bits e 507 502 ∨ bits e 507 502 + 30 ≤ j) (t : Tab Nat) :
    (colsFilled e t).get j = t.get j :=
  (Tab.get_foldl_put (fun i => bits e (479 - 16 * i) (464 - 16 * i)) ..).trans (if_neg (by omega))

theorem colmapEntry_fills (hw : (s.beamOf (radioOfSector k)).shadow = some w) (hd : (s.mould k).dropping = none) (hb : k ∈ w.begun) :
    ShadowBecomes (radioOfSector k) (some { w with cols := colsFilled e w.cols }) s (colmapEntry k e s) ∧
      (colmapEntry k e s).evt = s.evt := by
  unfold colmapEntry
  extract_lets r first fill
  rw [hd]
  have hf : fill w = { w with cols := colsFilled e w.cols } := if_pos (List.contains_iff_mem.mpr hb)
  exact ⟨(ShadowBecomes.refl hw).updBeam _ (by rw [hw, ← hf]; rfl), rfl⟩

theorem setEnd_ends (hw : (s.beamOf (radioOfSector k)).shadow = some w) (hd : (s.mould k).dropping ≠ some (bits e 507 492))
    (hid : w.id = bits e 507 492) (hb : k ∈ w.begun) (he : k ∉ w.ended) :
    ShadowBecomes (radioOfSector k) (if w.counts.get k = bits e 491 472 then some { w with ended := k :: w.ended } else none) s
      (setEnd k e s) := by
  have hc : ¬(w.id ≠ bits e 507 492 ∨ (!w.begun.contains k) = true ∨ w.ended.contains k = true) := by simp [hid, hb, he]
  unfold setEnd
  extract_lets r id
  rw [if_neg hd, hw]
  dsimp only
  rw [if_neg hc]
  split
  next h =>
    have hu := (ShadowBecomes.refl hw).updBeam (y := some { w with ended := k :: w.ended })
      (fun b => { b with shadow := some { w with ended := k :: w.ended } }) rfl
    rw [if_neg (not_not.mpr h)]
    exact .ite ((hu.mail (bump_mail ..)).mail (raise_mail ..)) hu
  next h =>
    exact ((ShadowBecomes.refl hw).discardShadow .bad none).mail (raise_mail ..)

theorem confirmEntry_decides (hw : (s.beamOf (radioOfSector k)).shadow = some w) (hs : w.spec = true) (hid : w.id = bits e 507 492)
    (hc : s.setComplete (radioOfSector k) w = true) : ShadowBecomes (radioOfSector k)
      (if bits e 491 460 = w.basis ∧ bits e 459 444 ≤ s.parN Prm.beamSpecEps (radioOfSector k) ∧ bits e 459 444 ≠ 65535 then
        some { w with confirmed := k :: w.confirmed, err := some (bits e 459 444) } else none) s (confirmEntry k e s) := by
  have hn : ¬((!w.spec) = true ∨ w.id ≠ bits e 507 492 ∨ (!s.setComplete (radioOfSector k) w) = true) := by simp [hs, hid, hc]
  unfold confirmEntry
  extract_lets r err
  rw [hw]
  dsimp only
  rw [if_neg hn]
  split
  next h =>
    obtain ⟨hb, hle, hne⟩ := h
    rw [if_neg (by simp [hb, hle, hne, r, err])]
    exact (ShadowBecomes.refl hw).updBeam _ rfl
  next h =>
    rw [if_pos (by simpa only [not_and_or, Nat.not_le, not_not] using h)]
    exact (ShadowBecomes.refl hw).discardShadow ..

theorem discardEntry_discards (hw : (s.beamOf (radioOfSector k)).shadow = some w) (hid : w.id = bits e 507 492) :
    ShadowBecomes (radioOfSector k) none s (discardEntry k e s) ∧
      ∀ j ∈ sectorsOf (radioOfSector k), ((discardEntry k e s).mould j).shadow = [] := by
  obtain ⟨why, he⟩ : ∃ why, discardEntry k e s = discardShadow (radioOfSector k) why none s := by
    simp only [discardEntry, hw, if_pos hid]
    exact ⟨_, rfl⟩
  rw [he]
  refine ⟨(ShadowBecomes.refl hw).discardShadow .., fun j hj => ?_⟩
  rw [State.mould, discardShadow_beam hw]
  exact clearShadow_shadow hj

/-- A set still incomplete when its time is over is discarded (R192). -/
theorem setLoadTimeout_discards (hw : (s.beamOf r).shadow = some w) (hc : s.setComplete r w = false) :
    Answers (.setLoadTimeout r) s fun t => ShadowBecomes r none s t := by
  have e : exec (.setLoadTimeout r) s = .next (bump Prm.beamOverrun r (discardShadow r .displaced none s)) := by
    change execSetLoadTimeout r s = _
    simp [execSetLoadTimeout, hw, hc]
  exact .of_eq e (((ShadowBecomes.refl hw).discardShadow ..).mail (bump_mail ..))

/-- Settles O30: each clause reads one entry by the lemma of its type above, and `ShadowBecomes.kept` gives what stays. -/
theorem weightSetsLoadBySector : Obligations.WeightSetsLoadBySector := by
  unfold Obligations.WeightSetsLoadBySector
  refine ⟨fun s k e rest hk hf => ⟨fun ht hs hw => ⟨fun ha => ?_, fun b ha hb => ?_⟩, fun w hw =>
    ⟨fun ht hd hb he hid => ?_, fun ht hd hb => ?_, fun ht hd hid hb he => ?_, fun ht hs hid hc => ?_, fun ht hid => ?_⟩⟩,
    fun s r w _ hw hc => ?_⟩
  · obtain ⟨h, he⟩ := setBegin_opens (s := s.popped k rest) hs hw ha
    exact .of_read rfl hk hf ht ⟨by rw [h.shadow, openedSet, hs], he, h.kept⟩
  · obtain ⟨h, hd⟩ := setBegin_drops (s := s.popped k rest) hw ha hb
    exact .of_read rfl hk hf ht ⟨h.shadow, hd, h.kept⟩
  · obtain ⟨h, hev, hm⟩ := weightEntry_fills (s := s.popped k rest) hw (State.popped_dropping.trans hd) hb he hid
    refine .of_read rfl hk hf ht ⟨?_, fun i hi => ?_, h.shadow, hev, h.kept⟩
    · rw [hm]
      exact Tab.get_put_same ..
    · rw [hm, State.popped_mould]
      exact Tab.get_put_ne _ _ _ _ (Ne.symm hi)
  · obtain ⟨h, he⟩ := colmapEntry_fills (e := e) (s := s.popped k rest) hw (State.popped_dropping.trans hd) hb
    refine .of_read rfl hk hf ht ⟨by rw [h.shadow]; rfl, fun i hi h64 => ?_, fun j hj => ?_, he, h.kept⟩
    · rw [h.shadow, Option.map_some, get_colsFilled_of_mem hi h64]
    · rw [h.shadow, Option.map_some, get_colsFilled_of_not_mem hj]
  · have h := setEnd_ends (s := s.popped k rest) hw (State.popped_dropping.trans_ne hd) hid hb he
    exact .of_read rfl hk hf ht ⟨h.shadow, h.kept⟩
  · have h := confirmEntry_decides (s := s.popped k rest) hw hs hid hc
    exact .of_read rfl hk hf ht ⟨h.shadow, h.kept⟩
  · obtain ⟨h, he⟩ := discardEntry_discards (s := s.popped k rest) hw hid
    exact .of_read rfl hk hf ht ⟨h.shadow, he, h.kept⟩
  · exact (setLoadTimeout_discards hw hc).imp fun t h => ⟨h.shadow, h.active, h.bank, h.others, h.beam⟩

end Sys2Proof.Machine
end

section
/-! ## Assay and reports -/
namespace Sys2Proof

theorem twos_lt (w : Nat) (v : Int) : twos w v < 2 ^ w := by
  unfold twos
  have h : (0 : Int) < (2 ^ w : Nat) := by positivity
  have := Int.emod_nonneg v h.ne'
  have := Int.emod_lt_of_pos v h
  omega

end Sys2Proof

namespace Sys2Proof.Machine

variable {s : State} {r k n : Nat}

/-- The padding of a string leaves its fields. -/
theorem fieldAt_bytesAt {b : List Byte} {o k n : Nat} (h : o + k ≤ b.length) (hn : b.length ≤ n) :
    fieldAt (bytesAt b 0 n) o k = fieldAt b o k := by
  unfold bytesAt
  rw [List.drop_zero, List.take_of_length_le hn]
  exact fieldAt_append_left b _ o k h

/-! ### The assay of a symbol -/

theorem updMould_congr {f g : Mould → Mould} (h : f (s.mould k) = g (s.mould k)) : updMould k f s = updMould k g s := by
  simp only [updMould, Tab.upd, State.mould] at h ⊢
  rw [h]

/-- A sector whose checker has drawn the two tones of a symbol (R201). -/
def Mould.drawn (rx : Bool) (m : Mould) : Mould :=
  if rx then { m with lfsrRx := lfsrDraw 32 (lfsrDraw 32 m.lfsrRx) } else { m with lfsrTx := lfsrDraw 32 (lfsrDraw 32 m.lfsrTx) }

/-- A symbol without a mismatch draws its tones, and nothing else (R202). -/
theorem symbolAssay_draws {T : Nat} (hk : k < 8) (hT : 2 ≤ T) (rx : Bool) :
    Answers (.symbolAssay k rx T [] false) s fun t => t = updMould k (.drawn rx) s := by
  refine .of_eq (t := updMould k (.drawn rx) s) ?_ rfl
  change execSymbolAssay k rx T [] false s = _
  simp only [execSymbolAssay, assayTones, if_neg (show ¬(8 ≤ k ∨ T < 2) by omega), List.contains_nil, Bool.or_self, Bool.false_eq_true,
    if_false]
  refine congrArg Host.Outcome.next (updMould_congr ?_)
  cases rx <;> simp only [Mould.drawn, if_true, if_false, Bool.false_eq_true]

/-! ### Reports on the active set -/

theorem setActive_entry_of_key_ne {d e : TableDef} {i j m : Nat} (h : tabKey d.id i k ≠ tabKey e.id j m) (b : List Byte) (s : State) :
    (setActive d i k b s).entry e j m = s.entry e j m := by
  simp only [State.entry, setActive, Tab.get_put_ne _ _ _ _ h]

/-- A report on a leakage leaves the reports on stations. -/
theorem setActive_nullReport_staReport {j : Nat} (hj : j < 2048) (b : List Byte) (s : State) :
    (setActive Tbl.nullReport r n b s).entry Tbl.staReport 0 j = s.entry Tbl.staReport 0 j := by
  refine setActive_entry_of_key_ne ?_ b s
  simp only [tabKey, Tbl.nullReport, Tbl.staReport]
  omega

/-- The fields of an entry read back. -/
theorem setActive_field {d : TableDef} {b : List Byte} {i j o m : Nat} (h : o + m ≤ b.length) (hb : b.length ≤ d.size) (s : State) :
    fieldAt ((setActive d i j b s).entry d i j) o m = fieldAt b o m := by
  rw [setActive_entry_same]
  exact fieldAt_bytesAt h hb

/-- The station of a valid COLMAP column (Table 7-4). -/
theorem colStation_valid {st : Nat} (hk : k < 8) (hs : st < 2048) : colStation (32768 + k * 4096 + st) = some (k, st) := by
  have hv : (32768 + k * 4096 + st).testBit 15 = true := by
    rw [Nat.testBit_eq_decide_div_mod_eq, decide_eq_true_eq]
    omega
  rw [colStation, if_pos hv]
  simp only [bits, Option.some.injEq, Prod.mk.injEq]
  omega

/-- The entry of BEAM.sta_report for a station of sector `k` in set `a` (Table 7-10). -/
def staReport (a : ActiveSet) (k : Nat) (sched : Bool) (f : StaFigures) : List Byte :=
  le 2 (f.station + k * 2048 + 16384 + (if sched then 32768 else 0)) ++ le 2 a.id ++ le 4 a.basis ++
    le 2 (twos 16 f.mean) ++ le 2 (twos 16 f.low) ++ le 2 (twos 16 f.leakIn) ++ le 2 (twos 16 f.leakOut) ++
    le 2 (match f.uplink with | some u => twos 16 u | none => 0x8000) ++ le 6 0 ++ le 8 a.time

/-- The entry of BEAM.null_report for `groups` tone groups in set `a` (R207). -/
def nullReport (a : ActiveSet) (leak : Int) (groups : Nat) : List Byte :=
  le 2 (twos 16 leak) ++ le 2 groups ++ le 2 a.id

section
variable (a : ActiveSet) (sched : Bool) (f : StaFigures) (leak : Int) (groups : Nat)

theorem staReport_length : (staReport a k sched f).length = 32 := by simp [staReport]

theorem staReport_place (hk : k < 8) (hs : f.station < 2048) :
    fieldAt (staReport a k sched f) 0 2 % 32768 = f.station + k * 2048 + 16384 := by
  simp only [staReport, List.append_assoc, fieldAt_le]
  split <;> omega

theorem staReport_set : fieldAt (staReport a k sched f) 2 2 = a.id % 65536 := by
  simp only [staReport, List.append_assoc]
  rw [fieldAt_skip _ _ _ _ _ (by decide)]
  exact fieldAt_le ..

theorem staReport_basis : fieldAt (staReport a k sched f) 4 4 = a.basis % 2 ^ 32 := by
  simp only [staReport, List.append_assoc]
  iterate 2 rw [fieldAt_skip _ _ _ _ _ (by decide)]
  exact fieldAt_le ..

theorem staReport_mean : fieldAt (staReport a k sched f) 8 2 = twos 16 f.mean := by
  simp only [staReport, List.append_assoc]
  iterate 3 rw [fieldAt_skip _ _ _ _ _ (by decide)]
  exact (fieldAt_le ..).trans (Nat.mod_eq_of_lt (twos_lt ..))

theorem staReport_low : fieldAt (staReport a k sched f) 10 2 = twos 16 f.low := by
  simp only [staReport, List.append_assoc]
  iterate 4 rw [fieldAt_skip _ _ _ _ _ (by decide)]
  exact (fieldAt_le ..).trans (Nat.mod_eq_of_lt (twos_lt ..))

theorem nullReport_length : (nullReport a leak groups).length = 6 := by simp [nullReport]

theorem nullReport_leak : fieldAt (nullReport a leak groups) 0 2 = twos 16 leak := by
  simp only [nullReport, List.append_assoc]
  exact (fieldAt_le ..).trans (Nat.mod_eq_of_lt (twos_lt ..))

theorem nullReport_set : fieldAt (nullReport a leak groups) 4 2 = a.id % 65536 := by
  simp only [nullReport, List.append_assoc]
  iterate 2 rw [fieldAt_skip _ _ _ _ _ (by decide)]
  exact fieldAt_le_self ..

end

/-- The refresh of one station of the active set, with one leakage between sectors, where no other station has a valid entry
(R206, R207). -/
theorem staReportRefresh_writes {a : ActiveSet} {f : StaFigures} {c : Nat} (ha : (s.beamOf r).active = some a)
    (hc : a.cols = [(c, 32768 + k * 4096 + f.station)]) (hk : k < 8) (hs : f.station < 2048) (hn : n < 16)
    (hold : ∀ j, j < 2048 → j ≠ f.station → (s.entryNat Tbl.staReport 0 j).testBit 14 = false) (leak : Int) (groups : Nat) :
    Answers (.staReportRefresh r [f] [(n, leak, groups)]) s fun t => ∃ sched,
      t = setActive Tbl.nullReport r n (nullReport a leak groups) (setActive Tbl.staReport 0 f.station (staReport a k sched f) s) := by
  let sched := (s.beamOf r).stations.contains f.station
  let u := setActive Tbl.staReport 0 f.station (staReport a k sched f) s
  have hhere : a.cols.filterMap (fun e => colStation e.2) = [(k, f.station)] := by
    rw [hc, List.filterMap_cons, colStation_valid hk hs, List.filterMap_nil]
  have hgone : pick 2048 (fun j => (u.entryNat Tbl.staReport 0 j).testBit 14 &&
      decide (radioOfSector (bits (u.entryNat Tbl.staReport 0 j) 13 11) = r) && !List.any [(k, f.station)] fun x => x.2 == j) = [] := by
    refine List.filter_eq_nil_iff.mpr fun j hj => ?_
    by_cases h : j = f.station
    · simp [h]
    · have he : u.entryNat Tbl.staReport 0 j = s.entryNat Tbl.staReport 0 j := congrArg leNat (setActive_entry_ne h ..)
      simp [he, hold j (List.mem_range.mp hj) h]
  refine .of_eq (t := setActive Tbl.nullReport r n (nullReport a leak groups) u) ?_ ⟨sched, rfl⟩
  change execStaReportRefresh r [f] [(n, leak, groups)] s = _
  simp only [execStaReportRefresh, ha, hhere, List.foldl_cons, List.foldl_nil, List.find?_cons, beq_self_eq_true]
  rw [if_pos hn]
  exact congrArg (fun l => Host.Outcome.next (setActive Tbl.nullReport r n (nullReport a leak groups) (List.foldl _ u l))) hgone

/-! ### Detections -/

/-- The bin of the occupancy map for direction cosines `u` and `v` (R209). -/
def aoaBin (u v : Int) : Nat := 32 * min 31 ((v + 32768) / 2048).toNat + min 31 ((u + 32768) / 2048).toNat

theorem aoaBin_lt (u v : Int) : aoaBin u v < 1024 := by
  unfold aoaBin
  omega

/-- A detection of no known station counts in its bin. -/
theorem aoaDetection_counts {u v snr : Int} (hr : r = 1 ∨ r = 2) (he : s.par Prm.beamAoaEnable r = 1) (hs : 10 ≤ snr)
    (hc : u * u + v * v ≤ 2 ^ 30) : Answers (.aoaDetection r u v snr none) s fun t =>
      t = updBeam r (fun b => { b with hits := b.hits.upd (aoaBin u v) (· + 1) }) s :=
  .of_neg rfl (by rw [he]; omega) rfl

/-- Settles O32: each clause is the command's lemma above, which names the state that the command leaves. -/
theorem assayAndReports : Obligations.AssayAndReports := by
  unfold Obligations.AssayAndReports
  refine ⟨fun s k T rx hk hT => (symbolAssay_draws hk hT rx).imp ?_,
    fun s r c k a f leak n hr ha hc hk hs hn hold => (staReportRefresh_writes ha hc hk hs hn hold leak 1).imp ?_,
    fun s r u v snr hr he hs hc => (aoaDetection_counts hr he hs hc).imp ?_⟩
  · rintro t rfl
    refine ⟨?_, ?_, fun j hj => updMould_mould_ne _ _ _ _ hj.symm, rfl, rfl⟩
    · rw [updMould_mould_same]
      cases rx <;> exact ⟨rfl, rfl⟩
    · rw [updMould_mould_same]
      cases rx <;> rfl
  · rintro t ⟨sched, rfl⟩
    generalize hv : setActive Tbl.staReport 0 f.station (staReport a k sched f) s = v
    have hsta {o m : Nat} (h : o + m ≤ 32) : fieldAt ((setActive Tbl.nullReport r n (nullReport a leak 1) v).entry Tbl.staReport 0
        f.station) o m = fieldAt (staReport a k sched f) o m := by
      rw [setActive_nullReport_staReport hs, ← hv]
      exact setActive_field (by rwa [staReport_length]) (staReport_length ..).le s
    have hnull {o m : Nat} (h : o + m ≤ 6) : fieldAt ((setActive Tbl.nullReport r n (nullReport a leak 1) v).entry Tbl.nullReport r n)
        o m = fieldAt (nullReport a leak 1) o m :=
      setActive_field (by rwa [nullReport_length]) (by rw [nullReport_length]; decide) v
    refine ⟨?_, (hsta (by decide)).trans (staReport_set ..), (hsta (by decide)).trans (staReport_basis ..),
      (hsta (by decide)).trans (staReport_mean ..), (hsta (by decide)).trans (staReport_low ..),
      (hnull (by decide)).trans (nullReport_leak ..), (hnull (by decide)).trans (nullReport_set ..), fun j hj hne => ?_,
      (hv ▸ setActive_mail ..).trans (setActive_mail ..)⟩
    · rw [hsta (by decide), staReport_place _ _ _ hk hs]
    · rw [setActive_nullReport_staReport hj, ← hv, setActive_entry_ne hne]
  · rintro t rfl
    have hh : ((updBeam r (fun b => { b with hits := b.hits.upd (aoaBin u v) (· + 1) }) s).beamOf r).hits =
        (s.beamOf r).hits.upd (aoaBin u v) (· + 1) := by rw [updBeam_beamOf_same]
    refine ⟨?_, aoaBin_lt u v, fun b hb => ?_, fun q hq => updBeam_beamOf_ne _ _ _ _ hq.symm, rfl, rfl⟩
    · rw [hh]
      exact Tab.get_upd_same _ (aoaBin u v) _
    · rw [hh]
      exact Tab.get_upd_ne _ (aoaBin u v) _ _ (Ne.symm hb)

end Sys2Proof.Machine
end

section
/-! ## What leaves the wireless MAC as it is -/
namespace Sys2Proof.Machine

theorem foldl_wlan {α : Type} {f : State → α → State} (hf : ∀ s x, (f s x).wlan = s.wlan) (l : List α) (s : State) :
    (l.foldl f s).wlan = s.wlan :=
  List.foldlRecOn (motive := fun t : State => t.wlan = s.wlan) l f rfl fun t ht x _ => (hf t x).trans ht

@[simp] theorem countWriteback_wlan (n : Nat) (s : State) : (countWriteback n s).wlan = s.wlan := by
  unfold countWriteback
  extract_lets s1 s2
  split
  · exact sendVector_wlan ..
  · rfl

@[simp] theorem writebackTx_wlan (n : Nat) (w : TxWait) (status ts tb : Nat) (s : State) :
    (writebackTx n w status ts tb s).wlan = s.wlan := by
  unfold writebackTx
  extract_lets +onlyGivenNames r s1 s2
  have h1 : s1.wlan = s.wlan := foldl_wlan (fun _ _ => by rfl) _ s
  rw [countWriteback_wlan]
  split <;> exact h1

@[simp] theorem flushTx_wlan (n m : Nat) (s : State) : (flushTx n m s).wlan = s.wlan := by
  induction m generalizing s with
  | zero => rfl
  | succ m ih =>
    unfold flushTx
    split
    · rfl
    · split
      · rfl
      · exact (ih _).trans (writebackTx_wlan ..)

@[simp] theorem txOutcome_wlan (n h status ts tb : Nat) (s : State) : (txOutcome n h status ts tb s).wlan = s.wlan := flushTx_wlan ..

@[simp] theorem dropMark_wlan (h : Nat) (s : State) : (dropMark h s).wlan = s.wlan := by
  unfold dropMark
  split <;> rfl

@[simp] theorem free_wlan (h : Nat) (s : State) : (free h s).wlan = s.wlan := by
  unfold free
  extract_lets w s1 _ s2
  have h2 : s2.wlan = s.wlan := dropMark_wlan ..
  split
  · rfl
  · split
    · exact (txOutcome_wlan ..).trans h2
    · exact h2

@[simp] theorem refreshList_wlan (e : Nat) (s : State) : (refreshList e s).wlan = s.wlan :=
  foldl_wlan (f := fun s q => fillBuckets q s) (fun _ _ => rfl) (s.backlogged e) s

@[simp] theorem holdQueue_wlan (q : Nat) (on : Bool) (s : State) : (holdQueue q on s).wlan = s.wlan :=
  foldl_wlan (fun s e => refreshList_wlan e s) ..

end Sys2Proof.Machine
end

section
/-! ## Reception and restricted service periods -/
namespace Sys2Proof.Machine

variable {s t u : State} {r k sec i : Nat} {x : StaSt} {level : Int}

/-! ### Stations -/

/-- From `s` to `t` the MAC's state of station `k` alone changes, of all stations, and is `x` afterwards; the sectors stay. -/
structure StationBecomes (k : Nat) (x : StaSt) (s t : State) : Prop where
  station : t.staSt k = x
  others : ∀ j, j ≠ k → t.staSt j = s.staSt j
  sectors : t.wlan.sector = s.wlan.sector

namespace StationBecomes

theorem refl (k : Nat) (s : State) : StationBecomes k (s.staSt k) s s := ⟨rfl, fun _ _ => rfl, rfl⟩

/-- A change that touches neither stations nor sectors. -/
theorem same (h : StationBecomes k x s t) (e : u.wlan.sta = t.wlan.sta) (e' : u.wlan.sector = t.wlan.sector) :
    StationBecomes k x s u :=
  ⟨by rw [State.staSt, e, ← State.staSt, h.station], fun j hj => by rw [State.staSt, e, ← State.staSt, h.others j hj],
    by rw [e', h.sectors]⟩

/-- A change outside the MAC. -/
theorem wlan (h : StationBecomes k x s t) (e : u.wlan = t.wlan) : StationBecomes k x s u := h.same (by rw [e]) (by rw [e])

theorem updSta (h : StationBecomes k x s t) (f : StaSt → StaSt) : StationBecomes k (f x) s (updSta k f t) :=
  ⟨by rw [updSta_staSt_same, h.station], fun j hj => by rw [updSta_staSt_ne _ _ _ _ hj.symm, h.others j hj], h.sectors⟩

/-- Holding or freeing a station's queues (R227). -/
theorem holdStation (h : StationBecomes k x s t) (on : Bool) : StationBecomes k { x with held := on } s (holdStation k on t) := by
  unfold Machine.holdStation
  split
  next e =>
    have hx : { x with held := on } = x := by rw [← e, h.station]
    rwa [hx]
  next => exact (h.updSta fun x => { x with held := on }).wlan (foldl_wlan (fun _ _ => holdQueue_wlan ..) ..)

/-- A station's power state on a link (R227). -/
theorem setDoze (h : StationBecomes k x s t) (r : Nat) (doze : Bool) : StationBecomes k
    { x with awake := setBit x.awake r (!doze), held := decide (setBit x.awake r (!doze) = 0) } s (setDoze k r doze t) := by
  have h1 := h.updSta fun x => { x with awake := setBit x.awake r (!doze) }
  have h2 := h1.holdStation (decide (setBit x.awake r (!doze) = 0))
  unfold Machine.setDoze
  dsimp only
  rwa [h1.station]

/-- An acknowledgement ends the MPDUs that it names (R240). -/
theorem takeAck (h : StationBecomes k x s t) (hs : List Nat) : StationBecomes k
    { x with unacked := x.unacked.filter fun p => !hs.contains p.handle } s (takeAck k hs t) :=
  (h.updSta fun x => { x with unacked := x.unacked.filter fun p => !hs.contains p.handle }).wlan
    ((foldl_wlan (fun s (p : AirPending) => free_wlan p.handle s) ..).trans (bumpBy_wlan ..))

end StationBecomes

/-! ### PPDUs -/

/-- The receiver of a sector may hear a PPDU: the sector runs, and its radio does not send (R235). -/
structure State.Listens (s : State) (sec : Nat) : Prop where
  sector : sec < 8
  on : s.sectorOn sec = true
  runs : s.stopped (macUnit (radioOfSector sec)) = false
  silent : (s.wradio (radioOfSector sec)).txUntil ≤ s.now

/-- Sector `sec` has taken a PPDU, which is counted (R235). -/
def State.received (s : State) (sec : Nat) : State :=
  bump Prm.wlanRxPpdu sec (updMould sec (fun m => { m with rxDrop := false }) (updWsector sec (fun w => { w with rx := none }) s))

/-- A station whose PPDU has been heard at a level (Table 8-7). -/
def StaSt.heardAt (x : StaSt) (level : Int) : StaSt := { x with levelSum := x.levelSum + level * 4, levelCount := x.levelCount + 1 }

theorem received_hears (s : State) (sec k : Nat) (level : Int) :
    StationBecomes k ((s.staSt k).heardAt level) (s.received sec) (updSta k (·.heardAt level) (s.received sec)) :=
  (StationBecomes.refl k (s.received sec)).updSta (·.heardAt level)

theorem received_rx (s : State) (sec : Nat) : ((s.received sec).wsector sec).rx = none := by
  change ((updWsector sec _ s).wsector sec).rx = none
  rw [updWsector_wsector_same]

theorem received_wsector_ne (h : i ≠ sec) : (s.received sec).wsector i = s.wsector i :=
  updWsector_wsector_ne sec i _ s h.symm

namespace State.Listens
variable (h : s.Listens sec)
include h

theorem not_deaf : ¬(8 ≤ sec ∨ (!s.sectorOn sec) = true ∨ s.stopped (macUnit (radioOfSector sec)) = true ∨
    s.now < (s.wradio (radioOfSector sec)).txUntil) := by
  simp [h.on, h.runs, h.silent, h.sector]

/-- A PPDU that arrives whole: the level of each station in it counts, its acknowledgements are taken, then its MPDUs (R235, R240). -/
theorem exec_ppduRx (hd : (s.mould sec).rxDrop = false) (level : Int) (ms : List RxMpdu) (acks : List (Nat × List Nat)) :
    exec (.ppduRx sec { level := level, mpdus := ms, acks := acks }) s = .next (takeMpdus sec ms
      (acks.foldl (fun s a => takeAck a.1 a.2 s)
        ((ms.filterMap (·.station) ++ acks.map (·.1)).eraseDups.foldl (fun s k => updSta k (·.heardAt level) s) (s.received sec)))) := by
  change execPpduRx _ _ s = _
  unfold execPpduRx
  dsimp only
  rw [if_neg h.not_deaf, hd]
  rfl

theorem exec_ppduRx_ack (hd : (s.mould sec).rxDrop = false) (k : Nat) (hs : List Nat) (level : Int) :
    exec (.ppduRx sec { level := level, acks := [(k, hs)] }) s =
      .next (takeAck k hs (updSta k (·.heardAt level) (s.received sec))) :=
  h.exec_ppduRx hd level [] [(k, hs)]

theorem exec_ppduRx_mpdu (hd : (s.mould sec).rxDrop = false) {m : RxMpdu} (hk : m.station = some k) (level : Int) :
    exec (.ppduRx sec { level := level, mpdus := [m] }) s =
      .next (takeMpdus sec [m] (updSta k (·.heardAt level) (s.received sec))) := by
  rw [h.exec_ppduRx hd level [m] [], List.filterMap_cons_some hk]
  rfl

end State.Listens

/-- A null frame of a station on its link, in the clear, moves its power state on that link (R227). -/
theorem takeMpdus_null {m : RxMpdu} (hk : m.station = some k) (hn : m.kind = .null) (hf : m.fcsOk = true) (hp : m.prot = none)
    (hl : radioOfSector sec ∈ staLinks (t.sta k)) (hs : staSector (t.sta k) (radioOfSector sec) = sec)
    (h : StationBecomes k x s t) : ∃ b, StationBecomes k { x with
      awake := setBit x.awake (radioOfSector sec) (!m.doze), held := decide (setBit x.awake (radioOfSector sec) (!m.doze) = 0)
      buffered := b } s (takeMpdus sec [m] t) := by
  have e : takeMpdus sec [m] t = takeMpdu sec m t := by rw [takeMpdus, List.filter_cons_of_pos hf]; rfl
  have hin : ¬(!(staLinks (t.sta k)).contains (radioOfSector sec) || decide (staSector (t.sta k) (radioOfSector sec) ≠ sec)) = true := by
    simp [hl, hs]
  have ho : openMpdu k m t = (true, t) := by simp [openMpdu, hp, hn]
  have h1 := h.setDoze (radioOfSector sec) m.doze
  rw [e]
  unfold takeMpdu
  simp only [hk]
  rw [if_neg hin, ho, hn]
  cases m.buffered with
  | none => exact ⟨_, h1.wlan (bump_wlan ..)⟩
  | some b => exact ⟨b, (h1.updSta fun x => { x with buffered := b }).wlan (bump_wlan ..)⟩

/-! ### Preambles -/

/-- The receiver of a sector starts a reception (Table 8-5). -/
def State.hearing (s : State) (sec : Nat) (x : Incoming) : State := updWsector sec (fun w => { w with rx := some x }) s

theorem hearing_rx (s : State) (sec : Nat) (x : Incoming) : ((s.hearing sec x).wsector sec).rx = some x := by
  rw [State.hearing, updWsector_wsector_same]

theorem hearing_wsector_ne {x : Incoming} (h : i ≠ sec) : (s.hearing sec x).wsector i = s.wsector i :=
  updWsector_wsector_ne sec i _ s h.symm

/-- The receiver of a sector has given a PPDU up for one that is stronger by `gain` dB, which is counted and reported (R236). -/
def State.captured (s : State) (sec : Nat) (gain : Int) : State :=
  raise Ev.wlanCaptured (radioOfSector sec) (detail [(0, 1, sec), (1, 1, twos 8 gain)]) (bump Prm.wlanCapturedOver (radioOfSector sec) s)

theorem captured_mail (s : State) (sec : Nat) (gain : Int) : Mail s (s.captured sec gain) := (bump_mail ..).trans (raise_mail ..)

namespace State.Listens
variable (h : s.Listens sec)
include h

theorem exec_newPreamble_idle (hx : (s.wsector sec).rx = none) (level : Int) (sol : Bool) :
    exec (.newPreamble sec level sol []) s = .next (s.hearing sec ⟨sol, level⟩) := by
  change execNewPreamble _ _ _ _ s = _
  unfold execNewPreamble
  dsimp only
  rw [if_neg h.not_deaf, hx]
  rfl

/-- During a PPDU, of which nothing is delivered if it is given up (Table 8-5). -/
theorem exec_newPreamble_busy {x : Incoming} (hx : (s.wsector sec).rx = some x) (level : Int) (sol : Bool) :
    exec (.newPreamble sec level sol []) s = .next (
      if x.solicited then bump Prm.wlanCaptureIgnored (radioOfSector sec) s
      else if s.par Prm.wlanRestartDb (radioOfSector sec) ≠ 0 ∧ x.level + s.par Prm.wlanRestartDb (radioOfSector sec) ≤ level then
        (s.captured sec (level - x.level)).hearing sec ⟨sol, level⟩
      else s) := by
  change execNewPreamble _ _ _ _ s = _
  unfold execNewPreamble
  dsimp only
  rw [if_neg h.not_deaf, hx]
  rfl

end State.Listens

/-! ### Restricted service periods -/

/-- A period whose schedule covers the instant starts, and lasts for what is left of it (R232). -/
theorem exec_restrictedSpStart {n : Nat} (hsec : sec < 8) (hi : i < 32) (ht : s.toSp sec i = some (n, true))
    (hon : s.sectorOn sec = true) (hst : s.stopped (macUnit (radioOfSector sec)) = false)
    (hsp : (s.wradio (radioOfSector sec)).sp = none) (hx : (s.wradio (radioOfSector sec)).txop = none) :
    exec (.restrictedSpStart sec i) s = .next (updWradio (radioOfSector sec) (fun w => { w with sp := some {
      sector := sec
      entry := i
      until_ := s.now + ((s.twt sec i).duration * 1000 -
        (s.tbNs (3 + sec) - (s.twt sec i).start * 1000) % ((s.twt sec i).interval * 1000)) } }) s) := by
  change execRestrictedSpStart sec i s = _
  simp [execRestrictedSpStart, ht, hon, hst, hsp, hx, Nat.not_le.mpr hsec, Nat.not_le.mpr hi]

/-- A period whose members have sent everything ends with no guarantee broken (R232). -/
theorem exec_restrictedSpEnd {p : ServicePeriod} (hp : (s.wradio (radioOfSector sec)).sp = some p) (hs : p.sector = sec)
    (hi : p.entry = i) (hu : p.until_ ≤ s.now) (hb : s.backlogged (radioOfSector sec) = []) (o : Occupant) :
    exec (.restrictedSpEnd sec i o) s = .next (updWradio (radioOfSector sec) (fun w => { w with sp := none }) s) := by
  change execRestrictedSpEnd sec i o s = _
  simp [execRestrictedSpEnd, hp, hs, hi, hb, Nat.not_lt.mpr hu]

/-- Settles O34: each clause is the command's lemma above, of which `StationBecomes` gives the station's new state. -/
theorem sectorsReceiveAndServePeriods : Obligations.SectorsReceiveAndServePeriods := by
  unfold Obligations.SectorsReceiveAndServePeriods
  refine ⟨fun s sec h1 h2 h3 h4 => ?_, fun s sec i hsec hi => ⟨fun n ht hon hst hsp hx => ?_, fun p o hp hs hi hu hb => ?_⟩⟩
  · have h : s.Listens sec := ⟨h1, h2, h3, h4⟩
    refine ⟨fun k hs level hd => ?_, fun k m level hd hk hn hf hp hl hsec => ?_, fun level sol hx => ?_,
      fun level sol x hx => ⟨fun hs => ?_, fun hs hm => ?_⟩⟩
    · have k1 := (received_hears s sec k level).takeAck hs
      have hsector (j : Nat) := congrArg (Tab.get · j) k1.sectors
      exact .of_eq (h.exec_ppduRx_ack hd k hs level) ⟨(congrArg WSector.rx (hsector sec)).trans (received_rx s sec),
        congrArg StaSt.unacked k1.station, congrArg StaSt.levelSum k1.station, congrArg StaSt.levelCount k1.station,
        (congrArg StaSt.awake k1.station :), k1.others, fun j hj => (hsector j).trans (received_wsector_ne hj)⟩
    · obtain ⟨b, k1⟩ := takeMpdus_null (t := updSta k (·.heardAt level) (s.received sec)) hk hn hf hp hl hsec
        (received_hears s sec k level)
      exact .of_eq (h.exec_ppduRx_mpdu hd hk level) ⟨congrArg StaSt.awake k1.station, by rw [k1.station], k1.others⟩
    · exact .of_eq (h.exec_newPreamble_idle hx level sol) ⟨hearing_rx .., rfl, fun j hj => hearing_wsector_ne hj⟩
    · exact .of_pos (h.exec_newPreamble_busy hx level sol) hs ⟨rfl, bump_mail ..⟩
    · refine .of_neg (h.exec_newPreamble_busy hx level sol) (ne_true_of_eq_false hs) ?_
      by_cases hl : x.level + s.par Prm.wlanRestartDb (radioOfSector sec) ≤ level
      · have hv := captured_mail s sec (level - x.level)
        rw [if_pos ⟨hm, hl⟩, if_pos hl]
        refine ⟨hearing_rx .., fun j hj => ?_, (congrArg Wlan.sta hv.wlan :), { hv with wlan := rfl }⟩
        rw [hearing_wsector_ne hj, State.wsector, hv.wlan, ← State.wsector]
      · rw [if_neg fun hc => hl hc.2, if_neg hl]
        exact ⟨hx, fun _ _ => rfl, rfl, .refl s⟩
  · exact .of_eq (exec_restrictedSpStart hsec hi ht hon hst hsp hx)
      ⟨by rw [updWradio_wradio_same], fun q hq => updWradio_wradio_ne _ _ _ _ hq.symm, rfl, rfl⟩
  · exact .of_eq (exec_restrictedSpEnd hp hs hi hu hb o)
      ⟨by rw [updWradio_wradio_same], fun q hq => updWradio_wradio_ne _ _ _ _ hq.symm, rfl⟩

end Sys2Proof.Machine
end

section
/-! ## What the MAC sends -/
namespace Sys2Proof.Machine

variable {s t u : State} {r k h q sec : Nat}

/-! ### PPDUs and packet numbers -/

theorem Mail.trans_wlan (h : Mail { s with wlan := t.wlan } t) (k : Mail { t with wlan := u.wlan } u) :
    Mail { s with wlan := u.wlan } u :=
  .trans (b := { t with wlan := u.wlan }) { h with wlan := rfl } k

section
variable (p : AirPpdu) (s : State)

@[simp] theorem sendPpdu_wradio (j : Nat) : (sendPpdu p s).wradio j = s.wradio j := rfl
@[simp] theorem sendPpdu_wsector (j : Nat) : (sendPpdu p s).wsector j = s.wsector j := rfl

theorem sendPpdu_mail : Mail { s with wlan := (sendPpdu p s).wlan } (sendPpdu p s) := bump_mail ..

/-- A PPDU moves no parameter but its sector's count of PPDUs. -/
theorem sendPpdu_parN {d : ParamDef} {i : Nat} (h : parKey Prm.wlanTxPpdu.id p.sector ≠ parKey d.id i) :
    (sendPpdu p s).parN d i = s.parN d i := by
  change ((_ : Option Int).getD ((State.setPar _ _ _ _).com d i)).toNat = _
  rw [com_setPar_ne _ _ _ _ _ _ h]
  rfl

end

/-- The packet numbers after an MPDU has been protected with a key (R239). -/
def countPn (key : Option Nat) (t : Tab Nat) : Tab Nat := match key with
  | some slot => t.put slot (t.get slot + 1)
  | none => t

/-- The packet number of the next MPDU that is protected with a key (R239). -/
def pnOf (key : Option Nat) (t : Tab Nat) : Nat := match key with
  | some slot => t.get slot + 1
  | none => 0

/-- The MPDU in which the packet of a waybill first goes to a station (R238, R239). -/
def State.mpduFor (s : State) (k h : Nat) : AirMpdu where
  station := some k
  tid := (s.wb h).tid
  pn := pnOf (s.txKeyOf k) s.wlan.txPn
  key := s.txKeyOf k
  data := (s.wb h).data

theorem State.sta_of_active (h : t.cfg.active = s.cfg.active) (k : Nat) : t.sta k = s.sta k := by
  rw [State.sta, State.entryNat, State.entry, h]
  rfl

theorem State.txKeyOf_of_active (h : t.cfg.active = s.cfg.active) (k : Nat) : t.txKeyOf k = s.txKeyOf k := by
  rw [State.txKeyOf, State.sta_of_active h]
  rfl

/-- A packet goes to station `k` for the first time: its key's packet number counts (R239). -/
def State.pnCounted (s : State) (k : Nat) : State := { s with wlan := { s.wlan with txPn := countPn (s.txKeyOf k) s.wlan.txPn } }

theorem firstSend_station (hr : (s.wb h).ring = none) (sec k : Nat) :
    firstSend h sec (some k) s = (s.mpduFor k h, s.pnCounted k) := by
  unfold firstSend
  dsimp only
  rw [hr]
  dsimp only
  unfold State.mpduFor State.pnCounted
  cases s.txKeyOf k <;> rfl

/-! ### Channel access -/

/-- A radio that has won the medium (R219, R220). -/
def State.accessed (s : State) (r : Nat) : State := updWradio r (fun x => { x with
  txop := some (s.now, s.now + min (s.parN Prm.wlanTxopUs r * 1000) (s.toBreak r))
  ac := ((s.sched r).list.map fun a => acOfQueue a.q).foldl max 0 }) s

/-- A TXOP may open with a CTS to self (R237). -/
theorem channelAccess_accesses (hu : u = refreshList r s) (hq : u.radioQuiet r = true) (hl : (u.sched r).list ≠ [])
    (hx : (u.wradio r).txop = none) (hr : (u.wradio r).round = none) (hb : (u.wradio r).beaconsOnly = false) :
    Answers (.channelAccess r) s fun t => t = u.accessed r ∨ ∃ k, t = sendControl k .ctsToSelf (u.accessed r) := by
  subst hu
  refine .of_neg rfl (by simp [hq, hl, hx, hr, hb]) ?_
  dsimp only
  split
  · split
    · exact .inr ⟨_, rfl⟩
    · exact .inl rfl
  · exact .inl rfl

/-! ### Transmit intervals -/

/-- From `s` to `t` nothing is sent, and the radios, the packets, the time, the tables in force and the events stay. -/
structure NothingSent (s t : State) : Prop where
  radio : t.wlan.radio = s.wlan.radio
  sent : t.wlan.sent = s.wlan.sent
  pkt : t.pkt = s.pkt
  time : t.time = s.time
  active : t.cfg.active = s.cfg.active
  evt : t.evt = s.evt

namespace NothingSent

theorem trans (h : NothingSent s t) (h' : NothingSent t u) : NothingSent s u :=
  ⟨h'.radio.trans h.radio, h'.sent.trans h.sent, h'.pkt.trans h.pkt, h'.time.trans h.time, h'.active.trans h.active,
    h'.evt.trans h.evt⟩

theorem bumpBy (p : ParamDef) (i n : Nat) (s : State) : NothingSent s (bumpBy p i n s) := ⟨rfl, rfl, rfl, rfl, rfl, rfl⟩

theorem updSta (k : Nat) (f : StaSt → StaSt) (s : State) : NothingSent s (updSta k f s) := ⟨rfl, rfl, rfl, rfl, rfl, rfl⟩

theorem pnCounted (s : State) (k : Nat) : NothingSent s (s.pnCounted k) := ⟨rfl, rfl, rfl, rfl, rfl, rfl⟩

end NothingSent

/-- Station `k` has nothing to send again: no MPDU has failed, and none is retried. -/
def State.nothingAgain (s : State) (k : Nat) : State :=
  updSta k (fun x => { x with unacked := [] }) (bumpBy Prm.staTxRetry k 0 (bumpBy Prm.staTxFail k 0 s))

theorem nothingAgain_nothingSent (s : State) (k : Nat) : NothingSent s (s.nothingAgain k) :=
  ((NothingSent.bumpBy ..).trans (.bumpBy ..)).trans (.updSta ..)

theorem nothingAgain_station (s : State) (k : Nat) : StationBecomes k { s.staSt k with unacked := [] } s (s.nothingAgain k) :=
  (((StationBecomes.refl k s).wlan (bumpBy_wlan ..)).wlan (bumpBy_wlan ..)).updSta fun x => { x with unacked := [] }

theorem nothingAgain_txKeyOf (s : State) (k : Nat) : (s.nothingAgain k).txKeyOf k = s.txKeyOf k :=
  State.txKeyOf_of_active (nothingAgain_nothingSent s k).active k

theorem nothingAgain_mpduFor (s : State) (k h : Nat) : (s.nothingAgain k).mpduFor k h = s.mpduFor k h := by
  rw [State.mpduFor, nothingAgain_txKeyOf]
  rfl

/-- An MPDU that awaits its acknowledgement, and the waybill of its packet (R240). -/
def AirMpdu.pending (m : AirMpdu) (h : Nat) : AirPending := { handle := h, tid := m.tid, pn := m.pn, key := m.key }

/-- With nothing to send again a station is served with what the MAC holds for it, and the MPDU awaits its acknowledgement (R240). -/
theorem serveStation_one (hu : (s.staSt k).unacked = []) (hr : (s.wb h).ring = none) (r : Nat) :
    ∃ t x, serveStation r k [h] s = ([s.mpduFor k h], t) ∧ NothingSent s t ∧ t.wlan.txPn = countPn (s.txKeyOf k) s.wlan.txPn ∧
      StationBecomes k x s t ∧ x.unacked = [(s.mpduFor k h).pending h] := by
  have e := firstSend_station (s := s.nothingAgain k) hr (staSector (s.sta k) r) k
  let v := (s.nothingAgain k).pnCounted k
  have hv : StationBecomes k { s.staSt k with unacked := [] } s v := (nothingAgain_station s k).same rfl rfl
  let w := updSta k (fun x => { x with unacked := x.unacked ++ [(s.mpduFor k h).pending h] }) v
  refine ⟨updSta k (fun x => { x with served := x.served.put r (w.now + 1) }) w, _, ?_,
    (((nothingAgain_nothingSent s k).trans (.pnCounted ..)).trans (.updSta ..)).trans (.updSta ..),
    congrArg (countPn · s.wlan.txPn) (nothingAgain_txKeyOf s k), (hv.updSta _).updSta _, rfl⟩
  rw [nothingAgain_mpduFor] at e
  unfold w v State.nothingAgain
  unfold State.nothingAgain at e
  unfold serveStation
  simp only [hu, List.filter_nil, List.foldl_nil, List.map_nil, List.length_nil, List.foldl_cons, List.nil_append, e]
  rfl

theorem openEmlsr_not_emlsr (h : staMode (s.sta k) ≠ 3) : openEmlsr r k s = s := if_neg fun hc => h hc.1

theorem takeUsers_one {x : Interval} {e : Nat} (hp : x.precoded = false) (hc : s.canServe r x e k = true) (cap : Nat) :
    takeUsers s r cap x e [k] = [k] := by
  simp [takeUsers, hp, hc]

theorem serveGroup_nil (sec : Nat) (s : State) : serveGroup sec [] s = ([], s) := rfl

/-- The cover interval of `us` µs in which sector `sec` serves station `k` alone. -/
def coverOf (sec k us : Nat) : Interval := { precoded := false, sector := sec, users := [k], durUs := us }

/-- Sector `sec` of radio `r` sends an interval's MPDUs, and the radio is on the air until `e` (R216, R219). -/
def sendInterval (r sec e : Nat) (ms : List AirMpdu) (s : State) : State :=
  let s := updMould sec (fun m => { m with txZero := false }) s
  let s := sendPpdu { sector := sec, kind := .data, tsf := s.tsf sec, mpdus := ms } s
  let s := updBeam r (fun b => { b with sectors := [sec], stations := [], orphans := [] }) s
  updWradio r (fun y => { y with
    txUntil := e, air := (y.air.filter fun x => decide (s.now < x.2 + 10000000)) ++ [(s.now, e)] }) s

section
variable (s : State) (r sec e : Nat) (ms : List AirMpdu)

theorem sendInterval_txUntil : ((sendInterval r sec e ms s).wradio r).txUntil = e := by
  rw [sendInterval, updWradio_wradio_same]

theorem sendInterval_wradio_ne {j : Nat} (h : j ≠ r) : (sendInterval r sec e ms s).wradio j = s.wradio j := by
  rw [sendInterval, updWradio_wradio_ne _ _ _ _ h.symm]
  rfl

theorem sendInterval_sent : (sendInterval r sec e ms s).wlan.sent =
    s.wlan.sent ++ [{ sector := sec, kind := .data, tsf := s.tsf sec, mpdus := ms }] := rfl

end

/-- Sector `sec` of radio `r` may send an interval of `us` µs: the radio is free, its TXOP lasts that long, the power cap allows it,
and neither a sounding round nor a channel switch is in the way (R216, R219, R223, R243, R495). -/
structure State.MaySend (s : State) (r sec us : Nat) : Prop where
  quiet : s.radioQuiet r = true
  txop : ∃ start e, (s.wradio r).txop = some (start, e) ∧ s.now + us * 1000 ≤ e
  airtime : s.airtimeOk r (s.now + us * 1000) = true
  round : (s.wradio r).round = none
  open_ : (s.wradio r).beaconsOnly = false
  sector : sec ∈ s.enabledSectors r

/-- The one packet `h` that the MAC holds for the radio is station `k`'s: it is sent, and awaits its acknowledgement (R239, R240). -/
theorem State.MaySend.exec_txInterval {us : Nat} (hs : s.MaySend r sec us) (hk : staSector (s.sta k) r = sec)
    (hm : staMode (s.sta k) ≠ 3) (hu : (s.staSt k).unacked = []) (hw : (s.wb h).ring = none) (ho : (s.sched r).out = [(h, q)])
    (hqk : q / 8 = k) (hlt : q < 16384) (hc : s.canServe r (coverOf sec k us) (s.now + us * 1000) k = true) :
    ∃ v x, exec (.txInterval r (coverOf sec k us)) s = .next (sendInterval r sec (s.now + us * 1000) [s.mpduFor k h] v) ∧
      NothingSent s v ∧ v.wlan.txPn = countPn (s.txKeyOf k) s.wlan.txPn ∧
      StationBecomes k x s v ∧ x.unacked = [(s.mpduFor k h).pending h] := by
  let v0 := updSched r (fun y => { y with out := [] }) s
  obtain ⟨v, x, (hv : serveStation r k [h] v0 = ([s.mpduFor k h], v)), hframe, hpn, hsta, hunacked⟩ :=
    serveStation_one (s := v0) hu hw r
  refine ⟨v, x, ?_, ⟨hframe.radio, hframe.sent, hframe.pkt, hframe.time, hframe.active, hframe.evt⟩, hpn,
    ⟨hsta.station, hsta.others, hsta.sectors⟩, hunacked⟩
  obtain ⟨start, e, hx, he⟩ := hs.txop
  have husers : takeUsers s r (s.streamCap r) (coverOf sec k us) (s.now + us * 1000) [k].eraseDups = [k] := takeUsers_one rfl hc _
  have hks : staSector (v.sta k) r = sec := (congrArg (staSector · r) (State.sta_of_active hframe.active k)).trans hk
  change execTxInterval r _ s = _
  unfold execTxInterval
  dsimp only
  rw [if_neg (by simp [hs.quiet, hx, he, hs.airtime, hs.round, hs.open_, hs.sector, coverOf])]
  unfold coverOf at *
  unfold v0 at hv
  simp [husers, openEmlsr_not_emlsr hm, ho, hlt, hqk, hv, serveGroup_nil, hks, sendInterval]

/-! ### Beacons and discovery frames -/

theorem switchWaiting_idle (h : s.cfg.tables = []) (id inst : Nat) : switchWaiting id inst s = s :=
  if_neg (by rw [State.tabState, h]; exact Bool.false_ne_true)

theorem unitTakes_idle (hc : s.cfg.commits = []) (ho : s.cfg.old = []) (g n : Nat) : unitTakes g n s = ([], s) := by
  unfold unitTakes
  simp only [hc, ho, List.map_nil, List.filter_nil, List.foldl_nil, Prod.mk.injEq, true_and]
  rw [← hc, ← ho]

theorem checkBeaconsOnly_off (h : (s.wradio r).beaconsOnly = false) : checkBeaconsOnly r s = s :=
  if_neg (by simp [h])

section
variable (f : WSector → WSector) (s : State)
@[simp] theorem updWsector_now : (updWsector k f s).now = s.now := rfl
@[simp] theorem updWsector_tsf (j : Nat) : (updWsector k f s).tsf j = s.tsf j := rfl
@[simp] theorem updWsector_parN (p : ParamDef) (j : Nat) : (updWsector k f s).parN p j = s.parN p j := rfl
@[simp] theorem updWsector_timOf (j : Nat) : (updWsector k f s).timOf j = s.timOf j := rfl
@[simp] theorem updWsector_quietPlan (j : Nat) : (updWsector k f s).quietPlan j = s.quietPlan j := rfl
@[simp] theorem updWsector_quietNow (j : Nat) : (updWsector k f s).quietNow j = s.quietNow j := rfl
@[simp] theorem updWradio_parN (g : WRadio → WRadio) (p : ParamDef) (j : Nat) : (updWradio r g s).parN p j = s.parN p j := rfl
end

/-- A sector at its TBTT, whose DTIM counts and whose parameters stay (R242). -/
def State.atTbtt (s : State) (sec : Nat) : State :=
  updWsector sec (fun w => { w with
    dtim := if w.dtim = 0 then s.parN Prm.wlanDtim sec - 1 else w.dtim - 1, lastAd := s.now })
    (updWsector sec (fun w => { w with lastTbtt := s.tsf sec / s.beaconUs sec * s.beaconUs sec }) s)

theorem atTbtt_wsector (s : State) (sec : Nat) : (s.atTbtt sec).wsector sec = { s.wsector sec with
    lastTbtt := s.tsf sec / s.beaconUs sec * s.beaconUs sec
    dtim := if (s.wsector sec).dtim = 0 then s.parN Prm.wlanDtim sec - 1 else (s.wsector sec).dtim - 1
    lastAd := s.now } := by
  rw [State.atTbtt, updWsector_wsector_same, updWsector_wsector_same]

theorem atTbtt_wsector_ne (h : k ≠ sec) : (s.atTbtt sec).wsector k = s.wsector k := by
  rw [State.atTbtt, updWsector_wsector_ne _ _ _ _ h.symm, updWsector_wsector_ne _ _ _ _ h.symm]

/-- The beacon of a sector with no channel switch and no quiet interval announced (R242). -/
def State.beacon (s : State) (sec : Nat) : AirPpdu where
  sector := sec
  kind := .beacon
  tsf := s.tsf sec
  info := [(s.wsector sec).dtim, 0, (s.wsector sec).changes] ++ s.timOf sec

theorem atTbtt_beacon (s : State) (sec : Nat) : (s.atTbtt sec).beacon sec = { sector := sec, kind := .beacon, tsf := s.tsf sec, info :=
    [((s.atTbtt sec).wsector sec).dtim, 0, (s.wsector sec).changes] ++ s.timOf sec } := by
  rw [State.beacon, atTbtt_wsector]
  rfl

theorem atTbtt_frame (s : State) (sec : Nat) : (s.atTbtt sec).wlan.sent = s.wlan.sent ∧ (s.atTbtt sec).wlan.sta = s.wlan.sta ∧
    (s.atTbtt sec).evt = s.evt ∧ Mail { s with wlan := (s.atTbtt sec).wlan } (s.atTbtt sec) := ⟨rfl, rfl, rfl, .refl _⟩

/-- Nothing waits for the TBTT of a sector of radio `r`: no TXOP runs, no commit, table or channel switch is under way, and no quiet
interval is announced (R241 to R243, R460). -/
structure State.TbttIdle (s : State) (r : Nat) : Prop where
  txop : (s.wradio r).txop = none
  switching : (s.wradio r).switching = false
  commits : s.cfg.commits = []
  old : s.cfg.old = []
  tables : s.cfg.tables = []
  open_ : (s.wradio r).beaconsOnly = false
  announce : (s.wradio r).announce = []
  quiet : s.quietPlan r = none

theorem State.TbttIdle.quietNow (h : s.TbttIdle r) : s.quietNow r = none := by rw [State.quietNow, h.quiet, Option.map_none]

section
variable (hsec : sec < 8) (hon : s.sectorOn sec = true) (hst : s.stopped (macUnit (radioOfSector sec)) = false)
include hsec hon hst

/-- A beacon in time, of a sector for whose TBTT nothing waits (R241, R242). -/
theorem exec_tbtt_beacon (hl : (s.wsector sec).lastTbtt < s.tsf sec / s.beaconUs sec * s.beaconUs sec)
    (h : s.TbttIdle (radioOfSector sec)) {us : Nat} (hu : us ≤ s.parN Prm.wlanBeaconLateUs 0) (o : Occupant) :
    ∃ f : WRadio → WRadio, exec (.tbtt sec us o) s =
      .next (updWradio (radioOfSector sec) f (sendPpdu ((s.atTbtt sec).beacon sec) (s.atTbtt sec))) := by
  refine ⟨fun w => { w with sp := w.sp.map fun p => { p with beacon := true } }, ?_⟩
  have hkey : parKey Prm.wlanTxPpdu.id sec ≠ parKey Prm.wlanBeaconLateUs.id 0 := by
    simp only [parKey, Prm.wlanTxPpdu, Prm.wlanBeaconLateUs]
    omega
  change execTbtt sec us o s = _
  unfold execTbtt
  dsimp only
  rw [if_neg (by simp [hon, hst, hl, hsec])]
  simp [switchWaiting_idle, unitTakes_idle, finishCommits_nil, checkBeaconsOnly_off, h.tables, h.commits, h.old, h.open_, h.txop,
    h.switching, h.announce, h.quiet, h.quietNow, State.atTbtt, State.beacon, sendPpdu_parN, hkey, Nat.not_lt.mpr hu]

theorem exec_filsDiscovery_sends (hr : radioOfSector sec = 2) (hf : s.parN Prm.wlanFilsTu sec ≠ 0)
    (hx : (s.wradio 2).txUntil ≤ s.now) (hq : s.inQuiet 2 = false) (hb : (s.wradio 2).beaconsOnly = false)
    (hl : (s.wsector sec).lastAd + s.parN Prm.wlanFilsTu sec * 1024000 ≤ s.now) :
    exec (.filsDiscovery sec) s = .next (sendControl sec .fils (updWsector sec (fun w => { w with lastAd := s.now }) s)) := by
  change execFilsDiscovery sec s = _
  unfold execFilsDiscovery
  rw [hr] at hst ⊢
  exact congrArg _ (if_neg (by simp [hon, hst, hf, hq, hb, Nat.not_lt.mpr hx, Nat.not_lt.mpr hl, hsec]))

end

/-- Settles O33: each clause is the command's lemma above, which names the state that the command leaves. -/
theorem radiosSendInTheirIntervals : Obligations.RadiosSendInTheirIntervals := by
  unfold Obligations.RadiosSendInTheirIntervals
  refine ⟨fun s r hr hq hl hx hro hb => ?_,
    fun s r k h q us e start sec hr hq hx he ha hro hb hsec hk hm hu hw ho hqk hlt hc => ?_,
    fun s sec hsec hon hst => ⟨fun us o hl hx hw hc ho ht hb ha hp hu => ?_, fun hr hf hx hq hb hl => ?_⟩⟩
  · generalize hu : refreshList r s = u at hq hl hx hro hb ⊢
    have hac : (u.accessed r).wradio r = _ := updWradio_wradio_same ..
    have hne (q : Nat) (hq : q ≠ r) : (u.accessed r).wradio q = u.wradio q := updWradio_wradio_ne _ _ _ _ hq.symm
    refine (channelAccess_accesses hu.symm hq hl hx hro hb).imp ?_
    rintro t (rfl | ⟨k, rfl⟩)
    · exact ⟨congrArg WRadio.txop hac, congrArg WRadio.ac hac, hne, rfl, rfl, .refl _⟩
    · exact ⟨congrArg WRadio.txop hac, congrArg WRadio.ac hac, hne, rfl, rfl, .trans_wlan (.refl _) (sendPpdu_mail ..)⟩
  · obtain ⟨v, x, hv, hframe, hpn, hsta, hunacked⟩ :=
      State.MaySend.exec_txInterval ⟨hq, ⟨start, e, hx, he⟩, ha, hro, hb, hsec⟩ hk hm hu hw ho hqk hlt hc
    have hsent := sendInterval_sent v r sec (s.now + us * 1000) [s.mpduFor k h]
    have htsf : v.tsf sec = s.tsf sec := by
      rw [State.tsf, State.tbNs, hframe.time]
      rfl
    rw [hframe.sent, htsf] at hsent
    refine .of_eq hv ⟨sendInterval_txUntil .., ?_, ?_, ?_, ?_, ?_, fun hkey => ?_, fun slot hkey => ⟨?_, ?_⟩, ?_, hsta.others,
      fun p hp => ?_, hframe.pkt, hframe.evt⟩
    · rw [hsent, List.length_append, List.length_singleton]
    · rw [hsent, List.take_left]
    iterate 3 rw [hsent, List.getLast?_concat]; rfl
    · exact hpn.trans (by rw [hkey, countPn])
    · exact (congrArg (Tab.get · slot) hpn).trans (by rw [hkey, countPn, Tab.get_put_same])
    · rw [hsent, List.getLast?_concat]
      simp [State.mpduFor, hkey, pnOf]
    · exact (congrArg (fun x : StaSt => x.unacked.map fun p => p.handle) hsta.station).trans (by rw [hunacked])
    · rw [sendInterval_wradio_ne _ _ _ _ _ hp, State.wradio, hframe.radio, ← State.wradio]
  · obtain ⟨f, hv⟩ := exec_tbtt_beacon hsec hon hst hl ⟨hx, hw, hc, ho, ht, hb, ha, hp⟩ hu o
    refine .of_eq hv ?_
    have hat := atTbtt_wsector s sec
    have hne (j : Nat) (h : j ≠ sec) := atTbtt_wsector_ne (s := s) h
    rw [atTbtt_beacon s sec]
    obtain ⟨hsent, hsta, hevt, hmail⟩ := atTbtt_frame s sec
    generalize s.atTbtt sec = v at hat hne hsent hsta hevt hmail ⊢
    refine ⟨congrArg WSector.lastTbtt hat, congrArg WSector.lastAd hat, (congrArg WSector.changes hat :), congrArg WSector.dtim hat,
      congrArg (· ++ _) hsent, hne, hsta, hevt, (hmail.trans_wlan (sendPpdu_mail ..)).trans_wlan (.refl _)⟩
  · refine .of_eq (exec_filsDiscovery_sends hsec hon hst hr hf hx hq hb hl) ⟨?_, rfl, fun j hj => ?_, rfl,
      .trans_wlan (.refl _) (sendPpdu_mail ..)⟩
    · rw [sendControl, sendPpdu_wsector, updWsector_wsector_same]
    · rw [sendControl, sendPpdu_wsector, updWsector_wsector_ne _ _ _ _ hj.symm]

end Sys2Proof.Machine
end

section
/-! ## Words, status bits and registers of a Ladle engine -/
namespace Sys2Proof

variable {w : Nat} {v : Int}

theorem two_pow_eq_double (hw : 0 < w) : (2 : Nat) ^ w = 2 * 2 ^ (w - 1) := by
  rw [← pow_succ', Nat.sub_add_cancel hw]

/-- A pattern read as a signed number differs from it by a multiple of 2^w. -/
theorem signed_emod (w n : Nat) : signed w n % ((2 ^ w : Nat) : Int) = ((n % 2 ^ w : Nat) : Int) := by
  unfold signed
  split <;> simp

theorem twos_signed (w n : Nat) : twos w (signed w n) = n % 2 ^ w := by
  rw [twos, signed_emod, Int.toNat_natCast]

theorem natCast_twos (w : Nat) (v : Int) : (twos w v : Int) = v % ((2 ^ w : Nat) : Int) :=
  Int.toNat_of_nonneg (Int.emod_nonneg v (by positivity))

theorem signed_bounds (hw : 0 < w) (n : Nat) : -((2 ^ (w - 1) : Nat) : Int) ≤ signed w n ∧ signed w n < ((2 ^ (w - 1) : Nat) : Int) := by
  have h := two_pow_eq_double hw
  have hn := Nat.mod_lt n (show 0 < 2 ^ w by positivity)
  unfold signed
  split <;> omega

theorem signed_twos (hw : 0 < w) (h : -((2 ^ (w - 1) : Nat) : Int) ≤ v) (k : v < ((2 ^ (w - 1) : Nat) : Int)) : signed w (twos w v) = v := by
  have hd := two_pow_eq_double hw
  have ht := natCast_twos w v
  have hl := twos_lt w v
  unfold signed
  rw [Nat.mod_eq_of_lt hl]
  rcases lt_or_ge v 0 with hv | hv
  · rw [← Int.add_emod_right, Int.emod_eq_of_lt (by omega) (by omega)] at ht
    rw [if_neg (by omega)]
    omega
  · rw [Int.emod_eq_of_lt hv (by omega)] at ht
    rw [if_pos (by omega)]
    exact ht

theorem signed_eq_zero (w n : Nat) : signed w n = 0 ↔ n % 2 ^ w = 0 := by
  have h := Nat.mod_lt n (show 0 < 2 ^ w by positivity)
  have hp : 0 < 2 ^ (w - 1) := by positivity
  unfold signed
  split <;> omega

theorem signed_neg (hw : 0 < w) (n : Nat) : signed w n < 0 ↔ 2 ^ (w - 1) ≤ n % 2 ^ w := by
  have h := Nat.mod_lt n (show 0 < 2 ^ w by positivity)
  have hd := two_pow_eq_double hw
  unfold signed
  split <;> omega

theorem sat_bounds (v : Int) (n : Nat) : -((2 ^ (n - 1) : Nat) : Int) ≤ sat v n ∧ sat v n < ((2 ^ (n - 1) : Nat) : Int) := by
  have h : (0 : Int) < 2 ^ (n - 1) := by positivity
  unfold sat
  push_cast
  split_ifs <;> omega

end Sys2Proof
end

section
namespace Sys2Proof.Machine

/-! ### Status bits -/

theorem Bank.flag_setFlag (b : Bank) (n m : Nat) (v : Bool) : (b.setFlag n v).flag m = if m = n then v else b.flag m := testBit_setBit ..

theorem Bank.flag_stick (b : Bank) (n m : Nat) (v : Bool) : (b.stick n v).flag m = (b.flag m || (decide (m = n) && v)) := by
  cases v
  · simp [stick]
  · simp only [stick, if_true, flag_setFlag]
    split <;> simp [*]

theorem Bank.flag_zn (b : Bank) (r : Int) (m : Nat) :
    (b.zn r).flag m = if m = St.n then decide (r < 0) else if m = St.z then decide (r = 0) else b.flag m := by
  rw [zn, flag_setFlag, flag_setFlag]

@[simp] theorem Bank.flag_setD (b : Bank) (d v m : Nat) : (b.setD d v).flag m = b.flag m := rfl
@[simp] theorem Bank.flag_setAcc (b : Bank) (k m : Nat) (v : Int) : (b.setAcc k v).flag m = b.flag m := rfl

theorem Bank.stick_eq (b : Bank) (n : Nat) (v : Bool) : b.stick n v = { b with st := (b.stick n v).st } := by
  cases v <;> rfl

/-! ### Results in a general register -/

/-- A word in general register d with its Z and N (R261), after `c` has stuck to SV. -/
def Bank.result (b : Bank) (c : Bool) (d v : Nat) : Bank := ((b.stick St.sv c).setD d v).zn (signed 32 v)

theorem Bank.result_takes (b : Bank) (c : Bool) (d v : Nat) : b.TakesD (b.result c d v) d v where
  value := Tab.get_put_same ..
  zero := by rw [result, flag_zn, if_neg (by decide), if_pos rfl, decide_eq_decide, signed_eq_zero]
  negative := by rw [result, flag_zn, if_pos rfl, decide_eq_decide, signed_neg (by decide)]
  others k hk := by
    rw [result, Bank.stick_eq]
    exact Tab.get_put_ne _ _ _ _ hk.symm
  rest := by
    rw [result, Bank.stick_eq]
    rfl

theorem Bank.flag_result (b : Bank) (c : Bool) (d v m : Nat) (hz : m ≠ St.z) (hn : m ≠ St.n) :
    (b.result c d v).flag m = (b.flag m || (decide (m = St.sv) && c)) := by
  rw [result, flag_zn, if_neg hn, if_neg hz, flag_setD, flag_stick]

theorem Bank.result_keeps (b : Bank) (c : Bool) (d v : Nat) : b.Keeps (b.result c d v) [St.c, St.v, St.im, St.rnd, St.ie] := by
  have h : ∀ m ∈ [St.c, St.v, St.im, St.rnd, St.ie], m ≠ St.z ∧ m ≠ St.n ∧ m ≠ St.sv := by decide
  intro m hm
  obtain ⟨hz, hn, hs⟩ := h m hm
  rw [flag_result _ _ _ _ _ hz hn, decide_eq_false hs, Bool.false_and, Bool.or_false]

theorem Bank.result_saturates (b : Bank) (c : Bool) (d v : Nat) : (b.result c d v).flag St.sv = (b.flag St.sv || c) := by
  rw [flag_result _ _ _ _ _ (by decide) (by decide), decide_eq_true rfl, Bool.true_and]

/-- A result that does not saturate leaves SV too. -/
theorem Bank.result_plain (b : Bank) (d v : Nat) :
    b.TakesD (b.result false d v) d v ∧ b.Keeps (b.result false d v) [St.c, St.v, St.sv, St.im, St.rnd, St.ie] := by
  have h : ∀ m ∈ [St.c, St.v, St.sv, St.im, St.rnd, St.ie], m ≠ St.z ∧ m ≠ St.n := by decide
  refine ⟨b.result_takes .., fun m hm => ?_⟩
  obtain ⟨hz, hn⟩ := h m hm
  rw [flag_result _ _ _ _ _ hz hn, Bool.and_false, Bool.or_false]

theorem Bank.result_sticks (b : Bank) (c : Bool) (d v : Nat) :
    b.TakesD (b.result c d v) d v ∧ (b.result c d v).flag St.sv = (b.flag St.sv || c) ∧
      b.Keeps (b.result c d v) [St.c, St.v, St.im, St.rnd, St.ie] :=
  ⟨b.result_takes .., b.result_saturates .., b.result_keeps c d v⟩

/-- A result of two halves, each of which may have saturated. -/
theorem Bank.result_sticks_or (b : Bank) (c k : Bool) (d v : Nat) :
    b.TakesD (b.result (c || k) d v) d v ∧ (b.result (c || k) d v).flag St.sv = (b.flag St.sv || c || k) ∧
      b.Keeps (b.result (c || k) d v) [St.c, St.v, St.im, St.rnd, St.ie] := by
  rw [Bool.or_assoc]
  exact b.result_sticks ..

theorem Bank.TakesD.congr {a b : Bank} {d v w : Nat} (h : a.TakesD b d v) (e : v % 2 ^ 32 = w % 2 ^ 32) : a.TakesD b d w :=
  ⟨h.value.trans e, e ▸ h.zero, e ▸ h.negative, h.others, h.rest⟩

/-- A status bit other than Z and N set afterwards. -/
theorem Bank.TakesD.setFlag {a b : Bank} {d v n : Nat} (h : a.TakesD b d v) (x : Bool) (hz : St.z ≠ n) (hn : St.n ≠ n) :
    a.TakesD (b.setFlag n x) d v where
  value := h.value
  zero := by rw [flag_setFlag, if_neg hz, h.zero]
  negative := by rw [flag_setFlag, if_neg hn, h.negative]
  others := h.others
  rest := by
    conv_lhs => rw [h.rest]
    rfl

/-! ### The bank in use -/

section
variable (x : Ladle) (b c : Bank)

@[simp] theorem Ladle.setBank_bank : (x.setBank b).bank = b := by
  unfold Ladle.setBank Ladle.bank
  split <;> simp [*]

@[simp] theorem Ladle.setBank_self : x.setBank x.bank = x := by
  unfold Ladle.setBank Ladle.bank
  split <;> rfl

@[simp] theorem Ladle.setBank_setBank : (x.setBank b).setBank c = x.setBank c := by
  unfold Ladle.setBank
  split <;> simp [*]

/-- What a change of the bank in use leaves. -/
theorem Ladle.setBank_eq : x.setBank b = { x with bank0 := (x.setBank b).bank0, bank1 := (x.setBank b).bank1 } := by
  unfold Ladle.setBank
  split <;> rfl

end

/-! ### What an issue answers -/

section
variable {i : Instr} {e : Nat} {s : State}

theorem issue_ok {ends : Bool} {op : Ladle → Issue} {y : Ladle} (hc : s.canIssue e = true) (ho : op (s.eng e) = .ok y)
    (hl : (ends && (s.eng e).atLoopEnd) = false) : issue e ends op s = .next (updEng e (fun _ => y.nextWord.age) s) := by
  simp [issue, hc, hl, ho]

theorem Issues.of_issue {op : Ladle → Issue} {y : Ladle} {P : Ladle → Prop} (hi : exec i s = issue e false op s) (hc : s.canIssue e = true)
    (ho : op (s.eng e) = .ok y) (h : P y) : Issues i e s P :=
  ⟨y, hi.trans (issue_ok hc ho rfl), h⟩

theorem IssuesBank.of_issue {op : Ladle → Issue} {b : Bank} {P : Bank → Prop} (hi : exec i s = issue e false op s)
    (hc : s.canIssue e = true) (ho : op (s.eng e) = .ok ((s.eng e).setBank b)) (h : P b) : IssuesBank i e s P :=
  Issues.of_issue hi hc ho (by simpa using h)

/-- A format A instruction whose operand fields name registers of their kinds acts on the bank in use (R256, R261). -/
theorem register_ok {f : FmtA} {d a b : Kind} (op : Bank → Bank) (x : Ladle) (hr : f.rsv = 0) (hd : d.admits f.d = true)
    (ha : a.admits f.a = true) (hb : b.admits f.b = true) : register f d a b op x = .ok (x.setBank (op x.bank)) := by
  simp [register, hr, hd, ha, hb]

theorem IssuesBank.of_register {f : FmtA} {d a b : Kind} {op : Bank → Bank} {P : Bank → Prop}
    (hi : exec i s = issue e false (register f d a b op) s) (hc : s.canIssue e = true) (hr : f.rsv = 0) (hd : d.admits f.d = true)
    (ha : a.admits f.a = true) (hb : b.admits f.b = true) (h : P (op (s.eng e).bank)) : IssuesBank i e s P :=
  IssuesBank.of_issue hi hc (register_ok op _ hr hd ha hb) h

theorem Kind.gen_admits {c : Nat} (h : c < 8) : Kind.gen.admits c = true := decide_eq_true h

theorem Kind.acc_admits {c : Nat} (h : 12 ≤ c) (k : c < 16) : Kind.acc.admits c = true := by simp [admits, isA, h, k]

theorem Kind.any_admits {c : Nat} (h : c < 16) : Kind.any.admits c = true := decide_eq_true h

end

end Sys2Proof.Machine
end

section
namespace Sys2Proof.Machine

variable {e : Nat} {s : State}

/-! ### Halves of a word -/

theorem im_bounds (v : Nat) : -32768 ≤ im v ∧ im v < 32768 := signed_bounds (by decide) _

theorem sat_neg_im_ne (v : Nat) : sat (-(im v)) 16 ≠ -(im v) ↔ im v = -32768 := by
  have h := im_bounds v
  unfold sat
  norm_num
  split_ifs <;> omega

theorem complexWord_swapped (v : Nat) : complexWord (im v) (re v) = v % 65536 * 65536 + v / 65536 % 65536 := by
  rw [complexWord, im, re, twos_signed, twos_signed]
  omega

/-! ### Sums, differences and comparisons -/

/-- ADD and SUB put their sum or difference in the destination, and their carry or borrow in C (R261). -/
theorem Bank.addSubD_eq (b : Bank) (f : FmtA) (sub : Bool) {t : Int}
    (ht : t = if sub then signed 32 (b.dOf f.a) - signed 32 (b.dOf f.b) else signed 32 (b.dOf f.a) + signed 32 (b.dOf f.b)) :
    b.addSubD f sub = (b.result (f.s && decide (sat t 32 ≠ t)) f.d (twos 32 (if f.s then sat t 32 else t))).setFlag St.c
      (if sub then decide (b.dOf f.a < b.dOf f.b) else decide (2 ^ 32 ≤ b.dOf f.a + b.dOf f.b)) := by
  subst ht
  unfold addSubD addSub
  cases f.s <;> rfl

theorem Bank.result_carries (b : Bank) (c k : Bool) (d v : Nat) :
    b.TakesD ((b.result c d v).setFlag St.c k) d v ∧ ((b.result c d v).setFlag St.c k).flag St.c = k ∧
      ((b.result c d v).setFlag St.c k).flag St.sv = (b.flag St.sv || c) ∧
      b.Keeps ((b.result c d v).setFlag St.c k) [St.v, St.im, St.rnd, St.ie] := by
  have h : ∀ m ∈ [St.v, St.im, St.rnd, St.ie], m ≠ St.c ∧ m ∈ [St.c, St.v, St.im, St.rnd, St.ie] := by decide
  refine ⟨(b.result_takes c d v).setFlag k (by decide) (by decide), by rw [flag_setFlag, if_pos rfl],
    by rw [flag_setFlag, if_neg (by decide), result_saturates], fun m hm => ?_⟩
  rw [flag_setFlag, if_neg (h m hm).1, b.result_keeps c d v m (h m hm).2]

/-- ADD16 and SUB16 put each half's sum or difference in its half of the destination. -/
theorem Bank.addSubHalves_eq (b : Bank) (f : FmtA) (sub : Bool) {t u : Int}
    (ht : t = if sub then re (b.dOf f.a) - re (b.dOf f.b) else re (b.dOf f.a) + re (b.dOf f.b))
    (hu : u = if sub then im (b.dOf f.a) - im (b.dOf f.b) else im (b.dOf f.a) + im (b.dOf f.b)) :
    b.addSubHalves f sub = b.result ((f.s && decide (sat t 16 ≠ t)) || (f.s && decide (sat u 16 ≠ u))) f.d
      (complexWord (if f.s then sat t 16 else signed 16 (twos 16 t)) (if f.s then sat u 16 else signed 16 (twos 16 u))) := by
  subst ht hu
  unfold addSubHalves addSub16
  cases f.s <;> rfl

/-- What the flags of a comparison hold (R261); nothing but ST changes. -/
theorem Bank.znc_compares (b : Bank) (t : Int) (c : Bool) :
    (b.znc (twos 32 t) c).flag St.z = decide (twos 32 t = 0) ∧ (b.znc (twos 32 t) c).flag St.n = decide (signed 32 (twos 32 t) < 0) ∧
      (b.znc (twos 32 t) c).flag St.c = c ∧ b.znc (twos 32 t) c = { b with st := (b.znc (twos 32 t) c).st } ∧
      b.Keeps (b.znc (twos 32 t) c) [St.v, St.sv, St.im, St.rnd, St.ie] := by
  have h : ∀ m ∈ [St.v, St.sv, St.im, St.rnd, St.ie], m ≠ St.c ∧ m ≠ St.n ∧ m ≠ St.z := by decide
  have hf (m : Nat) : (b.znc (twos 32 t) c).flag m = if m = St.c then c else (b.zn (signed 32 (twos 32 t))).flag m := flag_setFlag ..
  refine ⟨?_, ?_, by rw [hf, if_pos rfl], rfl, fun m hm => ?_⟩
  · rw [hf, if_neg (by decide), flag_zn, if_neg (by decide), if_pos rfl, decide_eq_decide, signed_eq_zero, Nat.mod_eq_of_lt (twos_lt ..)]
  · rw [hf, if_neg (by decide), flag_zn, if_pos rfl]
  · obtain ⟨hc, hn, hz⟩ := h m hm
    rw [hf, if_neg hc, flag_zn, if_neg hn, if_neg hz]

/-! ### Register codes -/

section
variable (b : Bank) {c : Nat} (v : Nat)

theorem Bank.setCode_gen (h : c < 8) : b.setCode c v = b.setD c v := by
  simp [setCode, isA, isF, show ¬12 ≤ c by omega, show ¬8 ≤ c by omega]

theorem Bank.setCode_feed (h : 8 ≤ c) (k : c < 12) : b.setCode c v = { b with f := b.f.put (c - 8) (v % 2 ^ 32) } := by
  simp [setCode, isA, isF, h, k]

theorem Bank.setCode_acc (h : 12 ≤ c) (k : c < 16) : b.setCode c v = b.setAcc (c - 12) (signed 32 v) := by
  simp [setCode, isA, h, k]

theorem Bank.code_acc (h : 12 ≤ c) (k : c < 16) : b.code c = b.wordOf (c - 12) := by simp [code, isA, h, k]

theorem Bank.code_clamps (k : c < 16) :
    (b.code c).2 = (decide (12 ≤ c) && decide (sat (b.accOf (c - 12)) 32 ≠ b.accOf (c - 12))) := by
  by_cases h : 12 ≤ c
  · rw [b.code_acc h k, decide_eq_true h, Bool.true_and]
    rfl
  · have hA : isA c = false := by simp [isA, h]
    rw [decide_eq_false h, Bool.false_and, code, hA, if_neg Bool.false_ne_true]
    split <;> rfl

end

theorem isF_iff {c : Nat} : isF c = true ↔ 8 ≤ c ∧ c < 12 := by simp [isF]

/-- An accumulator holds what was stored in it, when that is in its range. -/
theorem Bank.accOf_setAcc (b : Bank) (k : Nat) {v : Int} (h : -(2 ^ 39 : Nat) ≤ v) (h' : v < (2 ^ 39 : Nat)) : (b.setAcc k v).accOf k = v := by
  rw [accOf, setAcc, Tab.get_put_same]
  exact signed_twos (by decide) h h'

/-- What MOV leaves of a bank (R261). -/
def Bank.moved (b : Bank) (c d : Nat) : Bank :=
  let m := (b.stick St.sv (b.code c).2).setCode d (b.code c).1
  if isF d then m else m.zn (signed 32 (b.code c).1)

theorem Bank.moved_gen (b : Bank) {c d : Nat} (h : d < 8) : b.moved c d = b.result (b.code c).2 d (b.code c).1 := by
  rw [moved, if_neg (by rw [isF_iff]; omega), setCode_gen _ _ h]
  rfl

theorem Bank.flag_stick_sv (b : Bank) (c : Bool) {m : Nat} (h : m ≠ St.sv) : (b.stick St.sv c).flag m = b.flag m := by
  rw [flag_stick, decide_eq_false h, Bool.false_and, Bool.or_false]

theorem Bank.moved_feed (b : Bank) {c d : Nat} (h : 8 ≤ d) (k : d < 12) :
    (b.moved c d).f.get (d - 8) = (b.code c).1 % 2 ^ 32 ∧ (∀ j, j ≠ d - 8 → (b.moved c d).f.get j = b.f.get j) ∧
      b.moved c d = { b with f := (b.moved c d).f, st := (b.moved c d).st } ∧
      b.Keeps (b.moved c d) [St.z, St.n, St.c, St.v, St.im, St.rnd, St.ie] := by
  have hs : ∀ m ∈ [St.z, St.n, St.c, St.v, St.im, St.rnd, St.ie], m ≠ St.sv := by decide
  rw [moved, if_pos (isF_iff.2 ⟨h, k⟩), setCode_feed _ _ h k]
  refine ⟨Tab.get_put_same .., fun j hj => ?_, ?_, fun m hm => flag_stick_sv _ _ (hs m hm)⟩
  · rw [stick_eq]
    exact Tab.get_put_ne _ _ _ _ hj.symm
  · rw [stick_eq]

theorem Bank.moved_acc (b : Bank) {c d : Nat} (h : 12 ≤ d) (k : d < 16) :
    (b.moved c d).accOf (d - 12) = signed 32 (b.code c).1 ∧ (∀ j, j ≠ d - 12 → (b.moved c d).acc.get j = b.acc.get j) ∧
      (b.moved c d).flag St.z = decide ((b.code c).1 % 2 ^ 32 = 0) ∧ (b.moved c d).flag St.n = decide (2 ^ 31 ≤ (b.code c).1 % 2 ^ 32) ∧
      b.moved c d = { b with acc := (b.moved c d).acc, st := (b.moved c d).st } ∧
      b.Keeps (b.moved c d) [St.c, St.v, St.im, St.rnd, St.ie] := by
  have hs : ∀ m ∈ [St.c, St.v, St.im, St.rnd, St.ie], m ≠ St.n ∧ m ≠ St.z ∧ m ≠ St.sv := by decide
  have hb := signed_bounds (w := 32) (by decide) (b.code c).1
  rw [moved, if_neg (by rw [isF_iff]; omega), setCode_acc _ _ h k]
  refine ⟨accOf_setAcc _ _ (by omega) (by omega), fun j hj => ?_, ?_, ?_, ?_, fun m hm => ?_⟩
  · rw [stick_eq]
    exact Tab.get_put_ne _ _ _ _ hj.symm
  · rw [flag_zn, if_neg (by decide), if_pos rfl, decide_eq_decide, signed_eq_zero]
  · rw [flag_zn, if_pos rfl, decide_eq_decide, signed_neg (by decide)]
  · rw [stick_eq]
    rfl
  · obtain ⟨hn, hz, hv⟩ := hs m hm
    rw [flag_zn, if_neg hn, if_neg hz, flag_setAcc, flag_stick_sv _ _ hv]

end Sys2Proof.Machine
end

section
namespace Sys2Proof.Machine

variable {i : Instr} {e : Nat} {s : State}

/-! ### What moving on leaves of the bank in use -/

/-- Moving on to the next word changes the loop registers only (R263). -/
theorem Bank.afterWord_eq (b : Bank) (pc : Nat) : (b.afterWord pc).1 =
    { b with
      lpc := (b.afterWord pc).1.lpc
      lps := (b.afterWord pc).1.lps
      lpe := (b.afterWord pc).1.lpe
      lpc2 := (b.afterWord pc).1.lpc2 } := by
  unfold afterWord
  dsimp only
  split_ifs <;> rfl

@[simp] theorem Ladle.age_bank (x : Ladle) : x.age.bank = x.bank := rfl

theorem Ladle.nextWord_bank (x : Ladle) : x.nextWord.bank = (x.bank.afterWord x.pc).1 := by
  unfold nextWord
  exact x.setBank_bank _

theorem Ladle.nextWord_d (x : Ladle) : x.nextWord.bank.d = x.bank.d := by rw [nextWord_bank, Bank.afterWord_eq]

theorem Ladle.nextWord_acc (x : Ladle) : x.nextWord.bank.acc = x.bank.acc := by rw [nextWord_bank, Bank.afterWord_eq]

/-! ### Square roots bit by bit -/

/-- The square root bit by bit down to bit m: below its next step of 2^m. -/
theorem isqrt_foldl (n m : Nat) {j : Nat} (hj : j + m = 40) (hn : n < 2 ^ 80) :
    let r := (List.range j).foldl (fun r j => let t := r + 2 ^ (39 - j); if t * t ≤ n then t else r) 0
    r * r ≤ n ∧ n < (r + 2 ^ m) * (r + 2 ^ m) := by
  induction j generalizing m with
  | zero =>
    obtain rfl : m = 40 := by omega
    norm_num
    exact hn
  | succ j ih =>
    obtain ⟨hl, hh⟩ := ih (m + 1) (by omega)
    rw [List.range_succ, List.foldl_append]
    generalize (List.range j).foldl _ 0 = r at hl hh ⊢
    have hm : 39 - j = m := by omega
    simp only [List.foldl_cons, List.foldl_nil, hm]
    rw [pow_succ] at hh
    split
    next h => exact ⟨h, by convert hh using 2 <;> ring⟩
    next h => exact ⟨hl, by omega⟩

theorem isqrt_spec {n : Nat} (hn : n < 2 ^ 80) : isqrt n * isqrt n ≤ n ∧ n < (isqrt n + 1) * (isqrt n + 1) := by
  have h := isqrt_foldl n 0 (j := 40) rfl hn
  exact h

/-! ### RCP and RSQ -/

/-- Every result that RCP may give lies within the relative error of the exact value (R261), and there is one. -/
theorem rcpRange_spec {x : Nat} (h : 2 ^ 29 ≤ x) (k : x < 2 ^ 31) : (rcpRange x).1 ≤ (rcpRange x).2 ∧ (rcpRange x).2 < 2 ^ 32 ∧
    ∀ d, (rcpRange x).1 ≤ d → d ≤ (rcpRange x).2 → 2 ^ 60 - 2 ^ 48 < d * x ∧ d * x < 2 ^ 60 + 2 ^ 48 := by
  have hx : 0 < x := by omega
  have hw : ((2 ^ 60 - 2 ^ 48) / x + 1) * x ≤ 2 ^ 60 + 2 ^ 48 - 1 := by
    have := Nat.div_mul_le_self (2 ^ 60 - 2 ^ 48) x
    rw [Nat.add_mul]
    omega
  refine ⟨(Nat.le_div_iff_mul_le hx).2 hw, (Nat.div_lt_iff_lt_mul hx).2 (by omega), fun d hl hh => ⟨?_, ?_⟩⟩
  · exact (Nat.div_lt_iff_lt_mul hx).1 hl
  · have := (Nat.le_div_iff_mul_le hx).1 hh
    omega

/-- Every result that RSQ may give lies within the relative error of the exact value (R261), and there is one. -/
theorem rsqRange_spec {x : Nat} (h : 2 ^ 29 ≤ x) (k : x < 2 ^ 31) : (rsqRange x).1 ≤ (rsqRange x).2 ∧ (rsqRange x).2 < 2 ^ 32 ∧
    ∀ d, (rsqRange x).1 ≤ d → d ≤ (rsqRange x).2 → 4095 ^ 2 * 2 ^ 67 < d ^ 2 * x ∧ d ^ 2 * x < 4097 ^ 2 * 2 ^ 67 := by
  have hx : 0 < x := by omega
  have hA : 4095 ^ 2 * 2 ^ 67 / x < 2 ^ 63 := (Nat.div_lt_iff_lt_mul hx).2 (by omega)
  have hB : (4097 ^ 2 * 2 ^ 67 - 1) / x < 2 ^ 63 := (Nat.div_lt_iff_lt_mul hx).2 (by omega)
  obtain ⟨hal, hah⟩ := isqrt_spec (n := 4095 ^ 2 * 2 ^ 67 / x) (by omega)
  obtain ⟨hbl, hbh⟩ := isqrt_spec (n := (4097 ^ 2 * 2 ^ 67 - 1) / x) (by omega)
  unfold rsqRange
  generalize isqrt (4095 ^ 2 * 2 ^ 67 / x) = p at hal hah ⊢
  generalize isqrt ((4097 ^ 2 * 2 ^ 67 - 1) / x) = q at hbl hbh ⊢
  have lt_of_sq {r : Nat} (hr : r * r < 2 ^ 64) : r < 2 ^ 32 := by
    by_contra hc
    have := Nat.mul_le_mul (Nat.le_of_not_lt hc) (Nat.le_of_not_lt hc)
    omega
  refine ⟨show p + 1 ≤ q from ?_, lt_of_sq (show q * q < 2 ^ 64 by omega), fun d hl hh => ⟨?_, ?_⟩⟩
  · by_contra hc
    have hq : (q + 1) * (q + 1) ≤ (p + 1) * (p + 1) := Nat.mul_le_mul (by omega) (by omega)
    have hp : p < 2 ^ 32 := lt_of_sq (by omega)
    have hlow : p * p * x ≤ 4095 ^ 2 * 2 ^ 67 := (Nat.le_div_iff_mul_le hx).1 hal
    have hstep : (2 * p + 1) * x ≤ 2 ^ 33 * 2 ^ 31 := Nat.mul_le_mul (by omega) (by omega)
    have hhigh := (Nat.div_lt_iff_lt_mul hx).1 (hbh.trans_le hq)
    have hsq : (p + 1) * (p + 1) * x = p * p * x + (2 * p + 1) * x := by ring
    omega
  · rw [← Nat.div_lt_iff_lt_mul hx]
    exact hah.trans_le (by rw [pow_two]; exact Nat.mul_le_mul hl hl)
  · have := (Nat.mul_le_mul hh hh).trans hbl
    rw [Nat.le_div_iff_mul_le hx, ← pow_two] at this
    omega

/-- RCP and RSQ of an operand in their range draw a result within their bounds (R261). -/
theorem estimate_in {f : FmtA} {range : Nat → Nat × Nat} {x : Nat} {P : Nat → Prop} (hi : exec i s = estimate e f range s)
    (hc : s.canIssue e = true) (hr : f.rsv = 0) (hd : f.d < 8) (ha : f.a < 8) (hx : (s.eng e).bank.dOf f.a = x) (hl : 2 ^ 29 ≤ x)
    (hh : x < 2 ^ 31) (hrange : (range x).1 ≤ (range x).2 ∧ (range x).2 < 2 ^ 32 ∧ ∀ d, (range x).1 ≤ d → d ≤ (range x).2 → P d) :
    Answers i s fun t => P ((t.eng e).bank.dOf f.d) ∧ (t.eng e).bank.acc = (s.eng e).bank.acc ∧
      (∀ k, k ≠ f.d → (t.eng e).bank.dOf k = (s.eng e).bank.dOf k) ∧ (∀ j, j ≠ e → t.eng j = s.eng j) ∧
      t = { s with free := t.free, task := { s.task with eng := t.task.eng } } := by
  obtain ⟨hle, hlt, hP⟩ := hrange
  have hk := drawBelow_lt ((range x).2 + 1 - (range x).1) s (by omega)
  let v := (range x).1 + (drawBelow ((range x).2 + 1 - (range x).1) s).1
  have hv : v < 2 ^ 32 := by omega
  have hin : estimateIn x = true := by rw [estimateIn, decide_eq_true hl, decide_eq_true hh]; rfl
  let u : State := { s with free := s.free + 1 }
  have he : exec i s = issue e false (register f .gen .gen .unused fun b => b.result false f.d v) u := by
    rw [hi, estimate]
    simp only [hx, hin, hc, if_true]
    rfl
  have ho := register_ok (fun b => b.result false f.d v) (u.eng e) hr (Kind.gen_admits hd) (Kind.gen_admits ha) (b := .unused) rfl
  refine .of_eq (he.trans (issue_ok (s := u) hc ho rfl)) ?_
  have ht := Bank.result_takes (u.eng e).bank false f.d v
  simp only [updEng_eng_same, Ladle.age_bank]
  refine ⟨?_, ?_, fun k hk => ?_, fun j hj => updEng_eng_ne _ _ _ _ hj.symm, rfl⟩
  · rw [Bank.dOf, Ladle.nextWord_d, Ladle.setBank_bank, ← Bank.dOf, ht.value, Nat.mod_eq_of_lt hv]
    exact hP v (by omega) (by omega)
  · rw [Ladle.nextWord_acc, Ladle.setBank_bank, ht.rest]
    rfl
  · rw [Bank.dOf, Ladle.nextWord_d, Ladle.setBank_bank]
    exact ht.others k hk

/-- RCP and RSQ of an operand out of their range give 0x7FFFFFFF and set V (R261). -/
theorem estimate_out {f : FmtA} {range : Nat → Nat × Nat} {x : Nat} (hi : exec i s = estimate e f range s) (hc : s.canIssue e = true)
    (hr : f.rsv = 0) (hd : f.d < 8) (ha : f.a < 8) (hx : (s.eng e).bank.dOf f.a = x) (h : x < 2 ^ 29 ∨ 2 ^ 31 ≤ x) :
    IssuesBank i e s fun b => (s.eng e).bank.TakesD b f.d 0x7FFFFFFF ∧ b.flag St.v = true ∧
      (s.eng e).bank.Keeps b [St.c, St.sv, St.im, St.rnd, St.ie] := by
  have hin : estimateIn x = false := by
    rw [estimateIn, Bool.and_eq_false_iff, decide_eq_false_iff_not, decide_eq_false_iff_not]
    omega
  have he : exec i s = issue e false
      (register f .gen .gen .unused fun b => (b.result false f.d 0x7FFFFFFF).setFlag St.v true) s := by
    rw [hi, estimate]
    simp only [hx, hin, Bool.false_eq_true, if_false]
    rfl
  have hm : ∀ m ∈ [St.c, St.sv, St.im, St.rnd, St.ie], m ≠ St.v ∧ m ∈ [St.c, St.v, St.sv, St.im, St.rnd, St.ie] := by decide
  obtain ⟨ht, hk⟩ := (s.eng e).bank.result_plain f.d 0x7FFFFFFF
  refine .of_register he hc hr (Kind.gen_admits hd) (Kind.gen_admits ha) rfl
    ⟨ht.setFlag true (by decide) (by decide), by rw [Bank.flag_setFlag, if_pos rfl], fun m h => ?_⟩
  rw [Bank.flag_setFlag, if_neg (hm m h).1, hk m (hm m h).2]

end Sys2Proof.Machine
end

section
namespace Sys2Proof.Machine

variable {i : Instr} {e : Nat} {s : State}

/-- The value that a format I instruction writes (R261). -/
theorem IssuesBank.of_immediate {f g : FmtI} {op : Bank → Nat} {v : Nat} (hi : exec i s = issue e false (immediate g op) s)
    (hc : s.canIssue e = true) (hg : g.d = f.d) (hd : f.d < 8) (ha : g.a < 8) (hv : op (s.eng e).bank % 2 ^ 32 = v % 2 ^ 32) :
    IssuesBank i e s fun b => (s.eng e).bank.TakesD b f.d v ∧ (s.eng e).bank.Keeps b [St.c, St.v, St.sv, St.im, St.rnd, St.ie] := by
  have ho : immediate g op (s.eng e) = .ok ((s.eng e).setBank ((s.eng e).bank.result false f.d (v % 2 ^ 32))) := by
    simp only [immediate, isD, hg, hd, ha, hv, decide_true, Bool.not_true, Bool.false_eq_true, or_self, if_false]
    rfl
  obtain ⟨ht, hk⟩ := (s.eng e).bank.result_plain f.d (v % 2 ^ 32)
  exact .of_issue hi hc ho ⟨ht.congr (Nat.mod_mod ..), hk⟩

theorem exec_leRcp (e : Nat) (f : FmtA) (s : State) : exec (.leRcp e f) s = estimate e f rcpRange s := rfl

theorem exec_leRsq (e : Nat) (f : FmtA) (s : State) : exec (.leRsq e f) s = estimate e f rsqRange s := rfl

theorem exec_leMov (e : Nat) (f : FmtA) (s : State) :
    exec (.leMov e f) s = issue e false (register f .any .any .unused fun b => b.moved f.a f.d) s := rfl

theorem exec_leCmpi (e : Nat) (f : FmtI) (s : State) : exec (.leCmpi e f) s = issue e false (fun x =>
    if !isD f.a then .fault 1
    else .ok (x.setBank (x.bank.znc (twos 32 (signed 32 (x.bank.dOf f.a) - signed 32 (immSx f))) (decide (x.bank.dOf f.a < immSx f))))) s := rfl

/-- Settles O35: each result goes through `Bank.result` or the comparison, and RCP and RSQ draw within their bounds. -/
theorem generalRegistersTakeResults : Obligations.GeneralRegistersTakeResults := by
  unfold Obligations.GeneralRegistersTakeResults
  refine ⟨⟨?_, ?_, ?_, ?_⟩, ?_⟩
  · intro e s f hc hr ha r x y sx sy plain sums half clamp halves
    have ga := Kind.gen_admits ha
    refine ⟨fun hb => .of_register rfl hc hr rfl ga (Kind.gen_admits hb) (r.znc_compares (sx - sy) (decide (x < y))),
      fun hd => ⟨fun hb => ?_, ?_⟩⟩
    · have gd := Kind.gen_admits hd
      have gb := Kind.gen_admits hb
      refine ⟨.of_register rfl hc hr gd ga gb ?_, .of_register rfl hc hr gd ga gb ?_, ?_, ?_, ?_, ?_, ?_, ?_, ?_, ?_,
        .of_register rfl hc hr gd ga gb ?_, .of_register rfl hc hr gd ga gb ?_⟩
      · rw [r.addSubD_eq f false rfl]
        exact r.result_carries ..
      · rw [r.addSubD_eq f true rfl]
        exact r.result_carries ..
      iterate 3 exact .of_register rfl hc hr gd ga gb (r.result_plain ..)
      · refine .of_register rfl hc hr gd ga gb ?_
        obtain ⟨ht, hk⟩ := r.result_plain f.d (x * 2 ^ (y % 32) % 2 ^ 32)
        exact ⟨ht.congr (Nat.mod_mod ..), hk⟩
      iterate 4 exact .of_register rfl hc hr gd ga gb (r.result_plain ..)
      · rw [r.addSubHalves_eq f false rfl rfl]
        exact r.result_sticks_or ..
      · rw [r.addSubHalves_eq f true rfl rfl]
        exact r.result_sticks_or ..
    · have gd := Kind.gen_admits hd
      refine ⟨.of_register rfl hc hr gd ga rfl (r.result_plain ..), .of_register rfl hc hr gd ga rfl ?_, .of_register rfl hc hr gd ga rfl ?_⟩
      · exact complexWord_swapped x ▸ r.result_plain ..
      · simp only [sat_neg_im_ne]
        exact r.result_sticks ..
  · intro e s f hc hr hd ha ha' r acc
    have gd := Kind.gen_admits hd
    have ga := Kind.acc_admits ha ha'
    refine ⟨.of_register rfl hc hr gd ga rfl (r.result_plain ..), .of_register rfl hc hr gd ga rfl (r.result_sticks ..),
      fun hb hb' => .of_register rfl hc hr gd ga (Kind.acc_admits hb hb') ?_⟩
    exact r.result_sticks_or ..
  · intro e s f hc ha him r x k plain
    have hk : signed 32 (twos 32 k) = k := by
      have := signed_bounds (w := 16) (by decide) f.imm
      exact signed_twos (by decide) (by omega) (by omega)
    refine ⟨.of_issue (exec_leCmpi e f s) hc ?_ (r.znc_compares (signed 32 x - k) (decide (x < twos 32 k))), fun hd =>
      ⟨.of_immediate rfl hc rfl hd (Nat.succ_pos 7) rfl, .of_immediate rfl hc rfl hd (Nat.succ_pos 7) ?_, .of_immediate rfl hc rfl hd ha rfl,
        .of_immediate rfl hc rfl hd ha ?_, .of_immediate rfl hc rfl hd ha ?_, .of_immediate rfl hc rfl hd ha rfl,
        .of_immediate rfl hc rfl hd ha rfl⟩⟩
    · simp only [isD, ha, decide_true, Bool.not_true, Bool.false_eq_true, if_false, immSx]
      exact congrArg (fun t => Issue.ok ((s.eng e).setBank (r.znc (twos 32 (signed 32 x - t)) (decide (x < twos 32 k))))) hk
    iterate 3 rw [Nat.mod_eq_of_lt him]
  · intro e s f hc hr ha r v acc
    have ga := Kind.any_admits ha
    refine ⟨fun h => congrArg Prod.fst (r.code_acc h ha), fun hd => .of_register (exec_leMov e f s) hc hr ?_ ga rfl ?_,
      fun hd hd' => .of_register (exec_leMov e f s) hc hr ?_ ga rfl (r.moved_feed hd hd'),
      fun hd hd' => .of_register (exec_leMov e f s) hc hr (Kind.any_admits hd') ga rfl (r.moved_acc hd hd')⟩
    · exact Kind.any_admits (by omega)
    · rw [r.moved_gen hd, ← r.code_clamps ha]
      exact r.result_sticks ..
    · exact Kind.any_admits (by omega)
  · intro e s f hc hr hd ha r x
    refine ⟨fun hl hh => ⟨?_, ?_⟩, fun h =>
      ⟨estimate_out (exec_leRcp e f s) hc hr hd ha rfl h, estimate_out (exec_leRsq e f s) hc hr hd ha rfl h⟩⟩
    · have h := estimate_in (exec_leRcp e f s) hc hr hd ha rfl hl hh (rcpRange_spec hl hh)
      exact h.imp fun t ⟨⟨hlow, hhigh⟩, hrest⟩ => ⟨hlow, hhigh, hrest⟩
    · have h := estimate_in (exec_leRsq e f s) hc hr hd ha rfl hl hh (rsqRange_spec hl hh)
      exact h.imp fun t ⟨⟨hlow, hhigh⟩, hrest⟩ => ⟨hlow, hhigh, hrest⟩

end Sys2Proof.Machine
end

section
/-! ## Accumulators of a Ladle engine -/
namespace Sys2Proof.Machine

variable {e : Nat} {s : State}

/-- What an accumulator holds after an exact result was put in it (R252). -/
theorem Bank.putAcc_acc (b : Bank) (k : Nat) (t : Int) (s : Bool) : (b.putAcc k t s).acc = b.acc.put k (twos 40 (accLeaves s t)) := by
  cases s
  · simp only [putAcc, accLeaves, Bool.false_eq_true, if_false, twos_signed, Nat.mod_eq_of_lt (twos_lt ..)]
    rw [stick_eq]
    rfl
  · simp only [putAcc, accLeaves, if_true]
    rw [stick_eq]
    rfl

theorem accLeaves_bounds (s : Bool) (t : Int) : -((2 ^ 39 : Nat) : Int) ≤ accLeaves s t ∧ accLeaves s t < ((2 ^ 39 : Nat) : Int) := by
  cases s
  · exact signed_bounds (w := 40) (by decide) _
  · have := sat_bounds t 32
    simp only [accLeaves, if_true]
    omega

theorem Bank.accOf_congr {b c : Bank} {k : Nat} (h : b.acc.get k = c.acc.get k) : b.accOf k = c.accOf k := by rw [accOf, accOf, h]

theorem Bank.putAcc_same (b : Bank) (k : Nat) (t : Int) (s : Bool) : (b.putAcc k t s).accOf k = accLeaves s t := by
  obtain ⟨hl, hh⟩ := accLeaves_bounds s t
  rw [accOf, putAcc_acc, Tab.get_put_same]
  exact signed_twos (by decide) hl hh

theorem Bank.putAcc_ne (b : Bank) {k j : Nat} (t : Int) (s : Bool) (h : j ≠ k) : (b.putAcc k t s).acc.get j = b.acc.get j := by
  rw [putAcc_acc, Tab.get_put_ne _ _ _ _ h.symm]

/-- SV or V sticks, whichever the s bit says; no other status bit changes (R252). -/
theorem Bank.putAcc_flag (b : Bank) (k m : Nat) (t : Int) (s : Bool) :
    (b.putAcc k t s).flag m = (b.flag m || (decide (m = St.sv) && accClamps s t) || (decide (m = St.v) && accWraps s t)) := by
  cases s <;> simp [putAcc, flag_stick, accClamps, accWraps]

theorem Bank.putAcc_eq (b : Bank) (k : Nat) (t : Int) (s : Bool) :
    b.putAcc k t s = { b with acc := (b.putAcc k t s).acc, st := (b.putAcc k t s).st } := by
  cases s
  · simp only [putAcc, Bool.false_eq_true, if_false]
    rw [stick_eq]
    rfl
  · simp only [putAcc, if_true]
    rw [stick_eq]
    rfl

/-- An exact result put in the destination accumulator with Z and N (R252, R261). -/
theorem Bank.accRes_takes (b : Bank) (f : FmtA) (t : Int) (s : Bool) : b.TakesAcc (b.accRes f t s) (f.d - 12) s t := by
  have hf (m : Nat) (hz : m ≠ St.z) (hn : m ≠ St.n) : (b.accRes f t s).flag m = (b.putAcc (accNo f.d) t s).flag m := by
    rw [accRes, flag_zn, if_neg hn, if_neg hz]
  have hv : (b.putAcc (accNo f.d) t s).accOf (accNo f.d) = accLeaves s t := putAcc_same ..
  have hm : ∀ m ∈ [St.c, St.im, St.rnd, St.ie], m ≠ St.z ∧ m ≠ St.n ∧ m ≠ St.sv ∧ m ≠ St.v := by decide
  constructor
  case value => exact hv
  case zero => rw [accRes, flag_zn, if_neg (by decide), if_pos rfl, hv]
  case negative => rw [accRes, flag_zn, if_pos rfl, hv]
  case saturated => simp [hf St.sv (by decide) (by decide), putAcc_flag, show St.sv ≠ St.v by decide]
  case wrapped => simp [hf St.v (by decide) (by decide), putAcc_flag, show St.v ≠ St.sv by decide]
  case flags =>
    intro m h
    obtain ⟨hz, hn, hsv, hsw⟩ := hm m h
    simp [hf m hz hn, putAcc_flag, hsv, hsw]
  case others => exact fun j hj => putAcc_ne _ _ _ hj
  case rest =>
    unfold accRes
    rw [putAcc_eq]
    rfl

/-- Settles O36: each operation puts its exact result in the destination as `Bank.accRes_takes` says. -/
theorem accumulatorsTakeResults : Obligations.AccumulatorsTakeResults := by
  unfold Obligations.AccumulatorsTakeResults
  intro e s f hc hr hd hd' r k
  have gd := Kind.acc_admits hd hd'
  refine ⟨.of_register rfl hc hr gd rfl rfl (r.accRes_takes ..), fun ha => .of_register rfl hc hr gd (Kind.gen_admits ha) rfl (r.accRes_takes ..),
    fun ha ha' => ?_⟩
  have ga := Kind.acc_admits ha ha'
  intro v
  refine ⟨fun hb hb' => ?_, .of_register rfl hc hr gd ga rfl (r.accRes_takes ..), .of_register rfl hc hr gd ga rfl ?_,
    .of_register rfl hc hr gd ga rfl (r.accRes_takes ..), .of_register rfl hc hr gd ga rfl (r.accRes_takes ..),
    fun hb => .of_register rfl hc hr gd ga (Kind.gen_admits hb) ?_, .of_register rfl hc hr gd ga rfl (r.accRes_takes ..),
    .of_register rfl hc hr gd ga rfl (r.accRes_takes ..)⟩
  · have gb := Kind.acc_admits hb hb'
    exact ⟨.of_register rfl hc hr gd ga gb (r.accRes_takes ..), .of_register rfl hc hr gd ga gb (r.accRes_takes ..)⟩
  · have habs : (if v < 0 then -v else v) = (v.natAbs : Int) := by split <;> omega
    rw [habs]
    exact r.accRes_takes ..
  · simp only [← not_le, ite_not]
    exact r.accRes_takes ..

end Sys2Proof.Machine
end

section
/-! ## Products, moves and filter taps of a Ladle engine -/
namespace Sys2Proof.Machine

variable {e : Nat} {s : State}

/-! ### Accumulation -/

/-- Changes of accumulators, status, feed registers and index registers follow each other. -/
theorem Bank.rest_trans {a b c : Bank} (h : b = { a with acc := b.acc, st := b.st, f := b.f, idx := b.idx })
    (k : c = { b with acc := c.acc, st := c.st, f := c.f, idx := c.idx }) : c = { a with acc := c.acc, st := c.st, f := c.f, idx := c.idx } :=
  k.trans (by rw [h])

namespace Bank.Accumulates

variable {a b : Bank} {s sv c : Bool} {l : List (Nat × Int)} {k : Nat} {t : Int}

theorem refl (a : Bank) (s : Bool) : a.Accumulates a s [] false :=
  ⟨fun _ h => absurd h List.not_mem_nil, by simp, by simp, fun _ _ => rfl, fun _ _ => rfl, rfl⟩

/-- The multiplier's saturation sticks to SV (R252). -/
theorem stick (h : a.Accumulates b s l sv) (c : Bool) : a.Accumulates (b.stick St.sv c) s l (sv || c) := by
  have hm : ∀ m ∈ [St.z, St.n, St.c, St.im, St.rnd, St.ie], m ≠ St.sv := by decide
  constructor
  case values => rw [stick_eq]; exact h.values
  case saturated =>
    rw [flag_stick, h.saturated, decide_eq_true rfl, Bool.true_and]
    ac_rfl
  case wrapped => rw [flag_stick_sv _ _ (by decide), h.wrapped]
  case flags => exact fun m hn => (flag_stick_sv _ _ (hm m hn)).trans (h.flags m hn)
  case others => rw [stick_eq]; exact h.others
  case rest => exact rest_trans h.rest (by rw [stick_eq])

/-- One more accumulator takes an exact result. -/
theorem put (h : a.Accumulates b s l sv) (hk : ∀ p ∈ l, p.1 ≠ k) (t : Int) : a.Accumulates (b.putAcc k t s) s (l ++ [(k, t)]) sv := by
  have hm : ∀ m ∈ [St.z, St.n, St.c, St.im, St.rnd, St.ie], m ≠ St.sv ∧ m ≠ St.v := by decide
  constructor
  case values =>
    intro p hp
    rcases List.mem_append.1 hp with hp | hp
    · rw [accOf_congr (putAcc_ne _ _ _ (hk p hp)), h.values p hp]
    · rw [List.mem_singleton.1 hp, putAcc_same]
  case saturated => simp [putAcc_flag, h.saturated, show St.sv ≠ St.v by decide, Bool.or_assoc]
  case wrapped => simp [putAcc_flag, h.wrapped, show St.v ≠ St.sv by decide, Bool.or_assoc]
  case flags =>
    intro m hn
    rw [putAcc_flag, decide_eq_false (hm m hn).1, decide_eq_false (hm m hn).2, h.flags m hn]
    simp
  case others =>
    intro j hj
    simp only [List.all_append, List.all_cons, List.all_nil, Bool.and_true, Bool.and_eq_true, bne_iff_ne] at hj
    rw [putAcc_ne _ _ _ hj.2.symm, h.others j hj.1]
  case rest => exact rest_trans h.rest (by rw [putAcc_eq])

/-- An accumulator not yet listed is accumulated into. -/
theorem accAdd (h : a.Accumulates b s l sv) (hk : (l.all fun p => p.1 != k) = true) (t : Int) :
    a.Accumulates (b.accAdd k t s) s (l ++ [(k, a.accOf k + t)]) sv := by
  rw [Bank.accAdd, accOf_congr (h.others k hk)]
  exact h.put (by simpa using hk) _

/-- Accumulators cleared first are replaced, not accumulated into. -/
theorem of_cleared (h : (a.setAcc k 0).Accumulates b s l sv) (hk : (l.all fun p => p.1 != k) = false) : a.Accumulates b s l sv where
  values := h.values
  saturated := h.saturated
  wrapped := h.wrapped
  flags := h.flags
  others j hj := by
    have hne : k ≠ j := by
      rintro rfl
      exact absurd hj (by rw [hk]; decide)
    exact (h.others j hj).trans (Tab.get_put_ne a.acc k j (twos 40 0) hne)
  rest := h.rest

/-- Moves leave what was accumulated. -/
theorem moves (h : a.Accumulates b s l sv) {b' : Bank} (he : b' = { b with f := b'.f, idx := b'.idx }) : a.Accumulates b' s l sv := by
  have hr := rest_trans h.rest (c := b') (by rw [he])
  rw [he] at hr ⊢
  exact ⟨h.values, h.saturated, h.wrapped, h.flags, h.others, hr⟩

end Bank.Accumulates

/-! ### Moves -/

section
variable (x : Ladle) (b : Bank)

@[simp] theorem Ladle.setBank_word (y : Bool) (a : Nat) : (x.setBank b).word y a = x.word y a := by
  rw [x.setBank_eq]
  rfl

@[simp] theorem Ladle.setBank_advance (j : Nat) (m : Int) (i : Nat) : (x.setBank b).advance j m i = x.advance j m i := by
  rw [x.setBank_eq]
  rfl

@[simp] theorem Ladle.setBank_stepOf (j step : Nat) : (x.setBank b).stepOf j step = x.stepOf j step := by
  rw [x.setBank_eq]
  rfl

end

/-- The bank after a move of X or Y memory has loaded its feed register and advanced its index register (R257). -/
def Ladle.loadMove (x : Ladle) (y : Bool) (b : Bank) (m : Move) : Bank :=
  let j := m.i + (if y then 4 else 0)
  { b with
    f := b.f.put m.f (x.word y (b.idx.get j))
    idx := b.idx.put j (x.advance j (x.stepOf j m.step) (b.idx.get j)) }

/-- The bank after both moves, X first. -/
def Ladle.loadBoth (x : Ladle) (b : Bank) (mx my : Option Move) : Bank :=
  let c := mx.elim b (x.loadMove false b)
  my.elim c (x.loadMove true c)

section
variable {x : Ladle} {y : Bool} {b : Bank} {m : Option Move} {k : Nat}

/-- A move leaves the other feed registers. -/
theorem Ladle.loadMove_f_ne (h : (m.all fun m => m.f != k) = true) : (m.elim b (x.loadMove y b)).f.get k = b.f.get k := by
  cases m with
  | none => rfl
  | some m => exact Tab.get_put_ne b.f _ _ _ (bne_iff_ne.1 h)

/-- A move leaves the other index registers. -/
theorem Ladle.loadMove_idx_ne (h : (m.all fun m => m.i + (if y then 4 else 0) != k) = true) :
    (m.elim b (x.loadMove y b)).idx.get k = b.idx.get k := by
  cases m with
  | none => rfl
  | some m => exact Tab.get_put_ne b.idx _ _ _ (bne_iff_ne.1 h)

end

/-- The moves of a format M instruction, of aligned addresses and different feed registers. -/
theorem loadMoves_ok (x : Ladle) (b : Bank) {mx my : Option Move} (hx : ∀ m ∈ mx, b.idx.get m.i % 4 = 0)
    (hy : ∀ m ∈ my, b.idx.get (4 + m.i) % 4 = 0) (hne : ∀ m ∈ mx, ∀ n ∈ my, m.f ≠ n.f) (hi : ∀ m ∈ mx, m.i < 4) :
    loadMoves (x.setBank b) mx my = .ok (x.setBank (x.loadBoth b mx my)) := by
  cases mx with
  | none => cases my with
    | none => rfl
    | some n =>
      have hn := hy n rfl
      simp [loadMoves, loadMoves.step, Nat.add_comm n.i 4, hn, Ladle.postModify, Ladle.loadBoth, Ladle.loadMove]
  | some m =>
    have hm := hx m rfl
    cases my with
    | none =>
      simp [loadMoves, loadMoves.step, hm, Ladle.postModify, Ladle.loadBoth, Ladle.loadMove]
    | some n =>
      have hn := hy n rfl
      have hf := hne m rfl n rfl
      have hmi := hi m rfl
      have hj : m.i ≠ 4 + n.i := by omega
      simp [loadMoves, loadMoves.step, Nat.add_comm n.i 4, hn, hm, hf, Ladle.postModify, Ladle.loadBoth, Ladle.loadMove, Tab.get_put_ne _ _ _ _ hj]

theorem parseMove_index_lt {v : Nat} {m : Move} (h : parseMove v = some (some m)) : m.i < 4 := by
  unfold parseMove at h
  split_ifs at h
  · cases h
  · cases h
    exact Nat.mod_lt (v / 8) (show 0 < 4 by decide)

/-- After both moves each feed register holds its word and each index register has advanced; the others stay (R257). -/
theorem loadBoth_moved {x : Ladle} {f : FmtM} {b : Bank} {mx my : Option Move} (px : parseMove f.xm = some mx) (py : parseMove f.ym = some my)
    (hf : b.f = x.bank.f) (hidx : b.idx = x.bank.idx) (hne : ∀ m ∈ mx, ∀ n ∈ my, m.f ≠ n.f) : x.Moved f (x.loadBoth b mx my) := by
  have hlt : ∀ m ∈ mx, m.i < 4 := fun m hm => parseMove_index_lt (px.trans (congrArg some hm))
  have hj : ∀ m ∈ mx, ∀ n : Move, m.i ≠ 4 + n.i := fun m hm n => by have := hlt m hm; omega
  constructor
  case x_loads =>
    rw [px]
    rintro m (rfl : mx = some m)
    cases my with
    | none => simp [Ladle.loadBoth, Ladle.loadMove, hf, hidx]
    | some n =>
      simp [Ladle.loadBoth, Ladle.loadMove, Nat.add_comm n.i 4, hf, hidx, Tab.get_put, (hne m rfl n rfl).symm, hj m rfl n, (hj m rfl n).symm]
  case y_loads =>
    rw [py]
    rintro n (rfl : my = some n)
    cases mx with
    | none => simp [Ladle.loadBoth, Ladle.loadMove, Nat.add_comm n.i 4, hf, hidx]
    | some m => simp [Ladle.loadBoth, Ladle.loadMove, Nat.add_comm n.i 4, hf, hidx, Tab.get_put_ne _ _ _ _ (hj m rfl n)]
  case feeds =>
    rw [px, py]
    intro k hx hy
    rw [← hf]
    exact (Ladle.loadMove_f_ne hy).trans (Ladle.loadMove_f_ne hx)
  case indexes =>
    rw [px, py]
    intro k hx hy
    simp only [Nat.add_comm 4] at hy
    rw [← hidx]
    exact (Ladle.loadMove_idx_ne (y := true) hy).trans (Ladle.loadMove_idx_ne (y := false) hx)

/-- Two moves that are legal: their fields, alignments and different feed registers (R256, R257). -/
structure Ladle.MovesParse (x : Ladle) (f : FmtM) (mx my : Option Move) : Prop where
  px : parseMove f.xm = some mx
  py : parseMove f.ym = some my
  x_aligned : ∀ m ∈ mx, x.bank.idx.get m.i % 4 = 0
  y_aligned : ∀ m ∈ my, x.bank.idx.get (4 + m.i) % 4 = 0
  apart : ∀ m ∈ mx, ∀ n ∈ my, m.f ≠ n.f

theorem Ladle.movesParse_of_canMove {x : Ladle} {f : FmtM} (h : x.canMove f = true) : ∃ mx my, x.MovesParse f mx my := by
  unfold canMove at h
  split at h
  next mx my px py =>
    simp only [Bool.and_eq_true, Option.all_eq_true, decide_eq_true_eq, bne_iff_ne] at h
    obtain ⟨⟨hx, hy⟩, hne⟩ := h
    exact ⟨mx, my, px, py, hx, hy, hne⟩
  next => cases h

theorem Ladle.MovesParse.index_lt {x : Ladle} {f : FmtM} {mx my : Option Move} (h : x.MovesParse f mx my) : ∀ m ∈ mx, m.i < 4 :=
  fun _ hm => parseMove_index_lt (h.px.trans (congrArg some hm))

/-- A format M instruction: its arithmetic on the feed registers as they stood, then its moves (R257). -/
theorem IssuesBank.of_multiply {i : Instr} {f : FmtM} {cx quad : Bool} {op : Bank → Nat → Nat → Bank} {l : List (Nat × Int)} {sv : Bool}
    (hi : exec i s = issue e false (multiply f cx quad op) s) (hc : s.canIssue e = true) (hr : f.rsv = 0)
    (hcx : ¬(cx = true ∧ f.a ≠ 0 ∧ f.a ≠ 2)) (hq : ¬(quad = true ∧ f.a ≠ 0)) (hm : (s.eng e).canMove f = true)
    (h : let r := (s.eng e).bank
      r.Accumulates (op r (r.f.get f.u) (r.f.get f.w)) f.s l sv ∧ (op r (r.f.get f.u) (r.f.get f.w)).f = r.f ∧
        (op r (r.f.get f.u) (r.f.get f.w)).idx = r.idx) :
    IssuesBank i e s fun b => (s.eng e).bank.Accumulates b f.s l sv ∧ (s.eng e).Moved f b := by
  obtain ⟨mx, my, hp⟩ := Ladle.movesParse_of_canMove hm
  obtain ⟨hacc, hf, hidx⟩ := h
  generalize hb : op (s.eng e).bank ((s.eng e).bank.f.get f.u) ((s.eng e).bank.f.get f.w) = b at hacc hf hidx
  have ho : multiply f cx quad op (s.eng e) = .ok ((s.eng e).setBank ((s.eng e).loadBoth b mx my)) := by
    unfold multiply
    rw [if_neg (not_not.2 hr), if_neg hcx, if_neg hq, hp.px, hp.py]
    dsimp only
    rw [hb]
    exact loadMoves_ok _ _ (hidx ▸ hp.x_aligned) (hidx ▸ hp.y_aligned) hp.apart hp.index_lt
  refine .of_issue hi hc ho ⟨hacc.moves ?_, loadBoth_moved hp.px hp.py hf hidx hp.apart⟩
  cases mx <;> cases my <;> rfl

end Sys2Proof.Machine
end

section
namespace Sys2Proof.Machine

variable {e : Nat} {s : State}

/-! ### Products -/

section
variable (b : Bank) (k : Nat) (v : Int) (c : Bool)

@[simp] theorem Bank.accAdd_f : (b.accAdd k v c).f = b.f := by rw [accAdd, putAcc_eq]
@[simp] theorem Bank.accAdd_idx : (b.accAdd k v c).idx = b.idx := by rw [accAdd, putAcc_eq]
@[simp] theorem Bank.stick_f : (b.stick k c).f = b.f := by rw [stick_eq]
@[simp] theorem Bank.stick_idx : (b.stick k c).idx = b.idx := by rw [stick_eq]

theorem Bank.accOf_cleared : (b.setAcc k 0).accOf k = 0 := accOf_setAcc _ _ (by decide) (by decide)

theorem Bank.accOf_setAcc_ne {j : Nat} (h : k ≠ j) : (b.setAcc k v).accOf j = b.accOf j := accOf_congr (Tab.get_put_ne b.acc k j (twos 40 v) h)

end

/-- A real product is accumulated (R259). -/
theorem Bank.rmac_accumulates (b : Bank) (f : FmtM) (neg : Bool) (u w : Nat) : b.Accumulates (b.rmac f neg u w) f.s
    [(f.a, b.accOf f.a + if neg then -(b.prod (re u) (re w)).1 else (b.prod (re u) (re w)).1)] (b.prod (re u) (re w)).2 :=
  ((Accumulates.refl b f.s).stick _).accAdd rfl _

/-- A complex product is accumulated, its real part in a and its imaginary part in a + 1 (R259). -/
theorem Bank.cmac_accumulates (b : Bank) (f : FmtM) (conj neg : Bool) (u w : Nat) {iw : Int} (hw : (if conj then -(im w) else im w) = iw) :
    let cre := (b.prod (re u) (re w)).1 - (b.prod (im u) iw).1
    let cim := (b.prod (re u) iw).1 + (b.prod (im u) (re w)).1
    b.Accumulates (b.cmac f conj neg u w) f.s
      [(f.a, b.accOf f.a + if neg then -cre else cre), (f.a + 1, b.accOf (f.a + 1) + if neg then -cim else cim)]
      ((b.prod (re u) (re w)).2 || (b.prod (im u) iw).2 || (b.prod (re u) iw).2 || (b.prod (im u) (re w)).2) := by
  subst hw
  exact (((Accumulates.refl b f.s).stick _).accAdd rfl _).accAdd (by simp) _

/-- The four real products are accumulated in A0 to A3 (R259). -/
theorem Bank.qmac_accumulates (b : Bank) (f : FmtM) (u w : Nat) : b.Accumulates (b.qmac f u w) f.s
    [(0, b.accOf 0 + (b.prod (re u) (re w)).1), (1, b.accOf 1 + (b.prod (re u) (im w)).1), (2, b.accOf 2 + (b.prod (im u) (re w)).1),
      (3, b.accOf 3 + (b.prod (im u) (im w)).1)]
    ((b.prod (re u) (re w)).2 || (b.prod (re u) (im w)).2 || (b.prod (im u) (re w)).2 || (b.prod (im u) (im w)).2) :=
  ((((((((Accumulates.refl b f.s).stick _).accAdd rfl _).stick _).accAdd rfl _).stick _).accAdd rfl _).stick _).accAdd rfl _

theorem Bank.Accumulates.congr {a b : Bank} {s sv sv' : Bool} {l l' : List (Nat × Int)} (h : a.Accumulates b s l sv) (hl : l = l')
    (hs : sv = sv') : a.Accumulates b s l' sv' := hl ▸ hs ▸ h

/-- A format M instruction that clears its two accumulators first replaces them (R259). -/
theorem Bank.cmac_replaces (b : Bank) (f : FmtM) (conj : Bool) (u w : Nat) {iw : Int} (hw : (if conj then -(im w) else im w) = iw) :
    b.Accumulates ((b.clear2 f.a).cmac f conj false u w) f.s
      [(f.a, (b.prod (re u) (re w)).1 - (b.prod (im u) iw).1), (f.a + 1, (b.prod (re u) iw).1 + (b.prod (im u) (re w)).1)]
      ((b.prod (re u) (re w)).2 || (b.prod (im u) iw).2 || (b.prod (re u) iw).2 || (b.prod (im u) (re w)).2) := by
  have h := (b.clear2 f.a).cmac_accumulates f conj false u w hw
  have h0 : (b.clear2 f.a).accOf f.a = 0 := (accOf_setAcc_ne _ _ _ (by omega)).trans (accOf_cleared ..)
  have h1 : (b.clear2 f.a).accOf (f.a + 1) = 0 := accOf_cleared ..
  rw [h0, h1] at h
  simp only [zero_add] at h
  exact (h.of_cleared (by simp)).of_cleared (by simp)

theorem Bank.rmac_replaces (b : Bank) (f : FmtM) (u w : Nat) : b.Accumulates ((b.setAcc f.a 0).rmac f false u w) f.s
    [(f.a, (b.prod (re u) (re w)).1)] (b.prod (re u) (re w)).2 := by
  have h := (b.setAcc f.a 0).rmac_accumulates f false u w
  rw [accOf_cleared, zero_add] at h
  exact h.of_cleared (by simp)

theorem Bank.qmac_replaces (b : Bank) (f : FmtM) (u w : Nat) : b.Accumulates (((b.clear2 0).clear2 2).qmac f u w) f.s
    [(0, (b.prod (re u) (re w)).1), (1, (b.prod (re u) (im w)).1), (2, (b.prod (im u) (re w)).1), (3, (b.prod (im u) (im w)).1)]
    ((b.prod (re u) (re w)).2 || (b.prod (re u) (im w)).2 || (b.prod (im u) (re w)).2 || (b.prod (im u) (im w)).2) := by
  have h := ((b.clear2 0).clear2 2).qmac_accumulates f u w
  have hz : ∀ k < 4, ((b.clear2 0).clear2 2).accOf k = 0 := by
    intro k hk
    unfold clear2
    interval_cases k <;> simp [accOf_setAcc_ne, accOf_cleared]
  rw [hz 0 (by decide), hz 1 (by decide), hz 2 (by decide), hz 3 (by decide)] at h
  simp only [zero_add] at h
  exact (((h.of_cleared (by simp)).of_cleared (by simp)).of_cleared (by simp)).of_cleared (by simp)

/-! The products leave the feed registers and the index registers. -/

section
variable (b : Bank) (f : FmtM) (u w : Nat)

theorem Bank.rmac_feeds (neg : Bool) : (b.rmac f neg u w).f = b.f ∧ (b.rmac f neg u w).idx = b.idx :=
  ⟨by simp [rmac], by simp [rmac]⟩

theorem Bank.cmac_feeds (conj neg : Bool) : (b.cmac f conj neg u w).f = b.f ∧ (b.cmac f conj neg u w).idx = b.idx :=
  ⟨by simp [cmac], by simp [cmac]⟩

theorem Bank.qmac_feeds : (b.qmac f u w).f = b.f ∧ (b.qmac f u w).idx = b.idx := ⟨by simp [qmac], by simp [qmac]⟩

end

end Sys2Proof.Machine
end

section
namespace Sys2Proof.Machine

variable {i : Instr} {e : Nat} {s : State}

/-! ### Bytes of X and Y memory -/

/-- What an unlisted byte of a memory reads as. -/
def Mem.blank (m : Mem) (a : Nat) : Byte := match m.lost with | none => 0 | some g => Config.lostByte g a

theorem Mem.byte_eq (m : Mem) (a : Nat) : m.byte a = (m.cells.get a).getD (m.blank a) := rfl

theorem Mem.setByte_eq (m : Mem) (a : Nat) (b : Byte) :
    m.setByte a b = { m with cells := m.cells.put a (if b = m.blank a then none else some b) } := rfl

theorem Mem.byte_setByte (m : Mem) (a c : Nat) (b : Byte) : (m.setByte a b).byte c = if c = a then b else m.byte c := by
  have hblank : (m.setByte a b).blank c = m.blank c := rfl
  rw [byte_eq, byte_eq, hblank, setByte_eq]
  by_cases h : c = a
  · rw [if_pos h, h, Tab.get_put_same]
    split
    next hb => exact hb.symm
    next => rfl
  · rw [if_neg h, Tab.get_put_ne _ _ _ _ (Ne.symm h)]

/-- Bytes not addressed by a write stay (R258). -/
theorem Mem.byte_write_ne (l : List Byte) (m : Mem) (a c : Nat) (h : ∀ j, j < l.length → c ≠ (a + j) % 65536) :
    (m.write a l).byte c = m.byte c := by
  induction l generalizing m a with
  | nil => rfl
  | cons b t ih =>
    rw [write, ih, byte_setByte, if_neg (show c ≠ a % 65536 from h 0 (by simp))]
    intro j hj
    have := h (j + 1) (by simpa using hj)
    rwa [show a + 1 + j = a + (j + 1) by omega]

/-- Bytes written read back, the address wrapping at 65536 (R258). -/
theorem Mem.byte_write (l : List Byte) (m : Mem) (a : Nat) {j : Nat} (hj : j < l.length) (hl : l.length ≤ 65536) :
    (m.write a l).byte ((a + j) % 65536) = l.getD j 0 := by
  induction l generalizing m a j with
  | nil => exact absurd hj (Nat.not_lt_zero j)
  | cons b t ih =>
    rw [List.length_cons] at hj hl
    cases j with
    | zero =>
      rw [write, byte_write_ne _ _ _ _ fun k hk => by omega, byte_setByte, Nat.add_zero, if_pos rfl, List.getD_cons_zero]
    | succ j =>
      have := ih (m.setByte (a % 65536) b) (a + 1) (j := j) (by omega) (by omega)
      rwa [show a + 1 + j = a + (j + 1) by omega] at this

/-! ### Filter taps -/

/-- What a filter tap does to memory and registers besides its product (R260): its moves, and the X word one place up the line. -/
structure Ladle.Taps (x : Ladle) (f : FmtM) (up : Nat) (v : Nat) (y : Ladle) : Prop where
  rest : y = { x.setBank y.bank with x := y.x }
  moved : x.Moved f y.bank
  written : ∀ j, j < 4 → y.x.byte ((up + j) % 65536) = (le 4 v).getD j 0
  others : ∀ c, (∀ j, j < 4 → c ≠ (up + j) % 65536) → y.x.byte c = x.x.byte c

/-- An engine with other X memory. -/
def Ladle.withX (x : Ladle) (m : Mem) : Ladle := { x with x := m }

section
variable (x : Ladle) (b : Bank)

theorem Ladle.setBank_withX (m : Mem) : (x.setBank b).withX m = (x.withX m).setBank b := by
  unfold setBank
  split <;> simp [withX, *]

@[simp] theorem Ladle.setBank_x : (x.setBank b).x = x.x := by rw [setBank_eq]

theorem Ladle.setBank_postModify (j step : Nat) : (x.setBank b).postModify j step =
    x.setBank { b with idx := b.idx.put j (x.advance j (x.stepOf j step) (b.idx.get j)) } := by
  simp [postModify]

/-- Post-modify of two index registers after a change of X memory. -/
theorem Ladle.withX_postModify_postModify (m : Mem) {i j : Nat} (p q : Nat) (hij : i ≠ j) :
    ((((x.setBank b).withX m).postModify i p).postModify j q) =
      (x.setBank { b with
        idx := (b.idx.put i (x.advance i (x.stepOf i p) (b.idx.get i))).put j (x.advance j (x.stepOf j q) (b.idx.get j)) }).withX m := by
  rw [setBank_withX, setBank_withX, setBank_postModify, setBank_postModify, Tab.get_put_ne _ _ _ _ hij]
  rfl

end

/-- The product of a filter tap, real or complex. -/
def Bank.tap (b : Bank) (f : FmtM) (real : Bool) (xv yv : Nat) : Bank :=
  if real then b.rmac f false xv yv else b.cmac f false false xv yv

theorem Bank.tap_feeds (b : Bank) (f : FmtM) (real : Bool) (xv yv : Nat) :
    (b.tap f real xv yv).f = b.f ∧ (b.tap f real xv yv).idx = b.idx := by
  cases real
  · exact b.cmac_feeds ..
  · exact b.rmac_feeds ..

section
variable {x : Ladle} {f : FmtM} {real : Bool} {mx my : Move} {xv yv up : Nat}

/-- A filter tap (R260) multiplies the words that its moves load, and moves the X word one place up the delay line. -/
theorem firTap_ok (hr : f.rsv = 0) (ha : ¬(!real ∧ f.a ≠ 0 ∧ f.a ≠ 2)) (hp : x.MovesParse f (some mx) (some my))
    (hx : x.word false (x.bank.idx.get mx.i) = xv) (hy : x.word true (x.bank.idx.get (4 + my.i)) = yv)
    (hu : x.advance mx.i 4 (x.bank.idx.get mx.i) = up) : firTap f real x =
      .ok ((x.setBank (x.loadBoth (x.bank.tap f real xv yv) (some mx) (some my))).withX (x.x.write up (le 4 xv))) := by
  have hj : mx.i ≠ 4 + my.i := by have := hp.index_lt mx rfl; omega
  have hb : x.loadBoth (x.bank.tap f real xv yv) (some mx) (some my) =
      { x.bank.tap f real xv yv with
        f := ((x.bank.tap f real xv yv).f.put mx.f xv).put my.f yv
        idx := ((x.bank.tap f real xv yv).idx.put mx.i (x.advance mx.i (x.stepOf mx.i mx.step) (x.bank.idx.get mx.i))).put (4 + my.i)
          (x.advance (4 + my.i) (x.stepOf (4 + my.i) my.step) (x.bank.idx.get (4 + my.i))) } := by
    subst hx hy
    simp [Ladle.loadBoth, Ladle.loadMove, Bank.tap_feeds, Nat.add_comm my.i 4, Tab.get_put_ne _ _ _ _ hj]
  have ht : firTap f real x = .ok (((x.setBank { x.bank.tap f real xv yv with f := ((x.bank.tap f real xv yv).f.put mx.f xv).put my.f yv }).withX
      ((x.setBank { x.bank.tap f real xv yv with f := ((x.bank.tap f real xv yv).f.put mx.f xv).put my.f yv }).x.write up (le 4 xv)
      )).postModify mx.i mx.step |>.postModify (4 + my.i) my.step) := by
    subst hx hy hu
    unfold firTap
    rw [hp.px, hp.py]
    dsimp only
    rw [if_neg (by simpa [hr, hp.apart mx rfl my rfl] using ha), if_neg (by simp [hp.x_aligned mx rfl, hp.y_aligned my rfl])]
    rfl
  rw [ht, x.withX_postModify_postModify _ _ _ _ hj, hb, Ladle.setBank_x, (x.bank.tap_feeds f real xv yv).2]

end

/-- A filter tap (R260): `op` accumulates the product of the words that its two moves load. -/
theorem Issues.of_firTap {f : FmtM} {real : Bool} {mx my : Move} {l : List (Nat × Int)} {sv : Bool}
    (hi : exec i s = issue e false (firTap f real) s)
    (hc : s.canIssue e = true) (hr : f.rsv = 0) (ha : ¬(!real ∧ f.a ≠ 0 ∧ f.a ≠ 2)) (hp : (s.eng e).MovesParse f (some mx) (some my))
    {x : Ladle} {xv yv up : Nat} (hx : s.eng e = x)
    (hxv : x.word false (x.bank.idx.get mx.i) = xv) (hyv : x.word true (x.bank.idx.get (4 + my.i)) = yv)
    (hu : x.advance mx.i 4 (x.bank.idx.get mx.i) = up) (h : x.bank.Accumulates (x.bank.tap f real xv yv) f.s l sv) :
    Issues i e s fun y => x.Taps f up xv y ∧ x.bank.Accumulates y.bank f.s l sv := by
  subst hx
  refine .of_issue hi hc (firTap_ok hr ha hp hxv hyv hu) ?_
  obtain ⟨hf, hidx⟩ := (s.eng e).bank.tap_feeds f real xv yv
  have hb : (((s.eng e).setBank ((s.eng e).loadBoth ((s.eng e).bank.tap f real xv yv) (some mx) (some my))).withX
      ((s.eng e).x.write up (le 4 xv))).bank = (s.eng e).loadBoth ((s.eng e).bank.tap f real xv yv) (some mx) (some my) :=
    Ladle.setBank_bank ..
  rw [hb]
  refine ⟨⟨?_, ?_, fun j hj => ?_, fun c hc => ?_⟩, h.moves rfl⟩
  · rw [hb]
    rfl
  · rw [hb]
    exact loadBoth_moved hp.px hp.py hf hidx hp.apart
  · exact Mem.byte_write (le 4 xv) _ up hj (by rw [length_le]; decide)
  · exact Mem.byte_write_ne (le 4 xv) _ up c hc

end Sys2Proof.Machine
end

section
namespace Sys2Proof.Machine

/-- Settles O37: the arithmetic is `rmac`, `cmac` and `qmac` accumulating or replacing, and the moves follow it. -/
theorem productsAndFilterTaps : Obligations.ProductsAndFilterTaps := by
  unfold Obligations.ProductsAndFilterTaps
  refine ⟨fun e s f hc hr ha hm => ?_, fun e s f mx my hc hr ha hm px py => ?_⟩
  · intro x r u w p q cre cim any jre jim jany does
    have hn : ¬(false = true ∧ f.a ≠ 0 ∧ f.a ≠ 2) := fun h => Bool.noConfusion h.1
    have hq : ¬(false = true ∧ f.a ≠ 0) := fun h => Bool.noConfusion h.1
    refine ⟨fun a b => rfl, .of_multiply rfl hc hr hn hq hm ⟨.refl .., rfl, rfl⟩,
      .of_multiply rfl hc hr hn hq hm ⟨r.rmac_accumulates f false u w, r.rmac_feeds ..⟩,
      .of_multiply rfl hc hr hn hq hm ⟨r.rmac_accumulates f true u w, r.rmac_feeds ..⟩,
      .of_multiply rfl hc hr hn hq hm ⟨r.rmac_replaces f u w, (r.setAcc f.a 0).rmac_feeds ..⟩, fun h => ?_, fun h => ?_⟩
    · have hcx : ¬(true = true ∧ f.a ≠ 0 ∧ f.a ≠ 2) := by omega
      exact ⟨.of_multiply rfl hc hr hcx hq hm ⟨r.cmac_accumulates f false false u w rfl, r.cmac_feeds ..⟩,
        .of_multiply rfl hc hr hcx hq hm ⟨r.cmac_accumulates f true false u w rfl, r.cmac_feeds ..⟩,
        .of_multiply rfl hc hr hcx hq hm ⟨r.cmac_accumulates f false true u w rfl, r.cmac_feeds ..⟩,
        .of_multiply rfl hc hr hcx hq hm ⟨r.cmac_replaces f false u w rfl, (r.clear2 f.a).cmac_feeds ..⟩,
        .of_multiply rfl hc hr hcx hq hm ⟨r.cmac_replaces f true u w rfl, (r.clear2 f.a).cmac_feeds ..⟩⟩
    · have hqa : ¬(true = true ∧ f.a ≠ 0) := by omega
      have hany : (q (re u) (re w) || q (re u) (im w) || q (im u) (re w) || q (im u) (im w)) = any := by
        unfold any
        ac_rfl
      exact ⟨.of_multiply rfl hc hr hn hqa hm ⟨(r.qmac_accumulates f u w).congr rfl hany, r.qmac_feeds ..⟩,
        .of_multiply rfl hc hr hn hqa hm ⟨(r.qmac_replaces f u w).congr rfl hany, ((r.clear2 0).clear2 2).qmac_feeds ..⟩⟩
  · intro x r ax xv yv p q line
    obtain ⟨_, _, hp⟩ := Ladle.movesParse_of_canMove hm
    cases hp.px.symm.trans px
    cases hp.py.symm.trans py
    refine ⟨fun h => ?_, ?_⟩
    · obtain ⟨y, hy, ht, hacc⟩ := Issues.of_firTap (i := .leFirmv e f) (real := false) rfl hc hr (by omega) hp rfl rfl rfl rfl
        (r.cmac_accumulates f false false xv yv rfl)
      exact ⟨y, hy, ⟨ht.rest, ht.moved, ht.written, ht.others⟩, hacc⟩
    · obtain ⟨y, hy, ht, hacc⟩ := Issues.of_firTap (i := .leFirmvr e f) (real := true) rfl hc hr (by simp) hp rfl rfl rfl rfl
        (r.rmac_accumulates f false xv yv)
      exact ⟨y, hy, ⟨ht.rest, ht.moved, ht.written, ht.others⟩, hacc⟩

end Sys2Proof.Machine
end

section
/-! ## Loads and stores of a Ladle engine -/
namespace Sys2Proof

/-- The address register that a load or store names. -/
def FmtL.index (f : FmtL) (y : Bool) : Nat := f.i + (if y then 4 else 0)

end Sys2Proof

namespace Sys2Proof.Machine

variable {e : Nat} {s : State}

/-! ### Address modes -/

/-- A bank after the address mode's own update (R255). -/
def Ladle.advanced (x : Ladle) (y : Bool) (f : FmtL) (b : Bank) : Bank :=
  if f.mode = 0 then { b with idx := b.idx.put (f.index y) (x.advance (f.index y) (x.stepOf (f.index y) f.step) (b.idx.get (f.index y))) }
  else b

theorem Ladle.advanced_eq (x : Ladle) (y : Bool) (f : FmtL) (b : Bank) : x.advanced y f b = { b with idx := (x.advanced y f b).idx } := by
  unfold advanced
  split <;> rfl

@[simp] theorem Ladle.advanced_dOf (x : Ladle) (y : Bool) (f : FmtL) (b : Bank) (k : Nat) : (x.advanced y f b).dOf k = b.dOf k := by
  rw [advanced_eq]
  rfl

@[simp] theorem Ladle.advanced_f (x : Ladle) (y : Bool) (f : FmtL) (b : Bank) : (x.advanced y f b).f = b.f := by rw [advanced_eq]

@[simp] theorem Ladle.advanced_acc (x : Ladle) (y : Bool) (f : FmtL) (b : Bank) : (x.advanced y f b).acc = b.acc := by rw [advanced_eq]

@[simp] theorem Ladle.advanced_accOf (x : Ladle) (y : Bool) (f : FmtL) (b : Bank) (k : Nat) : (x.advanced y f b).accOf k = b.accOf k :=
  Bank.accOf_congr (congrArg (Tab.get · k) (x.advanced_acc y f b))

@[simp] theorem Ladle.advanced_flag (x : Ladle) (y : Bool) (f : FmtL) (b : Bank) (n : Nat) : (x.advanced y f b).flag n = b.flag n := by
  rw [advanced_eq]
  rfl

theorem Ladle.setBank_afterAccess (x : Ladle) (b : Bank) (y : Bool) (f : FmtL) :
    (x.setBank b).afterAccess y f = x.setBank (x.advanced y f b) := by
  unfold afterAccess advanced FmtL.index
  split
  · exact x.setBank_postModify ..
  · rfl

/-- Post-modify advances the named register, other modes none (R255). -/
theorem Ladle.advanced_index {x : Ladle} {b : Bank} (h : b.idx = x.bank.idx) (y : Bool) (f : FmtL) :
    (∀ k, k ≠ f.index y → (x.advanced y f b).idx.get k = x.bank.idx.get k) ∧ (x.advanced y f b).idx.get (f.index y) =
      if f.mode = 0 then x.advance (f.index y) (x.stepOf (f.index y) f.step) (x.bank.idx.get (f.index y)) else x.bank.idx.get (f.index y) := by
  unfold advanced
  rw [← h]
  split
  · exact ⟨fun k hk => Tab.get_put_ne _ _ _ _ hk.symm, Tab.get_put_same ..⟩
  · exact ⟨fun _ _ => rfl, rfl⟩

theorem Ladle.effective_eq (x : Ladle) (y : Bool) (f : FmtL) : x.effective y f =
    if f.mode = 0 then x.bank.idx.get (f.index y) else if f.mode = 1 then (x.bank.idx.get (f.index y) + f.off) % 65536 else f.off % 65536 := by
  unfold effective FmtL.index
  generalize x.bank.idx.get (f.i + if y then 4 else 0) = i
  rcases f.mode with _ | _ | _ <;> rfl

/-- An access of a legal mode and register, at a multiple of its size, does not fault (R255, R256). -/
theorem accessFault_none {f : FmtL} {a : Nat} (hm : f.mode < 3) (hr : f.reg < 16) (ha : a % (if f.half then 2 else 4) = 0) :
    accessFault f a = none := by
  rw [accessFault, if_neg (by omega), if_neg (not_not.2 ha)]

/-! ### Loads -/

/-- The value that a load puts in its register (R258). -/
def Ladle.loaded (x : Ladle) (y : Bool) (f : FmtL) (a : Nat) : Nat :=
  if f.half then twos 32 (signed 16 (x.seenWord y a / 2 ^ (8 * (a % 4)) % 65536)) else x.seenWord y a

/-- A load writes its register and advances its index register (R258). -/
theorem IssuesBank.of_load {x : Ladle} {f : FmtL} {y : Bool} {a v : Nat} {P : Bank → Prop} (hc : s.canIssue e = true) (hx : s.eng e = x)
    (hm : f.mode < 3) (hr : f.reg < 16) (ha : x.effective y f = a) (hal : a % (if f.half then 2 else 4) = 0) (hv : x.loaded y f a = v)
    (h : P (x.advanced y f (x.bank.setCode f.reg v))) : IssuesBank (if y then .leLdy e f else .leLdx e f) e s P := by
  have hi : exec (if y then .leLdy e f else .leLdx e f) s = issue e false (load y f) s := by cases y <;> rfl
  subst hx hv
  refine .of_issue hi hc ?_ h
  unfold load
  dsimp only
  rw [ha, accessFault_none hm hr hal, ← Ladle.setBank_afterAccess]
  rfl

/-! ### Stores -/

section
variable (x : Ladle) (b : Bank) (y : Bool) (a : Nat) (l : List Byte)

theorem Ladle.store_setBank : (x.setBank b).store y a l = (x.store y a l).setBank b := by
  unfold setBank
  cases y <;> cases h : x.stack.isEmpty <;> simp [store, setMem, mem, word, h]

theorem Ladle.store_advanced (f : FmtL) : (x.store y a l).advanced y f b = x.advanced y f b := by cases y <;> rfl

theorem Ladle.store_mem : (x.store y a l).mem y = (x.mem y).write a l := by cases y <;> rfl

theorem Ladle.store_mem_other : (x.store y a l).mem (!y) = x.mem (!y) := by cases y <;> rfl

theorem Ladle.store_eq : x.store y a l = { x with x := (x.store y a l).x, y := (x.store y a l).y, exposed := (x.store y a l).exposed } := by
  cases y <;> rfl

@[simp] theorem Ladle.setBank_mem (z : Bool) : (x.setBank b).mem z = x.mem z := by
  rw [setBank_eq]
  rfl

@[simp] theorem Ladle.setBank_y : (x.setBank b).y = x.y := by rw [setBank_eq]

@[simp] theorem Ladle.setBank_exposed : (x.setBank b).exposed = x.exposed := by rw [setBank_eq]

/-- A store and a change of the bank in use leave the rest of the engine. -/
theorem Ladle.store_setBank_eq : (x.store y a l).setBank b =
    { x.setBank b with x := (x.store y a l).x, y := (x.store y a l).y, exposed := (x.store y a l).exposed } := by
  rw [← store_setBank, store_eq]
  cases y <;> simp [store, setMem]

end

/-- The value that a store writes, and whether it saturated on its way out of an accumulator (R258). -/
def Bank.stored (b : Bank) (f : FmtL) : Nat × Bool :=
  if isA f.reg then (if f.half then (twos 16 (b.halfOf (f.reg - 12)).1, (b.halfOf (f.reg - 12)).2) else b.wordOf (f.reg - 12))
  else b.code f.reg

theorem Bank.stored_eq (b : Bank) {f : FmtL} (h : f.reg < 16) :
    let acc := b.accOf (f.reg - 12)
    let high := b.round acc / 65536
    b.stored f = (if f.reg < 8 then b.dOf f.reg else if f.reg < 12 then b.f.get (f.reg - 8)
        else if f.half then twos 16 (sat high 16) else twos 32 (sat acc 32),
      decide (12 ≤ f.reg) && (if f.half then decide (sat high 16 ≠ high) else decide (sat acc 32 ≠ acc))) := by
  intro acc high
  unfold stored
  by_cases hA : 12 ≤ f.reg
  · have h8 : ¬f.reg < 8 := by omega
    have h12 : ¬f.reg < 12 := by omega
    rw [if_pos (by simp [isA, hA, h]), if_neg h8, if_neg h12, decide_eq_true hA, Bool.true_and]
    split <;> rfl
  · rw [if_neg (by simp [isA, hA]), decide_eq_false hA, Bool.false_and, code, if_neg (by simp [isA, hA])]
    split
    next hF => rw [if_neg (by rw [isF_iff] at hF; omega), if_pos (by omega)]
    next hF => rw [if_pos (by rw [isF_iff] at hF; omega)]; rfl

/-- A store writes its bytes, sticks SV and advances its index register (R258). -/
theorem Issues.of_store {x : Ladle} {f : FmtL} {y c : Bool} {a v n : Nat} {P : Ladle → Prop} (hc : s.canIssue e = true) (hx : s.eng e = x)
    (hm : f.mode < 3) (hr : f.reg < 16) (ha : x.effective y f = a) (hn : (if f.half then 2 else 4) = n) (hal : a % n = 0)
    (hv : x.bank.stored f = (v, c))
    (h : P ((x.store y a (le n v)).setBank (x.advanced y f (x.bank.stick St.sv c)))) :
    Issues (if y then .leSty e f else .leStx e f) e s P := by
  have hi : exec (if y then .leSty e f else .leStx e f) s = issue e false (store y f) s := by cases y <;> rfl
  subst hx
  refine .of_issue hi hc ?_ h
  rw [← Ladle.store_advanced _ _ y a (le n v), ← Ladle.setBank_afterAccess, ← Ladle.store_setBank]
  unfold store
  dsimp only
  rw [ha, accessFault_none hm hr (hn ▸ hal), hn]
  exact congrArg (fun p : Nat × Bool => Issue.ok ((((s.eng e).setBank ((s.eng e).bank.stick St.sv p.2)).store y a
    (le n p.1)).afterAccess y f)) hv

/-- Bytes written inside the memory read back. -/
theorem Mem.read_write (m : Mem) (a : Nat) (l : List Byte) (h : l.length ≤ 65536) : (m.write a l).read a l.length = l := by
  refine List.ext_getElem (by simp [read]) fun j h1 h2 => ?_
  simp only [read, List.getElem_map, List.getElem_range]
  rw [byte_write _ _ _ h2 h, List.getD_eq_getElem _ _ h2]

/-- Settles O38: `IssuesBank.of_load` and `Issues.of_store` name the engine that an access leaves. -/
theorem loadsAndStores : Obligations.LoadsAndStores := by
  unfold Obligations.LoadsAndStores
  intro e s f hc hm hr y x r j a n index hal hlt
  have ha : x.effective y f = a := x.effective_eq y f
  have hindex {b : Bank} (h : b.idx = r.idx) : index (x.advanced y f b) := Ladle.advanced_index h y f
  refine ⟨?_, ?_⟩
  · intro word v
    have hv : x.loaded y f a = v := rfl
    refine ⟨fun h => .of_load hc rfl hm hr ha hal hv ?_, fun h h' => .of_load hc rfl hm hr ha hal hv ?_,
      fun h => .of_load hc rfl hm hr ha hal hv ?_⟩
    · rw [Bank.setCode_gen _ _ h]
      refine ⟨?_, fun k hk => ?_, ?_, hindex rfl⟩
      · exact (x.advanced_dOf ..).trans (Tab.get_put_same ..)
      · exact (x.advanced_dOf ..).trans (Tab.get_put_ne r.d _ _ _ hk.symm)
      · rw [Ladle.advanced_eq]
        rfl
    · rw [Bank.setCode_feed _ _ h h']
      refine ⟨?_, fun k hk => ?_, ?_, hindex rfl⟩
      · rw [Ladle.advanced_f]
        exact Tab.get_put_same ..
      · rw [Ladle.advanced_f]
        exact Tab.get_put_ne r.f _ _ _ hk.symm
      · rw [Ladle.advanced_eq]
    · rw [Bank.setCode_acc _ _ h hr]
      have hb := signed_bounds (w := 32) (by decide) v
      refine ⟨?_, fun k hk => ?_, ?_, hindex rfl⟩
      · exact (x.advanced_accOf ..).trans (r.accOf_setAcc _ (v := signed 32 v) (by omega) (by omega))
      · rw [Ladle.advanced_acc]
        exact Tab.get_put_ne r.acc _ _ _ hk.symm
      · rw [Ladle.advanced_eq]
        rfl
  · intro acc high v clamps
    have hstored : r.stored f = (v, clamps) := r.stored_eq hr
    have hkeep : ∀ m ∈ [St.z, St.n, St.c, St.v, St.im, St.rnd, St.ie], m ≠ St.sv := by decide
    have hn : n = 2 ∨ n = 4 := by
      unfold n
      split <;> simp
    refine .of_store (n := n) hc rfl hm hr ha rfl hal hstored ?_
    clear_value n
    have hin : a + n ≤ 65536 := by rcases hn with rfl | rfl <;> omega
    have hl : (le n v).length = n := length_le ..
    have hmem : ((x.store y a (le n v)).setBank (x.advanced y f (r.stick St.sv clamps))).mem y = (x.mem y).write a (le n v) := by
      rw [Ladle.setBank_mem, Ladle.store_mem]
    refine ⟨?_, fun c hcx => ?_, ?_, ?_, ?_, ?_, ?_, fun m hm => ?_, ?_⟩
    · rw [hmem]
      have := (x.mem y).read_write a (le n v) (by omega)
      rwa [hl] at this
    · rw [hmem]
      exact Mem.byte_write_ne _ _ _ _ fun k hk => by omega
    · rw [Ladle.setBank_mem, Ladle.store_mem_other]
    · rw [Ladle.setBank_eq]
      cases y <;> rfl
    · rw [Ladle.setBank_bank, Ladle.store_setBank_eq]
    · rw [Ladle.setBank_bank]
      exact hindex (by rw [Bank.stick_idx])
    · rw [Ladle.setBank_bank, Ladle.advanced_flag, Bank.flag_stick, decide_eq_true rfl, Bool.true_and]
    · rw [Ladle.setBank_bank, Ladle.advanced_flag, Bank.flag_stick_sv _ _ (hkeep m hm)]
    · rw [Ladle.setBank_bank, Ladle.advanced_eq, Bank.stick_eq]

end Sys2Proof.Machine
end

section
/-! ## Control flow of a Ladle engine -/
namespace Sys2Proof.Machine

variable {i : Instr} {e : Nat} {s : State}

/-! ### Engines changed twice -/

theorem updEng_congr {f g : Ladle → Ladle} (h : f (s.eng e) = g (s.eng e)) : updEng e f s = updEng e g s := by
  simp only [updEng, Tab.upd, State.eng] at h ⊢
  rw [h]

end Sys2Proof.Machine

namespace Sys2Proof

section
variable {α : Type}

theorem Tab.insert_insert (t : Tab α) (a : Nat) (x y : α) : Tab.insert (Tab.insert t a x) a y = Tab.insert t a y := by
  induction t with
  | nil => simp [Tab.insert]
  | cons p t ih =>
    obtain ⟨k, v⟩ := p
    by_cases h : a < k
    · simp [Tab.insert, h]
    · by_cases h' : a = k
      · simp [Tab.insert, h']
      · simp [Tab.insert, h, h', ih]

theorem Tab.erase_insert (t : Tab α) (a : Nat) (x : α) : Tab.erase (Tab.insert t a x) a = Tab.erase t a := by
  induction t with
  | nil => simp [Tab.insert, Tab.erase]
  | cons p t ih =>
    obtain ⟨k, v⟩ := p
    unfold Tab.erase at ih ⊢
    by_cases h : a < k
    · simp [Tab.insert, h]
    · by_cases h' : a = k
      · simp [Tab.insert, h']
      · simp [Tab.insert, h, h', List.filter_cons, ih]

/-- A key written twice holds the second value; the first must not be the default, or entries that are not in canonical form are lost. -/
theorem Tab.put_put [Inhabited α] [DecidableEq α] (t : Tab α) (a : Nat) {x : α} (y : α) (h : x ≠ default) :
    Tab.put (Tab.put t a x) a y = Tab.put t a y := by
  unfold Tab.put
  rw [if_neg h]
  split
  · exact erase_insert t a x
  · exact insert_insert t a x y

end

end Sys2Proof

namespace Sys2Proof.Machine

variable {i : Instr} {e : Nat} {s : State}

theorem updEng_updEng {f g : Ladle → Ladle} (h : f (s.eng e) ≠ default) : updEng e g (updEng e f s) = updEng e (fun x => g (f x)) s := by
  have := Tab.put_put s.task.eng e (g (f (s.eng e))) h
  simp only [updEng, Tab.upd, Tab.get_put_same, State.eng] at this ⊢
  rw [this]

/-! ### Jumps -/

theorem Jumps.of_issue {ends : Bool} {op : Ladle → Issue} {y : Ladle} {pc : Nat} (hi : exec i s = issue e ends op s)
    (hc : s.canIssue e = true) (hl : (s.eng e).atLoopEnd = false) (ho : op (s.eng e) = .jump y pc) : Jumps i e s y pc := by
  rw [Jumps, hi, issue]
  simp [hc, hl, ho]

/-- The condition codes that a branch tests (Table 9-6). -/
theorem Bank.condition_eq (b : Bank) {c : Nat} (h : c ≤ 8) : b.condition c =
    some ([true, b.flag St.z, !b.flag St.z, b.flag St.n, !b.flag St.n, !b.flag St.z && !b.flag St.n, b.flag St.z || b.flag St.n,
      b.flag St.v, b.flag St.c].getD c false) := by
  interval_cases c <;> rfl

theorem branch_jump {x : Ladle} {f : FmtB} {indirect c : Bool} (target : Bank → Nat) (hr : f.rsv = 0) (hi : indirect = true → f.reg < 8)
    (hb : x.bank.condition f.cond = some c) : branch f target indirect x = .jump x (if c then target x.bank else x.pc + 1) := by
  have hd : ¬(f.rsv ≠ 0 ∨ indirect = true ∧ (!isD f.reg) = true) := by simp [hr, isD]; exact hi
  unfold branch
  rw [if_neg hd, hb]
  cases c <;> rfl

theorem call_jump {x : Ladle} {f : FmtB} {indirect : Bool} (target : Bank → Nat) (hr : f.rsv = 0) (hi : indirect = true → f.reg < 8) :
    call f target indirect x = .jump (x.setBank { x.bank with lr := (x.pc + 1) % 16384 }) (target x.bank) := by
  have hd : ¬(f.rsv ≠ 0 ∨ indirect = true ∧ (!isD f.reg) = true) := by simp [hr, isD]; exact hi
  unfold call
  rw [if_neg hd]

/-- Entering a loop of n passes at thread level or inside one loop; a count of 0 skips the body (R263). -/
theorem loop_jump {x : Ladle} {f : FmtB} {count : Bank → Nat} {n : Nat} (hr : f.rsv = 0) (hl : x.bank.lpc2 = 0 ∨ x.bank.lpc = 0)
    (hn : count x.bank = n) : loop count f x =
      .jump (if n = 0 then x else x.setBank { (if x.bank.lpc = 0 then x.bank else
          { x.bank with lpc2 := x.bank.lpc, lps2 := x.bank.lps, lpe2 := x.bank.lpe }) with
        lpc := n
        lps := (x.pc + 1) % 16384
        lpe := f.target % 16384 }) (if n = 0 then f.target + 1 else x.pc + 1) := by
  unfold loop
  dsimp only
  rw [if_neg (not_not.2 hr), if_neg (by omega), hn]
  split
  · rfl
  · simp only [ne_eq, ite_not]

end Sys2Proof.Machine
end

section
namespace Sys2Proof.Machine

variable {i : Instr} {e : Nat} {s : State}

/-! ### Interrupt sources -/

@[simp] theorem updEng_irqTarget (j : Nat) (f : Ladle → Ladle) (s : State) (k : Nat) : (updEng j f s).irqTarget k = s.irqTarget k := rfl

@[simp] theorem updEng_irqPriority (j : Nat) (f : Ladle → Ladle) (s : State) (k : Nat) : (updEng j f s).irqPriority k = s.irqPriority k := rfl

/-- The level of a source does not depend on an engine but through its doorbell (Table 9-9). -/
theorem updEng_irqLevel (j : Nat) {f : Ladle → Ladle} (s : State) (k : Nat) (h : ∀ x, (f x).doorbell = x.doorbell := by exact fun _ => rfl) :
    (updEng j f s).irqLevel k = s.irqLevel k := by
  have hd (n : Nat) : ((updEng j f s).eng n).doorbell = (s.eng n).doorbell := by
    rw [updEng_eng]
    split
    · exact h _
    · rfl
  unfold State.irqLevel
  rw [hd]
  rfl

theorem mem_candidates {k : Nat} : k ∈ s.candidates e ↔ k < 64 ∧ s.irqTarget k = e ∧ s.irqPriority k ≠ 0 ∧
    (s.irqLevel k || bit (s.eng e).soft k) = true ∧ bit (s.eng e).mask k = false ∧
      ((s.eng e).stack.any fun h => h.source == k && !h.completed) = false := by
  simp [State.candidates, pick, and_assoc]

/-- An engine none of whose sources is raised has no candidate (R267). -/
theorem candidates_nil (h : ∀ k, k < 64 → s.irqTarget k = e → s.irqLevel k = false) (hs : (s.eng e).soft = 0) : s.candidates e = [] := by
  rw [List.eq_nil_iff_forall_not_mem]
  intro k hk
  obtain ⟨hlt, ht, -, hl, -⟩ := mem_candidates.1 hk
  rw [h k hlt ht, hs] at hl
  simp [bit] at hl

/-! ### RETI and WAIT -/

/-- RETI of the one completed handler returns to the thread when no source is a candidate (R271). -/
theorem returnFromHandler_thread {h : Handler} (hs : (s.eng e).stack = [h]) (hc : h.completed = true)
    (hn : ∀ k, k < 64 → s.irqTarget k = e → s.irqLevel k = false) (hsoft : (s.eng e).soft = 0) :
    returnFromHandler e s = updEng e (fun x => { x with stack := [], pc := x.threadPc }) s := by
  have hnil : (updEng e (fun x => { x with stack := [] }) s).candidates e = [] :=
    candidates_nil (fun k hk ht => (updEng_irqLevel e s k).trans (hn k hk ht)) (by rw [updEng_eng_same]; exact hsoft)
  unfold returnFromHandler State.eligible
  simp [hs, hc, hnil, bestOf]

theorem exec_leReti {f : FmtB} (hc : s.canIssue e = true) (hr : f.rsv = 0) (hl : (s.eng e).atLoopEnd = false) :
    exec (.leReti e f) s = .next (returnFromHandler e (updEng e Ladle.age s)) := by
  change execLeReti e f s = _
  simp [execLeReti, hc, hr, hl]

theorem reti_returns {h : Handler} {f : FmtB} (hc : s.canIssue e = true) (hr : f.rsv = 0) (hl : (s.eng e).atLoopEnd = false)
    (hs : (s.eng e).stack = [h]) (hh : h.completed = true) (hn : ∀ k, k < 64 → s.irqTarget k = e → s.irqLevel k = false)
    (hsoft : (s.eng e).soft = 0) :
    exec (.leReti e f) s = .next (updEng e (fun _ => { (s.eng e).age with stack := [], pc := (s.eng e).threadPc }) s) := by
  have hne : (s.eng e).age ≠ default := fun h => by
    have := congrArg Ladle.stack h
    rw [show (s.eng e).age.stack = (s.eng e).stack from rfl, hs] at this
    cases this
  rw [exec_leReti hc hr hl, returnFromHandler_thread (h := h) (by rw [updEng_eng_same]; exact hs) hh
    (fun k hk ht => (updEng_irqLevel e s k).trans (hn k hk ht)) (by rw [updEng_eng_same]; exact hsoft), updEng_updEng hne,
    updEng_congr (g := fun _ => { (s.eng e).age with stack := [], pc := (s.eng e).threadPc }) rfl]

theorem State.awake_of_canIssue (hc : s.canIssue e = true) : (s.eng e).sleep = .awake := by
  simp only [State.canIssue, State.canAct, Bool.and_eq_true, Bool.or_eq_true, decide_eq_true_eq, beq_iff_eq] at hc
  obtain ⟨hlt, ⟨⟨-, -⟩, -⟩, hle | ⟨ha, -⟩⟩ := hc
  · omega
  · exact ha

/-- WAIT with a wake condition goes on at the next word, else it sleeps as PWRM says (R281). -/
theorem exec_leWait {f : FmtS} (hc : s.canIssue e = true) (hl : (s.eng e).atLoopEnd = false) (hp : bits (s.eng e).pwrm 3 2 ≠ 0)
    (hq : (s.eng e).pwrm % 4 ≠ 3) : exec (.leWait e f) s = .next (
      if s.wakes e then bump Prm.ladleWaitNosleep e (updEng e (fun x => x.nextWord.age) s)
      else updEng e (fun _ => { (s.eng e).age with sleep := [Sleep.idle, .nap, .dormant].getD ((s.eng e).pwrm % 4) .awake }) s) := by
  have hlt : (s.eng e).pwrm % 4 < 3 := by omega
  change execLeWait e f s = _
  unfold execLeWait
  simp only [hc, hl, hp, hq, Bool.not_true, Bool.false_eq_true, if_false, or_self]
  split
  · rfl
  · refine congrArg Host.Outcome.next (updEng_congr ?_)
    generalize (s.eng e).pwrm % 4 = m at hlt
    interval_cases m <;> rfl

/-- Outside a loop's last word the next word follows (R263). -/
theorem Bank.afterWord_next {b : Bank} {pc : Nat} (h : b.lpc = 0 ∨ pc ≠ b.lpe) : b.afterWord pc = (b, (pc + 1) % 16384) :=
  if_neg (by omega)

theorem Ladle.nextWord_next {x : Ladle} (h : x.bank.lpc = 0 ∨ x.pc ≠ x.bank.lpe) : x.nextWord = { x with pc := (x.pc + 1) % 16384 } := by
  rw [nextWord, Bank.afterWord_next h]
  simp

theorem Ladle.next_of_atLoopEnd {x : Ladle} (h : x.atLoopEnd = false) : x.bank.lpc = 0 ∨ x.pc ≠ x.bank.lpe := by
  simpa [atLoopEnd, ← or_iff_not_imp_left] using h

/-- At a loop's last word the loop starts again while passes remain (R263). -/
theorem Ladle.nextWord_again {x : Ladle} (h : 1 < x.bank.lpc) (hpc : x.pc = x.bank.lpe) :
    x.nextWord = { x.setBank { x.bank with lpc := x.bank.lpc - 1 } with pc := x.bank.lps } := by
  have ha : x.bank.afterWord x.pc = ({ x.bank with lpc := x.bank.lpc - 1 }, x.bank.lps) := by
    rw [Bank.afterWord, if_pos ⟨by omega, hpc⟩, if_pos h]
  rw [nextWord, ha]

/-- After a loop's last pass the next word follows, and no loop runs when none encloses it (R263). -/
theorem Ladle.nextWord_last {x : Ladle} (h : x.bank.lpc = 1) (h2 : x.bank.lpc2 = 0) (hpc : x.pc = x.bank.lpe) :
    x.nextWord.pc = (x.pc + 1) % 16384 ∧ x.nextWord.bank.lpc = 0 := by
  have ha : x.bank.afterWord x.pc = ({ x.bank with lpc := 0, lps := x.bank.lps2, lpe := x.bank.lpe2, lpc2 := 0 }, (x.pc + 1) % 16384) := by
    rw [Bank.afterWord, if_pos ⟨by omega, hpc⟩, if_neg (by omega)]
    simp [h2]
  refine ⟨by rw [nextWord, ha], ?_⟩
  rw [nextWord_bank, ha]

theorem exec_leRet (e : Nat) (f : FmtB) (s : State) :
    exec (.leRet e f) s = issue e true (fun x => if f.rsv ≠ 0 then .fault 1 else .jump x x.bank.lr) s := rfl

theorem exec_leLoop (e : Nat) (f : FmtB) (s : State) :
    exec (.leLoop e f) s = issue e true (fun x => if isD f.reg then loop (fun b => b.dOf f.reg % 65536) f x else .fault 1) s := rfl

/-- Settles O39: the jumps of Table 9-6, the loop ends, RETI and WAIT are the lemmas above. -/
theorem controlFlowFollowsTheTable : Obligations.ControlFlowFollowsTheTable := by
  unfold Obligations.ControlFlowFollowsTheTable
  intro e s hc x r
  refine ⟨fun f => .of_issue rfl hc rfl ⟨rfl, Ladle.nextWord_next, Ladle.nextWord_again, Ladle.nextWord_last⟩, fun hl => ?_⟩
  intro next
  refine ⟨fun f hr => ?_, fun f hp hq => ⟨fun hw => ?_, fun hw => ?_⟩⟩
  · intro take
    refine ⟨fun h => ?_, fun h hreg => ?_, ?_, fun hreg => ?_, ?_, fun hloop => ?_, fun h hs hh hn hsoft => ?_⟩
    · exact .of_issue rfl hc hl (branch_jump (fun _ => f.target) hr (fun h => Bool.noConfusion h) (r.condition_eq h))
    · exact .of_issue rfl hc hl (branch_jump (fun b => b.dOf f.reg % 16384) hr (fun _ => hreg) (r.condition_eq h))
    · exact .of_issue rfl hc hl (call_jump (fun _ => f.target) hr (fun h => Bool.noConfusion h))
    · exact .of_issue rfl hc hl (call_jump (fun b => b.dOf f.reg % 16384) hr (fun _ => hreg))
    · exact .of_issue (exec_leRet e f s) hc hl (if_neg (not_not.2 hr))
    · intro enters
      refine ⟨fun hreg => .of_issue (exec_leLoop e f s) hc hl ?_, .of_issue rfl hc hl (loop_jump hr hloop rfl)⟩
      exact (if_pos (decide_eq_true hreg)).trans (loop_jump hr hloop rfl)
    · exact .of_eq (reti_returns hc hr hl hs hh hn hsoft) rfl
  · refine .of_eq (exec_leWait hc hl hp hq) ?_
    rw [if_neg (by rw [hw]; decide)]
  · refine .of_eq (exec_leWait hc hl hp hq) ?_
    have hnext : x.nextWord = { x with pc := next % 16384 } := Ladle.nextWord_next (Ladle.next_of_atLoopEnd hl)
    have heng : (bump Prm.ladleWaitNosleep e (updEng e (fun x => x.nextWord.age) s)).eng e = x.nextWord.age := by
      rw [State.eng, bump_task]
      exact updEng_eng_same ..
    rw [if_pos hw, heng, hnext]
    exact ⟨State.awake_of_canIssue hc, rfl, rfl⟩

end Sys2Proof.Machine
end

section
/-! ## System instructions of a Ladle engine -/
namespace Sys2Proof

/-- Taking away the bits that a mask shares with a number clears those bits. -/
theorem testBit_sub_and (m v i : Nat) : (m - (m &&& v)).testBit i = (m.testBit i && !v.testBit i) := by
  have hand (m v : Nat) : (m &&& v) % 2 = 1 ↔ m % 2 = 1 ∧ v % 2 = 1 := Nat.and_mod_two_eq_one
  induction i generalizing m v with
  | zero =>
    have hle := Nat.and_le_left (n := m) (m := v)
    have hbit := hand m v
    rw [Nat.testBit_zero, Nat.testBit_zero, Nat.testBit_zero, ← decide_not, ← Bool.decide_and, decide_eq_decide]
    omega
  | succ i ih =>
    have hle := Nat.and_le_left (n := m) (m := v)
    have hbit := hand m v
    have hdiv : (m &&& v) / 2 = m / 2 &&& v / 2 := Nat.and_div_two
    rw [Nat.testBit_succ, Nat.testBit_succ, Nat.testBit_succ, ← ih, ← hdiv]
    congr 1
    omega

end Sys2Proof

namespace Sys2Proof.Machine

variable {e : Nat} {s : State}

/-! ### Mode bits -/

/-- The mask of SETM and CLRM holds bits 7:3 of the instruction's field (R262). -/
theorem testBit_modeMask (f : FmtS) {n : Nat} (h : n < 8) : (modeMask f).testBit n = (decide (3 ≤ n) && f.io.testBit n) := by
  have hm : modeMask f = f.io % 2 ^ 8 / 2 ^ 3 * 2 ^ 3 := rfl
  rw [hm, Nat.testBit_mul_two_pow, Nat.testBit_div_two_pow, Nat.testBit_mod_two_pow]
  by_cases h3 : 3 ≤ n
  · simp [h3, h]
  · simp [h3]

/-! ### Ports -/

/-- An unassigned port reads 0 (Table 9-8). -/
theorem portRead_unassigned {io : Nat} (h : 0x100 ≤ io) : portRead e io s = (0, s) := by
  unfold portRead
  dsimp only
  rw [if_neg (by omega)]
  split
  case h_12 => rfl
  all_goals omega

/-- A write to an unassigned port is ignored (Table 9-8). -/
theorem portWrite_unassigned {io v : Nat} (h : 0x100 ≤ io) : portWrite e io v s = (.done, s) := by
  unfold portWrite
  rw [if_neg (by omega), if_neg (by omega)]
  split
  case h_24 => rfl
  all_goals omega

/-- IN of a port that reads without effect puts its value in the register (R265). -/
theorem IssuesBank.of_in {f : FmtS} {v : Nat} {P : Bank → Prop} (hc : s.canIssue e = true) (hr : f.reg < 8) (hio : f.io ≠ 0)
    (hp : portRead e f.io s = (v, s)) (h : P ((s.eng e).bank.setD f.reg v)) : IssuesBank (.leIn e f) e s P := by
  refine ⟨(s.eng e).setBank ((s.eng e).bank.setD f.reg v), ?_, by rw [Ladle.setBank_bank], by rwa [Ladle.setBank_bank]⟩
  change execLeIn e f s = _
  rw [execLeIn, hp]
  simp only [hc, isD, hr, hio, decide_true, Bool.not_true, Bool.false_eq_true, if_false]
  exact congrArg Host.Outcome.next (updEng_congr rfl)

/-- OUT to a port whose effect leaves the engine at hand at `y` (R265). -/
theorem Issues.of_out {f : FmtS} {t : State} {P : Ladle → Prop} (hc : s.canIssue e = true) (hr : f.reg < 8)
    (hp : portWrite e f.io ((s.eng e).bank.dOf f.reg) s = (.done, t)) {y : Ladle}
    (ht : updEng e (fun x => x.nextWord.age) t = updEng e (fun _ => y.nextWord.age) s) (h : P y) : Issues (.leOut e f) e s P := by
  refine ⟨y, ?_, h⟩
  change execLeOut e f s = _
  rw [execLeOut, hp]
  simp only [hc, isD, hr, decide_true, Bool.not_true, Bool.false_eq_true, if_false, ht]

/-- OUT to PWRM (Table 9-15). -/
theorem Issues.out_pwrm {f : FmtS} (hc : s.canIssue e = true) (hr : f.reg < 8) (hio : f.io = 0x060) :
    Issues (.leOut e f) e s fun y => y = { s.eng e with pwrm := (s.eng e).bank.dOf f.reg % 16 } := by
  have hp : portWrite e f.io ((s.eng e).bank.dOf f.reg) s = (.done, updEng e (fun x => { x with pwrm := (s.eng e).bank.dOf f.reg % 16 }) s) := by
    rw [hio]
    rfl
  have hne : ({ s.eng e with pwrm := (s.eng e).bank.dOf f.reg % 16 } : Ladle) ≠ default := fun h => by
    have hb : (s.eng e).bank = (default : Ladle).bank :=
      Eq.trans (b := ({ s.eng e with pwrm := (s.eng e).bank.dOf f.reg % 16 } : Ladle).bank) rfl (congrArg Ladle.bank h)
    have hw : (s.eng e).bank.dOf f.reg % 16 = 0xC := congrArg Ladle.pwrm h
    rw [hb] at hw
    exact absurd (show 0 % 16 = 0xC from hw) (by decide)
  refine .of_out hc hr hp ?_ rfl
  rw [updEng_updEng hne]
  exact updEng_congr rfl

/-- IN of JOB_FETCH by an engine without a job waits when no queue holds one (R273). -/
theorem exec_leIn_jobFetch {f : FmtS} (hc : s.canIssue e = true) (hr : f.reg < 8) (hio : f.io = 0) (hj : (s.runner e).job = none)
    (hb : (s.runner e).buf = none) (hq : s.queuesWithJobs = []) :
    exec (.leIn e f) s = .next (updRunner e (fun r => { r with fetch := some (some f.reg) })
      { updEng e Ladle.age s with task := { (updEng e Ladle.age s).task with waiters := s.task.waiters.filter (· != e) ++ [e] } }) := by
  have hcomplete : completeJob e 0 (updEng e Ladle.age s) = updEng e Ladle.age s := by
    unfold completeJob
    rw [updEng_runner, hj]
  have hsel : selectJob e (updEng e Ladle.age s) = none := by
    have : (updEng e Ladle.age s).queuesWithJobs = [] := hq
    simp [selectJob, State.jobGroupsFor, this, pick]
  change execLeIn e f s = _
  unfold execLeIn jobFetch
  simp only [hc, isD, hr, hio, decide_true, Bool.not_true, Bool.false_eq_true, if_false, if_true, hcomplete, updEng_runner, hb, hsel]
  rfl

/-! ### Special registers -/

section
variable (x : Ladle) (b : Bank)

@[simp] theorem Ladle.setBank_mod : (x.setBank b).mod = x.mod := by rw [setBank_eq]
@[simp] theorem Ladle.setBank_isp : (x.setBank b).isp = x.isp := by rw [setBank_eq]
@[simp] theorem Ladle.setBank_islim : (x.setBank b).islim = x.islim := by rw [setBank_eq]
@[simp] theorem Ladle.setBank_vbase : (x.setBank b).vbase = x.vbase := by rw [setBank_eq]
@[simp] theorem Ladle.setBank_stack : (x.setBank b).stack = x.stack := by rw [setBank_eq]
@[simp] theorem Ladle.setBank_resetCycle : (x.setBank b).resetCycle = x.resetCycle := by rw [setBank_eq]

theorem Ladle.setBank_st (h : b.st = x.bank.st) : (x.setBank b).st = x.st := by
  unfold st
  rw [setBank_bank, setBank_stack, h]

end

/-- What a special register reads depends on its own field only (Table 9-1). -/
theorem Ladle.special_congr {x y : Ladle} {n : Nat} (cycles m : Nat) (hidx : m < 8 → y.bank.idx.get m = x.bank.idx.get m := by simp)
    (hmod : 8 ≤ m → m < 24 → y.mod.get (m - 8) = x.mod.get (m - 8) := by simp)
    (hst : m = 24 → y.st = x.st := by exact fun _ => Ladle.setBank_st _ _ rfl) (hlr : m = 25 → y.bank.lr = x.bank.lr := by simp)
    (hlpc : m = 26 → y.bank.lpc = x.bank.lpc := by simp) (hlps : m = 27 → y.bank.lps = x.bank.lps := by simp)
    (hlpe : m = 28 → y.bank.lpe = x.bank.lpe := by simp) (hisp : m = 29 → y.isp = x.isp := by simp)
    (hislim : m = 30 → y.islim = x.islim := by simp) (hvbase : m = 31 → y.vbase = x.vbase := by simp)
    (hcycle : y.resetCycle = x.resetCycle := by simp) : y.special n cycles m = x.special n cycles m := by
  unfold special
  dsimp only
  split_ifs with h8 h24
  · exact hidx h8
  · exact hmod (by omega) h24
  · rw [hcycle]
    split
    · exact hst rfl
    · exact hlr rfl
    · exact hlpc rfl
    · exact hlps rfl
    · exact hlpe rfl
    · exact hisp rfl
    · exact hislim rfl
    · exact hvbase rfl
    all_goals rfl

/-- Two engines of the same registers differ in the stack's and the vectors' special registers only. -/
theorem Ladle.special_congr_of_bank {x y : Ladle} {n : Nat} (cycles m : Nat) (hb : y.bank = x.bank := by rfl) (hmod : y.mod = x.mod := by rfl)
    (hst : y.st = x.st := by rfl) (hcycle : y.resetCycle = x.resetCycle := by rfl) (hisp : m = 29 → y.isp = x.isp := by exact fun _ => rfl)
    (hislim : m = 30 → y.islim = x.islim := by exact fun _ => rfl) (hvbase : m = 31 → y.vbase = x.vbase := by exact fun _ => rfl) :
    y.special n cycles m = x.special n cycles m :=
  special_congr cycles m (fun _ => by rw [hb]) (fun _ _ => by rw [hmod]) (fun _ => hst) (fun _ => by rw [hb]) (fun _ => by rw [hb])
    (fun _ => by rw [hb]) (fun _ => by rw [hb]) hisp hislim hvbase hcycle

/-- MTS leaves every other special register (R262). -/
theorem Ladle.special_setSpecial_ne (x : Ladle) (e cycles v : Nat) {n m : Nat} (h : m ≠ n) :
    (x.setSpecial n v).special e cycles m = x.special e cycles m := by
  unfold setSpecial
  dsimp only
  split_ifs with h8 h24
  · refine special_congr cycles m fun _ => ?_
    rw [setBank_bank]
    exact Tab.get_put_ne _ _ _ _ h.symm
  · exact special_congr cycles m (fun _ => rfl) (fun hm _ => Tab.get_put_ne _ _ _ _ (by omega)) (fun _ => rfl) (fun _ => rfl) (fun _ => rfl)
      (fun _ => rfl) (fun _ => rfl)
  · split
    · exact special_congr cycles m (hst := fun hm => absurd hm h)
    · exact special_congr cycles m (hlr := fun hm => absurd hm h)
    · exact special_congr cycles m (hlpc := fun hm => absurd hm h)
    · exact special_congr cycles m (hlps := fun hm => absurd hm h)
    · exact special_congr cycles m (hlpe := fun hm => absurd hm h)
    · exact special_congr_of_bank cycles m (hisp := fun hm => absurd hm h)
    · exact special_congr_of_bank cycles m (hislim := fun hm => absurd hm h)
    · exact special_congr_of_bank cycles m (hvbase := fun hm => absurd hm h)
    · rfl

/-- The address, modify, length and 16-bit registers take 16 bits of a value (Table 9-1). -/
theorem Ladle.special_setSpecial_half (x : Ladle) (e cycles v : Nat) {n : Nat} (h : n < 24 ∨ n = 26 ∨ n = 29 ∨ n = 30) :
    (x.setSpecial n v).special e cycles n = v % 65536 := by
  rcases h with h | rfl | rfl | rfl
  · by_cases h8 : n < 8
    · simp [setSpecial, special, h8]
    · simp [setSpecial, special, h8, h]
  all_goals simp [setSpecial, special]

/-- LR and the loop's start and end take 14 bits of a value (Table 9-1). -/
theorem Ladle.special_setSpecial_address (x : Ladle) (e cycles v : Nat) {n : Nat} (h : n = 25 ∨ n = 27 ∨ n = 28) :
    (x.setSpecial n v).special e cycles n = v % 16384 := by
  rcases h with rfl | rfl | rfl <;> simp [setSpecial, special]

/-- The read-only registers ignore MTS (R262). -/
theorem Ladle.setSpecial_readOnly (x : Ladle) (v : Nat) {n : Nat} (h : 32 ≤ n) : x.setSpecial n v = x := by
  unfold setSpecial
  dsimp only
  rw [if_neg (by omega), if_neg (by omega)]
  split
  case h_9 => rfl
  all_goals omega

/-! ### BREAK -/

theorem eng_of_drawBelow {m n : Nat} {t : State} (h : drawBelow m s = (n, t)) (k : Nat) : t.eng k = s.eng k :=
  Eq.trans (b := (drawBelow m s).2.eng k) (by rw [h]) rfl

/-- A fault exception at thread level enters its handler at the vector; its RETI goes on at the fault or at the next word (R272). -/
theorem faultEntry_thread (c : Nat) (hs : (s.eng e).stack = []) : ∃ step < 2, ∃ g,
    (faultEntry e c s).eng e = { s.eng e with
      faultCause := c + (s.eng e).pc * 2 ^ 16
      threadPc := ((s.eng e).pc + step) % 16384
      pc := ((s.eng e).vbase + 64) % 16384
      stack := [{ source := 0x40, group := g }] } ∧
    ∀ k, k ≠ e → (faultEntry e c s).eng k = s.eng k := by
  unfold faultEntry
  extract_lets x u v
  have hu (k : Nat) : u.eng k = s.eng k := by
    unfold u
    rw [State.eng, raise_task, bump_task]
    rfl
  have hv : v.eng e = { s.eng e with faultCause := c + (s.eng e).pc * 2 ^ 16 } := by
    unfold v
    rw [updEng_eng_same, hu]
  have hvk (k : Nat) (hk : k ≠ e) : v.eng k = s.eng k := (updEng_eng_ne _ _ _ _ hk.symm).trans (hu k)
  clear_value v
  rw [if_neg (by rw [show x.stack = [] from hs]; decide)]
  split
  next step t ht =>
    split
    next g w hw =>
      have hwe (k : Nat) : w.eng k = v.eng k := (eng_of_drawBelow hw k).trans (eng_of_drawBelow ht k)
      have hstep : step < 2 := lt_of_eq_of_lt (congrArg Prod.fst ht).symm (drawBelow_lt 2 v (by decide))
      extract_lets y
      have hy : y = { s.eng e with faultCause := c + (s.eng e).pc * 2 ^ 16 } := (hwe e).trans hv
      have henter : ({ y with pc := (y.pc + step) % 16384 } : Ladle).enter { source := 0x40, group := g } 64 = some { s.eng e with
          faultCause := c + (s.eng e).pc * 2 ^ 16
          threadPc := ((s.eng e).pc + step) % 16384
          pc := ((s.eng e).vbase + 64) % 16384
          stack := [{ source := 0x40, group := g }] } := by
        rw [hy]
        simp only [Ladle.enter, hs]
      rw [henter]
      exact ⟨step, hstep, g, updEng_eng_same .., fun k hk => (updEng_eng_ne _ _ _ _ hk.symm).trans ((hwe k).trans (hvk k hk))⟩

theorem Bank.setD_reads (b : Bank) (d v : Nat) : (b.setD d v).dOf d = v % 2 ^ 32 ∧ (∀ k, k ≠ d → (b.setD d v).dOf k = b.dOf k) ∧
    b.setD d v = { b with d := (b.setD d v).d } :=
  ⟨Tab.get_put_same .., fun k hk => Tab.get_put_ne b.d d k (v % 2 ^ 32) hk.symm, rfl⟩

theorem exec_leMfs (e : Nat) (f : FmtS) (s : State) : exec (.leMfs e f) s = issue e false (fun x =>
    if !isD f.reg ∨ !specialExists f.sreg then .fault 1
    else .ok (x.setBank (x.bank.setD f.reg (x.special e s.time.cycles f.sreg)))) s := rfl

theorem exec_leMts (e : Nat) (f : FmtS) (s : State) : exec (.leMts e f) s = issue e false (fun x =>
    if !isD f.reg ∨ !specialExists f.sreg then .fault 1 else .ok (x.setSpecial f.sreg (x.bank.dOf f.reg))) s := rfl

theorem exec_leSetm (e : Nat) (f : FmtS) (s : State) : exec (.leSetm e f) s =
    issue e false (fun x => .ok (x.setBank { x.bank with st := setBits x.bank.st (modeMask f) })) s := rfl

theorem exec_leClrm (e : Nat) (f : FmtS) (s : State) : exec (.leClrm e f) s =
    issue e false (fun x => .ok (x.setBank { x.bank with st := clearBits x.bank.st (modeMask f) })) s := rfl

theorem exec_leFence (e : Nat) (f : FmtS) (s : State) : exec (.leFence e f) s = issue e false (fun x => .ok { x with exposed := [] }) s := rfl

theorem exec_leBreak {f : FmtS} (hc : s.canIssue e = true) : exec (.leBreak e f) s = .next (
    if bit s.sec.debugPerms 0 then updEng e (fun x => { x.age with debugHalt := true }) s else faultEntry e 8 s) := by
  change execLeBreak e f s = _
  rw [execLeBreak, hc]
  rfl

/-- Settles O40: ports, special registers, mode bits, FENCE and BREAK, each by its lemma above. -/
theorem systemInstructions : Obligations.SystemInstructions := by
  unfold Obligations.SystemInstructions
  intro e s f hc x r
  refine ⟨fun hr => ⟨fun hio => ?_, fun hio => ?_, fun hio hj hb hq => ?_, fun hio => ?_, fun hio => ?_, fun hsr => ?_, fun hsr => ?_⟩,
    ?_, ?_, ?_, fun hd => ?_, fun hd hs => ?_⟩
  · exact .of_in hc hr (by rw [hio]; decide) (by rw [hio]; rfl) (r.setD_reads ..)
  · exact .of_in hc hr (by omega) (portRead_unassigned hio) (r.setD_reads ..)
  · refine .of_eq (exec_leIn_jobFetch hc hr hio hj hb hq) ⟨?_, ?_, rfl, rfl⟩
    · rw [updRunner_runner_same]
    · rw [updRunner_eng]
      exact (congrArg Ladle.pc (updEng_eng_same e Ladle.age s) :)
  · exact Issues.out_pwrm hc hr hio
  · exact .of_out hc hr (portWrite_unassigned hio) (updEng_congr rfl) rfl
  · exact .of_issue (exec_leMfs e f s) hc (if_neg (by simp [isD, specialExists, hr, hsr])) (r.setD_reads ..)
  · refine .of_issue (exec_leMts e f s) hc (if_neg (by simp [isD, specialExists, hr, hsr])) ?_
    refine ⟨x.special_setSpecial_half e s.time.cycles _, fun h25 h28 h26 => x.special_setSpecial_address e s.time.cycles _ (by omega),
      fun h => ?_, fun h => ?_, x.setSpecial_readOnly _, fun n hn hne => x.special_setSpecial_ne e s.time.cycles _ hne⟩
    · rw [h]
      rfl
    · rw [h]
      exact x.setBank_bank _
  · refine .of_issue (b := { r with st := setBits r.st (modeMask f) }) (exec_leSetm e f s) hc rfl ⟨fun n hn => ?_, rfl⟩
    exact (Nat.testBit_or ..).trans (by rw [testBit_modeMask f hn]; rfl)
  · refine .of_issue (b := { r with st := clearBits r.st (modeMask f) }) (exec_leClrm e f s) hc rfl ⟨fun n hn => ?_, rfl⟩
    exact (testBit_sub_and ..).trans (by rw [testBit_modeMask f hn]; rfl)
  · exact .of_issue (exec_leFence e f s) hc rfl rfl
  · refine .of_eq (exec_leBreak hc) ?_
    rw [if_pos (show bit s.sec.debugPerms 0 = true from hd)]
    exact updEng_congr rfl
  · refine .of_eq (exec_leBreak hc) ?_
    obtain ⟨step, hstep, g, he, hk⟩ := faultEntry_thread 8 hs
    rw [if_neg (by rw [bit, hd]; decide), he]
    refine ⟨rfl, rfl, rfl, ?_, rfl, rfl, hk⟩
    obtain rfl | rfl : step = 0 ∨ step = 1 := by omega
    · exact .inl rfl
    · exact .inr rfl

end Sys2Proof.Machine
end

section
/-! ## The interrupt controller -/
namespace Sys2Proof.Machine

variable {i : Instr} {e : Nat} {s : State}

/-! ### Entry -/

/-- The best of a list is one of the list. -/
theorem mem_of_bestOf (p : Nat → Nat) {l : List Nat} {k : Nat} (h : bestOf p l = some k) : k ∈ l := by
  induction l generalizing k with
  | nil => cases h
  | cons a l ih =>
    unfold bestOf at h
    split at h
    case h_1 => exact Option.some.inj h ▸ List.mem_cons_self
    case h_2 b hb =>
      split at h
      · exact Option.some.inj h ▸ List.mem_cons_self
      · exact List.mem_cons_of_mem _ (ih (hb.trans h))

/-- Over a handler no source of its own group or below is eligible (R267). -/
theorem eligibleNow_none {h : Handler} {rest : List Handler} (hs : (s.eng e).stack = h :: rest)
    (hg : ∀ k ∈ s.candidates e, s.irqGroup (s.irqPriority k) ≤ h.group) : s.eligibleNow e = none := by
  unfold State.eligibleNow State.eligible
  dsimp only
  rw [hs]
  split
  case h_1 => rfl
  case h_2 k hk => exact if_neg (Nat.not_lt.2 (hg k (mem_of_bestOf _ hk)))

/-- At thread level the one candidate is eligible while IE is set (R267). -/
theorem eligibleNow_thread {k : Nat} (hs : (s.eng e).stack = []) (hie : (s.eng e).bank0.flag St.ie = true) (hc : s.candidates e = [k]) :
    s.eligibleNow e = some k := by
  have hb : (s.eng e).bank = (s.eng e).bank0 := by simp [Ladle.bank, hs]
  unfold State.eligibleNow State.eligible
  dsimp only
  rw [hc, hb, hs]
  exact if_pos hie

/-- From the thread a source's handler starts at its vector (R268). -/
theorem enterSource_thread (k : Nat) (hs : (s.eng e).stack = []) : enterSource e k s = updEng e (fun x => { x with
    threadPc := x.pc
    pc := (x.vbase + k) % 16384
    stack := [{ source := k, group := s.irqGroup (s.irqPriority k) }] }) s := by
  unfold enterSource Ladle.enter
  dsimp only
  rw [hs]
  exact updEng_congr rfl

theorem exec_interruptEntry_none (h : s.eligibleNow e = none) : exec (.interruptEntry e false) s = .next s := by
  change execInterruptEntry e false s = _
  simp [execInterruptEntry, h]

theorem exec_interruptEntry_some {k : Nat} (he : e < 32) (hin : s.inService e = true) (hd : (s.eng e).debugHalt = false)
    (ha : (s.eng e).sleep = .awake) (hf : (s.runner e).fetch = none) (h : s.eligibleNow e = some k) :
    exec (.interruptEntry e false) s = .next (enterSource e k s) := by
  change execInterruptEntry e false s = _
  simp [execInterruptEntry, h, hin, hd, ha, hf, Nat.not_le.2 he]

/-- A completed entry no longer holds its source back (R270). -/
theorem completed_mem_candidates {h : Handler} {rest : List Handler} (hs : (s.eng e).stack = h :: rest) (hc : h.completed = true)
    (hlt : h.source < 64) (ht : s.irqTarget h.source = e) (hp : s.irqPriority h.source ≠ 0) (hl : s.irqLevel h.source = true)
    (hm : (s.eng e).mask.testBit h.source = false) (hr : rest.all (fun k => k.source != h.source) = true) :
    h.source ∈ s.candidates e := by
  refine mem_candidates.2 ⟨hlt, ht, hp, by rw [hl, Bool.true_or], hm, ?_⟩
  rw [hs, List.any_cons, hc, Bool.not_true, Bool.and_false, Bool.false_or, List.any_eq_false]
  intro k hk hk'
  rw [Bool.and_eq_true, beq_iff_eq] at hk'
  exact bne_iff_ne.1 (List.all_eq_true.1 hr k hk) hk'.1

/-! ### Ports -/

theorem onPort_eq {f : State → State} (he : e < 32) (hc : s.canAct e = true) : onPort e f s = .next (f s) := by
  simp [onPort, he, hc]

theorem Answers.of_onPort {f : State → State} {P : State → Prop} (hi : exec i s = onPort e f s) (he : e < 32) (hc : s.canAct e = true)
    (h : P (f s)) : Answers i s P := .of_eq (hi.trans (onPort_eq he hc)) h

/-- ICU_CLAIM of the innermost entry while its source's level is high (R269). -/
theorem icuClaim_eq {h : Handler} {rest : List Handler} (hs : (s.eng e).stack = h :: rest) (hlt : h.source < 0x40)
    (hc : h.claimed = false) (hl : s.irqLevel h.source = true) : icuClaim e s = (h.source, updEng e (fun x => { x with
      stack := { h with claimed := true } :: rest, soft := setBit x.soft h.source false }) s) := by
  have hne : ¬(h.source = 0x40 ∨ h.claimed = true) := by simp [hc, Nat.ne_of_lt hlt]
  unfold icuClaim
  simp only [hs, hl, if_neg hne, Bool.not_true, Bool.false_and, Bool.false_eq_true, if_false]

/-- A write of ICU_COMPLETE that does not name the innermost claimed entry is counted and faults with cause 5 (R270). -/
theorem icuComplete_fault {v : Nat} (h : ∀ h ∈ (s.eng e).stack.head?, h.source = v → h.claimed = false) :
    icuComplete e v s = (some 5, bump Prm.ladleIrqOoo e s) := by
  unfold icuComplete
  split
  next g rest hs =>
    refine if_neg fun ⟨hv, _, hclaimed⟩ => ?_
    rw [h g (by rw [hs]; rfl) hv] at hclaimed
    cases hclaimed
  next => rfl

/-- A write of ICU_COMPLETE with the innermost claimed entry's source completes the entry (R270). -/
theorem icuComplete_eq {h : Handler} {rest : List Handler} (hs : (s.eng e).stack = h :: rest) (hlt : h.source < 0x40)
    (hc : h.claimed = true) :
    icuComplete e h.source s = (none, updEng e (fun x => { x with stack := { h with completed := true } :: rest }) s) := by
  unfold icuComplete
  rw [hs]
  exact if_pos ⟨rfl, Nat.ne_of_lt hlt, hc⟩

theorem exec_icuClaim (e : Nat) (s : State) : exec (.icuClaim e) s =
    onPort e (fun s => updEng e (fun x => { x with lastRead := (icuClaim e s).1 }) (icuClaim e s).2) s := rfl

theorem exec_icuComplete (e v : Nat) (s : State) : exec (.icuComplete e v) s = onPort e (fun s => match icuComplete e v s with
    | (some c, s) => faultEntry e c s
    | (none, s) => s) s := rfl

/-! ### A port's own sources -/

theorem testBit_foldl_setBit (l : List Nat) (m n : Nat) :
    (l.foldl (fun m i => setBit m i true) m).testBit n = (m.testBit n || decide (n ∈ l)) := by
  induction l generalizing m with
  | nil => simp
  | cons a l ih =>
    rw [List.foldl_cons, ih, testBit_setBit]
    by_cases h : n = a <;> simp [h]

/-- A source is in an engine's mask of targets when its target is the engine. -/
theorem testBit_targets {n : Nat} (h : n < 64) : (s.targets e).testBit n = (s.irqTarget n == e) := by
  rw [State.targets, testBit_foldl_setBit, Nat.zero_testBit, Bool.false_or]
  simp [pick, h, beq_eq_decide]

/-- The bits on which a write of half `hi` of the mask or the pending bits acts: the writer's own sources (R265). -/
theorem testBit_ownBits {hi v n : Nat} (hv : v < 2 ^ 32) (hn : n < 64) :
    (s.ownBits e hi v).testBit n = (s.irqTarget n == e && decide (32 * hi ≤ n) && v.testBit (n - 32 * hi)) := by
  rw [State.ownBits, Nat.mod_eq_of_lt hv, Nat.testBit_and, Nat.testBit_mul_two_pow, testBit_targets hn, Bool.and_comm, Bool.and_assoc]

/-- A change of one engine leaves the other engines and every other part of the state. -/
theorem updEng_only (e : Nat) (f : Ladle → Ladle) (s : State) : (∀ k, k ≠ e → (updEng e f s).eng k = s.eng k) ∧
    updEng e f s = { s with task := { s.task with eng := (updEng e f s).task.eng } } :=
  ⟨fun k hk => updEng_eng_ne e k f s hk.symm, rfl⟩

section
variable {hi v : Nat}

theorem maskSet_mask (hv : v < 2 ^ 32) : ∀ n, n < 64 → ((maskSet e hi v s).eng e).mask.testBit n =
    ((s.eng e).mask.testBit n || (s.irqTarget n == e && decide (32 * hi ≤ n) && v.testBit (n - 32 * hi))) := fun n hn => by
  rw [maskSet, updEng_eng_same, setBits, Nat.testBit_or, testBit_ownBits hv hn]

theorem maskClr_mask (hv : v < 2 ^ 32) : ∀ n, n < 64 → ((maskClr e hi v s).eng e).mask.testBit n =
    ((s.eng e).mask.testBit n && !(s.irqTarget n == e && decide (32 * hi ≤ n) && v.testBit (n - 32 * hi))) := fun n hn => by
  rw [maskClr, updEng_eng_same, clearBits, testBit_sub_and, testBit_ownBits hv hn]

theorem pendSet_soft (hv : v < 2 ^ 32) : ∀ n, n < 64 → ((pendSet e hi v s).eng e).soft.testBit n =
    ((s.eng e).soft.testBit n || (s.irqTarget n == e && decide (32 * hi ≤ n) && v.testBit (n - 32 * hi))) := fun n hn => by
  rw [pendSet, updEng_eng_same, setBits, Nat.testBit_or, testBit_ownBits hv hn]

theorem pendClr_soft (hv : v < 2 ^ 32) : ∀ n, n < 64 → ((pendClr e hi v s).eng e).soft.testBit n =
    ((s.eng e).soft.testBit n && !(s.irqTarget n == e && decide (32 * hi ≤ n) && v.testBit (n - 32 * hi))) := fun n hn => by
  rw [pendClr, updEng_eng_same, clearBits, testBit_sub_and, testBit_ownBits hv hn]

theorem maskSet_soft : ((maskSet e hi v s).eng e).soft = (s.eng e).soft := by rw [maskSet, updEng_eng_same]

theorem maskClr_soft : ((maskClr e hi v s).eng e).soft = (s.eng e).soft := by rw [maskClr, updEng_eng_same]

theorem pendSet_mask : ((pendSet e hi v s).eng e).mask = (s.eng e).mask := by rw [pendSet, updEng_eng_same]

theorem pendClr_mask : ((pendClr e hi v s).eng e).mask = (s.eng e).mask := by rw [pendClr, updEng_eng_same]

end

/-! ### Acknowledge ports -/

/-- An acknowledge of round interrupt `r` lowers its level for the engine that it targets (R265). -/
theorem roundAck_acks {r : Nat} (h : r < 3) :
    (roundAck e r s).task.roundLevel.get r = (s.task.roundLevel.get r && s.irqTarget (8 + r) != e) ∧
      (∀ q, q ≠ r → (roundAck e r s).task.roundLevel.get q = s.task.roundLevel.get q) ∧
      roundAck e r s = { s with task := { s.task with roundLevel := (roundAck e r s).task.roundLevel } } := by
  unfold roundAck
  by_cases ht : s.irqTarget (8 + r) = e
  · rw [if_pos ⟨h, ht⟩]
    exact ⟨by simp [ht], fun q hq => (Tab.get_put_ne _ r q false hq.symm :), rfl⟩
  · rw [if_neg (ht ·.2)]
    exact ⟨by simp [ht], fun q _ => rfl, rfl⟩

theorem swpAck_acks {r : Nat} (h : r < 3) :
    (swpAck e r s).task.swpLevel.get r = (s.task.swpLevel.get r && s.irqTarget (11 + r) != e) ∧
      (∀ q, q ≠ r → (swpAck e r s).task.swpLevel.get q = s.task.swpLevel.get q) ∧
      swpAck e r s = { s with task := { s.task with swpLevel := (swpAck e r s).task.swpLevel } } := by
  unfold swpAck
  by_cases ht : s.irqTarget (11 + r) = e
  · rw [if_pos ⟨h, ht⟩]
    exact ⟨by simp [ht], fun q hq => (Tab.get_put_ne _ r q false hq.symm :), rfl⟩
  · rw [if_neg (ht ·.2)]
    exact ⟨by simp [ht], fun q _ => rfl, rfl⟩

theorem secAck_acks : (secAck e s).task.secLevel = (s.task.secLevel && s.irqTarget 60 != e) ∧
    secAck e s = { s with task := { s.task with secLevel := (secAck e s).task.secLevel } } := by
  unfold secAck
  by_cases ht : s.irqTarget 60 = e
  · rw [if_pos ht]
    exact ⟨by simp [ht], rfl⟩
  · rw [if_neg ht]
    exact ⟨by simp [ht], rfl⟩

theorem tmrAck_acks (n : Nat) :
    ((tmrAck e n s).task.timer.get n).level = ((s.task.timer.get n).level && s.irqTarget (56 + n) != e) ∧
      ((tmrAck e n s).task.timer.get n).armed = (s.task.timer.get n).armed ∧
      (∀ k, k ≠ n → (tmrAck e n s).task.timer.get k = s.task.timer.get k) ∧
      tmrAck e n s = { s with task := { s.task with timer := (tmrAck e n s).task.timer } } := by
  unfold tmrAck
  by_cases ht : s.irqTarget (56 + n) = e
  · rw [if_pos ht]
    exact ⟨by simp [ht], by simp, fun k hk => (Tab.get_upd_ne s.task.timer n k (fun x => { x with level := false }) hk.symm :), rfl⟩
  · rw [if_neg ht]
    exact ⟨by simp [ht], rfl, fun k _ => rfl, rfl⟩

/-! ### The timers -/

theorem irqLevel_timer {t : Nat} (h : t < 4) : s.irqLevel (56 + t) = (s.task.timer.get t).level := by
  unfold State.irqLevel
  rw [if_neg (by omega), if_neg (by omega), if_neg (by omega), if_neg (by omega), if_neg (by omega), if_neg (by omega), if_pos (by omega),
    Nat.add_sub_cancel_left]

theorem exec_timerCompare {t : Nat} (h : t < 4) (ha : (s.task.timer.get t).armed = true)
    (hn : (s.task.timer.get t).lo + (s.task.timer.get t).hi * 2 ^ 32 ≤ s.now) : exec (.timerCompare t) s = .next
      { s with task := { s.task with timer := s.task.timer.put t { s.task.timer.get t with armed := false, level := true } } } :=
  congrArg Host.Outcome.next (if_pos ⟨h, ha, hn⟩)

/-- Settles O42: entry, claim and completion, the mask and pending ports, the acknowledge ports and the timers, each by its
lemma above. -/
theorem interruptsAreTakenAndAcknowledged : Obligations.InterruptsAreTakenAndAcknowledged := by
  unfold Obligations.InterruptsAreTakenAndAcknowledged
  intro s e he
  refine ⟨fun k hin hd ha hs hie hc hf => ?_, fun t ht ha hn => ?_, fun hc => ⟨fun h rest hs hlt => ⟨fun hcl hl => ?_, fun hcl => ?_⟩,
    fun v hv => ?_, fun h rest hs hcl => ⟨fun hlt ht hp hl hm hr => completed_mem_candidates hs hcl hlt ht hp hl hm hr, fun hg => ?_⟩,
    fun hi v hhi hv => ?_, fun r hr => ?_, .of_onPort rfl he hc secAck_acks, fun n hn => ?_, fun v hv => ?_, .of_onPort rfl he hc rfl⟩⟩
  · exact .of_eq (exec_interruptEntry_some he hin hd ha hf (eligibleNow_thread hs hie hc)) (enterSource_thread k hs)
  · refine .of_eq (exec_timerCompare ht ha hn) ⟨?_, ?_, fun k hk => Tab.get_put_ne _ _ _ _ hk.symm, rfl, rfl⟩
    · rw [irqLevel_timer ht, Tab.get_put_same]
    · rw [Tab.get_put_same]
  · refine .of_onPort (exec_icuClaim e s) he hc ?_
    rw [icuClaim_eq hs hlt hcl hl]
    simp only [updEng_eng_same, true_and]
    refine ⟨by rw [testBit_setBit, if_pos rfl], fun k hk => by rw [testBit_setBit, if_neg hk], fun k hk => ?_, rfl⟩
    rw [updEng_eng_ne _ _ _ _ hk.symm, updEng_eng_ne _ _ _ _ hk.symm]
  · exact .of_onPort (exec_icuComplete e h.source s) he hc (by rw [icuComplete_eq hs hlt hcl])
  · exact .of_onPort (exec_icuComplete e v s) he hc (by rw [icuComplete_fault hv])
  · exact .of_eq (exec_interruptEntry_none (eligibleNow_none hs fun k hk => of_decide_eq_true (List.all_eq_true.1 hg k hk))) rfl
  · have hhi2 : hi % 2 = hi := Nat.mod_eq_of_lt hhi
    exact ⟨.of_onPort (congrArg (fun n => onPort e (maskSet e n v) s) hhi2) he hc ⟨maskSet_mask hv, maskSet_soft, updEng_only ..⟩,
      .of_onPort (congrArg (fun n => onPort e (maskClr e n v) s) hhi2) he hc ⟨maskClr_mask hv, maskClr_soft, updEng_only ..⟩,
      .of_onPort (congrArg (fun n => onPort e (pendSet e n v) s) hhi2) he hc ⟨pendSet_soft hv, pendSet_mask, updEng_only ..⟩,
      .of_onPort (congrArg (fun n => onPort e (pendClr e n v) s) hhi2) he hc ⟨pendClr_soft hv, pendClr_mask, updEng_only ..⟩⟩
  · have hr4 : r % 4 = r := Nat.mod_eq_of_lt (by omega)
    exact ⟨.of_onPort (congrArg (fun n => onPort e (roundAck e n) s) hr4) he hc (roundAck_acks hr),
      .of_onPort (congrArg (fun n => onPort e (swpAck e n) s) hr4) he hc (swpAck_acks hr)⟩
  · exact .of_onPort (congrArg (fun n => onPort e (tmrAck e n) s) (Nat.mod_eq_of_lt hn)) he hc (tmrAck_acks n)
  · exact .of_onPort (congrArg (fun n => onPort e (updEng n fun x => { x with doorbell := true }) s) (Nat.mod_eq_of_lt hv)) he hc rfl

end Sys2Proof.Machine
end

section
/-! ## Changes of the PON terminal -/
namespace Sys2Proof

/-- Where a change of every value keeps the default, it changes each value that does not become the default. -/
theorem Tab.get_mapV_of_ne {α : Type} [Inhabited α] [DecidableEq α] {f : α → α} (hf : f default = default) {t : Tab α} {k : Nat}
    (h : f (t.get k) ≠ default) : (Tab.mapV f t).get k = f (t.get k) := by
  induction t with
  | nil => exact hf.symm
  | cons e t ih =>
    obtain ⟨i, x⟩ := e
    rw [Tab.mapV_cons]
    by_cases hi : i = k
    · simp only [Tab.get, if_pos hi] at h ⊢
      simp [if_neg h, Tab.get, hi]
    · simp only [Tab.get, if_neg hi] at h ⊢
      split
      · exact ih h
      · simpa [Tab.get, hi] using ih h

end Sys2Proof

namespace Sys2Proof.Machine

variable {s t u : State} {x y : Pon}

/-- From `s` to `t` only the PON terminal changes, besides what reporting touches; it is `x` afterwards, and the pins keep their
polarity. -/
structure PonBecomes (x : Pon) (s t : State) : Prop where
  rest : Mail { s with pon := x } t
  polarity : t.parN Prm.ponPinPolarity 0 = s.parN Prm.ponPinPolarity 0

namespace PonBecomes

theorem refl (s : State) : PonBecomes s.pon s s := ⟨.refl s, rfl⟩

theorem pon (h : PonBecomes x s t) : t.pon = x := h.rest.pon

theorem kept (h : PonBecomes x s t) : Mail { s with pon := t.pon } t := { h.rest with pon := rfl }

theorem trans (h : PonBecomes x s t) (k : PonBecomes y t u) : PonBecomes y s u :=
  ⟨.trans (b := { t with pon := y }) { h.rest with pon := rfl } k.rest, k.polarity.trans h.polarity⟩

theorem updPon (h : PonBecomes x s t) (f : Pon → Pon) : PonBecomes (f x) s (updPon f t) :=
  h.trans ⟨{ Mail.refl (Machine.updPon f t) with pon := congrArg f h.pon }, rfl⟩

theorem raise (h : PonBecomes x s t) (e : EvDef) (i d : Nat) : PonBecomes x s (raise e i d t) :=
  h.trans ⟨{ raise_mail e i d t with pon := (raise_pon ..).trans h.pon }, raise_parN (by decide) (by decide) (by decide) ..⟩

/-- Declaring or clearing a defect decides its bit (R321). -/
theorem ponDefect (h : PonBecomes x s t) (b : Nat) (e : EvDef) (on : Bool) :
    PonBecomes { x with defects := setBit x.defects b on } s (ponDefect b e on t) := by
  unfold Machine.ponDefect
  split
  next hb =>
    rw [setBit_self (h.pon ▸ hb)]
    exact h
  next => exact (h.updPon fun p => { p with defects := setBit p.defects b on }).raise ..

end PonBecomes

/-! ### Loss of downstream sync -/

/-- The receiver searches for a frame (Table 10-4). -/
def Pon.hunting (x : Pon) : Pon := { x with sync := .hunt, bad := 0 }

/-- An operating terminal leaves for O6: LODS is declared and watchful sleep ends (Table 10-5, R321). -/
def Pon.suspended (x : Pon) (now : Nat) : Pon :=
  { x with st := .o6, watch := .activeHeld, allow := false, watchAt := now, defects := setBit x.defects 1 true }

theorem PonBecomes.setOnu_o6 (h : s.pon.st = .o51) : PonBecomes (s.pon.suspended s.now) s (setOnu .o6 s) := by
  unfold setOnu
  extract_lets +onlyGivenNames old s1 s2
  have ho : old = .o51 := h
  have h1 : PonBecomes { s.pon with st := .o6, watch := .activeHeld, allow := false, watchAt := s.now } s s1 := by
    simp only [s1, ho, if_true]
    exact (PonBecomes.refl s).updPon fun x => { x with st := .o6, watch := .activeHeld, allow := false, watchAt := s.now }
  have h2 : s2 = s1 := if_neg (by simp [ho])
  rw [if_neg (by simp [ho])]
  exact ((h2 ▸ h1).ponDefect 1 Ev.ponLods true).raise ..

/-- From `s` to `t` only the PON terminal and the keys change, besides what reporting touches; the receiver is in sync state `y` with
level `l` of PON_LOS afterwards, and the burst profiles and the polarity of the pins stay. -/
structure ReceiverBecomes (y : PonSync) (l : Bool) (s t : State) : Prop where
  rest : Mail { s with pon := t.pon, sec := t.sec } t
  sync : t.pon.sync = y
  losPin : t.pon.losPin = l
  profile : t.pon.profile = s.pon.profile
  polarity : t.parN Prm.ponPinPolarity 0 = s.parN Prm.ponPinPolarity 0

theorem PonBecomes.receiver (h : PonBecomes x s t) (hp : x.profile = s.pon.profile) : ReceiverBecomes x.sync x.losPin s t where
  rest := { h.rest with pon := rfl, sec := rfl }
  sync := by rw [h.pon]
  losPin := by rw [h.pon]
  profile := by rw [h.pon, hp]
  polarity := h.polarity

namespace ReceiverBecomes

variable {y : PonSync} {l : Bool}

theorem refl (s : State) : ReceiverBecomes s.pon.sync s.pon.losPin s s := ⟨.refl s, rfl, rfl, rfl, rfl⟩

theorem keeps (h : ReceiverBecomes y l s t) (k : ReceiverBecomes t.pon.sync t.pon.losPin t u) : ReceiverBecomes y l s u where
  rest := .trans (b := { t with pon := u.pon, sec := u.sec }) { h.rest with pon := rfl, sec := rfl } k.rest
  sync := k.sync.trans h.sync
  losPin := k.losPin.trans h.losPin
  profile := k.profile.trans h.profile
  polarity := k.polarity.trans h.polarity

theorem updPon (h : ReceiverBecomes y l s t) (f : Pon → Pon) (hs : ∀ x, (f x).sync = x.sync := by exact fun _ => rfl)
    (hl : ∀ x, (f x).losPin = x.losPin := by exact fun _ => rfl) (hp : ∀ x, (f x).profile = x.profile := by exact fun _ => rfl) :
    ReceiverBecomes y l s (updPon f t) :=
  h.keeps ⟨.refl _, hs t.pon, hl t.pon, hp t.pon, rfl⟩

theorem raise (h : ReceiverBecomes y l s t) (e : EvDef) (i d : Nat) : ReceiverBecomes y l s (raise e i d t) :=
  h.keeps (((PonBecomes.refl t).raise e i d).receiver rfl)

theorem ponDefect (h : ReceiverBecomes y l s t) (b : Nat) (e : EvDef) (on : Bool) : ReceiverBecomes y l s (ponDefect b e on t) := by
  unfold Machine.ponDefect
  split
  · exact h
  · exact (h.updPon ..).raise ..

theorem setPonKey (h : ReceiverBecomes y l s t) (n : Nat) (k : KeySlot) : ReceiverBecomes y l s (setPonKey n k t) :=
  h.keeps ⟨.refl _, rfl, rfl, rfl, rfl⟩

theorem setOmcc (h : ReceiverBecomes y l s t) : ReceiverBecomes y l s (setOmcc t) :=
  h.keeps ⟨{ setBoth_mail .. with pon := rfl, sec := rfl }, rfl, rfl, rfl, rfl⟩

/-- The release of the ONU-ID takes keys and the OMCC port with it (R297). -/
theorem releaseOnu (h : ReceiverBecomes y l s t) : ReceiverBecomes y l s (releaseOnu t) := by
  unfold Machine.releaseOnu
  extract_lets v
  have hv : ReceiverBecomes y l s v := h.updPon fun x =>
    { x with onuId := 1023, eqd := 0, eqdNext := none, alloc := [], txKey := 0, bursts := [] }
  exact ((hv.setPonKey ..).setPonKey ..).setOmcc

theorem setOnu_o11 (h : ReceiverBecomes y l s t) : ReceiverBecomes y l s (setOnu .o11 t) := by
  unfold setOnu
  extract_lets +onlyGivenNames old s1 s2 _ s3
  have h1 : ReceiverBecomes y l s s1 := h.updPon fun x => { x with
    st := .o11, watch := if old = .o51 then .activeHeld else x.watch, allow := if old = .o51 then false else x.allow, watchAt := t.now }
  have h2 : ReceiverBecomes y l s s2 := by
    unfold s2
    split
    · exact h1.ponDefect ..
    · exact h1
  have h3 : ReceiverBecomes y l s s3 := h2.releaseOnu.updPon fun x => { x with locked := false }
  split
  · exact h
  · exact h3.raise ..

theorem ponSyncLost (h : ReceiverBecomes y l s t) : ReceiverBecomes y l s (ponSyncLost t) := by
  unfold Machine.ponSyncLost
  split
  · exact h.setOnu_o11
  · exact h.setOnu_o11
  · exact h.setOnu_o11
  next e => exact h.keeps ((PonBecomes.setOnu_o6 e).receiver rfl)
  · exact h

theorem ponHunt (h : ReceiverBecomes y l s t) : ReceiverBecomes .hunt l s (ponHunt t) := by
  have hv : ReceiverBecomes .hunt l s (Machine.updPon Pon.hunting t) :=
    ⟨{ h.rest with pon := rfl, sec := rfl }, rfl, h.losPin, h.profile, h.polarity⟩
  unfold Machine.ponHunt
  extract_lets was v
  split
  · exact hv.ponSyncLost
  · exact hv

end ReceiverBecomes

theorem ponSyncLost_operating (h : s.pon.st = .o51) : ponSyncLost s = setOnu .o6 s := by
  rw [ponSyncLost, h]

/-- An operating terminal that loses sync waits in O6 (Tables 10-4 and 10-5). -/
theorem ponHunt_suspends (hs : s.ponSynced = true) (h : s.pon.st = .o51) :
    PonBecomes (s.pon.hunting.suspended s.now) s (ponHunt s) := by
  have e : ponHunt s = setOnu .o6 (updPon Pon.hunting s) := (if_pos hs).trans (ponSyncLost_operating h)
  rw [e]
  exact ((PonBecomes.refl s).updPon Pon.hunting).trans (.setOnu_o6 (s := updPon Pon.hunting s) h)

theorem ponHunt_unsynced (h : s.ponSynced = false) : ponHunt s = updPon Pon.hunting s :=
  if_neg (by simp [h])

/-! ### Downstream frames -/

/-- With nothing to take and power saving off, a frame's start only keeps watchful sleep out (R320). -/
theorem takePon_idle (hc : s.cfg.commits = []) (ho : s.cfg.old = []) (ht : s.cfg.tables = []) (hp : s.par Prm.ponPsEnable 0 = 0) :
    takePon s = updPon (fun x => { x with watch := .activeHeld }) s := by
  have hsw (id : Nat) : (s.tabState id 0).switching = false := by rw [State.tabState, ht]; rfl
  have hk : changedAt [] 0 Prm.ponMode = false := rfl
  unfold takePon
  simp only [switchWaiting_idle ht, hsw, unitTakes_idle hc ho, hk, hp, Bool.false_eq_true, if_false, if_true]
  exact finishCommits_nil hc

theorem applyTod_idle (h : s.pon.tod = none) : applyTod s = s := by
  simp [applyTod, h]

theorem watchStimulus_off (h : s.par Prm.ponPsEnable 0 = 0) : watchStimulus s = s := if_pos (.inl h)

theorem frameEnd_idle (h : s.pon.tod = none) (hp : s.par Prm.ponPsEnable 0 = 0) : watchStimulus (applyTod s) = s := by
  rw [applyTod_idle h, watchStimulus_off hp]

/-- A frame whose PSBd is good keeps sync (Table 10-4). -/
def Pon.synced (x : Pon) : Pon := { x with sync := .sync, bad := 0 }

/-- A frame whose PSBd is not good (R293, R322). -/
def Pon.missed (x : Pon) : Pon :=
  { x with sync := .resync, bad := x.bad + 1, run := { x.run with psbdErr := x.run.psbdErr + 1 } }

/-- A frame that is delivered, with its superframe counter and its counts (R293, R301, R322). -/
def Pon.delivered (x : Pon) (sfc now bits corr uncorr hecErr : Nat) : Pon := { x with
  watch := .activeHeld, sfc := sfc, frameAt := now, eqd := x.eqdNext.getD x.eqd, eqdNext := none
  run := { x.run with rxBits := x.run.rxBits + bits, corrBits := x.run.corrBits + corr, uncorrCw := satAdd 32 x.run.uncorrCw uncorr,
                      hecErr := satAdd 32 x.run.hecErr hecErr } }

theorem frameStart_idle (hc : s.cfg.commits = []) (ho : s.cfg.old = []) (ht : s.cfg.tables = []) (hp : s.par Prm.ponPsEnable 0 = 0)
    (htod : s.pon.tod = none) (sfc corr uncorr hecErr : Nat) : frameStart sfc corr uncorr hecErr s =
      updPon (fun x => x.delivered sfc s.now s.ponFrameBits corr uncorr hecErr) s := by
  unfold frameStart
  rw [takePon_idle hc ho ht hp]
  exact frameEnd_idle htod hp

section
variable {sfc corr uncorr he errs : Nat} (hm : s.par Prm.ponMode 0 ≠ 0) (hl : s.ponLos = false) (hs : s.stopped ⟨1, 0x0B, 0⟩ = false)
include hm hl hs

/-- A frame for a receiver that runs is judged in the receiver's sync state (Table 10-4). -/
theorem not_ponDsFrame_off : ¬(s.par Prm.ponMode 0 = 0 ∨ s.ponLos = true ∨ s.stopped ⟨1, 0x0B, 0⟩ = true) := by
  simp [hm, hl, hs]

theorem ponDsFrame_hunt (h : s.pon.sync = .hunt) : exec (.ponDsFrame 0 true sfc corr uncorr he) s =
    .next (updPon (fun x => { x with sync := .presync, sfc := sfc }) s) := by
  change execPonDsFrame .. = _
  simp [execPonDsFrame, not_ponDsFrame_off hm hl hs, h]

theorem ponDsFrame_good (h : s.pon.sync = .sync) (he' : errs ≤ s.parN Prm.ponPsyncErrTol 0) (hc : sfc = (s.pon.sfc + 1) % 2 ^ 51) :
    exec (.ponDsFrame errs true sfc corr uncorr he) s =
      .next (frameStart sfc corr uncorr he (updPon Pon.synced s)) := by
  change execPonDsFrame .. = _
  simp [execPonDsFrame, not_ponDsFrame_off hm hl hs, h, he', hc]
  rfl

/-- The last of the frames that are not good loses sync (Table 10-4). -/
theorem ponDsFrame_lost (h : s.pon.sync = .resync) (he' : s.parN Prm.ponPsyncErrTol 0 < errs)
    (hb : s.parN Prm.ponSyncM1 0 ≤ s.pon.bad + 1) : exec (.ponDsFrame errs true sfc corr uncorr he) s = .next (ponHunt
      (updPon Pon.missed s)) := by
  change execPonDsFrame .. = _
  simp only [execPonDsFrame, not_ponDsFrame_off hm hl hs, h, decide_eq_false (Nat.not_le.2 he'), Bool.false_and, Bool.false_eq_true,
    if_false]
  exact congrArg Host.Outcome.next (if_pos hb)

end

/-! ### Pins and rogue transmission -/

/-- A rogue terminal or one with a transmitter fault keeps its laser off (R292, R306). -/
theorem ponTxOff_of_defect (h : s.pon.defects.testBit 6 = true ∨ s.pon.defects.testBit 5 = true) : s.ponTxOff = true := by
  unfold State.ponTxOff bit
  rcases h with h | h <;> simp [h]

theorem ponBen_idle (h : s.pon.benUntil = 0) : s.ponBen = false := by
  simp [State.ponBen, h]

/-- A held level of PON_LOS decides LOS; an active one ends the reception (R291, R321, Table 10-4). -/
theorem ponLosChange_held (level : Bool) : Answers (.ponLosChange level true) s fun t => t.pon.losPin = level ∧
    t.pon.defects.testBit 0 = (level != (s.parN Prm.ponPinPolarity 0).testBit 0) ∧
    t.pon.sync = (if level != (s.parN Prm.ponPinPolarity 0).testBit 0 then .hunt else s.pon.sync) ∧ t.pon.profile = s.pon.profile ∧
    Mail { s with pon := t.pon, sec := t.sec } t := by
  refine .of_eq rfl ?_
  extract_lets s1 s2
  rw [if_pos rfl]
  have hlos : s1.ponLos = (level != (s.parN Prm.ponPinPolarity 0).testBit 0) := rfl
  rw [← hlos]
  have h1 : ReceiverBecomes s.pon.sync level s s1 := ⟨.refl s1, rfl, rfl, rfl, rfl⟩
  have h2 : ReceiverBecomes (if s1.ponLos then .hunt else s.pon.sync) level s s2 := by
    unfold s2
    split
    · exact h1.ponHunt
    · exact h1
  have hs : s2.ponLos = s1.ponLos := by rw [State.ponLos, State.ponLos, h2.losPin, h2.polarity, h1.losPin, h1.polarity]
  clear_value s2
  have h := h2.ponDefect 0 Ev.ponLos s2.ponLos
  refine ⟨h.losPin, ?_, h.sync, h.profile, h.rest⟩
  rw [((PonBecomes.refl s2).ponDefect 0 Ev.ponLos s2.ponLos).pon, testBit_setBit, if_pos rfl, hs]

/-- A transmitter fault while PON_BEN is active ends the burst and turns the laser off (R306). -/
theorem txFaultChange_fault (hb : s.ponBen = true) (level : Bool)
    (h : (level != (s.parN Prm.ponPinPolarity 0).testBit 1) = true) : Answers (.txFaultChange level false) s fun t =>
      PonBecomes { s.pon with faultPin := level, benUntil := 0, defects := setBit s.pon.defects 5 true } s t :=
  .of_eq (congrArg Host.Outcome.next ((if_pos h).trans (if_pos hb)))
    (((PonBecomes.refl s).updPon fun x => { x with faultPin := level, benUntil := 0 }).ponDefect 5 Ev.ponTf true)

/-- A held inactive level of PON_TX_FAULT clears the fault (R306). -/
theorem txFaultChange_clear (level : Bool) (h : (level != (s.parN Prm.ponPinPolarity 0).testBit 1) = false) :
    Answers (.txFaultChange level true) s fun t =>
      PonBecomes { s.pon with faultPin := level, defects := setBit s.pon.defects 5 false } s t :=
  .of_neg rfl (Bool.eq_false_iff.1 h)
    (((PonBecomes.refl s).updPon fun x => { x with faultPin := level }).ponDefect 5 Ev.ponTf false)

/-- A rogue terminal is off at once (R306). -/
theorem rogueDetect_stops {cause : Nat} (h : s.pon.defects.testBit 6 = false) (hc : cause = 1 ∨ cause = 2) :
    Answers (.rogueDetect cause) s fun t =>
      PonBecomes { s.pon with defects := setBit s.pon.defects 6 true, benUntil := 0 } s t := by
  refine .of_neg rfl ?_
    (((PonBecomes.refl s).updPon fun x => { x with defects := setBit x.defects 6 true, benUntil := 0 }).raise ..)
  rintro (hr | ⟨h3, -⟩)
  · exact Bool.eq_false_iff.1 h hr
  · omega

/-! ### Time of day, automatic mode and watchful sleep -/

theorem todWaitTimeout_ends {r : Nat × Nat × Nat} (h : s.pon.tod = some r) :
    Answers .todWaitTimeout s fun t => PonBecomes { s.pon with tod := none } s t := by
  have e : exec .todWaitTimeout s = .next (raise Ev.ponTodMissed 0 r.1 (updPon (fun x => { x with tod := none }) s)) := by
    change execTodWaitTimeout s = _
    rw [execTodWaitTimeout, h]
  exact .of_eq e (((PonBecomes.refl s).updPon fun x => { x with tod := none }).raise ..)

/-- Automatic mode listens for the other of the rates that the device is capable of (R289). -/
theorem autoDwellExpiry_alternates (hm : s.par Prm.ponMode 0 = 4) (hl : s.pon.locked = false) (hs : s.pon.sync = .hunt) :
    Answers .autoDwellExpiry s fun t => t.pon.tuned = (if s.pon.tuned = 1 ∧ ponCapable 3 = true then 3
        else if s.pon.tuned ≠ 1 ∧ ponCapable 1 = true then 1 else s.pon.tuned) ∧ t.pon.sync = .hunt ∧ t.pon.st = s.pon.st ∧
      t.evt = s.evt ∧ Mail { s with pon := t.pon } t := by
  have hy : s.ponSynced = false := by simp [State.ponSynced, hs]
  have hv : (if s.pon.tuned = 1 ∧ ponCapable 3 = true then 3 else if s.pon.tuned ≠ 1 ∧ ponCapable 1 = true then 1 else s.pon.tuned) =
      if ponCapable (if s.pon.tuned = 1 then 3 else 1) = true then (if s.pon.tuned = 1 then 3 else 1) else s.pon.tuned := by
    by_cases ht : s.pon.tuned = 1 <;> simp [ht]
  rw [hv]
  by_cases hc : ponCapable (if s.pon.tuned = 1 then 3 else 1) = true
  · refine .of_pos rfl ⟨hm, by simp [hl], by simp [hy], hc⟩ ?_
    rw [ponHunt_unsynced hy]
    exact ⟨(if_pos hc).symm, rfl, rfl, rfl, .refl _⟩
  · exact .of_neg rfl (fun h => hc h.2.2.2) ⟨(if_neg hc).symm, hs, rfl, rfl, .refl _⟩

section
variable (hp : s.par Prm.ponPsEnable 0 = 1) (h51 : s.pon.st = .o51)
include hp h51

/-- The intervals of watchful sleep run in O5.1 with power saving on (R320). -/
theorem not_psIntervals_off : ¬(s.par Prm.ponPsEnable 0 = 0 ∨ s.pon.st ≠ .o51) := by
  simp [hp, h51]

theorem psIntervalExpiry_hold (hw : s.pon.watch = .activeHeld) (ha : s.pon.allow = true) :
    exec (.psIntervalExpiry 0) s = .next (setWatch .activeFree s) := by
  change execPsIntervalExpiry 0 s = _
  unfold execPsIntervalExpiry
  rw [if_neg (not_psIntervals_off hp h51), hw]
  exact congrArg Host.Outcome.next (if_pos ha)

theorem psIntervalExpiry_aware (hw : s.pon.watch = .activeFree) (hs : s.ponStimulus = false) :
    exec (.psIntervalExpiry 1) s = .next (sendPloam (.sleepRequest true) (setWatch .lowPower s)) := by
  change execPsIntervalExpiry 1 s = _
  unfold execPsIntervalExpiry
  rw [if_neg (not_psIntervals_off hp h51), hw]
  exact congrArg Host.Outcome.next (if_neg (by simp [hs]))

theorem psIntervalExpiry_lowPower (hw : s.pon.watch = .lowPower) :
    exec (.psIntervalExpiry 2) s = .next (setWatch .aware s) := by
  change execPsIntervalExpiry 2 s = _
  unfold execPsIntervalExpiry
  rw [if_neg (not_psIntervals_off hp h51), hw]
  rfl

end

/-! ### Optics supervision -/

theorem ddmCheck_unlimited {d : DdmRead} (h : d.limits = []) (i : Nat) (s : State) : ddmCheck d i s =
    updPon (fun x => { x with ddm := { x.ddm with vals := x.ddm.vals.put i (some (ddmValue d i)) } }) s := by
  simp [ddmCheck, h]

/-- The first `n` readings are stored, and without thresholds nothing is raised (R323). -/
theorem foldl_ddmCheck {d : DdmRead} (h : d.limits = []) (s : State) (n : Nat) :
    ∃ v : Tab (Option Nat), (∀ i, i < n → v.get i = some (ddmValue d i)) ∧
      (List.range n).foldl (fun s i => ddmCheck d i s) s = updPon (fun x => { x with ddm := { x.ddm with vals := v } }) s := by
  induction n with
  | zero => exact ⟨s.pon.ddm.vals, fun i hi => absurd hi (Nat.not_lt_zero i), rfl⟩
  | succ n ih =>
    obtain ⟨v, hv, e⟩ := ih
    refine ⟨v.put n (some (ddmValue d n)), fun i hi => ?_, ?_⟩
    · rw [Tab.get_put]
      split
      next hn => rw [hn]
      next hn => exact hv i (by omega)
    · rw [List.range_succ, List.foldl_append, e]
      exact ddmCheck_unlimited h n _

theorem ddmPoll_reads {d : DdmRead} (hp : s.par Prm.ponDdmPeriodMs 0 ≠ 0) (hl : d.limits = []) :
    Answers (.ddmPoll (some d)) s fun t => ∃ v : Tab (Option Nat), (∀ i, i < 5 → v.get i = some (ddmValue d i)) ∧
      t = updPon (fun x => { x with ddm := { x.ddm with fails := 0, vals := v } }) s := by
  obtain ⟨v, hv, e⟩ := foldl_ddmCheck hl (updPon (fun x => { x with ddm := { x.ddm with fails := 0 } }) s) 5
  exact .of_neg rfl hp ⟨v, hv, e⟩

theorem ddmPoll_fails (hp : s.par Prm.ponDdmPeriodMs 0 ≠ 0) (hf : s.pon.ddm.fails = 2) : Answers (.ddmPoll none) s fun t =>
    PonBecomes { s.pon with ddm := { s.pon.ddm with fails := 3, vals := [] } } s t :=
  .of_neg rfl hp (by
    simp only [hf]
    exact ((PonBecomes.refl s).updPon fun x => { x with ddm := { x.ddm with fails := 3, vals := [] } }).raise ..)

/-! ### The latch of the second -/

/-- A latch moves at most the bits of the defects (R321). -/
theorem PonBecomes.latchDefect (h : PonBecomes x s t) (b : Nat) (e : EvDef) (bad clear : Bool) (run : Nat) :
    ∃ d, PonBecomes { x with defects := d } s (latchDefect b e bad clear run t).2 := by
  unfold Machine.latchDefect
  split
  · exact ⟨_, h.ponDefect b e true⟩
  · extract_lets n
    dsimp only
    split
    · exact ⟨_, h.ponDefect b e false⟩
    · exact ⟨x.defects, h⟩

/-- The grants of the second that has ended (Table 10-6). -/
def PonAlloc.latched (a : PonAlloc) : PonAlloc := { a with sec := a.run, run := 0 }

theorem get_latched {v : Tab PonAlloc} {i : Nat} (h : (v.get i).used = true) : (Tab.mapV PonAlloc.latched v).get i = (v.get i).latched := by
  refine Tab.get_mapV_of_ne rfl fun e => ?_
  have hu : (v.get i).used = false := congrArg PonAlloc.used e
  rw [h] at hu
  cases hu

/-- The counts of the second that has ended, of the terminal and of its Alloc-IDs (R322). -/
def Pon.latched (x : Pon) : Pon :=
  { x with sec := x.run, run := {}, alloc := Tab.mapV PonAlloc.latched x.alloc }

/-- The terminal with other defects and other runs of latches. -/
def Pon.supervised (x : Pon) (defects sd sf lok : Nat) : Pon :=
  { x with defects := defects, sdRun := sd, sfRun := sf, lokRun := lok }

theorem ponSecondLatch_latches (h : s.power.tbEntry = none) : Answers .ponSecondLatch s fun t =>
    ∃ d n m k, PonBecomes (s.pon.latched.supervised d n m k) s t := by
  refine .of_neg rfl (by simp [h]) ?_
  extract_lets c s1 sd sf sfBad
  have h1 : PonBecomes s.pon.latched s s1 := (PonBecomes.refl s).updPon Pon.latched
  split
  next _ n s2 e2 =>
    obtain ⟨d2, h2⟩ := h1.latchDefect 2 Ev.ponSd (decide (c.rxBits ≤ c.corrBits * 10 ^ sd))
      (decide (c.corrBits * 10 ^ (sd + 1) < c.rxBits)) s1.pon.sdRun
    rw [e2] at h2
    split
    next _ m s3 e3 =>
      obtain ⟨d3, h3⟩ := h2.latchDefect 3 Ev.ponSf sfBad (!sfBad) s2.pon.sfRun
      rw [e3] at h3
      extract_lets lok k s4
      have h4 : PonBecomes (s.pon.latched.supervised d3 n m (if 3 ≤ k then 0 else k)) s s4 :=
        h3.updPon fun x => { x with sdRun := n, sfRun := m, lokRun := if 3 ≤ k then 0 else k }
      split
      · exact ⟨_, _, _, _, h4.ponDefect 4 Ev.ponLok (!lok)⟩
      · exact ⟨_, _, _, _, h4⟩

/-- Settles O44: each clause is the command's lemma above; `PonBecomes` and `ReceiverBecomes` give the terminal afterwards and
the frame. -/
theorem ponSyncAndSupervision : Obligations.PonSyncAndSupervision := by
  unfold Obligations.PonSyncAndSupervision
  intro s kept
  refine ⟨fun sfc corr uncorr he hm hl hs => ⟨fun h => ?_, fun errs h herr hc h0 ho ht hp htod => ?_, fun errs h herr hb h51 => ?_⟩,
    ponLosChange_held, fun level hb h => ?_, fun level h => ?_, fun cause h hc => ?_, fun r h => ?_,
    autoDwellExpiry_alternates, fun hp h51 hst => ⟨fun hw ha => ?_, fun hw => ?_, fun hw => ?_⟩, fun d hp hcal hl => ?_,
    fun hp hf => ?_, fun h => ?_⟩
  · exact .of_eq (ponDsFrame_hunt hm hl hs h) ⟨rfl, rfl, rfl, rfl, .refl _⟩
  · have e := frameStart_idle (s := updPon Pon.synced s) h0 ho ht hp htod sfc corr uncorr he
    exact .of_eq ((ponDsFrame_good hm hl hs h herr hc).trans (congrArg _ e)) ⟨rfl, rfl, rfl, rfl, rfl, rfl, rfl, rfl, rfl, .refl _⟩
  · have k := ((PonBecomes.refl s).updPon Pon.missed).trans (ponHunt_suspends (s := updPon Pon.missed s) rfl h51)
    refine .of_eq (ponDsFrame_lost hm hl hs h herr hb) ⟨?_, ?_, ?_, ?_, ?_, ?_, k.kept⟩ <;> rw [k.pon]
    · rfl
    · rfl
    · rfl
    · rfl
    · rfl
    · exact (testBit_setBit _ 1 1 true).trans (if_pos rfl)
  · refine (txFaultChange_fault hb level h).imp fun t k => ?_
    have hd : t.pon.defects.testBit 5 = true := by rw [k.pon, testBit_setBit, if_pos rfl]
    exact ⟨by rw [k.pon], hd, ponBen_idle (by rw [k.pon]), ponTxOff_of_defect (.inr hd), by rw [k.pon], k.kept⟩
  · refine (txFaultChange_clear level h).imp fun t k => ?_
    exact ⟨by rw [k.pon, testBit_setBit, if_pos rfl], by rw [k.pon], by rw [k.pon], k.kept⟩
  · refine (rogueDetect_stops h hc).imp fun t k => ?_
    have hd : t.pon.defects.testBit 6 = true := by rw [k.pon, testBit_setBit, if_pos rfl]
    exact ⟨hd, ponTxOff_of_defect (.inl hd), ponBen_idle (by rw [k.pon]), by rw [k.pon], k.kept⟩
  · exact (todWaitTimeout_ends h).imp fun t k => ⟨by rw [k.pon], by rw [k.pon], k.kept⟩
  · exact .of_eq (psIntervalExpiry_hold hp h51 hw ha) ⟨rfl, rfl, .refl _⟩
  · exact .of_eq (psIntervalExpiry_aware hp h51 hw hst) ⟨rfl, rfl, .refl _⟩
  · exact .of_eq (psIntervalExpiry_lowPower hp h51 hw) ⟨rfl, rfl, .refl _⟩
  · refine (ddmPoll_reads hp hl).imp fun t ⟨v, hv, e⟩ => ?_
    subst e
    exact ⟨rfl, fun i hi => (hv i hi).trans (by simp [ddmValue, hcal]), rfl, rfl, .refl _⟩
  · exact (ddmPoll_fails hp hf).imp fun t k => ⟨by rw [k.pon], fun i => by rw [k.pon]; rfl, by rw [k.pon], k.kept⟩
  · refine (ponSecondLatch_latches h).imp fun t ⟨d, n, m, l, k⟩ => ?_
    refine ⟨by rw [k.pon]; rfl, by rw [k.pon]; rfl, fun i hi => ?_, by rw [k.pon]; rfl, k.kept⟩
    have ha : t.pon.alloc.get i = (s.pon.alloc.get i).latched := by
      rw [k.pon]
      exact get_latched hi
    rw [ha]
    exact ⟨rfl, rfl, rfl⟩

end Sys2Proof.Machine
end
section
/-! ## The data path of the PON terminal -/
namespace Sys2Proof.Machine

variable {s t : State}

theorem updPon_pon (f : Pon → Pon) (s : State) : (updPon f s).pon = f s.pon := rfl

/-! ### XGEM frames -/

section
variable {x : Xgem} (hy : s.ponSynced = true) (hs : s.stopped ⟨1, 0x0B, 0⟩ = false) (hi : x.idle = false)
include hy hs hi

/-- A frame that is no idle frame reaches a terminal that is in sync and runs (R294, R295). -/
theorem not_xgem_ignored : ¬((!s.ponSynced) = true ∨ x.idle = true ∨ s.stopped ⟨1, 0x0B, 0⟩ = true) := by
  simp [hy, hs, hi]

variable (hu : x.uncorr = false)
include hu

/-- The last fragment for a port that is not the terminal's is counted (R295). -/
theorem xgemFrameRx_unknown (hn : s.xgemDown x.port = none) (hl : x.last = true) :
    exec (.xgemFrameRx x) s = .next (bump Prm.ponUnknownPort 0 (putSdu x.port {} s)) := by
  change execXgemFrameRx x s = _
  unfold execXgemFrameRx
  rw [if_neg (not_xgem_ignored hy hs hi), if_neg (Bool.eq_false_iff.1 hu), hn]
  exact congrArg Host.Outcome.next (if_pos hl)

/-- A clear fragment of an SDU under reassembly is kept (R295). -/
theorem xgemFrameRx_fragment {i : Nat} (hf : x.full = false) (hk : x.key = 0) (hb : (s.pon.sdu.get x.port).bad = false)
    (hd : s.xgemDown x.port = some i) (hc : bits (s.entryNat Tbl.ponXgem 0 i) 27 26 = 0) (hl : x.last = false)
    (ho : (s.pon.sdu.get x.port).open_ = true) (hlen : (s.pon.sdu.get x.port).data.length + x.data.length ≤ 16384) :
    exec (.xgemFrameRx x) s =
      .next (putSdu x.port { open_ := true, data := (s.pon.sdu.get x.port).data ++ x.data } s) := by
  change execXgemFrameRx x s = _
  unfold execXgemFrameRx
  rw [if_neg (not_xgem_ignored hy hs hi), if_neg (Bool.eq_false_iff.1 hu), hd]
  simp [hc, hk, hf, State.ponSdu, hb, ho, hl, hlen]

end

theorem putSdu_sdu (port : Nat) (x : XgemSdu) (s : State) : (putSdu port x s).pon.sdu.get port = x ∧
    ∀ p, p ≠ port → (putSdu port x s).pon.sdu.get p = s.pon.sdu.get p :=
  ⟨Tab.get_put_same s.pon.sdu port x, fun p hp => Tab.get_put_ne s.pon.sdu port p x hp.symm⟩

/-! ### Grants -/

/-- The burst of a grant with neither PLOAMu nor DBRu (R302, R303). -/
def grantBurst (m : Allocation) (i us : Nat) : PonBurst :=
  { us := us, start := m.start, stop := m.stop, profile := m.profile, ploamu := false
    slots := [{ index := i, payload := m.size, dbru := false }] }

/-- The terminal has scheduled the burst of a grant, and counted the grant at its Alloc-ID's index (R302, Table 10-6). -/
def Pon.granted (x : Pon) (m : Allocation) (i us : Nat) : Pon := { x with
  alloc := x.alloc.upd i fun a => { a with run := satAdd 32 a.run 1 }
  bursts := x.bursts ++ [grantBurst m i us] }

theorem granted_run (x : Pon) (m : Allocation) (i us : Nat) :
    ((x.granted m i us).alloc.get i).run = satAdd 32 (x.alloc.get i).run 1 := by
  simp [Pon.granted]

/-- The first grant of an index is reported and predicts nothing (R233, R311). -/
theorem reportGrant_first {i : Nat} (h : s.wlan.grants.get i = []) (start n : Nat) (place : List (Nat × Nat)) :
    (reportGrant i start n place s).wlan.grants.get i = [(start, n)] ∧ (reportGrant i start n place s).pon = s.pon ∧
      Mail { s with wlan := (reportGrant i start n place s).wlan, cvn := (reportGrant i start n place s).cvn }
        (reportGrant i start n place s) := by
  have hg : [(start, n)] = ((s.wlan.grants.get i ++ [(start, n)]).drop ((s.wlan.grants.get i ++ [(start, n)]).length - 3)) := by
    rw [h]
    rfl
  unfold reportGrant
  extract_lets _ v all last
  change [(start, n)] = last at hg
  clear_value last
  subst hg
  exact ⟨Tab.get_put_same s.wlan.grants i [(start, n)], rfl, by constructor <;> rfl⟩

theorem bwmapAllocation_grants {m : Allocation} {i : Nat} {p : PonProfile} (hy : s.ponSynced = true) (hs : m.serial = false)
    (hw : m.wake = false) (hpl : m.ploamu = false) (hd : m.dbru = false) (hc : m.chained = false)
    (hi : s.allocIndex m.allocId = some i) (h51 : s.pon.st = .o51) (hwt : s.pon.watch = .activeHeld)
    (hp : s.pon.profile.get m.profile = some p) (hb : s.pon.bursts = []) :
    exec (.bwmapAllocation m []) s = .next (reportGrant i (s.pon.frameAt + 35000 + s.pon.eqd + m.start / 1000) m.size []
      (updPon (fun x => x.granted m i (s.pon.frameAt + 35000 + s.pon.eqd)) s)) := by
  change execBwmapAllocation m [] s = _
  simp [execBwmapAllocation, hy, hs, hi, hw, h51, hwt, hpl, hd, hc, updPon_pon, hp, hb]
  rfl

/-! ### Prefetches and bursts -/

theorem usPrefetch_asks {i : Nat} {b : PonBurst} {x : PonSlot} (hb : s.pon.bursts = [b]) (hx : b.slots = [x]) (hi : x.index = i)
    (hw : x.wanted = none) : exec (.usPrefetch i) s =
      .next (updPon (fun p => { p with bursts := [{ b with slots := [{ x with wanted := some x.payload }] }] }) s) := by
  change execUsPrefetch i s = _
  simp [execUsPrefetch, updPon, hb, markBursts, hx, markWanted, hi, hw]

/-- The first `n` bytes of an SDU in a clear XGEM frame that is not its last (R305). -/
def PonSdu.fragment (u : PonSdu) (n : Nat) : XgemOut := { port := u.port, key := 0, last := false, data := u.left.take n }

/-- What waits of an SDU after `n` bytes. -/
def PonSdu.after (u : PonSdu) (n : Nat) : PonSdu := { u with left := u.left.drop n }

theorem xgemSeal_clear (s : State) (port : Nat) (d : List Byte) : s.xgemSeal port 0 d = (0, d) := if_pos (.inl rfl)

/-- An SDU that does not fit is fragmented (R305). -/
theorem fillSlot_fragment {u : PonSdu} {room : Nat} (hr : 12 ≤ room) (hl : room - 8 < u.left.length) (hu : u.secure = false) :
    fillSlot s.xgemSeal [u] room = ([u.fragment (room - 8)], [u.after (room - 8)], []) := by
  have hn : min u.left.length (room - 8) = room - 8 := Nat.min_eq_right hl.le
  have hk : s.xgemSeal u.port (b2n u.secure) (u.left.take (room - 8)) = (0, u.left.take (room - 8)) := by
    rw [hu]
    exact xgemSeal_clear ..
  unfold fillSlot
  rw [if_neg (Nat.not_lt.2 hr), hn]
  dsimp only
  rw [hk]
  exact if_neg hl.ne

/-- The load of the fibre counts upstream bytes (R458). -/
def countCarried (n : Nat) (s : State) : State := { s with cvn := { s.cvn with carried := s.cvn.carried + n } }

theorem countCarried_evt (n : Nat) (s : State) : (countCarried n s).evt = s.evt := rfl

/-- An allocation without DBRu carries a fragment of the one SDU that waits, and the load counts its bytes (R305, R458). -/
theorem sendSlot_fragment {x : PonSlot} {u : PonSdu} (hd : x.dbru = false) (hf : s.pon.fifo.get x.index = [u]) (hu : u.secure = false)
    (hr : 12 ≤ x.payload) (hl : x.payload - 8 < u.left.length) :
    sendSlot x false s = ((x.index, none, [u.fragment (x.payload - 8)]),
      updPon (fun p => { p with fifo := p.fifo.put x.index [u.after (x.payload - 8)] })
        (countCarried (u.fragment (x.payload - 8)).data.length s)) := by
  simp [sendSlot, countCarried, hd, hf, fillSlot_fragment hr hl hu]

theorem PonBecomes.countCarried {y : Pon} (h : PonBecomes y s t) (n : Nat) :
    PonBecomes y (countCarried n s) (countCarried n t) where
  rest := { h.rest with cvn := congrArg (fun c : Caravan => { c with carried := c.carried + n }) h.rest.cvn }
  polarity := h.polarity

theorem PonBecomes.bump {y : Pon} (h : PonBecomes y s t) {p : ParamDef} (hp : p.id ≠ Prm.ponPinPolarity.id) :
    PonBecomes y s (bump p 0 t) := by
  refine h.trans ⟨{ bump_mail p 0 t with pon := (bump_pon ..).trans h.pon }, ?_⟩
  have e : (Machine.bump p 0 t).com Prm.ponPinPolarity 0 = t.com Prm.ponPinPolarity 0 := com_bumpBy_ne hp 0 1 t
  simp only [State.parN, State.par, e]
  rfl

theorem PonBecomes.ponFault {y : Pon} (h : PonBecomes y s t) (hy : y.faultPin = s.pon.faultPin) : t.ponFault = s.ponFault := by
  rw [State.ponFault, State.ponFault, h.pon, hy, h.polarity]

/-- The oldest burst begins, and PON_BEN is active up to `until_` (R302). -/
def Pon.bursting (y : Pon) (rest : List PonBurst) (until_ : Nat) : Pon := { y with bursts := rest, benUntil := until_ }

/-- What goes out for a burst with neither a serial number nor PLOAMu (R303). -/
def Pon.burstOut (y : Pon) (b : PonBurst) (p : PonProfile) (o : Nat × Option Nat × List XgemOut) : BurstOut :=
  { us := b.us, start := b.start, profile := p, onuId := y.onuId, dyingGasp := y.dyingGasp, ploamu := none, allocs := [o] }

/-- An allocation has carried a fragment of the one SDU that waits at its index (R305). -/
def Pon.drained (y : Pon) (x : PonSlot) (u : PonSdu) : Pon := { y with fifo := y.fifo.put x.index [u.after (x.payload - 8)] }

/-- A burst has gone out. -/
def Pon.burstSent (y : Pon) (b : PonBurst) (p : PonProfile) (o : Nat × Option Nat × List XgemOut) : Pon :=
  { y with sent := y.sent ++ [y.burstOut b p o] }

/-- The end of a burst whose one allocation has been sent. -/
def endBurst (b : PonBurst) (p : PonProfile) (r : (Nat × Option Nat × List XgemOut) × State) : State :=
  let s := bump Prm.ponBursts 0 (updPon (fun y => { y with sent := y.sent ++ [r.2.pon.burstOut b p r.1] }) r.2)
  if s.ponFault then ponDefect 5 Ev.ponTf true s else s

section
variable {b : PonBurst} {rest : List PonBurst} {p : PonProfile} {x : PonSlot}

/-- A burst of one allocation is the start of the burst, the allocation and the end of the burst (R302, R303). -/
theorem exec_burstStart_one (hb : s.pon.bursts = b :: rest) (hp : s.pon.profile.get b.profile = some p) (hoff : s.ponTxOff = false)
    (hw : s.pon.watch = .activeHeld) (hs : s.stopped ⟨1, 0x0B, 0⟩ = false) (hser : b.serial = false) (hpl : b.ploamu = false)
    (hx : b.slots = [x]) : exec (.burstStart []) s = .next (endBurst b p
      (sendSlot x false (updPon (·.bursting rest (b.us + b.stop / 1000 + s.parN Prm.ponBenLagNs 0)) s))) := by
  refine congrArg Host.Outcome.next ?_
  split
  next h => cases hb.symm.trans h
  next b' rest' h =>
  obtain ⟨rfl, rfl⟩ : b = b' ∧ rest = rest' := by simpa [hb] using h
  extract_lets s1 s2
  have hgo : ¬(s1.ponTxOff = true ∨ s1.pon.watch = .lowPower ∨ s1.stopped ⟨1, 0x0B, 0⟩ = true) := by
    rintro (h | h | h)
    · exact Bool.eq_false_iff.1 hoff h
    · cases hw.symm.trans h
    · exact Bool.eq_false_iff.1 hs h
  split
  next h => cases hp.symm.trans h
  next p' h =>
  obtain rfl : p = p' := Option.some.inj (hp.symm.trans h)
  have h2 : s2 = updPon (·.bursting rest (b.us + b.stop / 1000 + s.parN Prm.ponBenLagNs 0)) s := rfl
  rw [if_neg hgo, ← h2]
  clear_value s2
  simp only [hser, hpl, hx, Bool.false_eq_true, if_false, Bool.not_false, if_true, List.zipIdx_cons, List.zipIdx_nil, List.foldl_cons,
    List.foldl_nil, List.contains_nil, List.any_nil, Option.getD_none, List.nil_append]
  rfl

/-- Without a fault of the transmitter the end of a burst only counts it and keeps what went out. -/
theorem endBurst_sends {y : Pon} (k : PonBecomes y s t) (hy : y.faultPin = s.pon.faultPin) (hf : s.ponFault = false)
    (o : Nat × Option Nat × List XgemOut) : (endBurst b p (o, t)).evt = t.evt ∧
      PonBecomes (y.burstSent b p o) s (endBurst b p (o, t)) := by
  have h := (k.updPon fun z => { z with sent := z.sent ++ [y.burstOut b p o] }).bump (p := Prm.ponBursts) (by decide)
  unfold endBurst
  dsimp only
  rw [k.pon, if_neg (by rw [h.ponFault hy]; exact Bool.eq_false_iff.1 hf)]
  exact ⟨rfl, h⟩

/-- The oldest burst goes out with a fragment of the one SDU that waits in its one allocation (R303, R305). -/
theorem burstStart_sends {u : PonSdu} (hb : s.pon.bursts = b :: rest) (hp : s.pon.profile.get b.profile = some p)
    (hoff : s.ponTxOff = false) (hw : s.pon.watch = .activeHeld) (hs : s.stopped ⟨1, 0x0B, 0⟩ = false) (hser : b.serial = false)
    (hpl : b.ploamu = false) (hx : b.slots = [x]) (hd : x.dbru = false) (hf : s.pon.fifo.get x.index = [u]) (hu : u.secure = false)
    (hr : 12 ≤ x.payload) (hl : x.payload - 8 < u.left.length) (hft : s.ponFault = false) :
    Answers (.burstStart []) s fun t => t.evt = s.evt ∧
      PonBecomes (((s.pon.bursting rest (b.us + b.stop / 1000 + s.parN Prm.ponBenLagNs 0)).drained x u).burstSent b p
        (x.index, none, [u.fragment (x.payload - 8)])) (countCarried (u.fragment (x.payload - 8)).data.length s) t := by
  have k := (((PonBecomes.refl s).updPon (·.bursting rest (b.us + b.stop / 1000 + s.parN Prm.ponBenLagNs 0))).countCarried
    (u.fragment (x.payload - 8)).data.length).updPon (·.drained x u)
  have hf' : (updPon (·.bursting rest (b.us + b.stop / 1000 + s.parN Prm.ponBenLagNs 0)) s).pon.fifo.get x.index = [u] := hf
  refine .of_eq (exec_burstStart_one hb hp hoff hw hs hser hpl hx) ?_
  rw [sendSlot_fragment hd hf' hu hr hl]
  obtain ⟨he, h⟩ := endBurst_sends (b := b) (p := p) k rfl hft (x.index, none, [u.fragment (x.payload - 8)])
  exact ⟨he.trans (by rw [updPon_evt, countCarried_evt, updPon_evt]), h⟩

end

/-- Settles O45: each clause is the command's lemma above. -/
theorem ponDataMoves : Obligations.PonDataMoves := by
  unfold Obligations.PonDataMoves
  refine fun s => ⟨fun x hy hs hi hu hf hk hb => ⟨fun hn hl => ?_, fun i hd hc hl ho hlen => ?_⟩,
    fun m i p hy hs hw hpl hd hc hi h51 hwt hp hb hg => ?_, fun i b x hb hx hi hw => ?_,
    fun b rest p x u hb hp hoff hw hs hser hpl hx hd hf hu hr hl hft => ?_⟩
  · obtain ⟨hx, hne⟩ := putSdu_sdu x.port {} s
    exact .of_eq (xgemFrameRx_unknown hy hs hi hu hn hl) ⟨hx, hne, rfl, bump_mail Prm.ponUnknownPort 0 (putSdu x.port {} s)⟩
  · obtain ⟨hx, hne⟩ := putSdu_sdu x.port { open_ := true, data := (s.pon.sdu.get x.port).data ++ x.data } s
    exact .of_eq (xgemFrameRx_fragment hy hs hi hu hf hk hb hd hc hl ho hlen) ⟨hx, hne, rfl, rfl, .refl _⟩
  · refine .of_eq (bwmapAllocation_grants hy hs hw hpl hd hc hi h51 hwt hp hb) ?_
    obtain ⟨hg', hpon, hm⟩ := reportGrant_first (s := updPon (·.granted m i (s.pon.frameAt + 35000 + s.pon.eqd)) s) hg
      (s.pon.frameAt + 35000 + s.pon.eqd + m.start / 1000) m.size []
    refine ⟨?_, ?_, hg', ?_, { hm with pon := rfl }⟩ <;> rw [hpon]
    · exact congrArg (· ++ _) hb
    · exact granted_run s.pon m i _
    · rfl
  · exact .of_eq (usPrefetch_asks hb hx hi hw) ⟨rfl, rfl, rfl⟩
  · refine (burstStart_sends hb hp hoff hw hs hser hpl hx hd hf hu hr hl hft).imp fun t ⟨he, k⟩ => ?_
    have hsent : t.pon.sent = s.pon.sent ++ [s.pon.burstOut b p (x.index, none, [u.fragment (x.payload - 8)])] := by
      rw [k.pon]
      rfl
    refine ⟨by rw [k.pon]; rfl, by simp [hsent], by simp [hsent], by simp [hsent, Pon.burstOut],
      by simp [hsent, Pon.burstOut, PonSdu.fragment], ?_, by rw [k.pon]; rfl, k.rest.pkt, he, { k.rest with pon := rfl, cvn := rfl }⟩
    rw [k.pon]
    exact Tab.get_put_same s.pon.fifo x.index [u.after (x.payload - 8)]

end Sys2Proof.Machine
end
